-- ==== Sys2Proof/Word.lean ====
section
/-! DEFINITION. The plain data every file shares: bytes, 64-bit words and the sparse array `Arr`. -/

namespace Sys2Proof

/-- One byte is 8 bits (R4, spec/00_scope.md). -/
abbrev Byte := BitVec 8

/-- A 64-bit register or record. -/
abbrev Word := BitVec 64

/-- An array of like things, held sparsely: index and contents, indexes strictly rising, and no entry
that equals what an unlisted index reads as. -/
abbrev Arr (α : Type) := List (Nat × α)

end Sys2Proof
end

