-- ==== Sys2Proof/Syntax.lean ====
section
/-! DEFINITION. The commands of the block: one constructor of `Instr` per row of spec/opcode_table.json, and the
operand types they carry. -/

namespace Sys2Proof

/-- Where a Slait command came from (R346 ORIGIN, R354, R399; spec/14_commands.md): a host ring with its PCIe function
and the index of its submit entry, another device on the Slait ring, or the twin over the Colonnade. -/
inductive Origin where
  | host (ring func entry : Nat)
  | slait (dev : Nat)
  | colonnade (txn : Nat)
deriving DecidableEq, Repr

/-- A target epoch as a commit names it (R20): 0 for none, and whether OK depends on meeting it. -/
structure EpochName where
  epoch : Nat
  required : Bool
deriving DecidableEq, Repr

/-- The command header of R343 with the capacity of the submit entry (R340) beside it. `sizeOk` says that LENGTH lies
within the parameter size of the opcode (step 3 of R348); the parameters themselves are the command's own operands. -/
structure Hdr where
  origin : Origin
  verMajor : Nat
  verMinor : Nat
  twin : Bool
  group : Bool
  notify : Bool
  reservedZero : Bool
  target : Nat
  tag : Nat
  len : Nat
  cmdLen : Nat
  sizeOk : Bool
  groupId : Nat
  replyLen : Nat
deriving DecidableEq, Repr

/-- A frame as it arrives at a port: its bytes on the wire without the FCS, SecTAG and ICV among them (R3), what the FCS and
the link say of it, the RS-FEC codewords that could not and could be corrected (R58), and how many picoseconds ago
its first bit crossed the PCS (R270). -/
structure RxFrame where
  bytes : List Byte
  fcsOk : Bool
  fecBad : Nat
  fecFixed : Nat
  truncated : Bool
  pcsPs : Nat
deriving DecidableEq, Repr

/-- Length of a frame by R3: with its FCS. -/
def RxFrame.wireLen (f : RxFrame) : Nat := f.bytes.length + 4

/-- A received MAC control frame (R63, spec/03_ports.md): opcode, the PFC enable bits, one quanta value per priority
(entry 0 for a pause frame), its FCS, its length and its destination type (0 unicast, 1 multicast, 2 broadcast), the RS-FEC codewords since the
report before, and whether the raw link's fall cut it. -/
structure MacCtl where
  opcode : Nat
  enables : BitVec 8
  quanta : List Nat
  fcsOk : Bool
  len : Nat
  cast : Nat
  fecBad : Nat
  fecFixed : Nat
  truncated : Bool
deriving DecidableEq, Repr

/-- The outcome of one Trellis transfer (R243, spec/10_trellis.md). -/
inductive XferErr where
  | good | corrected | ueData | ueHeader
deriving DecidableEq, Repr

/-- What one ECC-protected read found (R431 to R434, spec/17_faults.md). -/
inductive EccErr where
  | good | corrected | uncorrectable
deriving DecidableEq, Repr

/-- The readings taken at an epoch boundary: hottest junction sensor in °C (R443), the epoch's average power of the lane
rails and of the other measured rails in watts (R448), and the epoch's energy in microjoules (R456). -/
structure Readings where
  tj : Nat
  laneW : Nat
  restW : Nat
  microJ : Nat
deriving DecidableEq, Repr

/-- A lookaside message (R96, spec/04_link_cipher.md). -/
structure LaMsg where
  id : Nat
  ctx : Nat
  prio : Nat
  blocks : Nat
deriving DecidableEq, Repr

/-- A transmit descriptor of R364 with the frame it points at. -/
structure TxDesc where
  bytes : List Byte
  len : Nat
  mode : Nat
  tsReq : Bool
  oneStep : Bool
  ltValid : Bool
  reservedZero : Bool
  port : Nat
  queue : Nat
  cookie : Nat
  ltSec : Nat
  ltNs : Nat
deriving DecidableEq, Repr

/-- A TIME message of the twin: its own stamps of this message and of the last it received, in 0.5 ns of its TD0, and how many
picoseconds ago this one crossed the Colonnade's PCS (R281, spec/11_time.md). -/
structure TimePair where
  leadTx : Nat
  leadRx : Nat
  pcsPs : Nat
deriving DecidableEq, Repr

/-- A boundary of the LEAD: its epoch's number, and the LEAD's TD0 at it in 2^-16 ns (R282, spec/11_time.md). -/
structure EpochMark where
  epoch : Nat
  td0 : Nat
deriving DecidableEq, Repr

/-- What a relayed reply carries beside its status, RESULT and LOGGED_ADDRESS: DETAIL, the STATE of the device that executed the command,
and the bytes of the longer result (R344, spec/14_commands.md). -/
structure ReplyRest where
  detail : Nat
  state : Nat
  result : List Byte
deriving DecidableEq, Repr

/-- A read of BAR0: its byte offset, and whether it is one of 64 bits rather than of 32 (R8, R506). -/
structure BarRead where
  offset : Nat
  wide : Bool
deriving DecidableEq, Repr

/-- A Colonnade frame's clear fields (R393, spec/16_twin_ring.md). -/
structure ColHdr where
  type : Nat
  keyNo : Nat
  retransmit : Bool
  len : Nat
  seq : Nat
  ack : Nat
  txn : Nat
  epoch : Nat
deriving DecidableEq, Repr

/-- The peer's Colonnade HELLO (R395, R396): its offered versions, firmware major version, identity hash, whether its
signature verified, and whether it is in compatibility mode (R26). -/
structure ColHello where
  v20 : Bool
  v21 : Bool
  fwMajor : Nat
  idHash : BitVec 384
  sigOk : Bool
  compat : Bool
deriving DecidableEq, Repr

/-- A Slait ring frame's fields (R407). -/
structure RingFrame where
  dest : Nat
  src : Nat
  type : Nat
  hops : Nat
  segment : Nat
  last : Bool
  payload : List Byte
deriving DecidableEq, Repr

/-- One ENUM_REPLY (R408): strap ID, identity hash, state, role, twin's ID, hops east and west, a root strap. -/
structure EnumReply where
  id : Nat
  idHash : BitVec 384
  state : Nat
  role : Nat
  twinId : Nat
  east : Nat
  west : Nat
  root : Bool
deriving DecidableEq, Repr

/-- The 16-byte throttle body of R326 with the epoch of the change (R451). -/
structure ThrottleNote where
  newOp : Nat
  oldOp : Nat
  cause : Nat
  capW : Nat
  measuredW : Nat
  epoch : Nat
deriving DecidableEq, Repr

/-- A signed image as the device has read it (R465, spec/19_security.md): its header, the digests of the keys named and of
the body, and whether each signature verifies. -/
structure ImageHdr where
  formatOk : Bool
  kind : Nat
  svn : Nat
  imageSeq : Nat
  version : BitVec 32
  ecdsaSlot : Nat
  lmsSlot : Nat
  bodyDigest : BitVec 384
  ecdsaPubHash : BitVec 384
  hssPubHash : BitVec 384
  bodyHash : BitVec 384
  ecdsaOk : Bool
  hssOk : Bool
  body : List Byte
deriving DecidableEq, Repr

/-- The body of a firmware image: the base microcode's bytes, version, words and entry table (R374, R388, R473), and the
default parse program (R105, R108). -/
structure FirmwareBody where
  micro : List Byte
  baseVersion : Nat
  microwords : List (BitVec 256)
  entryTable : List Nat
  program : List (BitVec 128)
deriving DecidableEq, Repr, Inhabited

/-- The body of an Armature patch image (R386, spec/15_armature.md). -/
structure PatchBody where
  baseVersion : Nat
  level : Nat
  words : List (BitVec 256)
  traps : List (Nat × Nat)
  entries : List (Nat × Nat)
deriving DecidableEq, Repr, Inhabited

/-- One edit operation of R123 (spec/05_parser_rules.md). -/
inductive EditOp where
  | popVlan
  | pushVlan (tpid tci : BitVec 16) (pcpFromTc : Bool)
  | setVid (vid : BitVec 12)
  | popMpls
  | pushMpls (label : BitVec 20)
  | swapMpls (label : BitVec 20)
  | decTtl
  | setDscp (dscp : BitVec 6)
  | setMac
  | encap (template : Nat)
  | decap (hdrType inst : Nat)
  | ioamTrace
  | ptpCorrect
deriving DecidableEq, Repr

/-- A classification rule record of R114. -/
structure RuleRec where
  dir : Nat
  slot : Nat
  prio : Nat
  rangeVal : BitVec 64
  rangeMask : BitVec 64
  key : BitVec 320
  mask : BitVec 320
  action : BitVec 128
deriving DecidableEq, Repr

/-- One lookup of an exact-match profile set (R153, spec/06_table_store.md). -/
structure EmLookup where
  valid : Bool
  table : Nat
  trigger : Nat
  extracts : List (BitVec 32)
  fwd : Bool
  prio : Nat
  learn : Bool
deriving DecidableEq, Repr

/-- An exact-match profile set (R153). -/
structure EmProf where
  lookups : List EmLookup
  missOp : Nat
  missArg : Nat
deriving DecidableEq, Repr

/-- One lookup of an LPM profile set (R154): the VRF is a constant or the low 12 bits of an extract. -/
structure LpmLookup where
  valid : Bool
  family : Nat
  vrfConst : Option Nat
  vrfExtract : BitVec 32
  hdr : Nat
  inst : Nat
  offset : Nat
  trigger : Nat
  fwd : Bool
  prio : Nat
deriving DecidableEq, Repr

/-- The record of R140 carried by TABLE_CREATE. -/
structure TableRec where
  kind : Nat
  width : Nat
  baseBank : Nat
  bankCount : Nat
  versioned : Nat
  learnEn : Nat
  ageEn : Nat
  seedSet : Nat
  seed0 : BitVec 128
  seed1 : BitVec 128
deriving DecidableEq, Repr

/-- The per-table upkeep record of R181 (spec/07_table_upkeep.md). -/
structure UpkeepRec where
  maxDepth : Nat
  ageExp : Nat
  learnRate : Nat
  learnMove : Nat
  learnTemplate : BitVec 80
  notice : Nat
  noticeQueue : Nat
deriving DecidableEq, Repr

/-- A gate list as GATE_LIST_SET carries it (R299, spec/12_egress.md); `base` is in nanoseconds of the domain. -/
structure GateSpec where
  td : Nat
  base : Nat
  cycle : Nat
  ext : Nat
  gates : List (BitVec 16)
  intervals : List Nat
deriving DecidableEq, Repr

/-- An export stream record of R317 (spec/13_telemetry.md). -/
structure StreamRec where
  en : Nat
  format : Nat
  destKind : Nat
  dest : Nat
  tc : Nat
  da : BitVec 48
  sa : BitVec 48
  etherType : BitVec 16
  template : Nat
  firstQueue : Nat
  lastQueue : Nat
  intervalExp : Nat
  records : Nat
  depthThresh : Nat
  delayThresh : Nat
deriving DecidableEq, Repr

/-- A queue report record of R323. -/
structure ReportRec where
  en : Nat
  stream : Nat
  delayTrig : Nat
  depthTrig : Nat
  gap : Nat
  snapLen : Nat
deriving DecidableEq, Repr

/-- The parameters of SA_INSTALL (R80, spec/04_link_cipher.md). -/
structure SaParams where
  sc : Nat
  dir : Nat
  an : Nat
  wrapped : Bool
  kek : Nat
  key : BitVec 320
  salt : BitVec 96
  ssci : BitVec 32
  pn : Nat
deriving DecidableEq, Repr

/-- The object of a statistics command: which counters it names. -/
structure StatsSel where
  kind : Nat
  index : Nat
  sub : Nat
deriving DecidableEq, Repr

/-- An element of the Trellis (R260): a partition, or a channel of a slice and stage. -/
inductive Element where
  | partition (p : Nat)
  | channel (slice stage chan : Nat)
deriving DecidableEq, Repr

/-- A unit named by UNIT_RETIRE, UNIT_FENCE or UNIT_RESTORE (R425, R429, spec/17_faults.md). -/
inductive UnitRef where
  | pipe (global : Nat)
  | partBank (p b : Nat)
  | tableBank (store bank : Nat)
  | slice (s : Nat)
  | replica (k : Nat)
  | lineEngine (e : Nat)
  | lookaside
  | armEngine (e : Nat)
  | lane (n : Nat)
  | trellis (e : Element)
deriving DecidableEq, Repr

/-- A wrapped lookaside context blob (R97). -/
structure Blob where
  format : Nat
  context : Nat
  kind : Nat
  svn : Nat
  deviceId : BitVec 64
  nonce : BitVec 96
  body : BitVec 768
  tag : BitVec 128
deriving DecidableEq, Repr

/-- The fields of COMPARATOR_SET (R457, spec/18_power.md): which are written, and their values. -/
structure CmpFields where
  domain : Option Nat
  instant : Option Nat
  thresh : Option Nat
  eventEn : Option Bool
  wakeEn : Option Bool
deriving DecidableEq, Repr

/-- The record of TWIN_NOTIFY_SET (R403, spec/16_twin_ring.md). -/
structure NotifyRec where
  en : Nat
  ports : List Nat
  count : Nat
  gap : Nat
  frame : List Byte
deriving DecidableEq, Repr

/-- The RW fields of a reaction-table entry as FAULT_REACTION_SET writes them (R421, spec/17_faults.md). -/
structure ReactFields where
  reaction : Option Nat
  count : Option Nat
  windowMs : Option Nat
  clearS : Option Nat
deriving DecidableEq, Repr

/-- The commands of the block, in the order of spec/opcode_table.json. The Slait commands carry their header `h`. -/
inductive Instr where
  /-- EPOCH_BOUNDARY (R19) -/
  | epochBoundary (r : Readings)
  /-- INGRESS_PIPE_SLOT (R14) -/
  | ingressPipeSlot (pipe : Nat) (ready0 ready1 : Bool)
  /-- PACKET_ENTRY (R191) -/
  | packetEntry (port fid : Nat) (f : RxFrame)
  /-- BANK_CYCLE_SERVE (R136) -/
  | bankCycleServe (store bank : Nat)
  /-- LOOKUP_RESULT (R135) -/
  | lookupResult (req : Nat)
  /-- INGRESS_DECISION (R119) -/
  | ingressDecision (pid : Nat)
  /-- CLOISTER_RETURN (R120) -/
  | cloisterReturn (pid : Nat)
  /-- MAC_RX_FRAME_END (R61) -/
  | macRxFrameEnd (port fid : Nat) (f : RxFrame)
  /-- MAC_CONTROL_FRAME_RX (R63) -/
  | macControlFrameRx (port : Nat) (c : MacCtl)
  /-- PAUSE_TIMER_EXPIRY (R64) -/
  | pauseTimerExpiry (port timer : Nat)
  /-- XOFF_REQUEST (R221) -/
  | xoffRequest (port prio : Nat)
  /-- XOFF_RESEND (R65) -/
  | xoffResend (port prio : Nat)
  /-- ICV_VERDICT (R84) -/
  | icvVerdict (pid : Nat) (ok : Bool)
  /-- TAG_RESOLVE (R192) -/
  | tagResolve (tag : Nat)
  /-- ROLLBACK_ZERO_WRITE (R200) -/
  | rollbackZeroWrite (tag : Nat)
  /-- ROLLBACK_FREE (R199) -/
  | rollbackFree (tag : Nat)
  /-- SPEC_TAG_RETURN (R199) -/
  | specTagReturn (tag : Nat)
  /-- ADMIT_HEAD (R219) -/
  | admitHead (pid : Nat)
  /-- STAGE_A_TRANSFER (R236) -/
  | stageATransfer (slice : Nat) (errs : List (Nat × XferErr))
  /-- FREE_LAND (R213) -/
  | freeLand (part : Nat)
  /-- FREE_LIST_REBUILD_DONE (R230) -/
  | freeListRebuildDone (part bank : Nat)
  /-- HAND_OVER (R292) -/
  | handOver (port : Nat)
  /-- SHAPER_REFILL (R294) -/
  | shaperRefill
  /-- PORT_MATCH (R241) -/
  | portMatch (slice : Nat)
  /-- STAGE_B_READ (R242) -/
  | stageBRead (slice part : Nat) (err : XferErr)
  /-- RESEQ_RELEASE (R244) -/
  | reseqRelease (slice : Nat)
  /-- RESEQ_TIMEOUT (R246) -/
  | reseqTimeout (cid : Nat)
  /-- EGRESS_EDIT (R121) -/
  | egressEdit (cid : Nat)
  /-- MAC_FRAME_START (R309) -/
  | macFrameStart (port : Nat) (pcsPs : Nat)
  /-- TX_FRAME_END (R294) -/
  | txFrameEnd (port : Nat) (sent : Nat)
  /-- CIPHER_BLOCK_MISMATCH (R93) -/
  | cipherBlockMismatch (engine : Nat) (agree : Bool) (obj : Option Nat)
  /-- LA_MESSAGE_REQUEST (R96) -/
  | laMessageRequest (m : LaMsg)
  /-- LA_MESSAGE_COMPLETE (R96) -/
  | laMessageComplete
  /-- LA_PRIORITY_AGE (R96) -/
  | laPriorityAge (id : Nat)
  /-- LANE_CALIBRATION_DONE (R38) -/
  | laneCalibrationDone (tile : Nat) (failed : List Nat)
  /-- LANE_STATE_ADVANCE (R39) -/
  | laneStateAdvance (lane : Nat) (inverted : Bool) (fir : BitVec 64)
  /-- LANE_BRINGUP_TIMEOUT (R39) -/
  | laneBringupTimeout (lane : Nat)
  /-- LANE_LOS (R39) -/
  | laneLos (lane : Nat)
  /-- LANE_CDR_UNLOCK (R49) -/
  | laneCdrUnlock (lane : Nat)
  /-- LANE_AM_LOSS (R49) -/
  | laneAmLoss (lane : Nat)
  /-- LANE_RESTART_HOLDOFF (R50) -/
  | laneRestartHoldoff (lane : Nat)
  /-- LANE_RECOVERED (R50) -/
  | laneRecovered (lane : Nat)
  /-- LANE_ORDER_WINDOW_END (R41) -/
  | laneOrderWindowEnd (octet : Nat) (evidence : List (Nat × Bool))
  /-- LANE_SER_INTERVAL_END (R48) -/
  | laneSerIntervalEnd (lane symErr : Nat)
  /-- EYE_SCAN_POINT_DONE (R44) -/
  | eyeScanPointDone (lane count : Nat)
  /-- AN_RESOLVE (R66) -/
  | anResolve (port : Nat) (partner : List Nat)
  /-- RAW_LINK_CHANGE (R67) -/
  | rawLinkChange (port : Nat) (aligned localFault remoteFault : Bool)
  /-- LINK_DOWN_DEBOUNCE_EXPIRY (R68) -/
  | linkDownDebounceExpiry (port : Nat)
  /-- LINK_UP_DEBOUNCE_EXPIRY (R68) -/
  | linkUpDebounceExpiry (port : Nat)
  /-- PORT_DOWN_POLICY (R310) -/
  | portDownPolicy (port : Nat)
  /-- PORT_HOLD_EXPIRED (R310) -/
  | portHoldExpired (port : Nat)
  /-- PFC_WATCHDOG (R297) -/
  | pfcWatchdog (queue : Nat)
  /-- PFC_WD_RESTORED (R297) -/
  | pfcWdRestored (queue : Nat)
  /-- GATE_TAKEOVER (R301) -/
  | gateTakeover (port : Nat)
  /-- GATE_TRANSITION (R300) -/
  | gateTransition (port : Nat)
  /-- TIME_EVENT_REACH (R267) -/
  | timeEventReach (domain : Nat)
  /-- HOST_WD_EXPIRY (R264) -/
  | hostWdExpiry (domain : Nat)
  /-- HOLD_MAX_EXPIRY (R264) -/
  | holdMaxExpiry (domain : Nat)
  /-- PPS_OUT_EDGE (R277) -/
  | ppsOutEdge (pin : Nat)
  /-- PPS_OUT_EDGE_END (R277) -/
  | ppsOutEdgeEnd (pin : Nat)
  /-- PPS_IN_EDGE (R278) -/
  | ppsInEdge (pin widthNs : Nat)
  /-- PPS_IN_LOST (R278) -/
  | ppsInLost (pin : Nat)
  /-- REF10M_GATE_END (R279) -/
  | ref10mGateEnd (offset : BitVec 32)
  /-- REF10M_LOST (R279) -/
  | ref10mLost
  /-- TIME_SNAPSHOT_CAPTURE (R268) -/
  | timeSnapshotCapture (byWrite byPps : Bool)
  /-- STREAM_INTERVAL_CLOSE (R318) -/
  | streamIntervalClose (stream : Nat)
  /-- EXPORT_PACKET_GENERATE (R318) -/
  | exportPacketGenerate (stream : Nat)
  /-- QUEUE_REPORT_GENERATE (R324) -/
  | queueReportGenerate (queue : Nat)
  /-- RULE_WRITE_LAND (R128) -/
  | ruleWriteLand
  /-- MAQUETTE_COMMIT_ACCEPT (R129) -/
  | maquetteCommitAccept
  /-- TURNSTILE_GRANT (R165) -/
  | turnstileGrant (store bank : Nat) (writeBack : Bool)
  /-- STASH_WRITE (R175) -/
  | stashWrite (table : Nat)
  /-- STASH_REINSERT_PERIOD (R175) -/
  | stashReinsertPeriod (table : Nat)
  /-- PATINA_PASS_START (R178) -/
  | patinaPassStart (table : Nat)
  /-- LEARN_SERVICE (R177) -/
  | learnService
  /-- SCRUB_READ (R186) -/
  | scrubRead (store bank : Nat) (found : EccErr)
  /-- LOCK_EXPIRED (R183) -/
  | lockExpired (lock : Nat)
  /-- ARM_JOB_START (R375) -/
  | armJobStart (engine : Nat)
  /-- MICROWORD_EXECUTE (R379) -/
  | microwordExecute (engine : Nat) (found : EccErr)
  /-- ARM_MEM_COMPLETE (R379) -/
  | armMemComplete (engine : Nat)
  /-- ROUTINE_END (R383) -/
  | routineEnd (engine : Nat)
  /-- ARM_PATCH_QUIESCED (R387) -/
  | armPatchQuiesced
  /-- ARM_PATCH_ACTIVATE_TIMEOUT (R387) -/
  | armPatchActivateTimeout
  /-- PARTITION_DRAIN_END (R253) -/
  | partitionDrainEnd (part : Nat)
  /-- DRAIN_LIMIT_EXPIRY (R253) -/
  | drainLimitExpiry (part : Nat)
  /-- PARTITION_REBUILD_DONE (R255) -/
  | partitionRebuildDone (part : Nat)
  /-- BANK_SPARE_COPY (R426) -/
  | bankSpareCopy (store bank : Nat) (found : EccErr)
  /-- PARTITION_BANK_DRAINED (R427) -/
  | partitionBankDrained (part bank : Nat)
  /-- FAULT_RAISE (R417) -/
  | faultRaise (source inst : Nat) (detail : BitVec 64)
  /-- PERMANENCE_CLEAR (R423) -/
  | permanenceClear (source inst : Nat)
  /-- WIRE_FAULT (R414) -/
  | wireFault (source inst : Nat)
  /-- WIRE_UNMASK (R414) -/
  | wireUnmask (source : Nat)
  /-- ECC_WRITE_BACK (R432) -/
  | eccWriteBack (addr : BitVec 64)
  /-- MSIX_SIGNAL (R342) -/
  | msixSignal (rid : Nat)
  /-- CPU_QUEUE_DELIVER (R362) -/
  | cpuQueueDeliver (ring capacity : Nat)
  /-- TX_DESCRIPTOR_FETCH (R365) -/
  | txDescriptorFetch (ring : Nat) (d : TxDesc)
  /-- PIPE_INJECT_SLOT (R365) -/
  | pipeInjectSlot (pipe : Nat)
  /-- COMMAND_FETCH (R341) -/
  | commandFetch (h : Hdr) (opcode : Nat)
  /-- RELAY_TIMEOUT (R361) -/
  | relayTimeout (id : Nat)
  /-- GROUP_PREPARED (R358) -/
  | groupPrepared
  /-- GROUP_PREPARE_TIMEOUT (R358) -/
  | groupPrepareTimeout
  /-- GROUP_ABANDONED (R360) -/
  | groupAbandoned
  /-- COLONNADE_FRAME_RX (R394) -/
  | colonnadeFrameRx (f : ColHdr) (tagOk cwOk : Bool)
  /-- COLONNADE_RESEND (R394) -/
  | colonnadeResend
  /-- COLONNADE_KEY_ROLLOVER (R396) -/
  | colonnadeKeyRollover
  /-- COLONNADE_HELLO_RX (R396) -/
  | colonnadeHelloRx (m : ColHello)
  /-- MIRROR_RX (R401) -/
  | mirrorRx (txn opcode : Nat) (value : Option Nat)
  /-- PREPARE_RX (R401) -/
  | prepareRx (txn opcode : Nat)
  /-- ACK_RX (R401) -/
  | ackRx (txn status detail epoch : Nat)
  /-- COMMIT_RX (R402) -/
  | commitRx (txn epoch : Nat)
  /-- TWIN_ACK_TIMEOUT (R401) -/
  | twinAckTimeout (txn : Nat)
  /-- FOLLOW_COMMIT_DEADLINE (R402) -/
  | followCommitDeadline (txn : Nat)
  /-- LEAD_COMMIT_ACK_CHECK (R402) -/
  | leadCommitAckCheck (txn : Nat)
  /-- HEARTBEAT_RX (R403) -/
  | heartbeatRx (role state : Nat) (version : BitVec 48) (lastTxn : Nat)
  /-- HEARTBEAT_INTERVAL_MISSED (R403) -/
  | heartbeatIntervalMissed
  /-- PLANE_DOWN_FRAME_SEND (R403) -/
  | planeDownFrameSend
  /-- TWIN_TIME_RX (R281) -/
  | twinTimeRx (t : TimePair) (m : EpochMark)
  /-- EPOCH_ALIGN (R282) -/
  | epochAlign (m : EpochMark) (extra : Nat)
  /-- RESYNC_START (R404) -/
  | resyncStart
  /-- RESYNC_RX (R404) -/
  | resyncRx (id : Nat) (payload : List Byte)
  /-- RESYNC_DIGEST_COMPARE (R404) -/
  | resyncDigestCompare (peer : BitVec 384) (peerConfig : BitVec 384) (peerCount : Nat)
  /-- TWIN_THROTTLE_RX (R403) -/
  | twinThrottleRx (n : ThrottleNote)
  /-- RING_FRAME_RX (R407) -/
  | ringFrameRx (west : Bool) (f : RingFrame)
  /-- RELAYED_COMMAND_RX (R354) -/
  | relayedCommandRx (src : Nat) (h : Hdr) (opcode : Nat)
  /-- RING_REPLY_RX (R354) -/
  | ringReplyRx (id status : Nat) (rest : ReplyRest) (result addr : BitVec 64)
  /-- RING_EVENT_RX (R368) -/
  | ringEventRx (dev ring : Nat) (record : BitVec 256)
  /-- RING_THROTTLE_RX (R403) -/
  | ringThrottleRx (src : Nat) (n : ThrottleNote)
  /-- RING_ENUM_RX (R408) -/
  | ringEnumRx (src : Nat) (west : Bool) (hops : Nat)
  /-- RING_ENUM_REPLY_RX (R408) -/
  | ringEnumReplyRx (replies : List EnumReply)
  /-- RING_JOIN_RX (R408) -/
  | ringJoinRx (src : Nat)
  /-- RING_ENUMERATE_PERIOD (R408) -/
  | ringEnumeratePeriod
  /-- RING_BREAK (R409) -/
  | ringBreak (west : Bool)
  /-- RING_RESTORED (R409) -/
  | ringRestored (west : Bool)
  /-- RING_WAKE_DETECT (R460) -/
  | ringWakeDetect
  /-- WAKE_WAVE_END (R460) -/
  | wakeWaveEnd (west : Bool)
  /-- GOVERNOR_DECISION (R448) -/
  | governorDecision
  /-- AVS_ACK (R444) -/
  | avsAck
  /-- AVS_SETTLE (R444) -/
  | avsSettle
  /-- AVS_WRITE_FAIL (R445) -/
  | avsWriteFail
  /-- AVS_RETRY_PERIOD (R445) -/
  | avsRetryPeriod
  /-- THERMAL_COMPARATOR_TRIP (R452) -/
  | thermalComparatorTrip (tc tj : Nat)
  /-- TIME_COMPARE_TRIP (R457) -/
  | timeCompareTrip (cmp : Nat)
  /-- SUPPLY_LOW (R457) -/
  | supplyLow (cmp mv : Nat)
  /-- EXT_LEVEL_TRIP (R457) -/
  | extLevelTrip (cmp mv : Nat)
  /-- WAKE_N_LOW (R459) -/
  | wakeNLow
  /-- THERMTRIP (R438) -/
  | thermtrip
  /-- GATEHOUSE_CLOCK_LOST (R487) -/
  | gatehouseClockLost
  /-- GATEHOUSE_POWER_UP (R481) -/
  | gatehousePowerUp
  /-- PERST_ASSERT (R481) -/
  | perstAssert
  /-- CORE_RESET_RELEASE (R482) -/
  | coreResetRelease (straps : BitVec 8) (railsMv : List Nat) (clockStable : Bool)
  /-- ARRAY_INIT_DONE (R484) -/
  | arrayInitDone
  /-- BOOT_ROM_START (R467) -/
  | bootRomStart (romOk fusesOk leafBurnOk : Bool) (romHash : BitVec 384) (slotA slotB : List Byte)
  /-- FIRMWARE_START (R467) -/
  | firmwareStart
  /-- FIRMWARE_INIT_DONE (R484); the LPM seed as two 64-bit words -/
  | firmwareInitDone (seedHigh seedLow : BitVec 64)
  /-- HSS_TREE_READY (R471) -/
  | hssTreeReady
  /-- PCIE_FUNCTION_RESET (R481) -/
  | pcieFunctionReset (func : Nat) (linkDown : Bool)
  /-- RING_DOORBELL_WRITE (R339) -/
  | ringDoorbellWrite (func rid value : Nat)
  /-- RING_CONTROL_WRITE (R511) -/
  | ringControlWrite (func rid : Nat) (value : BitVec 64)
  /-- EVENT_STATUS_W1C (R367) -/
  | eventStatusW1c (group : Nat) (mask : BitVec 32) (raisedSameClock : BitVec 32)
  /-- TABLE_LOCK_RELEASE_WRITE (R185) -/
  | tableLockReleaseWrite (func : Nat) (mask : BitVec 16)
  /-- TURNSTILE_TICKETS_WRITE (R167) -/
  | turnstileTicketsWrite (value : BitVec 64)
  /-- TURNSTILE_STARVED_W1C (R167) -/
  | turnstileStarvedW1c (mask : BitVec 8)
  /-- SNAP_TRIGGER (R514) -/
  | snapTrigger (value : BitVec 32)
  /-- PERF_FREEZE_WRITE (R334) -/
  | perfFreezeWrite (value : BitVec 32)
  /-- FIRST_ERROR_VALID_W1C (R419) -/
  | firstErrorValidW1c (value : BitVec 64)
  /-- COUNTER_LOW_HALF_READ (R506) -/
  | counterLowHalfRead (func : Nat) (r : BarRead)
  /-- BAR0_VIOLATION (R8) -/
  | bar0Violation (kind func width offset : Nat) (write : Bool)
  /-- REGISTER_WRITE (R506) -/
  | registerWrite (func offset width : Nat) (value : BitVec 64)
  /-- SMBUS_BLOCK_READ (R500) -/
  | smbusBlockRead (code : Nat)
  /-- JTAG_INSTRUCTION (R502) -/
  | jtagInstruction (instr : Nat)
  /-- HELLO (R350) -/
  | hello (h : Hdr) (lowMaj lowMin highMaj highMin : Nat) (telemetry : Option Nat)
  /-- GOODBYE (R350) -/
  | goodbye (h : Hdr)
  /-- DEVICE_STATE_GET (R371) -/
  | deviceStateGet (h : Hdr)
  /-- DEVICE_STATE_SET (R352) -/
  | deviceStateSet (h : Hdr) (target : Nat)
  /-- CPU_QUEUE_MAP_SET (R362) -/
  | cpuQueueMapSet (h : Hdr) (queue ring : Nat)
  /-- EVENT_ROUTE_SET (R367) -/
  | eventRouteSet (h : Hdr) (group : Nat) (enable : BitVec 32) (ring : Nat)
  /-- EVENT_STATUS_GET (R371) -/
  | eventStatusGet (h : Hdr) (group : Nat)
  /-- EVENT_STATUS_CLEAR (R367) -/
  | eventStatusClear (h : Hdr) (group : Nat) (mask : BitVec 32)
  /-- SESSION_STATS_GET (R373) -/
  | sessionStatsGet (h : Hdr) (sel : StatsSel) (clear : Bool)
  /-- ECHO (R371) -/
  | echo (h : Hdr) (data : List Byte)
  /-- GROUP_OPEN (R357) -/
  | groupOpen (h : Hdr)
  /-- GROUP_COMMIT (R358) -/
  | groupCommit (h : Hdr) (target : EpochName)
  /-- GROUP_DISCARD (R360) -/
  | groupDiscard (h : Hdr)
  /-- GROUP_STATUS_GET (R371) -/
  | groupStatusGet (h : Hdr)
  /-- PORT_MODE_SET (R71) -/
  | portModeSet (h : Hdr) (octet rate : Nat) (mask : BitVec 8)
  /-- PORT_CONFIG_SET (R60) -/
  | portConfigSet (h : Hdr) (port : Nat) (record fields : BitVec 64)
  /-- PORT_ENABLE (R69) -/
  | portEnable (h : Hdr) (port : Nat) (on : Bool)
  /-- PORT_STATUS_GET (R74) -/
  | portStatusGet (h : Hdr) (port : Nat)
  /-- PORT_STATS_GET (R73) -/
  | portStatsGet (h : Hdr) (port : Nat) (clear : Bool)
  /-- OCTET_LAYOUT_GET (R74) -/
  | octetLayoutGet (h : Hdr) (octet : Nat)
  /-- LANE_CONFIG_SET (R37) -/
  | laneConfigSet (h : Hdr) (lane : Nat) (record fields : BitVec 64) (trainMs serExp holdoffMs : Option Nat)
  /-- LANE_STATUS_GET (R53) -/
  | laneStatusGet (h : Hdr) (lane : Nat)
  /-- LANE_STATS_GET (R47) -/
  | laneStatsGet (h : Hdr) (lane : Nat) (clear : Bool)
  /-- EYE_SCAN_START (R44) -/
  | eyeScanStart (h : Hdr) (lane eye : Nat) (phaseStart : Int) (phaseStep phaseCount : Nat) (voltStart : Int) (voltStep voltCount dwellExp : Nat)
  /-- EYE_SCAN_READ (R46) -/
  | eyeScanRead (h : Hdr) (scan first count : Nat)
  /-- EYE_SCAN_ABORT (R45) -/
  | eyeScanAbort (h : Hdr) (scan : Nat)
  /-- LANE_RETIRE (R51) -/
  | laneRetire (h : Hdr) (lane : Nat)
  /-- LANE_RESTORE (R52) -/
  | laneRestore (h : Hdr) (lane : Nat) (passes : Bool)
  /-- LANE_PRBS_SET (R43) -/
  | lanePrbsSet (h : Hdr) (lane gen chk : Nat)
  /-- LANE_LOOPBACK_SET (R43) -/
  | laneLoopbackSet (h : Hdr) (lane mode : Nat)
  /-- OCTET_ORDER_SET (R41) -/
  | octetOrderSet (h : Hdr) (octet mode : Nat)
  /-- TABLE_CREATE (R140) -/
  | tableCreate (h : Hdr) (table : Nat) (r : TableRec)
  /-- TABLE_DELETE (R141) -/
  | tableDelete (h : Hdr) (table : Nat)
  /-- TABLE_STATUS_GET (R163) -/
  | tableStatusGet (h : Hdr) (table : Nat)
  /-- TABLE_SEED_SET (R148) -/
  | tableSeedSet (h : Hdr) (table : Nat) (seed0 seed1 : BitVec 128)
  /-- EM_ENTRY_ADD (R171) -/
  | emEntryAdd (h : Hdr) (table : Nat) (key : BitVec 320) (data : BitVec 80) (static : Bool)
  /-- EM_ENTRY_DELETE (R174) -/
  | emEntryDelete (h : Hdr) (table : Nat) (key : BitVec 320)
  /-- EM_ENTRY_READ (R163) -/
  | emEntryRead (h : Hdr) (table : Nat) (key : Option (BitVec 320)) (addr : BitVec 64)
  /-- DIRECT_WRITE (R145) -/
  | directWrite (h : Hdr) (table index : Nat) (slot : BitVec 256)
  /-- PREFIX_ADD (R152) -/
  | prefixAdd (h : Hdr) (family vrf length : Nat) (addr : BitVec 128) (result : BitVec 64)
  /-- PREFIX_DELETE (R152) -/
  | prefixDelete (h : Hdr) (family vrf length : Nat) (addr : BitVec 128)
  /-- PREFIX_READ (R163) -/
  | prefixRead (h : Hdr) (family vrf length : Nat) (addr : BitVec 128) (version : Nat)
  /-- LPM_SEED_SET (R148) -/
  | lpmSeedSet (h : Hdr) (seed : BitVec 128)
  /-- EM_PROFILE_SET (R153) -/
  | emProfileSet (h : Hdr) (prof : Nat) (r : EmProf)
  /-- LPM_PROFILE_SET (R154) -/
  | lpmProfileSet (h : Hdr) (prof : Nat) (r : List LpmLookup)
  /-- NEXTHOP_TABLE_SET (R156) -/
  | nexthopTableSet (h : Hdr) (table : Option Nat)
  /-- COUNTER_READ (R161) -/
  | counterRead (h : Hdr) (first count : Nat) (clear : Bool)
  /-- COUNTER_CLEAR (R161) -/
  | counterClear (h : Hdr) (first count : Nat)
  /-- LOOKUP_STATS_GET (R162) -/
  | lookupStatsGet (h : Hdr) (sel : StatsSel) (clear : Bool)
  /-- LOCK_ACQUIRE (R182) -/
  | lockAcquire (h : Hdr) (firstBank bankCount firstBucket bucketCount lease : Nat)
  /-- LOCK_RENEW (R183) -/
  | lockRenew (h : Hdr) (lock lease : Nat)
  /-- LOCK_RELEASE (R183) -/
  | lockRelease (h : Hdr) (lock : Nat)
  /-- LOCK_STATUS_GET (R189) -/
  | lockStatusGet (h : Hdr) (lock : Nat)
  /-- TABLE_DMA_WRITE (R184) -/
  | tableDmaWrite (h : Hdr) (lock bank firstBucket count : Nat) (images : List (List (BitVec 256)))
  /-- TABLE_DMA_READ (R184) -/
  | tableDmaRead (h : Hdr) (bank firstBucket count hostAddr : Nat)
  /-- TABLE_UPKEEP_SET (R181) -/
  | tableUpkeepSet (h : Hdr) (table : Nat) (r : UpkeepRec) (fields : BitVec 8)
  /-- SCRUB_SET (R186) -/
  | scrubSet (h : Hdr) (period : Nat)
  /-- UPKEEP_STATS_GET (R187) -/
  | upkeepStatsGet (h : Hdr) (sel : StatsSel) (clear : Bool)
  /-- MAQUETTE_OPEN (R127) -/
  | maquetteOpen (h : Hdr)
  /-- MAQUETTE_COMMIT (R129) -/
  | maquetteCommit (h : Hdr) (target : EpochName)
  /-- MAQUETTE_DISCARD (R130) -/
  | maquetteDiscard (h : Hdr)
  /-- RULE_ADD (R114) -/
  | ruleAdd (h : Hdr) (r : RuleRec)
  /-- OBJECT_DELETE (R127) -/
  | objectDelete (h : Hdr) (kind index : Nat)
  /-- RULE_READ (R124) -/
  | ruleRead (h : Hdr) (kind slot : Nat)
  /-- RANGE_SET (R116) -/
  | rangeSet (h : Hdr) (cmp : Nat) (extract : BitVec 32) (low high : Nat)
  /-- PARSE_ENTRY_SET (R105) -/
  | parseEntrySet (h : Hdr) (slot : Nat) (record : BitVec 128)
  /-- KEY_PROFILE_SET (R110) -/
  | keyProfileSet (h : Hdr) (dir id : Nat) (extracts : List (BitVec 32)) (rangeGroup : Nat)
  /-- EDIT_PROFILE_SET (R123) -/
  | editProfileSet (h : Hdr) (id : Nat) (ops : List EditOp)
  /-- TEMPLATE_SET (R123) -/
  | templateSet (h : Hdr) (id : Nat) (bytes : List Byte)
  /-- MIRROR_SESSION_SET (R134) -/
  | mirrorSessionSet (h : Hdr) (session : Nat) (toCpu : Bool) (dest trunc : Nat)
  /-- EGRESS_BIND (R121) -/
  | egressBind (h : Hdr) (port profile : Nat)
  /-- VERSION_STATUS_GET (R134) -/
  | versionStatusGet (h : Hdr)
  /-- PARSE_STATS_GET (R133) -/
  | parseStatsGet (h : Hdr) (pipe : Nat) (clear : Bool)
  /-- QUEUE_MODE_SET (R287) -/
  | queueModeSet (h : Hdr) (octet : Nat) (q16 : Bool)
  /-- QUEUE_SCHED_SET (R289) -/
  | queueSchedSet (h : Hdr) (queue : Nat) (record fields : BitVec 64)
  /-- QUEUE_SCHED_GET (R314) -/
  | queueSchedGet (h : Hdr) (queue : Nat)
  /-- SHAPER_SET (R293) -/
  | shaperSet (h : Hdr) (isPort : Bool) (index : Nat) (record : BitVec 64)
  /-- SHAPER_GET (R314) -/
  | shaperGet (h : Hdr) (isPort : Bool) (index : Nat)
  /-- PORT_SCHED_SET (R290) -/
  | portSchedSet (h : Hdr) (port : Nat) (record fields : BitVec 64)
  /-- TC_MAP_SET (R288) -/
  | tcMapSet (h : Hdr) (port : Nat) (map : BitVec 32)
  /-- PORT_SCHED_GET (R314) -/
  | portSchedGet (h : Hdr) (port : Nat)
  /-- GATE_LIST_SET (R301) -/
  | gateListSet (h : Hdr) (port : Nat) (g : GateSpec)
  /-- GATE_LIST_CLEAR (R302) -/
  | gateListClear (h : Hdr) (port : Nat)
  /-- GATE_STATUS_GET (R314) -/
  | gateStatusGet (h : Hdr) (port : Nat)
  /-- EGRESS_STATS_GET (R312) -/
  | egressStatsGet (h : Hdr) (isPort : Bool) (index : Nat) (clear : Bool)
  /-- BUFFER_POOL_SET (R216) -/
  | bufferPoolSet (h : Hdr) (sizes : List (Option Nat)) (pushout : List (Option Bool))
  /-- BUFFER_POOL_GET (R233) -/
  | bufferPoolGet (h : Hdr)
  /-- QUEUE_ADMIT_SET (R218) -/
  | queueAdmitSet (h : Hdr) (queue : Nat) (record fields : BitVec 64)
  /-- QUEUE_ADMIT_GET (R233) -/
  | queueAdmitGet (h : Hdr) (queue : Nat)
  /-- PG_SET (R220) -/
  | pgSet (h : Hdr) (port prio : Nat) (xoff xon headroom : Option Nat)
  /-- BUFFER_STATS_GET (R231) -/
  | bufferStatsGet (h : Hdr) (sel : StatsSel) (clear : Bool)
  /-- BUFFER_CELL_READ (R210) -/
  | bufferCellRead (h : Hdr) (first count : Nat)
  /-- TRELLIS_RETIRE (R253) -/
  | trellisRetire (h : Hdr) (e : Element) (drainLimit : Nat)
  /-- TRELLIS_RESTORE (R255) -/
  | trellisRestore (h : Hdr) (e : Element)
  /-- TRELLIS_STATUS_GET (R260) -/
  | trellisStatusGet (h : Hdr) (e : Element)
  /-- MCAST_GROUP_SET (R249) -/
  | mcastGroupSet (h : Hdr) (group : Nat) (self : Bool) (members : List Nat)
  /-- MCAST_GROUP_GET (R260) -/
  | mcastGroupGet (h : Hdr) (group : Nat)
  /-- MCAST_GROUP_DELETE (R260) -/
  | mcastGroupDelete (h : Hdr) (group : Nat)
  /-- CUT_THROUGH_SET (R248) -/
  | cutThroughSet (h : Hdr) (port : Nat) (en : Option Bool) (start : Option Nat)
  /-- TRELLIS_STATS_GET (R257) -/
  | trellisStatsGet (h : Hdr) (sel : StatsSel) (clear : Bool)
  /-- TIME_DOMAIN_SET (R265) -/
  | timeDomainSet (h : Hdr) (domain : Nat) (adj : Option Int) (hostWd holdMax : Option Nat)
  /-- TIME_GET (R285) -/
  | timeGet (h : Hdr) (domain : Nat)
  /-- TIME_SET (R263) -/
  | timeSet (h : Hdr) (domain sec ns frac : Nat) (atPps : Option Nat)
  /-- TIME_STEP (R263) -/
  | timeStep (h : Hdr) (domain : Nat) (backward : Bool) (sec ns frac : Nat)
  /-- TIME_ADJUST (R262) -/
  | timeAdjust (h : Hdr) (domain : Nat) (adj : Int)
  /-- TIME_HOLDOVER (R264) -/
  | timeHoldover (h : Hdr) (domain : Nat) (enter : Bool)
  /-- TIME_STATUS_GET (R285) -/
  | timeStatusGet (h : Hdr) (domain : Nat)
  /-- TIME_PORT_SET (R272) -/
  | timePortSet (h : Hdr) (port : Nat) (record fields : BitVec 64)
  /-- TIME_PORT_GET (R271) -/
  | timePortGet (h : Hdr) (port : Nat)
  /-- PPS_SET (R277) -/
  | ppsSet (h : Hdr) (pin dir domain : Nat) (activeLow : Bool) (offsetNs widthNs : Nat)
  /-- PPS_READ (R278) -/
  | ppsRead (h : Hdr) (pin count : Nat)
  /-- TIME_STATS_GET (R284) -/
  | timeStatsGet (h : Hdr) (isPort : Bool) (index : Nat) (clear : Bool)
  /-- CIPHER_PORT_SET (R79) -/
  | cipherPortSet (h : Hdr) (port : Nat) (record fields : BitVec 64)
  /-- CIPHER_PORT_GET (R102) -/
  | cipherPortGet (h : Hdr) (port : Nat)
  /-- SC_CREATE (R77) -/
  | scCreate (h : Hdr) (port dir : Nat) (sci : BitVec 64) (replayProtect : Bool) (replayWindow pnThreshold : Option Nat)
  /-- SC_SET (R82) -/
  | scSet (h : Hdr) (sc dir : Nat) (replayProtect : Option Bool) (replayWindow pnThreshold : Option Nat)
  /-- SC_DELETE (R102) -/
  | scDelete (h : Hdr) (sc dir : Nat)
  /-- SA_INSTALL (R81) -/
  | saInstall (h : Hdr) (p : SaParams)
  /-- SA_DELETE (R81) -/
  | saDelete (h : Hdr) (sc dir an : Nat)
  /-- TX_SA_SELECT (R91) -/
  | txSaSelect (h : Hdr) (sc an : Nat)
  /-- SA_STATUS_GET (R102) -/
  | saStatusGet (h : Hdr) (sc dir an : Nat)
  /-- CIPHER_STATS_GET (R100) -/
  | cipherStatsGet (h : Hdr) (sel : StatsSel) (clear : Bool)
  /-- CIPHER_ENGINE_SET (R94) -/
  | cipherEngineSet (h : Hdr) (engine count windowNs : Nat)
  /-- CIPHER_ENGINE_RESTORE (R99) -/
  | cipherEngineRestore (h : Hdr) (engine : Nat)
  /-- LA_CONTEXT_LOAD (R102) -/
  | laContextLoad (h : Hdr) (ctx kind : Nat) (wrapCtx : Option Nat) (key : BitVec 320)
  /-- LA_CONTEXT_EXPORT (R97) -/
  | laContextExport (h : Hdr) (ctx : Nat)
  /-- LA_CONTEXT_IMPORT (R98) -/
  | laContextImport (h : Hdr) (ctx : Nat) (b : Blob)
  /-- LA_CONTEXT_CLEAR (R98) -/
  | laContextClear (h : Hdr) (ctx : Nat)
  /-- LA_CRYPT (R95) -/
  | laCrypt (h : Hdr) (ctx op : Nat) (iv : BitVec 96) (aad data : List Byte)
  /-- TELEMETRY_STREAM_SET (R317) -/
  | telemetryStreamSet (h : Hdr) (stream : Nat) (r : StreamRec) (fields : BitVec 16)
  /-- TELEMETRY_STREAM_GET (R337) -/
  | telemetryStreamGet (h : Hdr) (stream : Nat)
  /-- QUEUE_REPORT_SET (R323) -/
  | queueReportSet (h : Hdr) (queue : Nat) (r : ReportRec) (fields : BitVec 8)
  /-- IOAM_SET (R329) -/
  | ioamSet (h : Hdr) (nodeId : BitVec 56) (td : Nat) (namespaces : List (Nat × BitVec 64))
  /-- QUEUE_SAMPLE_GET (R316) -/
  | queueSampleGet (h : Hdr) (first count : Nat)
  /-- PERF_COUNTER_SET (R331) -/
  | perfCounterSet (h : Hdr) (scope counter : Nat) (record : BitVec 64)
  /-- TELEMETRY_STATS_GET (R336) -/
  | telemetryStatsGet (h : Hdr) (sel : StatsSel) (clear : Bool)
  /-- POWER_CAP_SET (R449) -/
  | powerCapSet (h : Hdr) (cap window margin : Option Nat)
  /-- POWER_STATUS_GET (R462) -/
  | powerStatusGet (h : Hdr)
  /-- OP_HOST_SET (R446) -/
  | opHostSet (h : Hdr) (op : Nat)
  /-- THERMAL_SET (R454) -/
  | thermalSet (h : Hdr) (en : Nat)
  /-- COMPARATOR_SET (R457) -/
  | comparatorSet (h : Hdr) (cmp : Nat) (f : CmpFields)
  /-- COMPARATOR_GET (R462) -/
  | comparatorGet (h : Hdr) (cmp : Nat)
  /-- DORMANT_ENTER (R458) -/
  | dormantEnter (h : Hdr) (wakeNEn : Bool)
  /-- DEVICE_WAKE (R460) -/
  | deviceWake (h : Hdr) (west : Bool)
  /-- POWER_COMPAT_SET (R455) -/
  | powerCompatSet (h : Hdr) (freqs : Option (List Nat))
  /-- CAST_TABLE_GET (R442) -/
  | castTableGet (h : Hdr)
  /-- FAULT_REACTION_SET (R422) -/
  | faultReactionSet (h : Hdr) (source : Nat) (f : ReactFields)
  /-- FAULT_REACTION_GET (R421) -/
  | faultReactionGet (h : Hdr) (source : Nat)
  /-- FAULT_CONFIG_SET (R417) -/
  | faultConfigSet (h : Hdr) (logMin firstMin isolatePorts : Option Nat)
  /-- FAULT_LOG_READ (R441) -/
  | faultLogRead (h : Hdr) (first count : Nat)
  /-- FAULT_FIRST_GET (R441) -/
  | faultFirstGet (h : Hdr)
  /-- FAULT_FIRST_CLEAR (R420) -/
  | faultFirstClear (h : Hdr)
  /-- FAULT_STATUS_GET (R441) -/
  | faultStatusGet (h : Hdr) (source inst : Nat)
  /-- UNIT_RETIRE (R425) -/
  | unitRetire (h : Hdr) (u : UnitRef)
  /-- UNIT_FENCE (R429) -/
  | unitFence (h : Hdr) (u : UnitRef)
  /-- UNIT_RESTORE (R429) -/
  | unitRestore (h : Hdr) (u : UnitRef)
  /-- FAULT_STATS_GET (R440) -/
  | faultStatsGet (h : Hdr) (sel : StatsSel) (clear : Bool)
  /-- FAULT_INJECT (R437) -/
  | faultInject (h : Hdr)
  /-- TWIN_BIND (R398) -/
  | twinBind (h : Hdr) (role peer : Nat) (peerId : BitVec 384)
  /-- TWIN_UNBIND (R398) -/
  | twinUnbind (h : Hdr)
  /-- TWIN_JOIN (R404) -/
  | twinJoin (h : Hdr)
  /-- TWIN_DETACH (R406) -/
  | twinDetach (h : Hdr)
  /-- TWIN_ROLE_SWAP (R406) -/
  | twinRoleSwap (h : Hdr)
  /-- TWIN_DRAIN (R406) -/
  | twinDrain (h : Hdr) (on : Bool)
  /-- TWIN_NOTIFY_SET (R403) -/
  | twinNotifySet (h : Hdr) (r : NotifyRec) (fields : BitVec 8)
  /-- TWIN_STATUS_GET (R412) -/
  | twinStatusGet (h : Hdr)
  /-- RING_STATUS_GET (R412) -/
  | ringStatusGet (h : Hdr)
  /-- RING_ENUMERATE (R408) -/
  | ringEnumerate (h : Hdr)
  /-- TWIN_STATS_GET (R411) -/
  | twinStatsGet (h : Hdr) (clear : Bool)
  /-- ARM_PATCH_LOAD (R386); the image in two parts, the second after the first -/
  | armPatchLoad (h : Hdr) (first rest : List Byte)
  /-- ARM_PATCH_ACTIVATE (R387) -/
  | armPatchActivate (h : Hdr)
  /-- ARM_PATCH_REVERT (R386) -/
  | armPatchRevert (h : Hdr)
  /-- ARM_PATCH_STATUS_GET (R391) -/
  | armPatchStatusGet (h : Hdr)
  /-- ARM_ENGINE_SET (R384) -/
  | armEngineSet (h : Hdr) (restart live : Option Nat)
  /-- ARM_ENGINE_STATUS_GET (R391) -/
  | armEngineStatusGet (h : Hdr) (engine : Nat)
  /-- ARM_ENGINE_RESTORE (R389) -/
  | armEngineRestore (h : Hdr) (engine : Nat)
  /-- ARM_STATS_GET (R390) -/
  | armStatsGet (h : Hdr) (engine : Nat) (clear : Bool)
  /-- BOOT_STATUS_GET (R469) -/
  | bootStatusGet (h : Hdr)
  /-- FW_PUSH (R468) -/
  | fwPush (h : Hdr) (offset : Nat) (chunk : List Byte)
  /-- FW_PUSH_DONE (R468); the total length as two 32-bit words -/
  | fwPushDone (h : Hdr) (high low : BitVec 32)
  /-- FW_FLASH_WRITE (R470) -/
  | fwFlashWrite (h : Hdr) (offset : Nat) (chunk : List Byte)
  /-- FW_FLASH_COMMIT (R470); the total length as two 32-bit words -/
  | fwFlashCommit (h : Hdr) (high low : BitVec 32)
  /-- FW_RESTART (R470) -/
  | fwRestart (h : Hdr)
  /-- SVN_ADVANCE (R470) -/
  | svnAdvance (h : Hdr) (v : Nat)
  /-- KEY_REVOKE (R470) -/
  | keyRevoke (h : Hdr) (lms : Bool) (slot : Nat)
  /-- IDENTITY_CERT_GET (R472) -/
  | identityCertGet (h : Hdr)
  /-- MEASUREMENT_GET (R473) -/
  | measurementGet (h : Hdr)
  /-- ATTEST_REPORT_GET (R475) -/
  | attestReportGet (h : Hdr) (nonce : BitVec 384)
  /-- EGRESS_PIPE_SLOT (R335) -/
  | egressPipeSlot (pipe : Nat) (ready0 ready1 : Bool)
  /-- BACKGROUND_PORT_READ (R431) -/
  | backgroundPortRead (replica index : Nat) (found : EccErr)
  /-- RING_HOP_RESEND (R407) -/
  | ringHopResend (west : Bool)
  /-- LANE_SNR_UPDATE (R47) -/
  | laneSnrUpdate (lane snr : Nat)
  /-- POWER_DOWN (R480) -/
  | powerDown
deriving DecidableEq, Repr

end Sys2Proof
end

