-- ==== Sys2Proof/Config.lean ====
section
/-! DEFINITION. What an implementation fixes and what the spec leaves open: constants without a body, so that a
statement holds whatever they are (log 2). -/

namespace Sys2Proof

/-- Free value number `n`, drawn where the spec says that some value results and not which (log 2). -/
opaque Config.freeValue (w : Nat) (n : Nat) : BitVec w

/-- Random number `n` of the device's random number generator (R148, R165, R97, R471). -/
opaque Config.random (n : Nat) : Nat

/-- SHA-384 over bytes (R463 to R474). -/
opaque Config.sha384 (l : List Byte) : BitVec 384

/-- ECDSA P-384 per FIPS 186-5 with SHA-384 and HSS per RFC 8554 (R466): public key, message, signature. -/
opaque Config.ecdsaVerify (pub msg sig : List Byte) : Bool
opaque Config.hssVerify (pub msg sig : List Byte) : Bool

/-- The bytes of something whose layout the spec does not state: the parameters of a command (R474), the payload of a
Colonnade message (R395), an item of a RESYNC (R404). -/
opaque Config.bytesOf {α : Type} (x : α) : List Byte

/-- What a firmware and a patch image's body hold (R105, R374, R386): the spec lays out neither body. -/
opaque Config.firmwareBody (body : List Byte) : FirmwareBody
opaque Config.patchBody (body : List Byte) : PatchBody

/-- Byte `i` that no chunk has written, in flash slot 0 or 1 or in the memory of a push (2) (R468, R470). -/
opaque Config.unwritten (place i : Nat) : Byte

/-- The digest of the forwarding state that a RESYNC compares (R404); its canonical order is not stated. -/
opaque Config.resyncDigest {α : Type} (epoch : Nat) (forwarding : α) : BitVec 384

/-- Cast-table code of operating point and band, fused at test (R442). -/
opaque Config.castCode (i : Nat) : Nat

/-- SliceFmax of a slice in MHz, fused at test (R455). -/
opaque Config.sliceFmax (slice : Nat) : Nat

/-- DEVICE_ID of R464, and the hash of the identity public key (PEER_ID of R396). -/
opaque Config.deviceSerial : BitVec 64
opaque Config.identityHash : BitVec 384

/-- Fused key hashes (R463): ECDSA slot k, LMS slot k. -/
opaque Config.ecdsaKeyHash (slot : Nat) : BitVec 384
opaque Config.lmsKeyHash (slot : Nat) : BitVec 384

/-- The certificates of R472, as their number of 8-byte words and each word. -/
opaque Config.certWord (i : Nat) : Nat
opaque Config.certWords : Nat

/-- The context-wrapping key of R97, derived from the on-die secret. -/
opaque Config.wrapKey : BitVec 256

/-- The first count of the counter block of AES-256-CTR (R95), which the spec does not state. -/
opaque Config.ctrFirst : BitVec 32

/-- Keys that firmware derives at BOOT for contexts 4 to 15 (R464). -/
opaque Config.bootKey (ctx : Nat) : BitVec 256

/-- The signatures of an attestation report (R475): r and s of the identity key, 96 bytes; the top tree's over the lower
public key of a boot's leaf, 2,572 bytes; that key, 56 bytes; the lower tree's, 2,668 bytes. -/
opaque Config.ecdsaSig (body : List Byte) : BitVec 768
opaque Config.hssTopSig (top : Nat) : BitVec 20576
opaque Config.hssLowerPub (top : Nat) : BitVec 448
opaque Config.hssLowerSig (top lower : Nat) (body : List Byte) : BitVec 21344

/-- The bank and word of each level in which the device keeps the nodes of an LPM path (R150): the layout and the
placement are internal to the device. -/
opaque Config.lpmPlace (seed : BitVec 128) (family vrf : Nat) (addr : BitVec 128) (level : Nat) : Nat × Nat

/-- The path of an address has a node in the level (R150). -/
opaque Config.lpmUses (seed : BitVec 128) (family vrf : Nat) (addr : BitVec 128) (level : Nat) : Bool

/-- The ALU of an Armature microword (R376): the spec names ALU_OP and states no operation. Register and buffer of SRC_A,
register of SRC_B, IMM, WIDE; result, ZERO, CARRY, SIGN. -/
opaque Config.alu (op : Nat) (a : BitVec 64) (buf : List (BitVec 256)) (b : BitVec 64) (imm : BitVec 32) (wide : BitVec 128) :
  BitVec 64 × Bool × Bool × Bool

/-- The key that a MATCH condition compares with, of WIDE and the registers (R377): the spec does not say how they make it up. -/
opaque Config.matchKey (wide : BitVec 128) (regs : List (BitVec 64)) : BitVec 320

/-- The routine number of each kind of Armature job (R375), and what registers 0 to 7 receive of its parameters: the
spec numbers no routine and lays out no parameter. -/
opaque Config.routineNo (kind : Nat) : Nat
opaque Config.jobParam {α : Type} (work : α) (reg : Nat) : BitVec 64

/-- Bytes of an export header field or reply that the spec gives no layout for. -/
opaque Config.openByte (n : Nat) : Byte

end Sys2Proof
end

