-- ==== Sys2Proof/Machine/Codes.lean ====
section
/-! DEFINITION. The published codes that the spec names: AES-256 with its GCM, counter and key-wrap modes (R76, R80, R95,
R97, spec/04_link_cipher.md) and the FCS of a frame (R3, R87). Their standards are outside the spec: FIPS 197, SP 800-38D,
RFC 3394, IEEE 802.3 (PRESUMED, log 91). -/

namespace Sys2Proof.Machine

/-! ## Bytes of numbers -/

/-- The bytes of a number, most significant first. -/
def beBytes (n v : Nat) : List Byte :=
  match n with
  | 0 => []
  | n + 1 => BitVec.ofNat 8 (v >>> (8 * n)) :: beBytes n v

/-- The number of bytes most significant first. -/
def ofBytes (l : List Byte) : Nat := l.foldl (fun a b => a * 256 + b.toNat) 0

/-- A list in pieces of `n`. -/
def chunks {α : Type} (n fuel : Nat) (l : List α) : List (List α) :=
  match fuel with
  | 0 => []
  | fuel + 1 => if l.isEmpty then [] else l.take n :: chunks n fuel (l.drop n)

/-! ## AES-256: a block is a number of 128 bits, its first byte the most significant -/

/-- S-box of FIPS 197, 32 bytes a row. -/
def sboxRows : List Nat :=
  [0x637c777bf26b6fc53001672bfed7ab76ca82c97dfa5947f0add4a2af9ca472c0,
   0xb7fd9326363ff7cc34a5e5f171d8311504c723c31896059a071280e2eb27b275,
   0x09832c1a1b6e5aa0523bd6b329e32f8453d100ed20fcb15b6acbbe394a4c58cf,
   0xd0efaafb434d338545f9027f503c9fa851a3408f929d38f5bcb6da2110fff3d2,
   0xcd0c13ec5f974417c4a77e3d645d197360814fdc222a908846eeb814de5e0bdb,
   0xe0323a0a4906245cc2d3ac629195e479e7c8376d8dd54ea96c56f4ea657aae08,
   0xba78252e1ca6b4c6e8dd741f4bbd8b8a703eb5664803f60e613557b986c11d9e,
   0xe1f8981169d98e949b1e87e9ce5528df8ca1890dbfe6426841992d0fb054bb16]

/-- Inverse S-box of FIPS 197. -/
def invSboxRows : List Nat :=
  [0x52096ad53036a538bf40a39e81f3d7fb7ce339829b2fff87348e4344c4dee9cb,
   0x547b9432a6c2233dee4c950b42fac34e082ea16628d924b2765ba2496d8bd125,
   0x72f8f66486689816d4a45ccc5d65b6926c704850fdedb9da5e154657a78d9d84,
   0x90d8ab008cbcd30af7e45805b8b34506d02c1e8fca3f0f02c1afbd0301138a6b,
   0x3a9111414f67dcea97f2cfcef0b4e67396ac7422e7ad3585e2f937e81c75df6e,
   0x47f11a711d29c5896fb7620eaa18be1bfc563e4bc6d279209adbc0fe78cd5af4,
   0x1fdda8338807c731b11210592780ec5f60517fa919b54a0d2de57a9f93c99cef,
   0xa0e03b4dae2af5b0c8ebbb3c83539961172b047eba77d626e169146355210c7d]

def byteOfRows (rows : List Nat) (i : Nat) : Nat := (((rows[i / 32]?).getD 0) >>> (8 * (31 - i % 32))) % 256
def subByte (i : Nat) : Nat := byteOfRows sboxRows i
def invSubByte (i : Nat) : Nat := byteOfRows invSboxRows i

/-- Multiplication by x in the field of AES. -/
def xtime (a : Nat) : Nat := if a < 128 then 2 * a else (2 * a) ^^^ 0x11b

/-- Product in the field of AES, over the low `n` bits of `b`. -/
def gfMul (n a b : Nat) : Nat :=
  match n with
  | 0 => 0
  | n + 1 => (if b % 2 = 1 then a else 0) ^^^ gfMul n (xtime a) (b / 2)

/-- The 16 bytes of a block as numbers. -/
def blockBytes (b : Nat) : List Nat := (List.range 16).map fun i => (b >>> (8 * (15 - i))) % 256
def bytesBlock (l : List Nat) : Nat := l.foldl (fun a b => a * 256 + b) 0

def subWord (w : Nat) : Nat := (List.range 4).foldl (fun a i => a * 256 + subByte ((w >>> (8 * (3 - i))) % 256)) 0
def rotWord (w : Nat) : Nat := w % 2 ^ 24 * 256 + w / 2 ^ 24

/-- The next words of the key schedule, newest first, from word `i` on; `rcon` is the next round constant. -/
def expandKey (fuel i rcon : Nat) (ws : List Nat) : List Nat :=
  match fuel with
  | 0 => ws
  | fuel + 1 =>
    let t := ws.headD 0
    let t := if i % 8 = 0 then subWord (rotWord t) ^^^ (rcon <<< 24) else if i % 8 = 4 then subWord t else t
    expandKey fuel (i + 1) (if i % 8 = 0 then xtime rcon else rcon) (((ws[7]?).getD 0 ^^^ t) :: ws)

/-- The 15 round keys of a key. -/
def roundKeys (key : BitVec 256) : List Nat :=
  let k := (List.range 8).reverse.map fun i => (key.toNat >>> (32 * (7 - i))) % 2 ^ 32
  (chunks 4 15 (expandKey 52 8 1 k).reverse).map fun l => l.foldl (fun a b => a * 2 ^ 32 + b) 0

/-- ShiftRows as the place each byte comes from, and its inverse. -/
def shiftFrom : List Nat := [0, 5, 10, 15, 4, 9, 14, 3, 8, 13, 2, 7, 12, 1, 6, 11]
def unshiftFrom : List Nat := [0, 13, 10, 7, 4, 1, 14, 11, 8, 5, 2, 15, 12, 9, 6, 3]

def moveBytes (from_ : List Nat) (l : List Nat) : List Nat := from_.map fun i => (l[i]?).getD 0

/-- One column times a circulant matrix with first row `m`. -/
def mixColumn (m col : List Nat) : List Nat :=
  (List.range 4).map fun r => (List.range 4).foldl (fun a i => a ^^^ gfMul 8 ((col[i]?).getD 0) ((m[(i + 4 - r) % 4]?).getD 0)) 0

def mixColumns (m l : List Nat) : List Nat := (chunks 4 4 l).flatMap (mixColumn m)

/-- AES-256 of a block. -/
def aesEnc (key : BitVec 256) (block : Nat) : Nat :=
  match roundKeys key with
  | [] => 0
  | k :: ks =>
    let mid := ks.dropLast.foldl (fun b rk =>
      bytesBlock (mixColumns [2, 3, 1, 1] (moveBytes shiftFrom ((blockBytes b).map subByte))) ^^^ rk) (block ^^^ k)
    bytesBlock (moveBytes shiftFrom ((blockBytes mid).map subByte)) ^^^ ks.getLastD 0

/-- AES-256 of a block, undone. -/
def aesDec (key : BitVec 256) (block : Nat) : Nat :=
  match (roundKeys key).reverse with
  | [] => 0
  | k :: ks =>
    let undo (b : Nat) : Nat := bytesBlock ((moveBytes unshiftFrom (blockBytes b)).map invSubByte)
    let mid := ks.dropLast.foldl (fun b rk => bytesBlock (mixColumns [14, 11, 13, 9] (blockBytes (undo b ^^^ rk)))) (block ^^^ k)
    undo mid ^^^ ks.getLastD 0

/-! ## GCM (SP 800-38D) -/

/-- Bytes filled with zeros to whole blocks, as numbers. -/
def toBlocks (l : List Byte) : List Nat :=
  (chunks 16 (l.length / 16 + 1) l).map fun c => ofBytes c <<< (8 * (16 - c.length))

/-- Product in the field of GHASH: `z` gathers, `v` is shifted, over the low `n` bits of `x` from their most significant. -/
def ghashMul (n x v z : Nat) : Nat :=
  match n with
  | 0 => z
  | n + 1 => ghashMul n x (if v % 2 = 1 then v / 2 ^^^ (0xE1 <<< 120) else v / 2) (if x.testBit n then z ^^^ v else z)

/-- GHASH accumulated over blocks. -/
def ghash (h acc : Nat) (l : List Nat) : Nat := l.foldl (fun a b => ghashMul 128 (a ^^^ b) h 0) acc

/-- Counter block `i` after block `ctr`: its low 32 bits count. -/
def ctrBlock (ctr i : Nat) : Nat := ctr / 2 ^ 32 * 2 ^ 32 + (ctr + i) % 2 ^ 32

/-- `n` bytes of key stream from counter block `ctr`. -/
def keyStream (key : BitVec 256) (ctr n : Nat) : List Byte :=
  ((List.range ((n + 15) / 16)).flatMap fun i => beBytes 16 (aesEnc key (ctrBlock ctr i))).take n

/-- Counter mode from block `ctr`: encryption and decryption alike. -/
def aesCtr (key : BitVec 256) (ctr : Nat) (l : List Byte) : List Byte :=
  List.zipWith (· ^^^ ·) l (keyStream key ctr l.length)

/-- The first counter block of an IV. -/
def gcmStart (iv : BitVec 96) : Nat := iv.toNat * 2 ^ 32 + 1

/-- The tag of a cipher text with its additional data. -/
def gcmTag (key : BitVec 256) (iv : BitVec 96) (aad text : List Byte) : BitVec 128 :=
  let lens := (8 * aad.length) * 2 ^ 64 + 8 * text.length
  BitVec.ofNat 128 (ghash (aesEnc key 0) 0 (toBlocks aad ++ toBlocks text ++ [lens]) ^^^ aesEnc key (gcmStart iv))

/-- The cipher text of a plain text; its tag is `gcmTag` of it. -/
def gcmCrypt (key : BitVec 256) (iv : BitVec 96) (l : List Byte) : List Byte := aesCtr key (ctrBlock (gcmStart iv) 1) l

/-- The plain text of a cipher text whose tag is right. -/
def gcmOpen (key : BitVec 256) (iv : BitVec 96) (aad text : List Byte) (tag : BitVec 128) : Option (List Byte) :=
  if gcmTag key iv aad text = tag then some (gcmCrypt key iv text) else none

/-! ## Key wrap (RFC 3394) -/

def wrapIv : Nat := 0xA6A6A6A6A6A6A6A6

/-- One step of wrapping: the check word and the block at place `i` of round `t`. -/
def wrapStep (kek : BitVec 256) (a : Nat) (rs : List Nat) (i t : Nat) : Nat × List Nat :=
  let b := aesEnc kek (a * 2 ^ 64 + (rs[i]?).getD 0)
  ((b / 2 ^ 64) ^^^ t, rs.set i (b % 2 ^ 64))

def unwrapStep (kek : BitVec 256) (a : Nat) (rs : List Nat) (i t : Nat) : Nat × List Nat :=
  let b := aesDec kek ((a ^^^ t) * 2 ^ 64 + (rs[i]?).getD 0)
  (b / 2 ^ 64, rs.set i (b % 2 ^ 64))

/-- 64-bit words wrapped: one word more than went in. -/
def keyWrap (kek : BitVec 256) (rs : List Nat) : List Nat :=
  let n := rs.length
  let r := (List.range (6 * n)).foldl (fun x j => wrapStep kek x.1 x.2 (j % n) (j + 1)) (wrapIv, rs)
  r.1 :: r.2

/-- Wrapped words opened; none where the integrity check fails. -/
def keyUnwrap (kek : BitVec 256) (ws : List Nat) : Option (List Nat) :=
  let rs := ws.drop 1
  let n := rs.length
  let r := (List.range (6 * n)).reverse.foldl (fun x j => unwrapStep kek x.1 x.2 (j % n) (j + 1)) (ws.headD 0, rs)
  if r.1 = wrapIv then some r.2 else none

/-- A wrapped 256-bit key opened (R80). -/
def unwrapKey (kek : BitVec 256) (w : BitVec 320) : Option (BitVec 256) :=
  (keyUnwrap kek ((List.range 5).map fun i => (w.toNat >>> (64 * (4 - i))) % 2 ^ 64)).map fun l =>
    BitVec.ofNat 256 (l.foldl (fun a b => a * 2 ^ 64 + b) 0)

/-! ## The FCS (IEEE 802.3) -/

/-- `n` bits shifted out of the register of CRC-32. -/
def crcShift (n c : Nat) : Nat :=
  match n with
  | 0 => c
  | n + 1 => crcShift n (if c % 2 = 1 then c / 2 ^^^ 0xEDB88320 else c / 2)

/-- The 4 bytes of the FCS of a frame, in the order they are sent. -/
def fcsOf (l : List Byte) : List Byte :=
  let c := l.foldl (fun c b => crcShift 8 (c ^^^ b.toNat)) 0xFFFFFFFF ^^^ 0xFFFFFFFF
  (List.range 4).map fun i => BitVec.ofNat 8 (c >>> (8 * i))

/-- The inverted FCS that ends a stomped frame (R87). -/
def badFcs (l : List Byte) : List Byte := (fcsOf l).map fun b => ~~~b

end Sys2Proof.Machine
end

