-- ==== Sys2Proof/Machine/StCounters.lean ====
section
/-! DEFINITION. The counters that the device keeps, by name. Every counter saturates at its width; the store of the
counts is `State.ctr`, by counter and instance. -/

namespace Sys2Proof.Machine

/-- The device's counters. Each docstring gives the width, the scope of its instances and the rule; reset 0. -/
inductive Ctr where
  /-- LaneSymErr; 48; per lane; R47 02_lanes.md; reset 0 -/
  | laneSymErr
  /-- LaneSer1s; 32; per lane; R47 02_lanes.md; reset 0 -/
  | laneSer1s
  /-- LaneLosCount; 32; per lane; R47 02_lanes.md; reset 0 -/
  | laneLosCount
  /-- LaneCdrUnlock; 32; per lane; R47 02_lanes.md; reset 0 -/
  | laneCdrUnlock
  /-- LaneAmLockLoss; 32; per lane; R47 02_lanes.md; reset 0 -/
  | laneAmLockLoss
  /-- LaneBringupRestart; 32; per lane; R47 02_lanes.md; reset 0 -/
  | laneBringupRestart
  /-- LaneTrainFail; 32; per lane; R47 02_lanes.md; reset 0 -/
  | laneTrainFail
  /-- LaneUpEntries; 32; per lane; R47 02_lanes.md; reset 0 -/
  | laneUpEntries
  /-- LanePrbsErr; 48; per lane; R47 02_lanes.md; reset 0 -/
  | lanePrbsErr
  /-- RxFramesOk; 48; per port; R73 03_ports.md; reset 0 -/
  | rxFramesOk
  /-- TxFramesOk; 48; per port; R73 03_ports.md; reset 0 -/
  | txFramesOk
  /-- RxOctetsOk; 64; per port; R73 03_ports.md; reset 0 -/
  | rxOctetsOk
  /-- TxOctetsOk; 64; per port; R73 03_ports.md; reset 0 -/
  | txOctetsOk
  /-- RxUnicast; 48; per port; R73 03_ports.md; reset 0 -/
  | rxUnicast
  /-- RxMulticast; 48; per port; R73 03_ports.md; reset 0 -/
  | rxMulticast
  /-- RxBroadcast; 48; per port; R73 03_ports.md; reset 0 -/
  | rxBroadcast
  /-- TxUnicast; 48; per port; R73 03_ports.md; reset 0 -/
  | txUnicast
  /-- TxMulticast; 48; per port; R73 03_ports.md; reset 0 -/
  | txMulticast
  /-- TxBroadcast; 48; per port; R73 03_ports.md; reset 0 -/
  | txBroadcast
  /-- RxRunt; 48; per port; R73 03_ports.md; reset 0 -/
  | rxRunt
  /-- RxOversize; 48; per port; R73 03_ports.md; reset 0 -/
  | rxOversize
  /-- RxFcsErr; 48; per port; R73 03_ports.md; reset 0 -/
  | rxFcsErr
  /-- RxFecCorrected; 48; per port; R73 03_ports.md; reset 0 -/
  | rxFecCorrected
  /-- RxFecUncorrected; 48; per port; R73 03_ports.md; reset 0 -/
  | rxFecUncorrected
  /-- RxPause; 48; per port; R73 03_ports.md; reset 0 -/
  | rxPause
  /-- TxPause; 48; per port; R73 03_ports.md; reset 0 -/
  | txPause
  /-- RxFlowIgnored; 32; per port; R73 03_ports.md; reset 0 -/
  | rxFlowIgnored
  /-- RxMacCtlUnknown; 32; per port; R73 03_ports.md; reset 0 -/
  | rxMacCtlUnknown
  /-- TxOversizeDrop; 32; per port; R73 03_ports.md; reset 0 -/
  | txOversizeDrop
  /-- TxOversizeStomp; 32; per port; R73 03_ports.md; reset 0 -/
  | txOversizeStomp
  /-- TxStomped; 48; per port; R73 03_ports.md; reset 0 -/
  | txStomped
  /-- TxLinkLost; 32; per port; R73 03_ports.md; reset 0 -/
  | txLinkLost
  /-- LinkDownEvents; 32; per port; R73 03_ports.md; reset 0 -/
  | linkDownEvents
  /-- LinkFlapSuppressed; 32; per port; R73 03_ports.md; reset 0 -/
  | linkFlapSuppressed
  /-- RxSize; 48; per port x 16 + i; R73 03_ports.md; reset 0 -/
  | rxSize
  /-- TxSize; 48; per port x 16 + i; R73 03_ports.md; reset 0 -/
  | txSize
  /-- RxPfc; 48; per port x 8 + priority; R73 03_ports.md; reset 0 -/
  | rxPfc
  /-- TxPfc; 48; per port x 8 + priority; R73 03_ports.md; reset 0 -/
  | txPfc
  /-- TxStompRollback; 48; per port; R205, R208 08_runahead.md; reset 0 -/
  | txStompRollback
  /-- TxStompPoison; 48; per port; R205, R208 08_runahead.md; reset 0 -/
  | txStompPoison
  /-- TxStompReseq; 48; per port; R205, R208 08_runahead.md; reset 0 -/
  | txStompReseq
  /-- TxStompEarly; 48; per port; R205, R208 08_runahead.md; reset 0 -/
  | txStompEarly
  /-- InPktsNoTag; 48; per port; R100 04_link_cipher.md; reset 0 -/
  | inPktsNoTag
  /-- InPktsUntagged; 48; per port; R100 04_link_cipher.md; reset 0 -/
  | inPktsUntagged
  /-- InPktsBadTag; 48; per port; R100 04_link_cipher.md; reset 0 -/
  | inPktsBadTag
  /-- InPktsUnknownSCI; 48; per port; R100 04_link_cipher.md; reset 0 -/
  | inPktsUnknownSCI
  /-- InPktsNoSCI; 48; per port; R100 04_link_cipher.md; reset 0 -/
  | inPktsNoSCI
  /-- OutPktsUntagged; 48; per port; R100 04_link_cipher.md; reset 0 -/
  | outPktsUntagged
  /-- OutPktsTooLong; 48; per port; R100 04_link_cipher.md; reset 0 -/
  | outPktsTooLong
  /-- OutPktsNoSA; 48; per port; R100 04_link_cipher.md; reset 0 -/
  | outPktsNoSA
  /-- OutPktsNoSC; 48; per port; R100 04_link_cipher.md; reset 0 -/
  | outPktsNoSC
  /-- InPktsOK; 48; per receive SA; R100 04_link_cipher.md; reset 0 -/
  | inPktsOK
  /-- InPktsInvalid; 48; per receive SA; R100 04_link_cipher.md; reset 0 -/
  | inPktsInvalid
  /-- InPktsNotValid; 48; per receive SA; R100 04_link_cipher.md; reset 0 -/
  | inPktsNotValid
  /-- InPktsUnusedSA; 48; per receive SA; R100 04_link_cipher.md; reset 0 -/
  | inPktsUnusedSA
  /-- InPktsNotUsingSA; 48; per receive SA; R100 04_link_cipher.md; reset 0 -/
  | inPktsNotUsingSA
  /-- InOctetsValidated; 48; per receive SA; R100 04_link_cipher.md; reset 0 -/
  | inOctetsValidated
  /-- InOctetsDecrypted; 48; per receive SA; R100 04_link_cipher.md; reset 0 -/
  | inOctetsDecrypted
  /-- InPktsLate; 48; per receive SC; R100 04_link_cipher.md; reset 0 -/
  | inPktsLate
  /-- OutPktsProtected; 48; per transmit SA; R100 04_link_cipher.md; reset 0 -/
  | outPktsProtected
  /-- OutPktsEncrypted; 48; per transmit SA; R100 04_link_cipher.md; reset 0 -/
  | outPktsEncrypted
  /-- OutOctetsProtected; 48; per transmit SA; R100 04_link_cipher.md; reset 0 -/
  | outOctetsProtected
  /-- OutOctetsEncrypted; 48; per transmit SA; R100 04_link_cipher.md; reset 0 -/
  | outOctetsEncrypted
  /-- OutPktsPnExhausted; 48; per transmit SA; R100 04_link_cipher.md; reset 0 -/
  | outPktsPnExhausted
  /-- CipherMismatch; 48; per cipher engine; R100 04_link_cipher.md; reset 0 -/
  | cipherMismatch
  /-- CipherKeyErasedDrop; 48; per cipher engine; R100 04_link_cipher.md; reset 0 -/
  | cipherKeyErasedDrop
  /-- ParseErr; 48; per pipe x 8 + code; R133 05_parser_rules.md; reset 0 -/
  | parseErr
  /-- RunaheadReplay; 48; per ingress pipe; R133 05_parser_rules.md; reset 0 -/
  | runaheadReplay
  /-- ClsNoMatch; 48; per ingress pipe; R133 05_parser_rules.md; reset 0 -/
  | clsNoMatch
  /-- ClsDrop; 48; per ingress pipe; R133 05_parser_rules.md; reset 0 -/
  | clsDrop
  /-- ClsBadDest; 48; per ingress pipe; R133 05_parser_rules.md; reset 0 -/
  | clsBadDest
  /-- CloisterPass; 48; per ingress pipe; R133 05_parser_rules.md; reset 0 -/
  | cloisterPass
  /-- CloisterSecondDrop; 48; per ingress pipe; R133 05_parser_rules.md; reset 0 -/
  | cloisterSecondDrop
  /-- CloisterPoolDrop; 48; per ingress pipe; R133 05_parser_rules.md; reset 0 -/
  | cloisterPoolDrop
  /-- MirrorStaleDest; 48; per pipe, egress from 64; R133 05_parser_rules.md; reset 0 -/
  | mirrorStaleDest
  /-- EgrClsDrop; 48; per egress pipe; R133 05_parser_rules.md; reset 0 -/
  | egrClsDrop
  /-- EditTtlDrop; 48; per egress pipe; R133 05_parser_rules.md; reset 0 -/
  | editTtlDrop
  /-- EgrMirrorCopies; 48; per egress pipe; R133 05_parser_rules.md; reset 0 -/
  | egrMirrorCopies
  /-- EgrTrapCopies; 48; per egress pipe; R133 05_parser_rules.md; reset 0 -/
  | egrTrapCopies
  /-- LookupCycles; 48; per bank by store x 2^16 + bank; R139 06_table_store.md; reset 0 -/
  | lookupCycles
  /-- BankDefer; 48; per bank by store x 2^16 + bank; R139 06_table_store.md; reset 0 -/
  | bankDefer
  /-- BankMergedReads; 48; per bank by store x 2^16 + bank; R139 06_table_store.md; reset 0 -/
  | bankMergedReads
  /-- EmHits; 48; per table; R162 06_table_store.md; reset 0 -/
  | emHits
  /-- EmMisses; 48; per table; R162 06_table_store.md; reset 0 -/
  | emMisses
  /-- EmStashHits; 48; per table; R162 06_table_store.md; reset 0 -/
  | emStashHits
  /-- DirectRange; 48; per table; R162 06_table_store.md; reset 0 -/
  | directRange
  /-- PoisonSkipped; 48; per table; R162 06_table_store.md; reset 0 -/
  | poisonSkipped
  /-- PoisonTrap; 48; per table, 32 + family for LPM; R162 06_table_store.md; reset 0 -/
  | poisonTrap
  /-- LpmHits; 48; per LPM family; R162 06_table_store.md; reset 0 -/
  | lpmHits
  /-- LpmMisses; 48; per LPM family; R162 06_table_store.md; reset 0 -/
  | lpmMisses
  /-- FwdMiss; 48; per ingress pipe; R162 06_table_store.md; reset 0 -/
  | fwdMiss
  /-- NextHopMiss; 48; per egress pipe; R162 06_table_store.md; reset 0 -/
  | nextHopMiss
  /-- CounterPoisonSkip; 48; per counter bank; R162 06_table_store.md; reset 0 -/
  | counterPoisonSkip
  /-- EmInserts; 48; per table; R187 07_table_upkeep.md; reset 0 -/
  | emInserts
  /-- EmRelocations; 48; per table; R187 07_table_upkeep.md; reset 0 -/
  | emRelocations
  /-- EmStashInserts; 48; per table; R187 07_table_upkeep.md; reset 0 -/
  | emStashInserts
  /-- EmStashReinserted; 48; per table; R187 07_table_upkeep.md; reset 0 -/
  | emStashReinserted
  /-- EmInsertNoSpace; 48; per table; R187 07_table_upkeep.md; reset 0 -/
  | emInsertNoSpace
  /-- EmDupRemoved; 48; per table; R187 07_table_upkeep.md; reset 0 -/
  | emDupRemoved
  /-- LearnMerged; 48; per table; R187 07_table_upkeep.md; reset 0 -/
  | learnMerged
  /-- LearnInserted; 48; per table; R187 07_table_upkeep.md; reset 0 -/
  | learnInserted
  /-- LearnMoved; 48; per table; R187 07_table_upkeep.md; reset 0 -/
  | learnMoved
  /-- LearnDup; 48; per table; R187 07_table_upkeep.md; reset 0 -/
  | learnDup
  /-- LearnLockedSkip; 48; per table; R187 07_table_upkeep.md; reset 0 -/
  | learnLockedSkip
  /-- PatinaAged; 48; per table; R187 07_table_upkeep.md; reset 0 -/
  | patinaAged
  /-- PatinaLockedSkip; 48; per table; R187 07_table_upkeep.md; reset 0 -/
  | patinaLockedSkip
  /-- NoticeDrop; 48; per table; R187 07_table_upkeep.md; reset 0 -/
  | noticeDrop
  /-- LearnQueueDrop; 48; per device; R187 07_table_upkeep.md; reset 0 -/
  | learnQueueDrop
  /-- ScrubRounds; 48; per device; R187 07_table_upkeep.md; reset 0 -/
  | scrubRounds
  /-- UpkeepWriteRefused; 48; per bank by store x 2^16 + bank; R187 07_table_upkeep.md; reset 0 -/
  | upkeepWriteRefused
  /-- TurnstileGrants; 48; per Turnstile class; R187 07_table_upkeep.md; reset 0 -/
  | turnstileGrants
  /-- TurnstileStarve; 48; per Turnstile class; R187 07_table_upkeep.md; reset 0 -/
  | turnstileStarve
  /-- SpecTagsAllocated; 48; per ingress pipe; R208 08_runahead.md; reset 0 -/
  | specTagsAllocated
  /-- SpecConfirm; 48; per ingress pipe; R208 08_runahead.md; reset 0 -/
  | specConfirm
  /-- SpecRollbackMac; 48; per ingress pipe; R208 08_runahead.md; reset 0 -/
  | specRollbackMac
  /-- SpecRollbackIcv; 48; per ingress pipe; R208 08_runahead.md; reset 0 -/
  | specRollbackIcv
  /-- SpecTagExhausted; 48; per ingress pipe; R208 08_runahead.md; reset 0 -/
  | specTagExhausted
  /-- RunaheadHold; 48; per ingress pipe; R208 08_runahead.md; reset 0 -/
  | runaheadHold
  /-- QueueAdmitted; 48; per queue; R231 09_buffer.md; reset 0 -/
  | queueAdmitted
  /-- QueueDropQmax; 48; per queue; R231 09_buffer.md; reset 0 -/
  | queueDropQmax
  /-- QueueDropDt; 48; per queue; R231 09_buffer.md; reset 0 -/
  | queueDropDt
  /-- QueueDropPhys; 48; per queue; R231 09_buffer.md; reset 0 -/
  | queueDropPhys
  /-- QueuePushOut; 48; per queue; R231 09_buffer.md; reset 0 -/
  | queuePushOut
  /-- QueueEcnMarked; 48; per queue; R231 09_buffer.md; reset 0 -/
  | queueEcnMarked
  /-- PoolDrop; 48; per pool; R231 09_buffer.md; reset 0 -/
  | poolDrop
  /-- PushOuts; 48; per pool; R231 09_buffer.md; reset 0 -/
  | pushOuts
  /-- PgXoff; 48; per port x 8 + priority; R231 09_buffer.md; reset 0 -/
  | pgXoff
  /-- HeadroomDrop; 48; per port x 8 + priority; R231 09_buffer.md; reset 0 -/
  | headroomDrop
  /-- AllocFail; 48; per partition; R231 09_buffer.md; reset 0 -/
  | allocFail
  /-- AllocRetry; 48; per partition; R231 09_buffer.md; reset 0 -/
  | allocRetry
  /-- BufDoubleFree; 48; per partition; R231 09_buffer.md; reset 0 -/
  | bufDoubleFree
  /-- BufForeignFree; 48; per partition; R231 09_buffer.md; reset 0 -/
  | bufForeignFree
  /-- FreeDeferred; 48; per partition; R231 09_buffer.md; reset 0 -/
  | freeDeferred
  /-- StageACells; 48; per ingress slice; R257 10_trellis.md; reset 0 -/
  | stageACells
  /-- StageAFull; 48; per ingress slice; R257 10_trellis.md; reset 0 -/
  | stageAFull
  /-- MatchAccepts; 48; per slice x 4 + iteration; R257 10_trellis.md; reset 0 -/
  | matchAccepts
  /-- MatchIdleSlots; 48; per egress slice; R257 10_trellis.md; reset 0 -/
  | matchIdleSlots
  /-- ReseqTimeout; 48; per egress slice; R257 10_trellis.md; reset 0 -/
  | reseqTimeout
  /-- ReseqLateDiscard; 48; per egress slice; R257 10_trellis.md; reset 0 -/
  | reseqLateDiscard
  /-- TrellisHeaderLoss; 48; per egress slice; R257 10_trellis.md; reset 0 -/
  | trellisHeaderLoss
  /-- RetireFlush; 48; per egress slice; R257 10_trellis.md; reset 0 -/
  | retireFlush
  /-- McastStaleMember; 48; per egress slice; R257 10_trellis.md; reset 0 -/
  | mcastStaleMember
  /-- ChannelCE; 48; per channel; R257 10_trellis.md; reset 0 -/
  | channelCE
  /-- ChannelUE; 48; per channel; R257 10_trellis.md; reset 0 -/
  | channelUE
  /-- ChannelCells; 48; per channel; R257 10_trellis.md; reset 0 -/
  | channelCells
  /-- CutThroughStarted; 48; per port; R257 10_trellis.md; reset 0 -/
  | cutThroughStarted
  /-- CutThroughUnderrun; 48; per port; R257 10_trellis.md; reset 0 -/
  | cutThroughUnderrun
  /-- McastDropQueue; 48; per port; R257 10_trellis.md; reset 0 -/
  | mcastDropQueue
  /-- McastDropDown; 48; per port; R257 10_trellis.md; reset 0 -/
  | mcastDropDown
  /-- McastDropHold; 48; per port; R257 10_trellis.md; reset 0 -/
  | mcastDropHold
  /-- McastDropLate; 48; per port; R257 10_trellis.md; reset 0 -/
  | mcastDropLate
  /-- PtpCorrectSkipped; 32; per port; R284 11_time.md; reset 0 -/
  | ptpCorrectSkipped
  /-- PpsInRejected; 32; per PPS pin; R284 11_time.md; reset 0 -/
  | ppsInRejected
  /-- PpsInOverflow; 32; per PPS pin; R284 11_time.md; reset 0 -/
  | ppsInOverflow
  /-- QueueFlushDrop; 48; per queue; R312 12_egress.md; reset 0 -/
  | queueFlushDrop
  /-- EgressDownDrop; 48; per queue; R312 12_egress.md; reset 0 -/
  | egressDownDrop
  /-- GateNoFitDrop; 48; per queue; R312 12_egress.md; reset 0 -/
  | gateNoFitDrop
  /-- LaunchLateDrop; 48; per queue; R312 12_egress.md; reset 0 -/
  | launchLateDrop
  /-- LaunchLateSent; 48; per queue; R312 12_egress.md; reset 0 -/
  | launchLateSent
  /-- LaunchNoTime; 48; per queue; R312 12_egress.md; reset 0 -/
  | launchNoTime
  /-- PfcWdTrips; 48; per queue; R312 12_egress.md; reset 0 -/
  | pfcWdTrips
  /-- PfcWdDrain; 48; per queue; R312 12_egress.md; reset 0 -/
  | pfcWdDrain
  /-- HandOvers; 48; per queue; R312 12_egress.md; reset 0 -/
  | handOvers
  /-- GateSlip; 48; per port; R312 12_egress.md; reset 0 -/
  | gateSlip
  /-- GateHeld; 48; per port; R312 12_egress.md; reset 0 -/
  | gateHeld
  /-- GuardReturns; 48; per port; R312 12_egress.md; reset 0 -/
  | guardReturns
  /-- GateTakeovers; 48; per port; R312 12_egress.md; reset 0 -/
  | gateTakeovers
  /-- ExportPackets; 48; per stream; R336 13_telemetry.md; reset 0 -/
  | exportPackets
  /-- ExportRecords; 48; per stream; R336 13_telemetry.md; reset 0 -/
  | exportRecords
  /-- ExportDrop; 48; per stream; R336 13_telemetry.md; reset 0 -/
  | exportDrop
  /-- ExportOverrun; 48; per stream; R336 13_telemetry.md; reset 0 -/
  | exportOverrun
  /-- ReportDrop; 48; per stream; R336 13_telemetry.md; reset 0 -/
  | reportDrop
  /-- ThrottleNotices; 48; per stream; R336 13_telemetry.md; reset 0 -/
  | throttleNotices
  /-- ReportSuppressed; 48; per queue; R336 13_telemetry.md; reset 0 -/
  | reportSuppressed
  /-- IoamUpdated; 48; per port; R336 13_telemetry.md; reset 0 -/
  | ioamUpdated
  /-- IoamOverflow; 48; per port; R336 13_telemetry.md; reset 0 -/
  | ioamOverflow
  /-- IoamSkipped; 48; per port; R336 13_telemetry.md; reset 0 -/
  | ioamSkipped
  /-- IoamUnsupported; 48; per port; R336 13_telemetry.md; reset 0 -/
  | ioamUnsupported
  /-- CmdAccepted; 48; per command ring; R373 14_commands.md; reset 0 -/
  | cmdAccepted
  /-- CmdRefused; 48; per command ring; R373 14_commands.md; reset 0 -/
  | cmdRefused
  /-- EventRingDrop; 48; per event ring; R373 14_commands.md; reset 0 -/
  | eventRingDrop
  /-- InjectDrop; 48; per transmit ring; R373 14_commands.md; reset 0 -/
  | injectDrop
  /-- InjectBadDesc; 48; per transmit ring; R373 14_commands.md; reset 0 -/
  | injectBadDesc
  /-- StateDrop; 48; per ingress pipe; R373 14_commands.md; reset 0 -/
  | stateDrop
  /-- ArmJobs; 48; per Armature engine; R390 15_armature.md; reset 0 -/
  | armJobs
  /-- ArmCommits; 48; per Armature engine; R390 15_armature.md; reset 0 -/
  | armCommits
  /-- ArmAbandonRefused; 48; per Armature engine; R390 15_armature.md; reset 0 -/
  | armAbandonRefused
  /-- ArmAbandonFault; 48; per Armature engine; R390 15_armature.md; reset 0 -/
  | armAbandonFault
  /-- ArmAbandonLive; 48; per Armature engine; R390 15_armature.md; reset 0 -/
  | armAbandonLive
  /-- ArmGiveUp; 48; per Armature engine; R390 15_armature.md; reset 0 -/
  | armGiveUp
  /-- ArmMicrowords; 48; per Armature engine; R390 15_armature.md; reset 0 -/
  | armMicrowords
  /-- ColFramesTx; 48; per device; R411 16_twin_ring.md; reset 0 -/
  | colFramesTx
  /-- ColFramesRx; 48; per device; R411 16_twin_ring.md; reset 0 -/
  | colFramesRx
  /-- ColRetries; 48; per device; R411 16_twin_ring.md; reset 0 -/
  | colRetries
  /-- ColHeartbeatMissed; 48; per device; R411 16_twin_ring.md; reset 0 -/
  | colHeartbeatMissed
  /-- TwinCommits; 48; per device; R411 16_twin_ring.md; reset 0 -/
  | twinCommits
  /-- TwinFailed; 48; per device; R411 16_twin_ring.md; reset 0 -/
  | twinFailed
  /-- TwinDiverged; 48; per device; R411 16_twin_ring.md; reset 0 -/
  | twinDiverged
  /-- RingFramesRelayed; 48; per ring port, 0 east 1 west; R411 16_twin_ring.md; reset 0 -/
  | ringFramesRelayed
  /-- RingRetries; 48; per ring port, 0 east 1 west; R411 16_twin_ring.md; reset 0 -/
  | ringRetries
  /-- RingTtlDrop; 48; per ring port, 0 east 1 west; R411 16_twin_ring.md; reset 0 -/
  | ringTtlDrop
  /-- EccCorrected; 48; per array class; R440 17_faults.md; reset 0 -/
  | eccCorrected
  /-- EccUncorrected; 48; per array class; R440 17_faults.md; reset 0 -/
  | eccUncorrected
  /-- EccWriteBacks; 48; per array class; R440 17_faults.md; reset 0 -/
  | eccWriteBacks
  /-- PoisonConsumed; 48; per array class; R440 17_faults.md; reset 0 -/
  | poisonConsumed
  /-- WireFaults; 48; per source; R440 17_faults.md; reset 0 -/
  | wireFaults
  /-- FaultLogOverwritten; 48; per device; R440 17_faults.md; reset 0 -/
  | faultLogOverwritten
  /-- EgressPoisonDrop; 48; per port; R440 17_faults.md; reset 0 -/
  | egressPoisonDrop
  /-- PipeUeDrop; 48; per pipe; R440 17_faults.md; reset 0 -/
  | pipeUeDrop
deriving DecidableEq, Repr

end Sys2Proof.Machine
end

