-- ==== Sys2Proof/Machine/StCommands.lean ====
section
/-! DEFINITION. State of the command unit, the host rings, the event controller, sessions and groups
(spec/14_commands.md, spec/22_registers.md). Each field's docstring reads: name; width; rule and file; reset. -/

namespace Sys2Proof.Machine

/-- The device states of R352, by their codes 0 to 7. -/
inductive DevState where
  | reset | boot | configure | service | drain | resync | dormant | isolated
deriving DecidableEq, Repr

/-- One host ring (R338, R339, R509, R510). Packet and command rings share the form. -/
structure Ring where
  /-- RingBase; 64; R509 22_registers.md; reset 0 (DESIGN CHOICE, log 4) -/
  base : BitVec 64
  /-- RingWriteBack; 64; R509 22_registers.md; reset 0 (DESIGN CHOICE, log 4) -/
  writeBack : BitVec 64
  /-- RingControl.EN; 1; R510 22_registers.md; reset 0 -/
  en : Bool
  /-- RingControl.ERR; 1; R510 22_registers.md; reset 0 -/
  err : Bool
  /-- RingControl.FUNC; 3; R510 22_registers.md; reset 0 -/
  func : Nat
  /-- RingControl.SIZE_EXP; 5; R510 22_registers.md; reset 6 -/
  sizeExp : Nat
  /-- RingControl.VECTOR; 8; R342 14_commands.md, R510 22_registers.md; reset as R342 assigns -/
  vector : Nat
  /-- RingControl.MIN_GAP; 10; R342 14_commands.md, R510 22_registers.md; reset 0 -/
  minGap : Nat
  /-- RingControl.DEV_INDEX; 16; R510 22_registers.md; reset 0 -/
  devIndex : Nat
  /-- RingControl.HOST_INDEX; 16; R510 22_registers.md; reset 0 -/
  hostIndex : Nat
  /-- instant (core clock) of the ring's last signal; none before the first; R342 14_commands.md; reset none -/
  lastSignal : Option Nat
  /-- a signal is due and not yet sent; 1; R342 14_commands.md; reset 0 -/
  signalDue : Bool
  /-- records written to an event ring (SEQUENCE); 32; R369 14_commands.md; reset 0 -/
  seq : Nat
  /-- LOST pends for the next record of an event ring; 1; R370 14_commands.md; reset 0 -/
  lost : Bool
  /-- epoch in which this event ring last raised EVENT_RING_DROP; R370 14_commands.md; reset none -/
  dropEpoch : Option Nat
  /-- a doorbell value kept in BOOT (R485, spec/20_startup.md); reset none -/
  kept : Option Nat
deriving DecidableEq, Repr

/-- A command the device has taken from a submit ring and not yet replied to (R341), and whether it has started. -/
structure Taken where
  hdr : Hdr
  opcode : Nat
  started : Bool
  /-- its ring has been disabled since: the reply is discarded -/
  dead : Bool
deriving DecidableEq, Repr

/-- A command taken whose reply is still to come, with the bytes of its opcode and parameters (R474), none for a
command that does not extend the configuration digest. -/
structure Running where
  hdr : Hdr
  opcode : Nat
  digest : Option (List Byte)
deriving DecidableEq, Repr

/-- A session of R350: its sender (host ring number, or 64 + sending device), its target, and the agreed versions. -/
structure Session where
  sender : Nat
  target : Nat
  major : Nat
  minor : Nat
  telemetry : Nat
deriving DecidableEq, Repr

/-- A reply as the device writes it (R344), with the result words that follow the header. -/
structure Reply where
  origin : Origin
  status : Nat
  opcode : Nat
  tag : Nat
  device : Nat
  state : Nat
  detail : Nat
  resultLen : Nat
  result : BitVec 64
  logged : BitVec 64
  payload : List Nat
deriving DecidableEq, Repr

/-- An event record of R369; `clock` is the clock within the tick at the raise, which orders the records of one clock
(R368) and is no field of the record. -/
structure EventRec where
  ring : Nat
  source : Nat
  severity : Nat
  repeated : Bool
  lost : Bool
  inst : Nat
  epoch : Nat
  tick : Nat
  device : Nat
  seq : Nat
  detail : BitVec 64
  clock : Nat
deriving DecidableEq, Repr

/-- A command relayed to another device, its reply awaited for 100 ms (R354, R361). -/
structure Relay where
  id : Nat
  hdr : Hdr
  opcode : Nat
  sentAt : Nat
deriving DecidableEq, Repr

/-- One entry of the violation log (R517). -/
structure Violation where
  kind : Nat
  write : Bool
  func : Nat
  width : Nat
  offset : Nat
  stamp : Nat
deriving DecidableEq, Repr

/-- A filled packet receive entry (R363): what the device hands to a CPU receive ring. -/
structure RxEntry where
  ring : Nat
  len : Nat
  ingressPort : Nat
  queue : Nat
  tsValid : Bool
  trunc : Bool
  cloister : Bool
  td : Nat
  reason : Nat
  ts : Nat
  version : Nat
  bytes : List Byte
deriving DecidableEq, Repr

/-- A time-stamp record of R275 (spec/11_time.md). -/
structure TsRecord where
  ring : Nat
  kind : Nat
  td : Nat
  cookie : Nat
  port : Nat
  ts : Nat
  epoch : Nat
  tick : Nat
deriving DecidableEq, Repr

/-- What the device has put out towards the outside world, newest first in every list: replies (R344), event records
(R369), MSI-X vectors signalled (R342), filled receive entries (R363) and transmit completions (R275). -/
structure HostOut where
  /-- replies written; R344 14_commands.md; reset empty -/
  replies : List Reply
  /-- indexes written to the rings' write-back addresses: ring, address, index; R339 14_commands.md; reset empty -/
  writeBacks : List (Nat × BitVec 64 × Nat)
  /-- event records written; R369 14_commands.md; reset empty -/
  events : List EventRec
  /-- MSI-X vectors signalled; R342 14_commands.md; reset empty -/
  msix : List Nat
  /-- receive entries filled; R363 14_commands.md; reset empty -/
  rx : List RxEntry
  /-- transmit completion records; R275 11_time.md; reset empty -/
  txDone : List TsRecord
  /-- bytes returned by SMBus block reads; R500 21_electrical.md; reset empty -/
  smbus : List (List Byte)
  /-- values returned by BAR0 reads, none for an Unsupported Request; R8 00_scope.md, R506 22_registers.md; reset empty -/
  reads : List (Option (BitVec 64))
  /-- offsets of BAR0 reads completed with the poisoned (EP) bit; R435 17_faults.md; reset empty -/
  epReads : List Nat
  /-- bytes placed in host memory by TABLE_DMA_READ: bank, bucket and slot images; R184 07_table_upkeep.md; reset empty -/
  dma : List (Nat × Nat × List (BitVec 256))
deriving DecidableEq, Repr

/-- A command on a unit, accepted at a CYCLE_STAMP: a reaction of the same clock makes it refused after all (R255, R422). -/
structure UnitCmd where
  unit : UnitRef
  stamp : Nat
  hdr : Hdr
  op : Nat
deriving DecidableEq, Repr

/-- The latch of a function for the high half of a counter (R506): its offset and value. -/
structure Latch where
  offset : Nat
  high : Nat
deriving DecidableEq, Repr

/-- State of the command unit. -/
structure Commands where
  /-- device state; 3; R352 14_commands.md; reset RESET -/
  dev : DevState
  /-- rings by RID 0-227; R338 14_commands.md, R509 22_registers.md; reset as R510 gives -/
  rings : Arr Ring
  /-- command taken from each submit ring and not replied to; R341 14_commands.md; reset none -/
  taken : Arr (Option Taken)
  /-- commands whose reply is still to come; R341, R347 14_commands.md; reset empty -/
  running : List Running
  /-- sessions; R350 14_commands.md; reset none open -/
  sessions : List Session
  /-- EventStatus[g]; 32 each, 32 groups; R367 14_commands.md, R512 22_registers.md; reset 0 -/
  evStatus : Arr (BitVec 32)
  /-- CYCLE_STAMP at which each status bit was last set from 0, plus 1, by source (REPEAT of R369); R369 14_commands.md;
  reset 0 -/
  evSetAt : Arr Nat
  /-- CYCLE_STAMP at which each source was last raised, plus 1 (same-clock clears of R6); R367 14_commands.md; reset 0 -/
  evRaisedAt : Arr Nat
  /-- EventEnable[g]; 32 each; R367 14_commands.md, R512 22_registers.md; reset every assigned source set -/
  evEnable : Arr (BitVec 32)
  /-- EventRoute[g]; 2 each; R367 14_commands.md, R512 22_registers.md; reset 0 -/
  evRoute : Arr Nat
  /-- CPU queue to receive ring map; 6 each, 256 queues; R362 14_commands.md; reset c mod 64 -/
  cpuMap : Arr Nat
  /-- relayed commands awaiting their reply; R354, R361 14_commands.md; reset empty -/
  relays : List Relay
  /-- number of the next relayed command; R354 14_commands.md; reset 0 -/
  relayNext : Nat
  /-- violation log; 64 entries; R517 22_registers.md; reset empty -/
  violations : Arr (Option Violation)
  /-- ViolationCount; 32; R517 22_registers.md; reset 0 -/
  violCount : Nat
  /-- high-half latch of each PCIe function; R506 22_registers.md; reset none -/
  latches : Arr (Option Latch)
  /-- sending device whose relayed command or twin whose mirrored command comes next, as the message that carried it
  left it: opcode awaited, and the value that the LEAD has chosen for the command (S of MAQUETTE_OPEN, a GROUP_ID); R354
  14_commands.md, R399, R401 16_twin_ring.md; reset none -/
  carried : List (Origin × Nat × Option Nat)
  /-- MSI-X table as 64-bit words, 512 of them; R342 14_commands.md, R505 22_registers.md; reset 0 (DESIGN CHOICE,
  log 4) -/
  msixTable : Arr (BitVec 64)
  /-- pending-bit array of the MSI-X vectors; 256; R505 22_registers.md; reset 0 (DESIGN CHOICE, log 4) -/
  msixPending : BitVec 256
  /-- commands on units accepted in the present tick; R255 10_trellis.md, R422 17_faults.md; reset empty -/
  unitCmds : List UnitCmd
  /-- what was put out to the host; R344, R369 14_commands.md; reset empty -/
  out : HostOut
  /-- event records of the present clock that go to the root over the ring, with their event rings; R368 14_commands.md;
  reset empty -/
  eventsDue : List (Nat × EventRec)
deriving DecidableEq, Repr

end Sys2Proof.Machine
end

