-- ==== Sys2Proof/Machine/StFaults.lean ====
section
/-! DEFINITION. State of the fault collector, ECC and unit retirement (spec/17_faults.md). -/

namespace Sys2Proof.Machine

/-- One fault log entry (R418). `reaction` is coded 0 REPORT to 4 ISOLATE, 7 WITHHELD. -/
structure LogEntry where
  seq : Nat
  source : Nat
  severity : Nat
  wire : Bool
  permanent : Bool
  first : Bool
  reaction : Nat
  inst : Nat
  stamp : Nat
  detail : BitVec 64
deriving DecidableEq, Repr

/-- The first-error record (R419, spec/17_faults.md; FirstErrorStatus, FirstErrorStamp, FirstErrorDetail). -/
structure FirstError where
  /-- FirstErrorStatus.VALID; 1; R419 17_faults.md; reset 0 -/
  valid : Bool
  /-- FirstErrorStatus.SIMULTANEOUS; 1; R419 17_faults.md; reset 0 -/
  simultaneous : Bool
  /-- FirstErrorStatus.WIRE; 1; R419 17_faults.md; reset 0 -/
  wire : Bool
  /-- FirstErrorStatus.PERMANENT; 1; R419 17_faults.md; reset 0 -/
  permanent : Bool
  /-- FirstErrorStatus.SEVERITY; 3; R419 17_faults.md; reset 0 -/
  severity : Nat
  /-- FirstErrorStatus.REACTION; 3; R419 17_faults.md; reset 0 -/
  reaction : Nat
  /-- FirstErrorStatus.SOURCE; 10; R419 17_faults.md; reset 0 -/
  source : Nat
  /-- FirstErrorStatus.INSTANCE; 32; R419 17_faults.md; reset 0 -/
  inst : Nat
  /-- FirstErrorStamp; 64; R419 17_faults.md; reset 0 -/
  stamp : Nat
  /-- FirstErrorDetail; 64; R419 17_faults.md; reset 0 -/
  detail : BitVec 64
deriving DecidableEq, Repr

/-- The RW fields of a reaction-table entry (R421). -/
structure ReactEntry where
  /-- REACTION; 3; R421 17_faults.md; reset 0 (REPORT) -/
  reaction : Nat
  /-- COUNT; 8; R421 17_faults.md; reset 3 -/
  count : Nat
  /-- WINDOW_MS; 16; R421 17_faults.md; reset 1000 -/
  windowMs : Nat
  /-- CLEAR_S; 16; R421 17_faults.md; reset 10 -/
  clearS : Nat
deriving DecidableEq, Repr

/-- What the device keeps of one instance of a source with PERM = 1 (R423): its last COUNT stamps, newest first,
whether it is permanent, and the core clock of its last counted raise. -/
structure FaultInst where
  stamps : List Nat
  permanent : Bool
  lastCounted : Nat
deriving DecidableEq, Repr

/-- A bank being copied to its spare, or back (R426): store 0 exact-match, 1 LPM, 2 counters; group; bank; units copied;
whether it copies back; and the epoch of the switch once set. -/
structure SpareJob where
  store : Nat
  group : Nat
  bank : Nat
  copied : Nat
  back : Bool
  switchAt : Option Nat
deriving DecidableEq, Repr

/-- The life of a partition bank (R427): live, detached since the boundary of an epoch, retired. -/
inductive BankLife where
  | live
  | detached (epoch : Nat)
  | retired
deriving DecidableEq, Repr

/-- State of the fault collector and of the units it retires and fences. -/
structure Faults where
  /-- fault log; 4096 entries by SEQUENCE mod 4096; R418 17_faults.md, R516 22_registers.md; reset empty -/
  log : Arr (Option LogEntry)
  /-- FaultLogHead.NEXT_SEQ; 32; R516 22_registers.md; reset 0 -/
  nextSeq : Nat
  /-- first-error record; R419 17_faults.md; reset as its fields give -/
  first : FirstError
  /-- a qualifying raise that met VALID = 1, with its clock (R420); R419 17_faults.md; reset none -/
  firstNext : Option FirstError
  /-- LOG_MIN_SEV; 3; R417 17_faults.md; reset 1 -/
  logMinSev : Nat
  /-- FIRST_MIN_SEV; 3; R417 17_faults.md; reset 2 -/
  firstMinSev : Nat
  /-- ISOLATE_PORTS; 1; R417 17_faults.md; reset 0 -/
  isolatePorts : Nat
  /-- reaction table; 1024 entries; R421 17_faults.md; reset REPORT, 3, 1000, 10 -/
  react : Arr ReactEntry
  /-- stamps and permanence by source x 2^32 + instance; R423 17_faults.md; reset empty -/
  insts : Arr FaultInst
  /-- masked error pairs by source; 1 each; R414 17_faults.md; reset 0 -/
  masked : Arr Bool
  /-- core clock of the last wire fault of a masked pair; R414 17_faults.md; reset 0 -/
  maskedAt : Arr Nat
  /-- addresses of stash copies whose word has an uncorrectable error not yet written back; R431 17_faults.md; reset empty -/
  stashBad : List (BitVec 64)
  /-- correctable words awaiting write-back, by address; R432 17_faults.md; reset empty -/
  writeBacks : List (BitVec 64)
  /-- poisoned words whose marker is not yet written; R434 17_faults.md; reset empty -/
  markers : List (BitVec 64)
  /-- words of arrays other than table stores that carry poison, by address of R436; R434 17_faults.md; reset empty -/
  poisoned : List (BitVec 64)
  /-- bank copies in progress; R426 17_faults.md; reset empty -/
  spareJobs : List SpareJob
  /-- bank whose spare is in use, by store x 2^16 + group; R426 17_faults.md; reset none -/
  spareOf : Arr (Option Nat)
  /-- retired pipes, 0-63 ingress and 64-127 egress; R428 17_faults.md; reset none -/
  pipeRetired : Arr Bool
  /-- retired ingress pipes whose tag pools wait for rollbacks to complete; R202, R428 17_faults.md; reset none -/
  pipeClosing : List Nat
  /-- fenced slices; R429 17_faults.md; reset none -/
  sliceFenced : Arr Bool
  /-- fenced ternary replicas; R429 17_faults.md; reset none -/
  replicaFenced : Arr Bool
  /-- partition banks by partition x 32 + bank; R427 17_faults.md; reset live -/
  partBank : Arr BankLife
  /-- units on which a reaction was decided, with its CYCLE_STAMP and strength; R422 17_faults.md; reset empty -/
  decided : List (UnitRef × Nat × Nat)
  /-- next row or comparator of each replica's background port; 15; R431 17_faults.md; reset 0 (DESIGN CHOICE, log 4) -/
  bgPos : Arr Nat
  /-- a data word of a Belvedere memory has been found bad, which the next command to execute reads; 1; R431 17_faults.md; reset 0 -/
  dataBad : Bool
  /-- THERMTRIP_N driven low; 1; R438 17_faults.md; reset 0 -/
  thermtripPin : Bool
  /-- THERMTRIP_SEEN of the Gatehouse; 1; R438 17_faults.md; reset 0 -/
  thermtripSeen : Bool
  /-- VDD_CORE has been removed since THERMTRIP_N was latched; 1; R438 17_faults.md; reset 0 -/
  thermtripFree : Bool
deriving DecidableEq, Repr

end Sys2Proof.Machine
end

