-- ==== Sys2Proof/Machine/StLanes.lean ====
section
/-! DEFINITION. State of the lane tiles, lanes, octets, ports and their MACs (spec/02_lanes.md, spec/03_ports.md). -/

namespace Sys2Proof.Machine

/-- The lane states of R39, by their codes 0 to 11. -/
inductive LaneState where
  | disabled | signalDetect | ctleAdapt | cdrLock | training | polarity | laneOrder | fecLock | up | test | calFailed
  | retired
deriving DecidableEq, Repr

/-- An eye scan of a lane with its result header and counts (R44 to R46). -/
structure Scan where
  id : Nat
  rate : Nat
  eye : Nat
  phaseStart : Int
  phaseStep : Nat
  phaseCount : Nat
  voltStart : Int
  voltStep : Nat
  voltCount : Nat
  dwellExp : Nat
  status : Nat
  done : Nat
  startEpoch : Nat
  endEpoch : Nat
  counts : List Nat
  endedAt : Nat
deriving DecidableEq, Repr

/-- One lane. -/
structure Lane where
  /-- lane configuration record, LANE_STATE field kept apart; 64; R35 02_lanes.md; reset as R35 gives -/
  cfg : BitVec 64
  /-- LANE_STATE; 4; R35, R39 02_lanes.md; reset DISABLED -/
  st : LaneState
  /-- core clock at which the present bring-up state was entered; R39 02_lanes.md; reset 0 -/
  since : Nat
  /-- stamps (core clocks) of the last COUNT counted errors, newest first; R50 02_lanes.md; reset empty -/
  stamps : List Nat
  /-- permanent; 1; R50 02_lanes.md; reset 0 -/
  permanent : Bool
  /-- core clocks of UP since the last counted error, up to `upSince`; R50 02_lanes.md; reset 0 -/
  upFor : Nat
  /-- core clock of the last bring-up restart after a counted error; R50 02_lanes.md; reset none -/
  restartAt : Option Nat
  /-- a bring-up restart waits for RETRY_HOLDOFF; 1; R50 02_lanes.md; reset 0 -/
  held : Bool
  /-- generator and checker pattern, 0 OFF; R43 02_lanes.md; reset OFF -/
  prbsGen : Nat
  prbsChk : Nat
  /-- loopback mode 0 OFF, 1 NEAR, 2 FAR; R43 02_lanes.md; reset OFF -/
  loopback : Nat
  /-- the lane's scan and its result; R44, R46 02_lanes.md; reset none -/
  scan : Option Scan
  /-- LaneSnr; 16; R47 02_lanes.md; reset 0 (DESIGN CHOICE, log 4) -/
  snr : Nat
  /-- transmitter squelched, receiver powered down; 1; R51 02_lanes.md; reset 0 -/
  squelched : Bool
  /-- core clock of the last 1 s interval's end, and LaneSer1s before it; R47 02_lanes.md; reset none -/
  serWas : Option (Nat × Nat)
deriving DecidableEq, Repr

/-- ORDER_STATE of an octet (R41). -/
inductive OrderState where
  | pending | decided | assumed | conflict | forced
deriving DecidableEq, Repr

/-- One octet: layout and receive order. -/
structure Octet where
  /-- rate code; 2; R33, R54 03_ports.md; reset 0 -/
  rate : Nat
  /-- START_MASK; 8; R54 03_ports.md; reset 0 -/
  mask : BitVec 8
  /-- queue mode Q16; 1; R287 12_egress.md; reset Q8 -/
  q16 : Bool
  /-- receive order mode 0 AUTO, 1 IDENTITY, 2 REVERSED; R41 02_lanes.md; reset AUTO -/
  orderMode : Nat
  /-- ORDER_STATE; R41 02_lanes.md; reset PENDING -/
  orderState : OrderState
  /-- receive order in use is REVERSED; 1; R41 02_lanes.md; reset 0 -/
  reversed : Bool
  /-- core clock at which the order window opened; R41 02_lanes.md; reset none -/
  windowFrom : Option Nat
  /-- TRAIN_TIMEOUT in ms; R39 02_lanes.md; reset 500 -/
  trainMs : Nat
  /-- SER_EXP; R48 02_lanes.md; reset 4 -/
  serExp : Nat
  /-- RETRY_HOLDOFF in ms; R50 02_lanes.md; reset 100 -/
  holdoffMs : Nat
  /-- ports whose evidence contradicts the decision; R41 02_lanes.md; reset none -/
  contrary : List Nat
deriving DecidableEq, Repr

/-- One port, by its index (R56). -/
structure Port where
  /-- port configuration record; 64; R59 03_ports.md; reset as R59 gives -/
  cfg : BitVec 64
  /-- enabled; 1; R69 03_ports.md; reset 0 -/
  enabled : Bool
  /-- reported link state UP; 1; R68 03_ports.md; reset 0 -/
  linkUp : Bool
  /-- raw link up; 1; R67 03_ports.md; reset 0 -/
  rawUp : Bool
  /-- core clock at which the raw link last changed; R68 03_ports.md; reset 0 -/
  rawSince : Nat
  /-- PCS aligned and deskewed; 1; R67 03_ports.md; reset 0 -/
  aligned : Bool
  /-- local fault present; 1; R67 03_ports.md; reset 0 -/
  localFault : Bool
  /-- remote fault present; 1; R67 03_ports.md; reset 0 -/
  remoteFault : Bool
  /-- first lane and width in use after narrowing; R70 03_ports.md; reset none -/
  narrowed : Option (Nat × Nat)
  /-- resolved auto-negotiation ability, none unresolved; R66 03_ports.md; reset none -/
  ability : Option Nat
  /-- pause timers, newest first: 0 to 7 priorities, 8 the port; core clock at which the pause ends; tick stamp at which
  it was loaded, before which the schedulers see the load before it; R64 03_ports.md; reset none -/
  pause : List (Nat × Nat × Nat)
  /-- XOFF requests standing, by priority (0 under PAUSE); core clock of the last XOFF sent; R65 03_ports.md,
  R221 09_buffer.md; reset none -/
  xoff : List (Nat × Nat)
  /-- values of MAX_FRAME that have been replaced, newest first, with the core clock of the replacement: a frame keeps the
  value of its first byte; R60 03_ports.md; reset empty -/
  maxPast : List (Nat × Nat)
  /-- core clock until which pause and PFC frames occupy the transmit MAC; R65 03_ports.md; reset 0 -/
  flowUntil : Nat
  /-- pause and PFC frames in transmission or behind it: clock of the end, priority, quanta; R65 03_ports.md; reset empty -/
  flowSent : List (Nat × Nat × Nat)
  /-- pause and PFC frames that wait for the end of the data frame in transmission: priority, quanta; R65 03_ports.md;
  reset empty -/
  flowDue : List (Nat × Nat)
deriving DecidableEq, Repr

/-- State of the lane tiles and of the port logic upon them. -/
structure LanePlane where
  /-- lanes 0-1023; R10 01_architecture.md, R35 02_lanes.md; reset as each field gives -/
  lanes : Arr Lane
  /-- octets 0-127; R41 02_lanes.md, R54 03_ports.md; reset as each field gives -/
  octets : Arr Octet
  /-- ports by index 0-1023; R56 03_ports.md; reset as each field gives -/
  ports : Arr Port
  /-- tiles released by the boot ROM and not yet calibrated; R38 02_lanes.md; reset none -/
  calibrating : List Nat
  /-- tiles whose calibration has ended; R38 02_lanes.md; reset none -/
  calibrated : List Nat
  /-- next scan identifier; R44 02_lanes.md; reset 1 (DESIGN CHOICE, log 4) -/
  scanNext : Nat
  /-- pause and PFC frames the MACs have sent, newest first: port, priorities, quanta; R65 03_ports.md; reset empty -/
  pauseSent : List (Nat × BitVec 8 × Nat)
  /-- ports whose MAC sends remote fault; R67 03_ports.md; reset none -/
  sendsRemoteFault : List Nat
deriving DecidableEq, Repr

end Sys2Proof.Machine
end

