-- ==== Sys2Proof/Machine/StCipher.lean ====
section
/-! DEFINITION. State of the line cipher engines, the secure-association store and the lookaside engine
(spec/04_link_cipher.md). -/

namespace Sys2Proof.Machine

/-- A secure channel, receive (direction 0) or transmit (direction 1), by its global index (R77). -/
structure Sc where
  /-- SC created; 1; R77 04_link_cipher.md; reset 0 -/
  valid : Bool
  /-- port that owns the SC; 10; R77 04_link_cipher.md; reset 0 -/
  port : Nat
  /-- SCI; 64; R102 04_link_cipher.md; reset 0 -/
  sci : BitVec 64
  /-- REPLAY_PROTECT; 1; R82 04_link_cipher.md; reset 1 -/
  replayProtect : Bool
  /-- REPLAY_WINDOW; 32; R82 04_link_cipher.md; reset 0 -/
  replayWindow : Nat
  /-- PN_THRESHOLD, none for the default of the suite; 64; R90 04_link_cipher.md; reset none -/
  pnThreshold : Option Nat
  /-- encoding AN of a transmit SC; 2; R91 04_link_cipher.md; reset none -/
  enc : Option Nat
deriving DecidableEq, Repr

/-- A secure association, by direction and global index SC x 4 + AN (R77, R80). -/
structure Sa where
  /-- ACTIVE or ERASED rather than ABSENT; 1; R102 04_link_cipher.md; reset ABSENT -/
  present : Bool
  /-- ERASED; 1; R94 04_link_cipher.md; reset 0 -/
  erased : Bool
  /-- KEY; 256, write-only; R80 04_link_cipher.md; reset 0 -/
  key : BitVec 256
  /-- SALT; 96; R80 04_link_cipher.md; reset 0 -/
  salt : BitVec 96
  /-- SSCI; 32; R80 04_link_cipher.md; reset 0 -/
  ssci : BitVec 32
  /-- next PN (transmit) or next expected PN (receive); 64; R80, R82 04_link_cipher.md; reset 1 -/
  pn : Nat
  /-- SA_PN_THRESHOLD raised; 1; R90 04_link_cipher.md; reset 0 -/
  threshRaised : Bool
deriving DecidableEq, Repr

/-- A cipher engine: line engine octet x 2 + direction, or 256 for the lookaside engine. -/
structure CEngine where
  /-- TAMPER_COUNT; 8; R94 04_link_cipher.md; reset 4 -/
  tamperCount : Nat
  /-- TAMPER_WINDOW in ns; 30; R94 04_link_cipher.md; reset 10 ms -/
  tamperNs : Nat
  /-- core clocks of the last mismatches, newest first; R94 04_link_cipher.md; reset empty -/
  mismatches : List Nat
  /-- erased by a tamper alarm; 1; R94 04_link_cipher.md; reset 0 -/
  erased : Bool
  /-- fenced; 1; R101 04_link_cipher.md, R429 17_faults.md; reset 0 -/
  fenced : Bool
  /-- core clock of the last tamper alarm; R94 04_link_cipher.md; reset none -/
  alarmAt : Option Nat
deriving DecidableEq, Repr

/-- A message in the lookaside engine: its place in the order of arrival, and the AES blocks it has had (R96). -/
structure LaJob where
  seq : Nat
  msg : LaMsg
  done : Nat
deriving DecidableEq, Repr

/-- A lookaside context (R95, R97). -/
structure LaCtx where
  /-- loaded; 1; R95 04_link_cipher.md; reset 0 -/
  valid : Bool
  /-- KIND 0 GCM, 1 KEY_WRAP, 2 CTR; R97 04_link_cipher.md; reset 0 -/
  kind : Nat
  /-- key; 256; R97 04_link_cipher.md; reset 0 -/
  key : BitVec 256
  /-- salt; 96; R97 04_link_cipher.md; reset 0 -/
  salt : BitVec 96
  /-- IV of the last message; 96; R97 04_link_cipher.md; reset 0 -/
  iv : BitVec 96
  /-- suspension slot: counter block, GHASH accumulator and byte offset; 128, 128, 64; R96 04_link_cipher.md; reset 0 -/
  ctrBlock : BitVec 128
  ghash : BitVec 128
  offset : Nat
  /-- suspension slot: the message held; R96 04_link_cipher.md; reset none -/
  suspended : Option LaJob
  /-- core clock of the suspension; R96 04_link_cipher.md; reset 0 -/
  suspendedAt : Nat
deriving DecidableEq, Repr

/-- A host command that waits for its lookaside message: LA_CRYPT with its operands (R95, R102). -/
structure LaWork where
  id : Nat
  hdr : Hdr
  ctx : Nat
  op : Nat
  iv : BitVec 96
  aad : List Byte
  data : List Byte
deriving DecidableEq, Repr

/-- State of the ciphers. -/
structure Cipher where
  /-- port cipher records; 64 each; R78 04_link_cipher.md; reset as R78 gives -/
  ports : Arr (BitVec 64)
  /-- records of a port before its last four changes, with the core clocks of those; R79 04_link_cipher.md; reset none -/
  past : Arr (List (BitVec 64 × Nat))
  /-- receive SCs 0-4095; R77 04_link_cipher.md; reset none -/
  rxSc : Arr Sc
  /-- transmit SCs 0-2047; R77 04_link_cipher.md; reset none -/
  txSc : Arr Sc
  /-- receive SAs 0-16383; R77, R80 04_link_cipher.md; reset ABSENT -/
  rxSa : Arr Sa
  /-- transmit SAs 0-8191; R77, R80 04_link_cipher.md; reset ABSENT -/
  txSa : Arr Sa
  /-- engines 0-255 line, 256 lookaside; R93 to R99 04_link_cipher.md; reset as each field gives -/
  engines : Arr CEngine
  /-- lookaside contexts 0-63; R95 04_link_cipher.md; reset zero -/
  ctx : Arr LaCtx
  /-- message the lookaside engine runs; R95 04_link_cipher.md; reset none -/
  running : Option LaJob
  /-- messages waiting, in arrival order; R96 04_link_cipher.md; reset empty -/
  waiting : List LaJob
  /-- core clock at which the running message started or resumed; R96 04_link_cipher.md; reset 0 -/
  runFrom : Nat
  /-- LA_CRYPT commands in the engine; R102 04_link_cipher.md; reset none -/
  works : List LaWork
  /-- number of the next message to arrive; R96 04_link_cipher.md; reset 0 -/
  laNext : Nat
deriving DecidableEq, Repr

end Sys2Proof.Machine
end

