-- ==== Sys2Proof/Machine/StRules.lean ====
section
/-! DEFINITION. State of the rule plane: versioned objects, the rule Maquette and the write stream
(spec/05_parser_rules.md), and of the table store and its upkeep (spec/06_table_store.md, spec/07_table_upkeep.md). -/

namespace Sys2Proof.Machine

/-- The version stamp of a slot (R124). -/
structure Stamp where
  /-- BIRTH; 16; R124 05_parser_rules.md; reset 0 -/
  birth : BitVec 16
  /-- BIRTH_SET; 1; R124 05_parser_rules.md; reset 0 -/
  birthSet : Bool
  /-- DEATH; 16; R124 05_parser_rules.md; reset 0 -/
  death : BitVec 16
  /-- DEATH_SET; 1; R124 05_parser_rules.md; reset 0 -/
  deathSet : Bool
deriving DecidableEq, Repr

/-- The kinds of rule-plane object (R124), by the codes that OBJECT_DELETE and RULE_READ name them with
(DESIGN CHOICE, log 9: the spec gives the kinds no numbers): 0 ingress rule, 1 egress rule, 2 parse entry, 3 ingress key
profile, 4 egress key profile, 5 edit profile, 6 template, 7 mirror session, 8 egress binding. 9 is an LPM prefix. -/
inductive ObjVal where
  | rule (r : RuleRec)
  | parse (record : BitVec 128)
  | keyProf (extracts : List (BitVec 32)) (rangeGroup : Nat)
  | editProf (ops : List EditOp)
  | template (bytes : List Byte)
  | mirror (toCpu : Bool) (dest trunc : Nat)
  | bind (profile : Nat)
  | lpmPrefix (family vrf length : Nat) (addr : BitVec 128) (result : BitVec 64)
deriving DecidableEq, Repr

/-- A slot of the rule plane: the object it holds, its ID where it is set by ID, and its stamp. A slot with
`valid = false` is free. -/
structure ObjSlot where
  valid : Bool
  id : Nat
  stamp : Stamp
  val : ObjVal
deriving DecidableEq, Repr

/-- A write of the rule plane (R128): object kind, slot and new contents, or a range comparator's source and bounds. -/
inductive PlaneWrite where
  | obj (kind slot : Nat) (new : ObjSlot)
  | range (cmp : Nat) (extract : BitVec 32) (low high : Nat)
  | clearBirth (kind slot : Nat)
  | clearValid (kind slot : Nat)
  | clearDeath (kind slot : Nat)
  | rewrite (addr : BitVec 64)
deriving DecidableEq, Repr

/-- The classes of the write stream in their order of landing (R128). -/
inductive WriteClass where
  | staging | discard | settling
deriving DecidableEq, Repr

/-- A MAQUETTE_COMMIT taken and held until the last staging write lands (R129). -/
structure HeldCommit where
  hdr : Hdr
  target : EpochName
deriving DecidableEq, Repr

/-- A range comparator (R116): source extract, LOW and HIGH. -/
structure RangeCmp where
  /-- source extract; 32; R116 05_parser_rules.md; reset constant 0x0000 -/
  extract : BitVec 32
  /-- LOW; 16; R116 05_parser_rules.md; reset 0x0001 -/
  low : Nat
  /-- HIGH; 16; R116 05_parser_rules.md; reset 0xFFFF -/
  high : Nat
deriving DecidableEq, Repr

/-- State of the rule plane. -/
structure RulePlane where
  /-- slots by kind x 2^20 + slot; R124 05_parser_rules.md; reset free -/
  objs : Arr ObjSlot
  /-- words of the default parse program that firmware loaded; 128 each; R108 05_parser_rules.md; reset none -/
  program : List (BitVec 128)
  /-- LPM prefixes by slot number; R151 06_table_store.md; reset free -/
  prefixes : Arr ObjSlot
  /-- range comparators 0-255; R116 05_parser_rules.md; reset as R116 gives -/
  ranges : Arr RangeCmp
  /-- current rule version; 16; R126 05_parser_rules.md; reset 0 -/
  current : BitVec 16
  /-- older live versions, oldest first; R126 05_parser_rules.md; reset empty -/
  older : List (BitVec 16)
  /-- committed version waiting for its boundary, with its epoch; R126, R129 05_parser_rules.md; reset none -/
  coming : List (BitVec 16 × Nat)
  /-- in-flight count of each version; R126 05_parser_rules.md; reset 0 -/
  inFlight : Arr Nat
  /-- staged version S of the open Maquette; 16; R127 05_parser_rules.md; reset none -/
  staged : Option (BitVec 16)
  /-- staged operations; R127 05_parser_rules.md; reset 0 -/
  stagedOps : Nat
  /-- commit taken and held; the Maquette is sealed; R129 05_parser_rules.md; reset none -/
  held : Option HeldCommit
  /-- sealed by a part of a group; 1; R129 05_parser_rules.md; reset 0 -/
  groupSeal : Bool
  /-- write stream, by class in arrival order; R128 05_parser_rules.md; reset empty -/
  stream : List (WriteClass × PlaneWrite)
  /-- core clock of the last landed write; R128 05_parser_rules.md; reset none -/
  lastLand : Option Nat
  /-- LPM units held; LpmUnitsUsed; R151 06_table_store.md; reset 0 -/
  lpmUnits : Nat
deriving DecidableEq, Repr

/-- A slot of the exact-match store (R143) with its poison mark. -/
structure EmSlot where
  /-- slot contents, HIT kept apart; 256; R143 06_table_store.md; reset 0 -/
  bits : BitVec 256
  /-- poisoned; 1; R434 17_faults.md; reset 0 -/
  poison : Bool
deriving DecidableEq, Repr

/-- A logical exact-match table (R140) with its upkeep record (R181) and the state of its Patina pass (R178). -/
structure TableDef where
  /-- table created; 1; R140 06_table_store.md; reset 0 -/
  valid : Bool
  /-- record of R140; R140 06_table_store.md; reset as R140's defaults -/
  rcd : TableRec
  /-- upkeep record; R181 07_table_upkeep.md; reset as R181's defaults -/
  upkeep : UpkeepRec
  /-- epoch at which AGE_EN took effect; R178 07_table_upkeep.md; reset 0 -/
  ageFrom : Nat
  /-- epoch of the last Patina pass that was due; R178 07_table_upkeep.md; reset none -/
  passAt : Option Nat
  /-- Patina passes started; R178 07_table_upkeep.md; reset 0 -/
  passes : Nat
  /-- a Patina pass is due and waits for its predecessor to end; 1; R178 07_table_upkeep.md; reset 0 -/
  passLate : Bool
  /-- EM_STASH_HIGH raised and not re-armed; 1; R175 07_table_upkeep.md; reset 0 -/
  stashHigh : Bool
  /-- epoch of the last queued stash reinsertion; R175 07_table_upkeep.md; reset 0 -/
  reinsertAt : Nat
deriving DecidableEq, Repr

/-- What a write does to the hit bit of a slot it touches (R170). -/
inductive HitRule where
  | keep | set | clear
  | source (place : Nat)
deriving DecidableEq, Repr

/-- One write of an Armature routine (R172 to R175, R130, R131, R151). Places are exact-match slot indexes, and
2^21 + table x 64 + slot for a stash slot. `bucket` carries the four slots after the write, what becomes of each hit bit,
old copies whose hit bits are ORed into the remaining copy, the write tag read, and what it counts as: 1 a relocation
copy, 2 a duplicate removed. `lpm` carries a prefix write with the LPM word it writes and the write tag read. -/
inductive PlanStep where
  | bucket (bank bucket : Nat) (slots : List (BitVec 256)) (hits : List HitRule) (merge : List (Nat × Nat)) (tag kind : Nat)
  | stash (table : Nat) (writes : List (Nat × BitVec 256 × HitRule))
  | prefixStage (slot : Nat)
  | prefixDiscard (slot : Nat) (staged : BitVec 16)
  | prefixSettle (slot : Nat) (oldest : BitVec 16)
  | lpm (step : PlanStep) (word tag : Nat)
deriving DecidableEq, Repr

/-- What a maintenance request of a bank does when granted (R164, R169). Armature requests name their engine and the
register or buffer they fill, and carry the COMMIT bit of their microword; the others name their table command. A scrub
read carries what it will find. -/
inductive MaintOp where
  | armRead (engine unit buffer : Nat)
  | armWrite (engine : Nat) (step : PlanStep) (commit : Bool)
  | armCounter (engine pair : Nat) (commit : Bool)
  | patinaRead (table bucket : Nat)
  | patinaClear (table bucket : Nat) (cands : List Nat) (tag readAt : Nat)
  | scrub (found : EccErr)
  | dmaWrite (job lock bucket : Nat) (image : List (BitVec 256))
  | dmaRead (job bucket : Nat)
  | cmdWrite (job bucket slot : Nat) (image : BitVec 256)
  | cmdRead (job unit : Nat)
  | cmdPair (job pair : Nat)
deriving DecidableEq, Repr

/-- One maintenance request waiting at a bank's Turnstile (R164 to R166). -/
structure MaintReq where
  store : Nat
  bank : Nat
  cls : Nat
  op : MaintOp
  issued : Nat
  waited : Nat
  starved : Bool
deriving DecidableEq, Repr

/-- What a stash write does (R175, R178): an Armature routine's write, or a Patina compare-and-clear of candidates. -/
inductive StashOp where
  | arm (engine : Nat) (writes : List (Nat × BitVec 256 × HitRule)) (commit : Bool)
  | patina (cands : List Nat)
deriving DecidableEq, Repr

/-- A stash write waiting for the stash's maintenance clock (R175); `ahead` is the one write after a commit (R383). -/
structure StashWrite where
  table : Nat
  ahead : Bool
  op : StashOp
deriving DecidableEq, Repr

/-- A learn or move request (R176). -/
structure LearnReq where
  table : Nat
  key : BitVec 320
  move : Bool
  port : Nat
deriving DecidableEq, Repr

/-- A region lock (R182, R185). -/
structure Lock where
  /-- TableLock.VALID; 1; R185 07_table_upkeep.md; reset 0 -/
  valid : Bool
  /-- OWNER_FUNC; 3; R185 07_table_upkeep.md; reset 0 -/
  func : Nat
  /-- OWNER_RING; 4; R185 07_table_upkeep.md; reset 0 -/
  ring : Nat
  /-- FIRST_BANK; 9; R185 07_table_upkeep.md; reset 0 -/
  firstBank : Nat
  /-- BANK_COUNT; 10; R185 07_table_upkeep.md; reset 0 -/
  bankCount : Nat
  /-- FIRST_BUCKET; 10; R185 07_table_upkeep.md; reset 0 -/
  firstBucket : Nat
  /-- BUCKET_COUNT; 11; R185 07_table_upkeep.md; reset 0 -/
  bucketCount : Nat
  /-- LEASE_END; 64; R185 07_table_upkeep.md; reset 0 -/
  leaseEnd : Nat
  /-- release at the next tick boundary: 0 none, 1 commanded, 2 LOCK_OWNER_LOST observed; R183 07_table_upkeep.md;
  reset 0 -/
  ending : Nat
deriving DecidableEq, Repr

/-- What a read command of the tables asks for (R163). -/
inductive Query where
  | none
  | key (k : BitVec 320)
  | place (index : Nat)
  | prefixRead (family vrf length : Nat) (addr : BitVec 128) (version : BitVec 16)
deriving DecidableEq, Repr

/-- A command of the table groups whose reads or writes are in progress, to be replied to when they end: the unit or
bucket it begins at, what is left to do, what has been done and what has been read, by number. -/
structure TableJob where
  id : Nat
  hdr : Hdr
  opcode : Nat
  table : Nat
  bank : Nat
  first : Nat
  left : Nat
  done : Nat
  clear : Bool
  query : Query
  acc : List (Nat × List (BitVec 256))
  nums : List (Nat × Nat × Nat)
  poisonAt : Option (BitVec 64)
deriving DecidableEq, Repr

/-- The kinds of lookup a pipe launches (R135). `v` is the packet's rule version. -/
inductive LookupKind where
  | search (table : Nat) (key : BitVec 320) (learn : Bool)
  | direct (table index : Nat) (nextHop : Bool)
  | lpm (family vrf : Nat) (addr : BitVec 128)
  | counter (pair bytes : Nat)
deriving DecidableEq, Repr

/-- An outstanding request of the lookup crossbar (R135 to R138): its requester, the packet or copy it serves, the
profile lookup it stands for, and for an LPM lookup the level reached. -/
structure LookReq where
  id : Nat
  requester : Nat
  owner : Nat
  slot : Nat
  /-- replay generation of its key, whether a replay has superseded it, and whether it is itself a replay; R194 -/
  gen : Nat
  old : Bool
  replay : Bool
  kind : LookupKind
  fwd : Bool
  prio : Nat
  level : Nat
  deferredAt : Option Nat
  servedTick : Option Nat
  dead : Bool
  result : Option (BitVec 80)
  /-- MAC addresses that a next-hop read found; R156 -/
  macs : Option (BitVec 96)
  poison : Bool
  /-- address of the first poisoned LPM word read; R158 -/
  badWord : Option (BitVec 64)
deriving DecidableEq, Repr

/-- State of the table store. -/
structure Tables where
  /-- logical tables 0-31; R140 06_table_store.md; reset none -/
  defs : Arr TableDef
  /-- exact-match slots by bank x 4096 + bucket x 4 + slot; R143 06_table_store.md; reset 0 -/
  em : Arr EmSlot
  /-- hit array of the exact-match banks, same index; R147 06_table_store.md; reset 0 -/
  emHit : Arr Bool
  /-- stash slots by table x 64 + slot, as each of the 8 copies holds them but for those of `stashBad`; R142 06_table_store.md; reset 0 -/
  stash : Arr EmSlot
  /-- hit array beside each stash copy, by section x 2048 + table x 64 + slot; R142, R147 06_table_store.md; reset 0 -/
  stashHit : Arr Bool
  /-- write tags by store x 2^32 + bank x 1024 + unit; 8 each; R168 07_table_upkeep.md; reset 0 (DESIGN CHOICE, log 4) -/
  tags : Arr (BitVec 8)
  /-- counter pairs: packets, bytes, poison; 64 + 64 + 1; R161 06_table_store.md; reset 0 (DESIGN CHOICE, log 4) -/
  pairs : Arr (Nat × Nat × Bool)
  /-- poisoned LPM words by level x 2^17 + bank x 1024 + word; R158 06_table_store.md; reset none -/
  lpmPoison : Arr Bool
  /-- exact-match profile sets 1-31; R153 06_table_store.md; reset no lookups, MISS_OP DROP -/
  emProf : Arr EmProf
  /-- LPM profile sets 1-15; R154 06_table_store.md; reset no lookups -/
  lpmProf : Arr (List LpmLookup)
  /-- NEXTHOP_TABLE; R156 06_table_store.md; reset none -/
  nextHop : Option Nat
  /-- LPM seed; 128, write-only; R148 06_table_store.md; reset 0 (DESIGN CHOICE, log 4) -/
  lpmSeed : BitVec 128
  /-- outstanding lookups; R138 06_table_store.md; reset empty -/
  reqs : List LookReq
  /-- number of the next lookup; R138 06_table_store.md; reset 0 -/
  reqNext : Nat
  /-- lookup cycles used in the present tick by store x 2^16 + bank, with the tick stamp; R14 01_architecture.md;
  reset none -/
  used : Arr (Nat × Nat)
  /-- lowest bank of each BANK_DEFER group that has deferred in the present epoch, by source number; R139
  06_table_store.md; reset none -/
  deferEpoch : Arr (Option Nat)
  /-- maintenance requests in arrival order; R164 07_table_upkeep.md; reset empty -/
  maint : List MaintReq
  /-- TurnstileTickets; 64; R167 07_table_upkeep.md; reset 0x0000_0100_2412_4444 -/
  tickets : BitVec 64
  /-- TurnstileStarved; 64; R167 07_table_upkeep.md; reset 0 -/
  starved : BitVec 64
  /-- CYCLE_STAMP at which each class was last starved, plus 1 (same-clock clears of R6); R167 07_table_upkeep.md; reset 0 -/
  starvedAt : Arr Nat
  /-- clock of the last grant of each bank by store x 2^16 + bank; R16 01_architecture.md; reset none -/
  granted : Arr (Option Nat)
  /-- stash writes in arrival order; R175 07_table_upkeep.md; reset empty -/
  stashWrites : List StashWrite
  /-- clock of the last write of each stash; R175 07_table_upkeep.md; reset none -/
  stashAt : Arr (Option Nat)
  /-- learn queue, oldest first; R176 07_table_upkeep.md; reset empty -/
  learnQ : List LearnReq
  /-- epoch in which LEARN_OVERFLOW last raised; R176 07_table_upkeep.md; reset none -/
  overflowEpoch : Option Nat
  /-- epoch of the last learn service and requests taken of each table in it; R177 07_table_upkeep.md; reset none -/
  learnTaken : Arr (Nat × Nat)
  /-- locks 0-15; R182, R185 07_table_upkeep.md; reset not held -/
  locks : Arr Lock
  /-- SCRUB_PERIOD in s; R186 07_table_upkeep.md; reset 60 -/
  scrubPeriod : Nat
  /-- core clock at which the arrays became ready for scrubbing; R186 07_table_upkeep.md, R484 20_startup.md; reset 0 -/
  scrubBase : Nat
  /-- next unit of each bank's scrub round, plus 1024 once SCRUB_LATE has been raised in it, by store x 2^16 + bank; R186
  07_table_upkeep.md; reset 0 -/
  scrubPos : Arr Nat
  /-- core clocks from `scrubBase` at which each bank's scrub round starts; R186 07_table_upkeep.md; reset 0 -/
  scrubFrom : Arr Nat
  /-- table commands in progress; R184, R161; reset empty -/
  jobs : List TableJob
  /-- number of the next table command or Armature job; reset 0 -/
  jobNext : Nat
deriving DecidableEq, Repr

end Sys2Proof.Machine
end

