-- ==== Sys2Proof/Machine/StPackets.lean ====
section
/-! DEFINITION. State of packets and copies in flight, speculation tags, the cell buffer and the Trellis
(spec/05_parser_rules.md, spec/08_runahead.md, spec/09_buffer.md, spec/10_trellis.md). -/

namespace Sys2Proof.Machine

/-- How a speculation tag has resolved (R29, R192). -/
inductive Verdict where
  | none | confirm | rollback
deriving DecidableEq, Repr

/-- What the ingress decision of R119 made of a packet. -/
inductive Decision where
  | undecided | drop | cloister | port (p : Nat) | mcast (g : Nat) | cpu (q : Nat)
deriving DecidableEq, Repr

/-- A hit of one lookup of a packet's profile sets (R155): exact-match rather than LPM, lookup index, FWD, PRIORITY and
the 80-bit DATA. -/
structure Hit where
  em : Bool
  idx : Nat
  fwd : Bool
  prio : Nat
  data : BitVec 80
deriving DecidableEq, Repr

/-- A cell of a packet as its descriptor records it: its number once allocated, its owner class (R228), the tick stamp of its
write, whether its release by every copy has freed it, its poison, and whether a rollback has zeroed it (R200). -/
structure PktCell where
  cell : Option Nat
  cls : Nat
  at_ : Nat
  written : Bool
  freed : Bool
  poison : Bool
  zeroed : Bool
deriving DecidableEq, Repr

/-- A packet inside the device. `pass` is 1 on a cloister pass; `pool` is an owner class of R214. -/
structure Pkt where
  /-- port and frame number at the port's MAC -/
  port : Nat
  fid : Nat
  /-- global ingress pipe -/
  pipe : Nat
  /-- frame bytes without FCS, and the length of R3 after SecTAG and ICV removal (FRAME_LEN of R109) -/
  bytes : List Byte
  frameLen : Nat
  /-- rule version stamped at entry; 16; R126 -/
  version : BitVec 16
  /-- speculation tag held; 16; R28 -/
  tag : Option Nat
  /-- receive verdict: none while awaited, else FCS/length ok; R192 -/
  macOk : Option Bool
  /-- ICV verdict: awaited, and its value; R84 -/
  icvWait : Bool
  icvOk : Option Bool
  /-- what the engine's own check of the ICV finds, and CHECK in force at the frame's arrival; R79, R84 -/
  icvGood : Bool
  check : Bool
  /-- tick stamp in which the last verdict was formed: it reaches the pipe from the next tick on; R18, R192 -/
  verdictAt : Nat
  /-- how the tag resolved, and the tick stamp -/
  verdict : Verdict
  resolvedAt : Nat
  /-- SA index of row 8 of R83, its PN and the E bit, for the counters at the verdict -/
  sa : Option Nat
  pn : Nat
  eBit : Bool
  /-- CIPHER code of R109 -/
  cipher : Nat
  /-- held back from cut-through by CUT_MACSEC; R88 -/
  hold : Bool
  pass : Nat
  metaVal : BitVec 16
  /-- export stream that made the packet, and its KIND; R319, R324 -/
  madeBy : Option (Nat × Nat)
  /-- rx_ts in units of 0.5 ns of its domain -/
  rxTs : Nat
  td : Nat
  injected : Bool
  /-- the transmit ring that injected it, with TS_REQ's cookie -/
  txRing : Option Nat
  tsReq : Bool
  oneStep : Bool
  cookie : Nat
  launch : Option Nat
  /-- parse: headers (type, offset, length) in order, error code, profiles set, key launch state; R106, R107 -/
  headers : List (Nat × Nat × Nat)
  parseErr : Nat
  emProf : Nat
  lpmProf : Nat
  clsProf : Nat
  gen : Nat
  /-- profile sets in force at entry; R157 -/
  emSet : EmProf
  lpmSet : List LpmLookup
  /-- winning ingress rule action; R115, R117 -/
  action : Option (BitVec 128)
  hits : List Hit
  poisonTrap : Bool
  decision : Decision
  forwarding : Option (BitVec 80)
  tc : Nat
  lossless : Bool
  /-- the priority a lossless packet's cells count under: 0 under PAUSE; R220 -/
  pgPrio : Nat
  pool : Nat
  /-- counter updates pending on the tag, with the requester that makes them: pair and bytes; R135, R161 -/
  pendingCounts : List (Nat × Nat × Nat)
  pendingLearn : List LearnReq
  /-- cells in frame order; R209 -/
  cells : List PktCell
  /-- copies formed, by copy number -/
  copies : List Nat
  admitted : Bool
  /-- it has pushed out another packet (row 4 of R223) -/
  pushedOut : Bool
  dropped : Bool
  /-- rolled-back work: step of R199 reached (0 none, 1 fenced, 2 zeroed, 3 freed) -/
  rollStep : Nat
  /-- counted in its version's in-flight count -/
  counted : Bool
  /-- waiting to re-enter by the cloister port -/
  cloister : Bool
  /-- an egress mirror or trap copy's packet; R122 -/
  egressMade : Bool
  /-- device-generated: stream of an export packet or report, else none -/
  stream : Option Nat
  /-- REASON of R363 for copies to CPU queues -/
  reason : Nat
  /-- clock-tick stamp of entry -/
  entered : Nat
  /-- the frame streams in from the line: core clock of its entry, from which its bytes are counted; R196 -/
  streams : Bool
  firstAt : Nat
  /-- how many of its cells have joined the stage A queue; R236 -/
  queued : Nat
  /-- egress pipes in whose slots copies of it were edited, for the ledger; R207 -/
  editSlots : List Nat
  /-- the packet whose one in-flight count it shares: a cloister pass shares its first pass's; R120, R126 -/
  origin : Option Nat
  /-- one more than the tick stamp of a push-out that chose it; R224 -/
  chosenAt : Nat
  /-- cells that the rollback of its tag has freed, its own and those of packets made from its copies; R199 -/
  rollCells : List Nat
deriving DecidableEq, Repr

/-- A line frame that the receive MAC and cipher have taken and that has not entered its pipe: the packet it becomes, as its
record, SA and MAX_FRAME at its first byte decide it once (R60, R79, R83), and its FCS verdict with the tick stamp in which
that was formed (R191, R192). -/
structure Arrived where
  pkt : Pkt
  verdict : Option (Bool × Nat)
deriving DecidableEq, Repr

/-- What the transmit engine needs for one frame, fixed when its transmission starts: key, initial vector, SecTAG bytes and
the place where they go in, and encryption (R79, R89 to R91 of spec/04_link_cipher.md). -/
structure SecTx where
  key : BitVec 256
  iv : BitVec 96
  tag : List Byte
  place : Nat
  conf : Bool
deriving DecidableEq, Repr

/-- Kinds of copy (R211, R247). -/
inductive CopyKind where
  | unicast | group | mirror | trap | cpu
deriving DecidableEq, Repr

/-- Where a copy stands. -/
inductive CopyPhase where
  | waiting | queued | handed | released | edited | sending | done
deriving DecidableEq, Repr

/-- A copy of a packet on its way through an egress queue. -/
structure Copy where
  pkt : Nat
  queue : Nat
  port : Nat
  kind : CopyKind
  phase : CopyPhase
  /-- cut-through; R247 -/
  cut : Bool
  /-- PENDING mark; R196 -/
  pending : Bool
  /-- ECN mark and whether the field was changed; R226 -/
  ecn : Bool
  ecnDone : Bool
  /-- its cells charged to C_q; R217 -/
  charged : Nat
  /-- its missing-cell timeout has expired; R246 -/
  expired : Bool
  /-- C_q at admission; R324 -/
  depth : Nat
  /-- buffer occupancy at admission; R328 -/
  poolUsed : Nat
  /-- tick stamp of entry to the queue and of hand-over -/
  queuedAt : Nat
  handedAt : Nat
  /-- truncation length of a mirror copy, 0 none -/
  trunc : Nat
  /-- cells read (number in the frame), held in the resequencer, and released; R242, R244 -/
  read : List Nat
  held : List Nat
  poison : List Nat
  /-- retry wanted for this cell with the retried mark; R243 -/
  retry : List Nat
  retried : List Nat
  /-- cells released to the egress pipe, in order; R244 -/
  out : Nat
  /-- tick stamp of the stage B read of each cell issued, or of its entry to the window; R245 -/
  readAt : List (Nat × Nat)
  /-- reserved records; R239 -/
  records : Nat
  /-- first sequence number; R239 -/
  seq : Nat
  /-- planned start and duration in ns/2^16 of the plan domain; R291 -/
  plan : Option Nat
  planned : Bool
  /-- planned again after a step or a hold, to be judged whatever its start; 1; R303 12_egress.md -/
  rejudge : Bool
  launch : Option Nat
  /-- late under LATE_POLICY SEND; R308 -/
  late : Bool
  /-- scheduling length, 0 before hand-over and once credited; R294 -/
  sched : Nat
  /-- complete gate cycles seen open; R306 -/
  openCycles : Nat
  /-- edited frame; R121 -/
  frame : List Byte
  editProf : Option Nat
  txSc : Option Nat
  /-- transmit: SA taken, PN, stomp cause (0 none, 1 rollback, 2 oversize, 3 poison, 4 reseq, 5 cipher), clock-tick of start -/
  sa : Option Nat
  pn : Nat
  stomp : Nat
  /-- tick stamp in which that cause reached the MAC; R205 -/
  stompAt : Nat
  /-- protection of the frame under way, MAX_FRAME of its port at its start, and whether its length was known then; R62,
  R79, R60 -/
  sec : Option SecTx
  maxTx : Nat
  known : Bool
  txTs : Nat
  /-- epoch, tick and domain of the transmit stamp; R275 -/
  stamp : Nat × Nat × Nat
  startedAt : Nat
  /-- core clock at which the frame's transmission began; R202 -/
  startClk : Nat
  /-- PTP_CORRECT to be made; where the PTP header stands in the edited frame, with its UDP header and whether that lies
  over IPv4; R273, R274 -/
  correct : Bool
  ptpAt : Option (Nat × Option (Nat × Bool))
  /-- where the transmit delay of its IOAM node data stands; R328 -/
  ioam : Option Nat
  /-- what the next-hop read has brought: none while it has not, else the MAC addresses of a hit; R156 -/
  nextHop : Option (Option (BitVec 96))
  /-- counter pair of a next-hop hit with CNT_EN, updated at the edit; R155 -/
  hopCount : Option Nat
deriving DecidableEq, Repr

/-- The cell status entry of R210. -/
structure CellEntry where
  /-- STATE; 1; R210 09_buffer.md; reset 0 -/
  alloc : Bool
  /-- OWNER; 3; R210 09_buffer.md; reset 0 -/
  owner : Nat
  /-- MCAST; 1; R210 09_buffer.md; reset 0 -/
  mcast : Bool
  /-- REFCNT; 11; R210 09_buffer.md; reset 0 -/
  ref : Nat
  /-- quarantined; 1; R230 09_buffer.md; reset 0 -/
  quarantined : Bool
deriving DecidableEq, Repr

/-- A free waiting in a partition's free queue (R213, R228): the cell, the class presented, SOURCE and SLICE of R229,
the port-priority charged. -/
structure FreeReq where
  cell : Nat
  owner : Nat
  source : Nat
  slice : Nat
  pg : Option Nat
  queuedAt : Nat
  /-- counted in FreeDeferred; R231 -/
  waited : Bool
deriving DecidableEq, Repr

/-- The life of a Trellis element (R253, R260). -/
inductive ElemLife where
  | live | stopped | draining | retired | restoring
deriving DecidableEq, Repr

/-- One partition. -/
structure Partition where
  /-- head cache of each bank: rows popped from its list; 8; R212 09_buffer.md; reset rows 0-7 (DESIGN CHOICE, log 12) -/
  heads : Arr (List Nat)
  /-- each bank's list in the order of its pops, as freed rows on top and the first never-used row below;
  R212 09_buffer.md; reset every other row (DESIGN CHOICE, log 12) -/
  fresh : Arr Nat
  freed : Arr (List Nat)
  /-- next bank of the rotation; R212 09_buffer.md; reset 0 (DESIGN CHOICE, log 4) -/
  nextBank : Nat
  /-- free queue, oldest first; R213 09_buffer.md; reset empty -/
  queue : List FreeReq
  /-- cells used by each owner class; R215 09_buffer.md; reset 0 -/
  used : Arr Nat
  /-- banks whose list is being rebuilt, with the next row to be examined; R230 09_buffer.md; reset none -/
  rebuilding : List (Nat × Nat)
  /-- life; R253 10_trellis.md; reset LIVE -/
  life : ElemLife
  /-- epoch of step 1 of the retirement and its drain limit; R253 10_trellis.md; reset 0 -/
  stopEpoch : Nat
  drainLimit : Nat
  /-- drain ended; 1; R253 10_trellis.md; reset 0 -/
  drained : Bool
  /-- drain forced once; 1; R253 10_trellis.md; reset 0 -/
  forced : Bool
  /-- core clock at which a restore's rebuild began; R255 10_trellis.md; reset none -/
  rebuildFrom : Option Nat
  /-- tick stamp of the last tick in which frees landed; R213 09_buffer.md; reset none -/
  landedAt : Option Nat
deriving DecidableEq, Repr

/-- One slice's Trellis ends. -/
structure SliceSt where
  /-- stage A queue: packet and cell number within it, with the channel it used when it waited; 512; R236
  10_trellis.md; reset empty -/
  stageA : List (Nat × Nat × Option Nat)
  /-- grant pointers of the 16 slots; R241 10_trellis.md; reset 0 (DESIGN CHOICE, log 4) -/
  grantPtr : Arr Nat
  /-- matches for the next worked tick: partition, port, copy, cell; R241, R242 10_trellis.md; reset empty -/
  matched : List (Nat × Nat × Nat × Nat)
  /-- tick stamp of the last match, of the last stage A transfer and of the last release; R14 01_architecture.md;
  reset none -/
  matchAt : Option Nat
  stageAAt : Option Nat
  releaseAt : Option Nat
  /-- next sequence number of each queue of the slice; 16; R239 10_trellis.md; reset 0 -/
  seqNext : Arr Nat
deriving DecidableEq, Repr

/-- A multicast group (R249): the slices of its 16-bit mask are those listed, each with its 64-bit list of local ports. -/
structure McastGroup where
  /-- SELF; 1; R249 10_trellis.md; reset 0 -/
  self : Bool
  /-- list of local ports of each slice in the mask; 64 each; R249 10_trellis.md; reset none -/
  lists : Arr (BitVec 64)
deriving DecidableEq, Repr

/-- Buffer pools' settings (R214, R216). -/
structure Pool where
  /-- size in cells; R214 09_buffer.md; reset as R214 gives -/
  size : Nat
  /-- PUSHOUT_EN; 1; R216 09_buffer.md; reset 1 -/
  pushout : Bool
deriving DecidableEq, Repr

/-- PG record of a port and priority (R220). -/
structure PgRec where
  /-- XOFF_CELLS; R220 09_buffer.md; reset 1024 -/
  xoff : Nat
  /-- XON_CELLS; R220 09_buffer.md; reset 768 -/
  xon : Nat
  /-- HEADROOM_CELLS; R220 09_buffer.md; reset 512 -/
  headroom : Nat
deriving DecidableEq, Repr

/-- The counts of R217: queue cells, pool cells, port-priority cells, headroom cells of each port-priority. -/
structure Counts where
  /-- C_q by queue; R217 09_buffer.md; reset 0 -/
  cq : Arr Nat
  /-- cells used by pool; R217 09_buffer.md; reset 0 -/
  pool : Arr Nat
  /-- pg by port x 8 + priority; R217 09_buffer.md; reset 0 -/
  pg : Arr Nat
  /-- headroom cells by port x 8 + priority; R231 09_buffer.md; reset 0 -/
  head : Arr Nat
deriving DecidableEq, Repr

/-- What the conditions of R247 see of the end of the tick before: ports with an open packet or transmitting, ports gated or
with a shaper in deficit, ports that were UP, and queues that held a descriptor, were launch-time queues or had a shaper in
deficit. -/
structure Before where
  busy : List Nat
  gated : List Nat
  up : List Nat
  held : List Nat
deriving DecidableEq, Repr

/-- State of the packet plane. -/
structure Packets where
  /-- packets in flight by number; reset none -/
  pkts : Arr (Option Pkt)
  /-- number of the next packet; reset 0 -/
  pktNext : Nat
  /-- copies in flight by number; reset none -/
  copies : Arr (Option Copy)
  /-- number of the next copy; reset 0 -/
  copyNext : Nat
  /-- speculation tags in use by tag, with their packet; 16; R28 01_architecture.md; reset none -/
  tags : Arr (Option Nat)
  /-- next sequence number a pipe tries; 10; R28 01_architecture.md; reset 0 (DESIGN CHOICE, log 4) -/
  tagNext : Arr Nat
  /-- line frames taken and not yet entered: they wait for a slot, or their end came first; R10, R191; reset empty -/
  arrived : List Arrived
  /-- frames turned away at one of their two events, whose other is still to come: port, frame; R22, R83; reset empty -/
  refused : List (Nat × Nat)
  /-- packets waiting for a slot of each ingress pipe by the cloister port; R10 01_architecture.md; reset empty -/
  cloisterQ : List Nat
  /-- packets injected in PIPE mode waiting for a slot; R365 14_commands.md; reset empty -/
  injectQ : List Nat
  /-- slots of each ingress pipe so far, and that count at the last one an injected frame took; R365 14_commands.md; reset 0 -/
  slotNo : Arr (Nat × Nat)
  /-- frames injected in DIRECT mode that are admitted in the next worked tick; R18, R365 14_commands.md; reset empty -/
  directQ : List (Nat × Nat × TxDesc)
  /-- descriptors of each queue, oldest first; R196 08_runahead.md; reset empty -/
  queues : Arr (List Nat)
  /-- packets handed over to each port, in order; R239 10_trellis.md; reset empty -/
  open_ : Arr (List Nat)
  /-- copies released to each egress pipe and not yet edited; R244 10_trellis.md; reset empty -/
  released : Arr (List Nat)
  /-- copies edited and waiting in each port's MAC FIFO; R309 12_egress.md; reset empty -/
  macFifo : Arr (List Nat)
  /-- copy that each port's MAC is sending; R309 12_egress.md; reset none -/
  sending : Arr (Option Nat)
  /-- cell status array by cell number; R210 09_buffer.md; reset 0 -/
  cells : Arr CellEntry
  /-- contents of each cell, 256 bytes; a free cell holds the number of the next free cell of its bank; R209, R212
  09_buffer.md; reset the lists of reset -/
  data : Arr (List Byte)
  /-- bank cycles used in the present tick, by partition x 32 + bank: tick stamp + 1, cycles; R14 01_architecture.md, R212
  09_buffer.md; reset none -/
  cycles : Arr (Nat × Nat)
  /-- partitions 0-15; R10 01_architecture.md, R212 09_buffer.md; reset as each field gives -/
  parts : Arr Partition
  /-- slices 0-15; R236, R241 10_trellis.md; reset as each field gives -/
  slices : Arr SliceSt
  /-- channels by slice x 32 + stage x 16 + channel: life; R253 10_trellis.md; reset LIVE -/
  chans : Arr ElemLife
  /-- pools by owner class; R214 09_buffer.md; reset as R214 gives -/
  pools : Arr Pool
  /-- port-priority records by port x 8 + priority; R220 09_buffer.md; reset as R220 gives -/
  pgs : Arr PgRec
  /-- counts as they stand now, and as they stood at the end of the tick before; R217 09_buffer.md; reset 0 -/
  now : Counts
  prev : Counts
  /-- what cut-through sees of the tick before; R247 10_trellis.md; reset none -/
  before : Before
  /-- by port: tick stamp + 1 of a rollback that voided a copy handed over, and the copies behind it, which pass from the
  next tick on; R199 08_runahead.md, R244 10_trellis.md; reset none -/
  voided : Arr (Nat × List Nat)
  /-- greatest value of each gauge, by gauge code x 2^32 + index; R231 09_buffer.md; reset 0, and 49,152 for the free cells of a
  partition -/
  peaks : Arr Nat
  /-- epoch in which each once-per-epoch source last raised, by source x 2^32 + instance; R232 09_buffer.md, R306,
  R308, R318; reset none -/
  onceEpoch : Arr (Option Nat)
  /-- packets whose push-out for a cell is due in the present tick, in pipe order; R225 09_buffer.md; reset empty -/
  pushDue : List Nat
  /-- records voided by a rollback, which are free from the next tick on, by port: tick stamp + 1, records, packets; R244
  10_trellis.md;
  reset none -/
  voidRecs : Arr (Nat × Nat × Nat)
  /-- multicast groups 0-65535; R249 10_trellis.md; reset none -/
  groups : Arr (Option McastGroup)
  /-- CT_EN and CT_START by port; R248 10_trellis.md; reset 1 and 2 -/
  cutThrough : Arr (Bool × Nat)
  /-- orphaned cells by slice; R246 10_trellis.md; reset 0 -/
  orphans : Arr (List Nat)
  /-- frames waiting in the port FIFOs of each ingress pipe for a slot, as (port, frame); R10 01_architecture.md; reset
  empty -/
  lineWait : Arr (List (Nat × Nat))
  /-- pipe slots used in the present tick: tick stamp and slots, 0-63 ingress, 64-127 egress; R14 01_architecture.md;
  reset none -/
  slots : Arr (Nat × Nat)
  /-- whose turn it is: 0-63 an ingress pipe's cloister port (1) or line (0); 64-127 an ingress and 128-191 an egress
  pipe's adopted octets (1) or own (0); R10 01_architecture.md, R428 17_faults.md; reset 0 -/
  turn : Arr Nat
  /-- frames sent on each port, newest first: the bytes on the line with their FCS, inverted where stomped, and whether
  complete; R87, R309 12_egress.md; reset empty -/
  sent : List (Nat × List Byte × Bool)
deriving DecidableEq, Repr

end Sys2Proof.Machine
end

