-- ==== Sys2Proof/Machine/StTime.lean ====
section
/-! DEFINITION. State of the time domains, pins and snapshot (spec/11_time.md), of the egress schedulers, shapers and
gates (spec/12_egress.md), and of telemetry (spec/13_telemetry.md). -/

namespace Sys2Proof.Machine

/-- The states of a time domain (R264). -/
inductive TdState where
  | free | tracking | holdover | twin
deriving DecidableEq, Repr

/-- One time domain. Its value is a count of 2^-64 ns: the 96 bits of R261 with the 48 carried below them. -/
structure Domain where
  /-- value modulo 2^48 s; 96 + 48; R261 11_time.md; reset 0 -/
  value : Nat
  /-- the value sampled at the start of the present tick; R266 11_time.md; reset 0 -/
  sample : Nat
  /-- ADJ; 40 signed; R262, R265 11_time.md; reset 0 -/
  adj : Int
  /-- HOST_WD in s; 8; R265 11_time.md; reset 0 -/
  hostWd : Nat
  /-- HOLD_MAX in s; 16; R265 11_time.md; reset 3600 -/
  holdMax : Nat
  /-- state; R264 11_time.md; reset FREE -/
  st : TdState
  /-- core clock at which the watchdog last restarted; R264 11_time.md; reset 0 -/
  wdFrom : Nat
  /-- core clock of entry into HOLDOVER; R264 11_time.md; reset 0 -/
  holdFrom : Nat
  /-- ADJ history for the holdover mean: (core clock from which in force, ADJ), newest first; R264 11_time.md;
  reset empty -/
  hist : List (Nat × Int)
  /-- core clock of the first TIME_ADJUST; R264 11_time.md; reset none -/
  firstAdj : Option Nat
  /-- the host watchdog has run out in the present time clock; 1; R264 11_time.md; reset 0 -/
  wdHit : Bool
  /-- core clocks and changes of the last four steps and sets, newest first; R270 11_time.md; reset empty -/
  jumps : List (Nat × Int)
  /-- steps accepted and still to be applied in the next time clock: command and offset in the value's units; R263
  11_time.md; reset empty -/
  steps : List (Hdr × Int)
  /-- ADJ in force before a TIME_ADJUST that no time clock has followed yet; R263 11_time.md; reset none -/
  adjWas : Option Int
  /-- TIME_SET waiting for a PPS edge: pin and value; R263 11_time.md; reset none -/
  setAtPps : Option (Nat × Nat)
  /-- events waiting for TIME_EVENT_REACH: a step (true) or a change of holdover state, with its tick stamp; R267
  11_time.md; reset empty -/
  events : List (Bool × Nat)
deriving DecidableEq, Repr

/-- One PPS pin (R277, R278). -/
structure Pps where
  /-- direction 0 OFF, 1 OUT, 2 IN; R277 11_time.md; reset OFF -/
  dir : Nat
  /-- domain; 3; R277 11_time.md; reset 0 -/
  domain : Nat
  /-- polarity active low; 1; R277 11_time.md; reset 0 -/
  activeLow : Bool
  /-- OFFSET_NS; R277 11_time.md; reset 0 -/
  offsetNs : Nat
  /-- WIDTH_NS; R277 11_time.md; reset 100000000 -/
  widthNs : Nat
  /-- output asserted, and the core clock of its edge; R277 11_time.md; reset 0 -/
  asserted : Bool
  edgeAt : Nat
  /-- instants of the domain passed up to the last output edge, the setting of the pin or the last backward step; R277
  11_time.md; reset none -/
  lastSec : Option Nat
  /-- runs of instants whose edge has been sent, each above its first number and up to its second; R277 11_time.md; reset empty -/
  sentEdges : List (Nat × Nat)
  /-- records queued; 16; R278 11_time.md; reset empty -/
  queue : List TsRecord
  /-- core clock of the last accepted edge; R278 11_time.md; reset none -/
  lastEdge : Option Nat
  /-- PPS_IN_LOST raised since that edge; R278 11_time.md; reset 0 -/
  lost : Bool
deriving DecidableEq, Repr

/-- What a time snapshot captures in one time clock, and for which triggers (R268). -/
structure Capture where
  byWrite : Bool
  byPps : Bool
  epoch : Nat
  tick : Nat
  clock : Nat
  times : List Nat
deriving DecidableEq, Repr

/-- The snapshot registers (R268, R514). -/
structure Snap where
  /-- SnapControl.SEQ; 16; R514 22_registers.md; reset 0 -/
  seq : Nat
  /-- SnapControl.CAUSE_PPS; 1; R514 22_registers.md; reset 0 -/
  causePps : Bool
  /-- SnapControl.CAUSE_WRITE; 1; R514 22_registers.md; reset 0 -/
  causeWrite : Bool
  /-- SnapControl.PPS_PIN; 2; R514 22_registers.md; reset 0 -/
  ppsPin : Nat
  /-- SnapControl.PPS_EN; 1; R514 22_registers.md; reset 0 -/
  ppsEn : Bool
  /-- SnapEpoch; 64; R514 22_registers.md; reset 0 -/
  epoch : Nat
  /-- SnapTick.TICK and CLOCK; 10 + 1; R514 22_registers.md; reset 0 -/
  tick : Nat
  clock : Nat
  /-- SnapTimeHi and SnapTimeLo of TD0-TD7, in 2^-16 ns; R514 22_registers.md; reset 0 -/
  times : List Nat
  /-- triggers waiting for the next time clock: by write, by PPS; R268 11_time.md; reset 0 -/
  dueWrite : Bool
  duePps : Bool
  /-- captures made and not yet in the registers, oldest first; R268 11_time.md; reset empty -/
  taken : List Capture
deriving DecidableEq, Repr

/-- State of time. -/
structure Time where
  /-- domains TD0-TD7; R261 11_time.md; reset as each field gives -/
  domains : Arr Domain
  /-- PPS pins 0-3; R277 11_time.md; reset OFF -/
  pps : Arr Pps
  /-- REF10M_OFFSET; 32; R279 11_time.md; reset 0 (DESIGN CHOICE, log 4) -/
  ref10m : BitVec 32
  /-- REF10M validity; 1; R279 11_time.md; reset 0 (DESIGN CHOICE, log 4) -/
  ref10mValid : Bool
  /-- snapshot registers; R514 22_registers.md; reset 0 -/
  snap : Snap
  /-- port time records; 64 each; R272 11_time.md; reset 0 -/
  ports : Arr (BitVec 64)
deriving DecidableEq, Repr

/-- A token bucket (R293, R294). -/
structure Shaper where
  /-- record; 64; R293 12_egress.md; reset RATE 0, BURST 32768 -/
  cfg : BitVec 64
  /-- level in 2^-24/25 byte, in which every tick gains a whole number; R294 12_egress.md; reset full at BURST -/
  level : Int
deriving DecidableEq, Repr

/-- The scheduler's state of one queue. -/
structure Queue where
  /-- admission record; 64; R218 09_buffer.md; reset as R218 gives, `none` standing for it -/
  admitRec : Option (BitVec 64)
  /-- scheduling record; 64; R289 12_egress.md; reset as R289 gives, `none` standing for it -/
  sched : Option (BitVec 64)
  /-- shaper; R293 12_egress.md; reset off -/
  shaper : Shaper
  /-- tripped; 1; R297 12_egress.md; reset 0 -/
  tripped : Bool
  /-- core clock from which the queue is paused and holds a descriptor; R297 12_egress.md; reset none -/
  wdFrom : Option Nat
  /-- core clock from which pause is absent while tripped; R297 12_egress.md; reset none -/
  clearFrom : Option Nat
  /-- last sample DEPTH and DELAY; 24 + 24; R315, R316 13_telemetry.md; reset 0 -/
  depth : Nat
  delay : Nat
  /-- QFLAGS at the last sample; 4; R321 13_telemetry.md; reset 0 -/
  qflags : Nat
  /-- peaks of each stream's interval: stream, depth, delay; R316 13_telemetry.md; reset empty -/
  peaks : List (Nat × Nat × Nat)
  /-- report record; R323 13_telemetry.md; reset as R323's defaults -/
  report : ReportRec
  /-- tick stamp of the last report; R324 13_telemetry.md; reset none -/
  lastReport : Option Nat
  /-- reports chosen and not yet generated: tick stamp of the hand-over, and the body of R325 with its snapped bytes; R324
  13_telemetry.md; reset empty -/
  reportDue : List (Nat × List Byte)
deriving DecidableEq, Repr

/-- A gate list in force or waiting (R299 to R302): TD, T_x in 2^-16 ns, cycle, extension, entries. -/
structure GateList where
  spec : GateSpec
  takeover : Nat
deriving DecidableEq, Repr

/-- The scheduler's state of one port. -/
structure EPort where
  /-- egress record; 64; R290 12_egress.md; reset as R290 gives, `none` standing for it -/
  cfg : Option (BitVec 64)
  /-- TC_MAP; 32; R288 12_egress.md; reset as R288 gives, `none` standing for it -/
  tcMap : Option (BitVec 32)
  /-- shaper; R293 12_egress.md; reset off -/
  shaper : Shaper
  /-- F, planned end of the last frame, in 2^-16 ns of the plan domain; R291 12_egress.md; reset 0 -/
  plannedEnd : Nat
  /-- operational list; R300 12_egress.md; reset none -/
  oper : Option GateList
  /-- waiting list; R301 12_egress.md; reset none -/
  waitList : Option GateList
  /-- gate vector in force; 16; R300 12_egress.md; reset all open -/
  gates : BitVec 16
  /-- domain time of the last transition applied, in 2^-16 ns; R303 12_egress.md; reset 0 -/
  lastTrans : Nat
  /-- the link is DOWN as the tick-bound units see it, and the tick stamp from which; R310 12_egress.md; reset none -/
  downAt : Option Nat
  /-- queues held; 1; R310 12_egress.md; reset 0 -/
  holding : Bool
  /-- core clock at which the hold expires; R310 12_egress.md; reset 0 -/
  holdEnd : Nat
  /-- the debounced link-down has still to reach the tick-bound units; R310 12_egress.md; reset 0 -/
  downDue : Bool
  /-- tick stamp of the last hand-over decision; R292 12_egress.md; reset none -/
  handAt : Option Nat
deriving DecidableEq, Repr

/-- State of the egress schedulers. -/
structure Egress where
  /-- queues 0-9471; R218 09_buffer.md, R286 12_egress.md; reset as each field gives -/
  queues : Arr Queue
  /-- ports 0-1023; R290 12_egress.md; reset as each field gives -/
  ports : Arr EPort
  /-- core clock at the start of the tick up to which the shapers are refilled; R294 12_egress.md; reset none -/
  refilledAt : Option Nat
deriving DecidableEq, Repr

/-- An export stream (R317 to R319). -/
structure Stream where
  /-- record; R317 13_telemetry.md; reset as R317's defaults -/
  rcd : StreamRec
  /-- resolved FORMAT, 1 or 2; R317 13_telemetry.md; reset 1 (1.x, DESIGN CHOICE, log 4) -/
  format : Nat
  /-- SEQUENCE; 32; R319 13_telemetry.md; reset 0 -/
  seq : Nat
  /-- queues of the closed interval not yet generated, with its first epoch; R318 13_telemetry.md; reset empty -/
  due : List Nat
  intervalFrom : Nat
  /-- epoch at which the running interval began; R318 13_telemetry.md; reset 0 -/
  openFrom : Nat
  /-- the running and the closed interval began with a partial start; R320 13_telemetry.md; reset 0 -/
  partialOpen : Bool
  partialDue : Bool
  /-- records were discarded in the previous interval; R320 13_telemetry.md; reset 0 -/
  discarded : Bool
  /-- tick stamp of the last packet generated; R318 13_telemetry.md; reset none -/
  lastGen : Option Nat
deriving DecidableEq, Repr

/-- A programmable counter (R331). -/
structure Perf where
  /-- record; 64; R331 13_telemetry.md; reset 0 -/
  cfg : BitVec 64
  /-- count; 64; R330 13_telemetry.md; reset 0 -/
  count : Nat
  /-- record accepted and not yet applied; 64; R331 13_telemetry.md; reset none -/
  next : Option (BitVec 64)
  /-- core clock last counted in LEVEL mode; R332 13_telemetry.md; reset none -/
  lastAt : Option Nat
  /-- condition of the last core clock; R332 13_telemetry.md; reset 0 -/
  was : Bool
deriving DecidableEq, Repr

/-- State of telemetry. -/
structure Telemetry where
  /-- streams 0-3; R317 13_telemetry.md; reset as each field gives -/
  streams : Arr Stream
  /-- IOAM_NODE_ID; 56; R329 13_telemetry.md; reset 0 (DESIGN CHOICE, log 4) -/
  nodeId : BitVec 56
  /-- IOAM_TD; 3; R329 13_telemetry.md; reset 0 -/
  ioamTd : Nat
  /-- IOAM namespaces with their data; R327, R329 13_telemetry.md; reset none -/
  namespaces : List (Nat × BitVec 64)
  /-- programmable counters: slice x 8 + i, and 128 + i at chip level; R330 13_telemetry.md; reset 0 -/
  perf : Arr Perf
  /-- fixed cycle counters by slice, in 1/1600 of a clock for the slower clocks of R26; 64; R330 13_telemetry.md; reset 0 -/
  cycles : Arr Nat
  /-- PerfFreeze.FREEZE; 1; R334 13_telemetry.md; reset 0 -/
  freeze : Bool
  /-- slot ledgers: pipe x 8 + row (0 CARRIED, 1 VOIDED, 2 TABLE_WAIT, 3 OUTPUT_WAIT, 4 IDLE), pipes 64-127 egress; 64
  each; R335 13_telemetry.md; reset 0 -/
  ledger : Arr Nat
  /-- TD0 at the start of tick 0 of the present epoch, in 2^-16 ns; R320 13_telemetry.md; reset 0 -/
  td0At : Nat
deriving DecidableEq, Repr

end Sys2Proof.Machine
end

