-- ==== Sys2Proof/Machine/StArm.lean ====
section
/-! DEFINITION. State of the Armature engines (spec/15_armature.md), and of the Colonnade, the twin pair and the Slait
ring (spec/16_twin_ring.md). -/

namespace Sys2Proof.Machine

/-- What an Armature routine is to do (R171 to R177, R130, R131, R151). -/
inductive ArmWork where
  | insert (table : Nat) (key : BitVec 320) (data : BitVec 80) (static : Bool) (staged : Option (BitVec 16))
  | delete (table : Nat) (key : BitVec 320) (staged : Option (BitVec 16))
  | learn (r : LearnReq)
  | reinsert (table : Nat)
  | emDiscard (table : Nat) (key : BitVec 320) (staged : BitVec 16)
  | emSettle (table : Nat) (key : BitVec 320) (oldest : BitVec 16)
  | slotDiscard (index : Nat) (staged : BitVec 16)
  | slotSettle (index : Nat) (oldest : BitVec 16)
  | prefixStage (slot : Nat)
  | prefixDiscard (slot : Nat) (staged : BitVec 16)
  | prefixSettle (slot : Nat) (oldest : BitVec 16)
deriving DecidableEq, Repr

/-- A job of an Armature engine (R375): its number, its work, the command it serves, if any, the times it has been
abandoned, the last cause, and the limits of R384 it started under. -/
structure ArmJob where
  id : Nat
  work : ArmWork
  reply : Option (Hdr × Nat)
  restarts : Nat
  lastCause : Nat
  restartLimit : Nat
  liveLimit : Nat
  /-- tick stamp of its placing: it can start from the next tick on (R18) -/
  placedAt : Nat
deriving DecidableEq, Repr

/-- A notice due (R180): kind, table, key, data, and the epoch in which its write landed. -/
structure Notice where
  kind : Nat
  table : Nat
  key : BitVec 320
  data : BitVec 80
  epoch : Nat
deriving DecidableEq, Repr

/-- What a routine has found out and still has to write (R171 to R175): the writes left, the path's buckets, the reply's
status and value, the notice, and what its commit counts. -/
structure ArmPlan where
  /-- clock at which the routine read what the plan rests on -/
  readAt : Nat
  /-- a write of it has been issued -/
  begun : Bool
  steps : List PlanStep
  path : List (Nat × Nat)
  status : Nat
  value : BitVec 64
  notice : Option Notice
  counts : List (Ctr × Nat)
deriving DecidableEq, Repr

/-- A bucket buffer (R375): the slots as read, the write tag, and whether the bucket lay in a locked region. -/
structure ArmBuf where
  store : Nat
  bank : Nat
  bucket : Nat
  slots : List (BitVec 256)
  tag : BitVec 8
  locked : Bool
deriving DecidableEq, Repr

/-- One Armature engine (R375 to R384). -/
structure ArmEngine where
  /-- registers 0-63; 64 each; R375 15_armature.md; reset 0 (DESIGN CHOICE, log 4) -/
  regs : Arr (BitVec 64)
  /-- bucket buffers 0-7; 128 bytes each; R375 15_armature.md; reset 0 (DESIGN CHOICE, log 4) -/
  bufs : Arr ArmBuf
  /-- path journal: addresses of R160 of the path's buckets from its start; 16 x 64; R173, R375 15_armature.md; reset empty -/
  journal : List (BitVec 64)
  /-- job queue; 64; R375 15_armature.md; reset empty -/
  queue : List ArmJob
  /-- running job; R375 15_armature.md; reset none -/
  job : Option ArmJob
  /-- microaddress of the next word; 15; R374 15_armature.md; reset 0 -/
  upc : Nat
  /-- the routine has reached END and ROUTINE_END has still to come; 1; R378 15_armature.md; reset 0 -/
  ended : Bool
  /-- ZERO, CARRY, SIGN of the previous word; 3; R377 15_armature.md; reset 0 (DESIGN CHOICE, log 4) -/
  zero : Bool
  carry : Bool
  sign : Bool
  /-- committed; 1; R381 15_armature.md; reset 0 -/
  committed : Bool
  /-- words executed since the last start; R380 15_armature.md; reset 0 -/
  words : Nat
  /-- one more than the requests of the present word still to complete; 0 when the word waits for none; R379
  15_armature.md; reset 0 -/
  waiting : Nat
  /-- a request of the present word was refused; R380 15_armature.md; reset 0 -/
  refused : Bool
  /-- what the routine has found out and still has to write; R171, R172 07_table_upkeep.md; reset none -/
  plan : Option ArmPlan
  /-- causes that arose at or after the commit, oldest first, to take effect after END; R381 15_armature.md; reset none -/
  late : List Nat
  /-- banks the routine has read: store, bank; R380 15_armature.md; reset none -/
  readBanks : List (Nat × Nat)
  /-- clock until which the engine is held by HASH; R379 15_armature.md; reset 0 -/
  busyUntil : Nat
  /-- fenced; 1; R389 15_armature.md; reset 0 -/
  fenced : Bool
  /-- a fence waits for the routine's END; 1; R429 17_faults.md; reset 0 -/
  fenceDue : Bool
  /-- core clock of the last word executed; R379 15_armature.md; reset none -/
  lastWord : Option Nat
deriving DecidableEq, Repr

/-- A staged or active patch (R386). -/
structure Patch where
  level : Nat
  svn : Nat
  digest : BitVec 384
  words : List (BitVec 256)
  traps : List (Nat × Nat)
  entries : List (Nat × Nat)
deriving DecidableEq, Repr

/-- State of the Armature. -/
structure Armature where
  /-- engines 0-3; R374 15_armature.md; reset as each field gives -/
  engines : Arr ArmEngine
  /-- control store; 16384 x 256; R374 15_armature.md; reset 0 -/
  store : Arr (BitVec 256)
  /-- microaddresses whose word is poisoned by an uncorrectable error; R389 15_armature.md; reset none -/
  storePoison : List Nat
  /-- patch RAM; 2048 x 256; R374 15_armature.md; reset 0 -/
  patchRam : Arr (BitVec 256)
  /-- traps, control-store address to patch address; 64; R378, R386 15_armature.md; reset none -/
  traps : List (Nat × Nat)
  /-- entry table by routine number; 1024 x 15; R374 15_armature.md; reset 0 -/
  entry : Arr Nat
  /-- jobs that the Belvedere holds while every queue is full; R375 15_armature.md; reset empty -/
  backlog : List ArmJob
  /-- base entry table, kept for ARM_PATCH_REVERT; R386 15_armature.md; reset 0 -/
  baseEntry : Arr Nat
  /-- ArmatureVersion.BASE_VERSION; 16; R388 15_armature.md; reset 0 -/
  baseVersion : Nat
  /-- ArmatureVersion.PATCH_LEVEL; 16; R388 15_armature.md; reset 0 -/
  patchLevel : Nat
  /-- ArmatureVersion.PATCH_SVN; 8; R388 15_armature.md; reset 0 -/
  patchSvn : Nat
  /-- ArmatureVersion.BASE_SVN; 8; R388 15_armature.md; reset 0 -/
  baseSvn : Nat
  /-- staged patch, ArmatureVersion.STAGED; R386 15_armature.md; reset none -/
  staged : Option Patch
  /-- ARM_PATCH_ACTIVATE in progress, ArmatureVersion.QUIESCING: command and epoch of acceptance; R387 15_armature.md;
  reset none -/
  quiescing : Option (Hdr × Nat)
  /-- RESTART_LIMIT; 8; R384 15_armature.md; reset 8 -/
  restartLimit : Nat
  /-- LIVE_LIMIT; 29; R384 15_armature.md; reset 2^24 -/
  liveLimit : Nat
deriving DecidableEq, Repr

/-- The role of a device (R398). -/
inductive Role where
  | none | lead | follow
deriving DecidableEq, Repr

/-- The mirrored commands with their operands (R400, R406): what a MIRROR or PREPARE message carries. -/
inductive Mirrored where
  | tableCreate (table : Nat) (r : TableRec)
  | tableDelete (table : Nat)
  | emEntryAdd (table : Nat) (key : BitVec 320) (data : BitVec 80) (static : Bool)
  | emEntryDelete (table : Nat) (key : BitVec 320)
  | directWrite (table index : Nat) (slot : BitVec 256)
  | prefixAdd (family vrf length : Nat) (addr : BitVec 128) (result : BitVec 64)
  | prefixDelete (family vrf length : Nat) (addr : BitVec 128)
  | emProfileSet (prof : Nat) (r : EmProf)
  | lpmProfileSet (prof : Nat) (r : List LpmLookup)
  | nexthopTableSet (table : Option Nat)
  | tableUpkeepSet (table : Nat) (r : UpkeepRec) (fields : BitVec 8)
  | maquetteOpen
  | maquetteCommit (target : EpochName)
  | maquetteDiscard
  | ruleAdd (r : RuleRec)
  | objectDelete (kind index : Nat)
  | rangeSet (cmp : Nat) (extract : BitVec 32) (low high : Nat)
  | parseEntrySet (slot : Nat) (record : BitVec 128)
  | keyProfileSet (dir id : Nat) (extracts : List (BitVec 32)) (rangeGroup : Nat)
  | editProfileSet (id : Nat) (ops : List EditOp)
  | templateSet (id : Nat) (bytes : List Byte)
  | mirrorSessionSet (session : Nat) (toCpu : Bool) (dest trunc : Nat)
  | egressBind (port profile : Nat)
  | tcMapSet (port : Nat) (map : BitVec 32)
  | bufferPoolSet (sizes : List (Option Nat)) (pushout : List (Option Bool))
  | queueAdmitSet (queue : Nat) (record fields : BitVec 64)
  | mcastGroupSet (group : Nat) (self : Bool) (members : List Nat)
  | mcastGroupDelete (group : Nat)
  | groupOpen
  | groupCommit (target : EpochName)
  | groupDiscard
  | twinRoleSwap
  | twinDetach
deriving DecidableEq, Repr

/-- One object of the LEAD's forwarding state (R404). -/
inductive ResyncItem where
  | object (kind slot : Nat) (o : ObjSlot)
  | lpmPrefix (slot : Nat) (o : ObjSlot)
  | range (cmp : Nat) (r : RangeCmp)
  | versions (current : BitVec 16) (older : List (BitVec 16)) (coming : List (BitVec 16 × Nat)) (staged : Option (BitVec 16))
    (ops : Nat)
  | table (table : Nat) (r : TableRec)
  | upkeep (table : Nat) (r : UpkeepRec)
  | entry (table : Nat) (key : BitVec 320) (slots : List (BitVec 256))
  | direct (index : Nat) (bits : BitVec 256)
  | emProfile (prof : Nat) (r : EmProf)
  | lpmProfile (prof : Nat) (r : List LpmLookup)
  | nextHop (table : Option Nat)
  | group (group : Nat) (g : Option McastGroup)
  | tcMap (port : Nat) (map : BitVec 32)
  | pool (owner : Nat) (p : Pool)
  | queueAdmit (queue : Nat) (record : BitVec 64)
deriving DecidableEq, Repr

/-- A Colonnade frame waiting in the replay buffer (R394): its type, LINK_SEQ, TXN, EPOCH, key number and payload (R393), the
core clock of its last transmission, and how often it has been sent. -/
structure ColFrame where
  type : Nat
  seq : Nat
  txn : Nat
  epoch : Nat
  keyNo : Nat
  payload : List Byte
  sentAt : Nat
  sends : Nat
deriving DecidableEq, Repr

/-- A message the device has put out on the Colonnade (R395). A MIRROR carries the command with the slot or seeds that the
LEAD has chosen, and the value it has chosen besides (S of MAQUETTE_OPEN, a GROUP_ID). -/
inductive LinkMsg where
  | mirror (txn opcode : Nat) (value : Option Nat) (cmd : Mirrored)
  | prepare (txn opcode : Nat) (cmd : Mirrored)
  | ack (txn status detail epoch : Nat)
  | commit (txn epoch : Nat)
  | heartbeat (role state : Nat) (version : BitVec 48) (lastTxn epoch : Nat)
  | time (epoch td0 tx rx : Nat)
  | resync (id : Nat) (item : ResyncItem)
  | throttle (n : ThrottleNote)
  | hello
deriving DecidableEq, Repr

/-- State of the Colonnade and the twin pair. -/
structure Twin where
  /-- role; R398 16_twin_ring.md; reset NONE -/
  role : Role
  /-- peer device ID; 6; R398 16_twin_ring.md; reset 0 -/
  peer : Nat
  /-- PEER_ID; 384; R398 16_twin_ring.md; reset 0 -/
  peerId : BitVec 384
  /-- Colonnade connected; 1; R396 16_twin_ring.md; reset 0 -/
  connected : Bool
  /-- pair attached; 1; R398 16_twin_ring.md; reset 0 -/
  attached : Bool
  /-- agreed Colonnade version 0x200 or 0x201, 0 disconnected; R396 16_twin_ring.md; reset 0 -/
  version : Nat
  /-- Colonnade lanes' state; R392 16_twin_ring.md; reset DISABLED -/
  lanes : LaneState
  /-- next LINK_SEQ to send; 32; R393 16_twin_ring.md; reset 0 -/
  txSeq : Nat
  /-- next LINK_SEQ expected; 32; R393 16_twin_ring.md; reset 0 -/
  rxSeq : Nat
  /-- last LINK_ACK received; 32; R394 16_twin_ring.md; reset none -/
  lastAck : Option Nat
  /-- replay buffer; 512 frames; R394 16_twin_ring.md; reset empty -/
  replay : List ColFrame
  /-- epoch in which COLONNADE_RETRY last raised; R394 16_twin_ring.md; reset none -/
  retryEpoch : Option Nat
  /-- core clocks of the last tag failures; R394 16_twin_ring.md; reset empty -/
  tagFails : List Nat
  /-- key number in use for transmission; 1; R396 16_twin_ring.md; reset 0 -/
  keyNo : Nat
  /-- frames sent under the key; R396 16_twin_ring.md; reset 0 -/
  keyFrames : Nat
  /-- moves to the other key number since the attachment, of the sender and of the receiver; R396 16_twin_ring.md; reset 0 -/
  keyMoves : Nat
  rxMoves : Nat
  /-- next TXN; 32; R401 16_twin_ring.md; reset 1 (DESIGN CHOICE, log 4) -/
  txnNext : Nat
  /-- last committed TXN; R395 16_twin_ring.md; reset 0 -/
  lastTxn : Nat
  /-- heartbeats received in the running 64-epoch interval, intervals missed in a row; R403 16_twin_ring.md; reset 0 -/
  beatSeen : Bool
  missed : Nat
  /-- epoch at which the running heartbeat interval began; R403 16_twin_ring.md; reset 0 -/
  beatFrom : Nat
  /-- peer state as its HEARTBEAT told it: role, state, version, last TXN; R395 16_twin_ring.md; reset none -/
  peerState : Option (Nat × Nat × BitVec 48 × Nat)
  /-- TWIN_NOTIFY_SET record; R403 16_twin_ring.md; reset as R403's defaults -/
  notify : NotifyRec
  /-- plane-down frames still to send: port, frames left, next due core clock; R403 16_twin_ring.md; reset none -/
  planeDown : List (Nat × Nat × Nat)
  /-- join in progress: step 1-5 of R404; R404 16_twin_ring.md; reset none -/
  joinStep : Nat
  /-- B of the join; R404 16_twin_ring.md; reset 0 -/
  joinEpoch : Nat
  /-- LEAD freezes mirrored commands; 1; R404 16_twin_ring.md; reset 0 -/
  frozen : Bool
  /-- RESYNC messages received, newest first; R404 16_twin_ring.md; reset empty -/
  resyncIn : List (Nat × List Byte)
  /-- roles swap pending: no command of R400 until then; R406 16_twin_ring.md; reset none -/
  swapAt : Option Nat
  /-- last throttle notice of the twin; R403 16_twin_ring.md; reset none -/
  notice : Option ThrottleNote
  /-- messages sent on the Colonnade, newest first; R395 16_twin_ring.md; reset empty -/
  sent : List LinkMsg
  /-- frames put out on the Colonnade's lanes, newest first: bytes of R393; R393 16_twin_ring.md; reset empty -/
  wire : List (List Byte)
  /-- this device's stamps of the last TIME it sent and of the last it received, in 0.5 ns of TD0; R281 11_time.md; reset none, 0 -/
  timeTx : Option Nat
  timeRx : Nat
  /-- path delay of the Colonnade that the FOLLOW computes, in 0.25 ns; R281 11_time.md; reset 0 -/
  pathDelay : Int
deriving DecidableEq, Repr

/-- A ring frame the device has sent: out of the west port rather than the east, the frame, and for a relayed one the packet
that holds its cells of the COLONNADE pool (R214, R407); and how often it has been sent (R394). -/
structure RingOut where
  west : Bool
  frame : RingFrame
  held : Option Nat
  sends : Nat
deriving DecidableEq, Repr

/-- State of the Slait ring ports. -/
structure RingState where
  /-- enumeration's present map: device ID, reply; R408 16_twin_ring.md; reset empty -/
  present : List EnumReply
  /-- root's device ID; R408 16_twin_ring.md; reset none -/
  root : Option Nat
  /-- enumeration due or in progress, and core clock from which due; R408 16_twin_ring.md; reset none -/
  enumDue : Option Nat
  /-- epoch of the last enumeration; R408 16_twin_ring.md; reset 0 -/
  enumEpoch : Nat
  /-- east and west ports broken and wrapping; R409 16_twin_ring.md; reset 0 -/
  brokenEast : Bool
  brokenWest : Bool
  /-- breaks of other devices as their events have told them: device, port 0 east or 1 west; R409, R412 16_twin_ring.md; reset none -/
  breaks : List (Nat × Nat)
  /-- east and west links taken down by a frame sent 16 times without acknowledgement; R394, R407 16_twin_ring.md; reset 0 -/
  downEast : Bool
  downWest : Bool
  /-- hops from the root as the last ENUM of each direction has told them; R408 16_twin_ring.md; reset none -/
  hopsEast : Option Nat
  hopsWest : Option Nat
  /-- left out of the map by a duplicate ID; takes no command; R408 16_twin_ring.md; reset 0 -/
  excluded : Bool
  /-- last throttle notice of each device; R403 16_twin_ring.md; reset none -/
  notices : List (Nat × ThrottleNote)
  /-- segments being reassembled: source, type, bytes; R407 16_twin_ring.md; reset empty -/
  partials : List (Nat × Nat × List Byte)
  /-- frames sent on each port and not acknowledged, by hop; R407 16_twin_ring.md; reset empty -/
  unacked : List RingOut
  /-- epoch in which RING_RETRY last raised; R407 16_twin_ring.md; reset none -/
  retryEpoch : Option Nat
  /-- frames sent, newest first; R407 16_twin_ring.md; reset empty -/
  sent : List RingOut
deriving DecidableEq, Repr

end Sys2Proof.Machine
end

