-- ==== Sys2Proof/Machine/StPower.lean ====
section
/-! DEFINITION. State of power, thermal limits, comparators and Dormant mode (spec/18_power.md), of secure boot and
attestation (spec/19_security.md), and of start-up and the pins (spec/20_startup.md, spec/21_electrical.md). -/

namespace Sys2Proof.Machine

/-- A Gatehouse comparator (R457): 0-3 time compare, 4-7 temperature, 8-13 supply, 14-15 external level. -/
structure Comparator where
  /-- domain of a time compare; 3; R457 18_power.md; reset 0 (DESIGN CHOICE, log 4) -/
  domain : Nat
  /-- instant of a time compare, in 2^-16 ns, none before one is written; R457 18_power.md; reset none -/
  instant : Option Nat
  /-- the written instant has fired; 1; R457 18_power.md; reset 0 -/
  fired : Bool
  /-- THRESH_C, LOW_MV or LEVEL_MV as set, none for its reset value; R452, R457 18_power.md; reset none -/
  thresh : Option Nat
  /-- EVENT_EN; 1; R457 18_power.md; reset 1 -/
  eventEn : Bool
  /-- WAKE_EN; 1; R457 18_power.md; reset 0 -/
  wakeEn : Bool
  /-- tripped; 1; R462 18_power.md; reset 0 -/
  tripped : Bool
deriving DecidableEq, Repr

/-- An AVSBus write in progress (R444, R445): its code, tries, the epoch in which it was put out, the core clock of its
acknowledgement. -/
structure AvsWrite where
  code : Nat
  tries : Nat
  epoch : Nat
  ackAt : Option Nat
  /-- faster point and cause that waits for the voltage to settle -/
  point : Option (Nat × Nat)
deriving DecidableEq, Repr

/-- State of power. -/
structure Power where
  /-- operating point in force, PowerStatus.OP; 3; R446, R456 18_power.md; reset P0 -/
  op : Nat
  /-- cause of the last change, PowerStatus.CAUSE; 3; R456 18_power.md; reset 0 -/
  cause : Nat
  /-- window average that led to the last change; R326 13_telemetry.md; reset 0 -/
  causeW : Nat
  /-- temperature band; 2; R443, R456 18_power.md; reset 0 -/
  band : Nat
  /-- thermal demand is 7; R446, R454 18_power.md; reset 0 -/
  thermal : Bool
  /-- floor demand is 7; R450 18_power.md; reset 0 -/
  floor : Bool
  /-- governor demand; 3; R448 18_power.md; reset 0 -/
  governor : Nat
  /-- host demand OP_HOST; 3; R446 18_power.md; reset 0 -/
  host : Nat
  /-- CAP_W; R449 18_power.md; reset 1150 -/
  capW : Nat
  /-- WINDOW_MS; R449 18_power.md; reset 2 -/
  windowMs : Nat
  /-- MARGIN_W; R449 18_power.md; reset 25 -/
  marginW : Nat
  /-- per-epoch powers of the window (lane rails, other rails), newest first; R448 18_power.md; reset empty -/
  window : List (Nat × Nat)
  /-- epoch from which the running window counts; R449 18_power.md; reset 0 -/
  windowFrom : Nat
  /-- epoch of the decision at which the governor's demand last changed; R448 18_power.md; reset none -/
  govAt : Option Nat
  /-- epoch whose governor decision has been taken; R448 18_power.md; reset none -/
  decidedAt : Option Nat
  /-- cause code of the demand that fell last; R446 18_power.md; reset 0 -/
  fell : Nat
  /-- CAP_UNATTAINABLE raised for the present condition; 1; R448 18_power.md; reset 0 -/
  unattainable : Bool
  /-- THERMAL_P7_EN; 1; R454 18_power.md; reset 0 -/
  thermalEn : Bool
  /-- compatibility frequencies of the 16 slices, none when the mode is off; R455 18_power.md; reset none -/
  compat : Option (List Nat)
  /-- EnergyAccumulator in microjoules; 64; R456 18_power.md; reset 0 -/
  energy : Nat
  /-- EPOCH_W; 16; R456 18_power.md; reset 0 -/
  epochW : Nat
  /-- TJ_MAX; 8; R456 18_power.md; reset 0 -/
  tjMax : Nat
  /-- cast-table code in force, PowerStatus.VID; 8; R456 18_power.md; reset 0 -/
  vid : Nat
  /-- last code written to the regulator since the Gatehouse powered up; R457 18_power.md; reset none -/
  lastAvs : Option Nat
  /-- AVSBus write in progress; R444 18_power.md; reset none -/
  avs : Option AvsWrite
  /-- AVS_FAULT, with the epoch of the failure; R445, R456 18_power.md; reset none -/
  avsFault : Option Nat
  /-- comparators 0-15; R457 18_power.md; reset as each field gives -/
  cmps : Arr Comparator
  /-- WAKE_N_EN of the Dormant entry; 1; R458 18_power.md; reset 0 -/
  wakeNEn : Bool
  /-- wake cause bits: 0-15 comparators, 16 WAKE_N, 17 ring, 18 PERST#; R459 18_power.md; reset 0 -/
  wakeCauses : BitVec 32
  /-- time clock of the first wake cause; R459 18_power.md; reset none -/
  wakeAt : Option Nat
  /-- wake is under way: DORMANT_WAKE still to be raised; 1; R459 18_power.md; reset 0 -/
  waking : Bool
  /-- ring ports sending the wake wave, west and its start; R460 18_power.md; reset none -/
  waves : List (Bool × Nat)
  /-- AVSBus writes sent, newest first; R444 18_power.md; reset empty -/
  avsSent : List Nat
deriving DecidableEq, Repr

/-- Where the boot has come to (R467, R484). -/
inductive BootStep where
  | held | released | waitPush | firmware | ready | halted
deriving DecidableEq, Repr

/-- What is known of a flash slot's image (R467, R470): as the board's flash holds it, its header erased, or an image that
FW_FLASH_COMMIT has completed. -/
inductive FlashSlot where
  | board | erased
  | image (bytes : List Byte)
deriving DecidableEq, Repr

/-- An attestation report accepted and not yet captured (R473, R475): its command, nonce, leaves and epoch of acceptance. -/
structure ReportDue where
  hdr : Hdr
  nonce : BitVec 384
  top : Nat
  lower : Nat
  epoch : Nat
deriving DecidableEq, Repr

/-- State of boot, fuses, images and identity. -/
structure Security where
  /-- boot step; R467 19_security.md; reset held in RESET -/
  step : BootStep
  /-- reports of the present tick, captured at its end; R473, R475 19_security.md; reset empty -/
  reports : List ReportDue
  /-- array initialisation complete; 1; R484 20_startup.md; reset 0 -/
  arrayInit : Bool
  /-- firmware initialisation complete; 1; R484 20_startup.md; reset 0 -/
  fwInit : Bool
  /-- PERST# high; 1; R482 20_startup.md; reset 0 -/
  perstHigh : Bool
  /-- PCIe link up; 1; R408 16_twin_ring.md, R484 20_startup.md; reset 0 (DESIGN CHOICE, log 4) -/
  pcieUp : Bool
  /-- DEVICE_ID straps; 6; R483 20_startup.md, R507 22_registers.md; reset 0 (DESIGN CHOICE, log 4) -/
  deviceId : Nat
  /-- RING_ROOT strap; 1; R483 20_startup.md, R507 22_registers.md; reset 0 (DESIGN CHOICE, log 4) -/
  ringRoot : Bool
  /-- BOOT_SRC strap, HOST; 1; R483 20_startup.md, R507 22_registers.md; reset 0 (DESIGN CHOICE, log 4) -/
  bootHost : Bool
  /-- fuse REVOKED; 8; R463 19_security.md; reset 0 (DESIGN CHOICE, log 4) -/
  revoked : BitVec 8
  /-- fuse SVN; 255-bit thermometer; R463 19_security.md; reset 0 (DESIGN CHOICE, log 4) -/
  svn : Nat
  /-- fuse HSS_LEAF; 4096-bit counter; R463, R471 19_security.md; reset 0 (DESIGN CHOICE, log 4) -/
  hssLeaf : Nat
  /-- fuses read in this boot (REVOKED, FUSED_SVN, HSS_LEAF of BootStatus); R469 19_security.md; reset 0 -/
  fusesRead : Bool
  /-- DeviceSerial is valid; 1; R507 22_registers.md; reset 0 -/
  serialValid : Bool
  /-- source booted 0 none 1 FLASH 2 HOST, and slot; R469 19_security.md, R508 22_registers.md; reset 0 -/
  source : Nat
  slotB : Bool
  /-- codes of slot A, slot B and push, 15 not tried; R469 19_security.md, R508 22_registers.md; reset 15 -/
  codeA : Nat
  codeB : Nat
  codePush : Nat
  /-- signature results of slot A, slot B and push; 2 each; R469 19_security.md; reset 0 -/
  sigA : Nat
  sigB : Nat
  sigPush : Nat
  /-- THERMTRIP_PRIOR; 1; R438 17_faults.md; reset 0 -/
  thermtripPrior : Bool
  /-- HALTED; 1; R469 19_security.md, R508 22_registers.md; reset 0 -/
  halted : Bool
  /-- image chosen to start; R467 19_security.md; reset none -/
  chosen : Option ImageHdr
  /-- running firmware; R507 22_registers.md; reset none -/
  running : Option ImageHdr
  /-- slots rejected in this boot, to be raised once firmware runs; R467 19_security.md; reset none -/
  rejected : List Nat
  /-- pushed chunks, newest first: offset and bytes; R468 19_security.md; reset empty -/
  push : List (Nat × List Byte)
  /-- chunks written to flash, newest first: slot (0 A, 1 B), offset and bytes; R470 19_security.md; reset empty -/
  flash : List (Nat × Nat × List Byte)
  /-- flash slots 0 A, 1 B; R467, R470 19_security.md; reset as the board's flash holds them -/
  slots : Arr FlashSlot
  /-- top leaf of the lower tree in use; R471 19_security.md; reset none -/
  topLeaf : Option Nat
  /-- lower tree ready; 1; R471 19_security.md; reset 0 -/
  treeReady : Bool
  /-- next lower leaf; 15; R471 19_security.md; reset 0 -/
  lowerLeaf : Nat
  /-- no further report can be signed, by exhaustion or a failed burn; R471 19_security.md; reset 0 -/
  exhausted : Bool
  /-- M0-M3; 384 each; R473 19_security.md; reset 0 -/
  m0 : BitVec 384
  m1 : BitVec 384
  m2 : BitVec 384
  m3 : BitVec 384
  /-- CONFIG_DIGEST; 384; R473, R474 19_security.md; reset 0 -/
  configDigest : BitVec 384
  /-- CONFIG_COUNT; 32; R474 19_security.md; reset 0 -/
  configCount : Nat
  /-- restart after the reply of FW_RESTART; R470 19_security.md; reset 0 -/
  restarting : Bool
  /-- test access port: instruction held; R502 21_electrical.md; reset BYPASS -/
  jtagHeld : Option Nat
  jtag : Nat
deriving DecidableEq, Repr

end Sys2Proof.Machine
end

