-- ==== Sys2Proof/Machine/StChange.lean ====
section
/-! DEFINITION. Changes that take effect at an epoch boundary (R19 to R21, spec/01_architecture.md) and group
transactions (R356 to R360, spec/14_commands.md). -/

namespace Sys2Proof.Machine

/-- A change that becomes visible at an epoch boundary (R19), with the values it sets. Records with a field mask carry
the record and the mask of written bits. -/
inductive Change where
  | devState (st : DevState)
  | cpuMap (queue ring : Nat)
  | portMode (octet rate : Nat) (mask : BitVec 8)
  | portConfig (port : Nat) (record fields : BitVec 64)
  | portEnable (port : Nat) (on : Bool)
  | narrow (port : Nat)
  | tableCreate (table : Nat) (r : TableRec)
  | tableDelete (table : Nat)
  | emProfile (prof : Nat) (r : EmProf)
  | lpmProfile (prof : Nat) (r : List LpmLookup)
  | nextHop (table : Option Nat)
  | upkeep (table : Nat) (r : UpkeepRec) (fields : BitVec 8)
  | version (v : BitVec 16)
  | queueMode (octet : Nat) (q16 : Bool)
  | queueSched (queue : Nat) (record fields : BitVec 64)
  | shaper (isPort : Bool) (index : Nat) (record : BitVec 64)
  | portSched (port : Nat) (record fields : BitVec 64)
  | tcMap (port : Nat) (map : BitVec 32)
  | gateList (port : Nat) (l : GateList)
  | gateClear (port : Nat)
  | pools (sizes : List (Option Nat)) (pushout : List (Option Bool))
  | queueAdmit (queue : Nat) (record fields : BitVec 64)
  | pg (port prio : Nat) (xoff xon headroom : Option Nat)
  | elemStop (e : Element) (drainLimit : Nat)
  | elemRestore (e : Element)
  | mcastSet (group : Nat) (self : Bool) (members : List Nat)
  | mcastDelete (group : Nat)
  | cutThrough (port : Nat) (en : Option Bool) (start : Option Nat)
  | timePort (port : Nat) (record fields : BitVec 64)
  | cipherPort (port : Nat) (record fields : BitVec 64)
  | scSet (sc dir : Nat) (replayProtect : Option Bool) (replayWindow pnThreshold : Option Nat)
  | scDelete (sc dir : Nat)
  | saInstall (p : SaParams) (key : BitVec 256)
  | saDelete (sc dir an : Nat)
  | saSelect (sc an : Nat)
  | stream (stream : Nat) (r : StreamRec) (fields : BitVec 16) (format : Nat)
  | report (queue : Nat) (r : ReportRec) (fields : BitVec 8)
  | ioam (nodeId : BitVec 56) (td : Nat) (namespaces : List (Nat × BitVec 64))
  | opHost (op : Nat)
  | opPoint (op cause : Nat)
  | thermal
  | dormant (wakeNEn : Bool)
  | compat (freqs : Option (List Nat))
  | pipeRetire (pipe : Nat)
  | pipeRestore (pipe : Nat)
  | sliceFence (slice : Nat)
  | replicaFence (replica : Nat)
  | unitUnfence (u : UnitRef)
  | bankDetach (part bank : Nat)
  | bankRestore (part bank : Nat)
  | spareStart (store bank : Nat) (back : Bool)
  | cipherFence (engine : Nat)
  | laneRestore (lane : Nat) (passes : Bool)
  | spareSwitch (store group bank : Nat) (back : Bool)
  | isolate
  | detach
  | roleSwap
  | drain (on : Bool)
  | resyncEnd (config : BitVec 384) (count : Nat)
deriving DecidableEq, Repr

/-- A change accepted and not yet visible: the epoch whose boundary applies it, the objects it changes (R21), and the
change. -/
structure PendingChange where
  epoch : Nat
  objs : List (Nat × Nat)
  change : Change
deriving DecidableEq, Repr

/-- A part of a group (R357): its opcode, the objects it changes and its changes. -/
structure Part where
  opcode : Nat
  objs : List (Nat × Nat)
  changes : List Change
deriving DecidableEq, Repr

/-- A mirrored transaction (R401): its number, header, opcode and command; true where it has an effective epoch (PREPARE)
and false otherwise (MIRROR); the epoch it was sent or prepared in, the epoch it names (0 for none) and the tick stamp at
which PREPARE went out; COMMIT's epoch once sent, and whether the ACK of the COMMIT has come; the objects and changes it
has prepared, and the opcode and parameters that its digest covers (R474). -/
structure Txn where
  txn : Nat
  hdr : Hdr
  opcode : Nat
  cmd : Mirrored
  prepared : Bool
  sentEpoch : Nat
  target : Nat
  epoch : Option Nat
  acked : Bool
  objs : List (Nat × Nat)
  changes : List Change
  digest : List Byte
deriving DecidableEq, Repr

/-- The open group transaction (R357 to R360). -/
structure Group where
  /-- GROUP_ID; 32; R357 14_commands.md; reset none open -/
  id : Nat
  /-- session that opened it; R357 14_commands.md; reset none open -/
  sender : Nat
  /-- TWIN flag of GROUP_OPEN; R359 14_commands.md; reset none open -/
  twin : Bool
  /-- parts held, in order; 256; R357 14_commands.md; reset none open -/
  parts : List Part
  /-- commands received with GROUP set, failed ones too; R357 14_commands.md; reset none open -/
  count : Nat
  /-- FAILED: first failing part and its status; R357 14_commands.md; reset none open -/
  failed : Option (Nat × Nat)
  /-- epoch of the last part or of GROUP_OPEN; R360 14_commands.md; reset none open -/
  lastEpoch : Nat
  /-- GROUP_COMMIT taken, PREPARING: command, target epoch, epoch of acceptance; R358 14_commands.md; reset none -/
  commit : Option (Hdr × EpochName × Nat)
deriving DecidableEq, Repr

end Sys2Proof.Machine
end

