-- ==== Sys2Proof/Machine/State.lean ====
section
/-! DEFINITION. The machine's state, the reasons a step can stop, and the state after reset. -/

namespace Sys2Proof.Machine

/-- Why a command stops the machine. -/
inductive Fault where
  /-- Raised by `execX` of a command that names a unit the device does not have (a lane above 1,023, a bank above its
  store, a ring above 227): the event cannot happen on the device (R10, R2). SAFE: the machine stops where no hardware
  event exists. -/
  | noSuchUnit (number : Nat)
deriving DecidableEq, Repr

/-- Why a command has no meaning in the model. -/
inductive Refusal where
  /-- Raised by `exec` for a command that the model gives no meaning. SAFE: nothing can be proved of what follows. -/
  | notModelled (mnemonic : String)
deriving DecidableEq, Repr

/-- The core clock, the tick and the epoch (R11 to R13). -/
structure Clock where
  /-- core clocks since the Gatehouse powered up; R11 01_architecture.md; reset 0 -/
  now : Nat
  /-- epoch counter; 64; R12 01_architecture.md; reset 0 -/
  epoch : Nat
  /-- tick number within the epoch; 10; R11 01_architecture.md; reset 0 -/
  tick : Nat
  /-- clock within the tick; 1; R11 01_architecture.md; reset 0 -/
  k : Nat
  /-- the core is out of reset and its clock counts; 1; R482 20_startup.md; reset 0 -/
  running : Bool
  /-- the core has been released since the Gatehouse powered up; 1; R12 01_architecture.md; reset 0 -/
  released : Bool
  /-- Gatehouse epoch tally, and the clock within its epoch while the core is held; 64 + 11; R13 01_architecture.md;
  reset 0 -/
  tally : Nat
  tallyClock : Nat
  /-- core clock at which the present tick began; R18 01_architecture.md; reset 0 -/
  tickAt : Nat
  /-- unnumbered ticks of a lengthened epoch still to pass; 10; R282 11_time.md; reset 0 -/
  stretch : Nat
  /-- core clock and EPOCH_BOUNDARY readings last taken; R443, R448 18_power.md; reset 0 (DESIGN CHOICE, log 6) -/
  last : Readings
  /-- core reference clock present; 1; R482, R487 20_startup.md; reset 1 -/
  refOk : Bool
deriving DecidableEq, Repr

/-- The machine's state. -/
structure State where
  clock : Clock
  cmd : Commands
  faults : Faults
  lp : LanePlane
  cipher : Cipher
  rules : RulePlane
  tables : Tables
  pk : Packets
  time : Time
  eg : Egress
  tel : Telemetry
  arm : Armature
  twin : Twin
  ring : RingState
  power : Power
  sec : Security
  /-- changes accepted and not yet visible, in order of acceptance; R19, R20 01_architecture.md; reset empty -/
  changes : List PendingChange
  /-- open group transaction; R357 14_commands.md; reset none -/
  group : Option Group
  /-- next GROUP_ID; R357 14_commands.md; reset 1 (DESIGN CHOICE, log 4) -/
  groupNext : Nat
  /-- mirrored transactions that the LEAD has sent; R401 16_twin_ring.md; reset none -/
  txns : List Txn
  /-- mirrored transactions that the FOLLOW has prepared and not yet committed; R401, R402 16_twin_ring.md; reset none -/
  prepared : List Txn
  /-- counters by counter x 2^32 + instance; reset 0 -/
  ctr : Arr Nat
  /-- what each counter has gained in the core clock `ctrAt`, which a CLEAR of that clock keeps; R6 00_scope.md, R47
  02_lanes.md; reset 0 -/
  ctrNow : Arr Nat
  ctrAt : Nat
  /-- the model's own field: how many free values have been drawn (no register of the device); reset 0 (DESIGN CHOICE,
  log 2) -/
  freeCtr : Nat
  /-- commands waiting, first in first out (the model's own queue); reset empty -/
  pending : List Instr
deriving DecidableEq, Repr

/-! ## Reset values -/

/-- Ring registers after reset (R510), with the vector that R342 assigns to the ring `rid`. -/
def Ring.init (rid : Nat) : Ring :=
  { base := 0, writeBack := 0, en := false, err := false, func := 0, sizeExp := 6
    vector := if 16 ≤ rid ∧ rid < 32 then rid - 16
      else if 224 ≤ rid ∧ rid < 228 then 16 + (rid - 224)
      else if 32 ≤ rid ∧ rid < 96 then 64 + (rid - 32)
      else if 160 ≤ rid ∧ rid < 224 then 128 + (rid - 160) else 0
    minGap := 0, devIndex := 0, hostIndex := 0, lastSignal := none, signalDue := false, seq := 0, lost := false
    dropEpoch := none, kept := none }

/-- Assigned sources of an event group (R366): how many indexes from 0 are assigned; group 13 leaves index 1 out
(R439). -/
def assignedCount (g : Nat) : Nat :=
  match g with
  | 0 => 5 | 1 => 10 | 2 => 6 | 3 => 8 | 4 => 2 | 5 => 29 | 6 => 23 | 7 => 7 | 8 => 9 | 9 => 8 | 10 => 8 | 11 => 1
  | 12 => 15 | 13 => 15 | 14 => 13 | 16 => 22 | 18 => 13 | 19 => 7 | 20 => 7 | 21 => 6 | _ => 0

/-- EventEnable[g] after reset: every assigned source set (R367). -/
def enableInit (g : Nat) : BitVec 32 :=
  if g = 13 then BitVec.ofNat 32 (2 ^ 15 - 1 - 2) else BitVec.ofNat 32 (2 ^ assignedCount g - 1)

def HostOut.init : HostOut :=
  { replies := [], writeBacks := [], events := [], msix := [], rx := [], txDone := [], smbus := [], reads := [], epReads := [], dma := [] }

def Commands.init : Commands :=
  { dev := .reset, rings := [], taken := [], running := [], sessions := [], evStatus := [], evSetAt := [], evRaisedAt := [], evEnable := [], evRoute := [], cpuMap := []
    relays := [], relayNext := 0, violations := [], violCount := 0, latches := [], carried := [], unitCmds := [], msixTable := [], msixPending := 0, out := HostOut.init, eventsDue := [] }

def FirstError.init : FirstError :=
  { valid := false, simultaneous := false, wire := false, permanent := false, severity := 0, reaction := 0, source := 0
    inst := 0, stamp := 0, detail := 0 }

/-- A reaction-table entry after reset (R421). -/
def ReactEntry.init : ReactEntry := { reaction := 0, count := 3, windowMs := 1000, clearS := 10 }

def FaultInst.init : FaultInst := { stamps := [], permanent := false, lastCounted := 0 }

def Faults.init : Faults :=
  { log := [], nextSeq := 0, first := FirstError.init, firstNext := none, logMinSev := 1, firstMinSev := 2, isolatePorts := 0, react := []
    insts := [], masked := [], maskedAt := [], stashBad := [], writeBacks := [], markers := [], poisoned := [], spareJobs := [], spareOf := []
    pipeRetired := [], pipeClosing := [], sliceFenced := [], replicaFenced := [], partBank := [], decided := [], bgPos := []
    dataBad := false, thermtripPin := false, thermtripSeen := false, thermtripFree := false }

/-- A lane after reset: the record of R35, state DISABLED. -/
def Lane.init : Lane :=
  { cfg := (1 <<< 49) ||| (0x10 <<< 43) ||| (0x3 <<< 40) ||| (0x01 <<< 31) ||| (0x3A <<< 25) ||| (0x36 <<< 19)
      ||| (0x1E <<< 14)
    st := .disabled, since := 0, stamps := [], permanent := false, upFor := 0, restartAt := none, held := false, prbsGen := 0
    prbsChk := 0, loopback := 0, scan := none, snr := 0, squelched := false
    serWas := none }

def Octet.init : Octet :=
  { rate := 0, mask := 0, q16 := false, orderMode := 0, orderState := .pending, reversed := false, windowFrom := none
    trainMs := 500, serExp := 4, holdoffMs := 100, contrary := [] }

/-- A port after reset, with the record of R59. -/
def Port.init : Port :=
  { cfg := (0x2400 <<< 50) ||| (0xFFFF <<< 16) ||| (0x064 <<< 6)
    enabled := false, linkUp := false, rawUp := false, rawSince := 0, aligned := false, localFault := false
    remoteFault := false, narrowed := none, ability := none, pause := [], xoff := [], maxPast := [], flowUntil := 0, flowSent := []
    flowDue := [] }

def LanePlane.init : LanePlane :=
  { lanes := [], octets := [], ports := [], calibrating := [], calibrated := [], scanNext := 1, pauseSent := []
    sendsRemoteFault := [] }

def Sc.init : Sc :=
  { valid := false, port := 0, sci := 0, replayProtect := true, replayWindow := 0, pnThreshold := none, enc := none }

def Sa.init : Sa :=
  { present := false, erased := false, key := 0, salt := 0, ssci := 0, pn := 1, threshRaised := false }

def CEngine.init : CEngine :=
  { tamperCount := 4, tamperNs := 10000000, mismatches := [], erased := false, fenced := false, alarmAt := none }

def LaCtx.init : LaCtx :=
  { valid := false, kind := 0, key := 0, salt := 0, iv := 0, ctrBlock := 0, ghash := 0, offset := 0, suspended := none
    suspendedAt := 0 }

/-- The port cipher record of R78 after reset. -/
def cipherPortInit : BitVec 64 := (1 <<< 57) ||| (1 <<< 54) ||| (0x888E <<< 21)

def Cipher.init : Cipher :=
  { ports := [], past := [], rxSc := [], txSc := [], rxSa := [], txSa := [], engines := [], ctx := [], running := none
    waiting := [], runFrom := 0, works := [], laNext := 0 }

def Stamp.init : Stamp := { birth := 0, birthSet := false, death := 0, deathSet := false }

def ObjSlot.init : ObjSlot := { valid := false, id := 0, stamp := Stamp.init, val := .bind 0 }

def RangeCmp.init : RangeCmp := { extract := 0, low := 1, high := 0xFFFF }

def RulePlane.init : RulePlane :=
  { objs := [], program := [], prefixes := [], ranges := [], current := 0, older := [], coming := [], inFlight := [], staged := none
    stagedOps := 0, held := none, groupSeal := false, stream := [], lastLand := none, lpmUnits := 0 }

def EmSlot.init : EmSlot := { bits := 0, poison := false }

/-- Defaults of the record of R140. -/
def TableRec.init : TableRec :=
  { kind := 0, width := 1, baseBank := 0, bankCount := 2, versioned := 1, learnEn := 0, ageEn := 0, seedSet := 0
    seed0 := 0, seed1 := 0 }

/-- Defaults of the upkeep record of R181. -/
def UpkeepRec.init : UpkeepRec :=
  { maxDepth := 3, ageExp := 28, learnRate := 64, learnMove := 1, learnTemplate := 0, notice := 0, noticeQueue := 0 }

def TableDef.init : TableDef :=
  { valid := false, rcd := TableRec.init, upkeep := UpkeepRec.init, ageFrom := 0, passAt := none, passes := 0, passLate := false
    stashHigh := false, reinsertAt := 0 }

def Lock.init : Lock :=
  { valid := false, func := 0, ring := 0, firstBank := 0, bankCount := 0, firstBucket := 0, bucketCount := 0
    leaseEnd := 0, ending := 0 }

/-- A profile set with no lookup and MISS_OP DROP (R153). -/
def EmProf.init : EmProf := { lookups := [], missOp := 0, missArg := 0 }

def Tables.init : Tables :=
  { defs := [], em := [], emHit := [], stash := [], stashHit := [], tags := [], pairs := [], lpmPoison := [], emProf := []
    lpmProf := [], nextHop := none, lpmSeed := 0, reqs := [], reqNext := 0, used := [], deferEpoch := [], maint := []
    tickets := 0x0000_0100_2412_4444, starved := 0, starvedAt := [], granted := [], stashWrites := [], stashAt := [], learnQ := []
    overflowEpoch := none, learnTaken := [], locks := [], scrubPeriod := 60, scrubBase := 0, scrubPos := [], scrubFrom := [], jobs := []
    jobNext := 0 }

def CellEntry.init : CellEntry := { alloc := false, owner := 0, mcast := false, ref := 0, quarantined := false }

def Partition.init : Partition :=
  { heads := [], fresh := [], freed := [], nextBank := 0, queue := [], used := [], rebuilding := [], life := .live, stopEpoch := 0
    drainLimit := 256, drained := false, forced := false, rebuildFrom := none, landedAt := none }

def SliceSt.init : SliceSt :=
  { stageA := [], grantPtr := [], matched := [], matchAt := none, stageAAt := none, releaseAt := none, seqNext := [] }

/-- Default pool sizes of R214, by owner class. -/
def poolSizeInit (owner : Nat) : Nat :=
  match owner with
  | 1 => 704512 | 2 => 49152 | 3 => 16384 | 4 => 8192 | 5 => 4096 | 6 => 4096 | _ => 0

def Pool.init (owner : Nat) : Pool := { size := poolSizeInit owner, pushout := true }

def PgRec.init : PgRec := { xoff := 1024, xon := 768, headroom := 512 }

def Counts.init : Counts := { cq := [], pool := [], pg := [], head := [] }

def Packets.init : Packets :=
  { pkts := [], pktNext := 0, copies := [], copyNext := 0, tags := [], tagNext := [], arrived := [], refused := []
    cloisterQ := [], injectQ := [], slotNo := [], directQ := [], queues := [], open_ := [], released := [], macFifo := [], sending := [], cells := []
    parts := [], slices := [], chans := [], pools := [], pgs := [], now := Counts.init, prev := Counts.init, before := { busy := [], gated := [], up := [], held := [] }, voided := []
    data := [], cycles := [], peaks := [], pushDue := [], voidRecs := []
    onceEpoch := [], groups := [], cutThrough := [], orphans := [], lineWait := [], slots := [], turn := [], sent := [] }

def Domain.init : Domain :=
  { value := 0, sample := 0, adj := 0, hostWd := 0, holdMax := 3600, st := .free, wdFrom := 0, holdFrom := 0, hist := []
    firstAdj := none, wdHit := false, jumps := [], steps := [], adjWas := none, setAtPps := none, events := [] }

def Pps.init : Pps :=
  { dir := 0, domain := 0, activeLow := false, offsetNs := 0, widthNs := 100000000, asserted := false, edgeAt := 0
    lastSec := none, sentEdges := [], queue := [], lastEdge := none, lost := false }

def Snap.init : Snap :=
  { seq := 0, causePps := false, causeWrite := false, ppsPin := 0, ppsEn := false, epoch := 0, tick := 0, clock := 0
    times := [], dueWrite := false, duePps := false, taken := [] }

def Time.init : Time :=
  { domains := [], pps := [], ref10m := 0, ref10mValid := false, snap := Snap.init, ports := [] }

/-- A shaper after reset: RATE 0, BURST 32,768, full (R293, R294). -/
def Shaper.init : Shaper := { cfg := 0x8000 <<< 18, level := 32768 * 25 * 2 ^ 24 }

/-- Defaults of the report record of R323. -/
def ReportRec.init : ReportRec := { en := 0, stream := 0, delayTrig := 0, depthTrig := 0, gap := 1024, snapLen := 64 }

def Queue.init : Queue :=
  { admitRec := none, sched := none, shaper := Shaper.init, tripped := false, wdFrom := none, clearFrom := none, depth := 0
    delay := 0, qflags := 0, peaks := [], report := ReportRec.init, lastReport := none, reportDue := [] }

def EPort.init : EPort :=
  { cfg := none, tcMap := none, shaper := Shaper.init, plannedEnd := 0, oper := none, waitList := none, gates := 0xFFFF
    lastTrans := 0, downAt := none, holding := false, holdEnd := 0, downDue := false, handAt := none }

def Egress.init : Egress := { queues := [], ports := [], refilledAt := none }

/-- Defaults of the stream record of R317. -/
def StreamRec.init : StreamRec :=
  { en := 0, format := 0, destKind := 0, dest := 0, tc := 7, da := 0, sa := 0, etherType := 0x88B5, template := 0xFF
    firstQueue := 0, lastQueue := 9471, intervalExp := 10, records := 64, depthThresh := 0, delayThresh := 0 }

def Stream.init : Stream :=
  { rcd := StreamRec.init, format := 1, seq := 0, due := [], intervalFrom := 0, openFrom := 0, partialOpen := false
    partialDue := false, discarded := false, lastGen := none }

def Perf.init : Perf := { cfg := 0, count := 0, next := none, lastAt := none, was := false }

def Telemetry.init : Telemetry :=
  { streams := [], nodeId := 0, ioamTd := 0, namespaces := [], perf := [], cycles := [], freeze := false, ledger := []
    td0At := 0 }

def ArmBuf.init : ArmBuf := { store := 0, bank := 0, bucket := 0, slots := [0, 0, 0, 0], tag := 0, locked := false }

def ArmEngine.init : ArmEngine :=
  { regs := [], bufs := [], journal := [], queue := [], job := none, upc := 0, ended := false, zero := false
    carry := false, sign := false, committed := false, words := 0, waiting := 0, refused := false, plan := none
    late := [], readBanks := [], busyUntil := 0, fenced := false, fenceDue := false
    lastWord := none }

def Armature.init : Armature :=
  { engines := [], store := [], storePoison := [], patchRam := [], traps := [], entry := [], backlog := [], baseEntry := []
    baseVersion := 0, patchLevel := 0, patchSvn := 0, baseSvn := 0, staged := none, quiescing := none, restartLimit := 8
    liveLimit := 2 ^ 24 }

/-- Defaults of the record of R403. -/
def NotifyRec.init : NotifyRec := { en := 0, ports := [], count := 3, gap := 100, frame := [] }

def Twin.init : Twin :=
  { role := .none, peer := 0, peerId := 0, connected := false, attached := false, version := 0, lanes := .disabled
    txSeq := 0, rxSeq := 0, lastAck := none, replay := [], retryEpoch := none, tagFails := [], keyNo := 0, keyFrames := 0, keyMoves := 0, rxMoves := 0
    txnNext := 1, lastTxn := 0, beatSeen := false, missed := 0, beatFrom := 0
    peerState := none, notify := NotifyRec.init, planeDown := [], joinStep := 0, joinEpoch := 0, frozen := false
    resyncIn := [], swapAt := none, notice := none, sent := [], wire := [], timeTx := none, timeRx := 0, pathDelay := 0 }

def RingState.init : RingState :=
  { present := [], root := none, enumDue := none, enumEpoch := 0, brokenEast := false, brokenWest := false, breaks := []
    downEast := false, downWest := false, hopsEast := none, hopsWest := none, excluded := false, notices := [], partials := [], unacked := [], retryEpoch := none, sent := [] }

def Comparator.init : Comparator :=
  { domain := 0, instant := none, fired := false, thresh := none, eventEn := true, wakeEn := false, tripped := false }

def Power.init : Power :=
  { op := 0, cause := 0, causeW := 0, band := 0, thermal := false, floor := false, governor := 0, host := 0, capW := 1150
    windowMs := 2, marginW := 25, window := [], windowFrom := 0, govAt := none, decidedAt := none, fell := 0, unattainable := false, thermalEn := false
    compat := none, energy := 0, epochW := 0, tjMax := 0, vid := 0, lastAvs := none, avs := none, avsFault := none
    cmps := [], wakeNEn := false, wakeCauses := 0, wakeAt := none, waking := false, waves := [], avsSent := [] }

def Security.init : Security :=
  { step := .held, reports := [], arrayInit := false, fwInit := false, perstHigh := false, pcieUp := false, deviceId := 0, ringRoot := false
    bootHost := false, revoked := 0, svn := 0, hssLeaf := 0, fusesRead := false, serialValid := false, source := 0
    slotB := false, codeA := 15, codeB := 15, codePush := 15, sigA := 0, sigB := 0, sigPush := 0, thermtripPrior := false
    halted := false, chosen := none, running := none, rejected := [], push := [], flash := []
    slots := [], topLeaf := none, treeReady := false, lowerLeaf := 0, exhausted := false
    m0 := 0, m1 := 0, m2 := 0, m3 := 0, configDigest := 0, configCount := 0, restarting := false, jtagHeld := none
    jtag := 0 }

def Clock.init : Clock :=
  { now := 0, epoch := 0, tick := 0, k := 0, running := false, released := false, tally := 0, tallyClock := 0
    tickAt := 0, stretch := 0, last := { tj := 0, laneW := 0, restW := 0, microJ := 0 }, refOk := true }

/-- The machine right after the Gatehouse has powered up: the core held in RESET, every unit in its reset state (R352,
R481, R486). -/
def State.reset : State :=
  { clock := Clock.init, cmd := Commands.init, faults := Faults.init, lp := LanePlane.init, cipher := Cipher.init
    rules := RulePlane.init, tables := Tables.init, pk := Packets.init, time := Time.init, eg := Egress.init
    tel := Telemetry.init, arm := Armature.init, twin := Twin.init, ring := RingState.init, power := Power.init
    sec := Security.init, changes := [], group := none, groupNext := 1, txns := [], prepared := [], ctr := [], ctrNow := [], ctrAt := 0, freeCtr := 0, pending := [] }

end Sys2Proof.Machine
end

