-- ==== Sys2Proof/Machine/Flags.lean ====
section
/-! DEFINITION. Bit fields of records, status and detail codes, counter widths, and the event sources with their
severities (R345, R347, R366, R416, R439 and the event tables of each chapter). -/

namespace Sys2Proof.Machine

/-- Field [hi:lo] of a record. -/
def fld {n : Nat} (w : BitVec n) (hi lo : Nat) : Nat := (w.toNat >>> lo) % 2 ^ (hi + 1 - lo)

/-- Bit i of a record. -/
def bit {n : Nat} (w : BitVec n) (i : Nat) : Bool := w.getLsbD i

/-- Signed reading of field [hi:lo] (two's complement). -/
def sfld {n : Nat} (w : BitVec n) (hi lo : Nat) : Int :=
  let v := fld w hi lo
  if v < 2 ^ (hi - lo) then (v : Int) else (v : Int) - 2 ^ (hi + 1 - lo)

/-- A record with field [hi:lo] replaced. -/
def setFld {n : Nat} (w : BitVec n) (hi lo v : Nat) : BitVec n :=
  let m := BitVec.ofNat n ((2 ^ (hi + 1 - lo) - 1) <<< lo)
  (w &&& ~~~m) ||| (BitVec.ofNat n (v <<< lo) &&& m)

/-- The written fields of a record: `fields` has a 1 in every bit the command writes. -/
def merge {n : Nat} (old record fields : BitVec n) : BitVec n := (old &&& ~~~fields) ||| (record &&& fields)

/-- Bits [hi:lo] set. -/
def span (hi lo : Nat) : Nat := (2 ^ (hi + 1 - lo) - 1) <<< lo

/-! ## Status codes (R347) and detail codes (R345) -/

def stOk : Nat := 0x0000
def stOkAdjusted : Nat := 0x0001
def stBadVersion : Nat := 0x0101
def stBadOpcode : Nat := 0x0102
def stBadLength : Nat := 0x0103
def stBadParam : Nat := 0x0104
def stStateConflict : Nat := 0x0201
def stBusy : Nat := 0x0202
def stLocked : Nat := 0x0203
def stNoSpace : Nat := 0x0301
def stNotFound : Nat := 0x0302
def stAccessViolation : Nat := 0x0401
def stPoisoned : Nat := 0x0402
def stTwinFailed : Nat := 0x0501
def stPartFailed : Nat := 0x0502
def stAuthFailed : Nat := 0x0601
def stRollbackRefused : Nat := 0x0602
def stFenced : Nat := 0x0701
def stInternal : Nat := 0x07FF

def dtNone : Nat := 0
def dtAdjustedEpoch : Nat := 1
def dtSettling : Nat := 2
def dtCapBelowFloor : Nat := 3
def dtTwinDetached : Nat := 4
def dtTargetTimeout : Nat := 5
def dtTwinNoAck : Nat := 6
def dtReplyShort : Nat := 7

/-! ## Counters -/

/-- Width of a counter in bits. -/
def Ctr.width (c : Ctr) : Nat :=
  match c with
  | .laneSer1s | .laneLosCount | .laneCdrUnlock | .laneAmLockLoss | .laneBringupRestart | .laneTrainFail
  | .laneUpEntries | .rxFlowIgnored | .rxMacCtlUnknown | .txOversizeDrop | .txOversizeStomp | .txLinkLost
  | .linkDownEvents | .linkFlapSuppressed | .ptpCorrectSkipped | .ppsInRejected | .ppsInOverflow => 32
  | .rxOctetsOk | .txOctetsOk => 64
  | _ => 48

/-- Key of a counter's instance in the store. -/
def Ctr.key (c : Ctr) (inst : Nat) : Nat := c.ctorIdx * 2 ^ 32 + inst

/-! ## Event sources (R366: s = 32g + b) -/

def srcRingError : Nat := 0
def srcEventRingDrop : Nat := 1
def srcCsrViolation : Nat := 2
def srcCommandInternal : Nat := 3
def srcGroupAbandoned : Nat := 4
def srcLaneCdrUnlock : Nat := 32
def srcLaneAmLoss : Nat := 33
def srcLaneBringupTimeout : Nat := 34
def srcLaneCalFail : Nat := 35
def srcLaneSerHigh : Nat := 36
def srcLanePermanent : Nat := 37
def srcLaneRecovered : Nat := 38
def srcLaneOrderConflict : Nat := 39
def srcLaneOrderUnknown : Nat := 40
def srcLaneRetired : Nat := 41
def srcPortAnNoCommon : Nat := 64
def srcPortLocalFault : Nat := 65
def srcPortRemoteFault : Nat := 66
def srcPortLinkDown : Nat := 67
def srcPortLinkUp : Nat := 68
def srcPortNarrowed : Nat := 69
def srcCipherMismatch : Nat := 96
def srcCipherMismatchRepeat : Nat := 97
def srcCipherTamper : Nat := 98
def srcLaMismatch : Nat := 99
def srcLaMismatchRepeat : Nat := 100
def srcLaTamper : Nat := 101
def srcSaPnThreshold : Nat := 102
def srcSaPnExhausted : Nat := 103
def srcVersionRetired : Nat := 128
def srcSpecTagExhausted : Nat := 129
def srcTablePoison : Nat := 188
def srcTurnstileStarved : Nat := 208
def srcLockExpired : Nat := 209
def srcLockOwnerLost : Nat := 210
def srcLearnOverflow : Nat := 211
def srcEmStashHigh : Nat := 212
def srcPatinaLate : Nat := 213
def srcScrubLate : Nat := 214
def srcDoubleFree : Nat := 224
def srcForeignFree : Nat := 225
def srcCellStatePoison : Nat := 226
def srcFreeListRebuild : Nat := 227
def srcHeadroomExhausted : Nat := 228
def srcPoolExhausted : Nat := 229
def srcAllocFail : Nat := 230
def srcTrellisCe : Nat := 256
def srcTrellisUe : Nat := 257
def srcTrellisPermanent : Nat := 258
def srcReseqTimeout : Nat := 259
def srcRetireDrainForced : Nat := 260
def srcPartitionRetired : Nat := 261
def srcChannelRetired : Nat := 262
def srcPartitionRestored : Nat := 263
def srcChannelRestored : Nat := 264
def srcTdStep : Nat := 288
def srcTdHoldoverEnter : Nat := 289
def srcTdHoldoverExpired : Nat := 290
def srcTdRecovered : Nat := 291
def srcPpsInLost : Nat := 292
def srcRef10mLost : Nat := 293
def srcTwinEpochAhead : Nat := 294
def srcTwinEpochSlip : Nat := 295
def srcPfcWatchdog : Nat := 320
def srcPfcWdRestored : Nat := 321
def srcGateTakeover : Nat := 322
def srcGateTakeoverMoved : Nat := 323
def srcGateGuardReturn : Nat := 324
def srcGateNofit : Nat := 325
def srcLaunchLate : Nat := 326
def srcPortHoldExpired : Nat := 327
def srcTelemetryOverrun : Nat := 352
/-- ECC_CE_x and ECC_UE_x of array class x (R439). -/
def srcEccCe (x : Nat) : Nat := 384 + x
def srcEccUe (x : Nat) : Nat := 416 + x
def srcCellPoisonConsumed : Nat := 448
def srcFaultPermanent : Nat := 449
def srcBankSpared : Nat := 450
def srcBankUnspared : Nat := 451
def srcPartitionBankRetired : Nat := 452
def srcPipeRetired : Nat := 453
def srcPipeRestored : Nat := 454
def srcUnitFenced : Nat := 455
def srcUnitRestored : Nat := 456
def srcDeviceIsolated : Nat := 457
def srcGatehouseClockLost : Nat := 458
def srcThermtripAsserted : Nat := 459
def srcThermtripPrior : Nat := 460
def srcThrottleEnter : Nat := 512
def srcThrottleExit : Nat := 513
def srcCapUnattainable : Nat := 514
def srcThermalWarn : Nat := 515
def srcThermalCrit : Nat := 516
def srcThermalClear : Nat := 517
def srcTc2Trip : Nat := 518
/-- SUPPLY_LOW of comparators 8 to 13 (R461). -/
def srcSupplyLow (cmp : Nat) : Nat := 512 + cmp
/-- EXT_LEVEL0 and EXT_LEVEL1, comparators 14 and 15 (R461). -/
def srcExtLevel (cmp : Nat) : Nat := 512 + cmp
def srcTimeCompare (cmp : Nat) : Nat := 528 + cmp
def srcDormantWake : Nat := 532
def srcAvsError : Nat := 533
def srcTwinLost : Nat := 576
def srcTwinAttached : Nat := 577
def srcTwinDetached : Nat := 578
def srcTwinDiverged : Nat := 579
def srcTwinResyncDone : Nat := 580
def srcTwinResyncFailed : Nat := 581
def srcTwinVersionMismatch : Nat := 582
def srcTwinAuthFailed : Nat := 583
def srcColonnadeRetry : Nat := 584
def srcColonnadeDown : Nat := 585
def srcColonnadeKeyLost : Nat := 586
def srcTwinThrottle : Nat := 587
def srcPlaneDownSent : Nat := 588
def srcRingBreak : Nat := 608
def srcRingRestored : Nat := 609
def srcRingDeviceJoined : Nat := 610
def srcRingDeviceLeft : Nat := 611
def srcRingDuplicateId : Nat := 612
def srcRingRetry : Nat := 613
def srcRingPeerThrottle : Nat := 614
def srcArmCsCe : Nat := 640
def srcArmCsUe : Nat := 641
def srcArmRegUe : Nat := 642
def srcArmRestartLimit : Nat := 643
def srcArmLiveLimit : Nat := 644
def srcArmPatchActivated : Nat := 645
def srcArmEngineFenced : Nat := 646
def srcBootSlotRejected : Nat := 672
def srcHssTopLow : Nat := 673
def srcAttestExhausted : Nat := 674
def srcHssFuseError : Nat := 675
def srcSvnAdvanced : Nat := 676
def srcFwFlashCommitted : Nat := 677

/-- A source number that R366 assigns; source 13:1 stands unassigned (R439). -/
def srcAssigned (s : Nat) : Bool := s < 1024 && s % 32 < assignedCount (s / 32) && s != 417

/-- Severity of a source (R416 codes), from the event table of its chapter. -/
def srcSeverity (s : Nat) : Nat :=
  match s / 32, s % 32 with
  | 0, b => if b = 3 then 2 else 0
  | 1, b => if b = 3 ∨ b = 4 ∨ b = 5 then 2 else 0
  | 2, b => if b = 5 then 2 else 0
  | 3, b => if b = 0 ∨ b = 3 then 1 else if b = 1 ∨ b = 4 then 3 else if b = 2 ∨ b = 5 then 4 else if b = 7 then 2 else 0
  | 5, b => if b = 28 then 3 else 0
  | 7, b => if b < 3 then 3 else if b = 3 then 1 else 0
  | 8, b => if b = 0 then 1 else if b = 1 ∨ b = 3 then 3 else if b = 2 ∨ b = 4 then 2 else 0
  | 9, b => if b = 1 ∨ b = 2 ∨ b = 7 then 2 else 0
  | 10, b => if b = 0 then 2 else 0
  | 12, _ => 1
  | 13, b => if b = 11 then 1 else if b = 12 then 4 else 3
  | 14, b => if b = 0 then 3 else if b = 1 then 2 else if b = 9 ∨ b = 10 ∨ b = 11 then 5 else 0
  | 16, b => if b = 2 ∨ b = 3 ∨ b = 4 ∨ (8 ≤ b ∧ b ≤ 13) ∨ b = 21 then 2 else 0
  | 18, b => if b = 0 ∨ b = 3 ∨ b = 5 ∨ b = 9 ∨ b = 10 then 2 else if b = 7 then 3 else if b = 8 then 1 else 0
  | 19, b => if b = 0 then 2 else if b = 4 then 3 else if b = 5 then 1 else 0
  | 20, b => if b = 0 then 1 else if b = 1 ∨ b = 2 then 3 else if b = 3 then 2 else 0
  | 21, b => if b = 2 ∨ b = 3 then 2 else 0
  | _, _ => 0

/-- ALLOWED of R421: bit r set where reaction r may be armed (0 REPORT, 1 RETRY, 2 RETIRE, 3 FENCE, 4 ISOLATE). -/
def srcAllowed (s : Nat) : Nat :=
  match s / 32, s % 32 with
  | 1, b => if b = 5 then 0b00101 else 1
  | 3, b => if b = 1 ∨ b = 4 then 0b01001 else 1
  | 7, b => if b < 3 then 0b10101 else 1
  | 8, b => if b = 1 then 0b00101 else 1
  | 13, b =>
    if b = 0 ∨ b = 4 ∨ b = 5 ∨ b = 6 ∨ b = 14 then 0b10101 else if b = 2 ∨ b = 3 ∨ b = 10 ∨ b = 12 then 0b10001
    else if b = 7 ∨ b = 8 then 0b11011 else if b = 13 then 0b10011 else 1
  | 14, b => if b = 0 ∨ b = 10 then 0b10001 else 1
  | 20, b => if b = 1 then 0b00011 else if b = 2 then 0b01001 else 1
  | _, _ => 1

/-- PERM of R421: the source counts toward permanence. -/
def srcPerm (s : Nat) : Bool :=
  match s / 32, s % 32 with
  | 1, b => b < 3
  | 3, b => b = 1 || b = 4
  | 7, b => b < 3
  | 8, b => b = 1
  | 13, b => b = 0 || b = 4 || b = 5 || b = 6 || b = 7 || b = 8 || b = 14
  | 20, b => b = 2
  | _, _ => false

/-- The permanence event of a source (R423 step 2): its own, or FAULT_PERMANENT. -/
def permanenceEvent (s : Nat) : Nat :=
  if s / 32 = 1 then srcLanePermanent else if s = srcTrellisUe then srcTrellisPermanent else srcFaultPermanent

end Sys2Proof.Machine
end

