-- ==== Sys2Proof/Machine/Ops.lean ====
section
/-! DEFINITION. The operations that every command shares: sparse arrays, the clock, the accessors of every array of the
state, counters, the scheduling of changes to epoch boundaries, rings, event records and the fault log. -/

namespace Sys2Proof

/-- What index `i` reads as; `d` is what an unlisted index reads as. -/
def Arr.get {α : Type} (d : α) (a : Arr α) (i : Nat) : α :=
  match a with
  | [] => d
  | (j, v) :: t => if i = j then v else Arr.get d t i

/-- Index `i` replaced, in canonical form. -/
def Arr.set {α : Type} [DecidableEq α] (d : α) (a : Arr α) (i : Nat) (v : α) : Arr α :=
  match a with
  | [] => if v = d then [] else [(i, v)]
  | (j, w) :: t =>
    if i < j then (if v = d then (j, w) :: t else (i, v) :: (j, w) :: t)
    else if i = j then (if v = d then t else (i, v) :: t)
    else (j, w) :: Arr.set d t i v

/-- The indexes whose contents satisfy `p`. -/
def Arr.keysWhere {α : Type} (a : Arr α) (p : Nat → α → Bool) : List Nat := (a.filter fun e => p e.1 e.2).map (·.1)

/-- Indexes outside `p` read as the default again. -/
def Arr.keep {α : Type} (a : Arr α) (p : Nat → Bool) : Arr α := a.filter fun e => p e.1

/-- The canonical form of an array: indexes strictly rising, no entry equal to the default of its index. -/
def Arr.wf {α : Type} [DecidableEq α] (d : Nat → α) (a : Arr α) : Bool :=
  match a with
  | [] => true
  | (j, v) :: t => (v != d j) && (match t with | [] => true | (k, _) :: _ => decide (j < k)) && Arr.wf d t

namespace Machine

/-! ## The clock -/

/-- Core clocks in a number of milliseconds, microseconds and seconds (1.6 GHz, R2). -/
def clkMs (n : Nat) : Nat := n * 1600000
def clkUs (n : Nat) : Nat := n * 1600
def clkS (n : Nat) : Nat := n * 1600000000

/-- Core clocks in a number of nanoseconds, rounded up (5/8 ns a clock, R2). -/
def clkNs (n : Nat) : Nat := (n * 8 + 4) / 5

/-- Tick stamp of R12. -/
def State.tickStamp (s : State) : Nat := s.clock.epoch * 1024 + s.clock.tick

/-- CYCLE_STAMP of R417. -/
def State.cycleStamp (s : State) : Nat := s.tickStamp * 2 + s.clock.k

/-- The present core clock. -/
def State.now (s : State) : Nat := s.clock.now

/-- The order in which positions are skipped (R24). -/
def skipOrder : List Nat := [14, 6, 10, 2, 12, 4, 8, 0]

/-- Position `p` is worked at operating point `op` (R24). -/
def workedPos (op p : Nat) : Bool := !((skipOrder.take (if op = 7 then 8 else op)).contains p)

/-- The present tick is worked: the core runs and the tick is not skipped (R23), nor an unnumbered tick (R282). -/
def State.worked (s : State) : Bool :=
  s.clock.running && s.clock.stretch == 0 && workedPos s.power.op (s.clock.tick % 16)

/-- The present clock is a maintenance clock, c mod 32 = 31 (R16). -/
def State.maintClock (s : State) : Bool :=
  s.clock.running && s.clock.stretch == 0 && s.clock.tick % 16 == 15 && s.clock.k == 1

/-- The present tick holds a maintenance cycle (R16). -/
def State.maintTick (s : State) : Bool := s.clock.tick % 16 == 15

/-! ## The arrays of the state: reading an element, replacing it, and changing it -/

def State.hring (s : State) (n : Nat) : Ring := s.cmd.rings.get (Ring.init n) n
def State.putHring (s : State) (n : Nat) (v : Ring) : State := { s with cmd.rings := s.cmd.rings.set (Ring.init n) n v }
def State.modHring (s : State) (n : Nat) (f : Ring → Ring) : State := s.putHring n (f (s.hring n))
def State.takenAt (s : State) (n : Nat) : (Option Taken) := s.cmd.taken.get none n
def State.putTakenAt (s : State) (n : Nat) (v : (Option Taken)) : State := { s with cmd.taken := s.cmd.taken.set none n v }
def State.modTakenAt (s : State) (n : Nat) (f : (Option Taken) → (Option Taken)) : State := s.putTakenAt n (f (s.takenAt n))
def State.evStatus (s : State) (n : Nat) : (BitVec 32) := s.cmd.evStatus.get 0 n
def State.putEvStatus (s : State) (n : Nat) (v : (BitVec 32)) : State := { s with cmd.evStatus := s.cmd.evStatus.set 0 n v }
def State.modEvStatus (s : State) (n : Nat) (f : (BitVec 32) → (BitVec 32)) : State := s.putEvStatus n (f (s.evStatus n))
def State.evSetAt (s : State) (n : Nat) : Nat := s.cmd.evSetAt.get 0 n
def State.putEvSetAt (s : State) (n : Nat) (v : Nat) : State := { s with cmd.evSetAt := s.cmd.evSetAt.set 0 n v }
def State.modEvSetAt (s : State) (n : Nat) (f : Nat → Nat) : State := s.putEvSetAt n (f (s.evSetAt n))
def State.evRaisedAt (s : State) (n : Nat) : Nat := s.cmd.evRaisedAt.get 0 n
def State.putEvRaisedAt (s : State) (n : Nat) (v : Nat) : State := { s with cmd.evRaisedAt := s.cmd.evRaisedAt.set 0 n v }
def State.modEvRaisedAt (s : State) (n : Nat) (f : Nat → Nat) : State := s.putEvRaisedAt n (f (s.evRaisedAt n))
def State.evEnable (s : State) (n : Nat) : (BitVec 32) := s.cmd.evEnable.get (enableInit n) n
def State.putEvEnable (s : State) (n : Nat) (v : (BitVec 32)) : State := { s with cmd.evEnable := s.cmd.evEnable.set (enableInit n) n v }
def State.modEvEnable (s : State) (n : Nat) (f : (BitVec 32) → (BitVec 32)) : State := s.putEvEnable n (f (s.evEnable n))
def State.evRoute (s : State) (n : Nat) : Nat := s.cmd.evRoute.get 0 n
def State.putEvRoute (s : State) (n : Nat) (v : Nat) : State := { s with cmd.evRoute := s.cmd.evRoute.set 0 n v }
def State.modEvRoute (s : State) (n : Nat) (f : Nat → Nat) : State := s.putEvRoute n (f (s.evRoute n))
def State.cpuRing (s : State) (n : Nat) : Nat := s.cmd.cpuMap.get (n % 64) n
def State.putCpuRing (s : State) (n : Nat) (v : Nat) : State := { s with cmd.cpuMap := s.cmd.cpuMap.set (n % 64) n v }
def State.modCpuRing (s : State) (n : Nat) (f : Nat → Nat) : State := s.putCpuRing n (f (s.cpuRing n))
def State.violation (s : State) (n : Nat) : (Option Violation) := s.cmd.violations.get none n
def State.putViolation (s : State) (n : Nat) (v : (Option Violation)) : State := { s with cmd.violations := s.cmd.violations.set none n v }
def State.modViolation (s : State) (n : Nat) (f : (Option Violation) → (Option Violation)) : State := s.putViolation n (f (s.violation n))
def State.msixWord (s : State) (n : Nat) : (BitVec 64) := s.cmd.msixTable.get 0 n
def State.putMsixWord (s : State) (n : Nat) (v : (BitVec 64)) : State := { s with cmd.msixTable := s.cmd.msixTable.set 0 n v }
def State.modMsixWord (s : State) (n : Nat) (f : (BitVec 64) → (BitVec 64)) : State := s.putMsixWord n (f (s.msixWord n))
def State.latch (s : State) (n : Nat) : (Option Latch) := s.cmd.latches.get none n
def State.putLatch (s : State) (n : Nat) (v : (Option Latch)) : State := { s with cmd.latches := s.cmd.latches.set none n v }
def State.modLatch (s : State) (n : Nat) (f : (Option Latch) → (Option Latch)) : State := s.putLatch n (f (s.latch n))
def State.logAt (s : State) (n : Nat) : (Option LogEntry) := s.faults.log.get none n
def State.putLogAt (s : State) (n : Nat) (v : (Option LogEntry)) : State := { s with faults.log := s.faults.log.set none n v }
def State.modLogAt (s : State) (n : Nat) (f : (Option LogEntry) → (Option LogEntry)) : State := s.putLogAt n (f (s.logAt n))
def State.react (s : State) (n : Nat) : ReactEntry := s.faults.react.get ReactEntry.init n
def State.putReact (s : State) (n : Nat) (v : ReactEntry) : State := { s with faults.react := s.faults.react.set ReactEntry.init n v }
def State.modReact (s : State) (n : Nat) (f : ReactEntry → ReactEntry) : State := s.putReact n (f (s.react n))
def State.faultInst (s : State) (n : Nat) : FaultInst := s.faults.insts.get FaultInst.init n
def State.putFaultInst (s : State) (n : Nat) (v : FaultInst) : State := { s with faults.insts := s.faults.insts.set FaultInst.init n v }
def State.modFaultInst (s : State) (n : Nat) (f : FaultInst → FaultInst) : State := s.putFaultInst n (f (s.faultInst n))
def State.masked (s : State) (n : Nat) : Bool := s.faults.masked.get false n
def State.putMasked (s : State) (n : Nat) (v : Bool) : State := { s with faults.masked := s.faults.masked.set false n v }
def State.modMasked (s : State) (n : Nat) (f : Bool → Bool) : State := s.putMasked n (f (s.masked n))
def State.maskedAt (s : State) (n : Nat) : Nat := s.faults.maskedAt.get 0 n
def State.putMaskedAt (s : State) (n : Nat) (v : Nat) : State := { s with faults.maskedAt := s.faults.maskedAt.set 0 n v }
def State.spareOf (s : State) (n : Nat) : (Option Nat) := s.faults.spareOf.get none n
def State.putSpareOf (s : State) (n : Nat) (v : (Option Nat)) : State := { s with faults.spareOf := s.faults.spareOf.set none n v }
def State.modSpareOf (s : State) (n : Nat) (f : (Option Nat) → (Option Nat)) : State := s.putSpareOf n (f (s.spareOf n))
def State.pipeRetired (s : State) (n : Nat) : Bool := s.faults.pipeRetired.get false n
def State.putPipeRetired (s : State) (n : Nat) (v : Bool) : State := { s with faults.pipeRetired := s.faults.pipeRetired.set false n v }
def State.modPipeRetired (s : State) (n : Nat) (f : Bool → Bool) : State := s.putPipeRetired n (f (s.pipeRetired n))
def State.sliceFenced (s : State) (n : Nat) : Bool := s.faults.sliceFenced.get false n
def State.putSliceFenced (s : State) (n : Nat) (v : Bool) : State := { s with faults.sliceFenced := s.faults.sliceFenced.set false n v }
def State.modSliceFenced (s : State) (n : Nat) (f : Bool → Bool) : State := s.putSliceFenced n (f (s.sliceFenced n))
def State.replicaFenced (s : State) (n : Nat) : Bool := s.faults.replicaFenced.get false n
def State.putReplicaFenced (s : State) (n : Nat) (v : Bool) : State := { s with faults.replicaFenced := s.faults.replicaFenced.set false n v }
def State.modReplicaFenced (s : State) (n : Nat) (f : Bool → Bool) : State := s.putReplicaFenced n (f (s.replicaFenced n))
def State.partBank (s : State) (n : Nat) : BankLife := s.faults.partBank.get .live n
def State.putPartBank (s : State) (n : Nat) (v : BankLife) : State := { s with faults.partBank := s.faults.partBank.set .live n v }
def State.modPartBank (s : State) (n : Nat) (f : BankLife → BankLife) : State := s.putPartBank n (f (s.partBank n))
def State.bgPos (s : State) (n : Nat) : Nat := s.faults.bgPos.get 0 n
def State.putBgPos (s : State) (n : Nat) (v : Nat) : State := { s with faults.bgPos := s.faults.bgPos.set 0 n v }
def State.modBgPos (s : State) (n : Nat) (f : Nat → Nat) : State := s.putBgPos n (f (s.bgPos n))
def State.lane (s : State) (n : Nat) : Lane := s.lp.lanes.get Lane.init n
def State.putLane (s : State) (n : Nat) (v : Lane) : State := { s with lp.lanes := s.lp.lanes.set Lane.init n v }
def State.modLane (s : State) (n : Nat) (f : Lane → Lane) : State := s.putLane n (f (s.lane n))
def State.octet (s : State) (n : Nat) : Octet := s.lp.octets.get Octet.init n
def State.putOctet (s : State) (n : Nat) (v : Octet) : State := { s with lp.octets := s.lp.octets.set Octet.init n v }
def State.modOctet (s : State) (n : Nat) (f : Octet → Octet) : State := s.putOctet n (f (s.octet n))
def State.port (s : State) (n : Nat) : Port := s.lp.ports.get Port.init n
def State.putPort (s : State) (n : Nat) (v : Port) : State := { s with lp.ports := s.lp.ports.set Port.init n v }
def State.modPort (s : State) (n : Nat) (f : Port → Port) : State := s.putPort n (f (s.port n))
def State.cipherPort (s : State) (n : Nat) : (BitVec 64) := s.cipher.ports.get cipherPortInit n
def State.putCipherPort (s : State) (n : Nat) (v : (BitVec 64)) : State := { s with cipher.ports := s.cipher.ports.set cipherPortInit n v }
def State.modCipherPort (s : State) (n : Nat) (f : (BitVec 64) → (BitVec 64)) : State := s.putCipherPort n (f (s.cipherPort n))
def State.cipherPast (s : State) (n : Nat) : List (BitVec 64 × Nat) := s.cipher.past.get [] n
def State.putCipherPast (s : State) (n : Nat) (v : List (BitVec 64 × Nat)) : State := { s with cipher.past := s.cipher.past.set [] n v }
def State.rxSc (s : State) (n : Nat) : Sc := s.cipher.rxSc.get Sc.init n
def State.putRxSc (s : State) (n : Nat) (v : Sc) : State := { s with cipher.rxSc := s.cipher.rxSc.set Sc.init n v }
def State.modRxSc (s : State) (n : Nat) (f : Sc → Sc) : State := s.putRxSc n (f (s.rxSc n))
def State.txSc (s : State) (n : Nat) : Sc := s.cipher.txSc.get Sc.init n
def State.putTxSc (s : State) (n : Nat) (v : Sc) : State := { s with cipher.txSc := s.cipher.txSc.set Sc.init n v }
def State.modTxSc (s : State) (n : Nat) (f : Sc → Sc) : State := s.putTxSc n (f (s.txSc n))
def State.rxSa (s : State) (n : Nat) : Sa := s.cipher.rxSa.get Sa.init n
def State.putRxSa (s : State) (n : Nat) (v : Sa) : State := { s with cipher.rxSa := s.cipher.rxSa.set Sa.init n v }
def State.modRxSa (s : State) (n : Nat) (f : Sa → Sa) : State := s.putRxSa n (f (s.rxSa n))
def State.txSa (s : State) (n : Nat) : Sa := s.cipher.txSa.get Sa.init n
def State.putTxSa (s : State) (n : Nat) (v : Sa) : State := { s with cipher.txSa := s.cipher.txSa.set Sa.init n v }
def State.modTxSa (s : State) (n : Nat) (f : Sa → Sa) : State := s.putTxSa n (f (s.txSa n))
def State.cengine (s : State) (n : Nat) : CEngine := s.cipher.engines.get CEngine.init n
def State.putCengine (s : State) (n : Nat) (v : CEngine) : State := { s with cipher.engines := s.cipher.engines.set CEngine.init n v }
def State.modCengine (s : State) (n : Nat) (f : CEngine → CEngine) : State := s.putCengine n (f (s.cengine n))
def State.laCtx (s : State) (n : Nat) : LaCtx := s.cipher.ctx.get LaCtx.init n
def State.putLaCtx (s : State) (n : Nat) (v : LaCtx) : State := { s with cipher.ctx := s.cipher.ctx.set LaCtx.init n v }
def State.modLaCtx (s : State) (n : Nat) (f : LaCtx → LaCtx) : State := s.putLaCtx n (f (s.laCtx n))
def State.objAt (s : State) (n : Nat) : ObjSlot := s.rules.objs.get ObjSlot.init n
def State.putObjAt (s : State) (n : Nat) (v : ObjSlot) : State := { s with rules.objs := s.rules.objs.set ObjSlot.init n v }
def State.modObjAt (s : State) (n : Nat) (f : ObjSlot → ObjSlot) : State := s.putObjAt n (f (s.objAt n))
def State.prefixAt (s : State) (n : Nat) : ObjSlot := s.rules.prefixes.get ObjSlot.init n
def State.putPrefixAt (s : State) (n : Nat) (v : ObjSlot) : State := { s with rules.prefixes := s.rules.prefixes.set ObjSlot.init n v }
def State.modPrefixAt (s : State) (n : Nat) (f : ObjSlot → ObjSlot) : State := s.putPrefixAt n (f (s.prefixAt n))
def State.range (s : State) (n : Nat) : RangeCmp := s.rules.ranges.get RangeCmp.init n
def State.putRange (s : State) (n : Nat) (v : RangeCmp) : State := { s with rules.ranges := s.rules.ranges.set RangeCmp.init n v }
def State.modRange (s : State) (n : Nat) (f : RangeCmp → RangeCmp) : State := s.putRange n (f (s.range n))
def State.inFlight (s : State) (n : Nat) : Nat := s.rules.inFlight.get 0 n
def State.putInFlight (s : State) (n : Nat) (v : Nat) : State := { s with rules.inFlight := s.rules.inFlight.set 0 n v }
def State.modInFlight (s : State) (n : Nat) (f : Nat → Nat) : State := s.putInFlight n (f (s.inFlight n))
def State.table (s : State) (n : Nat) : TableDef := s.tables.defs.get TableDef.init n
def State.putTable (s : State) (n : Nat) (v : TableDef) : State := { s with tables.defs := s.tables.defs.set TableDef.init n v }
def State.modTable (s : State) (n : Nat) (f : TableDef → TableDef) : State := s.putTable n (f (s.table n))
def State.emSlot (s : State) (n : Nat) : EmSlot := s.tables.em.get EmSlot.init n
def State.putEmSlot (s : State) (n : Nat) (v : EmSlot) : State := { s with tables.em := s.tables.em.set EmSlot.init n v }
def State.modEmSlot (s : State) (n : Nat) (f : EmSlot → EmSlot) : State := s.putEmSlot n (f (s.emSlot n))
def State.emHit (s : State) (n : Nat) : Bool := s.tables.emHit.get false n
def State.putEmHit (s : State) (n : Nat) (v : Bool) : State := { s with tables.emHit := s.tables.emHit.set false n v }
def State.modEmHit (s : State) (n : Nat) (f : Bool → Bool) : State := s.putEmHit n (f (s.emHit n))
def State.stashSlot (s : State) (n : Nat) : EmSlot := s.tables.stash.get EmSlot.init n
def State.putStashSlot (s : State) (n : Nat) (v : EmSlot) : State := { s with tables.stash := s.tables.stash.set EmSlot.init n v }
def State.modStashSlot (s : State) (n : Nat) (f : EmSlot → EmSlot) : State := s.putStashSlot n (f (s.stashSlot n))
def State.stashHit (s : State) (n : Nat) : Bool := s.tables.stashHit.get false n
def State.putStashHit (s : State) (n : Nat) (v : Bool) : State := { s with tables.stashHit := s.tables.stashHit.set false n v }
def State.modStashHit (s : State) (n : Nat) (f : Bool → Bool) : State := s.putStashHit n (f (s.stashHit n))
def State.writeTag (s : State) (n : Nat) : (BitVec 8) := s.tables.tags.get 0 n
def State.putWriteTag (s : State) (n : Nat) (v : (BitVec 8)) : State := { s with tables.tags := s.tables.tags.set 0 n v }
def State.modWriteTag (s : State) (n : Nat) (f : (BitVec 8) → (BitVec 8)) : State := s.putWriteTag n (f (s.writeTag n))
def State.pair (s : State) (n : Nat) : (Nat × Nat × Bool) := s.tables.pairs.get (0, 0, false) n
def State.putPair (s : State) (n : Nat) (v : (Nat × Nat × Bool)) : State := { s with tables.pairs := s.tables.pairs.set (0, 0, false) n v }
def State.modPair (s : State) (n : Nat) (f : (Nat × Nat × Bool) → (Nat × Nat × Bool)) : State := s.putPair n (f (s.pair n))
def State.lpmPoison (s : State) (n : Nat) : Bool := s.tables.lpmPoison.get false n
def State.putLpmPoison (s : State) (n : Nat) (v : Bool) : State := { s with tables.lpmPoison := s.tables.lpmPoison.set false n v }
def State.modLpmPoison (s : State) (n : Nat) (f : Bool → Bool) : State := s.putLpmPoison n (f (s.lpmPoison n))
def State.emProfile (s : State) (n : Nat) : EmProf := s.tables.emProf.get EmProf.init n
def State.putEmProfile (s : State) (n : Nat) (v : EmProf) : State := { s with tables.emProf := s.tables.emProf.set EmProf.init n v }
def State.modEmProfile (s : State) (n : Nat) (f : EmProf → EmProf) : State := s.putEmProfile n (f (s.emProfile n))
def State.lpmProfile (s : State) (n : Nat) : (List LpmLookup) := s.tables.lpmProf.get [] n
def State.putLpmProfile (s : State) (n : Nat) (v : (List LpmLookup)) : State := { s with tables.lpmProf := s.tables.lpmProf.set [] n v }
def State.modLpmProfile (s : State) (n : Nat) (f : (List LpmLookup) → (List LpmLookup)) : State := s.putLpmProfile n (f (s.lpmProfile n))
def State.bankUsed (s : State) (n : Nat) : (Nat × Nat) := s.tables.used.get (0, 0) n
def State.putBankUsed (s : State) (n : Nat) (v : (Nat × Nat)) : State := { s with tables.used := s.tables.used.set (0, 0) n v }
def State.modBankUsed (s : State) (n : Nat) (f : (Nat × Nat) → (Nat × Nat)) : State := s.putBankUsed n (f (s.bankUsed n))
def State.deferEpoch (s : State) (n : Nat) : (Option Nat) := s.tables.deferEpoch.get none n
def State.putDeferEpoch (s : State) (n : Nat) (v : (Option Nat)) : State := { s with tables.deferEpoch := s.tables.deferEpoch.set none n v }
def State.modDeferEpoch (s : State) (n : Nat) (f : (Option Nat) → (Option Nat)) : State := s.putDeferEpoch n (f (s.deferEpoch n))
def State.grantedAt (s : State) (n : Nat) : (Option Nat) := s.tables.granted.get none n
def State.putGrantedAt (s : State) (n : Nat) (v : (Option Nat)) : State := { s with tables.granted := s.tables.granted.set none n v }
def State.modGrantedAt (s : State) (n : Nat) (f : (Option Nat) → (Option Nat)) : State := s.putGrantedAt n (f (s.grantedAt n))
def State.stashAt (s : State) (n : Nat) : (Option Nat) := s.tables.stashAt.get none n
def State.putStashAt (s : State) (n : Nat) (v : (Option Nat)) : State := { s with tables.stashAt := s.tables.stashAt.set none n v }
def State.modStashAt (s : State) (n : Nat) (f : (Option Nat) → (Option Nat)) : State := s.putStashAt n (f (s.stashAt n))
def State.learnTaken (s : State) (n : Nat) : (Nat × Nat) := s.tables.learnTaken.get (0, 0) n
def State.putLearnTaken (s : State) (n : Nat) (v : (Nat × Nat)) : State := { s with tables.learnTaken := s.tables.learnTaken.set (0, 0) n v }
def State.modLearnTaken (s : State) (n : Nat) (f : (Nat × Nat) → (Nat × Nat)) : State := s.putLearnTaken n (f (s.learnTaken n))
def State.lock (s : State) (n : Nat) : Lock := s.tables.locks.get Lock.init n
def State.putLock (s : State) (n : Nat) (v : Lock) : State := { s with tables.locks := s.tables.locks.set Lock.init n v }
def State.modLock (s : State) (n : Nat) (f : Lock → Lock) : State := s.putLock n (f (s.lock n))
def State.scrubPos (s : State) (n : Nat) : Nat := s.tables.scrubPos.get 0 n
def State.putScrubPos (s : State) (n : Nat) (v : Nat) : State := { s with tables.scrubPos := s.tables.scrubPos.set 0 n v }
def State.modScrubPos (s : State) (n : Nat) (f : Nat → Nat) : State := s.putScrubPos n (f (s.scrubPos n))
def State.scrubFrom (s : State) (n : Nat) : Nat := s.tables.scrubFrom.get 0 n
def State.putScrubFrom (s : State) (n : Nat) (v : Nat) : State := { s with tables.scrubFrom := s.tables.scrubFrom.set 0 n v }
def State.modScrubFrom (s : State) (n : Nat) (f : Nat → Nat) : State := s.putScrubFrom n (f (s.scrubFrom n))
def State.pkt (s : State) (n : Nat) : (Option Pkt) := s.pk.pkts.get none n
def State.putPkt (s : State) (n : Nat) (v : (Option Pkt)) : State := { s with pk.pkts := s.pk.pkts.set none n v }
def State.modPkt (s : State) (n : Nat) (f : (Option Pkt) → (Option Pkt)) : State := s.putPkt n (f (s.pkt n))
def State.copy (s : State) (n : Nat) : (Option Copy) := s.pk.copies.get none n
def State.putCopy (s : State) (n : Nat) (v : (Option Copy)) : State := { s with pk.copies := s.pk.copies.set none n v }
def State.modCopy (s : State) (n : Nat) (f : (Option Copy) → (Option Copy)) : State := s.putCopy n (f (s.copy n))
def State.specTag (s : State) (n : Nat) : (Option Nat) := s.pk.tags.get none n
def State.putSpecTag (s : State) (n : Nat) (v : (Option Nat)) : State := { s with pk.tags := s.pk.tags.set none n v }
def State.modSpecTag (s : State) (n : Nat) (f : (Option Nat) → (Option Nat)) : State := s.putSpecTag n (f (s.specTag n))
def State.tagNext (s : State) (n : Nat) : Nat := s.pk.tagNext.get 0 n
def State.putTagNext (s : State) (n : Nat) (v : Nat) : State := { s with pk.tagNext := s.pk.tagNext.set 0 n v }
def State.modTagNext (s : State) (n : Nat) (f : Nat → Nat) : State := s.putTagNext n (f (s.tagNext n))
def State.qList (s : State) (n : Nat) : (List Nat) := s.pk.queues.get [] n
def State.putQList (s : State) (n : Nat) (v : (List Nat)) : State := { s with pk.queues := s.pk.queues.set [] n v }
def State.modQList (s : State) (n : Nat) (f : (List Nat) → (List Nat)) : State := s.putQList n (f (s.qList n))
def State.openList (s : State) (n : Nat) : (List Nat) := s.pk.open_.get [] n
def State.putOpenList (s : State) (n : Nat) (v : (List Nat)) : State := { s with pk.open_ := s.pk.open_.set [] n v }
def State.modOpenList (s : State) (n : Nat) (f : (List Nat) → (List Nat)) : State := s.putOpenList n (f (s.openList n))
def State.released (s : State) (n : Nat) : (List Nat) := s.pk.released.get [] n
def State.putReleased (s : State) (n : Nat) (v : (List Nat)) : State := { s with pk.released := s.pk.released.set [] n v }
def State.modReleased (s : State) (n : Nat) (f : (List Nat) → (List Nat)) : State := s.putReleased n (f (s.released n))
def State.macFifo (s : State) (n : Nat) : (List Nat) := s.pk.macFifo.get [] n
def State.putMacFifo (s : State) (n : Nat) (v : (List Nat)) : State := { s with pk.macFifo := s.pk.macFifo.set [] n v }
def State.modMacFifo (s : State) (n : Nat) (f : (List Nat) → (List Nat)) : State := s.putMacFifo n (f (s.macFifo n))
def State.sending (s : State) (n : Nat) : (Option Nat) := s.pk.sending.get none n
def State.putSending (s : State) (n : Nat) (v : (Option Nat)) : State := { s with pk.sending := s.pk.sending.set none n v }
def State.modSending (s : State) (n : Nat) (f : (Option Nat) → (Option Nat)) : State := s.putSending n (f (s.sending n))
def State.cellAt (s : State) (n : Nat) : CellEntry := s.pk.cells.get CellEntry.init n
def State.putCellAt (s : State) (n : Nat) (v : CellEntry) : State := { s with pk.cells := s.pk.cells.set CellEntry.init n v }
def State.modCellAt (s : State) (n : Nat) (f : CellEntry → CellEntry) : State := s.putCellAt n (f (s.cellAt n))
def State.voidRec (s : State) (n : Nat) : Nat × Nat × Nat := s.pk.voidRecs.get (0, 0, 0) n
def State.putVoidRec (s : State) (n : Nat) (v : Nat × Nat × Nat) : State := { s with pk.voidRecs := s.pk.voidRecs.set (0, 0, 0) n v }

def State.voided (s : State) (n : Nat) : Nat × List Nat := s.pk.voided.get (0, []) n
def State.putVoided (s : State) (n : Nat) (v : Nat × List Nat) : State := { s with pk.voided := s.pk.voided.set (0, []) n v }
def State.modVoided (s : State) (n : Nat) (f : Nat × List Nat → Nat × List Nat) : State := s.putVoided n (f (s.voided n))
def State.partCycles (s : State) (n : Nat) : Nat × Nat := s.pk.cycles.get (0, 0) n
def State.putPartCycles (s : State) (n : Nat) (v : Nat × Nat) : State := { s with pk.cycles := s.pk.cycles.set (0, 0) n v }
def State.modPartCycles (s : State) (n : Nat) (f : Nat × Nat → Nat × Nat) : State := s.putPartCycles n (f (s.partCycles n))
def State.part (s : State) (n : Nat) : Partition := s.pk.parts.get Partition.init n
def State.putPart (s : State) (n : Nat) (v : Partition) : State := { s with pk.parts := s.pk.parts.set Partition.init n v }
def State.modPart (s : State) (n : Nat) (f : Partition → Partition) : State := s.putPart n (f (s.part n))
def State.slice (s : State) (n : Nat) : SliceSt := s.pk.slices.get SliceSt.init n
def State.putSlice (s : State) (n : Nat) (v : SliceSt) : State := { s with pk.slices := s.pk.slices.set SliceSt.init n v }
def State.modSlice (s : State) (n : Nat) (f : SliceSt → SliceSt) : State := s.putSlice n (f (s.slice n))
def State.chan (s : State) (n : Nat) : ElemLife := s.pk.chans.get .live n
def State.putChan (s : State) (n : Nat) (v : ElemLife) : State := { s with pk.chans := s.pk.chans.set .live n v }
def State.modChan (s : State) (n : Nat) (f : ElemLife → ElemLife) : State := s.putChan n (f (s.chan n))
def State.pool (s : State) (n : Nat) : Pool := s.pk.pools.get (Pool.init n) n
def State.putPool (s : State) (n : Nat) (v : Pool) : State := { s with pk.pools := s.pk.pools.set (Pool.init n) n v }
def State.modPool (s : State) (n : Nat) (f : Pool → Pool) : State := s.putPool n (f (s.pool n))
def State.pg (s : State) (n : Nat) : PgRec := s.pk.pgs.get PgRec.init n
def State.putPg (s : State) (n : Nat) (v : PgRec) : State := { s with pk.pgs := s.pk.pgs.set PgRec.init n v }
def State.modPg (s : State) (n : Nat) (f : PgRec → PgRec) : State := s.putPg n (f (s.pg n))
/-- The peak of a gauge at reset: 49,152 free cells in each partition (R210, R231). -/
def peakInit (n : Nat) : Nat := if n / 2 ^ 32 = 4 then 49152 else 0

def State.peak (s : State) (n : Nat) : Nat := s.pk.peaks.get (peakInit n) n
def State.putPeak (s : State) (n : Nat) (v : Nat) : State := { s with pk.peaks := s.pk.peaks.set (peakInit n) n v }
def State.modPeak (s : State) (n : Nat) (f : Nat → Nat) : State := s.putPeak n (f (s.peak n))
def State.onceEpoch (s : State) (n : Nat) : (Option Nat) := s.pk.onceEpoch.get none n
def State.putOnceEpoch (s : State) (n : Nat) (v : (Option Nat)) : State := { s with pk.onceEpoch := s.pk.onceEpoch.set none n v }
def State.modOnceEpoch (s : State) (n : Nat) (f : (Option Nat) → (Option Nat)) : State := s.putOnceEpoch n (f (s.onceEpoch n))
def State.mgroup (s : State) (n : Nat) : (Option McastGroup) := s.pk.groups.get none n
def State.putMgroup (s : State) (n : Nat) (v : (Option McastGroup)) : State := { s with pk.groups := s.pk.groups.set none n v }
def State.modMgroup (s : State) (n : Nat) (f : (Option McastGroup) → (Option McastGroup)) : State := s.putMgroup n (f (s.mgroup n))
def State.cutThrough (s : State) (n : Nat) : (Bool × Nat) := s.pk.cutThrough.get (true, 2) n
def State.putCutThrough (s : State) (n : Nat) (v : (Bool × Nat)) : State := { s with pk.cutThrough := s.pk.cutThrough.set (true, 2) n v }
def State.modCutThrough (s : State) (n : Nat) (f : (Bool × Nat) → (Bool × Nat)) : State := s.putCutThrough n (f (s.cutThrough n))
def State.orphans (s : State) (n : Nat) : (List Nat) := s.pk.orphans.get [] n
def State.putOrphans (s : State) (n : Nat) (v : (List Nat)) : State := { s with pk.orphans := s.pk.orphans.set [] n v }
def State.modOrphans (s : State) (n : Nat) (f : (List Nat) → (List Nat)) : State := s.putOrphans n (f (s.orphans n))
def State.lineWait (s : State) (n : Nat) : List (Nat × Nat) := s.pk.lineWait.get [] n
def State.putLineWait (s : State) (n : Nat) (v : List (Nat × Nat)) : State := { s with pk.lineWait := s.pk.lineWait.set [] n v }
def State.modLineWait (s : State) (n : Nat) (f : List (Nat × Nat) → List (Nat × Nat)) : State := s.putLineWait n (f (s.lineWait n))
def State.slotsAt (s : State) (n : Nat) : (Nat × Nat) := s.pk.slots.get (0, 0) n
def State.putSlotsAt (s : State) (n : Nat) (v : (Nat × Nat)) : State := { s with pk.slots := s.pk.slots.set (0, 0) n v }
def State.modSlotsAt (s : State) (n : Nat) (f : (Nat × Nat) → (Nat × Nat)) : State := s.putSlotsAt n (f (s.slotsAt n))
def State.slotNo (s : State) (n : Nat) : Nat × Nat := s.pk.slotNo.get (0, 0) n
def State.putSlotNo (s : State) (n : Nat) (v : Nat × Nat) : State := { s with pk.slotNo := s.pk.slotNo.set (0, 0) n v }
def State.turn (s : State) (n : Nat) : Nat := s.pk.turn.get 0 n
def State.putTurn (s : State) (n : Nat) (v : Nat) : State := { s with pk.turn := s.pk.turn.set 0 n v }
def State.modTurn (s : State) (n : Nat) (f : Nat → Nat) : State := s.putTurn n (f (s.turn n))
def State.domain (s : State) (n : Nat) : Domain := s.time.domains.get Domain.init n
def State.putDomain (s : State) (n : Nat) (v : Domain) : State := { s with time.domains := s.time.domains.set Domain.init n v }
def State.modDomain (s : State) (n : Nat) (f : Domain → Domain) : State := s.putDomain n (f (s.domain n))
def State.pps (s : State) (n : Nat) : Pps := s.time.pps.get Pps.init n
def State.putPps (s : State) (n : Nat) (v : Pps) : State := { s with time.pps := s.time.pps.set Pps.init n v }
def State.modPps (s : State) (n : Nat) (f : Pps → Pps) : State := s.putPps n (f (s.pps n))
def State.timePort (s : State) (n : Nat) : (BitVec 64) := s.time.ports.get 0 n
def State.putTimePort (s : State) (n : Nat) (v : (BitVec 64)) : State := { s with time.ports := s.time.ports.set 0 n v }
def State.modTimePort (s : State) (n : Nat) (f : (BitVec 64) → (BitVec 64)) : State := s.putTimePort n (f (s.timePort n))
def State.equeue (s : State) (n : Nat) : Queue := s.eg.queues.get Queue.init n
def State.putEqueue (s : State) (n : Nat) (v : Queue) : State := { s with eg.queues := s.eg.queues.set Queue.init n v }
def State.modEqueue (s : State) (n : Nat) (f : Queue → Queue) : State := s.putEqueue n (f (s.equeue n))
def State.eport (s : State) (n : Nat) : EPort := s.eg.ports.get EPort.init n
def State.putEport (s : State) (n : Nat) (v : EPort) : State := { s with eg.ports := s.eg.ports.set EPort.init n v }
def State.modEport (s : State) (n : Nat) (f : EPort → EPort) : State := s.putEport n (f (s.eport n))
def State.stream (s : State) (n : Nat) : Stream := s.tel.streams.get Stream.init n
def State.putStream (s : State) (n : Nat) (v : Stream) : State := { s with tel.streams := s.tel.streams.set Stream.init n v }
def State.modStream (s : State) (n : Nat) (f : Stream → Stream) : State := s.putStream n (f (s.stream n))
def State.perf (s : State) (n : Nat) : Perf := s.tel.perf.get Perf.init n
def State.putPerf (s : State) (n : Nat) (v : Perf) : State := { s with tel.perf := s.tel.perf.set Perf.init n v }
def State.modPerf (s : State) (n : Nat) (f : Perf → Perf) : State := s.putPerf n (f (s.perf n))
def State.cycles (s : State) (n : Nat) : Nat := s.tel.cycles.get 0 n
def State.putCycles (s : State) (n : Nat) (v : Nat) : State := { s with tel.cycles := s.tel.cycles.set 0 n v }
def State.modCycles (s : State) (n : Nat) (f : Nat → Nat) : State := s.putCycles n (f (s.cycles n))
def State.ledger (s : State) (n : Nat) : Nat := s.tel.ledger.get 0 n
def State.putLedger (s : State) (n : Nat) (v : Nat) : State := { s with tel.ledger := s.tel.ledger.set 0 n v }
def State.modLedger (s : State) (n : Nat) (f : Nat → Nat) : State := s.putLedger n (f (s.ledger n))
def State.engine (s : State) (n : Nat) : ArmEngine := s.arm.engines.get ArmEngine.init n
def State.putEngine (s : State) (n : Nat) (v : ArmEngine) : State := { s with arm.engines := s.arm.engines.set ArmEngine.init n v }
def State.modEngine (s : State) (n : Nat) (f : ArmEngine → ArmEngine) : State := s.putEngine n (f (s.engine n))
def State.microword (s : State) (n : Nat) : (BitVec 256) := s.arm.store.get 0 n
def State.putMicroword (s : State) (n : Nat) (v : (BitVec 256)) : State := { s with arm.store := s.arm.store.set 0 n v }
def State.modMicroword (s : State) (n : Nat) (f : (BitVec 256) → (BitVec 256)) : State := s.putMicroword n (f (s.microword n))
def State.patchWord (s : State) (n : Nat) : (BitVec 256) := s.arm.patchRam.get 0 n
def State.putPatchWord (s : State) (n : Nat) (v : (BitVec 256)) : State := { s with arm.patchRam := s.arm.patchRam.set 0 n v }
def State.modPatchWord (s : State) (n : Nat) (f : (BitVec 256) → (BitVec 256)) : State := s.putPatchWord n (f (s.patchWord n))
def State.entryAt (s : State) (n : Nat) : Nat := s.arm.entry.get 0 n
def State.putEntryAt (s : State) (n : Nat) (v : Nat) : State := { s with arm.entry := s.arm.entry.set 0 n v }
def State.modEntryAt (s : State) (n : Nat) (f : Nat → Nat) : State := s.putEntryAt n (f (s.entryAt n))
def State.baseEntryAt (s : State) (n : Nat) : Nat := s.arm.baseEntry.get 0 n
def State.putBaseEntryAt (s : State) (n : Nat) (v : Nat) : State := { s with arm.baseEntry := s.arm.baseEntry.set 0 n v }
def State.modBaseEntryAt (s : State) (n : Nat) (f : Nat → Nat) : State := s.putBaseEntryAt n (f (s.baseEntryAt n))
def State.cmp (s : State) (n : Nat) : Comparator := s.power.cmps.get Comparator.init n
def State.putCmp (s : State) (n : Nat) (v : Comparator) : State := { s with power.cmps := s.power.cmps.set Comparator.init n v }
def State.modCmp (s : State) (n : Nat) (f : Comparator → Comparator) : State := s.putCmp n (f (s.cmp n))
def State.count (s : State) (n : Nat) : Nat := s.ctr.get 0 n
def State.putCount (s : State) (n : Nat) (v : Nat) : State := { s with ctr := s.ctr.set 0 n v }
def State.modCount (s : State) (n : Nat) (f : Nat → Nat) : State := s.putCount n (f (s.count n))

/-! ## Counters (saturating at their width) -/

/-- The programmable counter `key` (slice x 8 + i, 128 + i at chip level) counts event `code` of `unit`: a pipe 0-63 for
slice events, 0 for chip events (R331, R333). -/
def Perf.counts (x : Perf) (key code unit : Nat) : Bool :=
  let u := (x.cfg.toNat >>> 40) % 256
  x.cfg.getLsbD 63 && x.cfg.toNat % 1024 == code &&
    (if key < 128 then
       key / 8 == unit / 4 && (decide (4 ≤ u) || u == unit % 4 || !((0x010 ≤ code && code ≤ 0x024 : Bool)))
     else decide (0x100 ≤ code) || u == 0xFF || u == unit / 4)

/-- `n` occurrences in the present clock (R332). -/
def Perf.add (x : Perf) (now n : Nat) : Perf :=
  if x.cfg.getLsbD 62 then
    if x.lastAt = some now then x else { x with count := min (x.count + 1) (2 ^ 64 - 1), lastAt := some now }
  else { x with count := min (x.count + n) (2 ^ 64 - 1) }

/-- A COUNT source tied to ticks, which yields its count in the tick's first clock (R332). -/
def tickTied (code : Nat) : Bool := (decide (0x010 ≤ code) && decide (code ≤ 0x043)) || code == 0x104

/-- Occurrences of a COUNT source of R333, counted unless frozen (R334). -/
def State.perfCount (s : State) (code unit n : Nat) : State :=
  if s.tel.freeze || n = 0 || s.tel.perf.isEmpty then s
  else { s with tel.perf := s.tel.perf.map fun (e : Nat × Perf) =>
      (e.1, if e.2.counts e.1 code unit then e.2.add (if tickTied code then s.clock.tickAt else s.clock.now) n else e.2) }

/-- Counters whose events are sources of R333: the code, and its unit. -/
def Ctr.perf (c : Ctr) (i : Nat) : Option (Nat × Nat) :=
  match c with
  | .runaheadReplay => some (0x022, i)
  | .specRollbackMac => some (0x023, i)
  | .specRollbackIcv => some (0x023, i)
  | .stageACells => some (0x030, i * 4)
  | .channelCells => if i % 32 < 16 then none else some (0x032, i / 32 * 4)
  | .matchIdleSlots => some (0x033, i * 4)
  | .cutThroughStarted => some (0x043, i / 64 * 4)
  | .turnstileGrants => some (0x100, 0)
  | .eccCorrected => some (0x102, 0)
  | .armMicrowords => some (0x104, 0)
  | .armAbandonRefused => some (0x105, 0)
  | .armAbandonFault => some (0x105, 0)
  | .armAbandonLive => some (0x105, 0)
  | .cmdAccepted => some (0x107, 0)
  | .cmdRefused => some (0x107, 0)
  | _ => none

/-- What a counter has gained in the present clock. -/
def State.freshOf (s : State) (k : Nat) : Nat := if s.ctrAt = s.clock.now then s.ctrNow.get 0 k else 0

/-- A counter gains `n` more in the present clock. -/
def State.addFresh (s : State) (k n : Nat) : State :=
  { s with ctrNow := if s.ctrAt = s.clock.now then s.ctrNow.set 0 k (s.freshOf k + n) else Arr.set 0 [] k n
           ctrAt := s.clock.now }

def State.bumpBy (s : State) (c : Ctr) (inst n : Nat) : State :=
  let k := c.key inst
  let v := min (s.count k + n) (2 ^ c.width - 1)
  let s := (s.addFresh k (v - s.count k)).putCount k v
  match c.perf inst with
  | some (code, unit) => s.perfCount code unit n
  | none => s

def State.bump (s : State) (c : Ctr) (inst : Nat) : State := s.bumpBy c inst 1

def State.ctrVal (s : State) (c : Ctr) (inst : Nat) : Nat := s.count (c.key inst)

/-- LaneSer1s before the interval whose end falls in the present clock, where one does (R47). -/
def State.laneSerWas (s : State) (c : Ctr) (lane : Nat) : Option Nat :=
  if c = .laneSer1s then
    match (s.lane lane).serWas with
    | some (t, v) => if t = s.clock.now then some v else none
    | none => none
  else none

/-- A counter as it stood before the present clock's increments, which a CLEAR in this clock returns (R6, R47). -/
def State.ctrBefore (s : State) (c : Ctr) (inst : Nat) : Nat :=
  (s.laneSerWas c inst).getD (s.ctrVal c inst - s.freshOf (c.key inst))

/-- A counter cleared: an increment of the same clock stays in it (R6, R47). -/
def State.clearCtr (s : State) (c : Ctr) (inst : Nat) : State :=
  if (s.laneSerWas c inst).isSome then s.modLane inst fun x => { x with serWas := some (s.clock.now, 0) }
  else s.putCount (c.key inst) (s.freshOf (c.key inst))

/-- CLEAR of the statistics commands: the listed counters keep the increments of the present clock (R47). -/
def State.clearCtrs (s : State) (l : List (Ctr × Nat)) : State := l.foldl (fun s e => s.clearCtr e.1 e.2) s

/-! ## Free values (log 2) -/

/-- The number of the next free value, and the state that has drawn it. -/
def State.draw (s : State) : State := { s with freeCtr := s.freeCtr + 1 }

/-- A free value of width `w`. -/
def State.freeVal (s : State) (w : Nat) : BitVec w := Config.freeValue w s.freeCtr

/-- A random number of the device below `n`. -/
def State.rand (s : State) (n : Nat) : Nat := Config.random s.freeCtr % n

/-! ## Units -/

/-- The state an event leaves, or the fault for a unit the device does not have. -/
def onUnit (ok : Bool) (n : Nat) (t : State) : Host.Outcome State Fault Refusal :=
  if ok then .next t else .fault (.noSuchUnit n)

/-! ## Changes at epoch boundaries (R19 to R21) -/

/-- The first epoch whose boundary a change accepted now can meet (R20). -/
def State.earliest (s : State) : Nat := if s.clock.tick < 960 then s.clock.epoch + 1 else s.clock.epoch + 2

/-- A change to one of these objects is already due at that boundary (R21). -/
def State.takenAtEpoch (s : State) (e : Nat) (objs : List (Nat × Nat)) : Bool :=
  s.changes.any fun p => p.epoch == e && p.objs.any objs.contains

/-- The first free boundary from `e` on, looking at most `fuel` boundaries further (R21). -/
def State.freeFrom (s : State) (objs : List (Nat × Nat)) (fuel e : Nat) : Nat :=
  match fuel with
  | 0 => e
  | fuel + 1 => if s.takenAtEpoch e objs then s.freeFrom objs fuel (e + 1) else e

/-- The boundary a change accepted now takes effect at, where no epoch is named. -/
def State.boundary (s : State) (objs : List (Nat × Nat)) : Nat := s.freeFrom objs (s.changes.length + 1) s.earliest

/-- A change made due at the boundary of epoch `e`. -/
def State.due (s : State) (e : Nat) (objs : List (Nat × Nat)) (c : Change) : State :=
  { s with changes := s.changes ++ [{ epoch := e, objs := objs, change := c }] }

/-- A change decided by the device itself, due at the boundary R20 gives. -/
def State.schedule (s : State) (objs : List (Nat × Nat)) (c : Change) : State := s.due (s.boundary objs) objs c

/-! Object numbers of R21: kind and index. -/
def objTable (t : Nat) : Nat × Nat := (1, t)
def objGate (p : Nat) : Nat × Nat := (2, p)
def objShaper (isPort : Bool) (i : Nat) : Nat × Nat := (3, (if isPort then 2 ^ 20 else 0) + i)
def objPart (p : Nat) : Nat × Nat := (4, p)
def objChan (c : Nat) : Nat × Nat := (5, c)
def objPipe (p : Nat) : Nat × Nat := (6, p)
def objPort (p : Nat) : Nat × Nat := (7, p)
def objOctet (o : Nat) : Nat × Nat := (8, o)
def objQueue (q : Nat) : Nat × Nat := (9, q)
def objDevice (n : Nat) : Nat × Nat := (10, n)
def objSet (n : Nat) : Nat × Nat := (11, n)
def objSc (n : Nat) : Nat × Nat := (12, n)
def objGroup (n : Nat) : Nat × Nat := (13, n)
def objUnit (n : Nat) : Nat × Nat := (14, n)
def objCpuQueue (n : Nat) : Nat × Nat := (15, n)
def objStream (n : Nat) : Nat × Nat := (16, n)
def objPg (n : Nat) : Nat × Nat := (17, n)
def objTc (n : Nat) : Nat × Nat := (18, n)
def objRules : Nat × Nat := (19, 0)
def objPool : Nat × Nat := (20, 0)
def objCut (p : Nat) : Nat × Nat := (21, p)
def objTimePort (p : Nat) : Nat × Nat := (22, p)
def objCipherPort (p : Nat) : Nat × Nat := (23, p)
def objSched (p : Nat) : Nat × Nat := (24, p)
def objAdmit (q : Nat) : Nat × Nat := (25, q)
def objReport (q : Nat) : Nat × Nat := (26, q)
def objPortEnable (p : Nat) : Nat × Nat := (27, p)
def objQueueMode (o : Nat) : Nat × Nat := (28, o)

/-! ## Host rings -/

def Ring.size (r : Ring) : Nat := 2 ^ r.sizeExp

/-- A device-produced ring is full when its producer index is one place behind the consumer index (R339). -/
def Ring.full (r : Ring) : Bool := (r.devIndex + 1) % r.size == r.hostIndex

/-- Entries the host has produced and the device has not yet taken (R339). -/
def Ring.waiting (r : Ring) : Nat := (r.hostIndex + r.size - r.devIndex) % r.size

def Ring.advance (r : Ring) : Ring := { r with devIndex := (r.devIndex + 1) % r.size }

/-- The mask bit of an MSI-X vector: bit 0 of the fourth word of its table entry (PRESUMED: PCI Express, log 97). -/
def State.msixMasked (s : State) (v : Nat) : Bool := bit (s.msixWord (2 * v + 1)) 32

/-- A vector sent, or left pending while it is masked (R342, R505). -/
def State.sendMsix (s : State) (v : Nat) : State :=
  if s.msixMasked v then { s with cmd.msixPending := s.cmd.msixPending ||| BitVec.ofNat 256 (1 <<< v) }
  else { s with cmd.out.msix := v :: s.cmd.out.msix }

/-- The ring's vector is signalled (R342). -/
def State.signal (s : State) (rid : Nat) : State :=
  let r := s.hring rid
  (s.sendMsix r.vector).putHring rid { r with lastSignal := some s.now, signalDue := false }

/-- The ring's gap since its last signal has passed (R342). -/
def State.gapOver (s : State) (rid : Nat) : Bool :=
  let r := s.hring rid
  match r.lastSignal with
  | none => true
  | some t => decide (t + clkUs r.minGap ≤ s.now)

/-- After a write-back: a signal, or one held back by MIN_GAP (R342). -/
def State.signalGap (s : State) (rid : Nat) : State :=
  if s.gapOver rid then s.signal rid else s.modHring rid fun r => { r with signalDue := true }

/-! ## Event records (R366 to R370) -/

def b2n (b : Bool) : Nat := if b then 1 else 0

/-- The 32 bytes of an event record (R369). -/
def EventRec.bytes (e : EventRec) : List Byte :=
  beBytes 2 e.source ++ beBytes 1 e.severity ++ beBytes 1 (b2n e.repeated + 2 * b2n e.lost) ++ beBytes 4 e.inst
    ++ beBytes 8 e.epoch ++ beBytes 2 e.tick ++ beBytes 1 e.device ++ beBytes 1 0 ++ beBytes 4 e.seq
    ++ beBytes 8 e.detail.toNat

/-- Raised in the same clock. -/
def EventRec.sameClock (a b : EventRec) : Bool :=
  a.epoch == b.epoch && a.tick == b.tick && a.clock == b.clock && a.device == b.device

/-- A record placed among those of its clock in ascending source number (R368). -/
def placeRec (e : EventRec) (l : List EventRec) : List EventRec :=
  match l with
  | [] => [e]
  | x :: t =>
    if !x.sameClock e then e :: x :: t
    else if x.ring ≠ e.ring then x :: placeRec e t
    else if e.source < x.source then
      { x with seq := e.seq, lost := false } :: placeRec { e with seq := x.seq, lost := x.lost || e.lost } t
    else e :: x :: t

/-- The device goes one entry further on a ring, and writes its index to the ring's write-back address (R339). -/
def State.advanceRing (s : State) (rid : Nat) : State :=
  let r := (s.hring rid).advance
  { s.putHring rid r with cmd.out.writeBacks := (rid, r.writeBack, r.devIndex) :: s.cmd.out.writeBacks }

/-- A record written to event ring `k`, among those of its clock where `sorted`; the mark says that it was dropped (R369, R370). -/
def State.putEvent (s : State) (k : Nat) (e : EventRec) (sorted : Bool) : State × Bool :=
  let rid := 224 + k
  let r := s.hring rid
  if !r.en || r.full then ((s.bump .eventRingDrop k).putHring rid { r with lost := true }, true)
  else
    let s := (s.putHring rid { r with seq := (r.seq + 1) % 2 ^ 32, lost := false }).advanceRing rid
    let x : EventRec := { e with ring := k, seq := r.seq, lost := r.lost }
    let s := { s with cmd.out.events := if sorted then placeRec x s.cmd.out.events else x :: s.cmd.out.events }
    (s.signalGap rid, false)

/-- The frames that carry a payload: segments of at most 4,096 bytes, numbered from 0, the last one marked (R407). -/
def ringFrames (src dest type : Nat) (payload : List Byte) : List RingFrame :=
  let n := max 1 ((payload.length + 4095) / 4096)
  (List.range n).map fun i =>
    { dest := dest, src := src, type := type, hops := 128, segment := i, last := i + 1 == n
      payload := (payload.drop (4096 * i)).take 4096 }

/-- The link of a ring port is down (R394, R407). -/
def State.ringLost (s : State) (west : Bool) : Bool := if west then s.ring.downWest else s.ring.downEast

/-- The first `n` frames of a port, as they stand once those not yet sent have been put out. -/
def sendWaiting (n : Nat) (west : Bool) (l : List RingOut) : List RingOut :=
  match l, n with
  | [], _ => []
  | l, 0 => l
  | u :: t, n + 1 => if u.west != west then u :: sendWaiting (n + 1) west t
                     else { u with sends := max 1 u.sends } :: sendWaiting n west t

/-- Frames of a port go out while the replay buffer of 512 has room and the link is up (R394, R407). -/
def State.ringRoom (s : State) (west : Bool) : State :=
  if s.ringLost west then s
  else
    let new := ((s.ring.unacked.filter fun u => u.west == west).take 512).filter fun u => u.sends == 0
    { s with ring.sent := (new.map fun (u : RingOut) => { u with sends := 1 }).reverse ++ s.ring.sent
             ring.unacked := sendWaiting 512 west s.ring.unacked }

/-- A packet, record or notice put out on a ring port (R407). -/
def State.ringSend (s : State) (dest type : Nat) (payload : List Byte) : State :=
  let east := match s.ring.present.find? (fun r => r.id == dest) with
    | some r => decide (r.east ≤ r.west)
    | none => true
  let west := if s.ring.brokenWest then false else (!east || s.ring.brokenEast)
  let l := (ringFrames s.sec.deviceId dest type payload).map fun f => ({ west := west, frame := f, held := none, sends := 0 } : RingOut)
  State.ringRoom { s with ring.unacked := s.ring.unacked ++ l } west

/-- The device has no PCIe attachment of its own and knows the root that has one (R368, R408). -/
def State.remoteRoot (s : State) : Option Nat :=
  match s.ring.root with
  | some r => if !s.sec.pcieUp && r != s.sec.deviceId then some r else none
  | none => none

def State.eventRec (s : State) (src sev inst : Nat) (rep : Bool) (detail : BitVec 64) : EventRec :=
  { ring := 0, source := src, severity := sev, repeated := rep, lost := false, inst := inst, epoch := s.clock.epoch
    tick := s.clock.tick, device := s.sec.deviceId, seq := 0, detail := detail, clock := s.clock.k }

/-- The status bit of a source set (R367). -/
def State.setStatus (s : State) (src : Nat) : State :=
  let w := s.evStatus (src / 32)
  let s := (if bit w (src % 32) then s else s.putEvSetAt src (s.cycleStamp + 1)).putEvRaisedAt src (s.cycleStamp + 1)
  s.putEvStatus (src / 32) (w ||| BitVec.ofNat 32 (1 <<< (src % 32)))

/-- The sources of a group raised in the present clock: a host clear leaves their bits set (R6, R367). -/
def State.raisedNow (s : State) (g : Nat) : BitVec 32 :=
  BitVec.ofNat 32 (((List.range 32).filter fun b => s.evRaisedAt (32 * g + b) == s.cycleStamp + 1).map fun b => 2 ^ b).sum

/-- REPEAT of R369: the status bit was set at the start of the clock. -/
def State.repeats (s : State) (src : Nat) : Bool :=
  bit (s.evStatus (src / 32)) (src % 32) && s.evSetAt src != s.cycleStamp + 1

def State.enabled (s : State) (src : Nat) : Bool := bit (s.evEnable (src / 32)) (src % 32)

/-! ## The fault log and the first-error record (R417 to R420) -/

/-- An entry placed at log position `pos`, behind the entries of its clock with a lower source (R420). -/
def placeLog (fuel pos : Nat) (e : LogEntry) (log : Arr (Option LogEntry)) : Arr (Option LogEntry) :=
  match fuel with
  | 0 => log.set none (pos % 4096) (some { e with seq := pos % 2 ^ 32 })
  | fuel + 1 =>
    match (if pos = 0 then none else log.get none ((pos - 1) % 4096)) with
    | none => log.set none (pos % 4096) (some { e with seq := pos % 2 ^ 32 })
    | some x =>
      if x.stamp = e.stamp ∧ e.source < x.source then
        placeLog fuel (pos - 1) e (log.set none (pos % 4096) (some { x with seq := pos % 2 ^ 32 }))
      else log.set none (pos % 4096) (some { e with seq := pos % 2 ^ 32 })

/-- The entry is captured by the first-error record (R419, R420). -/
def State.captures (s : State) (e : LogEntry) : Bool :=
  decide (s.faults.firstMinSev ≤ e.severity) &&
    (!s.faults.first.valid ||
      (s.faults.first.stamp == e.stamp &&
        (decide (s.faults.first.severity < e.severity)
          || (s.faults.first.severity == e.severity && decide (e.source < s.faults.first.source)))))

/-- Another raise of the cycle is logged (R420). -/
def State.loggedNow (s : State) (stamp : Nat) : Bool :=
  match s.logAt ((s.faults.nextSeq + 4095) % 4096) with
  | some x => x.stamp == stamp
  | none => false

/-- The first-error record of an entry. -/
def LogEntry.asFirst (e : LogEntry) (simultaneous : Bool) : FirstError :=
  { valid := true, simultaneous := simultaneous, wire := e.wire, permanent := e.permanent, severity := e.severity
    reaction := e.reaction, source := e.source, inst := e.inst, stamp := e.stamp, detail := e.detail }

/-- The record that a host clear of VALID in this clock would leave: the most severe qualifying raise of the clock, the lowest
source among equals (R420). -/
def State.nextFirst (s : State) (e : LogEntry) (also : Bool) : Option FirstError :=
  let old := s.faults.firstNext.filter fun f => f.stamp == e.stamp
  if decide (e.severity < s.faults.firstMinSev) then old
  else match old with
    | none => some (e.asFirst also)
    | some f =>
      if f.severity < e.severity ∨ (f.severity = e.severity ∧ e.source < f.source) then some (e.asFirst true)
      else some { f with simultaneous := true }

/-! ## Addresses of R160 and R436 -/

/-- STORE, BANK and INDEX of a fault address. -/
def faultAddr (store bank index : Nat) : BitVec 64 := BitVec.ofNat 64 (store <<< 60 ||| bank <<< 32 ||| index)

/-- Array class of R439 of an address of R160 or R436. -/
def addrClass (a : BitVec 64) : Nat :=
  match fld a 63 60 with
  | 1 => 4 | 2 => 4 | 3 => 5 | 4 => 6 | 5 => 0 | 6 => 1 | 7 => 2 | 8 => 3 | 9 => 9 | 10 => 10
  | 11 => if fld a 31 30 = 3 then 8 else 7
  | 13 => 13 | 14 => 12 | 15 => 14 | _ => 12

/-- A word of poisoned data consumed, counted for its array's class (R434, R440; log 114). -/
def State.consumed (s : State) (a : BitVec 64) : State := s.bump .poisonConsumed (addrClass a)

/-- Address of 64-bit word `w` of the fault log: its INDEX counts the log's words (R436; log 114). -/
def logWordAddr (w : Nat) : BitVec 64 := faultAddr 10 0 (0xFFFF0000 + w)

/-- The poison of an entry's four words clears with the write of the entry (R434). -/
def State.clearLogPoison (s : State) (slot : Nat) : State :=
  let l := (List.range 4).map fun i => logWordAddr (4 * slot + i)
  { s with faults.poisoned := s.faults.poisoned.filter fun a => !l.contains a
           faults.markers := s.faults.markers.filter fun a => !l.contains a }

/-- The collector records a raise (R417 to R420). -/
def State.record (s : State) (e : LogEntry) : State :=
  let cap := s.captures e
  let logged := decide (s.faults.logMinSev ≤ e.severity)
  let also := s.loggedNow e.stamp
  let f := s.faults.first
  let first : FirstError :=
    if cap then e.asFirst (also || (f.valid && f.stamp == e.stamp))
    else if f.valid && f.stamp == e.stamp && logged then { f with simultaneous := true } else f
  let s := { s with faults.first := first, faults.firstNext := s.nextFirst e also }
  if logged then
    let log := if cap then
        s.faults.log.map fun x => (x.1, x.2.map fun y => if y.stamp = e.stamp then { y with first := false } else y)
      else s.faults.log
    let s := if (s.logAt (s.faults.nextSeq % 4096)).isSome then s.bump .faultLogOverwritten 0 else s
    let s := s.clearLogPoison (s.faults.nextSeq % 4096)
    { s with faults.log := placeLog 64 s.faults.nextSeq { e with first := cap } log
             faults.nextSeq := (s.faults.nextSeq + 1) % 2 ^ 32 }
  else s

def logEntry (s : State) (src sev inst : Nat) (wire perm : Bool) (reaction : Nat) (detail : BitVec 64) : LogEntry :=
  { seq := 0, source := src, severity := sev, wire := wire, permanent := perm, first := false, reaction := reaction
    inst := inst, stamp := s.cycleStamp, detail := detail }

/-- EVENT_RING_DROP of ring `k` (R370): at most once per epoch and ring, its record in the ring after it. -/
def State.dropNotice (s : State) (k : Nat) : State :=
  let rid := 224 + k
  let r := s.hring rid
  if r.dropEpoch = some s.clock.epoch then s
  else
    let s := s.putHring rid { r with dropEpoch := some s.clock.epoch }
    let e := s.eventRec srcEventRingDrop 0 k (s.repeats srcEventRingDrop) 0
    let s := s.setStatus srcEventRingDrop
    let s := if s.enabled srcEventRingDrop then (s.putEvent ((k + 1) % 4) e true).1 else s
    s.record (logEntry s srcEventRingDrop 0 k false false 0 0)

/-- A record placed among those of the present clock that go to the root, in ascending source number (R368). -/
def placeDue (x : Nat × EventRec) (l : List (Nat × EventRec)) : List (Nat × EventRec) :=
  match l with
  | [] => [x]
  | y :: t => if x.2.source < y.2.source then x :: y :: t else y :: placeDue x t

/-- A record that the ring's owner writes, or the drop it finds (R370). -/
def State.writeEvent (s : State) (k : Nat) (e : EventRec) (sorted : Bool) : State :=
  let r := s.putEvent k e sorted
  if r.2 then r.1.dropNotice k else r.1

/-- The clock ends: its records for the root go out over the Slait ring (R368). -/
def State.flushEvents (s : State) : State :=
  let t := { s with cmd.eventsDue := [] }
  s.cmd.eventsDue.foldl (fun t (x : Nat × EventRec) =>
    match t.remoteRoot with
    | some root => t.ringSend root 3 (beBytes 1 x.1 ++ x.2.bytes)
    | none => t.writeEvent x.1 x.2 true) t

/-- The event record of a raise, to the ring its group is routed to, or to the root over the Slait ring (R367, R368). -/
def State.emit (s : State) (src sev inst : Nat) (detail : BitVec 64) : State :=
  let e := s.eventRec src sev inst (s.repeats src) detail
  let s := s.setStatus src
  if s.enabled src then
    let k := s.evRoute (src / 32)
    match s.remoteRoot with
    | some _ => { s with cmd.eventsDue := placeDue (k, e) s.cmd.eventsDue }
    | none => s.writeEvent k e true
  else s

/-- A raise as it reaches the event path and the collector, its reaction already decided; a masked pair reports nothing
(R414). -/
def State.raiseBase (s : State) (src sev inst : Nat) (detail : BitVec 64) (wire perm : Bool) (reaction : Nat) : State :=
  if s.masked src && !wire then s
  else
    let s := s.emit src sev inst detail
    s.record (logEntry s src sev inst wire perm reaction detail)

/-- A raise of a source that no reaction and no permanence touches. -/
def State.note (s : State) (src inst : Nat) (detail : BitVec 64) : State :=
  s.raiseBase src (srcSeverity src) inst detail false false 0

/-- A raise at most once per epoch, whatever its instance. -/
def State.noteOnceAs (s : State) (src inst : Nat) (detail : BitVec 64) : State :=
  if s.onceEpoch (src * 2 ^ 32) = some s.clock.epoch then s
  else (s.putOnceEpoch (src * 2 ^ 32) (some s.clock.epoch)).note src inst detail

/-- A raise at most once per epoch for its instance. -/
def State.noteOnce (s : State) (src inst : Nat) (detail : BitVec 64) : State :=
  let k := src * 2 ^ 32 + inst
  if s.onceEpoch k = some s.clock.epoch then s else (s.putOnceEpoch k (some s.clock.epoch)).note src inst detail

end Machine

end Sys2Proof
end

