-- ==== Sys2Proof/Machine/ParseDefault.lean ====
section
/-! DEFINITION. Frame bytes as the parser reads them, what a parse yields, and the transitions, lengths and limits of the
default parse program (R106 to R108 and R519, spec/05_parser_rules.md). -/

namespace Sys2Proof.Machine

/-! ## Frame bytes -/

/-- Byte `i` of a frame; zero at or beyond its end (R106). -/
def byteAt (f : List Byte) (i : Nat) : Nat := ((f[i]?).getD 0).toNat

/-- `n` bytes from `i`, most significant first. -/
def wordAt (f : List Byte) (i n : Nat) : Nat :=
  match n with
  | 0 => 0
  | n + 1 => byteAt f i * 256 ^ n + wordAt f (i + 1) n

/-- A byte of [i, i + n) that lies beyond the parse window and within the frame (R107). -/
def beyondWindow (len i n : Nat) : Bool := decide (256 < i + n) && decide (max i 256 < len)

/-! ## The parser (R104 to R107) -/

/-- What a parse yields: headers (type, position, length), error code, profiles last set, and the exact-match and LPM
profile sets as each entry left them, with the number of headers resolved by then. -/
structure Parse where
  headers : List (Nat × Nat × Nat)
  err : Nat
  cls : Nat
  sets : List (Nat × Nat × Nat)
deriving DecidableEq, Repr

/-! ## The default program (R108, R519)

R519 gives the program by the transitions it resolves; the words of its entries are the firmware image's. A lookahead word
of R106 starts at or after the current position, so the Ethertype of a header already passed lies outside it: the program is
therefore modelled by its transitions, while its entries stand unchanged (log 94). -/

/-- What the default program expects at a position: a header of a type, a fragment header, or payload. -/
inductive DefNext where
  /-- a header of the type -/
  | header (ty : Nat)
  /-- the IPv6 extension header of Next Header 44 -/
  | fragment
  /-- payload: the parse ends at END -/
  | payload
  /-- one tag, label or extension header more than the program takes: NO_MATCH -/
  | noEntry
deriving DecidableEq, Repr

/-- Tags after the last Ethernet header, MPLS labels, and headers of types 6 and 7, so far. -/
structure DefCount where
  tags : Nat
  labels : Nat
  exts : Nat
deriving DecidableEq, Repr

/-- The length of the header at `pos` (R519). -/
def defLen (f : List Byte) (pos : Nat) (n : DefNext) : Nat :=
  match n with
  | .header ty =>
    match ty with
    | 1 => 14
    | 2 => 4
    | 3 => 4
    | 4 => byteAt f pos % 16 * 4
    | 5 => 40
    | 6 => (byteAt f (pos + 1) + 1) * 8
    | 7 => (byteAt f (pos + 1) + 1) * 8
    | 8 => 28
    | 10 => byteAt f (pos + 12) / 16 * 4
    | 14 => 8 + byteAt f pos % 64 * 4
    | 15 => 4 + 4 * (byteAt f pos / 128 + byteAt f pos / 32 % 2 + byteAt f pos / 16 % 2)
    | 16 => 12
    | 17 => 34
    | _ => 8
  | .fragment => 8
  | _ => 0

/-- The byte of the header in which its length stands, if it is not fixed. -/
def defLenByte (n : DefNext) : Option Nat :=
  match n with
  | .header 4 => some 0
  | .header 6 => some 1
  | .header 7 => some 1
  | .header 10 => some 12
  | .header 14 => some 0
  | .header 15 => some 0
  | _ => none

/-- What follows an Ethertype or a protocol type, with `tunnel` after GRE or GENEVE. -/
def afterType (w : Nat) (tunnel : Bool) (c : DefCount) : DefNext :=
  if w = 0x8100 ∨ w = 0x88A8 then (if c.tags < 2 then .header 2 else .noEntry)
  else if w = 0x8847 ∨ w = 0x8848 then (if c.labels < 6 then .header 3 else .noEntry)
  else if w = 0x0800 then .header 4
  else if w = 0x86DD then .header 5
  else if w = 0x0806 then .header 8
  else if w = 0x88F7 then .header 17
  else if w = 0x6558 ∧ tunnel then .header 1
  else .payload

/-- What follows a Next Header of IPv6 or of an extension header that ends at `pos`: the IOAM trace option is the first
option of the header there, its type in byte 2 and its IOAM-Type in byte 5 (PRESUMED, log 25). -/
def afterNextHeader (f : List Byte) (pos nh : Nat) (c : DefCount) : DefNext :=
  let ext (n : DefNext) : DefNext := if c.exts < 4 then n else .noEntry
  match nh with
  | 0 => ext (.header (if byteAt f (pos + 2) = 0x31 ∧ byteAt f (pos + 5) = 0 then 7 else 6))
  | 43 => ext (.header 6)
  | 60 => ext (.header 6)
  | 44 => ext .fragment
  | 6 => .header 10
  | 17 => .header 9
  | 58 => .header 12
  | 47 => .header 15
  | _ => .payload

/-- What follows the header at `pos` of length `len` (R519). -/
def defAfter (f : List Byte) (pos len : Nat) (n : DefNext) (c : DefCount) : DefNext :=
  match n with
  | .header ty =>
    match ty with
    | 1 => afterType (wordAt f (pos + 12) 2) false c
    | 2 => afterType (wordAt f (pos + 2) 2) false c
    | 3 =>
      if byteAt f (pos + 2) % 2 = 0 then (if c.labels < 6 then .header 3 else .noEntry)
      else match byteAt f (pos + 4) / 16 with
        | 4 => .header 4
        | 6 => .header 5
        | _ => .payload
    | 4 =>
      if wordAt f (pos + 6) 2 % 8192 ≠ 0 then .payload
      else match byteAt f (pos + 9) with
        | 6 => .header 10
        | 17 => .header 9
        | 1 => .header 11
        | 47 => .header 15
        | _ => .payload
    | 5 => afterNextHeader f (pos + len) (byteAt f (pos + 6)) c
    | 6 => afterNextHeader f (pos + len) (byteAt f pos) c
    | 7 => afterNextHeader f (pos + len) (byteAt f pos) c
    | 9 =>
      match wordAt f (pos + 2) 2 with
      | 4789 => .header 13
      | 6081 => .header 14
      | 4791 => .header 16
      | 319 => .header 17
      | 320 => .header 17
      | _ => .payload
    | 13 => .header 1
    | 14 => afterType (wordAt f (pos + 2) 2) true c
    | 15 => afterType (wordAt f (pos + 2) 2) true c
    | _ => .payload
  | .fragment =>
    if wordAt f (pos + 2) 2 / 8 ≠ 0 then .payload else afterNextHeader f (pos + len) (byteAt f pos) c
  | _ => .payload

/-- Bytes after the header, which ends at `pos`, that decide what follows it: the nibble after the last MPLS label and the
first option of a hop-by-hop header. -/
def defAhead (f : List Byte) (pos : Nat) (n : DefNext) : Nat :=
  match n with
  | .header 3 => if byteAt f (pos + 2) % 2 = 1 then 1 else 0
  | .header 5 => if byteAt f (pos + 6) = 0 then 6 else 0
  | .header 6 => if byteAt f pos = 0 then 6 else 0
  | .header 7 => if byteAt f pos = 0 then 6 else 0
  | .fragment => if byteAt f pos = 0 ∧ wordAt f (pos + 2) 2 / 8 = 0 then 6 else 0
  | _ => 0

def DefNext.type (n : DefNext) : Nat :=
  match n with
  | .header ty => ty
  | .fragment => 6
  | _ => 0

/-- The counts with a header more; an Ethernet header starts a new count of tags. -/
def DefCount.add (c : DefCount) (ty : Nat) : DefCount :=
  match ty with
  | 1 => { c with tags := 0 }
  | 2 => { c with tags := c.tags + 1 }
  | 3 => { c with labels := c.labels + 1 }
  | 6 => { c with exts := c.exts + 1 }
  | 7 => { c with exts := c.exts + 1 }
  | _ => c

/-- The default program from position `pos`, `fuel` positions further, with the errors of R107. -/
def defParseFrom (f : List Byte) (fuel pos : Nat) (n : DefNext) (c : DefCount) (p : Parse) : Parse :=
  match fuel with
  | 0 => p
  | fuel + 1 =>
    match n with
    | .payload => p
    | .noEntry => { p with err := 1 }
    | n =>
      if p.headers.length = 24 then { p with err := 3 }
      else if (match defLenByte n with | some b => beyondWindow f.length (pos + b) 1 | none => false) then { p with err := 2 }
      else
        let len := defLen f pos n
        if len = 0 ∨ f.length < pos + len then { p with err := 4 }
        else if 256 < pos + len then { p with err := 2 }
        else
          let c := c.add n.type
          let p := { p with headers := p.headers ++ [(n.type, pos, len)], sets := p.sets ++ [(p.headers.length + 1, 0, 0)] }
          if beyondWindow f.length (pos + len) (defAhead f pos n) then { p with err := 2 }
          else defParseFrom f fuel (pos + len) (defAfter f pos len n c) c p

/-- The parse of a frame by the default program; it sets no profile (log 94). -/
def defParse (f : List Byte) : Parse :=
  defParseFrom f 26 0 (.header 1) { tags := 0, labels := 0, exts := 0 } { headers := [], err := 0, cls := 0, sets := [] }

end Sys2Proof.Machine
end

