-- ==== Sys2Proof/Machine/TimeOps.lean ====
section
/-! DEFINITION. The time domains as every unit reads them: their advance with the time clock, steps, holdover
(R261 to R267, spec/11_time.md). -/

namespace Sys2Proof.Machine

/-- One nanosecond, and one unit of 2^-16 ns, in the units a domain counts in (2^-64 ns, R261). -/
def unitNs : Nat := 2 ^ 64
def unitFrac : Nat := 2 ^ 48

/-- 2^48 s, where a domain wraps (R261). -/
def domainSpan : Nat := 2 ^ 48 * 10 ^ 9 * unitNs

/-- Time clocks (625 MHz) between core clock `a` and core clock `b` (R262): 25 in every 64 core clocks. -/
def timeClocks (a b : Nat) : Nat := b * 25 / 64 - a * 25 / 64

/-- What a domain adds in one time clock: 1.6 ns x (1 + ADJ x 2^-48), to the nearest of the bits carried (R262; DESIGN CHOICE,
log 10). -/
def timeInc (adj : Int) : Nat := ((16 * ((2 : Int) ^ 64 + adj * 2 ^ 16) + 5) / 10).toNat

/-- A domain after `n` time clocks. -/
def Domain.advance (d : Domain) (n : Nat) : Domain := { d with value := (d.value + n * timeInc d.adj) % domainSpan }

/-- The value in units of 2^-16 ns (the 96 bits of R261, as one count). -/
def Domain.frac (d : Domain) : Nat := d.value / unitFrac

/-- The 96-bit value of R261: seconds, nanoseconds, fraction. -/
def Domain.sec (d : Domain) : Nat := d.frac / (10 ^ 9 * 65536)
def Domain.ns (d : Domain) : Nat := d.frac / 65536 % 10 ^ 9
def Domain.fr (d : Domain) : Nat := d.frac % 65536

/-- A value of seconds, nanoseconds and fraction in units of 2^-16 ns. -/
def fracOf (sec ns fr : Nat) : Nat := (sec * 10 ^ 9 + ns) * 65536 + fr

/-- The time of a domain in units of 2^-16 ns. -/
def State.tdFrac (s : State) (d : Nat) : Nat := (s.domain d).frac

/-! ## Core clocks and ticks (R11, R26) -/

/-- Clock c of the present epoch (R11). -/
def State.clockNo (s : State) : Nat := s.clock.tick * 2 + s.clock.k

/-- The slowest slice's frequency in compatibility mode, else the core's, in MHz (R26). -/
def State.slowest (s : State) : Nat :=
  match s.power.compat with
  | some l => l.foldl min 1600
  | none => 1600

/-- Core clocks of 0.625 ns that clocks `a` to `b` of an epoch take: in compatibility mode a clock is one of the slowest
slice's, and an epoch's length is rounded down to whole core clocks (R26; DESIGN CHOICE, log 99). -/
def State.span (s : State) (a b : Nat) : Nat := b * 1600 / s.slowest - a * 1600 / s.slowest

/-- Core clock at the start of the present tick, and at the start of the tick before. -/
def State.tickStart (s : State) : Nat := s.clock.now - s.span (s.clock.tick * 2) s.clockNo
def State.prevStart (s : State) : Nat :=
  s.tickStart - (if s.clock.tick = 0 then s.span 2046 2048 else s.span (s.clock.tick * 2 - 2) (s.clock.tick * 2))

/-- Ticks that an elapsed number of core clocks makes. -/
def State.ticksIn (s : State) (elapsed : Nat) : Nat := (elapsed * s.slowest + 1600) / 3200

/-- ADJ written, by whichever command: the new rate, and its place in the history of the holdover mean (R264). -/
def Domain.setAdj (d : Domain) (now : Nat) (adj : Int) : Domain := { d with adj := adj, hist := (now, adj) :: d.hist }

/-- Sum of ADJ x clocks over a history (newest first) from `w` up to `until`. -/
def histSum (w : Nat) (hist : List (Nat × Int)) (till : Nat) : Int :=
  match hist with
  | [] => 0
  | (t, a) :: rest => a * ((till - max t w : Nat) : Int) + histSum w rest (min till t)

/-- Rounded to the nearest integer, halves away from zero (R264). -/
def roundAway (num : Int) (den : Nat) : Int :=
  if den = 0 then 0
  else
    let q : Nat := (2 * num.natAbs + den) / (2 * den)
    if num < 0 then -(q : Int) else q

/-- The holdover mean: over the last 16 s, or since the first TIME_ADJUST, where that is shorter (R264). -/
def Domain.mean (d : Domain) (now : Nat) : Int :=
  let w := max (d.firstAdj.getD 0) (now - clkS 16)
  if now ≤ w then d.adj else roundAway (histSum w d.hist now) (now - w)

/-- Entry into HOLDOVER (R264). -/
def State.enterHoldover (s : State) (n : Nat) : State :=
  let d := s.domain n
  let d := { d.setAdj s.now (d.mean s.now) with
             st := .holdover, holdFrom := s.now, events := d.events ++ [(false, s.tickStamp)] }
  (s.putDomain n d).note srcTdHoldoverEnter n 0

/-- Back to TRACKING from HOLDOVER (R264). -/
def State.recover (s : State) (n : Nat) : State :=
  (s.modDomain n fun d => { d with st := .tracking, wdFrom := s.now, events := d.events ++ [(false, s.tickStamp)] }).note
    srcTdRecovered n 0

/-- The signed change of a step as the 64 bits of a detail: bits [63:1] in units of 2^-16 ns, or where those do not hold it, with
bit 0 set, in whole nanoseconds, at most as large as they hold (R263; DESIGN CHOICE, log 11). -/
def changeDetail (change : Int) : BitVec 64 :=
  if change.natAbs < 2 ^ 62 then BitVec.ofInt 64 (2 * change)
  else BitVec.ofInt 64 (2 * max (-(2 : Int) ^ 62) (min (2 ^ 62 - 1) (change / 65536)) + 1)

/-- Instants of an output pin that its domain has reached: one for each second (R277). -/
def State.ppsReached (s : State) (pin : Nat) : Nat :=
  let d := s.domain (s.pps pin).domain
  if (s.pps pin).offsetNs ≤ d.ns then d.sec + 1 else d.sec

/-- The output pins of a domain whose value has gone back: edges not sent yet will be, those sent are kept in mind, but for a
wrap, after which every instant is a new one (R261, R277). -/
def State.ppsBack (s : State) (n : Nat) (wrap : Bool) : State :=
  (List.range 4).foldl (fun t pin =>
    if (t.pps pin).domain = n ∧ (t.pps pin).lastSec.isSome then
      t.modPps pin fun p => { p with lastSec := some (if wrap then 0 else min (p.lastSec.getD 0) (t.ppsReached pin))
                                     sentEdges := if wrap then [] else p.sentEdges }
    else t) s

/-- A step or set of a domain to `v`: TD_STEP with the signed change in its detail (R263, log 11). -/
def State.stepTo (s : State) (n v : Nat) : State :=
  let d := s.domain n
  let t := s.putDomain n { d with value := v, wdFrom := s.now, events := d.events ++ [(true, s.tickStamp)]
                                  jumps := ((s.now, (v : Int) - (d.value : Int)) :: d.jumps).take 4 }
  (if v < d.value then t.ppsBack n false else t).note srcTdStep n (changeDetail ((v / unitFrac : Nat) - (d.frac : Int)))

/-- What a domain reads `ps` picoseconds from now (before now where negative), in 2^-64 ps; a step since then is taken back
(R270). -/
def State.tdAt (s : State) (n : Nat) (ps : Int) : Int :=
  let d := s.domain n
  let since := d.jumps.filter fun e => decide ((s.now : Int) * 625 + ps < (e.1 : Int) * 625)
  1000 * ((d.value : Int) - (since.map (·.2)).sum) + ps * (2 ^ 16 * (2 ^ 48 + d.adj))

/-- A time in 2^-64 ps, to the nearest 0.5 ns, halfway up, in units of 0.5 ns of the 2^48 s that a domain counts (R270). -/
def halfNs (x : Int) : Nat := ((x + 250 * 2 ^ 64) / (500 * 2 ^ 64) % (2 ^ 48 * (2 * 10 ^ 9))).toNat

/-- The present time of a domain in units of 0.5 ns, rounded as R270 says. -/
def State.stampNow (s : State) (d : Nat) : Nat := halfNs (s.tdAt d 0)

/-- Epoch, tick and clock of the running tally: the core's, or the Gatehouse's where the core is held (R12, R13). -/
def Clock.epochNow (c : Clock) : Nat := if c.running then c.epoch else c.tally
def Clock.tickNow (c : Clock) : Nat := if c.running then c.tick else c.tallyClock / 2
def Clock.kNow (c : Clock) : Nat := if c.running then c.k else c.tallyClock % 2

/-- TD0 of a FOLLOW leaves TWIN when the Colonnade disconnects (R264). -/
def State.leaveTwin (s : State) : State :=
  if (s.domain 0).st = .twin then s.enterHoldover 0 else s

/-- TD0 of a FOLLOW enters TWIN when the Colonnade connects (R281). -/
def State.enterTwin (s : State) : State :=
  if s.twin.role = .follow then s.modDomain 0 fun d => { d with st := .twin } else s

end Sys2Proof.Machine
end

