-- ==== Sys2Proof/Machine/React.lean ====
section
/-! DEFINITION. Raises with permanence and reactions (R421 to R424, spec/17_faults.md), and the retirement and fencing of
units that reactions and commands share (R425 to R430; R253, R254 of spec/10_trellis.md; R397 of
spec/16_twin_ring.md). -/

namespace Sys2Proof.Machine

/-! ## Colonnade disconnection -/

/-- A resync in progress ends with TWIN_RESYNC_FAILED, and its FOLLOW returns to CONFIGURE (R404). -/
def State.resyncFailed (s : State) : State :=
  let s := s.note srcTwinResyncFailed s.twin.peer 0
  if s.cmd.dev = .resync then s.schedule [objDevice 0] (.devState .configure) else s

/-- The Colonnade disconnects (R396): a resync in progress, one past its B, fails (R404), an attached pair is detached (R398), and TD0 of
a FOLLOW goes to HOLDOVER (R264). -/
def State.disconnect (s : State) : State :=
  let t := State.leaveTwin { s with twin := { s.twin with connected := false, attached := false, version := 0, joinStep := 0
                                                          txSeq := 0, rxSeq := 0, lastAck := none
                                                          frozen := false, missed := 0, replay := [] } }
  if s.twin.joinStep < 4 then t else t.resyncFailed

/-- Contexts 0 to 3 are lost (R397). -/
def State.keyLost (s : State) : State :=
  if s.twin.connected then s.disconnect.note srcColonnadeKeyLost s.twin.peer 0
  else s.note srcColonnadeKeyLost s.twin.peer 0

/-! ## Retirement -/

/-- Channel number: slice x 32 + stage x 16 + channel. -/
def chanNo (slice stage chan : Nat) : Nat := slice * 32 + stage * 16 + chan

def elemObj (e : Element) : Nat × Nat :=
  match e with
  | .partition p => objPart p
  | .channel sl st c => objChan (chanNo sl st c)

def State.elemLife (s : State) (e : Element) : ElemLife :=
  match e with
  | .partition p => (s.part p).life
  | .channel sl st c => s.chan (chanNo sl st c)

/-- A retirement of the element is accepted and has not reached its step 1. -/
def State.stopDue (s : State) (e : Element) : Bool :=
  s.changes.any fun p => match p.change with | .elemStop x _ => x == e | _ => false

/-- The element is live and no retirement of it is due. -/
def State.elemLive (s : State) (e : Element) : Bool := s.elemLife e == .live && !s.stopDue e

/-- Live elements among those that share the limit of R254 with `e`. -/
def State.livePeers (s : State) (e : Element) : Nat :=
  match e with
  | .partition _ => ((List.range 16).filter fun p => s.elemLive (.partition p)).length
  | .channel sl st _ => ((List.range 16).filter fun c => s.elemLive (.channel sl st c)).length

/-- R254: the element may be retired. -/
def State.mayRetire (s : State) (e : Element) : Bool := s.elemLive e && decide (9 ≤ s.livePeers e)

/-- A partition bank is live and not about to be detached. -/
def State.bankLive (s : State) (p b : Nat) : Bool :=
  s.partBank (p * 32 + b) == .live &&
    !(s.changes.any fun c => match c.change with | .bankDetach p' b' => p' == p && b' == b | _ => false)

/-- R427: at least 24 live banks remain. -/
def State.mayRetireBank (s : State) (p b : Nat) : Bool :=
  s.bankLive p b && decide (25 ≤ ((List.range 32).filter fun x => s.bankLive p x).length)

/-- A pipe (0-63 ingress, 64-127 egress) is live and no retirement of it is due. -/
def State.pipeLive (s : State) (g : Nat) : Bool :=
  !s.pipeRetired g && !(s.changes.any fun c => match c.change with | .pipeRetire x => x == g | _ => false)

/-- R428: another pipe of the slice and direction is live. -/
def State.mayRetirePipe (s : State) (g : Nat) : Bool :=
  s.pipeLive g && ((List.range 4).any fun q => (g / 4 * 4 + q) != g && s.pipeLive (g / 4 * 4 + q))

/-- The spare group of a bank: stores 0 exact-match, 1 LPM, 2 counters (R426). -/
def spareGroup (store bank : Nat) : Nat := if store = 0 then bank / 32 else if store = 1 then bank / 128 else bank / 64

def spareKey (store group : Nat) : Nat := store * 2 ^ 16 + group

/-- R426: the group's spare is free and no bank of it is being copied. -/
def State.maySpare (s : State) (store bank : Nat) : Bool :=
  (s.spareOf (spareKey store (spareGroup store bank))).isNone &&
    !(s.faults.spareJobs.any fun j => j.store == store && j.group == spareGroup store bank)

/-- The copy of a bank to its spare, or back, is decided (R426). -/
def State.startSpare (s : State) (store bank : Nat) (back : Bool) : State :=
  { s with faults.spareJobs := s.faults.spareJobs ++
      [{ store := store, group := spareGroup store bank, bank := bank, copied := 0, back := back, switchAt := none }] }

/-! ## Fencing -/

/-- Line cipher engine or lookaside engine (256): it takes effect in the tick of the decision (R429). -/
def State.fenceCipher (s : State) (e : Nat) : State :=
  let s := s.modCengine e fun x => { x with fenced := true }
  let s := if e = 256 then s.keyLost else s
  s.note srcUnitFenced e 0

/-- The engine in service with the shortest queue, lowest first, that has room (R375). -/
def State.pickEngine (s : State) : Option Nat :=
  (List.range 4).foldl (fun best e =>
    if (s.engine e).fenced || decide (64 ≤ (s.engine e).queue.length) then best
    else match best with
      | none => some e
      | some b => if (s.engine e).queue.length < (s.engine b).queue.length then some e else best) none

/-- A job placed, or held while every queue is full. -/
def State.placeOne (s : State) (j : ArmJob) : State :=
  match s.pickEngine with
  | some e => s.modEngine e fun x => { x with queue := x.queue ++ [j] }
  | none => { s with arm := { s.arm with backlog := s.arm.backlog ++ [j] } }

/-- The queue of a fenced Armature engine moves to the other engines, each job to the shortest queue; with no other engine in
service it stays (R375, R389). -/
def State.moveQueue (s : State) (e : Nat) : State :=
  if (List.range 4).all fun k => k == e || (s.engine k).fenced then s
  else (s.engine e).queue.foldl (fun s j => s.placeOne j) (s.modEngine e fun x => { x with queue := [] })

/-- An Armature engine is fenced, at once when idle, else after its routine's END (R429, R389). -/
def State.fenceEngine (s : State) (e : Nat) : State :=
  if (s.engine e).job.isSome then s.modEngine e fun x => { x with fenceDue := true }
  else ((s.modEngine e fun x => { x with fenced := true, fenceDue := false }).moveQueue e).note srcArmEngineFenced e 0

/-! ## Reactions -/

def reactRetry : Nat := 1
def reactRetire : Nat := 2
def reactFence : Nat := 3
def reactIsolate : Nat := 4
def reactWithheld : Nat := 7

/-- The recovery action of RETRY (R424, R439, R389). -/
def State.retryAction (s : State) (src : Nat) (detail : BitVec 64) : State :=
  if src = srcEccUe 7 ∨ src = srcEccUe 8 then
    { s with rules.stream := (.staging, .rewrite detail) :: s.rules.stream }
  else if src = srcEccUe 13 then { s with faults.poisoned := s.faults.poisoned.filter (· != detail) }
  else if src = srcArmCsUe then
    { s with arm.storePoison := s.arm.storePoison.filter (· != fld detail 31 0) }
  else s

/-- RETIRE of the unit that a source names (R425, R439, R258, R232); `none` when a limit withholds it. -/
def State.retireAction (s : State) (src inst : Nat) : Option State :=
  if src = srcEccUe 0 then
    if s.mayRetireBank (inst / 32) (inst % 32) then
      some (s.schedule [objUnit inst] (.bankDetach (inst / 32) (inst % 32))) else none
  else if src = srcEccUe 4 then if s.maySpare 0 inst then some (s.startSpare 0 inst false) else none
  else if src = srcEccUe 5 then if s.maySpare 1 inst then some (s.startSpare 1 inst false) else none
  else if src = srcEccUe 6 then if s.maySpare 2 inst then some (s.startSpare 2 inst false) else none
  else if src = srcEccUe 14 then
    if s.mayRetirePipe inst then some (s.schedule [objPipe inst] (.pipeRetire inst)) else none
  else if src = srcTrellisUe then
    let e := Element.channel (inst / 32) (inst / 16 % 2) (inst % 16)
    if s.mayRetire e then some (s.schedule [elemObj e] (.elemStop e 256)) else none
  else if src = srcDoubleFree ∨ src = srcForeignFree ∨ src = srcCellStatePoison then
    if s.mayRetire (.partition inst) then some (s.schedule [objPart inst] (.elemStop (.partition inst) 256)) else none
  else none

/-- FENCE of the unit that a source names (R429, R101, R389, R439). -/
def State.fenceAction (s : State) (src inst : Nat) : State :=
  if src = srcCipherMismatchRepeat then s.fenceCipher inst
  else if src = srcLaMismatchRepeat then s.fenceCipher 256
  else if src = srcArmRegUe then s.fenceEngine inst
  else if src = srcEccUe 7 ∨ src = srcEccUe 8 then s.schedule [objUnit (2 ^ 20 + inst)] (.replicaFence inst)
  else s

/-- ISOLATE (R430): the device leaves forwarding at the boundary; DEVICE_ISOLATED in the tick of the decision. -/
def State.isolateAction (s : State) : State :=
  (s.schedule [objDevice 0] .isolate).note srcDeviceIsolated 0 0

/-- A reaction and a command on one unit collide in one clock; on a Trellis element in one tick (R255, R422). -/
def collides (u : UnitRef) (now stamp : Nat) : Bool :=
  match u with | .trellis _ => stamp / 2 == now / 2 | _ => stamp == now

/-- A command on a unit has been accepted in this clock. -/
def State.noteUnit (s : State) (u : UnitRef) (op : Nat) (h : Hdr) : State :=
  { s with cmd.unitCmds := { unit := u, stamp := s.cycleStamp, hdr := h, op := op }
                             :: s.cmd.unitCmds.filter fun x => x.stamp / 2 == s.tickStamp }

/-- A change that a command of opcode `op` on the unit makes. -/
def Change.onUnit (c : Change) (op : Nat) (u : UnitRef) : Bool :=
  match c, u with
  | .elemStop x _, .trellis e => op == 0x0660 && x == e
  | .elemRestore x, .trellis e => (op == 0x0661 || op == 0x0B0A) && x == e
  | .pipeRetire x, .pipe g => op == 0x0B08 && x == g
  | .pipeRestore x, .pipe g => op == 0x0B0A && x == g
  | .bankDetach p b, .partBank q c => op == 0x0B08 && p == q && b == c
  | .bankRestore p b, .partBank q c => op == 0x0B0A && p == q && b == c
  | .sliceFence x, .slice n => op == 0x0B09 && x == n
  | .replicaFence x, .replica k => op == 0x0B09 && x == k
  | .unitUnfence x, v => op == 0x0B0A && x == v
  | _, _ => false

/-- A copy of a bank that the command has just started. -/
def SpareJob.onUnit (j : SpareJob) (u : UnitRef) : Bool :=
  match u with | .tableBank st b => j.store == st && j.bank == b && j.copied == 0 | _ => false

/-- A command on the unit accepted before a reaction of the same clock was decided is refused after all: what it has begun goes, and
its reply, which leaves the device at the tick's end, says STATE_CONFLICT (R18, R255, R422). -/
def State.cancelUnit (s : State) (u : UnitRef) : State :=
  match s.cmd.unitCmds.find? fun x => x.unit == u && collides u s.cycleStamp x.stamp with
  | none => s
  | some x =>
    let h := x.hdr
    { s with changes := s.changes.filter fun c => !c.change.onUnit x.op u
             faults.spareJobs := s.faults.spareJobs.filter fun j => !j.onUnit u
             cmd.unitCmds := s.cmd.unitCmds.filter (· != x)
             cmd.out.replies := s.cmd.out.replies.map fun r =>
               if r.origin = h.origin ∧ r.opcode = x.op ∧ r.tag = h.tag ∧ r.status ≤ stOkAdjusted then
                 { r with status := stStateConflict, detail := 0, result := 0 }
               else r }

/-- The reaction `r` applied for a raise of a source, and the code it is logged with (R418, R422). -/
def State.applyReaction (s : State) (r src inst : Nat) (detail : BitVec 64) : State × Nat :=
  if r = reactIsolate then (s.isolateAction, reactIsolate)
  else if r = reactRetry then (s.retryAction src detail, reactRetry)
  else if r = reactFence then (s.fenceAction src inst, reactFence)
  else if r = reactRetire then
    match s.retireAction src inst with
    | some t => (t, reactRetire)
    | none => (s, reactWithheld)
  else (s, 0)

/-! ## Permanence (R423) -/

def instKey (src inst : Nat) : Nat := src * 2 ^ 32 + inst

/-- The raise is counted for its instance; the mark says that it completes COUNT raises within WINDOW_MS and that the
instance was not permanent before. -/
def State.countRaise (s : State) (src inst : Nat) : State × Bool :=
  let e := s.react src
  let f := s.faultInst (instKey src inst)
  let st := (s.cycleStamp :: f.stamps).take e.count
  let full := decide (st.length = e.count) &&
    decide (s.cycleStamp - (st.getLast?).getD 0 ≤ clkMs e.windowMs)
  (s.putFaultInst (instKey src inst) { stamps := st, permanent := f.permanent || full, lastCounted := s.now },
    full && !f.permanent)

/-- The stronger of two reactions on one unit in one clock has already been applied (R422). -/
def State.outdone (s : State) (u : UnitRef) (r : Nat) : Bool :=
  s.faults.decided.any fun d => d.1 == u && d.2.1 == s.cycleStamp && decide (r ≤ d.2.2)

/-- The unit a source's reaction acts on. -/
def reactUnit (src inst : Nat) : Option UnitRef :=
  if src = srcEccUe 0 then some (.partBank (inst / 32) (inst % 32))
  else if src = srcEccUe 4 then some (.tableBank 0 inst)
  else if src = srcEccUe 5 then some (.tableBank 1 inst)
  else if src = srcEccUe 6 then some (.tableBank 2 inst)
  else if src = srcEccUe 7 ∨ src = srcEccUe 8 then some (.replica inst)
  else if src = srcEccUe 14 then some (.pipe inst)
  else if src = srcTrellisUe then some (.trellis (.channel (inst / 32) (inst / 16 % 2) (inst % 16)))
  else if src = srcDoubleFree ∨ src = srcForeignFree ∨ src = srcCellStatePoison then some (.trellis (.partition inst))
  else if src = srcCipherMismatchRepeat then some (.lineEngine inst)
  else if src = srcLaMismatchRepeat then some .lookaside
  else if src = srcArmRegUe then some (.armEngine inst)
  else none

/-- The reaction decided for a raise: when it acts (R422), whether a stronger one has acted in the clock, its effect. -/
def State.reactTo (s : State) (src inst : Nat) (detail : BitVec 64) (declared : Bool) : State × Nat :=
  let r := (s.react src).reaction
  let acts := r == reactRetry || r == reactIsolate || ((r == reactRetire || r == reactFence) && (!srcPerm src || declared))
  if !acts then (s, 0)
  else
    match reactUnit src inst with
    | none => s.applyReaction r src inst detail
    | some u =>
      if s.outdone u r then (s, if s.outdone u (r + 1) then reactWithheld else r)
      else
        let p := (s.cancelUnit u).applyReaction r src inst detail
        ({ p.1 with faults.decided := (u, s.cycleStamp, r) :: p.1.faults.decided.filter (·.2.1 / 2 == s.tickStamp) }, p.2)

/-- A raise of a source (R417 to R424): permanence, reaction, event record, log, permanence event. Lane sources count in
their own chapter's way (R50). -/
def State.raise (s : State) (src inst : Nat) (detail : BitVec 64) : State :=
  if s.masked src then s
  else
    let p := if srcPerm src && src / 32 != 1 then s.countRaise src inst else (s, false)
    let q := p.1.reactTo src inst detail p.2
    let t := q.1.raiseBase src (srcSeverity src) inst detail false p.2 q.2
    if p.2 then
      let ev := permanenceEvent src
      t.note ev inst (if ev = srcFaultPermanent then BitVec.ofNat 64 src else 0)
    else t

/-- A reaction on the unit was decided in this clock, or tick (R255, R422). -/
def State.reactedNow (s : State) (u : UnitRef) : Bool :=
  s.faults.decided.any fun d => d.1 == u && collides u s.cycleStamp d.2.1

/-- A raise at most once per epoch for its instance. -/
def State.raiseOnce (s : State) (src inst : Nat) (detail : BitVec 64) : State :=
  let k := src * 2 ^ 32 + inst
  if s.onceEpoch k = some s.clock.epoch then s else (s.putOnceEpoch k (some s.clock.epoch)).raise src inst detail

/-- Permanence and stamps of an instance cleared (R423). -/
def State.clearPermanence (s : State) (src inst : Nat) : State := s.putFaultInst (instKey src inst) FaultInst.init

/-! ## ECC -/

/-- ECC_CE and ECC_UE of array class `x`, each counted (R439, R440). -/
def State.eccCorrected (s : State) (x inst : Nat) (addr : BitVec 64) : State :=
  (s.bump .eccCorrected x).raise (srcEccCe x) inst addr

def State.eccUncorrected (s : State) (x inst : Nat) (addr : BitVec 64) : State :=
  (s.bump .eccUncorrected x).raise (srcEccUe x) inst addr

end Sys2Proof.Machine
end

