-- ==== Sys2Proof/Machine/Rule.lean ====
section
/-! DEFINITION. What the rules of one Slait command answer (step 9 of R348, spec/14_commands.md), and a command as the
command unit sees it. -/

namespace Sys2Proof.Machine

/-- Bytes of one value of a longer result: one for ECHO, LA_CRYPT and a report, four for EYE_SCAN_READ, else eight (DESIGN
CHOICE, log 16). -/
def valueBytes (op : Nat) : Nat := if op = 0x010A ∨ op = 0x0811 ∨ op = 0x0D0B then 1 else if op = 0x0305 then 4 else 8

/-- Bytes of a longer result. -/
def resultBytes (op n : Nat) : Nat := valueBytes op * n

/-- The outcome of a command's own rules on a state. -/
inductive Rule where
  /-- refused: status, detail, RESULT, LOGGED_ADDRESS -/
  | refuse (status detail : Nat) (result logged : BitVec 64)
  /-- executed: the state it leaves, status, detail, RESULT, and the values of the longer result -/
  | done (t : State) (status detail : Nat) (result : BitVec 64) (payload : List Nat)
  /-- accepted as a change of these objects at an epoch boundary (R19 to R21): the state at acceptance, and the changes -/
  | change (objs : List (Nat × Nat)) (t : State) (c : List Change)
  /-- taken, its reply to come from a later event: the state it leaves, and the reply bytes it may need -/
  | held (t : State) (need : Nat)

/-- A Slait command with its operands: opcode, whether it is a read command (R353), the epoch it names (0 for none), the
fence check of step 8, the bytes of its opcode and parameters (R474), its form as a mirrored command (R400), and its
rules; `most` is the bytes of the largest result that its parameters allow, where that may be more than what it returns
(R340); `params` are the bytes of its parameters, and `lenOk` says that they lie within the parameter size of the opcode (step 3 of
R348). -/
structure Cmd where
  op : Nat
  isRead : Bool
  target : Nat
  fenced : State → Bool
  digest : List Byte
  mirror : Option Mirrored
  rule : Hdr → State → Rule
  most : Nat := 0
  params : List Byte := []
  lenOk : Bool := true

/-- A read command (R353): no digest, not mirrored. -/
def Cmd.get {α : Type} (op : Nat) (params : α) (rule : Hdr → State → Rule) : Cmd :=
  { op := op, isRead := true, target := 0, fenced := fun _ => false, digest := [], mirror := none, rule := rule
    params := Config.bytesOf params }

/-- OPCODE and the parameters of a command, as CONFIG_DIGEST covers them (R474). -/
def commandBytes {α : Type} (op : Nat) (params : α) : List Byte := beBytes 2 op ++ Config.bytesOf params

/-- A command that changes something on this device alone. -/
def Cmd.set {α : Type} (op : Nat) (params : α) (rule : Hdr → State → Rule) : Cmd :=
  { op := op, isRead := false, target := 0, fenced := fun _ => false, digest := commandBytes op params
    mirror := none, rule := rule, params := Config.bytesOf params }

/-- The command with the bytes of all its parameters, where its digest covers fewer (R354, R474). -/
def Cmd.carry {α : Type} (c : Cmd) (params : α) : Cmd := { c with params := Config.bytesOf params }

/-- A statistics command: a read command where CLEAR is clear (R353). -/
def Cmd.stats {α : Type} (op : Nat) (clear : Bool) (params : α) (rule : Hdr → State → Rule) : Cmd :=
  { op := op, isRead := !clear, target := 0, fenced := fun _ => false, digest := commandBytes op params
    mirror := none, rule := rule, params := Config.bytesOf params }

/-- The parameters that a mirrored command's digest covers: key material and seeds as zeros (R474). -/
def Mirrored.clean (m : Mirrored) : Mirrored :=
  match m with
  | .tableCreate t r => .tableCreate t { r with seed0 := 0, seed1 := 0 }
  | _ => m

/-- A mirrored command (R400). -/
def Cmd.mirrored (op : Nat) (m : Mirrored) (rule : Hdr → State → Rule) : Cmd :=
  { op := op, isRead := false, target := 0, fenced := fun _ => false, digest := commandBytes op m.clean
    mirror := some m, rule := rule, params := Config.bytesOf m }

/-- The command with its fence check (step 8 of R348). -/
def Cmd.fence (c : Cmd) (f : State → Bool) : Cmd := { c with fenced := f }

/-- The command with the largest result that its parameters allow, in values (R340). -/
def Cmd.upTo (c : Cmd) (n : Nat) : Cmd := { c with most := resultBytes c.op n }

/-- Bytes that the reply buffer must have for `n` values returned (R340). -/
def Cmd.replyNeed (c : Cmd) (n : Nat) : Nat := max (resultBytes c.op n) c.most

/-- OK with no result. -/
def Rule.ok (t : State) : Rule := .done t stOk 0 0 []

/-- OK with a RESULT. -/
def Rule.val (t : State) (r : Nat) : Rule := .done t stOk 0 (BitVec.ofNat 64 r) []

/-- OK with a longer result. -/
def Rule.reply (t : State) (payload : List Nat) : Rule := .done t stOk 0 0 payload

/-- A change of `objs` at the boundary of R20 and R21, its reply the effective epoch. -/
def Rule.at (objs : List (Nat × Nat)) (t : State) (c : List Change) : Rule := .change objs t c

def Rule.access (n : Nat) : Rule := .refuse stAccessViolation 0 0 (BitVec.ofNat 64 n)
def Rule.param : Rule := .refuse stBadParam 0 0 0
def Rule.conflict : Rule := .refuse stStateConflict 0 0 0
def Rule.missing : Rule := .refuse stNotFound 0 0 0
def Rule.busy : Rule := .refuse stBusy 0 0 0
def Rule.lockedR : Rule := .refuse stLocked 0 0 0
def Rule.full : Rule := .refuse stNoSpace 0 0 0
def Rule.auth : Rule := .refuse stAuthFailed 0 0 0
def Rule.poisoned (addr : BitVec 64) : Rule := .refuse stPoisoned 0 0 addr

/-- A check of the rules: the refusal where it fails, else the rest. -/
def Rule.need (ok : Bool) (no : Rule) (rest : Rule) : Rule := if ok then rest else no

/-- ACCESS_VIOLATION for the first number out of range, else the rest. -/
def needRange (r : Option Nat) (rest : Rule) : Rule := match r with | some n => .access n | none => rest

/-- A value of `n` 64-bit words, most significant first. -/
def words (n v : Nat) : List Nat :=
  match n with
  | 0 => []
  | n + 1 => (v >>> (64 * n)) % 2 ^ 64 :: words n v

/-- The host function a command came from; 0 for another origin. -/
def hdrFunc (h : Hdr) : Nat := match h.origin with | .host _ f _ => f | _ => 0

/-- The sender of R350: host ring number, or 64 + sending device; the Colonnade stands as 256. -/
def hdrSender (h : Hdr) : Nat := match h.origin with | .host r _ _ => r | .slait d => 64 + d | .colonnade _ => 256

/-- Counters of a statistics command as values. -/
def State.ctrVals (s : State) (l : List (Ctr × Nat)) : List Nat := l.map fun e => s.ctrVal e.1 e.2

/-- Counters as a CLEAR of the present clock returns them. -/
def State.ctrsBefore (s : State) (l : List (Ctr × Nat)) : List Nat := l.map fun e => s.ctrBefore e.1 e.2

/-- A statistics command: it returns the counters, and CLEAR clears those it returned (R47). -/
def statsRule (s : State) (l : List (Ctr × Nat)) (gauges : List Nat) (clear : Bool) : Rule :=
  if clear then .done (s.clearCtrs l) stOk 0 0 (s.ctrsBefore l ++ gauges) else .done s stOk 0 0 (s.ctrVals l ++ gauges)

end Sys2Proof.Machine
end

