-- ==== Sys2Proof/Machine/BufferOps.lean ====
section
/-! DEFINITION. Cells, pools, charges and frees (R209 to R230, spec/09_buffer.md), and the end of copies and packets
(R193, R252 of spec/10_trellis.md, R311 of spec/12_egress.md). -/

namespace Sys2Proof.Machine

/-! ## Cells (R209) -/

def cellPart (n : Nat) : Nat := n / 49152
def cellBank (n : Nat) : Nat := n % 49152 % 32
def cellRow (n : Nat) : Nat := n % 49152 / 32
def cellNo (p b r : Nat) : Nat := p * 49152 + r * 32 + b

/-- Owner classes of R214. -/
def ownShared : Nat := 1
def ownHeadroom : Nat := 2
def ownCloister : Nat := 3
def ownCpu : Nat := 4
def ownTelemetry : Nat := 5
def ownColonnade : Nat := 6

/-- The entry of R210 as its 16 bits. -/
def CellEntry.bits (e : CellEntry) : Nat := b2n e.alloc <<< 15 ||| e.owner <<< 12 ||| b2n e.mcast <<< 11 ||| e.ref

/-! ## Counts with their peaks (R217, R231) -/

def gaugeQueue : Nat := 0
def gaugePool : Nat := 1
def gaugePg : Nat := 2
def gaugeHead : Nat := 3
def gaugeFreeCells : Nat := 4
def gaugeFreeQueue : Nat := 5
def gaugeQuarantined : Nat := 6

def peakKey (gauge i : Nat) : Nat := gauge * 2 ^ 32 + i

def State.raisePeak (s : State) (gauge i v : Nat) : State := s.modPeak (peakKey gauge i) fun p => max p v

/-- A gauge as it stands, with its peak since the last CLEAR (R231). -/
def State.gauge (s : State) (gauge i v : Nat) : List Nat := [v, max v (s.peak (peakKey gauge i))]

def State.cq (s : State) (q : Nat) : Nat := s.pk.now.cq.get 0 q
def State.poolUsed (s : State) (o : Nat) : Nat := s.pk.now.pool.get 0 o
def State.pgCells (s : State) (k : Nat) : Nat := s.pk.now.pg.get 0 k
def State.headCells (s : State) (k : Nat) : Nat := s.pk.now.head.get 0 k

def State.setNow (s : State) (c : Counts) : State := { s with pk := { s.pk with now := c } }

def State.putCq (s : State) (q v : Nat) : State :=
  (s.setNow { s.pk.now with cq := s.pk.now.cq.set 0 q v }).raisePeak gaugeQueue q v

def State.putPoolUsed (s : State) (o v : Nat) : State :=
  (s.setNow { s.pk.now with pool := s.pk.now.pool.set 0 o v }).raisePeak gaugePool o v

def State.putPgCells (s : State) (k v : Nat) : State :=
  (s.setNow { s.pk.now with pg := s.pk.now.pg.set 0 k v }).raisePeak gaugePg k v

def State.putHeadCells (s : State) (k v : Nat) : State :=
  (s.setNow { s.pk.now with head := s.pk.now.head.set 0 k v }).raisePeak gaugeHead k v

/-! ## Packets and copies -/

def State.modPktD (s : State) (pid : Nat) (f : Pkt → Pkt) : State :=
  match s.pkt pid with
  | some p => s.putPkt pid (some (f p))
  | none => s

def State.modCopyD (s : State) (cid : Nat) (f : Copy → Copy) : State :=
  match s.copy cid with
  | some c => s.putCopy cid (some (f c))
  | none => s

/-- Copies of a packet that are still in flight. -/
def State.liveCopies (s : State) (p : Pkt) : List Nat := p.copies.filter fun c => (s.copy c).isSome

/-- Cells that a frame takes (R209). -/
def cellCount (len : Nat) : Nat := (len + 255) / 256

/-- A copy has begun transmission (R223, R245, R253): a transmit MAC is sending it. -/
def Copy.begun (c : Copy) : Bool := c.phase == .sending

/-- The bytes that protection adds to a frame: SecTAG and ICV (R89). -/
def SecTx.extra (x : SecTx) : Nat := x.tag.length + 16

/-- The bytes that protection adds to the frame under way. -/
def Copy.secExtra (c : Copy) : Nat := (c.sec.map SecTx.extra).getD 0

/-! ## Contents of the cells (R209, R212) -/

/-- A free cell's contents as reset leaves them: the number of the next free cell of its bank, or its own at the end of the
list (log 12), and zeros. -/
def cellInit (n : Nat) : List Byte := beBytes 4 (if cellRow n < 1535 then n + 32 else n) ++ List.replicate 252 0

def State.cellData (s : State) (n : Nat) : List Byte := s.pk.data.get (cellInit n) n
def State.putCellData (s : State) (n : Nat) (v : List Byte) : State := { s with pk.data := s.pk.data.set (cellInit n) n v }

/-- The 256 bytes of cell `idx` of a frame, zeros beyond its end (R209). -/
def cellBytes (f : List Byte) (idx : Nat) : List Byte :=
  let l := (f.drop (256 * idx)).take 256
  l ++ List.replicate (256 - l.length) 0

/-! ## Bank cycles (R14, R212): each event takes what the events before it in the tick have left (log 12) -/

/-- Cycles of the present tick that a bank of a partition has left. -/
def State.cyclesLeft (s : State) (part bank : Nat) : Nat :=
  let u := s.partCycles (part * 32 + bank)
  if u.1 = s.tickStamp + 1 then 2 - u.2 else 2

def State.useCycle (s : State) (part bank : Nat) : State :=
  s.putPartCycles (part * 32 + bank) (s.tickStamp + 1, 3 - s.cyclesLeft part bank)

def State.useCellCycle (s : State) (n : Nat) : State := s.useCycle (cellPart n) (cellBank n)

/-! ## Free lists and allocation (R212, R215) -/

/-- Rows 0 to 7 of each bank stand in its head cache at reset (log 12). -/
def Partition.headRows (p : Partition) (b : Nat) : List Nat := p.heads.get (List.range 8) b
def Partition.freshRow (p : Partition) (b : Nat) : Nat := p.fresh.get 8 b
def Partition.freedRows (p : Partition) (b : Nat) : List Nat := p.freed.get [] b
def Partition.usedBy (p : Partition) (o : Nat) : Nat := p.used.get 0 o

def Partition.putHeads (p : Partition) (b : Nat) (l : List Nat) : Partition := { p with heads := p.heads.set (List.range 8) b l }

/-- The bank's list is being rebuilt. -/
def State.rebuilds (s : State) (p b : Nat) : Bool := (s.part p).rebuilding.any fun e => e.1 == b

/-- Cells on a bank's list, head cache apart: while it is being rebuilt, those relinked and those freed since (R230). -/
def State.listed (s : State) (p b : Nat) : Nat := ((s.part p).freedRows b).length + (1536 - (s.part p).freshRow b)

/-- A pop may take a cell from the bank's list: it is not being rebuilt (R230). -/
def State.mayPop (s : State) (p b : Nat) : Bool := !s.rebuilds p b && decide (0 < s.listed p b)

/-- Cells may be taken from the bank: it is live (R427). -/
def State.bankAvail (s : State) (p b : Nat) : Bool := s.partBank (p * 32 + b) == .live

def State.bankFree (s : State) (p b : Nat) : Nat := ((s.part p).headRows b).length + s.listed p b

/-- Free cells of a partition that count as free (R212, R230, R253, R427). -/
def State.freeCells (s : State) (p : Nat) : Nat :=
  if (s.part p).life == .retired || (s.part p).life == .restoring then 0
  else ((List.range 32).map fun b => if s.bankAvail p b then s.bankFree p b else 0).sum

/-- A pool's share of a partition (R215). -/
def State.share (s : State) (o : Nat) : Nat := (s.pool o).size / 16

/-- Cells held back in partition `p` for the reserved pools (R215). -/
def State.heldBack (s : State) (p : Nat) : Nat :=
  ([2, 3, 4, 5, 6].map fun o => s.share o - (s.part p).usedBy o).sum

/-- An allocation request of class `o` is granted in partition `p` (R215). -/
def State.grantable (s : State) (p o : Nat) : Bool :=
  if o = ownShared then decide (s.heldBack p < s.freeCells p)
  else decide ((s.part p).usedBy o < s.share o) && decide (0 < s.freeCells p)

/-- The row that a pop of the bank's list yields, and the list after it: rows freed last come first, then those never
used in row order (log 12). -/
def Partition.popRow (p : Partition) (b : Nat) : Nat × Partition :=
  match p.freedRows b with
  | r :: rest => (r, { p with freed := p.freed.set [] b rest })
  | [] => (p.freshRow b, { p with fresh := p.fresh.set 8 b (p.freshRow b + 1) })

/-- The next bank in rotation with a cycle for the write whose head cache holds a cell; failing that, one whose list does, with a
cycle for the pop too (R14, R212). -/
def State.pickBank (s : State) (p : Nat) : Option Nat :=
  let banks := ((List.range 32).map fun i => ((s.part p).nextBank + i) % 32).filter fun b =>
    s.bankAvail p b && decide (0 < s.cyclesLeft p b)
  (banks.find? fun b => !((s.part p).headRows b).isEmpty).or
    (banks.find? fun b => s.mayPop p b && decide (2 ≤ s.cyclesLeft p b))

/-- A cell taken from partition `p`; none where no bank that holds one has a cycle left (R14, R212). -/
def State.popCell (s : State) (p : Nat) : Option (Nat × State) :=
  match s.pickBank p with
  | none => none
  | some b =>
    let q := s.part p
    match q.headRows b with
    | r :: rest => some (cellNo p b r, s.putPart p { q.putHeads b rest with nextBank := (b + 1) % 32 })
    | [] => some (cellNo p b (q.popRow b).1, (s.useCycle p b).putPart p { (q.popRow b).2 with nextBank := (b + 1) % 32 })

/-- A next pointer found bad: the bank's list is popped no more until it is rebuilt; the new list is empty (R230). -/
def State.startRebuild (s : State) (p b : Nat) : State :=
  if s.rebuilds p b then s
  else s.modPart p fun q =>
    { q with rebuilding := q.rebuilding ++ [(b, 0)], fresh := q.fresh.set 8 b 1536, freed := q.freed.set [] b [] }

/-- Pops that refill the head cache of a bank, `fuel` at most (step 4 of R212). A cell whose first word is poisoned gives a bad
next pointer (R230). -/
def State.refillBank (s : State) (p : Nat) (fuel b : Nat) : State :=
  match fuel with
  | 0 => s
  | fuel + 1 =>
    if s.bankAvail p b && decide (((s.part p).headRows b).length < 8) && s.mayPop p b && decide (0 < s.cyclesLeft p b)
    then
      let r := (s.part p).popRow b
      let n := cellNo p b r.1
      let s := s.useCycle p b
      if s.faults.poisoned.contains (faultAddr 5 p (n * 32)) then (s.startRebuild p b).raise srcFreeListRebuild p (faultAddr 5 p (n * 32))
      else (s.putPart p (r.2.putHeads b ((s.part p).headRows b ++ [r.1]))).refillBank p fuel b
    else s

/-- Every head cache that is not as reset left it is refilled from its bank's list, as far as the tick's cycles go. -/
def State.refillHeads (s : State) (p : Nat) : State := ((s.part p).heads.map fun e => e.1).foldl (fun s b => s.refillBank p 2 b) s

/-- A lossless packet of the line: queue limits do not apply to it, and its cells wait for the pool (R219, R223 row 3). One that
draws on a reserved pool never waits for it (R227). -/
def Pkt.waits (p : Pkt) : Bool := p.lossless && p.pool == ownShared

/-- The class a cell of the packet is charged to at its write (R214, R220). -/
def State.cellClass (s : State) (p : Pkt) : Nat :=
  if p.lossless && p.pool == ownShared then
    let k := p.port * 8 + p.pgPrio
    if s.pgCells k < (s.pg k).xoff then ownShared else ownHeadroom
  else p.pool

/-- The port-priority a packet's cells count under: none for a lossy packet (R217). -/
def Pkt.pgKey (p : Pkt) : Option Nat := if p.lossless then some (p.port * 8 + p.pgPrio) else none

/-- Charges of a newly written cell: pool, partition, port-priority, headroom (R217). -/
def State.chargeCell (s : State) (part cls : Nat) (pg : Option Nat) : State :=
  let s := s.putPoolUsed cls (s.poolUsed cls + 1)
  let s := s.modPart part fun q => { q with used := q.used.set 0 cls (q.usedBy cls + 1) }
  match pg with
  | none => s
  | some k =>
    let s := s.putPgCells k (s.pgCells k + 1)
    if cls = ownHeadroom then s.putHeadCells k (s.headCells k + 1) else s

/-- Charges that end as a free lands (R217). -/
def State.dischargeCell (s : State) (part cls : Nat) (pg : Option Nat) : State :=
  let s := s.putPoolUsed cls (s.poolUsed cls - 1)
  let s := s.modPart part fun q => { q with used := q.used.set 0 cls (q.usedBy cls - 1) }
  match pg with
  | none => s
  | some k =>
    let s := s.putPgCells k (s.pgCells k - 1)
    if cls = ownHeadroom then s.putHeadCells k (s.headCells k - 1) else s

/-! ## Frees (R213, R228, R229) -/

def freeStageB : Nat := 0
def freeDrop : Nat := 1
def freeRollback : Nat := 2
def freePushOut : Nat := 3
def freeFlush : Nat := 4
def freeTimeout : Nat := 5

def freeBelvedere : Nat := 6

/-- A free placed in its partition's free queue. -/
def State.queueFree (s : State) (cell owner source slice : Nat) (pg : Option Nat) : State :=
  let s := s.modPart (cellPart cell) fun q =>
    { q with queue := q.queue ++
      [{ cell := cell, owner := owner, source := source, slice := slice, pg := pg, queuedAt := s.tickStamp,
          waited := false }] }
  s.raisePeak gaugeFreeQueue (cellPart cell) (s.part (cellPart cell)).queue.length

/-- The detail of a free violation (R229). -/
def freeDetail (kind : Nat) (f : FreeReq) (e : CellEntry) : BitVec 64 :=
  BitVec.ofNat 64 (kind <<< 62 ||| f.source <<< 59 ||| f.slice <<< 55 ||| f.owner <<< 52 ||| e.owner <<< 49
    ||| b2n e.alloc <<< 48 ||| b2n e.mcast <<< 47 ||| e.ref <<< 36 ||| f.cell)

/-- A release or free of a foreign owner class is refused (R228). -/
def State.foreignFree (s : State) (f : FreeReq) : State :=
  (s.bump .bufForeignFree (cellPart f.cell)).raise srcForeignFree (cellPart f.cell) (freeDetail 2 f (s.cellAt f.cell))

/-- One copy's release of a cell: a decrement of REFCNT, checked at once, or the free (R211, R228). -/
def State.releaseCell (s : State) (cell owner source slice : Nat) (pg : Option Nat) : State :=
  let e := s.cellAt cell
  if e.alloc && !e.quarantined && e.mcast && decide (1 < e.ref) then
    if e.owner = owner then s.putCellAt cell { e with ref := e.ref - 1 }
    else s.foreignFree { cell := cell, owner := owner, source := source, slice := slice, pg := pg, queuedAt := s.tickStamp
                         waited := false }
  else s.queueFree cell owner source slice pg

/-- A freed cell's first word: the number of the next free cell of its bank, and zeros (R212). The write of that word clears its
poison (R434). -/
def State.linkCell (s : State) (n : Nat) : State :=
  let s := { s with faults.poisoned := s.faults.poisoned.filter (· != faultAddr 5 (cellPart n) (n * 32)) }
  let q := s.part (cellPart n)
  let b := cellBank n
  let next := match (q.freedRows b).head? with
    | some r => cellNo (cellPart n) b r
    | none => if q.freshRow b < 1536 then cellNo (cellPart n) b (q.freshRow b) else n
  s.putCellData n (beBytes 4 next ++ List.replicate 28 0 ++ (s.cellData n).drop 32)

/-- Tick stamp of the last rollback free that landed, kept with the packet whose tag waits for it (R199 step 7). -/
def State.noteLanded (s : State) (cell : Nat) : State :=
  match (s.pk.pkts.keysWhere fun _ x => match x with
      | some p => p.rollStep == 3 && p.rollCells.contains cell
      | none => false).head? with
  | some pid => s.modPkt pid fun x => x.map fun p => { p with resolvedAt := s.tickStamp }
  | none => s

/-- One free lands: its checks (R228, R230), then the push and the end of its charges (R211, R213, R427). -/
def State.landFree (s : State) (f : FreeReq) : State :=
  let e := s.cellAt f.cell
  let p := cellPart f.cell
  let b := cellBank f.cell
  if e.quarantined then s.raise srcCellStatePoison p (freeDetail 3 f e)
  else if !e.alloc || (e.mcast && e.ref == 0) then (s.bump .bufDoubleFree p).raise srcDoubleFree p (freeDetail 1 f e)
  else if e.owner ≠ f.owner then s.foreignFree f
  else
    let s := (s.putCellAt f.cell CellEntry.init).dischargeCell p f.owner f.pg
    let s := (s.useCellCycle f.cell).linkCell f.cell
    let s := if f.source = freeRollback then s.noteLanded f.cell else s
    if s.partBank (p * 32 + b) = .live then
      let s := s.modPart p fun q => { q with freed := q.freed.set [] b (cellRow f.cell :: q.freedRows b) }
      s.raisePeak gaugeFreeCells p (s.freeCells p)
    else s

/-! ## The end of copies and packets -/

/-- Cells of a copy that are written and that it has not released: their numbers in the frame. -/
def Copy.unreleased (c : Copy) (p : Pkt) : List Nat :=
  (List.range p.cells.length).filter fun i =>
    (match p.cells[i]? with | some x => x.written && x.cell.isSome | none => false) && !c.read.contains i

/-- The slice that issues a copy's releases (R229): its egress slice; the packet's ingress slice for a copy that has joined
no queue, and for a CPU queue, which lies in no slice (log 12). -/
def Copy.freeSlice (c : Copy) (p : Pkt) : Nat := if c.port < 1024 ∧ c.phase ≠ .waiting then c.port / 64 else p.pipe / 4

/-- SOURCE of a copy's release: the Belvedere reads the CPU queues (R229). -/
def Copy.freeSource (c : Copy) (source : Nat) : Nat := if c.port = 1024 ∧ source = freeStageB then freeBelvedere else source

/-- `n` cells of a copy charged to C_q no more (R217). -/
def State.uncharge (s : State) (cid n : Nat) : State :=
  match s.copy cid with
  | none => s
  | some c => (s.putCq c.queue (s.cq c.queue - min n c.charged)).putCopy cid (some { c with charged := c.charged - n })

/-- A copy's release of its packet's cells `idxs`, each presenting the owner class its descriptor records (R228, R252). -/
def State.releaseCells (s : State) (cid source : Nat) (idxs : List Nat) : State :=
  match s.copy cid with
  | none => s
  | some c =>
    match s.pkt c.pkt with
    | none => s
    | some p =>
      let s := idxs.foldl (fun s i =>
        match (p.cells[i]?).bind (·.cell) with
        | some n => s.releaseCell n (((p.cells[i]?).map (·.cls)).getD 0) (c.freeSource source) (c.freeSlice p) p.pgKey
        | none => s) s
      s.putCopy cid (some { c with read := c.read ++ idxs })

/-- A copy leaves every list that holds it. -/
def State.unlinkCopy (s : State) (cid : Nat) (c : Copy) : State :=
  let s := s.putQList c.queue ((s.qList c.queue).filter (· != cid))
  let s := s.putOpenList c.port ((s.openList c.port).filter (· != cid))
  let g := c.port / 16
  let s := s.putReleased g ((s.released g).filter (· != cid))
  let s := s.putMacFifo c.port ((s.macFifo c.port).filter (· != cid))
  let s := s.modSlice (c.port / 64) fun x => { x with matched := x.matched.filter fun m => m.2.2.1 != cid }
  if s.sending c.port = some cid then s.putSending c.port none else s

/-- The packet's cells still waiting leave the stage A queues, and no more of them join. -/
def State.unqueuePkt (s : State) (pid : Nat) : State :=
  let s := { s with pk := { s.pk with slices := s.pk.slices.map fun (e : Nat × SliceSt) =>
    (e.1, { e.2 with stageA := e.2.stageA.filter fun x => x.1 != pid }) } }
  s.modPktD pid fun p => { p with queued := p.cells.length }

/-- The packet has no copy left in flight, and is kept for its tag or its verdict alone. -/
def State.ended (s : State) (p : Pkt) : Bool := !p.cloister && (s.liveCopies p).isEmpty && (p.admitted || p.dropped)

/-- Another packet that shares this one's in-flight count: the first pass, the cloister pass made from it, or a packet made from
one of its copies in an egress pipe (R120, R122, R126). -/
def State.partner (s : State) (pid : Nat) (p : Pkt) : Option Nat :=
  (s.pk.pkts.keysWhere fun k x => match x with
    | some q => k != pid && (k == p.origin.getD pid || q.origin == some (p.origin.getD pid)) && !s.ended q
    | none => false).head?

/-- The packet is in flight no more: its version's count falls, or passes to the packet that shares it (R120, R126). -/
def State.uncount (s : State) (pid : Nat) : State :=
  match s.pkt pid with
  | none => s
  | some p =>
    if !p.counted then s
    else
      let t := s.putPkt pid (some { p with counted := false })
      match s.partner pid p with
      | some k => t.modPktD k fun q => { q with counted := true }
      | none => t.modInFlight p.version.toNat (· - 1)

/-- Its receive verdict is still open though it holds no tag (R30): what CONFIRM counts is kept with it (R193, R206). -/
def Pkt.verdictOpen (p : Pkt) : Bool := p.tag.isNone && p.verdict == .none && !p.egressMade

/-- A packet with no copy left: none of its cells waits any longer, the in-flight count of its version falls (R126), and the
packet leaves the device once its tag has returned and its verdict has come. A frame of a transmit ring that was never written whole leaves its ring
here (R365). -/
def State.settlePkt (s : State) (pid : Nat) : State :=
  match s.pkt pid with
  | none => s
  | some p =>
    if p.cloister || !(s.liveCopies p).isEmpty || !(p.admitted || p.dropped) || p.rollStep == 1 || p.rollStep == 2 then s
    else
      let s := if p.cells.all (·.written) then s else s.unqueuePkt pid
      let s := s.uncount pid
      let s := match p.txRing with
        | some r => if p.pass == 0 && (p.cells.isEmpty || p.cells.any (!·.written)) then s.advanceRing (96 + r) else s
        | none => s
      s.putPkt pid (if p.tag.isSome || p.verdictOpen then some { p with counted := false, txRing := none, queued := p.cells.length } else none)

/-- A shaper that is on (R293). -/
def Shaper.rate (x : Shaper) : Nat := fld x.cfg 63 43
def Shaper.burst (x : Shaper) : Nat := fld x.cfg 42 18

/-- One byte in the units of a level. -/
def levelByte : Int := 25 * 2 ^ 24

/-- A shaper's level changed by `n` bytes; one that is off is left alone (R294). -/
def Shaper.move (x : Shaper) (n : Int) : Shaper := if x.rate = 0 then x else { x with level := x.level + n * levelByte }

/-- Both shapers of a queue and its port moved by `n` bytes. -/
def State.moveShapers (s : State) (q port : Nat) (n : Int) : State :=
  (s.modEqueue q fun x => { x with shaper := x.shaper.move n }).modEport port fun x => { x with shaper := x.shaper.move n }

/-- A frame handed over has ended: both shapers are credited with what was not sent (R294). -/
def State.credit (s : State) (cid sent : Nat) : State :=
  match s.copy cid with
  | none => s
  | some c =>
    if c.sched = 0 then s
    else (s.moveShapers c.queue c.port ((c.sched : Int) - sent)).putCopy cid (some { c with sched := 0 })

/-- A record written to the transmit completion ring paired with transmit ring `r`; none where it is disabled (R338). -/
def State.txDone (s : State) (r : Nat) (x : TsRecord) : State :=
  let c := s.hring (160 + r)
  if c.en && !c.full then
    (({ s with cmd.out.txDone := x :: s.cmd.out.txDone }).advanceRing (160 + r)).signalGap (160 + r)
  else s

/-- The transmit time-stamp record of an injected frame: KIND 1 sent, 2 stomped, 3 dropped, with the instant of the stamp: its epoch, tick and domain (R273, R275). -/
def State.txRecord (s : State) (p : Pkt) (port kind ts : Nat) (at_ : Nat × Nat × Nat) : State :=
  match p.txRing with
  | some r =>
    if p.tsReq then
      s.txDone r { ring := r, kind := kind, td := at_.2.2, cookie := p.cookie, port := port, ts := ts, epoch := at_.1
                   tick := at_.2.1 }
    else s
  | none => s

/-- The copy's end unsent is told to the ring that injected it. -/
def State.txDropped (s : State) (cid : Nat) : State :=
  match s.copy cid with
  | none => s
  | some c =>
    match s.pkt c.pkt with
    | some p => if c.kind = .unicast ∨ c.kind = .group then s.txRecord p c.port 3 0 (0, 0, 0) else s
    | none => s

/-- The copy ends: descriptors, charges, records and cells go (R193, R252, R311). -/
def State.endCopy (s : State) (cid source : Nat) : State :=
  match s.copy cid with
  | none => s
  | some c =>
    let idxs := match s.pkt c.pkt with | some p => c.unreleased p | none => []
    let s := (((s.credit cid 0).uncharge cid c.charged).releaseCells cid source idxs).unlinkCopy cid c
    (s.putCopy cid none).settlePkt c.pkt

/-- Steps 5 and 6 of the rollback of the copy's packet are still to come: its cells are theirs to free (R199). -/
def State.awaitsFree (s : State) (c : Copy) : Bool :=
  match s.pkt c.pkt with
  | some p => p.verdict == .rollback && decide (p.rollStep < 3)
  | none => false

/-- The copy leaves its MAC, sent or lost: its cells go with it, or wait for the rollback of its packet (R199, R252). -/
def State.leaveMac (s : State) (cid : Nat) : State :=
  match s.copy cid with
  | none => s
  | some c =>
    if s.awaitsFree c then
      (((s.credit cid 0).uncharge cid c.charged).unlinkCopy cid c).modCopyD cid fun c =>
        { c with phase := .done, held := [], records := 0, frame := [], sched := 0 }
    else s.endCopy cid freeStageB

/-- The copy ends unsent. -/
def State.dropCopy (s : State) (cid source : Nat) : State := (s.txDropped cid).endCopy cid source

/-- The copy ends sent. -/
def State.finishCopy (s : State) (cid : Nat) : State := s.endCopy cid freeStageB

/-- A packet is dropped whole at a decision: each cell written goes to its free queue, its copies end (R193, R223). -/
def State.dropPkt (s : State) (pid source : Nat) : State :=
  match s.pkt pid with
  | none => s
  | some p =>
    let live := s.liveCopies p
    let s := s.putPkt pid (some { p with dropped := true })
    let s := if p.copies.isEmpty then
        let s := if p.cloister then s else s.txRecord p p.port 3 0 (0, 0, 0)
        p.cells.foldl (fun s x =>
          match x.cell with
          | some n => if x.written && !x.freed then s.queueFree n x.cls source (p.pipe / 4) p.pgKey else s
          | none => s) s
      else live.foldl (fun s c => s.dropCopy c source) s
    (s.unqueuePkt pid).settlePkt pid

/-! ## Verdicts (R192, R84) -/

/-- A request whose result its requester waits for, which a counter's update has not. -/
def LookReq.counts (q : LookReq) : Bool := match q.kind with | .counter _ _ => false | _ => true

/-- Replayed results of the packet that its tag still waits for (R192). -/
def State.replaysDue (s : State) (pid : Nat) : Bool :=
  s.tables.reqs.any fun q => decide (q.requester < 64) && q.counts && q.owner == pid && q.replay && !q.old && !q.dead

/-- Every verdict the packet awaits has reached the pipe, from the tick after it was formed on, and every replayed result
has come (R18, R192). -/
def State.verdictsIn (s : State) (pid : Nat) (p : Pkt) : Bool :=
  p.macOk.isSome && (!p.icvWait || p.icvOk.isSome) && decide (p.verdictAt < s.tickStamp) && !s.replaysDue pid

/-- A failed ICV that CHECK lets pass (R84). -/
def Pkt.icvPasses (p : Pkt) : Bool := p.check && !p.eBit

/-- The ICV verdict rolls the packet back. -/
def Pkt.icvFails (p : Pkt) : Bool := p.icvOk == some false && !p.icvPasses

def Pkt.fails (p : Pkt) : Bool := p.macOk == some false || p.icvFails

/-! ## Flushes (R311) -/

/-- The counters of a flushed copy. -/
def State.countFlush (s : State) (c : Copy) (extra : Ctr) : State :=
  let s := s.bump .queueFlushDrop c.queue
  if c.kind = .group then s.bump extra c.port else s

/-- A copy of a packet whose failed verdicts are in: the rollback of this tick removes it (R199). -/
def State.rollsBack (s : State) (cid : Nat) : Bool :=
  match s.copy cid with
  | some c => match s.pkt c.pkt with | some p => s.verdictsIn c.pkt p && p.fails | none => false
  | none => false

/-- The copies of a queue that a flush removes: those queued, and those handed over and not yet released, but for those that a
rollback removes in the same tick. -/
def State.flushable (s : State) (port q : Nat) : List Nat :=
  (s.qList q ++ (s.openList port).filter fun cid =>
    match s.copy cid with | some c => c.queue == q && c.phase == .handed | none => false).filter fun cid => !s.rollsBack cid

/-- One queue flushed; `extra` is the multicast counter of a group copy. -/
def State.flushQueue (s : State) (port q : Nat) (extra : Ctr) : State :=
  (s.flushable port q).foldl (fun s cid =>
    match s.copy cid with
    | some c => (s.countFlush c extra).dropCopy cid freeFlush
    | none => s) s

end Sys2Proof.Machine
end

