-- ==== Sys2Proof/Machine/Geometry.lean ====
section
/-! DEFINITION. Which ports and queues exist, and the records in force with their reset values (R10; R54 to R56 of
spec/03_ports.md; R218 of spec/09_buffer.md; R286 to R290 of spec/12_egress.md). -/

namespace Sys2Proof.Machine

/-! ## Layouts (R54, R55) -/

/-- Lanes from start bit `k` to the next start bit, or to lane 8. -/
def widthAt (mask : BitVec 8) (k : Nat) : Nat :=
  match ((List.range 8).filter fun j => decide (k < j) && bit mask j).head? with
  | some j => j - k
  | none => 8 - k

/-- Start bits of a mask. -/
def starts (mask : BitVec 8) : List Nat := (List.range 8).filter fun k => bit mask k

/-- The width is permitted at the rate (R55). -/
def widthOk (rate w : Nat) : Bool := if rate = 3 then w == 1 || w == 4 else w == 1 || w == 2 || w == 4 || w == 8

/-- A layout meets every condition of R54. -/
def layoutOk (rate : Nat) (mask : BitVec 8) : Bool :=
  decide (rate < 4) && (mask == 0 || bit mask 0) &&
    (starts mask).all fun k => widthOk rate (widthAt mask k) && k % widthAt mask k == 0

/-- A layout with an odd start bit (R286). -/
def hasOddStart (mask : BitVec 8) : Bool := (starts mask).any fun k => k % 2 == 1

/-- Index `p` is the first lane of a port in its octet's layout (R56). -/
def State.isPort (s : State) (p : Nat) : Bool := decide (p < 1024) && bit (s.octet (p / 8)).mask (p % 8)

/-- First lane and width configured, and in use after narrowing (R70). -/
def State.cfgWidth (s : State) (p : Nat) : Nat := widthAt (s.octet (p / 8)).mask (p % 8)

def State.portLanes (s : State) (p : Nat) : Nat × Nat := (s.port p).narrowed.getD (p, s.cfgWidth p)

def State.portRate (s : State) (p : Nat) : Nat := (s.octet (p / 8)).rate

/-- Lanes of a port in use. -/
def State.lanesOf (s : State) (p : Nat) : List Nat :=
  (List.range (s.portLanes p).2).map fun i => (s.portLanes p).1 + i

/-- Lanes of a port's configured layout. -/
def State.cfgLanes (s : State) (p : Nat) : List Nat := (List.range (s.cfgWidth p)).map fun i => p + i

/-- The port that a lane belongs to, if any. -/
def State.portOfLane (s : State) (l : Nat) : Option Nat :=
  let o := l / 8
  ((starts (s.octet o).mask).filter fun k => decide (k ≤ l % 8)).getLast?.map fun k => o * 8 + k

/-- The ports of an octet. -/
def State.octetPorts (s : State) (o : Nat) : List Nat := (starts (s.octet o).mask).map fun k => o * 8 + k

/-- The ports of a slice. -/
def State.slicePorts (s : State) (sl : Nat) : List Nat :=
  ((List.range 8).map fun i => s.octetPorts (sl * 8 + i)).flatten

/-- MAC rate of a lane at a rate code, in units of 25 Gb/s (R55). -/
def laneSpeed (rate : Nat) : Nat := match rate with | 0 => 8 | 1 => 4 | 2 => 2 | _ => 1

/-- MAC rate of a port, in units of 25 Gb/s. -/
def State.macRate (s : State) (p : Nat) : Nat := laneSpeed (s.portRate p) * (s.portLanes p).2

/-! ## Port configuration record (R59) -/

def State.maxFrame (s : State) (p : Nat) : Nat := fld (s.port p).cfg 63 50
/-- Core clocks that `n` bytes take at the port's MAC rate, rounded up. -/
def State.wireClocks (s : State) (p n : Nat) : Nat :=
  let r := 125 * s.macRate p
  (64 * n + r - 1) / r

/-- MAX_FRAME in force at core clock `t`. -/
def State.maxFrameAt (s : State) (p t : Nat) : Nat :=
  match ((s.port p).maxPast.filter fun (e : Nat × Nat) => decide (t < e.2)).getLast? with
  | some e => e.1
  | none => s.maxFrame p

/-- MAX_FRAME of a frame of `len` bytes whose last byte arrives now: the value at its first byte (R60), which lies the
frame's time at the MAC rate back (log 89). -/
def State.maxFrameOf (s : State) (p len : Nat) : Nat := s.maxFrameAt p (s.now - s.wireClocks p len)

def State.flowMode (s : State) (p : Nat) : Nat := fld (s.port p).cfg 49 48
def State.pfcRx (s : State) (p i : Nat) : Bool := bit (s.port p).cfg (40 + i)
def State.pfcTx (s : State) (p i : Nat) : Bool := bit (s.port p).cfg (32 + i)
def State.pauseQuanta (s : State) (p : Nat) : Nat := fld (s.port p).cfg 31 16
def State.debounceDown (s : State) (p : Nat) : Nat := clkUs (10 * fld (s.port p).cfg 15 6)
def State.debounceUp (s : State) (p : Nat) : Nat :=
  match fld (s.port p).cfg 1 0 with | 0 => 0 | 1 => clkMs 1 | 2 => clkMs 10 | _ => clkMs 100
def State.narrowArmed (s : State) (p : Nat) : Bool := bit (s.port p).cfg 2
def State.fecOff (s : State) (p : Nat) : Bool := fld (s.port p).cfg 4 3 == 1

/-! ## Queues (R286) -/

/-- Queues per port. -/
def State.qp (s : State) (p : Nat) : Nat := if (s.octet (p / 8)).q16 then 16 else 8

def mcastQueue (p : Nat) : Nat := 8192 + p
def cpuQueue (c : Nat) : Nat := 9216 + c

/-- The port that owns a queue; none for an idle queue or a CPU queue. -/
def State.queuePort (s : State) (q : Nat) : Option Nat :=
  if q < 8192 then
    let p := q / 8
    if s.isPort p then some p
    else if 0 < p && s.isPort (p - 1) && s.qp (p - 1) == 16 then some (p - 1) else none
  else if q < 9216 then (if s.isPort (q - 8192) then some (q - 8192) else none)
  else none

/-- The queue exists: it belongs to a port, or is a CPU queue. -/
def State.queueExists (s : State) (q : Nat) : Bool := (s.queuePort q).isSome || (decide (9216 ≤ q) && decide (q < 9472))

/-- Local index of a queue within its port. -/
def State.localIdx (s : State) (p q : Nat) : Nat := if q < 8192 then q - 8 * p else s.qp p

/-- The queues of a port: unicast by local index, then multicast. -/
def State.portQueues (s : State) (p : Nat) : List Nat := (List.range (s.qp p)).map (fun i => 8 * p + i) ++ [mcastQueue p]

/-- Reset class of a queue: unicast by local index, else the number mod 8 (R218). -/
def State.classInit (s : State) (q : Nat) : Nat :=
  match s.queuePort q with
  | some p => if q < 8192 then s.localIdx p q * 8 / s.qp p else q % 8
  | none => q % 8

/-- Admission record of R218 in force. -/
def State.admitRec (s : State) (q : Nat) : BitVec 64 :=
  ((s.equeue q).admitRec).getD
    (BitVec.ofNat 64 (8 <<< 48 ||| 0xFFFF <<< 32 ||| s.classInit q <<< 29 ||| 0x0400 <<< 12))

def State.qMin (s : State) (q : Nat) : Nat := fld (s.admitRec q) 63 52
def State.qAlpha (s : State) (q : Nat) : Nat := fld (s.admitRec q) 51 48
def State.qMax (s : State) (q : Nat) : Nat := fld (s.admitRec q) 47 32
def State.admitClass (s : State) (q : Nat) : Nat := fld (s.admitRec q) 31 29
def State.ecnEn (s : State) (q : Nat) : Bool := bit (s.admitRec q) 28
def State.ecnCells (s : State) (q : Nat) : Nat := fld (s.admitRec q) 27 12
def State.noVictim (s : State) (q : Nat) : Bool := bit (s.admitRec q) 11

/-- Scheduling record of R289 in force. -/
def State.schedRec (s : State) (q : Nat) : BitVec 64 :=
  ((s.equeue q).sched).getD
    (let pr := if q < 8192 then s.classInit q else if q < 9216 then 0 else q % 8
     let pf := if q < 8192 then s.classInit q else 0
     BitVec.ofNat 64 (pr <<< 61 ||| pf <<< 58 ||| 0x007D <<< 37))

def State.qPrio (s : State) (q : Nat) : Nat := fld (s.schedRec q) 63 61
def State.pfcPrio (s : State) (q : Nat) : Nat := fld (s.schedRec q) 60 58
def State.launchEn (s : State) (q : Nat) : Bool := bit (s.schedRec q) 57
def State.launchArrival (s : State) (q : Nat) : Bool := bit (s.schedRec q) 56
def State.lateSend (s : State) (q : Nat) : Bool := bit (s.schedRec q) 55
def State.wdAction (s : State) (q : Nat) : Nat := fld (s.schedRec q) 54 53
def State.lateTolNs (s : State) (q : Nat) : Nat := 8 * fld (s.schedRec q) 52 37
def State.launchTd (s : State) (q : Nat) : Nat := fld (s.schedRec q) 36 34
def State.launchOffset (s : State) (q : Nat) : Nat := fld (s.schedRec q) 31 0

/-- Egress record of R290 in force. -/
def State.egressRec (s : State) (p : Nat) : BitVec 64 :=
  ((s.eport p).cfg).getD
    (BitVec.ofNat 64 (0x14 <<< 57 ||| 1 <<< 55 ||| 0x040 <<< 30 ||| (s.qp p - 1) <<< 26 ||| 0x0C8 <<< 16
      ||| 0x00C8 <<< 2))

def State.overhead (s : State) (p : Nat) : Int := sfld (s.egressRec p) 63 57
def State.gateLength (s : State) (p : Nat) : Bool := bit (s.egressRec p) 56
def State.guardReturn (s : State) (p : Nat) : Bool := bit (s.egressRec p) 55
def State.downHold (s : State) (p : Nat) : Bool := bit (s.egressRec p) 54
def State.holdTimeUs (s : State) (p : Nat) : Nat := fld (s.egressRec p) 53 40
def State.egressLead (s : State) (p : Nat) : Nat := fld (s.egressRec p) 39 30
def State.mcastGateBit (s : State) (p : Nat) : Nat := fld (s.egressRec p) 29 26
def State.wdTimeMs (s : State) (p : Nat) : Nat := fld (s.egressRec p) 25 16
def State.wdRestoreMs (s : State) (p : Nat) : Nat := fld (s.egressRec p) 15 2

/-- TC_MAP of R288 in force. -/
def State.tcMap (s : State) (p : Nat) : BitVec 32 :=
  ((s.eport p).tcMap).getD (if s.qp p = 16 then 0xECA8_6420 else 0x7654_3210)

/-- The unicast queue of a port for a traffic class (R288). -/
def State.tcQueue (s : State) (p tc : Nat) : Nat := 8 * p + fld (s.tcMap p) (4 * tc + 3) (4 * tc)

/-- The queue belongs to a port that is enabled with its link up. -/
def State.portUp (s : State) (p : Nat) : Bool := (s.port p).enabled && (s.port p).linkUp

/-! ## Slices, pipes and adoption (R10, R428, R429) -/

/-- The ingress pipe (0 to 63) that serves a port, after adoption by the next live pipe of its slice. -/
def State.ingressPipe (s : State) (p : Nat) : Nat :=
  let g := p / 16
  ((List.range 4).map fun i => g / 4 * 4 + (g + i) % 4).find? (fun x => !s.pipeRetired x) |>.getD g

/-- Whose octets a port is of at the pipe that serves it: 0 the pipe's own, 1 those adopted from a retired pipe (R428). -/
def octetSide (pipe p : Nat) : Nat := b2n (p / 16 != pipe)

/-- The egress pipe (0 to 63) that serves a port. -/
def State.egressPipe (s : State) (p : Nat) : Nat :=
  let g := p / 16
  ((List.range 4).map fun i => g / 4 * 4 + (g + i) % 4).find? (fun x => !s.pipeRetired (64 + x)) |>.getD g

/-- A slice carries traffic: neither it nor its ternary replica is fenced (R429). -/
def State.sliceLive (s : State) (sl : Nat) : Bool := !s.sliceFenced sl && !s.replicaFenced (sl / 2)

/-- Line traffic is forwarded in the device's state (R352). -/
def State.forwards (s : State) : Bool := s.cmd.dev == .service || s.cmd.dev == .drain

end Sys2Proof.Machine
end

