-- ==== Sys2Proof/Machine/Admit.lean ====
section
/-! DEFINITION. Queue admission, refusal, push-out (R219 to R226, spec/09_buffer.md), the forming of copies, cut-through
eligibility (R247, spec/10_trellis.md) and stage A (R222, R223, R235, R236). -/

namespace Sys2Proof.Machine

/-- The result of admit_head (R219). -/
inductive Admit where
  | pass | failQmax | failHeadroom | failPool | failDt
deriving DecidableEq, Repr

/-- Where one copy of a packet goes: queue, egress port (1024 for a CPU queue), kind, truncation length. -/
structure Target where
  queue : Nat
  port : Nat
  kind : CopyKind
  trunc : Nat
deriving DecidableEq, Repr

/-- Live partitions (R254). -/
def State.livePartitions (s : State) : Nat := ((List.range 16).filter fun p => (s.part p).life == .live).length

/-- Sum of MIN over all queues (R219): a queue whose record is at reset has MIN 0. -/
def State.minSum (s : State) : Nat := (s.eg.queues.map fun e => s.qMin e.1).sum

/-- U of R219, on the counts at the end of the tick before. -/
def State.usedAbove (s : State) : Nat := (s.pk.prev.cq.map fun e => e.2 - s.qMin e.1).sum

def State.prevCq (s : State) (q : Nat) : Nat := s.pk.prev.cq.get 0 q

/-- admit_head of R219. -/
def State.admitHead (s : State) (p : Pkt) (q : Nat) : Admit :=
  let c := s.prevCq q
  if p.waits then
    let k := p.port * 8 + p.pgPrio
    if s.pk.prev.pg.get 0 k < (s.pg k).xoff + (s.pg k).headroom then .pass else .failHeadroom
  else if s.qMax q ≤ c then .failQmax
  else if p.pool ≠ ownShared then
    if (s.pool p.pool).size ≤ s.pk.prev.pool.get 0 p.pool then .failPool else .pass
  else if c < s.qMin q ∨ s.qAlpha q = 15 then .pass
  else
    let f := (s.pool ownShared).size * s.livePartitions / 16 - s.minSum - s.usedAbove
    if (c - s.qMin q) * 256 < f * 2 ^ s.qAlpha q then .pass else .failDt

/-! ## Push-out (R224, R225) -/

/-- The tail of a queue may be a victim of a packet of pool `pool` arriving for a queue of class `cls` (R224). -/
def State.victimTail (s : State) (pool cls q : Nat) : Option Nat :=
  match (s.qList q).getLast? with
  | none => none
  | some cid =>
    match s.copy cid with
    | none => none
    | some c =>
      match s.pkt c.pkt with
      | none => none
      | some p =>
        if s.admitClass q < cls && !s.noVictim q && p.pool == pool && !p.lossless && !c.pending && p.chosenAt != s.tickStamp + 1
            && !((s.liveCopies p).any fun x => match s.copy x with | some y => y.begun | none => false)
        then some cid else none

/-- The better of two candidates: lower class, then larger C_q, then lower number (R224). -/
def State.betterVictim (s : State) (a b : Nat × Nat) : Nat × Nat :=
  if s.admitClass a.1 < s.admitClass b.1 then a
  else if s.admitClass b.1 < s.admitClass a.1 then b
  else if s.prevCq b.1 < s.prevCq a.1 then a
  else if s.prevCq a.1 < s.prevCq b.1 then b
  else if a.1 ≤ b.1 then a else b

/-- The victim of a push-out: queue and copy (R224). -/
def State.victim (s : State) (pool cls : Nat) : Option (Nat × Nat) :=
  (s.pk.queues.filterMap fun e => (s.victimTail pool cls e.1).map fun c => (e.1, c)).foldl
    (fun best x => match best with | none => some x | some b => some (s.betterVictim b x)) none

/-- A push-out by packet `pid` (R225): the victim copy leaves, counted in its own queue and in the pool. -/
def State.pushOut (s : State) (pid pool : Nat) (v : Nat × Nat) : State :=
  let s := (s.bump .queuePushOut v.1).bump .pushOuts pool
  let s := match s.pkt pid with | some p => s.perfCount 0x041 p.pipe 1 | none => s
  let s := match s.copy v.2 with
    | some c => s.modPktD c.pkt fun p => { p with chosenAt := s.tickStamp + 1 }
    | none => s
  (s.dropCopy v.2 freePushOut).modPktD pid fun p => { p with pushedOut := true }

/-- Row 4 of R223 may be taken for the packet: lossy, unicast (to a port or to a CPU queue: multicast, mirror and trap copies
never push out), PUSHOUT_EN, no push-out yet. HEADROOM never pushes out. -/
def State.mayPushOut (s : State) (p : Pkt) (kind : CopyKind) : Bool :=
  !p.lossless && (kind == .unicast || kind == .cpu) && !p.pushedOut && (s.pool p.pool).pushout && p.pool != ownHeadroom

/-! ## Refusal and admission of copies -/

/-- The counters and events of a copy refused at its head (R223, R251). -/
def State.countRefusal (s : State) (p : Pkt) (t : Target) (a : Admit) : State :=
  let s := (if t.kind = .group then s.bump .mcastDropQueue t.port else s).perfCount 0x040 p.pipe 1
  match a with
  | .failQmax => s.bump .queueDropQmax t.queue
  | .failHeadroom =>
    let k := p.port * 8 + p.pgPrio
    (s.bump .headroomDrop k).raiseOnce srcHeadroomExhausted k 0
  | .failPool => s.bump .poolDrop p.pool
  | _ => s.bump .queueDropDt t.queue

/-- A copy formed for a packet. -/
def newCopy (s : State) (pid : Nat) (p : Pkt) (t : Target) : Copy :=
  { pkt := pid, queue := t.queue, port := t.port, kind := t.kind, phase := .waiting, cut := false
    pending := p.tag.isSome && p.verdict == .none
    ecn := s.ecnEn t.queue && decide (s.ecnCells t.queue ≤ s.prevCq t.queue), ecnDone := false
    charged := 0, expired := false, depth := s.prevCq t.queue, poolUsed := s.poolUsed p.pool, queuedAt := 0, handedAt := 0, trunc := t.trunc
    read := [], held := [], poison := [], retry := [], retried := [], out := 0, readAt := [], records := 0, seq := 0, plan := none
    planned := false, rejudge := false, launch := none, late := false, sched := 0, openCycles := 0, frame := [], editProf := none, txSc := none
    sa := none, pn := 0, stomp := 0, stompAt := 0, sec := none, maxTx := 0, known := false, txTs := 0, stamp := (0, 0, 0), startedAt := 0, startClk := 0
    correct := false, ptpAt := none, ioam := none, nextHop := none, hopCount := none }

/-- An admitted copy joins its packet. -/
def State.addCopy (s : State) (pid : Nat) (p : Pkt) (t : Target) : State :=
  let cid := s.pk.copyNext
  let s := s.bump .queueAdmitted t.queue
  let s := { s with pk := { s.pk with copyNext := cid + 1 } }
  (s.putCopy cid (some (newCopy s pid p t))).modPktD pid fun p => { p with copies := p.copies ++ [cid] }

/-- One copy decided (R219, R223). -/
def State.admitCopy (s : State) (pid : Nat) (t : Target) : State :=
  match s.pkt pid with
  | none => s
  | some p =>
    match s.admitHead p t.queue with
    | .pass => s.addCopy pid p t
    | a =>
      let s := if a = .failPool then s.raiseOnce srcPoolExhausted p.pool 0 else s
      if (a = .failPool ∨ a = .failDt) ∧ s.mayPushOut p t.kind then
        match s.victim p.pool (s.admitClass t.queue) with
        | some v => (s.pushOut pid p.pool v).addCopy pid { p with pushedOut := true } t
        | none => s.countRefusal p t a
      else s.countRefusal p t a

/-- REFCNT and MCAST of the cells already written, once the copies are known (R211). -/
def State.recountCells (s : State) (pid : Nat) : State :=
  match s.pkt pid with
  | none => s
  | some p =>
    let n := (s.liveCopies p).length
    p.cells.foldl (fun s x =>
      match x.cell with
      | some c =>
        if x.written && !x.freed then
          s.modCellAt c fun e => { e with mcast := decide (1 < n), ref := if 1 < n then n else 0 }
        else s
      | none => s) s

/-- The packet's copies decided together, at its first cell (R219, R250): a packet left with none is dropped whole. -/
def State.admitAll (s : State) (pid : Nat) (ts : List Target) : State :=
  let s := ts.foldl (fun s t => s.admitCopy pid t) s
  let s := s.modPktD pid fun p => { p with admitted := true }
  match s.pkt pid with
  | none => s
  | some p => if (s.liveCopies p).isEmpty then s.dropPkt pid freeDrop else s.recountCells pid

/-! ## Cut-through (R247) -/

/-- A pause timer as the schedulers see it (R64): the newest load of an earlier tick still runs. -/
def State.timerRuns (s : State) (port timer : Nat) : Bool :=
  match (s.port port).pause.find? fun e => e.1 == timer && decide (e.2.2 < s.tickStamp) with
  | some e => decide (s.now < e.2.1)
  | none => false

/-- The queue's priority is paused, or its port is (R64, R296). -/
def State.paused (s : State) (port prio : Nat) : Bool :=
  match s.flowMode port with
  | 1 => s.timerRuns port 8
  | 2 => s.pfcRx port prio && s.timerRuns port prio
  | _ => false

/-- A queue or port shaper is in deficit. -/
def Shaper.deficit (x : Shaper) : Bool := decide (x.level < 0)

/-- What cut-through will see of the present tick, taken at its end (R247). -/
def State.lookBefore (s : State) : Before :=
  { busy := s.pk.open_.keysWhere (fun _ l => !l.isEmpty) ++ s.pk.sending.keysWhere (fun _ x => x.isSome)
      ++ s.lp.ports.keysWhere (fun _ x => decide (s.now < x.flowUntil))
    gated := s.eg.ports.keysWhere fun _ e => e.oper.isSome || e.shaper.deficit
    up := s.lp.ports.keysWhere fun _ x => x.enabled && x.linkUp
    held := s.pk.queues.keysWhere (fun _ l => !l.isEmpty)
      ++ s.eg.queues.keysWhere fun q x => s.launchEn q || x.shaper.deficit }

/-- The packet's receive verdict had reached the pipe by the end of the tick before (R191, R247). -/
def State.verdictKnown (s : State) (p : Pkt) : Bool :=
  p.macOk.isSome && (!p.icvWait || p.icvOk.isSome) && decide (p.verdictAt + 1 < s.tickStamp)

/-- The conditions of R247, on the state at the end of the tick before. -/
def State.cutOk (s : State) (p : Pkt) (c : Copy) : Bool :=
  let b := s.pk.before
  decide (c.port < 1024) && (s.cutThrough c.port).1 && p.tag.isSome
    && !s.verdictKnown p && p.pass == 0 && !p.hold
    && (c.kind == .unicast || c.kind == .group)
    && !b.held.contains c.queue && b.up.contains c.port && !b.busy.contains c.port && !b.gated.contains c.port
    && !s.paused c.port (s.pfcPrio c.queue) && decide (s.macRate c.port ≤ s.macRate p.port)

/-- The descriptors of a copy enter its queue (R196). -/
def State.enqueue (s : State) (cid : Nat) : State :=
  match s.copy cid with
  | none => s
  | some c =>
    if c.phase = .waiting then
      (s.putCopy cid (some { c with phase := .queued, queuedAt := s.tickStamp })).putQList c.queue
        (s.qList c.queue ++ [cid])
    else s

/-! ## Stage A -/

/-- The partition stage A channel `j` of slice `i` delivers to in this tick (R235). -/
def State.stageAPart (s : State) (i j : Nat) : Nat := (i + j + s.tickStamp) % 16

/-- A channel that can be used: it and its partition are live (R236). -/
def State.chanUsable (s : State) (i j : Nat) : Bool :=
  s.chan (chanNo i 0 j) == .live && (s.part (s.stageAPart i j)).life == .live

/-- A cell that waited under row 3 of R223, with the channel it used. -/
def waited (e : Nat × Nat × Option Nat) : Bool := e.2.2.isSome

/-- Cells that waited keep their channels where these can be used (R236). -/
def keepChannels (usable : List Nat) (cells : List (Nat × Nat × Option Nat)) : List (Nat × (Nat × Nat)) :=
  cells.filterMap fun e => match e.2.2 with
    | some j => if usable.contains j then some (j, (e.1, e.2.1)) else none
    | none => none

/-- Cells on the channels left, in order: pairs of channel and queue entry, and the channels left over. -/
def fillChannels (usable : List Nat) (cells : List (Nat × Nat × Option Nat)) : List (Nat × (Nat × Nat)) × List Nat :=
  match usable, cells with
  | us, [] => ([], us)
  | [], _ => ([], [])
  | k :: us, e :: rest => let r := fillChannels us rest; ((k, (e.1, e.2.1)) :: r.1, r.2)

/-- The loading of a slice's channels (R236): cells that waited on their own channels, then the others that waited on the
lowest usable ones, then the rest in queue order. -/
def State.stageALoad (s : State) (sl : Nat) : List (Nat × (Nat × Nat)) :=
  let q := (s.slice sl).stageA
  let usable := (List.range 16).filter fun j => s.chanUsable sl j
  let own := keepChannels usable q
  let free := usable.filter fun j => !(own.any fun x => x.1 == j)
  let moved := fillChannels free (q.filter fun e => waited e && !(own.any fun x => x.2 == (e.1, e.2.1)))
  own ++ moved.1 ++ (fillChannels moved.2 (q.filter fun e => !waited e)).1

/-- The transfer's error counted and raised (R243, R257). -/
def State.xferError (s : State) (chan : Nat) (e : XferErr) : State :=
  match e with
  | .good => s
  | .corrected => (s.bump .channelCE chan).raise srcTrellisCe chan 0
  | _ => (s.bump .channelUE chan).raise srcTrellisUe chan 0

/-- The cell leaves the stage A queue. -/
def State.unqueueCell (s : State) (sl pid idx : Nat) : State :=
  s.modSlice sl fun x => { x with stageA := x.stageA.filter fun e => !(e.1 == pid && e.2.1 == idx) }

/-- The cell waits for the next worked tick with its channel (R223 row 3, R236). -/
def State.keepCell (s : State) (sl pid idx j : Nat) : State :=
  s.modSlice sl fun x =>
    { x with stageA := x.stageA.map fun e => if e.1 = pid ∧ e.2.1 = idx then (pid, idx, some j) else e }

/-- A packet of an export stream that is refused counts in the stream's drops (R319, R324). -/
def State.exportRefused (s : State) (made : Option (Nat × Nat)) : State :=
  match made with
  | some (k, kind) => if kind = 3 then (s.bump .exportDrop k).bump .reportDrop k else s.bump .exportDrop k
  | none => s

/-- Each copy of the packet refused for want of a cell (R223 row 5). -/
def State.refusePhys (s : State) (pid : Nat) (p : Pkt) : State :=
  let s := s.exportRefused p.madeBy
  let s := (s.liveCopies p).foldl (fun s cid =>
    match s.copy cid with
    | some c =>
      let s := s.bump .queueDropPhys c.queue
      if c.kind = .group then s.bump .mcastDropQueue c.port else s
    | none => s) s
  s.dropPkt pid freeDrop

/-- The packet's unicast copy, if that is what it has: its class governs a push-out (R223 row 4, R224). -/
def State.unicastCopy (s : State) (p : Pkt) : Option Copy :=
  ((s.liveCopies p).filterMap s.copy).find? fun c => c.kind == .unicast || c.kind == .cpu

/-- A packet held by the cloister port ends there, counted in `c` (R120). -/
def State.endHeld (s : State) (pid : Nat) (c : Ctr) (pipe : Nat) : State :=
  let s := { s with pk := { s.pk with cloisterQ := s.pk.cloisterQ.filter (· != pid) } }
  ((s.bump c pipe).modPktD pid fun p => { p with cloister := false }).dropPkt pid freeDrop

/-- A relayed ring frame finds no cell: it is not taken, and the neighbour's retry sends it again (R214, R407). -/
def State.dropRelayed (s : State) (pid : Nat) : State :=
  let s := { s with ring.sent := s.ring.sent.filter fun u => u.held != some pid
                    ring.unacked := s.ring.unacked.filter fun u => u.held != some pid }
  (s.modPktD pid fun p => { p with cloister := false }).dropPkt pid freeDrop

/-- The cell finds the pool of its class empty in the partition (R215, R223, R232). -/
def State.allocFailed (s : State) (sl pid idx j part : Nat) (p : Pkt) : State :=
  let cls := s.cellClass p
  let s := (s.bump .allocFail part).raiseOnce srcAllocFail part 0
  let s := if cls ≠ ownShared then s.raiseOnce srcPoolExhausted cls 0 else s
  let begun := (s.liveCopies p).any fun x => match s.copy x with | some y => y.begun | none => false
  if p.waits || begun then (s.bump .allocRetry part).keepCell sl pid idx j
  else if p.cloister && p.pool == ownColonnade then s.dropRelayed pid
  else if p.cloister then s.endHeld pid .cloisterPoolDrop p.pipe
  else match s.unicastCopy p with
  | none => s.refusePhys pid p
  | some c =>
    if s.mayPushOut p c.kind then
      match s.victim p.pool (s.admitClass c.queue) with
      | some _ => { s.keepCell sl pid idx j with pk.pushDue := s.pk.pushDue ++ [pid] }
      | none => s.refusePhys pid p
    else s.refusePhys pid p

/-- The place of an ingress pipe in the tick's order of push-outs, which starts with pipe τ mod 64 (R225). -/
def State.pipeTurn (s : State) (pipe : Nat) : Nat := (pipe + 64 - s.tickStamp % 64) % 64

/-- The push-out that a waiting cell of the packet asked for (R223 row 4, R224); with no victim left the packet is refused. -/
def State.pushDueNow (s : State) (pid : Nat) : State :=
  match s.pkt pid with
  | none => s
  | some p =>
    match s.unicastCopy p with
    | none => s
    | some c =>
      match s.victim p.pool (s.admitClass c.queue) with
      | some v => s.pushOut pid p.pool v
      | none => s.refusePhys pid p

/-- The push-outs due of pipes that stand before place `turn` in the tick's order, pipe by pipe (R225). -/
def State.runPushDue (s : State) (turn : Nat) : State :=
  let due := fun (k : Nat) => s.pk.pushDue.filter fun pid =>
    match s.pkt pid with | some p => s.pipeTurn p.pipe == k | none => false
  let now := (List.range turn).flatMap due
  now.foldl (fun s pid => s.pushDueNow pid) { s with pk.pushDue := s.pk.pushDue.filter fun pid => !now.contains pid }

/-- What follows a written cell: descriptors enter the queues (R196), and the transmit ring of an injected frame moves on
(R365). -/
def State.afterWrite (s : State) (pid idx : Nat) : State :=
  match s.pkt pid with
  | none => s
  | some p =>
    let s := if idx = 0 then
        (s.liveCopies p).foldl (fun s cid =>
          match s.copy cid with
          | some c => if s.cutOk p c then (s.modCopyD cid fun c => { c with cut := true }).enqueue cid else s
          | none => s) s
      else s
    if p.cells.all (·.written) then
      let s := (s.liveCopies p).foldl (fun s cid => s.enqueue cid) s
      match p.txRing with
      | some r => if p.pass = 0 then s.advanceRing (96 + r) else s
      | none => s
    else s

/-- A cell's words and descriptor written whole: their poison is gone (R209, R434). -/
def State.freshCell (s : State) (n : Nat) : State :=
  if s.faults.poisoned.isEmpty then s
  else { s with faults.poisoned := s.faults.poisoned.filter fun a =>
      !((fld a 63 60 == 5 && fld a 31 0 / 32 == n) || (fld a 63 60 == 7 && fld a 31 0 == n)) }

/-- The cell written whole in partition `part` as cell `n` (R209 to R211, R217). -/
def State.writeCell (s : State) (pid idx part n : Nat) (p : Pkt) (poison : Bool) : State :=
  let cls := s.cellClass p
  let k := (s.liveCopies p).length
  let s := (s.freshCell n).putCellAt n
    { alloc := true, owner := cls, mcast := decide (1 < k), ref := if 1 < k then k else 0, quarantined := false }
  let s := ((s.useCellCycle n).putCellData n (cellBytes p.bytes idx)).chargeCell part cls p.pgKey
  let s := (s.liveCopies p).foldl (fun s cid =>
    match s.copy cid with
    | some c => (s.putCq c.queue (s.cq c.queue + 1)).putCopy cid (some { c with charged := c.charged + 1 })
    | none => s) s
  s.modPktD pid fun p =>
    { p with cells := p.cells.set idx { cell := some n, cls := cls, at_ := s.tickStamp, written := true, freed := false
                                        poison := poison, zeroed := false } }

/-- One cell carried by stage A channel `j` of slice `sl` (R222, R236, R243). -/
def State.stageACell (s : State) (sl : Nat) (errs : List (Nat × XferErr)) (a : Nat × (Nat × Nat)) : State :=
  let j := a.1
  let pid := a.2.1
  let idx := a.2.2
  match s.pkt pid with
  | none => s.unqueueCell sl pid idx
  | some p =>
    if !((s.slice sl).stageA.any fun e => e.1 == pid && e.2.1 == idx) then s
    else
    let part := s.stageAPart sl j
    let cls := s.cellClass p
    if !s.grantable part cls then s.allocFailed sl pid idx j part p
    else
      match s.popCell part with
      | none => s.keepCell sl pid idx j
      | some (n, t) =>
        let err := ((errs.find? fun e => e.1 == j).map (·.2)).getD .good
        let t := (t.bump .stageACells sl).bump .channelCells (chanNo sl 0 j)
        let t := (t.unqueueCell sl pid idx).xferError (chanNo sl 0 j) err
        if err = .ueHeader then
          let t := (t.putCellAt n { alloc := true, owner := cls, mcast := false, ref := 0, quarantined := false }).chargeCell
            part cls p.pgKey
          let t := t.queueFree n cls freeDrop sl p.pgKey
          (t.modPktD pid fun p =>
            { p with cells := p.cells.set idx { cell := none, cls := cls, at_ := s.tickStamp, written := true, freed := true
                                                poison := false, zeroed := true } }).afterWrite
            pid idx
        else (t.writeCell pid idx part n p (err == .ueData)).afterWrite pid idx

end Sys2Proof.Machine
end

