-- ==== Sys2Proof/Machine/Buffer.lean ====
section
/-! DEFINITION. The buffer's events: stage A, frees, rebuilds (R212, R213, R222, R228 to R230, R236), and the rules of the
buffer commands (R214 to R220, R231, R233, spec/09_buffer.md). -/

namespace Sys2Proof.Machine

/-- The slice has cells to load and has not yet loaded its channels in this tick. -/
def State.stageADue (s : State) (sl : Nat) : Bool :=
  s.sliceLive sl && (s.slice sl).stageAAt != some s.tickStamp && !(s.slice sl).stageA.isEmpty

/-- The slices that the partitions serve before `sl` in this tick: from slice τ mod 16 on, ascending and wrapping (R222). -/
def State.servedBefore (s : State) (sl : Nat) : List Nat :=
  (List.range ((sl + 16 - s.tickStamp % 16) % 16)).map fun i => (s.tickStamp + i) % 16

/-- STAGE_A_TRANSFER may happen: a worked tick in which the slice has not yet loaded its channels, and those served before
it have (R222). -/
def State.stageAReady (s : State) (sl : Nat) : Bool :=
  s.worked && s.sliceLive sl && (s.slice sl).stageAAt != some s.tickStamp && !(s.servedBefore sl).any s.stageADue

/-! ## The order of a tick's bank cycles (R212): a step waits for those before it -/

/-- A slice has cells to write that it has not yet loaded in this tick (step 1). -/
def State.stageAOpen (s : State) : Bool := s.worked && (List.range 16).any s.stageADue

/-- Stage B channel that reads partition `p` for slice `e` in the tick with stamp `t` (R242). -/
def stageBChan (p e t : Nat) : Nat := (p + 32 - e - t % 16) % 16

/-- The stage B channel that reads partition `p` for slice `e` in tick `t` is live. -/
def State.chanReads (s : State) (e p t : Nat) : Bool := s.chan (chanNo e 1 (stageBChan p e t)) == .live

/-- The bank of a copy's cell has a cycle left in this tick (R14, R212). -/
def State.readCycle (s : State) (cid idx : Nat) : Bool :=
  match ((s.copy cid).bind fun c => (s.pkt c.pkt).bind fun p => p.cells[idx]?).bind (·.cell) with
  | some n => decide (0 < s.cyclesLeft (cellPart n) (cellBank n))
  | none => true

/-- The read takes its bank cycle. -/
def State.useReadCycle (s : State) (cid idx : Nat) : State :=
  match ((s.copy cid).bind fun c => (s.pkt c.pkt).bind fun p => p.cells[idx]?).bind (·.cell) with
  | some n => s.useCellCycle n
  | none => s

/-- A read matched in an earlier tick is still to be made from partition `p` (step 2). -/
def State.stageBOpen (s : State) (p : Nat) : Bool :=
  s.worked && (List.range 16).any fun sl =>
    s.sliceLive sl && (s.slice sl).matchAt != some s.tickStamp && s.chanReads sl p s.tickStamp
      && (s.slice sl).matched.any fun m => m.1 == p && s.readCycle m.2.2.1 m.2.2.2

/-- The tag's cells are zeroed before they are freed (step 5 of R199): the ICV failed and rolls the frame back, or failed
beside the FCS, whatever VALIDATE says (R85, R192). -/
def Pkt.needsZero (p : Pkt) : Bool := p.icvOk == some false && (p.macOk == some false || !p.icvPasses)

/-- Cells of a packet that are still allocated to it, by number in the frame: a copy in flight has not released them, or it has
no copies. -/
def State.cellsLeft (s : State) (p : Pkt) : List Nat :=
  (List.range p.cells.length).filter fun i =>
    (match p.cells[i]? with | some x => x.written && x.cell.isSome && !x.freed | none => false) &&
      (p.copies.isEmpty || (s.liveCopies p).any fun cid =>
        match s.copy cid with | some c => !c.read.contains i | none => false)

/-- The cell is still to be zeroed. -/
def Pkt.unzeroed (p : Pkt) (i : Nat) : Bool := match p.cells[i]? with | some x => !x.zeroed | none => false

/-- A cell of partition `p` is still to be zeroed, and its bank has a cycle (step 3). -/
def State.zeroOpen (s : State) (p : Nat) : Bool :=
  s.worked && s.pk.pkts.any fun e => match e.2 with
    | some x =>
      (match (x.tag.bind s.specTag).bind s.pkt with | some o => o.rollStep == 1 && o.needsZero | none => false)
        && (s.cellsLeft x).any fun i => x.unzeroed i &&
          (match (x.cells[i]?).bind (·.cell) with
           | some n => cellPart n == p && decide (0 < s.cyclesLeft p (cellBank n))
           | none => false)
    | none => false

/-- Frees wait in partition `p` that have not had their tick (step 5). -/
def State.freesOpen (s : State) (p : Nat) : Bool :=
  s.worked && (s.part p).life != .retired && (s.part p).landedAt != some s.tickStamp && !(s.part p).queue.isEmpty

/-! ## Cells of a frame -/

/-- Cell `i` of a packet was whole in its slice as the tick began: a frame that streams in brings it at its place in time
(R18, R196). -/
def State.cellCome (s : State) (p : Pkt) (i : Nat) : Bool :=
  !p.streams || (p.macOk.isSome && decide (p.verdictAt < s.tickStamp))
    || decide (p.firstAt + s.wireClocks p.port (min (256 * (i + 1)) p.frameLen) ≤ s.clock.tickAt)

/-- How many of the packet's cells from `i` on have come, at most `fuel`. -/
def State.cellsCome (s : State) (p : Pkt) (fuel i : Nat) : Nat :=
  match fuel with
  | 0 => 0
  | fuel + 1 => if s.cellCome p i then 1 + s.cellsCome p fuel (i + 1) else 0

/-- The cells of an admitted packet that have come join its slice's stage A queue, as far as its 512 places go (R196, R236). -/
def State.streamCells (s : State) (pid : Nat) : State :=
  match s.pkt pid with
  | none => s
  | some p =>
    let room := 512 - (s.slice (p.pipe / 4)).stageA.length
    let n := s.cellsCome p (min room (p.cells.length - p.queued)) p.queued
    (s.modPktD pid fun p => { p with queued := p.queued + n }).modSlice (p.pipe / 4) fun x =>
      { x with stageA := x.stageA ++ (List.range n).map fun i => (pid, p.queued + i, none) }

/-- A cell not yet written. -/
def PktCell.init : PktCell :=
  { cell := none, cls := 0, at_ := 0, written := false, freed := false, poison := false, zeroed := false }

/-- The cells of a packet of `len` bytes are to be written: those that have come join its slice's stage A queue (R236). -/
def State.startCells (s : State) (pid len : Nat) : State :=
  (s.modPktD pid fun p => { p with cells := List.replicate (cellCount len) .init, queued := 0 }).streamCells pid

def State.stageATick (s : State) (sl : Nat) (errs : List (Nat × XferErr)) : State :=
  let a := s.stageALoad sl
  let s := s.modSlice sl fun x => { x with stageAAt := some s.tickStamp }
  a.foldl (fun s x => s.stageACell sl errs x) s

/-- STAGE_A_TRANSFER (R222, R223, R235, R236). -/
def execStageATransfer (slice : Nat) (errs : List (Nat × XferErr)) (s : State) : Host.Outcome State Fault Refusal :=
  onUnit (decide (slice < 16)) slice (if s.stageAReady slice then s.stageATick slice errs else s)

/-- The free may land in tick `now`: it was queued in an earlier one, or is step 6 of a rollback (R199, R213). -/
def FreeReq.mayLand (f : FreeReq) (now : Nat) : Bool := decide (f.queuedAt < now) || f.source == freeRollback

/-- The frees of a free queue that land in tick `now`: oldest first, at most `n`, each with a cycle of its bank that others have
left (R213, R14); `left` is what a bank has left, `banks` the banks already taken. -/
def pickFrees (now : Nat) (left : Nat → Nat) (n : Nat) (banks : List Nat) (l : List FreeReq) : List FreeReq × List FreeReq :=
  match l with
  | [] => ([], [])
  | f :: rest =>
    if n = 0 || !f.mayLand now || decide (left (cellBank f.cell) ≤ banks.count (cellBank f.cell)) then
      let r := pickFrees now left n banks rest
      (r.1, f :: r.2)
    else
      let r := pickFrees now left (n - 1) (cellBank f.cell :: banks) rest
      (f :: r.1, r.2)

/-- One entry of the cell status array examined for the new list of a bank, in a cycle that the tick has left: a free cell in no
head cache joins the list (R230). -/
def State.relinkRow (s : State) (p b : Nat) : State :=
  match (s.part p).rebuilding.find? fun e => e.1 == b with
  | none => s
  | some e =>
    if s.cyclesLeft p b = 0 ∨ 1536 ≤ e.2 then s
    else
      let q := s.part p
      let joins := !(s.cellAt (cellNo p b e.2)).alloc && !(q.headRows b).contains e.2 && !(q.freedRows b).contains e.2
      let q := { q with rebuilding := q.rebuilding.map fun x => if x.1 = b then (b, e.2 + 1) else x }
      let q := if joins then { q with freed := q.freed.set [] b (e.2 :: q.freedRows b) } else q
      (s.useCycle p b).putPart p q

/-- The rebuilds of a partition go on, in the cycles that step 5 leaves (R230). -/
def State.relinkBanks (s : State) (p : Nat) : State :=
  ((s.part p).rebuilding.map fun e => e.1).foldl (fun s b => (s.relinkRow p b).relinkRow p b) s

/-- The refills and then the frees of a tick (steps 4 and 5 of R212), and the rebuilds of free lists after them. -/
def State.landTick (s : State) (p : Nat) : State :=
  let s := s.refillHeads p
  let r := pickFrees s.tickStamp (s.cyclesLeft p) 16 [] (s.part p).queue
  let late := fun (f : FreeReq) => f.mayLand s.tickStamp && !f.waited
  let s := s.bumpBy .freeDeferred p (r.2.filter late).length
  let s := s.modPart p fun q =>
    { q with queue := r.2.map fun f => { f with waited := f.waited || late f }, landedAt := some s.tickStamp }
  let s := (r.1.foldl (fun s f => s.landFree f) s).relinkBanks p
  s.raisePeak gaugeFreeCells p (s.freeCells p)

/-- FREE_LAND (R213, R228): once in a worked tick, after the uses that come before it. -/
def execFreeLand (part : Nat) (s : State) : Host.Outcome State Fault Refusal :=
  onUnit (decide (part < 16)) part
    (if s.worked && (s.part part).landedAt != some s.tickStamp && (s.part part).life != .retired && !s.stageAOpen
        && !s.stageBOpen part && !s.zeroOpen part then s.landTick part
     else s)

/-- A bank's list rebuilt: it is popped again (R230). -/
def State.rebuildBank (s : State) (p b : Nat) : State :=
  s.modPart p fun q => { q with rebuilding := q.rebuilding.filter fun e => e.1 != b }

/-- FREE_LIST_REBUILD_DONE (R230): every entry of the bank has been examined. -/
def execFreeListRebuildDone (part bank : Nat) (s : State) : Host.Outcome State Fault Refusal :=
  onUnit (decide (part < 16) && decide (bank < 32)) part
    (if (s.part part).rebuilding.contains (bank, 1536) then s.rebuildBank part bank
     else s)

/-- Rows of a bank's list without row `r`: a never-used row is first joined by those before it. -/
def Partition.dropRow (q : Partition) (b r : Nat) : Partition :=
  let n := q.freshRow b
  let freed := if n ≤ r then q.freedRows b ++ (List.range (r - n)).map (n + ·) else q.freedRows b
  let q := q.putHeads b ((q.headRows b).filter (· != r))
  { q with freed := q.freed.set [] b (freed.filter (· != r)), fresh := q.fresh.set 8 b (if n ≤ r then r + 1 else n) }

def State.quarantined (s : State) (p : Nat) : Nat :=
  (s.pk.cells.filter fun e => cellPart e.1 == p && e.2.quarantined).length

/-- A cell whose entry is found uncorrectable is quarantined: it is never allocated again (R230). -/
def State.quarantine (s : State) (cell : Nat) : State :=
  let p := cellPart cell
  let s := s.modCellAt cell fun e => { e with alloc := true, quarantined := true }
  let s := s.modPart p fun q => q.dropRow (cellBank cell) (cellRow cell)
  s.raisePeak gaugeQuarantined p (s.quarantined p)

/-! ## Pools (R214 to R216) -/

/-- The range of a reserved pool's size. -/
def poolRange (o n : Nat) : Bool :=
  match o with
  | 2 => decide (n ≤ 196608)
  | 3 => decide (4096 ≤ n) && decide (n ≤ 65536)
  | 4 => decide (1024 ≤ n) && decide (n ≤ 32768)
  | _ => decide (1024 ≤ n) && decide (n ≤ 16384)

/-- The reserved size that pool `o` would have after the command. -/
def State.sizeAfter (s : State) (sizes : List (Option Nat)) (o : Nat) : Nat :=
  ((sizes[o - 2]?).getD none).getD (s.pool o).size

def State.poolsOk (s : State) (sizes : List (Option Nat)) : Bool :=
  ([2, 3, 4, 5, 6].all fun o => poolRange o (s.sizeAfter sizes o) && s.sizeAfter sizes o % 16 == 0)
    && decide (([2, 3, 4, 5, 6].map fun o => s.sizeAfter sizes o).sum ≤ 393216)

/-- BUFFER_POOL_SET at its boundary (R216): SHARED is what the reserved pools leave. -/
def State.applyPools (s : State) (sizes : List (Option Nat)) (push : List (Option Bool)) : State :=
  let total := ([2, 3, 4, 5, 6].map fun o => s.sizeAfter sizes o).sum
  let sizeOf := fun o => if o = 1 then 786432 - total else s.sizeAfter sizes o
  [1, 2, 3, 4, 5, 6].foldl (fun t o =>
    t.modPool o fun x => { size := sizeOf o, pushout := ((push[o - 1]?).getD none).getD x.pushout }) s

def cmdBufferPoolSet (sizes : List (Option Nat)) (pushout : List (Option Bool)) : Cmd :=
  .mirrored 0x0640 (.bufferPoolSet sizes pushout) fun _ s =>
    Rule.need (s.poolsOk sizes) .param (.at [objPool] s [.pools sizes pushout])

def cmdBufferPoolGet : Cmd :=
  .get 0x0641 () fun _ s => .reply s (([1, 2, 3, 4, 5, 6].map fun o =>
    [(s.pool o).size, b2n (s.pool o).pushout] ++ s.gauge gaugePool o (s.poolUsed o)).flatten)

/-! ## Admission records (R218) -/

def admitMask : BitVec 64 := 0xFFFF_FFFF_FFFF_F800

/-- The fields written are in their ranges. -/
def admitOk (r : BitVec 64) : Bool :=
  !(decide (12 ≤ fld r 51 48) && decide (fld r 51 48 ≤ 14)) && decide (1 ≤ fld r 47 32) && decide (1 ≤ fld r 27 12)

def State.admitAfter (s : State) (q : Nat) (record fields : BitVec 64) : BitVec 64 :=
  merge (s.admitRec q) record (fields &&& admitMask)

/-- MIN of a queue, or the greatest that a change accepted and still due will give it. -/
def State.minDue (s : State) (q : Nat) : Nat :=
  s.changes.foldl (fun m p =>
    match p.change with
    | .queueAdmit x record fields => if x = q then max m (fld (s.admitAfter x record fields) 63 52) else m
    | _ => m) (s.qMin q)

/-- Queues with a record of their own, or to have one. -/
def State.minQueues (s : State) : List Nat :=
  ((s.eg.queues.map fun e => e.1) ++ s.changes.filterMap fun p =>
    match p.change with | .queueAdmit x _ _ => some x | _ => none).eraseDups

/-- The sum of MIN over all queues, changes still due among them, stays within SHARED / 4, or is not raised (R218). -/
def State.minOk (s : State) (q : Nat) (r : BitVec 64) : Bool :=
  decide (fld r 63 52 ≤ s.minDue q) ||
    decide (((s.minQueues.filter (· != q)).map s.minDue).sum + fld r 63 52 ≤ (s.pool ownShared).size / 4)

def State.applyAdmit (s : State) (q : Nat) (record fields : BitVec 64) : State :=
  s.modEqueue q fun x => { x with admitRec := some (s.admitAfter q record fields) }

def cmdQueueAdmitSet (queue : Nat) (record fields : BitVec 64) : Cmd :=
  .mirrored 0x0642 (.queueAdmitSet queue record fields) fun _ s =>
      Rule.need (decide (queue < 9472)) (.access queue) <|
      Rule.need (admitOk (s.admitAfter queue record fields)) .param <|
      Rule.need (s.queueExists queue) .missing <|
      Rule.need (s.minOk queue (s.admitAfter queue record fields)) .full <|
      .at [objAdmit queue] s [.queueAdmit queue record fields]

def cmdQueueAdmitGet (queue : Nat) : Cmd :=
  .get 0x0643 queue fun _ s =>
      Rule.need (decide (queue < 9472)) (.access queue) <|
      Rule.need (s.queueExists queue) .missing <| .reply s [(s.admitRec queue).toNat, s.cq queue]

/-! ## Port-priority records (R220) -/

def State.pgAfter (s : State) (port prio : Nat) (xoff xon headroom : Option Nat) : PgRec :=
  let r := s.pg (port * 8 + prio)
  { xoff := xoff.getD r.xoff, xon := xon.getD r.xon, headroom := headroom.getD r.headroom }

def pgOk (r : PgRec) : Bool :=
  decide (1 ≤ r.xoff) && decide (r.xoff ≤ 65535) && decide (r.xon < r.xoff) && decide (r.headroom ≤ 16383)

def cmdPgSet (port prio : Nat) (xoff xon headroom : Option Nat) : Cmd :=
  .set 0x0644 (port, prio, xoff, xon, headroom) fun _ s =>
      Rule.need (decide (port < 1024)) (.access port) <|
      Rule.need (decide (prio < 8)) (.access prio) <|
      Rule.need (pgOk (s.pgAfter port prio xoff xon headroom)) .param <|
      Rule.need (s.isPort port) .missing <|
      .at [objPg (port * 8 + prio)] s [.pg port prio xoff xon headroom]

def State.applyPg (s : State) (port prio : Nat) (xoff xon headroom : Option Nat) : State :=
  s.putPg (port * 8 + prio) (s.pgAfter port prio xoff xon headroom)

/-! ## Statistics and cell entries (R231, R233) -/

/-- Peaks cleared. -/
def State.clearPeaks (s : State) (l : List Nat) : State := l.foldl (fun s k => s.putPeak k 0) s

def bufferStatsRule (sel : StatsSel) (clear : Bool) (s : State) : Rule :=
  match sel.kind with
  | 0 =>
    Rule.need (decide (sel.index < 9472)) (.access sel.index) <|
    Rule.need (s.queueExists sel.index) .missing <|
    let pk := peakKey gaugeQueue sel.index
    statsRule (if clear then s.clearPeaks [pk] else s)
      [(.queueAdmitted, sel.index), (.queueDropQmax, sel.index), (.queueDropDt, sel.index), (.queueDropPhys, sel.index)
      , (.queuePushOut, sel.index), (.queueEcnMarked, sel.index)] (s.gauge gaugeQueue sel.index (s.cq sel.index)) clear
  | 1 =>
    Rule.need (decide (1 ≤ sel.index) && decide (sel.index ≤ 6)) .param <|
    let pk := peakKey gaugePool sel.index
    statsRule (if clear then s.clearPeaks [pk] else s) [(.poolDrop, sel.index), (.pushOuts, sel.index)]
      (s.gauge gaugePool sel.index (s.poolUsed sel.index)) clear
  | 2 =>
    Rule.need (decide (sel.index < 1024)) (.access sel.index) <|
    Rule.need (decide (sel.sub < 8)) (.access sel.sub) <|
    Rule.need (s.isPort sel.index) .missing <|
    let k := sel.index * 8 + sel.sub
    statsRule (if clear then s.clearPeaks [peakKey gaugePg k, peakKey gaugeHead k] else s)
      [(.pgXoff, k), (.headroomDrop, k)]
      (s.gauge gaugePg k (s.pgCells k) ++ s.gauge gaugeHead k (s.headCells k)) clear
  | 3 =>
    Rule.need (decide (sel.index < 16)) (.access sel.index) <|
    let p := sel.index
    statsRule (if clear then s.clearPeaks [peakKey gaugeFreeCells p, peakKey gaugeFreeQueue p, peakKey gaugeQuarantined p]
        else s)
      [(.allocFail, p), (.allocRetry, p), (.bufDoubleFree, p), (.bufForeignFree, p), (.freeDeferred, p)]
      (s.gauge gaugeFreeCells p (s.freeCells p) ++ s.gauge gaugeFreeQueue p (s.part p).queue.length
        ++ s.gauge gaugeQuarantined p (s.quarantined p)) clear
  | _ => .param

def cmdBufferStatsGet (sel : StatsSel) (clear : Bool) : Cmd :=
  .stats 0x0645 clear sel fun _ s => bufferStatsRule sel clear s

def cmdBufferCellRead (first count : Nat) : Cmd :=
  .get 0x0646 (first, count) fun _ s =>
      Rule.need (decide (first < 786432)) (.access first) <|
      Rule.need (decide (first + count ≤ 786432)) (.access 786432) <|
      Rule.need (decide (1 ≤ count) && decide (count ≤ 256)) .param <|
      match ((List.range count).map (first + ·)).find? fun n => (s.cellAt n).quarantined with
      | some n => .poisoned (faultAddr 6 (cellPart n) n)
      | none => .reply s ((List.range count).map fun i => (s.cellAt (first + i)).bits)

end Sys2Proof.Machine
end

