-- ==== Sys2Proof/Machine/Trellis.lean ====
section
/-! DEFINITION. The port matcher, stage B, the resequencer, replication groups and the retirement of Trellis elements
(spec/10_trellis.md, R234 to R260): events, effects at boundaries, and the rules of the commands. -/

namespace Sys2Proof.Machine

/-! ## The port matcher (R240, R241) -/

/-- A cell of a port's window: copy, cell number in the frame, partition, and whether it cannot be requested. -/
structure WinCell where
  cid : Nat
  idx : Nat
  part : Nat
  lost : Bool
deriving DecidableEq, Repr

/-- The descriptor that names the cell is poisoned (R245, R436 STORE 7). -/
def State.descPoisoned (s : State) (cell : Nat) : Bool := s.faults.poisoned.contains (faultAddr 7 (cellPart cell) cell)

/-- The cell cannot be requested: the descriptor naming it is poisoned, or stage A lost it (R243, R245). -/
def State.cellLost (s : State) (x : PktCell) : Bool :=
  x.written && (match x.cell with | none => true | some n => s.descPoisoned n)

/-- Cells of an open copy that are written before this tick, reserved and not yet read, in order, those that cannot be
requested among them (R240, R245). -/
def State.openCells (s : State) (cid : Nat) : List WinCell :=
  match s.copy cid with
  | none => []
  | some c =>
    if s.tickStamp ≤ c.handedAt then []
    else match s.pkt c.pkt with
      | none => []
      | some p =>
        let limit := if c.trunc = 0 then p.cells.length else min p.cells.length (cellCount c.trunc)
        (List.range limit).filterMap fun i =>
          match p.cells[i]? with
          | some x =>
            if x.written && decide (x.at_ < s.tickStamp) && !(c.readAt.any fun e => e.1 == i) then
              some ⟨cid, i, (x.cell.map cellPart).getD 0, s.cellLost x⟩
            else none
          | none => none

/-- A port's request window: its first 8 cells across its open packets (R240). -/
def State.windowAll (s : State) (port : Nat) : List WinCell :=
  if s.portUp port then (((s.openList port).map s.openCells).flatten).take 8 else []

/-- The cells of the window that the port requests. -/
def State.window (s : State) (port : Nat) : List WinCell := (s.windowAll port).filter (!·.lost)

/-- Cells awaiting their inherent retry (R243): partition, port, copy, cell. -/
def State.retries (s : State) (sl : Nat) : List (Nat × Nat × Nat × Nat) :=
  ((List.range 64).map fun i =>
    ((s.openList (sl * 64 + i)).map fun cid =>
      match s.copy cid with
      | some c => c.retry.filterMap fun k =>
          match (s.pkt c.pkt).bind fun p => (p.cells[k]?).bind (·.cell) with
          | some n => some (cellPart n, sl * 64 + i, cid, k)
          | none => none
      | none => []).flatten).flatten

/-- The partition is read: it is live, or its drain goes on (R253). -/
def State.readable (s : State) (p : Nat) : Bool :=
  let l := (s.part p).life
  l == .live || l == .stopped || l == .draining

/-- A delivery slot can be used in the next tick: partition readable, channel live (R253). -/
def State.deliveryLive (s : State) (e p : Nat) : Bool := s.readable p && s.chanReads e p (s.tickStamp + 1)

/-- Accept limit (R241). -/
def State.acceptLimit (s : State) (port : Nat) : Nat :=
  if s.cfgWidth port = 8 ∧ s.portRate port = 0 then 2 else 1

/-- The first requester at or after the pointer, among local ports. -/
def firstFrom (ptr : Nat) (reqs : List Nat) : Option Nat :=
  match reqs.find? (fun p => decide (ptr ≤ p)) with
  | some p => some p
  | none => reqs.head?

/-- One iteration: `win` the windows by local port, `free` the slots left, `ports` the ports left; it answers the
matches (slot, local port, cell). -/
def State.matchIter (s : State) (sl : Nat) (win : List (Nat × List WinCell)) (slots ports : List Nat) :
    List (Nat × Nat × WinCell) :=
  let grants := slots.filterMap fun p =>
    (firstFrom ((s.slice sl).grantPtr.get 0 p)
      (ports.filter fun l => ((win.find? fun w => w.1 == l).map fun w => w.2.any fun c => c.part == p).getD false)).map
      fun l => (p, l)
  (ports.map fun l =>
    let w := ((win.find? fun w => w.1 == l).map (·.2)).getD []
    let got := grants.filterMap fun g => if g.2 = l then some g.1 else none
    let firsts := (List.range 16).filterMap fun p => if got.contains p then w.find? (fun c => c.part == p) else none
    let ordered := w.filter fun c => firsts.contains c
    (ordered.take (s.acceptLimit (sl * 64 + l))).map fun c => (c.part, l, c)).flatten

/-- The matcher's tick: pointers, matches, counters; a slot that a stopped or retired channel would carry is left unmatched
(R241, R253). -/
def State.matchTick (s : State) (sl : Nat) : State :=
  let live := (List.range 16).filter fun p => s.deliveryLive sl p
  let re := (s.retries sl).filter fun r => live.contains r.1
  let slots := live.filter fun p => !(re.any fun r => r.1 == p)
  let win := ((List.range 64).map fun l => (l, s.window (sl * 64 + l))).filter fun w => !w.2.isEmpty
  let ports := win.map (·.1)
  let m1 := s.matchIter sl win slots ports
  let s := m1.foldl (fun s m => s.modSlice sl fun x => { x with grantPtr := x.grantPtr.set 0 m.1 ((m.2.1 + 1) % 64) }) s
  let slots2 := slots.filter fun p => !(m1.any fun m => m.1 == p)
  let ports2 := ports.filter fun l => !(m1.any fun m => m.2.1 == l)
  let m2 := s.matchIter sl win slots2 ports2
  let slots3 := slots2.filter fun p => !(m2.any fun m => m.1 == p)
  let ports3 := ports2.filter fun l => !(m2.any fun m => m.2.1 == l)
  let m3 := s.matchIter sl win slots3 ports3
  let stopped := ((List.range 16).filter fun p => s.readable p && !s.deliveryLive sl p).length
  let idle := slots3.length - m3.length + stopped
  let s := ((s.bumpBy .matchAccepts (sl * 4 + 1) m1.length).bumpBy .matchAccepts (sl * 4 + 2) m2.length).bumpBy
    .matchAccepts (sl * 4 + 3) m3.length
  let s := s.bumpBy .matchIdleSlots sl idle
  s.modSlice sl fun x =>
    { x with matchAt := some s.tickStamp
             matched := re ++ (m1 ++ m2 ++ m3).map fun m => (m.1, sl * 64 + m.2.1, m.2.2.cid, m.2.2.idx) }

/-- Cells that can never be requested enter their port's window now (second case of R245). -/
def State.markWindow (s : State) (sl : Nat) : State :=
  (((List.range 64).flatMap fun l => s.windowAll (sl * 64 + l)).filter (·.lost)).foldl (fun s w =>
    s.modCopyD w.cid fun c => { c with readAt := c.readAt ++ [(w.idx, s.tickStamp)] }) s

/-- PORT_MATCH (R241): once in a worked tick. -/
def execPortMatch (slice : Nat) (s : State) : Host.Outcome State Fault Refusal :=
  onUnit (decide (slice < 16)) slice
    (if s.worked && s.sliceLive slice && (s.slice slice).matchAt != some s.tickStamp then
       (s.matchTick slice).markWindow slice
     else s)

/-! ## Stage B (R242, R243) -/

/-- The cell delivered and held; its release is issued (R242). -/
def State.deliver (s : State) (cid idx : Nat) (poison : Bool) : State :=
  let first := match s.copy cid with | some c => !(c.readAt.any fun e => e.1 == idx) | none => false
  ((s.uncharge cid (b2n first)).releaseCells cid freeStageB [idx]).modCopyD cid fun c =>
    { c with readAt := c.readAt.filter (fun e => e.1 != idx) ++ [(idx, s.tickStamp)], held := c.held ++ [idx]
             retry := c.retry.filter (· != idx), poison := if poison then c.poison ++ [idx] else c.poison }

/-- The read issued and not accepted: its C_q charge ends, nothing is released (R217, R243). -/
def State.issueOnly (s : State) (cid idx : Nat) (again : Bool) : State :=
  match s.copy cid with
  | none => s
  | some c =>
    let was := c.readAt.any fun e => e.1 == idx
    (s.uncharge cid (b2n !was)).modCopyD cid fun c =>
      { c with readAt := c.readAt.filter (fun e => e.1 != idx) ++ [(idx, s.tickStamp)]
               retry := if again then c.retry ++ [idx] else c.retry.filter (· != idx)
               retried := if again then c.retried ++ [idx] else c.retried }

/-- The cell's own poison (R230, R435). -/
def State.cellPoison (s : State) (cid idx : Nat) : Bool :=
  match (s.copy cid).bind fun c => (s.pkt c.pkt).bind fun p => p.cells[idx]? with
  | some x => x.poison
  | none => false

def State.stageBTransfer (s : State) (sl p port cid idx : Nat) (err : XferErr) : State :=
  let ch := chanNo sl 1 (stageBChan p sl s.tickStamp)
  let s := s.modSlice sl fun x => { x with matched := x.matched.filter fun m => m.1 != p }
  let s := (s.bump .channelCells ch).xferError ch err
  match s.copy cid with
  | none => s.bump .reseqLateDiscard (port / 64)
  | some c =>
    if c.expired then s.bump .reseqLateDiscard (port / 64)
    else match err with
    | .good | .corrected => s.deliver cid idx (s.cellPoison cid idx)
    | .ueData =>
      if c.retried.contains idx then s.deliver cid idx true else s.issueOnly cid idx true
    | .ueHeader => (s.issueOnly cid idx false).bump .trellisHeaderLoss sl

/-- STAGE_B_READ (R242): the slot of a partition matched in an earlier tick, after stage A, on the channel that this tick gives; a
read without a bank cycle, or whose channel is not live, waits for the next worked tick (R14, R253). -/
def execStageBRead (slice part : Nat) (err : XferErr) (s : State) : Host.Outcome State Fault Refusal :=
  onUnit (decide (slice < 16) && decide (part < 16)) slice
    (if s.worked && s.sliceLive slice && (s.slice slice).matchAt != some s.tickStamp && !s.stageAOpen then
       match (s.slice slice).matched.find? fun m => m.1 == part with
       | some m =>
         if s.chanReads slice part s.tickStamp && s.readCycle m.2.2.1 m.2.2.2 then
           (s.useReadCycle m.2.2.1 m.2.2.2).stageBTransfer slice part m.2.1 m.2.2.1 m.2.2.2 err
         else s
       | none => s
     else s)

/-! ## Release (R244) -/

/-- Cells of a copy in all: those of the packet, or those a truncated mirror copy covers (R252). -/
def copyCells (c : Copy) (p : Pkt) : Nat :=
  if c.trunc = 0 then p.cells.length else min p.cells.length (cellCount c.trunc)

/-- Records that an open copy holds. -/
def State.heldRecords (s : State) (cid : Nat) : Nat :=
  match s.copy cid with
  | none => 0
  | some c =>
    match s.pkt c.pkt with
    | none => 0
    | some p => if c.records = 0 then 0 else if p.cells.all (·.written) then copyCells c p - c.out else c.records

/-- Cell `i` is held since before this tick. -/
def State.heldCell (s : State) (c : Copy) (i : Nat) : Bool :=
  c.held.contains i && (c.readAt.any fun e => e.1 == i && decide (e.2 < s.tickStamp))

/-- How many cells from `from` on are held in order, at most `fuel`. -/
def State.heldRun (s : State) (c : Copy) (fuel start : Nat) : Nat :=
  match fuel with
  | 0 => 0
  | fuel + 1 => if s.heldCell c start then 1 + s.heldRun c fuel (start + 1) else 0

/-- The copy may start its release: all cells held, or the first CT_START of a cut-through copy (R244). -/
def State.releasable (s : State) (c : Copy) (p : Pkt) : Bool :=
  let n := copyCells c p
  if c.cut then decide (min (s.cutThrough c.port).2 n ≤ s.heldRun c n 0)
  else p.cells.all (·.written) && decide (n ≤ s.heldRun c n 0)

/-- The copy stood behind one whose numbers a rollback of this tick has voided: they are passed over from the next (R199,
R244). -/
def State.behindVoid (s : State) (port cid : Nat) : Bool :=
  let v := s.voided port
  v.1 == s.tickStamp + 1 && v.2.contains cid

/-- Cells of the first open copy of a port released, at most `budget`, and then of the next where it is released whole,
`fuel` copies at most; what is left of the budget. -/
def State.releasePort (s : State) (fuel port budget : Nat) : State × Nat :=
  match fuel with
  | 0 => (s, budget)
  | fuel + 1 =>
    match (s.openList port).head? with
    | none => (s, budget)
    | some cid =>
      match s.copy cid with
      | none => (s, budget)
      | some c =>
        match s.pkt c.pkt with
        | none => (s, budget)
        | some p =>
          if budget = 0 || s.behindVoid port cid || (c.phase == .handed && !s.releasable c p) then (s, budget)
          else
            let n := copyCells c p
            let k := min budget (s.heldRun c (n - c.out) c.out)
            let c' := { c with out := c.out + k, records := c.records - k
                               phase := if c.phase = .handed then .released else c.phase }
            let s := if c.phase = .handed then s.putReleased (port / 16) (s.released (port / 16) ++ [cid]) else s
            let s := s.putCopy cid (some c')
            if n ≤ c'.out ∧ p.cells.all (·.written) then
              (s.putOpenList port ((s.openList port).filter (· != cid))).releasePort fuel port (budget - k)
            else (s, budget - k)

def State.releaseTick (s : State) (sl : Nat) : State :=
  let s := s.modSlice sl fun x => { x with releaseAt := some s.tickStamp }
  ((List.range 64).foldl (fun (a : State × Nat) l => a.1.releasePort 2 (sl * 64 + l) a.2) (s, 16)).1

/-- RESEQ_RELEASE (R244): once in a worked tick. -/
def execReseqRelease (slice : Nat) (s : State) : Host.Outcome State Fault Refusal :=
  onUnit (decide (slice < 16)) slice
    (if s.worked && s.sliceLive slice && (s.slice slice).releaseAt != some s.tickStamp then s.releaseTick slice else s)

/-! ## Missing cells (R245, R246) -/

/-- The first missing cell of a copy: issued, or in the window, 2,048 ticks ago and not held. -/
def State.missing (s : State) (c : Copy) : Option Nat :=
  (c.readAt.find? fun e => !c.held.contains e.1 && decide (c.out ≤ e.1) && decide (e.2 + 2048 ≤ s.tickStamp)).map (·.1)

/-- A cell whose location cannot be known stays allocated, an orphan of the slice (R246). -/
def State.orphanCells (s : State) (sl : Nat) (c : Copy) (p : Pkt) : State :=
  let cells := (c.unreleased p).filterMap fun i => (p.cells[i]?).bind (·.cell)
  s.putOrphans sl (s.orphans sl ++ cells.filter s.descPoisoned)

/-- Data of the copy still on its way is discarded as it arrives: its matched slots stay. A copy that has begun keeps the
cause of a stomp it has already met (R205). A cell that is an orphan is released no more (R246). -/
def State.reseqExpire (s : State) (cid idx : Nat) (c : Copy) (p : Pkt) : State :=
  let sl := c.port / 64
  let lost := ((p.cells[idx]?).bind (·.cell)).getD 0
  let num := if s.descPoisoned lost then 0 else lost
  let s := ((s.bump .reseqTimeout sl).raise srcReseqTimeout sl (BitVec.ofNat 64 num)).orphanCells sl c p
  let rel := (c.unreleased p).filter fun i =>
    match (p.cells[i]?).bind (·.cell) with | some n => !s.descPoisoned n | none => false
  let late := (s.slice sl).matched
  let s := (s.releaseCells cid freeTimeout rel).modCopyD cid fun c => { c with read := c.read ++ c.unreleased p }
  if c.begun then
    ((s.uncharge cid c.charged).modCopyD cid fun c =>
      { c with records := 0, held := [], expired := true, stomp := if c.stomp = 0 then 4 else c.stomp
               stompAt := if c.stomp = 0 then s.tickStamp else c.stompAt }).putOpenList c.port
      ((s.openList c.port).filter (· != cid))
  else
    (s.dropCopy cid freeTimeout).modSlice sl fun x => { x with matched := late }

/-- RESEQ_TIMEOUT (R246), once for a copy; the numbers of a rolled-back copy never reach it (R199). -/
def execReseqTimeout (cid : Nat) (s : State) : Host.Outcome State Fault Refusal :=
  match s.copy cid with
  | none => .next s
  | some c =>
    if c.expired || c.phase == .done || c.stomp == 1 then .next s
    else
    match s.pkt c.pkt, s.missing c with
    | some p, some idx => .next (s.reseqExpire cid idx c p)
    | _, _ => .next s

/-! ## Retirement and restoration (R253, R255) -/

/-- Step 1 at its boundary. -/
def State.applyElemStop (s : State) (e : Element) (limit : Nat) : State :=
  match e with
  | .partition p => s.modPart p fun q =>
      { q with life := .draining, stopEpoch := s.clock.epoch, drainLimit := limit, drained := false, forced := false }
  | .channel sl st c => s.putChan (chanNo sl st c) .draining

/-- The restore at its boundary. One of a partition whose restoring goes on changes nothing (log 93). -/
def State.applyElemRestore (s : State) (e : Element) : State :=
  match e with
  | .channel sl st c =>
    ((s.putChan (chanNo sl st c) .live).clearPermanence srcTrellisUe (chanNo sl st c)).note srcChannelRestored
      (chanNo sl st c) 0
  | .partition p =>
    let s := ((s.clearPermanence srcDoubleFree p).clearPermanence srcForeignFree p).clearPermanence srcCellStatePoison p
    if (s.part p).life = .retired then
      s.modPart p fun q => { q with life := .restoring, drained := false, rebuildFrom := some s.now }
    else if (s.part p).life = .restoring then s
    else s.modPart p fun q => { q with life := .live, drained := false }

/-- A restore of the element takes effect at this boundary: a retirement in steps 1 or 2 is cancelled (R255). -/
def State.restoreDue (s : State) (obj : Nat × Nat) : Bool :=
  s.changes.any fun p => decide (p.epoch ≤ s.clock.epoch) && p.objs.contains obj
    && (match p.change with | .elemRestore _ => true | _ => false)

/-- The cells of a partition count as used no more (R253 step 3, R255). -/
def State.endCharges (s : State) (p : Nat) : State :=
  ((s.part p).used.foldl (fun s e => s.putPoolUsed e.1 (s.poolUsed e.1 - e.2)) s).modPart p fun q => { q with used := [] }

/-- Step 3 and the end of a restore, at each boundary, before the changes due: channels stopped at an earlier one retire,
drained partitions retire, rebuilt partitions return. -/
def State.elemBoundary (s : State) : State :=
  let chans := s.pk.chans.keysWhere fun c l => l == .draining && !s.restoreDue (objChan c)
  let s := chans.foldl (fun s c => (s.putChan c .retired).note srcChannelRetired c 0) s
  (List.range 16).foldl (fun s p =>
    let q := s.part p
    if q.life = .draining && q.drained && !s.restoreDue (objPart p) then
      ((s.endCharges p).modPart p fun q => { q with life := .retired, drained := false }).note srcPartitionRetired p 0
    else if q.life = .restoring ∧ q.drained then
      let s := s.putPart p { q with life := .live, drained := false }
      (s.raisePeak gaugeFreeCells p (s.freeCells p)).note srcPartitionRestored p 0
    else s) s

/-- The partition holds no allocated cell but quarantined ones, and its free queue is empty (R253). -/
def State.drainEmpty (s : State) (p : Nat) : Bool :=
  !(s.pk.cells.any fun e => cellPart e.1 == p && e.2.alloc && !e.2.quarantined) && (s.part p).queue.isEmpty

/-- PARTITION_DRAIN_END (R253). -/
def execPartitionDrainEnd (part : Nat) (s : State) : Host.Outcome State Fault Refusal :=
  onUnit (decide (part < 16)) part
    (if (s.part part).life == .draining && s.drainEmpty part then s.modPart part fun q => { q with drained := true }
     else s)

/-- The copy holds a cell of partition `p` that it has not released. -/
def State.holdsPart (s : State) (c : Copy) (p : Nat) : Bool :=
  match s.pkt c.pkt with
  | some k => (c.unreleased k).any fun i =>
      match (k.cells[i]?).bind (·.cell) with | some n => cellPart n == p | none => false
  | none => false

/-- Every copy that holds a cell of `p` and has not begun is dropped (R253). -/
def State.forceDrain (s : State) (p : Nat) : State :=
  let cids := s.pk.copies.keysWhere fun _ c => match c with | some c => s.holdsPart c p && !c.begun | none => false
  let s := cids.foldl (fun s cid =>
    match s.copy cid with
    | some c => (s.bump .retireFlush (c.port / 64)).dropCopy cid freeFlush
    | none => s) s
  (s.modPart p fun q => { q with forced := true }).note srcRetireDrainForced p 0

/-- DRAIN_LIMIT_EXPIRY (R253). -/
def execDrainLimitExpiry (part : Nat) (s : State) : Host.Outcome State Fault Refusal :=
  let q := s.part part
  onUnit (decide (part < 16)) part
    (if q.life == .draining && !q.drained && !q.forced && decide (q.stopEpoch + q.drainLimit ≤ s.clock.epoch) then
       s.forceDrain part
     else s)

/-- Every entry of the partition cleared, its free lists rebuilt, its charges ended (R255). -/
def State.clearPartition (s : State) (p : Nat) : State :=
  let s := s.endCharges p
  let s := { s with pk := { s.pk with cells := s.pk.cells.keep fun n => cellPart n != p
                                      orphans := s.pk.orphans.map fun (e : Nat × List Nat) =>
                                        (e.1, e.2.filter fun n => cellPart n != p) } }
  let s := { s with pk := { s.pk with orphans := s.pk.orphans.filter fun e => !e.2.isEmpty } }
  let s := { s with pk := { s.pk with data := s.pk.data.keep fun n => cellPart n != p } }
  s.modPart p fun q => { q with heads := [], fresh := [], freed := [], queue := [], used := [], rebuilding := [], drained := true
                                rebuildFrom := none }

/-- PARTITION_REBUILD_DONE (R255). -/
def execPartitionRebuildDone (part : Nat) (s : State) : Host.Outcome State Fault Refusal :=
  onUnit (decide (part < 16)) part
    (if (s.part part).life == .restoring && !(s.part part).drained then s.clearPartition part else s)

/-! ## Commands (R249, R255, R257, R260) -/

/-- Range check of an element: the number refused with ACCESS_VIOLATION, if any. -/
def elemRange (e : Element) : Option Nat :=
  match e with
  | .partition p => if p < 16 then none else some p
  | .channel sl st c => if 16 ≤ sl then some sl else if 2 ≤ st then some st else if 16 ≤ c then some c else none

/-- The element lies in a fenced slice (R429). -/
def State.elemFenced (s : State) (e : Element) : Bool :=
  match e with
  | .partition _ => false
  | .channel sl _ _ => !s.sliceLive sl

def cmdTrellisRetire (e : Element) (drainLimit : Nat) : Cmd :=
  (Cmd.set 0x0660 (e, drainLimit) fun h s =>
    needRange (elemRange e) <|
    Rule.need (drainLimit == 0 || (decide (16 ≤ drainLimit) && decide (drainLimit ≤ 65535))) .param <|
    Rule.need (s.mayRetire e && !s.reactedNow (.trellis e)) .conflict <|
    .at [elemObj e] (s.noteUnit (.trellis e) 0x0660 h) [.elemStop e (if drainLimit = 0 then 256 else drainLimit)]).fence fun s => s.elemFenced e

/-- An element's restore, by TRELLIS_RESTORE or UNIT_RESTORE; a RETIRE of the same tick would still refuse it (R255). -/
def State.restoreElem (s : State) (e : Element) (op : Nat) (h : Hdr) : Rule :=
  needRange (elemRange e) <|
  Rule.need (!s.elemLive e && !s.reactedNow (.trellis e)) .conflict <|
  .at [elemObj e] (s.noteUnit (.trellis e) op h) [.elemRestore e]

def cmdTrellisRestore (e : Element) : Cmd :=
  (Cmd.set 0x0661 e fun h s => s.restoreElem e 0x0661 h).fence fun s => s.elemFenced e

/-- The state that TRELLIS_STATUS_GET shows: DRAINING from E while the drain goes on, STOPPED once it has ended and the retirement
awaits its boundary; a channel's drain ends with tick 0 of E (R253, R260; DESIGN CHOICE, log 102). -/
def State.elemShown (s : State) (e : Element) : ElemLife :=
  match s.elemLife e with
  | .draining =>
    (match e with
     | .partition p => if (s.part p).drained then .stopped else .draining
     | .channel _ _ _ => if s.clock.tick = 0 then .draining else .stopped)
  | l => l

/-- State codes of TRELLIS_STATUS_GET. -/
def ElemLife.code (l : ElemLife) : Nat :=
  match l with | .live => 0 | .stopped => 1 | .draining => 2 | .retired => 3 | .restoring => 4

/-- The permanent flag of an element (R259, R423). -/
def State.elemPermanent (s : State) (e : Element) : Bool :=
  match e with
  | .partition p => (s.faultInst (instKey srcDoubleFree p)).permanent || (s.faultInst (instKey srcForeignFree p)).permanent
      || (s.faultInst (instKey srcCellStatePoison p)).permanent
  | .channel sl st c => (s.faultInst (instKey srcTrellisUe (chanNo sl st c))).permanent

def cmdTrellisStatusGet (e : Element) : Cmd :=
  .get 0x0662 e fun _ s =>
    needRange (elemRange e) <| .reply s [(s.elemShown e).code, b2n (s.elemPermanent e)]

/-- The slice mask and port lists of a set of member ports (R249): the slices with a list are those of the mask. -/
def listsOf (members : List Nat) : Arr (BitVec 64) :=
  members.foldl (fun a p => a.set 0 (p / 64) (a.get 0 (p / 64) ||| BitVec.ofNat 64 (1 <<< (p % 64)))) []

/-- The 16-bit mask of egress slices (R249). -/
def McastGroup.mask (g : McastGroup) : BitVec 16 := BitVec.ofNat 16 (g.lists.foldl (fun a e => a ||| 1 <<< e.1) 0)

/-- The member ports, by slice and local port. -/
def McastGroup.members (g : McastGroup) : List Nat :=
  g.lists.flatMap fun e => ((List.range 64).filter fun i => bit e.2 i).map fun i => e.1 * 64 + i

/-- Lists in use: those in force, and those that groups accepted and still due will bring (R249). -/
def State.listsUsed (s : State) : Nat :=
  (s.pk.groups.map fun e => match e.2 with | some g => g.lists.length | none => 0).sum
    + (s.changes.map fun p => match p.change with | .mcastSet _ _ m => (listsOf m).length | _ => 0).sum

def cmdMcastGroupSet (group : Nat) (self : Bool) (members : List Nat) : Cmd :=
  .mirrored 0x0663 (.mcastGroupSet group self members) fun _ s =>
    Rule.need (decide (group < 65536)) (.access group) <|
    needRange (members.find? fun p => decide (1024 ≤ p)) <|
    Rule.need (decide (members.length ≤ 1024)) .param <|
    Rule.need (members.all s.isPort) .missing <|
    Rule.need (decide (s.listsUsed + (listsOf members).length ≤ 131072)) .full <|
    .at [objGroup group] s [.mcastSet group self members]

def cmdMcastGroupGet (group : Nat) : Cmd :=
  (Cmd.get 0x0664 group fun _ s =>
    Rule.need (decide (group < 65536)) (.access group) <|
    match s.mgroup group with
    | some g => .reply s (b2n g.self :: g.members)
    | none => .missing).upTo 1025

def cmdMcastGroupDelete (group : Nat) : Cmd :=
  .mirrored 0x0665 (.mcastGroupDelete group) fun _ s =>
    Rule.need (decide (group < 65536)) (.access group) <|
    Rule.need (s.mgroup group).isSome .missing <| .at [objGroup group] s [.mcastDelete group]

def cmdCutThroughSet (port : Nat) (en : Option Bool) (start : Option Nat) : Cmd :=
  .set 0x0666 (port, en, start) fun _ s =>
    Rule.need (decide (port < 1024)) (.access port) <|
    Rule.need (match start with | some n => decide (1 ≤ n) && decide (n ≤ 8) | none => true) .param <|
    Rule.need (s.isPort port) .missing <|
    .at [objCut port] s [.cutThrough port en start]

def State.applyCutThrough (s : State) (port : Nat) (en : Option Bool) (start : Option Nat) : State :=
  s.modCutThrough port fun x => (en.getD x.1, start.getD x.2)

def trellisStatsRule (sel : StatsSel) (clear : Bool) (s : State) : Rule :=
  let i := sel.index
  match sel.kind with
  | 0 =>
    Rule.need (decide (i < 16)) (.access i) <|
    statsRule s [(.stageACells, i), (.stageAFull, i), (.matchAccepts, i * 4 + 1), (.matchAccepts, i * 4 + 2)
      , (.matchAccepts, i * 4 + 3), (.matchIdleSlots, i), (.reseqTimeout, i), (.reseqLateDiscard, i)
      , (.trellisHeaderLoss, i), (.retireFlush, i), (.mcastStaleMember, i)] [(s.orphans i).length] clear
  | 1 =>
    Rule.need (decide (i < 16)) (.access i) <|
    Rule.need (decide (sel.sub < 32)) (.access sel.sub) <|
    let c := i * 32 + sel.sub
    statsRule s [(.channelCE, c), (.channelUE, c), (.channelCells, c)] [] clear
  | 2 =>
    Rule.need (decide (i < 1024)) (.access i) <|
    Rule.need (s.isPort i) .missing <|
    statsRule s [(.cutThroughStarted, i), (.cutThroughUnderrun, i), (.mcastDropQueue, i), (.mcastDropDown, i)
      , (.mcastDropHold, i), (.mcastDropLate, i)] [] clear
  | _ => .param

def cmdTrellisStatsGet (sel : StatsSel) (clear : Bool) : Cmd :=
  .stats 0x0667 clear sel fun _ s => trellisStatsRule sel clear s

end Sys2Proof.Machine
end

