-- ==== Sys2Proof/Machine/Parser.lean ====
section
/-! DEFINITION. Liveness of versioned slots, the parser, extracts and keys, run-ahead launches and their replay, and the
ternary search (R103 to R116, R125, spec/05_parser_rules.md; R153, R154, spec/06_table_store.md; R194,
spec/08_runahead.md). -/

namespace Sys2Proof.Machine

/-! ## Liveness (R125) -/

def Stamp.born (t : Stamp) (v : BitVec 16) : Bool := !(t.birthSet && decide (0x8000 ≤ (v - t.birth).toNat))

def Stamp.dead (t : Stamp) (v : BitVec 16) : Bool := t.deathSet && decide ((v - t.death).toNat < 0x8000)

def ObjSlot.live (o : ObjSlot) (v : BitVec 16) : Bool := o.valid && o.stamp.born v && !o.stamp.dead v

/-- Object kinds (log 9) and the key of a slot in the store. -/
def kindIngress : Nat := 0
def kindEgress : Nat := 1
def kindParse : Nat := 2
def kindInKey : Nat := 3
def kindEgKey : Nat := 4
def kindEdit : Nat := 5
def kindTemplate : Nat := 6
def kindMirror : Nat := 7
def kindBind : Nat := 8
def kindPrefix : Nat := 9

def objKey (kind slot : Nat) : Nat := kind * 2 ^ 20 + slot

/-- The slots of a kind that hold something, in slot order: slot and contents. -/
def State.slotsOf (s : State) (kind : Nat) : List (Nat × ObjSlot) :=
  s.rules.objs.filterMap fun (e : Nat × ObjSlot) => if e.1 / 2 ^ 20 = kind then some (e.1 % 2 ^ 20, e.2) else none

/-- The object of an ID that is live in version `v`. -/
def State.objById (s : State) (kind id : Nat) (v : BitVec 16) : Option ObjVal :=
  ((s.slotsOf kind).find? fun e => e.2.id == id && e.2.live v).map fun e => e.2.val

/-! ## The parser (R104 to R107) -/

/-- The lowest live entry of the state that matches the lookahead word (R106). -/
def State.parseEntry (s : State) (v : BitVec 16) (st la : Nat) : Option (BitVec 128) :=
  (s.slotsOf kindParse).findSome? fun e =>
    match e.2.val with
    | .parse r =>
      if e.2.live v && bit r 56 && fld r 127 121 == st
          && (BitVec.ofNat 32 la &&& BitVec.ofNat 32 (fld r 88 57))
            == (BitVec.ofNat 32 (fld r 120 89) &&& BitVec.ofNat 32 (fld r 88 57))
      then some r else none
    | _ => none

/-- Length of the header at `pos` under entry `r` (R105, R106). -/
def hdrLen (f : List Byte) (pos : Nat) (r : BitVec 128) : Nat :=
  if fld r 49 48 = 0 then fld r 47 42
  else ((wordAt f (pos + fld r 47 42) 2 >>> fld r 37 34) % 2 ^ (fld r 41 38 + 1)) * 2 ^ fld r 33 32 + fld r 31 26

/-- An END entry's profiles take effect with the last header resolved (DESIGN CHOICE, log 108). The parse from position `pos` in state `st` with lookahead offset `la` (in bytes), `fuel` positions further. -/
def State.parseFrom (s : State) (v : BitVec 16) (f : List Byte) (fuel pos st la em lpm : Nat) (p : Parse) : Parse :=
  match fuel with
  | 0 => p
  | fuel + 1 =>
    if beyondWindow f.length (pos + la) 4 then { p with err := 2 }
    else match s.parseEntry v st (wordAt f (pos + la) 4) with
    | none => { p with err := 1 }
    | some r =>
      let em' := if fld r 14 10 = 0 then em else fld r 14 10
      let lpm' := if fld r 9 6 = 0 then lpm else fld r 9 6
      let cls' := if fld r 5 1 = 0 then p.cls else fld r 5 1
      let n := p.headers.length
      if fld r 49 48 = 2 then { p with cls := cls', sets := p.sets ++ [(n, em', lpm')] }
      else if n = 24 then { p with err := 3 }
      else if fld r 49 48 = 1 && beyondWindow f.length (pos + fld r 47 42) 2 then { p with err := 2 }
      else
        let len := hdrLen f pos r
        if len = 0 ∨ f.length < pos + len then { p with err := 4 }
        else if 256 < pos + len then { p with err := 2 }
        else
          let p := { p with headers := p.headers ++ [(fld r 55 50, pos, len)], cls := cls'
                            sets := p.sets ++ [(n + 1, em', lpm')] }
          if fld r 25 19 = 127 then p
          else s.parseFrom v f fuel (pos + len) (fld r 25 19) (4 * fld r 18 15) em' lpm' p

/-- The entries live in the version are those of the default program and no others. -/
def State.defaultOnly (s : State) (v : BitVec 16) : Bool :=
  !s.rules.program.isEmpty
    && (((s.slotsOf kindParse).filter fun e => e.2.live v).map fun e => (e.1, e.2.val))
      == s.rules.program.zipIdx.map fun (e : BitVec 128 × Nat) => (e.2, ObjVal.parse e.1)

/-- The parse of a frame: it starts in state 0 with lookahead offset 0 (R106); the default program while it stands whole
(R519). -/
def State.parse (s : State) (v : BitVec 16) (f : List Byte) : Parse :=
  if s.defaultOnly v then defParse f
  else s.parseFrom v f 26 0 0 0 0 0 { headers := [], err := 0, cls := 0, sets := [] }

/-! ## The metadata block (R109) -/

/-- Bit t set where header type t was resolved. -/
def hdrPresent (hs : List (Nat × Nat × Nat)) : Nat := hs.foldl (fun a h => a ||| 1 <<< h.1) 0

/-- The 32 bytes of header type 63; the egress fields are 0 in the ingress pipe. -/
def metaBytes (p : Pkt) (egPort egQueue : Nat) : List Byte :=
  beBytes 2 p.port ++ beBytes 1 p.pass ++ beBytes 1 p.parseErr ++ beBytes 2 p.version.toNat ++ beBytes 2 p.frameLen
    ++ beBytes 2 p.metaVal.toNat ++ beBytes 1 p.headers.length ++ beBytes 1 p.cipher
    ++ beBytes 8 (hdrPresent p.headers) ++ beBytes 2 egPort ++ beBytes 2 egQueue ++ beBytes 8 0

/-! ## Extracts and keys (R110) -/

/-- What an extract reads: the frame, the headers resolved when the key launches, and the metadata block. -/
structure KeyCtx where
  frame : List Byte
  headers : List (Nat × Nat × Nat)
  info : List Byte
deriving DecidableEq, Repr

/-- The named instance of a header type: first, second, third or last. -/
def instanceOf (hs : List (Nat × Nat × Nat)) (t i : Nat) : Option (Nat × Nat × Nat) :=
  let l := hs.filter fun h => h.1 == t
  if i = 3 then l.getLast? else l[i]?

/-- What an extract reads; INSTANCE is not looked at for the metadata block (DESIGN CHOICE, log 108). -/
def extract (k : KeyCtx) (e : BitVec 32) : Nat :=
  let src := fld e 31 26
  let off := fld e 23 18
  let mask := fld e 15 0
  if src = 0 then mask
  else if src = 63 then wordAt k.info off 2 &&& mask
  else match instanceOf k.headers src (fld e 25 24) with
    | none => 0
    | some h => wordAt (k.frame.take 256) (h.2.1 + off) 2 &&& mask

/-- A key from its extracts, the first in the top 16 bits. -/
def keyOf (k : KeyCtx) (es : List (BitVec 32)) : Nat := es.foldl (fun a e => a * 65536 + extract k e) 0

/-- The 64 comparator results of a range group (R113, R116). -/
def State.rangeVector (s : State) (k : KeyCtx) (group : Nat) : BitVec 64 :=
  BitVec.ofNat 64 ((List.range 64).foldl (fun a i =>
    let c := s.range (64 * group + i)
    let v := extract k c.extract
    if c.low ≤ v ∧ v ≤ c.high then a ||| 1 <<< i else a) 0)

/-! ## Ternary search (R113, R115) -/

def ruleHits (r : RuleRec) (key : BitVec 320) (vec : BitVec 64) : Bool :=
  (key &&& r.mask) == (r.key &&& r.mask) && (vec &&& r.rangeMask) == (r.rangeVal &&& r.rangeMask)

/-- The address of R436 of a ternary row, comparator or action record of a replica (`part` 0 ingress row, 1 egress row,
2 comparator, 3 action). -/
def ternaryAddr (replica part number : Nat) : BitVec 64 := BitVec.ofNat 64 (11 <<< 60 ||| replica <<< 32 ||| part <<< 30 ||| number)

/-- The row's match bits cannot be trusted: it is poisoned, or it compares a poisoned comparator (R435). -/
def State.rowPoisoned (s : State) (replica dir slot group : Nat) (r : RuleRec) : Bool :=
  s.faults.poisoned.contains (ternaryAddr replica dir slot) ||
    (List.range 64).any fun i => bit r.rangeMask i && s.faults.poisoned.contains (ternaryAddr replica 2 (64 * group + i))

/-- The number of a rule's action record in action memory: the egress records follow the ingress ones (log 14). -/
def actionNo (dir slot : Nat) : Nat := if dir = 0 then slot else 12288 + slot

/-- What a search finds: the winning rule's slot and record, or a poison trap with its address (R115, R431, R435). -/
inductive Found where
  | none
  | rule (slot : Nat) (r : RuleRec)
  | trap (addr : BitVec 64)
deriving DecidableEq, Repr

/-- The rows that match a search, poisoned ones included, as (slot, record, poisoned). -/
def State.matching (s : State) (replica dir group : Nat) (v : BitVec 16) (key : BitVec 320) (vec : BitVec 64) :
    List (Nat × RuleRec × Bool) :=
  (s.slotsOf dir).filterMap fun e =>
    match e.2.val with
    | .rule r =>
      let bad := s.rowPoisoned replica dir e.1 group r
      if e.2.live v && (bad || ruleHits r key vec) then some (e.1, r, bad) else none
    | _ => none

/-- The highest priority wins, between equal priorities the lower slot (R115); `l` is in slot order. -/
def winner (l : List (Nat × RuleRec × Bool)) : Option (Nat × RuleRec × Bool) :=
  l.foldl (fun best e => match best with | none => some e | some b => if b.2.1.prio < e.2.1.prio then some e else some b)
    none

def State.ternary (s : State) (replica dir group : Nat) (v : BitVec 16) (key : BitVec 320) (vec : BitVec 64) : Found :=
  match winner (s.matching replica dir group v key vec) with
  | none => .none
  | some (slot, r, bad) =>
    if bad then .trap (ternaryAddr replica dir slot)
    else if s.faults.poisoned.contains (ternaryAddr replica 3 (actionNo dir slot)) then
      .trap (ternaryAddr replica 3 (actionNo dir slot))
    else .rule slot r

/-- The search under key profile `prof` of a direction, in the replica of slice `sl`; none where the profile is not live. -/
def State.classify (s : State) (sl dir prof : Nat) (v : BitVec 16) (k : KeyCtx) : Found :=
  match s.objById (kindInKey + dir) prof v with
  | some (.keyProf es group) =>
    s.ternary (sl / 2) dir group v (BitVec.ofNat 320 (keyOf k es)) (s.rangeVector k group)
  | _ => .none

/-! ## Run-ahead launches and replay (R111, R112, R194) -/

/-- A key to launch: exact-match rather than LPM, its profile set and lookup index, the headers resolved at the launch
(none: all, at parse end), the replay generation, whether a later profile set supersedes it, and whether it replays a key
launched before. -/
structure Launch where
  em : Bool
  prof : Nat
  idx : Nat
  pos : Option Nat
  gen : Nat
  old : Bool
  replay : Bool
deriving DecidableEq, Repr

/-- Headers resolved when a key with trigger `t` launches, in a set chosen once `start` headers were resolved. -/
def launchPos (hs : List (Nat × Nat × Nat)) (t start : Nat) : Option Nat :=
  if t = 0 then none else (hs.findIdx? fun h => h.1 == t).map fun j => max (j + 1) start

/-- Triggers of the valid lookups of a profile set, by lookup index. -/
def State.triggers (s : State) (em : Bool) (prof : Nat) : List (Nat × Nat) :=
  if prof = 0 then []
  else if em then
    (s.emProfile prof).lookups.zipIdx.filterMap fun l => if l.1.valid then some (l.2, l.1.trigger) else none
  else (s.lpmProfile prof).zipIdx.filterMap fun l => if l.1.valid then some (l.2, l.1.trigger) else none

/-- The launch position `k` stands: from header `late` on, keys wait for parse end (R194). -/
def notLate (late : Option Nat) (k : Nat) : Bool := match late with | some h => decide (k < h) | none => true

/-- Every launch of a set chosen at `start`. -/
def State.setLaunches (s : State) (hs : List (Nat × Nat × Nat)) (em : Bool) (prof start gen : Nat) (late : Option Nat) :
    List Launch :=
  (s.triggers em prof).map fun t =>
    { em := em, prof := prof, idx := t.1, pos := (launchPos hs t.2 start).filter (notLate late), gen := gen, old := false
      replay := false }

/-- Launches of a set that had gone out before header `h` was resolved. -/
def launchedBefore (h : Nat) (l : List Launch) : List Launch :=
  l.filterMap fun x =>
    match x.pos with
    | some k => if k < h then some { x with old := true } else none
    | none => none

/-- What the walk over the profile sets has come to. -/
structure Plan where
  em : Nat
  lpm : Nat
  emFrom : Nat
  lpmFrom : Nat
  gen : Nat
  late : Option Nat
  old : List Launch
deriving DecidableEq, Repr

/-- One entry of the parse path: keys already launched from a set it changes are replayed (R112). The fourth time the
generation, of 2 bits, stays, and the keys not yet launched wait for parse end (R194). -/
def State.planStep (s : State) (hs : List (Nat × Nat × Nat)) (q : Plan) (e : Nat × Nat × Nat) : Plan :=
  let h := e.1
  let oldEm := if e.2.1 = q.em then [] else launchedBefore h (s.setLaunches hs true q.em q.emFrom q.gen q.late)
  let oldLpm := if e.2.2 = q.lpm then [] else launchedBefore h (s.setLaunches hs false q.lpm q.lpmFrom q.gen q.late)
  let old := oldEm ++ oldLpm
  { em := e.2.1, lpm := e.2.2
    emFrom := if e.2.1 = q.em then q.emFrom else h, lpmFrom := if e.2.2 = q.lpm then q.lpmFrom else h
    gen := if old.isEmpty then q.gen else min 3 (q.gen + 1)
    late := if !old.isEmpty && q.gen == 3 then q.late.or (some h) else q.late, old := q.old ++ old }

/-- The launches of a packet: without run-ahead every key waits for parse end (R30). -/
def State.plan (s : State) (p : Parse) (runahead : Bool) : Plan :=
  p.sets.foldl (fun q e => s.planStep p.headers q e)
    { em := 0, lpm := 0, emFrom := 0, lpmFrom := 0, gen := 0, late := if runahead then none else some 0, old := [] }

/-- Every launch of a packet: those superseded, and those of its last profile sets. -/
def State.launches (s : State) (p : Parse) (q : Plan) : List Launch :=
  q.old ++ (s.setLaunches p.headers true q.em q.emFrom q.gen q.late
    ++ s.setLaunches p.headers false q.lpm q.lpmFrom q.gen q.late).map fun l =>
      { l with replay := q.old.any fun o => o.em == l.em && o.idx == l.idx }

/-- Headers an extract of a launch may read. -/
def Launch.headers (l : Launch) (hs : List (Nat × Nat × Nat)) : List (Nat × Nat × Nat) :=
  match l.pos with
  | some n => hs.take n
  | none => hs

/-- The address an LPM lookup reads: none where it lies beyond the resolved headers (R154). -/
def lpmAddress (k : KeyCtx) (l : LpmLookup) : Option (BitVec 128) :=
  let n := if l.family = 0 then 4 else 16
  match instanceOf k.headers l.hdr l.inst with
  | none => none
  | some h =>
    let stop := (k.headers.map fun x => x.2.1 + x.2.2).foldl max 0
    if h.2.1 + l.offset + n ≤ stop then some (BitVec.ofNat 128 (wordAt (k.frame.take 256) (h.2.1 + l.offset) n)) else none

/-- VRF of an LPM lookup (R154). -/
def lpmVrf (k : KeyCtx) (l : LpmLookup) : Nat := l.vrfConst.getD (extract k l.vrfExtract % 4096)

end Sys2Proof.Machine
end

