-- ==== Sys2Proof/Machine/Lookups.lean ====
section
/-! DEFINITION. The table store as lookups read it: keyed hashing, slots, searches, direct reads, LPM, flexible counters,
and the service of the banks (R135 to R161, spec/06_table_store.md; R15, R16, spec/01_architecture.md; R176,
spec/07_table_upkeep.md). -/

namespace Sys2Proof.Machine

/-! ## SipHash-1-3 (R146) -/

def rotl (x : BitVec 64) (n : Nat) : BitVec 64 := x.rotateLeft n

structure Sip where
  v0 : BitVec 64
  v1 : BitVec 64
  v2 : BitVec 64
  v3 : BitVec 64
deriving DecidableEq, Repr

def Sip.round (x : Sip) : Sip :=
  let v0 := x.v0 + x.v1
  let v1 := rotl x.v1 13 ^^^ v0
  let v0 := rotl v0 32
  let v2 := x.v2 + x.v3
  let v3 := rotl x.v3 16 ^^^ v2
  let v0 := v0 + v3
  let v3 := rotl v3 21 ^^^ v0
  let v2 := v2 + v1
  let v1 := rotl v1 17 ^^^ v2
  let v2 := rotl v2 32
  { v0 := v0, v1 := v1, v2 := v2, v3 := v3 }

/-- Eight bytes as a little-endian word. -/
def leWord (l : List Byte) : BitVec 64 := BitVec.ofNat 64 (ofBytes l.reverse)

def Sip.absorb (x : Sip) (m : BitVec 64) : Sip :=
  let y := { x with v3 := x.v3 ^^^ m }.round
  { y with v0 := y.v0 ^^^ m }

/-- The message words of SipHash: whole words, then the last bytes with the length on top. -/
def Sip.feed (total fuel : Nat) (x : Sip) (l : List Byte) : Sip :=
  match fuel with
  | 0 => x
  | fuel + 1 =>
    if l.length < 8 then x.absorb (leWord l ||| BitVec.ofNat 64 (total % 256 <<< 56))
    else Sip.feed total fuel (x.absorb (leWord (l.take 8))) (l.drop 8)

def siphash13 (seed : BitVec 128) (input : List Byte) : BitVec 64 :=
  let k0 := leWord (beBytes 8 (seed.toNat >>> 64))
  let k1 := leWord (beBytes 8 (seed.toNat % 2 ^ 64))
  let x : Sip := { v0 := k0 ^^^ 0x736f6d6570736575, v1 := k1 ^^^ 0x646f72616e646f6d
                   v2 := k0 ^^^ 0x6c7967656e657261, v3 := k1 ^^^ 0x7465646279746573 }
  let x := Sip.feed input.length (input.length / 8 + 1) x input
  let x := { x with v2 := x.v2 ^^^ 0xff }.round.round.round
  x.v0 ^^^ x.v1 ^^^ x.v2 ^^^ x.v3

/-- The bytes hashed for a key of a table: 17 or 41 (R146). -/
def hashInput (table width : Nat) (key : BitVec 320) : List Byte :=
  beBytes 1 table ++ (if width = 2 then beBytes 40 key.toNat else beBytes 16 (key.toNat % 2 ^ 128))

/-- The two candidate buckets of a key: bank and bucket of each (R146). -/
def State.buckets (s : State) (table : Nat) (key : BitVec 320) : (Nat × Nat) × (Nat × Nat) :=
  let r := (s.table table).rcd
  let input := hashInput table r.width key
  let h0 := (siphash13 r.seed0 input).toNat
  let h1 := (siphash13 r.seed1 input).toNat
  let bank0 := r.baseBank + h0 / 1024 % r.bankCount
  let bank1 := r.baseBank + h1 / 1024 % r.bankCount
  ((bank0, h0 % 1024), (if bank1 = bank0 then bank0 ^^^ 1 else bank1, h1 % 1024))

/-! ## Slots (R143, R144, R147) -/

def emIndex (bank bucket slot : Nat) : Nat := bank * 4096 + bucket * 4 + slot

def slotValid (b : BitVec 256) : Bool := bit b 255
def slotStatic (b : BitVec 256) : Bool := bit b 253
def slotTable (b : BitVec 256) : Nat := fld b 252 248
def slotHalf (b : BitVec 256) : Bool := bit b 208
def slotKey (b : BitVec 256) : Nat := fld b 207 80
def slotData (b : BitVec 256) : BitVec 80 := BitVec.ofNat 80 (fld b 79 0)
def slotStamp (b : BitVec 256) : Stamp :=
  { birth := BitVec.ofNat 16 (fld b 245 230), birthSet := bit b 247, death := BitVec.ofNat 16 (fld b 229 214)
    deathSet := bit b 246 }

/-- The slot's stamp lets version `v` see it; a table with VERSIONED = 0 ignores stamps. -/
def slotLive (versioned : Nat) (b : BitVec 256) (v : BitVec 16) : Bool :=
  versioned == 0 || ((slotStamp b).born v && !(slotStamp b).dead v)

/-- The slot (with its odd neighbour, for width 2) is in use and holds the key in the table, stamps apart. -/
def slotHolds (table width : Nat) (key : BitVec 320) (b odd : BitVec 256) : Bool :=
  slotValid b && slotTable b == table && !slotHalf b &&
    (if width = 2 then
       slotKey b == key.toNat >>> 192 && slotHalf odd && fld odd 207 16 == key.toNat % 2 ^ 192
     else slotKey b == key.toNat % 2 ^ 128)

/-- Where an entry lies: a slot of the exact-match store, or a stash slot (table x 64 + slot). -/
inductive Loc where
  | em (i : Nat)
  | stash (i : Nat)
deriving DecidableEq, Repr

def State.slotAt (s : State) (l : Loc) : EmSlot := match l with | .em i => s.emSlot i | .stash i => s.stashSlot i

def Loc.next (l : Loc) : Loc := match l with | .em i => .em (i + 1) | .stash i => .stash (i + 1)

/-- The address of R160 of an entry, a stash slot's in the copy of crossbar section `sec`. -/
def Loc.addrIn (l : Loc) (sec : Nat) : BitVec 64 :=
  match l with
  | .em i => faultAddr 1 (i / 4096) (i % 4096)
  | .stash i => faultAddr 2 (sec * 32 + i / 64) (i % 64)

/-- The address of an entry for which no requester names a section: a stash slot stands in section 0. -/
def Loc.addr (l : Loc) : BitVec 64 := l.addrIn 0

/-- The places of a key in reading order: bucket0, bucket1, stash, lower slot first; width 2 takes even slots (R147). -/
def State.places (s : State) (table : Nat) (key : BitVec 320) : List Loc :=
  let b := s.buckets table key
  let step := if (s.table table).rcd.width = 2 then 2 else 1
  let slots := (List.range 4).filter fun i => i % step == 0
  slots.map (fun i => Loc.em (emIndex b.1.1 b.1.2 i)) ++ slots.map (fun i => Loc.em (emIndex b.2.1 b.2.2 i))
    ++ ((List.range 64).filter fun i => i % step == 0).map fun i => Loc.stash (table * 64 + i)

/-- The place reads poisoned: either half of a width-2 entry. -/
def State.placePoisoned (s : State) (width : Nat) (l : Loc) : Bool :=
  (s.slotAt l).poison || (width == 2 && (s.slotAt l.next).poison)

def State.placeHolds (s : State) (table : Nat) (key : BitVec 320) (l : Loc) : Bool :=
  slotHolds table (s.table table).rcd.width key (s.slotAt l).bits (s.slotAt l.next).bits

/-- The matches of a search in version `v`, poisoned places left out (R147, R158). -/
def State.matches (s : State) (table : Nat) (key : BitVec 320) (v : BitVec 16) : List Loc :=
  let r := (s.table table).rcd
  (s.places table key).filter fun l =>
    !s.placePoisoned r.width l && s.placeHolds table key l && slotLive r.versioned (s.slotAt l).bits v

/-- The crossbar section of a requester: one for each slice pair (R142). -/
def sectionOf (req : Nat) : Nat := req % 64 / 8

/-- A hit from requester `req`: the bit beside the bank, or beside the copy of its section (R147). -/
def State.setHit (s : State) (req : Nat) (l : Loc) : State :=
  match l with | .em i => s.putEmHit i true | .stash i => s.putStashHit (sectionOf req * 2048 + i) true

/-- What one lookup finds: data and static mark of the hit, or a poison trap. -/
structure Hit1 where
  data : Option (BitVec 80)
  isStatic : Bool
  poison : Bool
deriving DecidableEq, Repr

/-- TABLE_POISON for the entry that a search has consumed (R159). -/
def State.tablePoison (s : State) (addr : BitVec 64) : State := (s.consumed addr).raise srcTablePoison (fld addr 47 32) addr

/-- A poison trap counted and raised (R159); counter instance `table`, or 32 + family. -/
def State.poisonTrap (s : State) (inst : Nat) (addr : BitVec 64) : State := (s.bump .poisonTrap inst).tablePoison addr

/-- One search served: hit bit, counters, trap (R147, R158, R159, R162). -/
def State.searchServe (s : State) (req table : Nat) (key : BitVec 320) (v : BitVec 16) : State × Hit1 :=
  let w := (s.table table).rcd.width
  let bad := (s.places table key).filter (s.placePoisoned w)
  match (s.matches table key v).head? with
  | some l =>
    let d := (s.slotAt l).bits
    let s := (s.setHit req l).bumpBy .poisonSkipped table bad.length
    let s := s.bump .emHits table
    let s := match l with | .stash _ => s.bump .emStashHits table | _ => s
    (s, { data := some (slotData d), isStatic := slotStatic d, poison := false })
  | none =>
    match bad.head? with
    | some l => (s.poisonTrap table (l.addrIn (sectionOf req)), { data := none, isStatic := false, poison := true })
    | none => (s.bump .emMisses table, { data := none, isStatic := false, poison := false })

/-! ## Direct reads (R149) -/

/-- Bank, bucket and slot of entry `i` of a DIRECT table (R149). -/
def State.directPlace (s : State) (table i : Nat) : Nat × Nat × Nat :=
  let r := (s.table table).rcd
  let n := max 1 r.bankCount
  (r.baseBank + i % n, i / n / 4, i / n % 4)

/-- Slot index of entry `i` of a DIRECT table; none beyond the table. -/
def State.directIndex (s : State) (table i : Nat) : Option Nat :=
  let r := (s.table table).rcd
  let d := s.directPlace table i
  if i < r.bankCount * 4096 then some (emIndex d.1 d.2.1 d.2.2) else none

/-- A direct read served: the slot that hits, and whether the read is a poison trap; one that does not hit counts in EmMisses. -/
def State.directServe (s : State) (table i : Nat) (v : BitVec 16) : State × Option (BitVec 256) × Bool :=
  match s.directIndex table i with
  | none => ((s.bump .directRange table).bump .emMisses table, none, false)
  | some k =>
    let e := s.emSlot k
    if e.poison then ((s.bump .emMisses table).poisonTrap table (Loc.em k).addr, none, true)
    else if slotValid e.bits && slotTable e.bits == table && slotLive (s.table table).rcd.versioned e.bits v then
      ((s.putEmHit k true).bump .emHits table, some e.bits, false)
    else (s.bump .emMisses table, none, false)

/-! ## LPM (R150, R154, R155) -/

/-- The prefix covers the address. -/
def covers (family length : Nat) (pre addr : BitVec 128) : Bool :=
  let w := if family = 0 then 32 else 128
  pre.toNat >>> (w - length) == addr.toNat >>> (w - length)

/-- The longest live prefix that covers the address: length and result (R150). -/
def State.lpmFind (s : State) (family vrf : Nat) (addr : BitVec 128) (v : BitVec 16) : Option (Nat × BitVec 64) :=
  s.rules.prefixes.foldl (fun best (e : Nat × ObjSlot) =>
    match e.2.val with
    | .lpmPrefix f r len a res =>
      if e.2.live v && f == family && r == vrf && covers f len a addr then
        match best with
        | none => some (len, res)
        | some b => if b.1 < len then some (len, res) else best
      else best
    | _ => best) none

/-- An LPM result in the layout of exact-match DATA (R155): CNT_EN clear. -/
def lpmData (r : BitVec 64) : BitVec 80 :=
  BitVec.ofNat 80 (fld r 63 16 <<< 32 ||| fld r 10 0)

/-- The levels that the lookup of an address reads: each at most once, in order, no more than the family's schedule has
steps (R150). -/
def lpmLevels (seed : BitVec 128) (family vrf : Nat) (addr : BitVec 128) : List Nat :=
  match (List.range 12).filter (Config.lpmUses seed family vrf addr) with
  | [] => [0]
  | l => l.take (if family = 0 then 6 else 12)

/-- The levels a lookup reads, and the bank and word in each. -/
def State.lpmPath (s : State) (family vrf : Nat) (addr : BitVec 128) : List (Nat × Nat × Nat) :=
  (lpmLevels s.tables.lpmSeed family vrf addr).map fun l =>
    (l, (Config.lpmPlace s.tables.lpmSeed family vrf addr l).1 % 128, (Config.lpmPlace s.tables.lpmSeed family vrf addr l).2 % 1024)

def lpmWordKey (level bank word : Nat) : Nat := level * 2 ^ 17 + bank * 1024 + word

/-! ## Requests -/

/-- The key of a bank in the arrays by store x 2^16 + bank. -/
def bankKey (store bank : Nat) : Nat := store * 2 ^ 16 + bank

def numBanks (store : Nat) : Nat := if store = 0 then 512 else if store = 1 then 1536 else if store = 2 then 1024 else 0

/-- Clocks of the present tick that bank cycles of lookups may use: the second is kept for maintenance in ticks 15 mod
16 (R16). -/
def State.lookupClocks (s : State) : List Nat := if s.maintTick then [0] else [0, 1]

/-- Clocks of the present tick already used at a bank, as bits. -/
def State.usedMask (s : State) (store bank : Nat) : Nat :=
  let u := s.bankUsed (bankKey store bank)
  if u.1 = s.tickStamp + 1 then u.2 else 0

def State.useClock (s : State) (store bank k : Nat) : State :=
  s.putBankUsed (bankKey store bank) (s.tickStamp + 1, s.usedMask store bank ||| 1 <<< k)

def State.clockFree (s : State) (store bank k : Nat) : Bool := (s.usedMask store bank).testBit k == false

/-- The exact-match reads of a request: bank and bucket. An index beyond a DIRECT table is asked of the bank it names, where no
bucket has its number (R149; DESIGN CHOICE, log 98). -/
def State.emReads (s : State) (q : LookReq) : List (Nat × Nat) :=
  match q.kind with
  | .search t key _ => let b := s.buckets t key; [b.1, b.2]
  | .direct t i _ => let d := s.directPlace t i; [(d.1, d.2.1)]
  | _ => []

/-- Requests of a requester that are outstanding; only the first 256 have been launched (R138). -/
def State.outstanding (s : State) (requester : Nat) : Nat :=
  (s.tables.reqs.filter fun q => q.requester == requester && q.counts).length

def State.launchedReq (s : State) (q : LookReq) : Bool :=
  !q.counts || decide ((s.tables.reqs.filter fun x => x.requester == q.requester && x.counts && decide (x.id < q.id)).length < 256)

/-- A request that has not been served at any bank and is not cancelled (R194). -/
def LookReq.waits (q : LookReq) : Bool := !q.dead && q.servedTick.isNone

/-- Rotation of new requests: it starts one requester later in each tick (R136). -/
def State.turnOf (s : State) (requester : Nat) : Nat := (requester + 128 * 8 - s.tickStamp % 128) % 128

/-- Position of a request in the order of R136: deferred before new, deferred oldest first, new by rotation. -/
def State.reqBefore (s : State) (a b : LookReq) : Bool :=
  match a.deferredAt.isSome, b.deferredAt.isSome with
  | true, false => true
  | false, true => false
  | true, true => decide (a.id < b.id)
  | false, false =>
    decide (s.turnOf a.requester < s.turnOf b.requester) || (a.requester == b.requester && decide (a.id < b.id))

def insertReq (s : State) (q : LookReq) (l : List LookReq) : List LookReq :=
  match l with
  | [] => [q]
  | x :: t => if s.reqBefore q x then q :: x :: t else x :: insertReq s q t

def State.orderReqs (s : State) (l : List LookReq) : List LookReq := l.foldl (fun a q => insertReq s q a) []

def State.modReq (s : State) (id : Nat) (f : LookReq → LookReq) : State :=
  { s with tables := { s.tables with reqs := s.tables.reqs.map fun q => if q.id = id then f q else q } }

def State.dropReq (s : State) (id : Nat) : State :=
  { s with tables := { s.tables with reqs := s.tables.reqs.filter fun q => q.id != id } }

/-! ## Service of the exact-match banks (R136, R137) -/

/-- What a tick's services come to: buckets read (bank, bucket), and clocks taken of banks (bank, clock). -/
structure Reads where
  buckets : List (Nat × Nat)
  clocks : List (Nat × Nat)
deriving DecidableEq, Repr

/-- The buckets already read in this tick. -/
def State.readsNow (s : State) : Reads :=
  { buckets := (s.tables.reqs.filterMap fun q =>
      if q.servedTick = some s.tickStamp then some (s.emReads q) else none).flatten
    clocks := [] }

/-- The read can be had at clock `k`: by merging with one of the tick (R137), or with a free cycle. -/
def State.readAt (s : State) (done : Reads) (k : Nat) (r : Nat × Nat) : Bool :=
  done.buckets.contains r || (s.clockFree 0 r.1 k && !done.clocks.contains (r.1, k))

/-- The banks at which a deferred request lacked a cycle: those that can give none, else both, which have no clock in common. -/
def State.lacking (s : State) (done : Reads) (rs : List (Nat × Nat)) : List Nat :=
  match rs.filter fun r => !(s.lookupClocks.any fun k => s.readAt done k r) with
  | [] => rs.map (·.1)
  | l => l.map (·.1)

/-- A request that a tick has served or deferred: its clock, or the banks at which it is deferred. -/
abbrev Served := LookReq × (Nat ⊕ List Nat)

/-- The outcome of each request in the order of R136. -/
def State.dryRun (s : State) (done : Reads) (l : List LookReq) : List Served :=
  match l with
  | [] => []
  | q :: rest =>
    let rs := s.emReads q
    match s.lookupClocks.find? fun k => rs.all fun r => s.readAt done k r with
    | some k =>
      let fresh := rs.filter fun r => !done.buckets.contains r
      (q, .inl k) :: s.dryRun { buckets := fresh ++ done.buckets, clocks := fresh.map (fun r => (r.1, k)) ++ done.clocks } rest
    | none => (q, .inr (s.lacking done rs)) :: s.dryRun done rest

/-- The version a request is searched in: that of its packet (R147). -/
def State.reqVersion (s : State) (q : LookReq) : BitVec 16 :=
  let pid := if q.requester < 64 then some q.owner else (s.copy q.owner).map (·.pkt)
  ((pid.bind s.pkt).map (·.version)).getD s.rules.current

/-- Deferral at a bank (R15, R139): counted, and the lowest bank of the group kept for the epoch's BANK_DEFER. -/
def State.countDefer (s : State) (store bank : Nat) : State :=
  let src := if store = 0 then 160 + bank / 32 else if store = 1 then 176 + bank / 128 else 192 + bank / 64
  let s := s.bump .bankDefer (bankKey store bank)
  s.modDeferEpoch src fun x => match x with | some b => some (min b bank) | none => some bank

/-- A learn or move request that a search forms (R176). -/
def State.formsLearn (s : State) (q : LookReq) (t : Nat) (learn : Bool) (h : Hit1) : Bool :=
  let d := s.table t
  let arrival := ((s.pkt q.owner).map (·.port)).getD 0
  learn && d.rcd.learnEn == 1 && decide (q.requester < 64) && !h.poison &&
    (match h.data with
     | none => true
     | some x => !h.isStatic && fld x 79 77 == 2 && fld x 76 61 != arrival && d.upkeep.learnMove == 1)

/-- A bucket read in clock `k`, or merged with a read of this tick (R137). -/
def State.readBucket (s : State) (done : Reads) (k : Nat) (r : Nat × Nat) : State :=
  if done.buckets.contains r then s.bump .bankMergedReads (bankKey 0 r.1)
  else (s.useClock 0 r.1 k).bump .lookupCycles (bankKey 0 r.1)

/-- A request served in clock `k`: its result is formed, and reaches the requester later. -/
def State.serveEm (s : State) (q : LookReq) (k : Nat) : State :=
  let done := s.readsNow
  let s := (s.emReads q).foldl (fun s r => s.readBucket done k r) s
  let v := s.reqVersion q
  match q.kind with
  | .search t key learn =>
    let r := s.searchServe q.requester t key v
    let l := s.formsLearn q t learn r.2
    r.1.modReq q.id fun x => { x with servedTick := some s.tickStamp, level := k, result := r.2.data, poison := r.2.poison
                                      kind := .search t key l }
  | .direct t i nh =>
    let r := s.directServe t i v
    let s := if nh && r.2.1.isNone && !r.2.2 then r.1.bump .nextHopMiss (q.requester - 64) else r.1
    s.modReq q.id fun x =>
      { x with servedTick := some s.tickStamp, level := k, poison := r.2.2
               result := r.2.1.map slotData
               macs := if nh then r.2.1.map fun b => BitVec.ofNat 96 (fld b 207 112) else none }
  | _ => s

/-- Superseded requests still deferred are cancelled (R194). -/
def State.dropSuperseded (s : State) : State :=
  { s with tables := { s.tables with reqs := s.tables.reqs.filter fun q =>
      !(q.old && q.deferredAt.isSome && q.deferredAt != some s.tickStamp) } }

/-- The exact-match requests that wait for a bank, in the order of R136. -/
def State.emWaiting (s : State) : List LookReq :=
  s.orderReqs (s.tables.reqs.filter fun q =>
    q.waits && s.launchedReq q && q.deferredAt != some s.tickStamp &&
      (match q.kind with | .search _ _ _ => true | .direct _ _ _ => true | _ => false))

/-- A lookup finds no bank cycle in the present tick (R15). -/
def State.deferReq (s : State) (r : LookReq) : State :=
  (s.modReq r.id fun q => { q with deferredAt := some s.tickStamp }).perfCount 0x021 (r.requester % 64) 1

/-- The exact-match banks' share of the tick. Searches and merges join the banks, so the first event of a bank that a waiting
request reads serves or defers the requests of them all, in the one order of R136 (log 103). -/
def State.serveEmBank (s : State) (bank : Nat) : State :=
  let s := s.dropSuperseded
  let l := s.emWaiting
  if !(l.any fun q => (s.emReads q).any fun x => x.1 == bank) then s
  else
    (s.dryRun s.readsNow l).foldl (fun s r =>
      match r.2 with
      | .inl k => s.serveEm r.1 k
      | .inr banks => banks.foldl (fun s b => s.countDefer 0 b) (s.deferReq r.1)) s

/-! ## Service of the LPM levels and of the counter banks -/

/-- The read an LPM request is at: level, bank, word, and whether it is due in this tick (one level per tick, R135). -/
def State.lpmNext (s : State) (q : LookReq) : Option (Nat × Nat × Nat) :=
  match q.kind with
  | .lpm f r a =>
    match (s.lpmPath f r a)[q.level]? with
    | some (l, b, w) =>
      match q.servedTick with
      | none => some (l, b, w)
      | some base => if base + l ≤ s.tickStamp then some (l, b, w) else none
    | none => none
  | _ => none

/-- The last read of an LPM lookup made: its result, or the trap of a word that it read poisoned (R150, R158, R162). -/
def State.finishLpm (s : State) (q : LookReq) (f r : Nat) (a : BitVec 128) (bad : Option (BitVec 64)) : State :=
  match bad with
  | some addr => (s.poisonTrap (32 + f) addr).modReq q.id fun x => { x with poison := true }
  | none =>
    match s.lpmFind f r a (s.reqVersion q) with
    | some e => (s.bump .lpmHits f).modReq q.id fun x => { x with result := some (lpmData e.2) }
    | none => s.bump .lpmMisses f

/-- The first poisoned word on the path of an address, as a command's read finds it (R159). -/
def State.lpmBad (s : State) (f r : Nat) (a : BitVec 128) : Option (BitVec 64) :=
  ((s.lpmPath f r a).find? fun e => s.lpmPoison (lpmWordKey e.1 e.2.1 e.2.2)).map fun e =>
    faultAddr 3 (e.1 * 128 + e.2.1) e.2.2

/-- One level of an LPM lookup read, word `word` of its bank: a poisoned word makes the lookup a trap (R158). -/
def State.serveLpm (s : State) (q : LookReq) (level bank word : Nat) (merged : Bool) (k : Nat) : State :=
  let g := level * 128 + bank
  let bad := q.badWord.or (if s.lpmPoison (lpmWordKey level bank word) then some (faultAddr 3 g word) else none)
  let s := if merged then s.bump .bankMergedReads (bankKey 1 g) else (s.useClock 1 g k).bump .lookupCycles (bankKey 1 g)
  let s := s.modReq q.id fun x =>
    { x with level := x.level + 1, servedTick := some (s.tickStamp - level), deferredAt := none, badWord := bad }
  match q.kind with
  | .lpm f r a =>
    if q.level + 1 = (s.lpmPath f r a).length then s.finishLpm q f r a bad else s
  | _ => s

/-- Requests whose next read lies in bank `bank` of level `level`, in the order of R136. -/
def State.lpmWaiting (s : State) (level bank : Nat) : List LookReq :=
  s.orderReqs (s.tables.reqs.filter fun q =>
    !q.dead && s.launchedReq q && q.deferredAt != some s.tickStamp &&
      (match s.lpmNext q with | some (l, b, _) => l == level && b == bank | none => false))

/-- The words of a level that lookups have read in this tick (R137). -/
def State.lpmReadsNow (s : State) (level : Nat) : List Nat :=
  s.tables.reqs.filterMap fun q =>
    match q.kind with
    | .lpm f r a =>
      match (s.lpmPath f r a)[q.level - 1]? with
      | some (l, b, w) =>
        if 0 < q.level ∧ l = level ∧ q.servedTick = some (s.tickStamp - l) then some (b * 1024 + w) else none
      | none => none
    | _ => none

def State.serveLpmBank (s : State) (g : Nat) : State :=
  let s := s.dropSuperseded
  ((s.lpmWaiting (g / 128) (g % 128)).foldl (fun (a : State × List Nat) q =>
    match a.1.lpmNext q with
    | none => a
    | some (l, b, w) =>
      if a.2.contains (b * 1024 + w) then (a.1.serveLpm q l b w true 0, a.2)
      else match a.1.lookupClocks.find? fun k => a.1.clockFree 1 g k with
        | some k => (a.1.serveLpm q l b w false k, (b * 1024 + w) :: a.2)
        | none => ((a.1.deferReq q).countDefer 1 g, a.2)) (s, s.lpmReadsNow (g / 128))).1

/-- An update added to its pair; each count saturates at 64 bits; a poisoned pair takes none (R159, R161). -/
def State.addPair (s : State) (pair bytes : Nat) : State :=
  let p := s.pair pair
  if p.2.2 then (s.bump .counterPoisonSkip (pair % 1024)).consumed (faultAddr 4 (pair % 1024) (pair / 1024))
  else
    let s := s.putPair pair (min (p.1 + 1) (2 ^ 64 - 1), min (p.2.1 + bytes) (2 ^ 64 - 1), false)
    s.modWriteTag (2 * 2 ^ 32 + pair % 1024 * 1024 + pair / 1024) (· + 1)

def State.counterWaiting (s : State) (bank : Nat) : List LookReq :=
  s.orderReqs (s.tables.reqs.filter fun q =>
    q.deferredAt != some s.tickStamp && (match q.kind with | .counter p _ => p % 1024 == bank | _ => false))

/-- A counter bank makes one update in a tick without a maintenance cycle (R14, R16). -/
def State.serveCounterBank (s : State) (bank : Nat) : State :=
  match s.counterWaiting bank with
  | [] => s
  | q :: rest =>
    let free := !s.maintTick && s.usedMask 2 bank == 0
    let s := if free then
        match q.kind with
        | .counter p n =>
          ((((s.useClock 2 bank 0).useClock 2 bank 1).bumpBy .lookupCycles (bankKey 2 bank) 2).addPair p n).dropReq q.id
        | _ => s
      else s
    (if free then rest else q :: rest).foldl (fun s x =>
      (s.modReq x.id fun y => { y with deferredAt := some s.tickStamp }).countDefer 2 bank) s

/-- BANK_CYCLE_SERVE (R14 to R16, R136, R137). -/
def execBankCycleServe (store bank : Nat) (s : State) : Host.Outcome State Fault Refusal :=
  if bank < numBanks store then
    .next (if s.worked then
        (if store = 0 then s.serveEmBank bank else if store = 1 then s.serveLpmBank bank else s.serveCounterBank bank)
      else s)
  else .fault (.noSuchUnit bank)

/-! ## Requests issued -/

/-- A request of a requester for a packet or a copy, not yet launched. -/
def newReq (requester owner : Nat) (kind : LookupKind) : LookReq :=
  { id := 0, requester := requester, owner := owner, slot := 0, gen := 0, old := false, replay := false, kind := kind, fwd := false
    prio := 0, level := 0, deferredAt := none, servedTick := none, dead := false, result := none, macs := none, poison := false
    badWord := none }

/-- The request is launched: it takes the next number. -/
def State.addReq (s : State) (q : LookReq) : State :=
  let s := { s with tables := { s.tables with reqs := s.tables.reqs ++ [{ q with id := s.tables.reqNext }]
                                              reqNext := s.tables.reqNext + 1 } }
  if q.counts then s.perfCount 0x020 (q.requester % 64) 1 else s

/-- A counter update issued (R161, R198). -/
def State.issueCount (s : State) (requester : Nat) (c : Nat × Nat) : State :=
  s.addReq (newReq requester 0 (.counter c.1 c.2))

/-- A learn or move request placed in the learn queue (R176). -/
def State.queueLearn (s : State) (r : LearnReq) : State :=
  if s.tables.learnQ.any fun x => x.table == r.table && x.key == r.key then s.bump .learnMerged r.table
  else if 4096 ≤ s.tables.learnQ.length then
    let s := s.bump .learnQueueDrop 0
    if s.tables.overflowEpoch = some s.clock.epoch then s
    else ({ s with tables := { s.tables with overflowEpoch := some s.clock.epoch } }).raise srcLearnOverflow 0 0
  else { s with tables := { s.tables with learnQ := s.tables.learnQ ++ [r] } }

/-- The packet has not resolved: its counter updates and learn requests are pending, whether a tag guards it or it waits for
its verdict without one (R29, R30, R206). -/
def Pkt.speculative (p : Pkt) : Bool := p.verdict == .none

/-- A counter update of a packet: pending while it has not resolved, or issued at once (R161, R198). -/
def State.countFor (s : State) (pid : Nat) (p : Pkt) (c : Nat × Nat) : State :=
  if p.speculative then s.modPktD pid fun p => { p with pendingCounts := p.pendingCounts ++ [(p.pipe, c)] }
  else if p.verdict = .rollback then s
  else s.issueCount p.pipe c

def State.learnFor (s : State) (pid : Nat) (p : Pkt) (r : LearnReq) : State :=
  if p.speculative then s.modPktD pid fun p => { p with pendingLearn := p.pendingLearn ++ [r] }
  else if p.verdict = .rollback then s
  else s.queueLearn r

/-! ## Results (R135, R155, R194) -/

/-- First level of an LPM lookup's path. -/
def firstLevel (l : List (Nat × Nat × Nat)) : Nat := ((l.head?).map (·.1)).getD 0

/-- The tick in which a served request's result is at its requester; none while it is not yet served whole. -/
def State.resultAt (s : State) (q : LookReq) : Option Nat :=
  match q.kind with
  | .lpm f r a =>
    let path := s.lpmPath f r a
    match q.servedTick with
    | some base => if path.length ≤ q.level then some (base + firstLevel path + 14) else none
    | none => none
  | .counter _ _ => none
  | _ => q.servedTick.map (· + 4)

/-- A hit joins the packet's results; CNT_EN of an exact-match hit updates its pair, LEARN forms its request. -/
def State.takeResult (s : State) (q : LookReq) (p : Pkt) : State :=
  let em := decide (q.slot < 8)
  let s := if q.poison then s.modPktD q.owner fun p => { p with poisonTrap := true } else s
  let s := match q.result with
    | some d =>
      let s := s.modPktD q.owner fun p =>
        { p with hits := p.hits ++ [{ em := em, idx := q.slot % 8, fwd := q.fwd, prio := q.prio, data := d }] }
      if em && bit d 31 then s.countFor q.owner p (fld d 30 11, p.frameLen) else s
    | none => s
  match q.kind with
  | .search t key true => s.learnFor q.owner p { table := t, key := key, move := q.result.isSome, port := p.port }
  | _ => s

/-- A next-hop read's result reaches the copy it is for; a poisoned one drops it (R156, R159). A hit with CNT_EN names the pair
that the edited frame updates (R155). -/
def State.takeHop (s : State) (q : LookReq) : State :=
  if q.poison then s.dropCopy q.owner freeDrop
  else s.modCopyD q.owner fun c =>
    { c with nextHop := some q.macs
             hopCount := q.result.bind fun d => if bit d 31 then some (fld d 30 11) else none }

/-- LOOKUP_RESULT (R135): a superseded result, or one of a packet that is gone or rolled back, is discarded (R194). -/
def execLookupResult (req : Nat) (s : State) : Host.Outcome State Fault Refusal :=
  match s.tables.reqs.find? fun q => q.id == req with
  | none => .next s
  | some q =>
    match s.resultAt q with
    | none => .next s
    | some t =>
      if s.tickStamp < t then .next s
      else
        let u := s.dropReq req
        if 64 ≤ q.requester then .next (u.takeHop q)
        else match s.pkt q.owner with
          | none => .next u
          | some p => .next (if !q.old && p.verdict != .rollback then u.takeResult q p else u)

/-- Results of the packet that its decision still waits for. -/
def State.resultsDue (s : State) (pid : Nat) : Bool :=
  s.tables.reqs.any fun q => decide (q.requester < 64) && q.counts && q.owner == pid && !q.old && !q.dead



/-- Requests of a packet and of its copies cancelled: those not served go, and the results of the others find nothing on
arrival (R199 step 1). -/
def State.cancelReqs (s : State) (pid : Nat) (copies : List Nat) : State :=
  { s with tables := { s.tables with reqs := s.tables.reqs.filter fun q =>
      !(q.counts && (if q.requester < 64 then q.owner == pid else copies.contains q.owner)) } }

end Sys2Proof.Machine
end

