-- ==== Sys2Proof/Machine/Runahead.lean ====
section
/-! DEFINITION. Speculation tags: verdicts, CONFIRM, rollback and its order (R190 to R207, spec/08_runahead.md; R84 to R87,
spec/04_link_cipher.md; R120, spec/05_parser_rules.md). -/

namespace Sys2Proof.Machine

/-! ## The slot ledger (R335, R207) -/

def rowCarried : Nat := 0
def rowVoided : Nat := 1
def rowTableWait : Nat := 2
def rowOutputWait : Nat := 3
def rowIdle : Nat := 4

/-- A slot counted in row `row` of a pipe (0-63 ingress, 64-127 egress), unless the counters are frozen (R334). -/
def State.ledgerAdd (s : State) (pipe row : Nat) : State :=
  if s.tel.freeze then s
  else (s.modLedger (pipe * 8 + row) fun v => min (v + 1) (2 ^ 64 - 1)).perfCount
    (if pipe < 64 then 0x010 + row else 0x018 + row) (pipe % 64) 1

/-- A slot moved from CARRIED to VOIDED (R207). -/
def State.ledgerVoid (s : State) (pipe : Nat) : State :=
  if s.tel.freeze then s
  else (s.modLedger (pipe * 8 + rowCarried) (· - 1)).ledgerAdd pipe rowVoided

/-! ## The port cipher record (R78) -/

def State.macsecOn (s : State) (port : Nat) : Bool := bit (s.cipherPort port) 63
def State.xpn (s : State) (port : Nat) : Bool := bit (s.cipherPort port) 62
def State.checkMode (s : State) (port : Nat) : Bool := fld (s.cipherPort port) 61 60 == 1
def State.cutMacsec (s : State) (port : Nat) : Bool := bit (s.cipherPort port) 59

/-! ## Stomps (R203 to R205) -/

/-- Causes of a stomp: rollback, transmit oversize, poisoned cell, missing cell, cipher engine, and the last data byte reached
with the tag unresolved. -/
def stompNone : Nat := 0
def stompRollback : Nat := 1
def stompOversize : Nat := 2
def stompPoison : Nat := 3
def stompReseq : Nat := 4
def stompCipher : Nat := 5
def stompEarly : Nat := 6

/-! ## CONFIRM (R198) -/

/-- The MACsec outcome of a confirmed frame, and the advance of its SA's next expected PN (R82, R84, R85). -/
def State.confirmMacsec (s : State) (p : Pkt) : State :=
  match p.sa with
  | none => s
  | some a =>
    let s := if p.icvOk = some true then
        (s.bump .inPktsOK a).bumpBy (if p.eBit then .inOctetsDecrypted else .inOctetsValidated) a p.frameLen
      else s.bump .inPktsInvalid a
    s.modRxSa a fun x => { x with pn := max x.pn (p.pn + 1) }

/-- Cells a frame needs in the cloister pool. -/
def Pkt.cloisterCells (p : Pkt) : Nat := cellCount p.frameLen

/-- Mirror or trap copies are to be made (R119 rows 3 to 7). -/
def wantsCopies (p : Pkt) : Bool := match p.action with | some a => bit a 97 || bit a 92 | none => false

/-- META of the second pass: META_VAL of the rule, 0 where META_EN is clear (R120). -/
def Pkt.nextMeta (p : Pkt) : BitVec 16 :=
  match p.action with
  | some a => if bit a 41 then BitVec.ofNat 16 (fld a 40 25) else 0
  | none => 0

/-- What the cloister port holds of a packet: the frame in cells of its own pool, with the in-flight count of the packet
(R120, R126, R214). -/
def heldPkt (pid : Nat) (p : Pkt) : Pkt :=
  { p with tag := none, verdict := .confirm, pool := ownCloister, metaVal := p.nextMeta, cells := [], copies := [], admitted := true
           pushedOut := false, counted := false, cloister := true, streams := false, queued := 0, editSlots := []
           pendingCounts := [], pendingLearn := [], sa := none, icvWait := false, origin := p.origin.or (some pid) }

/-- The packet's own part once the cloister pass is decided: mirror and trap copies, or nothing. -/
def State.cloisterRest (s : State) (pid : Nat) : State :=
  (s.modPktD pid fun p => { p with cloister := false, txRing := none, admitted := p.admitted || !wantsCopies p }).settlePkt pid

/-- A confirmed packet sent to the cloister port (R120): held in the reserved pool, or dropped when that is full. Its mirror and
trap copies are made either way (R119). The pool is judged as the tick before left it (R217). -/
def State.enterCloister (s : State) (pid : Nat) : State :=
  match s.pkt pid with
  | none => s
  | some p =>
    if (s.pool ownCloister).size < s.pk.prev.pool.get 0 ownCloister + p.cloisterCells then
      let s := (s.bump .cloisterPoolDrop p.pipe).raiseOnce srcPoolExhausted ownCloister 0
      if p.admitted || wantsCopies p then s.cloisterRest pid
      else (s.modPktD pid fun p => { p with cloister := false }).dropPkt pid freeDrop
    else
      let s := s.bump .cloisterPass p.pipe
      let hid := s.pk.pktNext
      let s := { s with pk := { s.pk with pktNext := hid + 1, cloisterQ := s.pk.cloisterQ ++ [hid] } }
      ((s.putPkt hid (some (heldPkt pid p))).startCells hid p.frameLen).cloisterRest pid

/-- PENDING is cleared on every descriptor of a packet (R196). -/
def State.clearPending (s : State) (p : Pkt) : State :=
  p.copies.foldl (fun s c => s.modCopyD c fun x => { x with pending := false }) s

/-- Packets made in egress pipes that are bound to tag `t` (R122). -/
def State.boundTo (s : State) (t : Nat) : List Nat :=
  s.pk.pkts.keysWhere fun _ x => match x with | some p => p.egressMade && p.tag == some t | none => false

/-- CONFIRM leaves packets made from the tag's copies in place. -/
def State.confirmBound (s : State) (t : Nat) : State :=
  (s.boundTo t).foldl (fun s q =>
    match s.pkt q with
    | some p => ((s.putPkt q (some { p with tag := none, verdict := .confirm })).clearPending p).settlePkt q
    | none => s) s

/-- Copies of the packet that a transmit MAC has sent up to their last data byte while the packet was unresolved: they are
stomped there, and end so whatever the tag resolves to (R202, R204). -/
def State.earlyStomps (s : State) (p : Pkt) : State :=
  (s.liveCopies p).foldl (fun s cid =>
    match s.copy cid with
    | some c =>
      if c.phase = .sending ∧ c.stomp = 0 ∧ c.startClk + s.wireClocks c.port (8 + c.frame.length + c.secExtra) ≤ s.now then
        s.putCopy cid (some { c with stomp := stompEarly, stompAt := s.tickStamp })
      else s
    | none => s) s

/-- CONFIRM of a packet, all in the tick of the resolution (R198). -/
def State.confirm (s : State) (pid : Nat) (p : Pkt) : State :=
  let s := if p.tag.isSome then s.bump .specConfirm p.pipe else s
  let s := s.putPkt pid (some { p with verdict := .confirm, resolvedAt := s.tickStamp, pendingCounts := [], pendingLearn := [] })
  let s := p.pendingCounts.foldl (fun s c => s.issueCount c.1 c.2) s
  let s := p.pendingLearn.foldl (fun s r => s.queueLearn r) s
  let s := ((s.confirmMacsec p).clearPending p).earlyStomps p
  let s := match p.tag with | some t => s.confirmBound t | none => s
  if p.cloister then s.enterCloister pid else s

/-! ## Rollback (R199 to R202) -/

/-- Copies that stand behind one in its port's order: they pass over its void numbers from the next tick on (R199). -/
def State.voidRecords (s : State) (port cid : Nat) : State :=
  let l := ((s.openList port).dropWhile (· != cid)).drop 1
  if l.isEmpty then s
  else s.modVoided port fun v => (s.tickStamp + 1, (if v.1 = s.tickStamp + 1 then v.2 else []) ++ l)

/-- Records voided in this tick, and the packets that held them: they count until the next (R244). -/
def State.voidNow (s : State) (port : Nat) : Nat × Nat :=
  let v := s.voidRec port
  if v.1 = s.tickStamp + 1 then v.2 else (0, 0)

/-- A copy off the port's order in this tick keeps its records to the tick's end (R244). -/
def State.keepRecords (s : State) (port cid : Nat) : State :=
  if (s.openList port).contains cid then
    s.putVoidRec port (s.tickStamp + 1, (s.voidNow port).1 + s.heldRecords cid, (s.voidNow port).2 + 1)
  else s

/-- A cause of a stomp reaches the MAC: the first to come stands, and of those of one tick the first row of R205. -/
def Copy.meet (c : Copy) (cause now : Nat) : Copy :=
  if c.stomp = 0 ∨ (c.stompAt = now ∧ cause < c.stomp) then { c with stomp := cause, stompAt := now } else c

/-- Steps 1, 2 and 4 for one copy: no further read of it is issued; a copy in progress is stomped, unless it has met a cause
before, and takes no further cell; any other leaves its queue and waits for step 6. -/
def State.voidCopy (s : State) (cid : Nat) : State :=
  match s.copy cid with
  | none => s
  | some c =>
    let s := ((s.voidRecords c.port cid).keepRecords c.port cid).uncharge cid c.charged
    let s := s.modSlice (c.port / 64) fun x => { x with matched := x.matched.filter fun m => m.2.2.1 != cid }
    if c.phase = .sending then
      (s.modCopyD cid fun c => { c.meet stompRollback s.tickStamp with held := [], records := 0 }).putOpenList
        c.port ((s.openList c.port).filter (· != cid))
    else ((s.credit cid 0).unlinkCopy cid c).modCopyD cid fun c =>
      { c with phase := .done, held := [], records := 0, frame := [], sched := 0 }

/-- Slots of a tagged packet moved to VOIDED (R207): its ingress slot, and the egress slot of each copy already edited. One that a
decision dropped has done its work, and its slot stays (R335). -/
def State.voidSlots (s : State) (p : Pkt) : State :=
  if p.tag.isNone || p.dropped then s
  else
    let s := if p.egressMade then s else s.ledgerVoid p.pipe
    p.editSlots.foldl (fun s g => s.ledgerVoid (64 + g)) s

/-- Steps 1 to 4 for one packet; where its cells are to be zeroed, the bytes that FIFOs hold are overwritten at once
(R200). -/
def State.fence (s : State) (pid : Nat) (zero : Bool) (p : Pkt) : State :=
  let s := (s.earlyStomps p).cancelReqs pid p.copies
  let s := (s.unqueuePkt pid).voidSlots p
  let s := (s.liveCopies p).foldl (fun s c => s.voidCopy c) s
  s.modPktD pid fun p =>
    { p with verdict := .rollback, resolvedAt := s.tickStamp, pendingCounts := [], pendingLearn := [], cloister := false
             rollStep := 1, bytes := if zero then p.bytes.map fun _ => 0 else p.bytes }

/-- The MACsec and rollback counters by cause: MAC_CHECK comes before ICV (R85, R192). -/
def State.countRollback (s : State) (p : Pkt) : State :=
  let s := if p.macOk != some false && p.icvFails then
      match p.sa with | some a => s.bump .inPktsNotValid a | none => s
    else s
  if p.tag.isNone then s
  else s.bump (if p.macOk = some false then .specRollbackMac else .specRollbackIcv) p.pipe

/-- The packet and those made from its copies under its tag (R122). -/
def State.underTag (s : State) (pid : Nat) (p : Pkt) : List Nat :=
  pid :: (match p.tag with | some t => s.boundTo t | none => [])

/-- ROLLBACK of a packet and of the packets made from its copies (R199 steps 1 to 4). -/
def State.rollback (s : State) (pid : Nat) (p : Pkt) : State :=
  (s.underTag pid p).foldl (fun s q => match s.pkt q with | some x => s.fence q p.needsZero x | none => s) (s.countRollback p)

/-- A worked tick comes after the present one and no later than tick `t`. -/
def State.workedBefore (s : State) (t : Nat) : Bool :=
  (List.range (t - s.tickStamp)).any fun i => workedPos s.power.op ((s.tickStamp + 1 + i) % 16)

/-- A zero write to cell `i` of a packet, in a bank cycle that stage A and stage B have left, or in the last worked tick
up to r+8 in any case (R200). -/
def State.zeroCell (s : State) (pid i : Nat) : State :=
  match s.pkt pid with
  | none => s
  | some p =>
    match (p.cells[i]?).bind (·.cell) with
    | none => s
    | some n =>
      if s.cyclesLeft (cellPart n) (cellBank n) = 0 ∧ s.workedBefore (p.resolvedAt + 8) then s
      else
        ((s.useCellCycle n).putCellData n (List.replicate 256 0)).modPktD pid fun p =>
          { p with cells := p.cells.modify i fun x => { x with zeroed := true } }

/-- The zero writes of one packet in a tick (R86, R87, R200). -/
def State.zeroPkt (s : State) (pid : Nat) : State :=
  match s.pkt pid with
  | none => s
  | some p => ((s.cellsLeft p).filter p.unzeroed).foldl (fun s i => s.zeroCell pid i) s

/-- No cell of the packet is left to zero. -/
def State.zeroed (s : State) (pid : Nat) : Bool :=
  match s.pkt pid with | some p => !(s.cellsLeft p).any p.unzeroed | none => true

/-- The zero writes of a tag in this tick, and the end of step 5 with the last of them. -/
def State.zeroTag (s : State) (pid : Nat) (p : Pkt) : State :=
  let s := (s.underTag pid p).foldl (fun s q => s.zeroPkt q) s
  if (s.underTag pid p).all s.zeroed then s.modPktD pid fun p => { p with rollStep := 2, resolvedAt := s.tickStamp } else s

/-- Step 6 for one packet: each cell still allocated is freed with its charges, and the in-flight count falls. -/
def State.rollFree (s : State) (pid : Nat) : State :=
  match s.pkt pid with
  | none => s
  | some p =>
    let s := s.putPkt pid (some { p with rollStep := 3, dropped := true, resolvedAt := s.tickStamp })
    let s := (s.liveCopies p).foldl (fun s cid =>
      match s.copy cid with
      | some c =>
        if c.phase = .sending then
          (s.releaseCells cid freeRollback (c.unreleased p)).modCopyD cid fun c => { c with out := p.cells.length }
        else if c.stomp ≠ 0 then s.endCopy cid freeRollback
        else s.dropCopy cid freeRollback
      | none => s) s
    (s.uncount pid).settlePkt pid

/-- A packet without a tag resolves when its last verdict has reached the pipe (R30, R84); a failed one is freed at once. -/
def State.resolveUntagged (s : State) (pid : Nat) : State :=
  match s.pkt pid with
  | none => s
  | some p =>
    if p.tag.isSome || p.verdict != .none || !s.verdictsIn pid p then s
    else if p.fails then (s.rollback pid p).rollFree pid
    else (s.confirm pid p).settlePkt pid

/-- ICV_VERDICT (R84): the engine's check of the ICV ends, as it must; the verdict reaches the pipe in the next tick (R18). -/
def execIcvVerdict (pid : Nat) (ok : Bool) (s : State) : Host.Outcome State Fault Refusal :=
  match s.pkt pid with
  | none => .next s
  | some p =>
    if p.icvWait && p.icvOk.isNone && ok == p.icvGood then
      .next (s.putPkt pid (some { p with icvOk := some ok, verdictAt := s.tickStamp }))
    else .next s

/-- The packet a tag was given to. -/
def State.tagPkt (s : State) (tag : Nat) : Option (Nat × Pkt) :=
  match s.specTag tag with
  | none => none
  | some pid => (s.pkt pid).map fun p => (pid, p)

def tagOk (tag : Nat) : Bool := decide (tag < 65536)

/-- TAG_RESOLVE (R29, R192). -/
def execTagResolve (tag : Nat) (s : State) : Host.Outcome State Fault Refusal :=
  onUnit (tagOk tag) tag
    (match s.tagPkt tag with
     | none => s
     | some (pid, p) =>
       if p.verdict = .none ∧ s.verdictsIn pid p then (if p.fails then s.rollback pid p else s.confirm pid p) else s)

/-- ROLLBACK_ZERO_WRITE (R200): in a worked tick, from that of the resolution on, after stage A and stage B. -/
def execRollbackZeroWrite (tag : Nat) (s : State) : Host.Outcome State Fault Refusal :=
  onUnit (tagOk tag) tag
    (match s.tagPkt tag with
     | none => s
     | some (pid, p) => if s.worked && p.rollStep == 1 && p.needsZero && !s.stageAOpen && !(List.range 16).any s.stageBOpen then s.zeroTag pid p else s)

/-- ROLLBACK_FREE (R199 step 6): in r+1, or in the tick after the last zero write where there is one. -/
def execRollbackFree (tag : Nat) (s : State) : Host.Outcome State Fault Refusal :=
  onUnit (tagOk tag) tag
    (match s.tagPkt tag with
     | none => s
     | some (pid, p) =>
       if p.rollStep = (if p.needsZero then 2 else 1) ∧ p.resolvedAt < s.tickStamp then
         let cells := (s.underTag pid p).flatMap fun q => match s.pkt q with
           | some x => (s.cellsLeft x).filterMap fun i => (x.cells[i]?).bind (·.cell)
           | none => []
         let s := s.modPktD pid fun y => { y with rollCells := cells }
         ((s.boundTo tag).foldl (fun s q => (s.rollFree q).modPktD q fun y => { y with tag := none }) s).rollFree pid
       else s)

/-- A free of the rollback of the packet's tag has not landed. -/
def State.freesDue (s : State) (p : Pkt) : Bool :=
  p.rollCells.any fun n => (s.part (cellPart n)).queue.any fun f => f.cell == n && f.source == freeRollback

/-- The tag goes back to the pipe's free pool. -/
def State.returnTag (s : State) (tag pid : Nat) : State :=
  ((s.putSpecTag tag none).modPktD pid fun p => { p with tag := none }).settlePkt pid

/-- Some tag of an ingress pipe is being rolled back: steps 1 to 7 of R199 are not over. -/
def State.rollsIn (s : State) (g : Nat) : Bool :=
  s.pk.pkts.any fun (e : Nat × Option Pkt) => match e.2 with
    | some p => p.rollStep != 0 && (match p.tag with | some t => t / 1024 == g | none => false)
    | none => false

/-- The tag pool of a retired pipe retires once its rollbacks are complete (R202, R428). -/
def State.closePipe (s : State) (g : Nat) : State :=
  if s.faults.pipeClosing.contains g && !s.rollsIn g then
    { s with faults.pipeClosing := s.faults.pipeClosing.filter (· != g) }.note srcPipeRetired g 0
  else s

/-- SPEC_TAG_RETURN (R198, R199 step 7): in the tick after CONFIRM, or after the last free of a rollback. -/
def execSpecTagReturn (tag : Nat) (s : State) : Host.Outcome State Fault Refusal :=
  onUnit (tagOk tag) tag
    (match s.tagPkt tag with
     | none => s
     | some (pid, p) =>
       if (p.verdict = .confirm ∨ (p.rollStep = 3 ∧ !s.freesDue p)) ∧ p.resolvedAt < s.tickStamp then
         (s.returnTag tag pid).closePipe (tag / 1024)
       else s)

end Sys2Proof.Machine
end

