-- ==== Sys2Proof/Machine/Protect.lean ====
section
/-! DEFINITION. MACsec frames: the SecTAG of a received frame and its opening, the SecTAG and the protection of a sent frame
(R76, R78, R83, R84, R87, R89, spec/04_link_cipher.md). The spec names IEEE 802.1AE-2018; what its rules leave to that
standard is taken from it (PRESUMED, log 92). -/

namespace Sys2Proof.Machine

/-! ## The SecTAG -/

/-- The Ethertypes of a SecTAG and of an 802.1Q tag (IEEE 802.1AE, 802.1Q; log 92). -/
def secEtype : Nat := 0x88E5
def qEtype : Nat := 0x8100

/-- A SecTAG: TCI bits, AN, SL byte, the 32 bits of PN it carries, and the SCI where it carries one. -/
structure SecTag where
  v : Bool
  es : Bool
  sc : Bool
  scb : Bool
  e : Bool
  c : Bool
  an : Nat
  sl : Nat
  pn : Nat
  sci : Option (BitVec 64)
deriving DecidableEq, Repr

/-- Where a frame's SecTAG or Ethertype stands: behind the tag that VLAN_CLEAR keeps in the clear (R78). -/
def secPlace (vlanClear : Bool) (f : List Byte) : Nat := if vlanClear && wordAt f 12 2 == qEtype then 16 else 12

/-- The SecTAG at a place, where the frame has one there. -/
def readTag (f : List Byte) (i : Nat) : Option SecTag :=
  if wordAt f i 2 ≠ secEtype then none
  else
    let t := byteAt f (i + 2)
    some { v := t.testBit 7, es := t.testBit 6, sc := t.testBit 5, scb := t.testBit 4, e := t.testBit 3, c := t.testBit 2
           an := t % 4, sl := byteAt f (i + 3), pn := wordAt f (i + 4) 4
           sci := if t.testBit 5 then some (BitVec.ofNat 64 (wordAt f (i + 8) 8)) else none }

/-- 16 bytes with the SCI, 8 without it (R89). -/
def SecTag.len (t : SecTag) : Nat := if t.sc then 16 else 8

/-- The ICV's bytes (R89). -/
def icvLen : Nat := 16

/-- The bytes of a SecTAG. -/
def SecTag.bytes (t : SecTag) : List Byte :=
  beBytes 2 secEtype
    ++ beBytes 1 (b2n t.v <<< 7 ||| b2n t.es <<< 6 ||| b2n t.sc <<< 5 ||| b2n t.scb <<< 4 ||| b2n t.e <<< 3 ||| b2n t.c <<< 2
      ||| t.an % 4)
    ++ beBytes 1 t.sl ++ beBytes 4 t.pn ++ (match t.sci with | some x => beBytes 8 x.toNat | none => [])

/-- Secure data bytes of a frame with the tag at `i`: SL, or all up to the ICV where SL is 0 (log 92). -/
def SecTag.dataLen (t : SecTag) (f : List Byte) (i : Nat) : Nat :=
  if t.sl = 0 then f.length - (i + t.len + icvLen) else t.sl

/-- Row 3 of R83: V ≠ 0, ES and SC both set, SL invalid, or the frame too short. -/
def SecTag.malformed (t : SecTag) (f : List Byte) (i : Nat) : Bool :=
  t.v || (t.es && t.sc) || decide (48 ≤ t.sl)
    || decide (f.length < i + t.len + icvLen + (if t.sl = 0 then 48 else t.sl))

/-! ## The port cipher record (R78) -/

def State.vlanClear (s : State) (port : Nat) : Bool := bit (s.cipherPort port) 53

/-- The engine has been erased by a tamper alarm, or fenced: it drops protected frames (R94, R101). -/
def State.engineDead (s : State) (e : Nat) : Bool := (s.cengine e).erased || (s.cengine e).fenced

/-- A received frame's SecTAG, and where it stands. -/
def State.rxTag (s : State) (port : Nat) (f : List Byte) : Option (SecTag × Nat) :=
  let i := secPlace (s.vlanClear port) f
  (readTag f i).map fun t => (t, i)

/-- The Ethertype is sent and received uncontrolled (R83, R89). -/
def State.clearEtype (s : State) (port : Nat) (f : List Byte) : Bool :=
  let r := s.cipherPort port
  let ty := wordAt f (secPlace (s.vlanClear port) f) 2
  decide (ty ≠ 0) && (ty == fld r 36 21 || ty == fld r 20 5)

/-! ## Keys and initial vectors (R76, R80; log 92) -/

/-- The initial vector of a frame: SCI and PN, or SSCI and PN crossed with the salt for XPN. -/
def macIv (xpn : Bool) (x : Sa) (sci : BitVec 64) (pn : Nat) : BitVec 96 :=
  if xpn then BitVec.ofNat 96 (x.ssci.toNat * 2 ^ 64 + pn % 2 ^ 64) ^^^ x.salt else BitVec.ofNat 96 (sci.toNat * 2 ^ 32 + pn % 2 ^ 32)

/-- The full PN of a frame that carries its low 32 bits, from the next expected PN (XPN). -/
def recoverPn (next low : Nat) : Nat :=
  let up := next / 2 ^ 32
  if low < 2 ^ 31 ∧ 2 ^ 31 ≤ next % 2 ^ 32 then (up + 1) * 2 ^ 32 + low else up * 2 ^ 32 + low

/-- The PN of a frame under a receive SA. -/
def State.rxPn (s : State) (port sa : Nat) (t : SecTag) : Nat :=
  if s.xpn port then recoverPn (s.rxSa sa).pn t.pn else t.pn

/-! ## Opening a received frame (R84) -/

/-- The frame without its SecTAG and ICV, its secure data given. -/
def SecTag.strip (t : SecTag) (f : List Byte) (i : Nat) (data : List Byte) : List Byte := f.take i ++ data.take (t.dataLen f i)

/-- The secure data as it stands in the frame. -/
def SecTag.data (t : SecTag) (f : List Byte) (i : Nat) : List Byte := (f.drop (i + t.len)).take (t.dataLen f i)

/-- The plaintext frame, decrypted where E = 1. -/
def SecTag.plain (t : SecTag) (f : List Byte) (i : Nat) (key : BitVec 256) (iv : BitVec 96) : List Byte :=
  t.strip f i (if t.e then gcmCrypt key iv (t.data f i) else t.data f i)

/-- The ICV is right: over cipher text with everything ahead of it, or over the whole frame where E = 0. -/
def SecTag.icvGood (t : SecTag) (f : List Byte) (i : Nat) (key : BitVec 256) (iv : BitVec 96) : Bool :=
  let n := i + t.len
  let d := t.data f i
  let icv := BitVec.ofNat 128 (wordAt f (n + t.dataLen f i) icvLen)
  icv == if t.e then gcmTag key iv (f.take n) d else gcmTag key iv (f.take n ++ d) []

/-- The initial vector of a received frame; one without an SCI has that of its SC. -/
def State.rxIv (s : State) (port sa : Nat) (t : SecTag) : BitVec 96 :=
  macIv (s.xpn port) (s.rxSa sa) (t.sci.getD (s.rxSc (sa / 4)).sci) (s.rxPn port sa t)

/-! ## Protecting a sent frame (R89) -/

/-- The SecTAG that the port's record and the SA give a frame. -/
def State.txTag (s : State) (port sa pn : Nat) (f : List Byte) (i : Nat) : SecTag :=
  let r := s.cipherPort port
  let n := f.length - i
  { v := false, es := bit r 56, sc := bit r 57, scb := bit r 55, e := bit r 54, c := bit r 54, an := sa % 4
    sl := if n < 48 then n else 0, pn := pn % 2 ^ 32, sci := if bit r 57 then some (s.txSc (sa / 4)).sci else none }

/-- What the engine needs for a frame, fixed when its transmission starts (R79, R90, R91). -/
def State.secTx (s : State) (port sa : Nat) (f : List Byte) : SecTx :=
  let i := secPlace (s.vlanClear port) f
  let pn := (s.txSa sa).pn
  { key := (s.txSa sa).key, iv := macIv (s.xpn port) (s.txSa sa) (s.txSc (sa / 4)).sci pn
    tag := (s.txTag port sa pn f i).bytes, place := i, conf := bit (s.cipherPort port) 54 }

/-- The frame on the line up to its ICV: SecTAG put in, the rest encrypted where TX_CONF asks for it. -/
def SecTx.body (x : SecTx) (f : List Byte) : List Byte :=
  let d := f.drop x.place
  f.take x.place ++ x.tag ++ (if x.conf then gcmCrypt x.key x.iv d else d)

/-- Its ICV. -/
def SecTx.icv (x : SecTx) (f : List Byte) : List Byte :=
  let b := x.body f
  let n := x.place + x.tag.length
  beBytes icvLen (if x.conf then gcmTag x.key x.iv (b.take n) (b.drop n) else gcmTag x.key x.iv b []).toNat

end Sys2Proof.Machine
end

