-- ==== Sys2Proof/Machine/EditOps.lean ====
section
/-! DEFINITION. Frame editing: the operations of an edit profile on the bytes of a frame (R121, R123,
spec/05_parser_rules.md), and the ECN mark of R226 (spec/09_buffer.md). -/

namespace Sys2Proof.Machine

/-- A frame under edit: its bytes without FCS, its headers as they now stand, whether an operation dropped it, and the
operations left to the MAC or to IOAM. -/
structure Editing where
  bytes : List Byte
  headers : List (Nat × Nat × Nat)
  dropped : Bool
  ioam : Bool
  ptp : Bool
deriving DecidableEq, Repr

/-- What the operations take from the packet: its traffic class, the MAC pair of its next hop, and the templates. -/
structure EditCtx where
  tc : Nat
  macs : Option Nat
  template : Nat → Option (List Byte)

def putBytes (f : List Byte) (i : Nat) (l : List Byte) : List Byte := f.take i ++ l ++ f.drop (i + l.length)

/-- `n` bytes removed at `i`; later headers move up, headers that began there are gone. -/
def Editing.remove (e : Editing) (i n : Nat) : Editing :=
  { e with bytes := e.bytes.take i ++ e.bytes.drop (i + n)
           headers := e.headers.filterMap fun h =>
             if h.2.1 < i then some h else if h.2.1 < i + n then none else some (h.1, h.2.1 - n, h.2.2) }

/-- Bytes inserted at `i`; headers from there on move down. -/
def Editing.insert (e : Editing) (i : Nat) (l : List Byte) : Editing :=
  { e with bytes := e.bytes.take i ++ l ++ e.bytes.drop i
           headers := e.headers.map fun h => if h.2.1 < i then h else (h.1, h.2.1 + l.length, h.2.2) }

def Editing.put (e : Editing) (i : Nat) (l : List Byte) : Editing := { e with bytes := putBytes e.bytes i l }

/-- The frame has an outer 802.1Q or 802.1ad tag. -/
def tagged (f : List Byte) : Bool := wordAt f 12 2 == 0x8100 || wordAt f 12 2 == 0x88A8

def Editing.find (e : Editing) (t : Nat) : Option (Nat × Nat × Nat) := e.headers.find? fun h => h.1 == t

/-- The first IP header: type 4 or 5, whichever stands first (R123). -/
def Editing.firstIp (e : Editing) : Option (Nat × Nat × Nat) := e.headers.find? fun h => h.1 == 4 || h.1 == 5

/-- Ones-complement sum folded to 16 bits. -/
def fold16 (n : Nat) : Nat :=
  let a := n / 65536 + n % 65536
  a / 65536 + a % 65536

/-- A checksum after a 16-bit word changes from `old` to `new` (RFC 1624). -/
def checksumUpdate (c old new : Nat) : Nat := 65535 - fold16 (fold16 ((65535 - c) + (65535 - old)) + new)

/-- Byte `i` of an IPv4 header at `pos` set, its checksum corrected. -/
def Editing.putIpv4 (e : Editing) (pos i : Nat) (b : Nat) : Editing :=
  let w := pos + i / 2 * 2
  let old := wordAt e.bytes w 2
  let e := e.put (pos + i) (beBytes 1 b)
  e.put (pos + 10) (beBytes 2 (checksumUpdate (wordAt e.bytes (pos + 10) 2) old (wordAt e.bytes w 2)))

/-- The traffic-class byte of the IP header `h`. -/
def tosOf (f : List Byte) (h : Nat × Nat × Nat) : Nat :=
  if h.1 = 4 then byteAt f (h.2.1 + 1) else wordAt f h.2.1 2 / 16 % 256

def Editing.putTos (e : Editing) (h : Nat × Nat × Nat) (tos : Nat) : Editing :=
  if h.1 = 4 then e.putIpv4 h.2.1 1 tos
  else
    let w := wordAt e.bytes h.2.1 2
    e.put h.2.1 (beBytes 2 (w / 4096 * 4096 + tos * 16 + w % 16))

/-- ECN marking: ECT becomes CE (R226); the mark says that the field changed. -/
def Editing.markCe (e : Editing) : Editing × Bool :=
  match e.firstIp with
  | none => (e, false)
  | some h =>
    let t := tosOf e.bytes h
    if t % 4 = 1 ∨ t % 4 = 2 then (e.putTos h (t / 4 * 4 + 3), true) else (e, false)

/-- SET_DSCP on the first IP header. -/
def Editing.setDscp (e : Editing) (d : Nat) : Editing :=
  match e.firstIp with
  | none => e
  | some h => e.putTos h (d * 4 + tosOf e.bytes h % 4)

/-- DEC_TTL (code 7). -/
def Editing.decTtl (e : Editing) : Editing :=
  match e.firstIp with
  | none => e
  | some h =>
    let i := if h.1 = 4 then 8 else 7
    let v := byteAt e.bytes (h.2.1 + i)
    if v ≤ 1 then { e with dropped := true }
    else if h.1 = 4 then e.putIpv4 h.2.1 8 (v - 1)
    else e.put (h.2.1 + 7) (beBytes 1 (v - 1))

/-- Where the label stack stands or would stand: after the Ethernet header and its tags. -/
def labelPos (e : Editing) : Nat :=
  match e.find 3 with
  | some h => h.2.1
  | none => if tagged e.bytes then (if wordAt e.bytes 16 2 = 0x8100 ∨ wordAt e.bytes 16 2 = 0x88A8 then 22 else 18) else 14

/-- POP_MPLS: the last label gone, the Ethertype becomes that of the IP header behind it (log 15). -/
def Editing.popMpls (e : Editing) : Editing :=
  match e.find 3 with
  | none => e
  | some h =>
    let bottom := byteAt e.bytes (h.2.1 + 2) % 2 == 1
    let e := e.remove h.2.1 4
    if bottom then
      match e.headers.find? fun x => x.2.1 == h.2.1 with
      | some x =>
        if x.1 = 4 then e.put (h.2.1 - 2) (beBytes 2 0x0800)
        else if x.1 = 5 then e.put (h.2.1 - 2) (beBytes 2 0x86DD) else e
      | none => e
    else e

/-- TTL copied to a pushed label: of the top label, else of the first IP header. -/
def Editing.ttl (e : Editing) : Nat :=
  match e.find 3 with
  | some h => byteAt e.bytes (h.2.1 + 3)
  | none =>
    match e.firstIp with
    | some h => byteAt e.bytes (h.2.1 + (if h.1 = 4 then 8 else 7))
    | none => 0

/-- PUSH_MPLS: traffic class from the packet, TTL copied; the first label sets the Ethertype (log 15). -/
def Editing.pushMpls (e : Editing) (label : BitVec 20) (tc : Nat) : Editing :=
  let first := (e.find 3).isNone
  let pos := labelPos e
  let word := label.toNat <<< 12 ||| tc <<< 9 ||| b2n first <<< 8 ||| e.ttl
  let e := if first then e.put (pos - 2) (beBytes 2 0x8847) else e
  let e := e.insert pos (beBytes 4 word)
  { e with headers := (e.headers.filter fun h => decide (h.2.1 < pos)) ++ [(3, pos, 4)]
                        ++ e.headers.filter fun h => decide (pos < h.2.1) }

def Editing.swapMpls (e : Editing) (label : BitVec 20) : Editing :=
  match e.find 3 with
  | none => e
  | some h => e.put h.2.1 (beBytes 4 (label.toNat <<< 12 ||| wordAt e.bytes h.2.1 4 % 4096))

/-- Ones-complement checksum of an IPv4 header of `n` bytes whose checksum field is zero. -/
def ipChecksum (f : List Byte) (pos n : Nat) : Nat :=
  65535 - fold16 ((List.range (n / 2)).foldl (fun a i => a + wordAt f (pos + 2 * i) 2) 0)

/-- Headers that an operation put in at `pos`, in the order in which they stand. -/
def Editing.addHeaders (e : Editing) (pos : Nat) (l : List (Nat × Nat × Nat)) : Editing :=
  { e with headers := (e.headers.filter fun h => decide (h.2.1 < pos)) ++ l ++ e.headers.filter fun h => decide (pos ≤ h.2.1) }

/-- The headers of a template: an IP header by its first nibble, and what follows as the default program would read it
(log 94). -/
def templateHeaders (t : List Byte) : List (Nat × Nat × Nat) :=
  let read (ty : Nat) :=
    (defParseFrom t 24 0 (.header ty) { tags := 0, labels := 0, exts := 0 } { headers := [], err := 0, cls := 0, sets := [] }).headers
  match byteAt t 0 / 16 with
  | 4 => read 4
  | 6 => read 5
  | _ => []

/-- ENCAP: the template after the Ethernet header, its lengths and checksum filled in, its UDP checksum zero; its headers
now stand first. -/
def Editing.encap (e : Editing) (t : List Byte) : Editing :=
  let e := (e.insert 14 t).addHeaders 14 ((templateHeaders t).map fun h => (h.1, h.2.1 + 14, h.2.2))
  let total := e.bytes.length - 14
  let v := byteAt t 0 / 16
  if v = 4 ∧ 20 ≤ t.length then
    let ihl := byteAt t 0 % 16 * 4
    let e := (e.put 16 (beBytes 2 total)).put 24 (beBytes 2 0)
    let e := e.put 24 (beBytes 2 (ipChecksum e.bytes 14 ihl))
    if byteAt t 9 = 17 ∧ ihl + 8 ≤ t.length then
      (e.put (14 + ihl + 4) (beBytes 2 (total - ihl))).put (14 + ihl + 6) (beBytes 2 0)
    else e
  else if v = 6 ∧ 40 ≤ t.length then
    let e := e.put 18 (beBytes 2 (total - 40))
    if byteAt t 6 = 17 ∧ 48 ≤ t.length then (e.put 58 (beBytes 2 (total - 40))).put 60 (beBytes 2 0) else e
  else e

/-- One operation of R123. -/
def Editing.apply (c : EditCtx) (e : Editing) (op : EditOp) : Editing :=
  if e.dropped then e
  else match op with
  | .popVlan => if tagged e.bytes then e.remove 12 4 else e
  | .pushVlan tpid tci fromTc =>
    let tci := if fromTc then c.tc * 8192 + tci.toNat % 8192 else tci.toNat
    (e.insert 12 (beBytes 2 tpid.toNat ++ beBytes 2 tci)).addHeaders 14 [(2, 14, 4)]
  | .setVid vid =>
    if tagged e.bytes then e.put 14 (beBytes 2 (wordAt e.bytes 14 2 / 4096 * 4096 + vid.toNat)) else e
  | .popMpls => e.popMpls
  | .pushMpls l => e.pushMpls l c.tc
  | .swapMpls l => e.swapMpls l
  | .decTtl => e.decTtl
  | .setDscp d => e.setDscp d.toNat
  | .setMac => match c.macs with | some m => e.put 0 (beBytes 12 m) | none => e
  | .encap t => match c.template t with | some l => e.encap l | none => e
  | .decap t i =>
    match instanceOf e.headers t i with
    | some h => e.remove 0 (h.2.1 + h.2.2)
    | none => e
  | .ioamTrace => { e with ioam := true }
  | .ptpCorrect => { e with ptp := true }

/-- A frame left shorter than 64 bytes with its FCS is padded. -/
def padFrame (f : List Byte) : List Byte := f ++ List.replicate (60 - f.length) 0

/-- The operations of a profile in order, then padding. -/
def editFrame (c : EditCtx) (ops : List EditOp) (f : List Byte) (hs : List (Nat × Nat × Nat)) : Editing :=
  let e := ops.foldl (Editing.apply c)
    { bytes := f, headers := hs, dropped := false, ioam := false, ptp := false }
  { e with bytes := padFrame e.bytes }

/-- The operations of an edit profile live in version `v`. -/
def State.editOps (s : State) (id : Nat) (v : BitVec 16) : List EditOp :=
  match s.objById kindEdit id v with | some (.editProf ops) => ops | _ => []

def State.templateBytes (s : State) (v : BitVec 16) (id : Nat) : Option (List Byte) :=
  match s.objById kindTemplate id v with | some (.template b) => some b | _ => none

def State.editCtx (s : State) (p : Pkt) (macs : Option Nat) : EditCtx :=
  { tc := p.tc, macs := macs, template := s.templateBytes p.version }

end Sys2Proof.Machine
end

