-- ==== Sys2Proof/Machine/Ingress.lean ====
section
/-! DEFINITION. The ingress pipes: receive cipher classification, the receive MAC, packet entry, the ingress decision,
admission and the cloister port (R10, R14, R18, R28, R30, R61, R83, R103 to R120, R155, R191, R219, R220, R250, R270). -/

namespace Sys2Proof.Machine

/-! ## Time-stamps (R270, R271) -/

/-- RX_LAT and TX_LAT in units of 0.1 ns, by rate code, width and FEC. -/
def pathLat (rate width : Nat) (noFec : Bool) : Nat × Nat :=
  match rate, width with
  | 0, 1 => (1824, 968) | 0, 2 => (1416, 782) | 0, 4 => (1213, 695) | 0, _ => (1109, 641)
  | 1, 1 => (2480, 1317) | 1, 2 => (1765, 984) | 1, 4 => (1402, 806) | 1, _ => (1228, 713)
  | 2, 1 => (3961, 2083) | 2, 2 => (2514, 1340) | 2, 4 => (1789, 991) | 2, _ => (1427, 815)
  | _, 1 => if noFec then (964, 612) else (5210, 2726)
  | _, _ => if noFec then (882, 557) else (2483, 1309)

def State.portLat (s : State) (p : Nat) : Nat × Nat := pathLat (s.portRate p) (s.portLanes p).2 (s.fecOff p)

/-- PORT_TD and the two asymmetries of R272. -/
def State.portTd (s : State) (p : Nat) : Nat := fld (s.timePort p) 50 48
def State.asymRx (s : State) (p : Nat) : Int := sfld (s.timePort p) 47 24
def State.asymTx (s : State) (p : Nat) : Int := sfld (s.timePort p) 23 0

/-- The stamps of a frame in its port's domain: its first bit crossed the receive PCS `pcsPs` picoseconds ago, or crosses the
transmit PCS in `pcsPs` picoseconds. -/
def State.rxTs (s : State) (p pcsPs : Nat) : Nat :=
  halfNs (s.tdAt (s.portTd p) (-(pcsPs : Int)) - 2 ^ 64 * (100 * (s.portLat p).1 + s.asymRx p))
def State.txTs (s : State) (p pcsPs : Nat) : Nat :=
  halfNs (s.tdAt (s.portTd p) pcsPs + 2 ^ 64 * (100 * (s.portLat p).2 + s.asymTx p))

/-! ## Receive cipher classification (R83) -/

/-- What the receive engine makes of a frame: no SecY; passed uncontrolled or unchecked, with its counter; dropped, with its counter;
or decrypted or verified under a receive SA. -/
inductive RxClass where
  | off
  | passed (c : Option (Ctr × Nat))
  | dropped (c : Ctr) (inst : Nat)
  | poisoned (addr : BitVec 64) (inst : Nat)
  | secured (sa : Nat)
deriving DecidableEq, Repr

/-- The created receive SC of the port that the SCI names: global index. -/
def State.findRxSc (s : State) (port : Nat) (sci : BitVec 64) : Option Nat :=
  s.cipher.rxSc.findSome? fun (e : Nat × Sc) => if e.2.valid && e.2.port == port && e.2.sci == sci then some e.1 else none

/-- Rows 6 to 8 of R83, for a frame on receive SC `sc`. An SA still ERASED after a restore drops the frame (DESIGN CHOICE,
log 106). -/
def State.rxClassSc (s : State) (port sc : Nat) (t : SecTag) : RxClass :=
  let a := sc * 4 + t.an
  let x := s.rxSa a
  if !x.present then
    if !s.checkMode port || t.e then .dropped .inPktsNotUsingSA a else .passed (some (.inPktsUnusedSA, a))
  else if x.erased then .dropped .cipherKeyErasedDrop (port / 8 * 2)
  else if s.faults.poisoned.contains (faultAddr 9 0 a) then .poisoned (faultAddr 9 0 a) (port / 8 * 2)
  else if (s.rxSc sc).replayProtect && decide (s.rxPn port a t < max 1 (x.pn - (s.rxSc sc).replayWindow)) then
    .dropped .inPktsLate sc
  else .secured a

/-- The decision of R83, row by row; an engine that has been erased or fenced drops protected frames (R94, R101), once their
SecTAG is known to be one (log 92). DEF_RX_SC is used whatever port its SC is of (DESIGN CHOICE, log 106). -/
def State.rxClass (s : State) (port : Nat) (f : RxFrame) : RxClass :=
  let r := s.cipherPort port
  if !s.macsecOn port then .off
  else match s.rxTag port f.bytes with
  | none =>
    if s.clearEtype port f.bytes then .passed none
    else if bit r 58 then .passed (some (.inPktsUntagged, port)) else .dropped .inPktsNoTag port
  | some (t, i) =>
    if t.malformed f.bytes i then .dropped .inPktsBadTag port
    else if s.engineDead (port / 8 * 2) then .dropped .cipherKeyErasedDrop (port / 8 * 2)
    else match t.sci with
    | some sci =>
      match s.findRxSc port sci with
      | some sc => s.rxClassSc port sc t
      | none => .dropped .inPktsUnknownSCI port
    | none => if bit r 47 then s.rxClassSc port (port / 8 * 32 + fld r 52 48) t else .dropped .inPktsNoSCI port

/-- The device as a frame of the port meets it whose first byte arrived at core clock `t`: with the record of then (R79). -/
def State.asBegun (s : State) (port t : Nat) : State :=
  match ((s.cipherPast port).filter fun (e : BitVec 64 × Nat) => decide (t < e.2)).getLast? with
  | some e => s.putCipherPort port e.1
  | none => s

/-- The counter of a frame passed or dropped. -/
def State.countClass (s : State) (c : RxClass) : State :=
  match c with
  | .passed (some x) => s.bump x.1 x.2
  | .dropped x i => s.bump x i
  | .poisoned a i => (s.bump .cipherKeyErasedDrop i).consumed a
  | _ => s

/-- CIPHER of R109; `e` is the E bit. -/
def cipherCode (c : RxClass) (e : Bool) : Nat :=
  match c with
  | .off => 0
  | .secured _ => if e then 1 else 2
  | _ => 3

/-- The frame as it enters the pipe: decrypted or verified with its SecTAG and ICV gone, passed unchecked without them, or
as it came (R84, R103; log 92). -/
def State.rxPlain (s : State) (port : Nat) (f : RxFrame) (c : RxClass) : List Byte :=
  match c, s.rxTag port f.bytes with
  | .secured a, some (t, i) => t.plain f.bytes i (s.rxSa a).key (s.rxIv port a t)
  | .passed _, some (t, i) => t.strip f.bytes i (t.data f.bytes i)
  | _, _ => f.bytes

/-- What the engine's check of the ICV finds (R84). -/
def State.rxIcv (s : State) (port : Nat) (f : RxFrame) (c : RxClass) : Bool :=
  match c, s.rxTag port f.bytes with
  | .secured a, some (t, i) => t.icvGood f.bytes i (s.rxSa a).key (s.rxIv port a t)
  | _, _ => true

/-! ## The receive MAC (R58, R61, R73) -/

/-- Index of the RxSize or TxSize bin of a length. -/
def sizeBin (n : Nat) : Nat :=
  if n ≤ 64 then 0 else if n < 128 then 1 else if n < 256 then 2 else if n < 512 then 3 else if n < 1024 then 4
  else if n ≤ 1518 then 5 else if n < 2048 then 6 else if n < 4096 then 7 else if n ≤ 9216 then 8 else 9

/-- 0 unicast, 1 multicast, 2 broadcast, by destination address. -/
def destCast (f : List Byte) : Nat :=
  if wordAt f 0 6 = 2 ^ 48 - 1 then 2 else if byteAt f 0 % 2 = 1 then 1 else 0

def State.countRxOk (s : State) (port len cast : Nat) : State :=
  let s := ((s.bump .rxFramesOk port).bumpBy .rxOctetsOk port len).bump .rxSize (port * 16 + sizeBin len)
  s.bump (if cast = 2 then .rxBroadcast else if cast = 1 then .rxMulticast else .rxUnicast) port

/-- The receive MAC's verdict: good, and the counter of a bad frame, the first in the order of R61. -/
def State.macVerdict (s : State) (port : Nat) (f : RxFrame) : Option Ctr :=
  if f.wireLen < 64 then some .rxRunt
  else if s.maxFrameOf port f.wireLen < f.wireLen then some .rxOversize
  else if !f.fcsOk || decide (0 < f.fecBad) || f.truncated then some .rxFcsErr
  else none

def State.countMac (s : State) (port : Nat) (f : RxFrame) : State :=
  let s := (s.bumpBy .rxFecUncorrected port f.fecBad).bumpBy .rxFecCorrected port f.fecFixed
  match s.macVerdict port f with
  | some c => s.bump c port
  | none => s.countRxOk port f.wireLen (destCast f.bytes)

/-- The packet of a frame that has entered its pipe. -/
def State.pktOf (s : State) (port fid : Nat) : Option Nat :=
  (s.pk.pkts.keysWhere fun _ x => match x with
    | some p => p.port == port && p.fid == fid && p.pass == 0 && !p.injected && !p.egressMade && p.stream.isNone
    | none => false).head?

/-- The frame's other event needs nothing further. -/
def State.setRefused (s : State) (port fid : Nat) : State :=
  { s with pk := { s.pk with refused := s.pk.refused ++ [(port, fid)] } }

def State.clearRefused (s : State) (port fid : Nat) : State :=
  { s with pk := { s.pk with refused := s.pk.refused.filter (· != (port, fid)) } }

/-- A MAC control frame, which the MAC consumes (R63): MAC_CONTROL_FRAME_RX is its event, and no other touches it. -/
def isMacControl (f : RxFrame) : Bool := wordAt f.bytes 12 2 == 0x8808

/-! ## Frames taken and not yet entered (R10, R60, R61, R79, R83, R191) -/

/-- Priority of a packet for which nothing sets a traffic class: the PCP of its outer tag, or 0 (R220). -/
def pcpOf (f : List Byte) : Nat := if tagged f then byteAt f 14 / 32 else 0

def newPkt (port fid pipe : Nat) (f : List Byte) (version : BitVec 16) (entered : Nat) : Pkt :=
  { port := port, fid := fid, pipe := pipe, bytes := f, frameLen := f.length + 4, version := version, tag := none
    macOk := none, icvWait := false, icvOk := none, icvGood := true, check := false, verdictAt := 0, verdict := .none
    resolvedAt := 0, sa := none, pn := 0, eBit := false
    cipher := 0, hold := false, pass := 0, metaVal := 0, rxTs := 0, td := 0, injected := false, txRing := none
    madeBy := none, tsReq := false, oneStep := false, cookie := 0, launch := none, headers := [], parseErr := 0, emProf := 0, lpmProf := 0
    clsProf := 0, gen := 0, emSet := EmProf.init, lpmSet := [], action := none, hits := [], poisonTrap := false
    decision := .undecided, forwarding := none, tc := pcpOf f, lossless := false, pgPrio := 0, pool := ownShared
    pendingCounts := [], pendingLearn := [], cells := [], copies := [], admitted := false, pushedOut := false
    dropped := false, rollStep := 0, rollCells := [], counted := false, cloister := false, egressMade := false, stream := none, reason := 1
    entered := entered, streams := false, firstAt := 0, queued := 0, editSlots := [], origin := none, chosenAt := 0 }

/-- The packet that a frame becomes whose first byte arrived at core clock `first`: of its line bytes no more than
MAX_FRAME + 1 are received, the FCS last (R60, R61). -/
def State.rxPkt (s : State) (port fid first : Nat) (f : RxFrame) (c : RxClass) : Pkt :=
  let most := s.maxFrameAt port first + 1
  let f := { f with bytes := f.bytes.take most }
  let tag := (s.rxTag port f.bytes).map (·.1)
  let e := (tag.map (·.e)).getD false
  let sa := match c with | .secured a => some a | _ => none
  let p : Pkt := newPkt port fid (s.ingressPipe port) (s.rxPlain port f c) s.rules.current 0
  { p with
    frameLen := p.bytes.length + min 4 (most - f.bytes.length), icvWait := sa.isSome, icvGood := s.rxIcv port f c
    check := s.checkMode port, sa := sa, pn := (sa.bind fun a => tag.map (s.rxPn port a)).getD 0, eBit := e
    cipher := cipherCode c e, hold := sa.isSome && s.cutMacsec port, rxTs := s.rxTs port f.pcsPs, td := s.portTd port
    firstAt := first, streams := true }

def Arrived.is (a : Arrived) (port fid : Nat) : Bool := a.pkt.port == port && a.pkt.fid == fid

def State.arrivedAs (s : State) (port fid : Nat) : Option Arrived := s.pk.arrived.find? (·.is port fid)

def State.forgetArrived (s : State) (port fid : Nat) : State :=
  { s with pk := { s.pk with arrived := s.pk.arrived.filter fun a => !a.is port fid } }

/-- The frame's failed verdict has reached the pipe: it needs no slot (R61, R191). -/
def Arrived.failed (a : Arrived) (tickStamp : Nat) : Bool :=
  match a.verdict with | some (ok, at_) => !ok && decide (at_ < tickStamp) | none => false

/-- The MAC and the receive engine take a frame, once: it is dropped with its counter, or waits for its entry. -/
def State.arrive (s : State) (port fid first : Nat) (f : RxFrame) : State :=
  if (s.arrivedAs port fid).isSome then s
  else
    let b := s.asBegun port first
    let c := b.rxClass port f
    let s := s.countClass c
    match c with
    | .dropped _ _ => s.setRefused port fid
    | .poisoned _ _ => s.setRefused port fid
    | _ => { s with pk := { s.pk with arrived := s.pk.arrived ++ [{ pkt := b.rxPkt port fid first f c, verdict := none }] } }

/-- MAC_RX_FRAME_END (R61, R192): the verdict goes to the packet, or waits for its entry. -/
def execMacRxFrameEnd (port fid : Nat) (f : RxFrame) (s : State) : Host.Outcome State Fault Refusal :=
  onUnit (decide (port < 1024)) port
    (if !s.isPort port || isMacControl f then s
     else
       let ok := (s.macVerdict port f).isNone
       let s := s.countMac port f
       match s.pktOf port fid with
       | some pid =>
         s.modPktD pid fun p => if p.macOk.isNone then { p with macOk := some ok, verdictAt := s.tickStamp } else p
       | none =>
         if s.pk.refused.contains (port, fid) then s.clearRefused port fid
         else
           let s := s.arrive port fid (s.now - s.wireClocks port f.wireLen) f
           let verdict := fun (a : Arrived) =>
             if a.is port fid && a.verdict.isNone then { a with verdict := some (ok, s.tickStamp) } else a
           { s with pk := { s.pk with arrived := s.pk.arrived.map verdict } })

/-! ## Tags and slots -/

/-- A free tag of the pipe, from its next sequence number on (R28). -/
def State.freeTag (s : State) (pipe : Nat) : Option Nat :=
  ((List.range 1024).map fun i => pipe * 1024 + (s.tagNext pipe + i) % 1024).find? fun t => (s.specTag t).isNone

/-- Slots of the present tick that a pipe has used; from 4 on, the pipe's slots of the tick are accounted. -/
def State.slotsUsed (s : State) (pipe : Nat) : Nat :=
  let u := s.slotsAt pipe
  if u.1 = s.tickStamp + 1 then u.2 else 0

def State.useSlot (s : State) (pipe : Nat) : State :=
  (s.putSlotsAt pipe (s.tickStamp + 1, s.slotsUsed pipe + 1)).putSlotNo pipe ((s.slotNo pipe).1 + 1, (s.slotNo pipe).2)

/-- The slice of an ingress pipe holds more than 448 cells in its stage A queue (R237). -/
def State.stageAHigh (s : State) (pipe : Nat) : Bool := decide (448 < (s.slice (pipe / 4)).stageA.length)

/-- The pipe waits on the table store: a deferred lookup, or 256 outstanding requests (R335). -/
def State.tableWait (s : State) (requester : Nat) : Bool :=
  decide (256 ≤ s.outstanding requester) ||
    s.tables.reqs.any fun q => q.requester == requester && q.deferredAt.isSome && q.servedTick.isNone

/-- A slot of the pipe can take a packet now. -/
def State.slotReady (s : State) (pipe : Nat) : Bool :=
  s.worked && s.sliceLive (pipe / 4) && !s.pipeRetired pipe && decide (s.slotsUsed pipe < 2) && !s.stageAHigh pipe
    && decide (s.outstanding pipe < 256)

/-- A cloister packet is ready for this pipe. -/
def State.cloisterWaits (s : State) (pipe : Nat) : Bool :=
  s.pk.cloisterQ.any fun pid =>
    match s.pkt pid with | some p => s.ingressPipe p.port == pipe && p.cells.all (·.written) | none => false

/-- The oldest injected frame that waits for this pipe, from the tick after the Belvedere handed it over on (R18, R365). -/
def State.injectFor (s : State) (pipe : Nat) : Option Nat :=
  s.pk.injectQ.find? fun pid =>
    match s.pkt pid with | some p => s.ingressPipe p.port == pipe && decide (p.entered < s.tickStamp) | none => false

/-- The pipe's next slot is an injected frame's in any case: the 255 before it were not (R365). -/
def State.injectDue (s : State) (pipe : Nat) : Bool :=
  (s.injectFor pipe).isSome && decide ((s.slotNo pipe).2 + 255 ≤ (s.slotNo pipe).1)

/-! ## A packet's parse, keys and search -/

/-- What a key sees that launches with the headers `hs` resolved: the metadata block shows no more (R109, R111). -/
def keyCtx (p : Pkt) (hs : List (Nat × Nat × Nat)) : KeyCtx :=
  { frame := p.bytes, headers := hs
    info := metaBytes { p with headers := hs, parseErr := if hs.length < p.headers.length then 0 else p.parseErr } 0 0 }

/-- Slot number of a lookup among a packet's results: exact-match 0-7, LPM 8-9. -/
def lookupSlot (em : Bool) (idx : Nat) : Nat := if em then idx else 8 + idx

/-- One key launched (R111, R153, R154). -/
def State.launch (s : State) (pid : Nat) (p : Pkt) (l : Launch) : State :=
  let k := keyCtx p (l.headers p.headers)
  if l.em then
    match (s.emProfile l.prof).lookups[l.idx]? with
    | none => s
    | some u =>
      let direct := (s.table u.table).rcd.kind == 1
      let kind := if direct then
          LookupKind.direct u.table (keyOf k (u.extracts.take 2)) false
        else LookupKind.search u.table
          (BitVec.ofNat 320 (keyOf k (u.extracts.take (if (s.table u.table).rcd.width = 2 then 20 else 8)))) u.learn
      s.addReq { newReq p.pipe pid kind with slot := lookupSlot true l.idx, gen := l.gen, old := l.old, replay := l.replay
                                             fwd := u.fwd, prio := u.prio }
  else
    match (s.lpmProfile l.prof)[l.idx]? with
    | none => s
    | some u =>
      match lpmAddress k u with
      | some a => s.addReq { newReq p.pipe pid (.lpm u.family (lpmVrf k u) a) with
                             slot := lookupSlot false l.idx, gen := l.gen, old := l.old, replay := l.replay, fwd := u.fwd
                             prio := u.prio }
      | none => if l.old then s else s.bump .lpmMisses u.family

/-- The ingress search of a packet, its action and counter (R113 to R117, R161). -/
def State.ingressSearch (s : State) (pid : Nat) : State :=
  match s.pkt pid with
  | none => s
  | some p =>
    if p.clsProf = 0 then s
    else match s.classify (p.pipe / 4) 0 p.clsProf p.version (keyCtx p p.headers) with
      | .none => s.bump .clsNoMatch p.pipe
      | .trap addr =>
        (s.putPkt pid (some { p with poisonTrap := true })).tablePoison addr
      | .rule _ r =>
        let s := s.putPkt pid (some { p with action := some r.action })
        if bit r.action 83 then s.countFor pid p (fld r.action 82 63, p.frameLen) else s

/-- The parse of a packet, its launches and its search. -/
def State.parsePkt (s : State) (pid : Nat) : State :=
  match s.pkt pid with
  | none => s
  | some p =>
    let r := s.parse p.version p.bytes
    let run := p.tag.isSome
    let q := s.plan r run
    let s := if r.err = 0 then s else s.bump .parseErr (p.pipe * 8 + r.err)
    let s := if run && decide (0 < q.gen) then s.bump .runaheadReplay p.pipe else s
    let s := if run && q.late.isSome then s.bump .runaheadHold p.pipe else s
    let p := { p with headers := r.headers, parseErr := r.err, clsProf := r.cls, emProf := q.em, lpmProf := q.lpm
                      gen := q.gen, emSet := if q.em = 0 then EmProf.init else s.emProfile q.em
                      lpmSet := if q.lpm = 0 then [] else s.lpmProfile q.lpm }
    let s := s.putPkt pid (some p)
    let s := (s.launches r q).foldl (fun s l => s.launch pid p l) s
    s.ingressSearch pid

/-- A packet put into the device, its version's in-flight count raised where it counts (R126). -/
def State.addPkt (s : State) (p : Pkt) (counts : Bool) : State × Nat :=
  let pid := s.pk.pktNext
  let s := { s with pk := { s.pk with pktNext := pid + 1 } }
  let s := if counts then s.modInFlight p.version.toNat (· + 1) else s
  (s.putPkt pid (some { p with counted := true, origin := p.origin.or (some pid) }), pid)

/-- A tag for the packet; with none free it goes without speculation (R28, R30). -/
def State.giveTag (s : State) (pid : Nat) : State :=
  match s.pkt pid with
  | none => s
  | some p =>
    match s.freeTag p.pipe with
    | some t =>
      let s := ((s.putSpecTag t (some pid)).putTagNext p.pipe ((t + 1) % 1024)).bump .specTagsAllocated p.pipe
      s.putPkt pid (some { p with tag := some t })
    | none => (s.bump .specTagExhausted p.pipe).raise srcSpecTagExhausted p.pipe 0

/-- A slot that carries a packet (R335). -/
def State.carry (s : State) (pipe : Nat) : State := (s.useSlot pipe).ledgerAdd pipe rowCarried

/-- The lossless mark of a packet, and the priority its cells count under (R220). -/
def State.losslessOf (s : State) (port tc : Nat) : Bool × Nat :=
  match s.flowMode port with
  | 2 => (s.pfcTx port tc, tc)
  | 1 => (true, 0)
  | _ => (false, tc)

/-! ## Packet entry -/

/-- A line frame enters its pipe (R18, R191), under the rule version in force. A good verdict that has reached the pipe leaves
nothing to speculate on. A protected frame keeps the key it had at its begin, and its ICV's outcome, through an alarm (DESIGN
CHOICE, log 106). -/
def State.enter (s : State) (a : Arrived) : State :=
  let pipe := a.pkt.pipe
  let p : Pkt := { a.pkt with version := s.rules.current, entered := s.tickStamp, macOk := a.verdict.map (·.1)
                              verdictAt := (a.verdict.map (·.2)).getD 0 }
  let known := match a.verdict with | some (ok, at_) => ok && decide (at_ < s.tickStamp) | none => false
  let p : Pkt := if known && p.sa.isNone then { p with verdict := .confirm } else p
  let r := ((s.forgetArrived p.port p.fid).carry pipe).addPkt p true
  let s := if p.verdict = .confirm then r.1 else r.1.giveTag r.2
  ((s.putTurn pipe 1).putTurn (64 + pipe) (1 - octetSide pipe p.port)).parsePkt r.2

/-- The frame needs no slot any more: its verdict is forgotten, or will be when it comes. -/
def State.turnAway (s : State) (a : Arrived) : State :=
  let s := s.forgetArrived a.pkt.port a.pkt.fid
  if a.verdict.isSome then s else s.setRefused a.pkt.port a.pkt.fid

/-- The frame waits in its port FIFO for a slot of its pipe (R10, R14). -/
def State.lineWaits (s : State) (pipe port fid : Nat) : State :=
  if (s.lineWait pipe).contains (port, fid) then s else s.modLineWait pipe (· ++ [(port, fid)])

/-- A frame that waits and whose failed verdict has not reached the pipe. -/
def State.stillReady (s : State) (e : Nat × Nat) : Bool :=
  match s.arrivedAs e.1 e.2 with | some a => !a.failed s.tickStamp | none => false

/-- A line frame is ready for a slot of the pipe. -/
def State.lineReady (s : State) (pipe : Nat) : Bool := (s.lineWait pipe).any s.stillReady

/-- A frame of a port waits while the pipe's other octets, own or adopted, have a frame ready and their turn (R428). -/
def State.lineGives (s : State) (pipe port : Nat) : Bool :=
  let x := octetSide pipe port
  s.turn (64 + pipe) != x && (s.lineWait pipe).any fun e => octetSide pipe e.1 != x && s.stillReady e

/-- No slot of the pipe is for this port's frame now: none is left, or an injected frame, the cloister port or the other octets
have it (R10, R365, R428). -/
def State.noSlotFor (s : State) (pipe port : Nat) : Bool :=
  !s.slotReady pipe || s.injectDue pipe || (s.cloisterWaits pipe && s.turn pipe == 1) || s.lineGives pipe port

/-- PACKET_ENTRY (R191): its first byte came with the tick before (log 89). -/
def execPacketEntry (port fid : Nat) (f : RxFrame) (s : State) : Host.Outcome State Fault Refusal :=
  onUnit (decide (port < 1024)) port
    (let pipe := s.ingressPipe port
     if !s.isPort port || isMacControl f then s
     else if s.pk.refused.contains (port, fid) then s.clearRefused port fid
     else
       let s := s.arrive port fid (s.now - 2 - s.clock.k) f
       match s.arrivedAs port fid with
       | none => s
       | some a =>
         if !a.failed s.tickStamp && s.noSlotFor pipe port then
           s.lineWaits pipe port fid
         else
           let s := s.modLineWait pipe (·.filter (· != (port, fid)))
           if a.failed s.tickStamp then s.forgetArrived port fid
           else if !s.forwards then (s.bump .stateDrop pipe).turnAway a
           else s.enter a)

/-- A slot of a pipe that carried nothing, by the first row of R335 that applies. -/
def State.accountSlot (s : State) (pipe : Nat) (ready tableWait outWait : Bool) : State :=
  (s.putSlotNo pipe ((s.slotNo pipe).1 + 1, (s.slotNo pipe).2)).ledgerAdd pipe
    (if ready && tableWait then rowTableWait else if ready && outWait then rowOutputWait else rowIdle)

/-- The slots of a pipe's tick that carried nothing, accounted once. -/
def State.accountRest (s : State) (g : Nat) (ready0 ready1 tableWait outWait : Bool) : State :=
  let used := s.slotsUsed g
  if 4 ≤ used then s
  else
    let s := s.putSlotsAt g (s.tickStamp + 1, used + 4)
    let s := if used = 0 then s.accountSlot g ready0 tableWait outWait else s
    if used ≤ 1 then s.accountSlot g ready1 tableWait outWait else s

/-- A packet is ready for the pipe: of the line, of the cloister port, or injected. -/
def State.pipeHasWork (s : State) (pipe : Nat) : Bool :=
  s.lineReady pipe || s.cloisterWaits pipe || (s.injectFor pipe).isSome

/-- The ingress slots of a worked tick that no command has accounted (R335). -/
def State.accountIngress (s : State) (pipe : Nat) : State :=
  let r := s.pipeHasWork pipe
  s.accountRest pipe r r (s.tableWait pipe) (s.stageAHigh pipe)

/-- INGRESS_PIPE_SLOT (R14, R335): the slots of the tick that carried no packet are accounted. -/
def execIngressPipeSlot (pipe : Nat) (ready0 ready1 : Bool) (s : State) : Host.Outcome State Fault Refusal :=
  onUnit (decide (pipe < 64)) pipe
    (if s.worked then s.accountRest pipe ready0 ready1 (s.tableWait pipe) (s.stageAHigh pipe) else s)

/-! ## The ingress decision (R119, R155) -/

/-- The better of two FWD hits: priority, then exact-match, then the lower index. -/
def betterHit (a b : Hit) : Hit :=
  if b.prio < a.prio then a else if a.prio < b.prio then b
  else if a.em && !b.em then a else if b.em && !a.em then b
  else if a.idx ≤ b.idx then a else b

/-- The hit that forms the forwarding result. -/
def bestHit (hs : List Hit) : Option Hit :=
  (hs.filter (·.fwd)).foldl (fun b h => match b with | none => some h | some x => some (betterHit x h)) none

/-- FWD_OP of a rule or result: the decision it names. -/
def State.destination (s : State) (op arg : Nat) : Option Decision :=
  match op with
  | 2 => if s.isPort arg then some (.port arg) else none
  | 3 => some (.mcast arg)
  | 4 => some (.cpu (arg % 256))
  | _ => some .drop

/-- The decision taken: a drop without mirror or trap copies ends the packet at once (R193). -/
def State.decided (s : State) (pid : Nat) (d : Decision) : State :=
  match s.pkt pid with
  | none => s
  | some p =>
    let s := s.putPkt pid (some { p with decision := d })
    if d = .drop && !wantsCopies p then s.dropPkt pid freeDrop else s

/-- Traffic class by rule, result or tag, and the lossless mark (R155, R220). -/
def State.setClass (s : State) (pid : Nat) (p : Pkt) (res : Option (BitVec 80)) : State :=
  let tc := match p.action with
    | some a => if bit a 108 then some (fld a 107 105) else none
    | none => none
  let tc := match tc with
    | some t => t
    | none => match res with
      | some r => if bit r 10 then fld r 9 7 else p.tc
      | none => p.tc
  let l := s.losslessOf p.port tc
  s.putPkt pid (some { p with tc := tc, lossless := l.1, pgPrio := l.2, forwarding := res })

/-- A decision toward a destination; a port that is not one drops the packet with ClsBadDest. -/
def State.toDest (s : State) (pid pipe op arg : Nat) : State :=
  match s.destination op arg with
  | some d => s.decided pid d
  | none => (s.bump .clsBadDest pipe).decided pid .drop

/-- Row 7: the forwarding result, or the profile set's miss action. -/
def State.decideResult (s : State) (pid : Nat) (p : Pkt) (h : Option Hit) : State :=
  match h with
  | some h => s.toDest pid p.pipe (fld h.data 79 77) (fld h.data 76 61)
  | none =>
    match p.emSet.missOp with
    | 1 => (s.modPktD pid fun p => { p with reason := 2 }).decided pid (.cpu (p.emSet.missArg % 256))
    | 2 => s.decided pid (.mcast p.emSet.missArg)
    | _ => (s.bump .fwdMiss p.pipe).decided pid .drop

/-- Rows 4 and 5: the cloister pass. -/
def State.decideCloister (s : State) (pid : Nat) (p : Pkt) : State :=
  if p.pass = 1 then (s.bump .cloisterSecondDrop p.pipe).decided pid .drop
  else
    let s := s.putPkt pid (some { p with cloister := true, decision := .cloister })
    if p.verdict = .confirm then s.enterCloister pid else s

/-- The rows of R119 after row 1. -/
def State.decideRows (s : State) (pid : Nat) : State :=
  match s.pkt pid with
  | none => s
  | some p =>
    if p.poisonTrap then (s.putPkt pid (some { p with decision := .drop })).dropPkt pid freeDrop
    else
      let h := bestHit p.hits
      let s := s.setClass pid p (h.map (·.data))
      match s.pkt pid with
      | none => s
      | some p =>
        match p.action with
        | none => s.decideResult pid p h
        | some a =>
          match fld a 127 125 with
          | 1 => (s.bump .clsDrop p.pipe).decided pid .drop
          | 5 => s.decideCloister pid p
          | 0 => s.decideResult pid p h
          | op => s.toDest pid p.pipe op (fld a 124 109)

/-- INGRESS_DECISION (R119): once the packet's results are in; one whose tag resolves to ROLLBACK in this tick is left to
that (row 1, R202). -/
def execIngressDecision (pid : Nat) (s : State) : Host.Outcome State Fault Refusal :=
  match s.pkt pid with
  | none => .next s
  | some p =>
    if p.decision = .undecided ∧ p.verdict ≠ .rollback ∧ !p.dropped ∧ !s.resultsDue pid ∧ !(s.verdictsIn pid p && p.fails) then
      .next (s.decideRows pid)
    else .next s

/-! ## Admission (R219, R250, R251, R288, R298, R310) -/

/-- Unicast copies for the port are refused: it is disabled, or DOWN and not held, from the tick in which the link-down has reached
the tick-bound units (R251, R310). -/
def State.refusesDown (s : State) (port : Nat) : Bool :=
  !(s.port port).enabled || (!(s.port port).linkUp && !(s.eport port).holding && !(s.eport port).downDue)

/-- The queue is tripped with WD_ACTION DRAIN. -/
def State.draining (s : State) (q : Nat) : Bool := (s.equeue q).tripped && s.wdAction q == 2

/-- A unicast or mirror copy for a port, unless it is refused for the port or the queue. -/
def State.portTarget (s : State) (port tc trunc : Nat) (kind : CopyKind) : State × List Target :=
  let q := s.tcQueue port tc
  if s.refusesDown port then (s.bump .egressDownDrop q, [])
  else if s.draining q then (s.bump .pfcWdDrain q, [])
  else (s, [{ queue := q, port := port, kind := kind, trunc := trunc }])

/-- One member of a multicast group (R250, R251). -/
def State.memberTarget (s : State) (ingress : Nat) (self : Bool) (m : Nat) : State × List Target :=
  if !s.isPort m then (s.bump .mcastStaleMember (m / 64), [])
  else if m = ingress ∧ !self then (s, [])
  else if (s.eport m).holding then (s.bump .mcastDropHold m, [])
  else if s.refusesDown m then (s.bump .mcastDropDown m, [])
  else if s.draining (mcastQueue m) then (s.bump .pfcWdDrain (mcastQueue m), [])
  else (s, [{ queue := mcastQueue m, port := m, kind := .group, trunc := 0 }])

def cpuTarget (c trunc : Nat) (kind : CopyKind) : Target := { queue := cpuQueue c, port := 1024, kind := kind, trunc := trunc }

/-- The copy of the decision itself. -/
def State.mainTargets (s : State) (p : Pkt) : State × List Target :=
  match p.decision with
  | .port d => s.portTarget d p.tc 0 .unicast
  | .cpu c => (s, [cpuTarget c 0 .cpu])
  | .mcast g =>
    match s.mgroup g with
    | none => (s, [])
    | some m => m.members.foldl (fun a x =>
        let r := a.1.memberTarget p.port m.self x
        (r.1, a.2 ++ r.2)) (s, [])
  | _ => (s, [])

/-- The mirror copy of a session in version `v`: to a CPU queue, or to a port of the layout (R72); `pipe` counts a stale
destination. -/
def State.mirrorTarget (s : State) (session pipe tc : Nat) (v : BitVec 16) : State × List Target :=
  match s.objById kindMirror session v with
  | some (.mirror toCpu dest trunc) =>
    if toCpu then (s, [cpuTarget dest trunc .mirror])
    else if s.isPort dest then s.portTarget dest tc trunc .mirror
    else (s.bump .mirrorStaleDest pipe, [])
  | _ => (s, [])

/-- Mirror and trap copies of the ingress rule (R117, R119). -/
def State.sideTargets (s : State) (p : Pkt) : State × List Target :=
  match p.action with
  | none => (s, [])
  | some a =>
    let r := if bit a 97 then s.mirrorTarget (fld a 96 93) p.pipe p.tc p.version else (s, [])
    (r.1, r.2 ++ (if bit a 92 then [cpuTarget (fld a 91 84) 0 .trap] else []))

/-- The cells of an admitted packet. -/
def State.queueCells (s : State) (pid : Nat) : State :=
  match s.pkt pid with
  | none => s
  | some p => if (s.liveCopies p).isEmpty then s else s.startCells pid p.frameLen

/-- A frame of the host that no queue took counts in InjectDrop of its ring (R365); one dropped by its decision does not. -/
def State.countInject (s : State) (pid : Nat) (p : Pkt) : State :=
  let taken := match s.pkt pid with | some x => !(s.liveCopies x).isEmpty || x.cloister | none => false
  match p.txRing with
  | some r => if taken || (p.decision == .drop && !wantsCopies p) then s else s.bump .injectDrop r
  | none => s

/-- The packet's copies can be decided: its decision is taken and its first cell is ready (R18, R219). -/
def State.admitReady (s : State) (p : Pkt) : Bool :=
  !(p.decision == .undecided || p.admitted || p.dropped || p.verdict == .rollback || p.egressMade
    || (p.tag.isNone && p.verdict == .none) || (p.decision == .cloister && !wantsCopies p)) && s.cellCome p 0

/-- A packet ready for admission stands before those of `pipe`. -/
def State.admitBefore (s : State) (pipe : Nat) : Bool :=
  s.pk.pkts.any fun e => match e.2 with
    | some q => decide (s.pipeTurn q.pipe < s.pipeTurn pipe) && s.admitReady q
    | none => false

/-- ADMIT_HEAD (R219): in a worked tick, in the order of R225, after the push-outs that cells of the pipes before it are due. -/
def execAdmitHead (pid : Nat) (s : State) : Host.Outcome State Fault Refusal :=
  match s.pkt pid with
  | none => .next s
  | some p =>
    if !s.worked || !s.admitReady p || s.admitBefore p.pipe then .next s
    else
      let s := s.runPushDue (s.pipeTurn p.pipe)
      let a := s.mainTargets p
      let b := a.1.sideTargets p
      .next (((b.1.admitAll pid (a.2 ++ b.2)).queueCells pid).countInject pid p)

/-! ## The cloister port (R120) -/

/-- The cloister port's edit of a held packet (R120, R123). -/
def State.cloisterEdit (s : State) (p : Pkt) : Editing :=
  let ops := match p.action with
    | some a => if bit a 50 then s.editOps (fld a 49 42) p.version else []
    | none => []
  editFrame (s.editCtx p none) ops p.bytes p.headers

/-- The held packet leaves the cloister port: its cells are freed as they are read (log 37). -/
def State.releaseHeld (s : State) (pid : Nat) : State :=
  let s := { s with pk := { s.pk with cloisterQ := s.pk.cloisterQ.filter (· != pid) } }
  (s.modPktD pid fun p => { p with cloister := false, txRing := none }).dropPkt pid freeStageB

/-- The second pass of a packet: parsed in full with PASS = 1 and the same version, under a new tag. -/
def State.secondPass (s : State) (pid pipe : Nat) (p : Pkt) (f : List Byte) : State :=
  let q := { newPkt p.port p.fid pipe f p.version s.tickStamp with
             macOk := some true, cipher := p.cipher, pass := 1, metaVal := p.metaVal, rxTs := p.rxTs, td := p.td
             pool := ownCloister, injected := p.injected, txRing := p.txRing, tsReq := p.tsReq, oneStep := p.oneStep
             cookie := p.cookie, launch := p.launch, origin := p.origin }
  let r := (s.carry pipe).addPkt q false
  let s := (r.1.modPktD r.2 fun x => { x with counted := false }).giveTag r.2
  let s := s.modPktD r.2 fun x => if x.tag.isNone then { x with verdict := .confirm } else x
  ((s.putTurn pipe 0).parsePkt r.2).releaseHeld pid

/-- The cloister port returns a held packet, or its edit drops it (R120, R123). The drop counts in the egress pipe of the
same number (log 37). -/
def State.leaveCloister (s : State) (pid pipe : Nat) (p : Pkt) : State :=
  let e := s.cloisterEdit p
  if e.dropped then s.endHeld pid .editTtlDrop pipe else s.secondPass pid pipe p e.bytes

/-- CLOISTER_RETURN (R120): beside a line frame that waits for the pipe, in alternate slots (R10). -/
def execCloisterReturn (pid : Nat) (s : State) : Host.Outcome State Fault Refusal :=
  match s.pkt pid with
  | none => .next s
  | some p =>
    let pipe := s.ingressPipe p.port
    if s.pk.cloisterQ.contains pid && p.cells.all (·.written) && s.slotReady pipe && !s.injectDue pipe
        && (!s.lineReady pipe || s.turn pipe == 1) then .next (s.leaveCloister pid pipe p)
    else .next s

/-! ## Frames injected in PIPE mode (R365) -/

/-- PIPE_INJECT_SLOT: the oldest injected frame of the pipe takes a slot, without a tag: one that no line frame and no cloister
packet is ready for, and in any case one in 256. -/
def execPipeInjectSlot (pipe : Nat) (s : State) : Host.Outcome State Fault Refusal :=
  onUnit (decide (pipe < 64)) pipe
    (match s.injectFor pipe with
     | none => s
     | some pid =>
       if s.slotReady pipe && (s.injectDue pipe || !(s.lineReady pipe || s.cloisterWaits pipe)) then
         let s := { s with pk := { s.pk with injectQ := s.pk.injectQ.filter (· != pid) } }
         let s := s.carry pipe
         let s := (s.putSlotNo pipe ((s.slotNo pipe).1, (s.slotNo pipe).1)).modPktD pid fun p =>
           { p with pipe := pipe, version := s.rules.current, counted := true, entered := s.tickStamp }
         (s.modInFlight s.rules.current.toNat (· + 1)).parsePkt pid
       else s)

end Sys2Proof.Machine
end

