-- ==== Sys2Proof/Machine/Ecc.lean ====
section
/-! DEFINITION. ECC reads, write-back and poison (R431 to R436, spec/17_faults.md; R158 to R160, spec/06_table_store.md),
and frames that the device makes itself (R365, spec/14_commands.md). -/

namespace Sys2Proof.Machine

/-! ## Addresses and poison -/

/-- Key of the write tag of a unit: store 0 exact-match, 1 LPM, 2 counters. -/
def tagKey (store bank unit : Nat) : Nat := store * 2 ^ 32 + bank * 1024 + unit

/-- Stash slot of an address: the eight sections hold copies of one stash (R142). -/
def stashOf (a : BitVec 64) : Nat := fld a 47 32 % 32 * 64 + fld a 31 0 % 64

def lpmKeyOf (a : BitVec 64) : Nat := lpmWordKey (fld a 47 32 / 128) (fld a 47 32 % 128) (fld a 31 0 % 1024)

def pairOf (a : BitVec 64) : Nat := fld a 31 0 * 1024 + fld a 47 32

/-- Addresses of the eight copies of a stash slot (R142, R160). -/
def stashCopies (table slot : Nat) : List (BitVec 64) := (List.range 8).map fun k => faultAddr 2 (k * 32 + table) slot

/-- The hit bit of a stash entry: it stands beside any of its copies (R142, R147; DEDUCED, log 44). -/
def State.stashHitAny (s : State) (i : Nat) : Bool := (List.range 8).any fun k => s.stashHit (k * 2048 + i)

/-- The hit bits beside all eight copies of a stash slot. -/
def State.putStashHits (s : State) (i : Nat) (v : Bool) : State :=
  (List.range 8).foldl (fun s k => s.putStashHit (k * 2048 + i) v) s

/-- The poison mark of the word at an address (R434). -/
def State.poisonAt (s : State) (a : BitVec 64) : Bool :=
  match fld a 63 60 with
  | 1 => (s.emSlot (fld a 47 32 * 4096 + fld a 31 0)).poison
  | 2 => (s.stashSlot (stashOf a)).poison
  | 3 => s.lpmPoison (lpmKeyOf a)
  | 4 => (s.pair (pairOf a)).2.2
  | _ => s.faults.poisoned.contains a

/-- A poisoned cell word: the cell carries poison for every copy (R431). -/
def State.poisonCell (s : State) (cell : Nat) (b : Bool) : State :=
  { s with pk := { s.pk with pkts := s.pk.pkts.map fun (e : Nat × Option Pkt) =>
      (e.1, e.2.map fun p => { p with cells := p.cells.map fun x => if x.cell = some cell then { x with poison := b } else x }) } }

/-- The poison mark set or cleared. -/
def State.setPoison (s : State) (a : BitVec 64) (b : Bool) : State :=
  match fld a 63 60 with
  | 1 => s.modEmSlot (fld a 47 32 * 4096 + fld a 31 0) fun x => { x with poison := b }
  | 2 => s.modStashSlot (stashOf a) fun x => { x with poison := b }
  | 3 => s.putLpmPoison (lpmKeyOf a) b
  | 4 => s.modPair (pairOf a) fun x => (x.1, x.2.1, b)
  | k =>
    let s := if k = 5 then s.poisonCell (fld a 31 0 / 32) b else s
    let rest := s.faults.poisoned.filter (· != a)
    { s with faults.poisoned := if b then rest ++ [a] else rest }

/-- A write of the whole word: poison clears, a pending write-back or marker is dropped (R159, R432, R434). -/
def State.wordWritten (s : State) (a : BitVec 64) : State :=
  let s := { s with faults.writeBacks := s.faults.writeBacks.filter (· != a)
                    faults.markers := s.faults.markers.filter (· != a)
                    faults.stashBad := s.faults.stashBad.filter (· != a) }
  if s.poisonAt a then s.setPoison a false else s

/-- One read of the word at `a`, of array class `cls` and permanence instance `inst` (R432, R434): a corrected word waits
for its write-back; the first read that finds an uncorrectable error poisons the word and raises the array's source. A stash copy is corrected
from another while one is good, and counts as corrected (R431). -/
def State.eccRead (s : State) (cls inst : Nat) (a : BitVec 64) (found : EccErr) : State :=
  match found with
  | .good => s
  | .corrected =>
    let s := if s.faults.writeBacks.contains a then s else { s with faults.writeBacks := s.faults.writeBacks ++ [a] }
    s.eccCorrected cls inst a
  | .uncorrectable =>
    if s.poisonAt a || s.faults.stashBad.contains a then s
    else if fld a 63 60 = 2 ∧ (stashCopies (fld a 47 32 % 32) (fld a 31 0)).any fun x => x != a && !s.faults.stashBad.contains x then
      let s := { s with faults.stashBad := s.faults.stashBad ++ [a], faults.writeBacks := s.faults.writeBacks ++ [a] }
      s.eccCorrected cls inst a
    else ({ s.setPoison a true with faults.markers := s.faults.markers ++ [a] }).eccUncorrected cls inst a

/-- The write-back or the marker of a word lands (R432, R434). -/
def State.writeBack (s : State) (a : BitVec 64) : State :=
  if s.faults.writeBacks.contains a then
    ({ s with faults.writeBacks := s.faults.writeBacks.filter (· != a)
              faults.stashBad := s.faults.stashBad.filter (· != a) }).bump .eccWriteBacks (addrClass a)
  else { s with faults.markers := s.faults.markers.filter (· != a) }

/-- The table bank of an address: store 0 exact-match, 1 LPM, 2 counters; none for other arrays. -/
def bankOfAddr (a : BitVec 64) : Option (Nat × Nat) :=
  match fld a 63 60 with
  | 1 => some (0, fld a 47 32) | 3 => some (1, fld a 47 32) | 4 => some (2, fld a 47 32) | _ => none

/-- The oldest write-back or marker that waits for a table bank. -/
def State.backFor (s : State) (store bank : Nat) : Option (BitVec 64) :=
  (s.faults.writeBacks ++ s.faults.markers).find? fun a => bankOfAddr a == some (store, bank)

/-! ## Frames of the device -/

/-- A frame made by the device or injected DIRECT (R365): no tag, its copy decided at once; it draws on `pool`. -/
def State.madePkt (s : State) (port pipe : Nat) (bytes : List Byte) (pool reason : Nat) : Pkt :=
  { newPkt port 0 pipe bytes s.rules.current s.tickStamp with
    verdict := .confirm, macOk := some true, injected := true, pool := pool, reason := reason, admitted := true }

/-- The frame put in, its one copy decided under R219 and its cells queued for stage A; the mark says that it was
admitted. The slice is the target port's, slice 0 for a CPU queue (DESIGN CHOICE, log 17). -/
def State.generate (s : State) (p : Pkt) (t : Target) : State × Bool :=
  let pid := s.pk.pktNext
  let s := { s with pk := { s.pk with pktNext := pid + 1 } }
  let s := ((s.putPkt pid (some p)).admitAll pid [t]).queueCells pid
  (s, (s.pkt pid).isSome)

/-- The ingress pipe whose slice takes a frame for a port. -/
def State.madePipe (s : State) (port : Nat) : Nat := if port < 1024 then s.ingressPipe port else 0

/-- A frame of the TELEMETRY pool to a CPU queue; the mark says that it was admitted. -/
def State.sendCpu (s : State) (queue reason : Nat) (bytes : List Byte) : State × Bool :=
  s.generate (s.madePkt 0xFFFF 0 bytes 5 reason) (cpuTarget queue 0 .cpu)

end Sys2Proof.Machine
end

