-- ==== Sys2Proof/Machine/Reply.lean ====
section
/-! DEFINITION. Messages put out on the Colonnade (R393 to R395, spec/16_twin_ring.md), the configuration digest (R474,
spec/19_security.md), and the reply to a command (R339 to R347, R351, spec/14_commands.md). -/

namespace Sys2Proof.Machine

/-! ## Sending on the Colonnade -/

/-- The 16-byte body of a throttle notice (R326). -/
def throttleBody (n : ThrottleNote) : List Byte :=
  beBytes 1 n.newOp ++ beBytes 1 n.oldOp ++ beBytes 1 n.cause ++ beBytes 1 0 ++ beBytes 2 n.capW ++ beBytes 2 n.measuredW
    ++ beBytes 8 0

/-- TYPE of a message (R395). -/
def LinkMsg.type (m : LinkMsg) : Nat :=
  match m with
  | .mirror .. => 1 | .prepare .. => 2 | .ack .. => 3 | .commit .. => 4 | .heartbeat .. => 5 | .time .. => 6
  | .resync .. => 7 | .throttle .. => 8 | .hello => 9

/-- TXN of a message; zero where it carries none (R393). -/
def LinkMsg.txn (m : LinkMsg) : Nat :=
  match m with
  | .mirror t _ _ _ => t | .prepare t _ _ => t | .ack t _ _ _ => t | .commit t _ => t | _ => 0

/-- EPOCH of a message: the commit epoch of a COMMIT, else the sender's epoch counter (R393). -/
def LinkMsg.epoch (m : LinkMsg) (now : Nat) : Nat := match m with | .commit _ e => e | _ => now

/-- What HELLO offers: versions 2.1 and 2.0, the firmware's major version, and a key and signature that the spec leaves to
their algorithms (R395, R396). -/
def State.helloBytes (s : State) : List Byte :=
  Config.bytesOf (0x201, 0x200, match s.sec.running with | some x => x.version.toNat / 2 ^ 24 | none => 0, s.power.compat.isSome
    , s.freeCtr)

/-- The payload of a message: at most 4,096 bytes; ACK, HEARTBEAT and THROTTLE as R395 and R326 list their fields, the rest in
a layout that the spec does not state (log 95). -/
def State.payload (s : State) (m : LinkMsg) : List Byte :=
  (match m with
  | .mirror _ op v c => beBytes 2 op ++ Config.bytesOf (v, c)
  | .prepare _ op c => beBytes 2 op ++ Config.bytesOf c
  | .ack _ st d e => beBytes 2 st ++ beBytes 2 d ++ beBytes 8 e
  | .commit _ _ => []
  | .heartbeat r st v l _ => beBytes 1 r ++ beBytes 1 st ++ beBytes 6 v.toNat ++ beBytes 4 l
  | .time e td0 tx rx => Config.bytesOf (e, td0, tx, rx)
  | .resync n i => Config.bytesOf (n, i)
  | .throttle n => throttleBody n ++ beBytes 8 n.epoch
  | .hello => s.helloBytes).take 4096

/-- The nonce of R393: direction (0 from the LEAD), key number and LINK_SEQ (DESIGN CHOICE, log 95). -/
def State.colNonce (s : State) (keyNo seq : Nat) : BitVec 96 :=
  BitVec.ofNat 96 ((if s.twin.role = .lead then 0 else 1) * 2 ^ 64 + keyNo * 2 ^ 32 + seq)

/-- Bytes 0 to 23 of a frame: the epoch of a COMMIT, else the counter at transmission; LINK_ACK as it stands (R393). -/
def State.colHead (s : State) (f : ColFrame) (again : Bool) : List Byte :=
  beBytes 1 f.type ++ beBytes 1 (b2n again + 2 * f.keyNo) ++ beBytes 2 f.payload.length ++ beBytes 4 f.seq
    ++ beBytes 4 ((s.twin.rxSeq + 2 ^ 32 - 1) % 2 ^ 32) ++ beBytes 4 f.txn
    ++ beBytes 8 (if f.type = 4 then f.epoch else s.clock.epoch)

/-- A frame as it goes out (R393): encrypted and tagged under context 0 or 1. HELLO goes before the keys, in clear and with a
tag of zeros (DESIGN CHOICE, log 95). -/
def State.colBytes (s : State) (f : ColFrame) (again : Bool) : List Byte :=
  let h := s.colHead f again
  if f.type = 9 then h ++ f.payload ++ beBytes 16 0
  else
    let key := (s.laCtx f.keyNo).key
    let iv := s.colNonce f.keyNo f.seq
    let x := gcmCrypt key iv f.payload
    h ++ x ++ beBytes 16 (gcmTag key iv h x).toNat

/-- Frames put out. -/
def State.colPut (s : State) (l : List ColFrame) (again : Bool) : State :=
  { s with twin.wire := (l.map fun f => s.colBytes f again).reverse ++ s.twin.wire }

/-- Frames numbered on from `seq`. -/
def renumber (seq : Nat) (l : List ColFrame) : List ColFrame :=
  l.zipIdx.map fun (e : ColFrame × Nat) => { e.1 with seq := (seq + e.2) % 2 ^ 32 }

/-- The replay buffer with frame `f` put in: ahead of the RESYNC frames (TYPE 7) not yet sent, which it overtakes, unless it is
one (R96, R395). What has been sent keeps its LINK_SEQ; what has not takes the numbers that follow. -/
def placeFrame (l : List ColFrame) (f : ColFrame) : List ColFrame :=
  let sent := l.filter fun x => x.sends != 0
  let wait := l.filter fun x => x.sends == 0
  let bulk := wait.filter fun x => x.type == 7 && f.type != 7
  let first := (wait.head?.getD f).seq
  sent ++ renumber first ((wait.filter fun x => x.type != 7 || f.type == 7) ++ [f] ++ bulk)

/-- A message sent: it takes the next LINK_SEQ and a place in the replay buffer of 512 frames (R393, R394); a frame
beyond the buffer is sent when an acknowledgement makes room, and there overtakes bulk state. -/
def State.colSend (s : State) (m : LinkMsg) : State :=
  let room := decide (s.twin.replay.length < 512)
  let f : ColFrame := { type := m.type, seq := s.twin.txSeq, txn := m.txn, epoch := m.epoch s.clock.epoch, keyNo := s.twin.keyNo
                        payload := s.payload m, sentAt := s.now, sends := b2n room }
  let s := { s with twin := { s.twin with
               txSeq := (s.twin.txSeq + 1) % 2 ^ 32, replay := if room then s.twin.replay ++ [f] else placeFrame s.twin.replay f, sent := m :: s.twin.sent
               keyFrames := s.twin.keyFrames + 1 } }
  (if room then s.colPut [f] false else s).bump .colFramesTx 0

/-! ## The configuration digest -/

/-- CONFIG_DIGEST extended by a command's opcode and parameters, and CONFIG_COUNT (R474). -/
def State.extend (s : State) (dg : Option (List Byte)) : State :=
  match dg with
  | none => s
  | some d => { s with sec := { s.sec with configDigest := Config.sha384 (beBytes 48 s.sec.configDigest.toNat ++ d)
                                           configCount := s.sec.configCount + 1 } }

/-! ## Replies -/

/-- Device state codes of R352. -/
def devCode (d : DevState) : Nat :=
  match d with
  | .reset => 0 | .boot => 1 | .configure => 2 | .service => 3 | .drain => 4 | .resync => 5 | .dormant => 6 | .isolated => 7

/-- The session of a command (R350). -/
def State.session (s : State) (h : Hdr) : Option Session :=
  s.cmd.sessions.find? fun x => x.sender == hdrSender h && x.target == h.target

/-- The session's version as major x 256 + minor; a command from the twin has every feature. -/
def State.agreed (s : State) (h : Hdr) : Nat :=
  match s.session h with
  | some x => x.major * 256 + x.minor
  | none => 0x302

/-- LOGGED_ADDRESS of STATE_CONFLICT (R346). -/
def State.conflictAddr (s : State) (h : Hdr) : BitVec 64 :=
  match h.origin with
  | .host r _ e => BitVec.ofNat 64 (1 <<< 56 ||| r <<< 48 ||| e * 32)
  | .slait d => BitVec.ofNat 64 (2 <<< 56 ||| d <<< 48)
  | .colonnade _ => BitVec.ofNat 64 (3 <<< 56 ||| s.twin.peer <<< 48)

/-- The 32 bytes of a reply header and the longer result (R344). -/
def Reply.bytes (r : Reply) : List Byte :=
  beBytes 2 r.status ++ beBytes 2 r.opcode ++ beBytes 4 r.tag ++ beBytes 1 r.device ++ beBytes 1 r.state
    ++ beBytes 2 r.detail ++ beBytes 4 r.resultLen ++ beBytes 8 r.result.toNat ++ beBytes 8 r.logged.toNat
    ++ r.payload.flatMap (beBytes (valueBytes r.opcode))

/-- The reply of a host command written to completion ring 16 + r, and its vector signalled with NOTIFY; discarded when
the ring is disabled, or has been since the command was taken (R339, R341, R342, R360). -/
def State.replyHost (s : State) (h : Hdr) (r : Nat) (p : Reply) : State :=
  let dead := match s.takenAt r with | some t => t.dead | none => false
  let s := (s.bump (if p.status ≤ stOkAdjusted then .cmdAccepted else .cmdRefused) r).putTakenAt r none
  let c := s.hring (16 + r)
  if !dead && (s.hring r).en && c.en then
    let s := ({ s with cmd.out.replies := p :: s.cmd.out.replies }).advanceRing (16 + r)
    if h.notify then s.signal (16 + r) else s
  else s

/-- A reply sent to where the command came from (R344, R354, R401). -/
def State.sendReply (s : State) (h : Hdr) (p : Reply) : State :=
  match h.origin with
  | .host r _ _ => s.replyHost h r p
  | .slait d => s.ringSend d 2 p.bytes
  | .colonnade txn => s.colSend (.ack txn p.status p.detail s.earliest)

/-- The reply as the session sees it (R344 to R347, R351); with TWIN on a detached pair its detail says so (R359). -/
def State.mkReply (s : State) (h : Hdr) (op status detail : Nat) (result logged : BitVec 64) (payload : List Nat) : Reply :=
  { origin := h.origin
    status := if status = stOkAdjusted ∧ s.agreed h < 0x301 then stOk else status
    opcode := op, tag := h.tag, device := s.sec.deviceId, state := devCode s.cmd.dev
    detail := if s.agreed h < 0x300 then 0
      else if h.twin && !s.twin.attached && status != stPartFailed && status != stTwinFailed then dtTwinDetached else detail
    resultLen := resultBytes op payload.length, result := result
    logged := if status = stStateConflict then s.conflictAddr h else logged, payload := payload }

/-- A command replied to: its digest extended where it is accepted, COMMAND_INTERNAL raised with INTERNAL, the poison that it read
counted (R347, R440, R474). -/
def State.answer (s : State) (h : Hdr) (op : Nat) (dg : Option (List Byte)) (status detail : Nat)
    (result logged : BitVec 64) (payload : List Nat) : State :=
  let s := if status ≤ stOkAdjusted then s.extend dg else s
  let s := if status = stInternal then s.note srcCommandInternal 0 0 else s
  let s := if status = stPoisoned then s.consumed logged else s
  s.sendReply h (s.mkReply h op status detail result logged payload)

/-- A command taken whose reply comes later. -/
def State.hold (s : State) (h : Hdr) (op : Nat) (dg : Option (List Byte)) : State :=
  { s with cmd.running := s.cmd.running ++ [{ hdr := h, opcode := op, digest := dg }] }

/-- The digest a held command extends. -/
def State.heldDigest (s : State) (h : Hdr) (op : Nat) : Option (List Byte) :=
  (s.cmd.running.find? fun r => r.hdr == h && r.opcode == op).bind fun r => r.digest

/-- The reply of a held command. -/
def State.reply (s : State) (h : Hdr) (op status detail : Nat) (result logged : BitVec 64) (payload : List Nat) : State :=
  let dg := s.heldDigest h op
  ({ s with cmd.running := s.cmd.running.eraseP fun r => r.hdr == h && r.opcode == op }).answer h op dg status detail
    result logged payload

/-- A held command refused. -/
def State.refuseHeld (s : State) (h : Hdr) (op status detail : Nat) : State := s.reply h op status detail 0 0 []

/-- The LEAD sends a mirrored transaction (R401): PREPARE where it has an effective epoch, else MIRROR. -/
def State.sendTxn (s : State) (h : Hdr) (op : Nat) (value : Option Nat) (cmd : Mirrored) (prep : Bool) (target : Nat)
    (objs : List (Nat × Nat)) (changes : List Change) : State :=
  let n := s.twin.txnNext
  let t : Txn := { txn := n, hdr := h, opcode := op, cmd := cmd, prepared := prep, sentEpoch := s.clock.epoch
                   target := target, epoch := none, acked := false, objs := objs, changes := changes, digest := [] }
  let s := { s with txns := s.txns ++ [t], twin := { s.twin with txnNext := (n + 1) % 2 ^ 32 } }
  s.colSend (if prep then .prepare n op cmd else .mirror n op value cmd)

/-- The FOLLOW has prepared a transaction and acknowledges it (R401); its digest is extended when it applies. -/
def State.prepareTxn (s : State) (h : Hdr) (op txn : Nat) (cmd : Mirrored) (target : Nat) (objs : List (Nat × Nat))
    (changes : List Change) (dg : Option (List Byte)) : State :=
  let t : Txn := { txn := txn, hdr := h, opcode := op, cmd := cmd, prepared := true, sentEpoch := s.clock.epoch
                   target := target, epoch := none, acked := false, objs := objs, changes := changes
                   digest := dg.getD [] }
  { s with prepared := s.prepared ++ [t] }.answer h op none stOk 0 0 0 []

/-- An attached LEAD runs a command with TWIN on both devices (R400). -/
def State.twinned (s : State) (h : Hdr) : Bool := h.twin && s.twin.role == .lead && s.twin.attached

/-- The epoch of an accepted change and the reply's status and detail (R20, R21): `named` is the epoch the command
named, 0 for none. An epoch that it cannot meet is moved; where OK depends on it, `epochRefused` comes first. Only the two
commits of R129 and R358 name one; whether OK depends on it is an operand of theirs (DESIGN CHOICE, log 101). -/
def State.epochFor (s : State) (objs : List (Nat × Nat)) (named : Nat) : Nat × Nat × Nat :=
  let want := if named = 0 then s.earliest else named
  let e := s.freeFrom objs (s.changes.length + 1) (max want s.earliest)
  if e = want then (e, stOk, dtNone) else (e, stOkAdjusted, dtAdjustedEpoch)

/-- The commit named an epoch that its OK depends on and that it cannot meet, or whose boundary is taken: it is refused with
STATE_CONFLICT (R20, R21). -/
def State.epochRefused (s : State) (objs : List (Nat × Nat)) (n : EpochName) : Bool :=
  n.required && n.epoch != 0 && (s.epochFor objs n.epoch).1 != n.epoch

/-- Several changes of the same objects made due together. -/
def State.dueAll (s : State) (e : Nat) (objs : List (Nat × Nat)) (l : List Change) : State :=
  l.foldl (fun s c => s.due e objs c) s

end Sys2Proof.Machine
end

