-- ==== Sys2Proof/Machine/RulePlane.lean ====
section
/-! DEFINITION. The rule plane: versions and their retirement, the rule Maquette, the write stream and the rule commands
(R114, R116, R124 to R134, spec/05_parser_rules.md). -/

namespace Sys2Proof.Machine

/-! ## Versions (R126) -/

/-- Older versions whose in-flight count is not zero, oldest first. -/
def State.olderLive (s : State) : List (BitVec 16) := s.rules.older.filter fun v => s.inFlight v.toNat != 0

/-- The live versions: older ones in flight, the current one, and committed ones waiting for their boundary. -/
def State.liveVersions (s : State) : List (BitVec 16) :=
  s.olderLive ++ [s.rules.current] ++ s.rules.coming.map (·.1)

def State.oldestLive (s : State) : BitVec 16 := s.olderLive.headD s.rules.current

/-- The newest live version. -/
def State.newestLive (s : State) : BitVec 16 := (s.liveVersions.getLast?).getD s.rules.current

/-- `x` is at or before `o` (R131, in the half-space of R125). -/
def atOrBefore (x o : BitVec 16) : Bool := decide ((o - x).toNat < 0x8000)

/-! ## Slots with their pending writes (R128) -/

/-- One write applied to the contents of a slot. -/
def PlaneWrite.apply (w : PlaneWrite) (kind slot : Nat) (o : ObjSlot) : ObjSlot :=
  match w with
  | .obj k i new => if k = kind ∧ i = slot then new else o
  | .clearBirth k i => if k = kind ∧ i = slot then { o with stamp := { o.stamp with birthSet := false } } else o
  | .clearValid k i => if k = kind ∧ i = slot then ObjSlot.init else o
  | .clearDeath k i => if k = kind ∧ i = slot then { o with stamp := { o.stamp with deathSet := false } } else o
  | .range .. => o
  | .rewrite _ => o

/-- The pending writes of one class, in arrival order. -/
def State.writesOf (s : State) (c : WriteClass) : List PlaneWrite := (s.rules.stream.filter fun e => e.1 == c).map (·.2)

/-- All pending writes in the order in which they land: staging, discard, settling. -/
def State.inOrder (s : State) : List PlaneWrite := s.writesOf .staging ++ s.writesOf .discard ++ s.writesOf .settling

/-- A slot as its pending writes will leave it. -/
def State.slotEff (s : State) (kind slot : Nat) : ObjSlot :=
  s.inOrder.foldl (fun o w => w.apply kind slot o) (s.objAt (objKey kind slot))

/-- The slot that a write names. -/
def PlaneWrite.slotOf (w : PlaneWrite) (kind : Nat) : Option Nat :=
  match w with
  | .obj k i _ => if k = kind then some i else none
  | .clearBirth k i => if k = kind then some i else none
  | .clearValid k i => if k = kind then some i else none
  | .clearDeath k i => if k = kind then some i else none
  | .range .. => none
  | .rewrite _ => none

/-- Slots of a kind that hold or will hold something. -/
def State.slotNos (s : State) (kind : Nat) : List Nat :=
  let held := (s.slotsOf kind).map (·.1)
  held ++ (s.inOrder.filterMap fun w => w.slotOf kind).filter fun i => !held.contains i

/-- The effective slots of a kind. -/
def State.effSlots (s : State) (kind : Nat) : List (Nat × ObjSlot) := (s.slotNos kind).map fun i => (i, s.slotEff kind i)

/-- Slots of each kind, and its IDs: the first and how many, none for a kind set by slot (R124). -/
def kindSlots (kind : Nat) : Nat :=
  match kind with
  | 0 => 12288 | 1 => 6144 | 2 => 512 | 3 => 62 | 4 => 62 | 5 => 512 | 6 => 128 | 7 => 32 | 8 => 2048 | _ => 0

def kindIds (kind : Nat) : Nat × Nat :=
  match kind with
  | 3 => (1, 31) | 4 => (1, 31) | 5 => (0, 256) | 6 => (0, 64) | 7 => (0, 16) | 8 => (0, 1024) | _ => (0, 0)

/-- The two slots of an ID. -/
def idSlots (kind id : Nat) : Nat × Nat := ((id - (kindIds kind).1) * 2, (id - (kindIds kind).1) * 2 + 1)

/-! ## Staging (R124, R127) -/

/-- The Maquette is sealed (R129). -/
def State.sealed (s : State) : Bool := s.rules.held.isSome || s.rules.groupSeal

/-- A staging command: STATE_CONFLICT with no Maquette open, BUSY with a sealed one, else its rules for S (R127, R129). -/
def State.inMaquette (s : State) (next : BitVec 16 → Rule) : Rule :=
  match s.rules.staged with
  | none => .conflict
  | some v => if s.sealed then .busy else next v

/-- One more staged operation fits (R127). -/
def State.opFits (s : State) : Bool := decide (s.rules.stagedOps < 16384)

def State.countOp (s : State) : State := { s with rules.stagedOps := s.rules.stagedOps + 1 }

def State.stageWrite (s : State) (c : WriteClass) (w : PlaneWrite) : State :=
  { s with rules.stream := s.rules.stream ++ [(c, w)] }

/-- The pending writes of a class to a slot withdrawn. -/
def State.withdraw (s : State) (c : WriteClass) (kind slot : Nat) : State :=
  { s with rules.stream := s.rules.stream.filter fun e => !(e.1 == c && e.2.slotOf kind == some slot) }

/-- The slot was added in the open Maquette of version `v`. -/
def ObjSlot.addedIn (o : ObjSlot) (v : BitVec 16) : Bool := o.valid && o.stamp.birthSet && o.stamp.birth == v

/-- The slot holds an object once the value is in it: VALID of a parse entry (R105), else always. -/
def ObjVal.inUse (v : ObjVal) : Bool :=
  match v with
  | .parse r => bit r 56
  | _ => true

/-- An add: the slot written with BIRTH = S; it replaces a settling write that pends for the slot (R127, R131). -/
def State.addObj (s : State) (kind slot id : Nat) (v : BitVec 16) (val : ObjVal) : State :=
  (s.withdraw .settling kind slot).stageWrite .staging (.obj kind slot
    { valid := val.inUse, id := id, stamp := { birth := v, birthSet := true, death := 0, deathSet := false }, val := val })

/-- A delete: DEATH = S, or the slot freed at once where it was added in the same Maquette (R127). -/
def State.killObj (s : State) (kind slot : Nat) (v : BitVec 16) : State :=
  let o := s.slotEff kind slot
  if o.addedIn v then (s.withdraw .staging kind slot).putObjAt (objKey kind slot) ObjSlot.init
  else s.stageWrite .staging (.obj kind slot { o with stamp := { o.stamp with death := v, deathSet := true } })

/-- The free slots of a kind set by slot. -/
def State.freeSlots (s : State) (kind : Nat) : List Nat :=
  (List.range (kindSlots kind)).filter fun i => !(s.slotEff kind i).valid

/-- The slot the device chooses for SLOT = 0xFFFF: any free one (R114, log 2). -/
def State.chooseSlot (s : State) (kind : Nat) : Option Nat :=
  let l := s.freeSlots kind
  l[(s.freeVal 16).toNat % max l.length 1]?

/-- A write by slot: into a named free slot, or any (R114, R124). -/
def State.putBySlot (s : State) (kind slot : Nat) (mk : Nat → ObjVal) : Rule :=
  s.inMaquette fun v =>
    if slot = 0xFFFF then
      match s.chooseSlot kind with
      | some i => Rule.need s.opFits .full <| .val ((s.draw.addObj kind i 0 v (mk i)).countOp) i
      | none => .full
    else
      Rule.need (!(s.slotEff kind slot).valid) .conflict <|
      Rule.need s.opFits .full <|
      .val ((s.addObj kind slot 0 v (mk slot)).countOp) slot

/-- A write by ID: into a free slot of the ID; contents live in S die (R124). -/
def State.putById (s : State) (kind id : Nat) (val : ObjVal) : Rule :=
  s.inMaquette fun v =>
    let p := idSlots kind id
    let a := s.slotEff kind p.1
    let b := s.slotEff kind p.2
    Rule.need (s.opFits && !(a.valid && b.valid)) .full <|
    let i := if a.valid then p.2 else p.1
    let j := if a.valid then p.1 else p.2
    let t := if (s.slotEff kind j).live v then s.killObj kind j v else s
    .ok ((t.addObj kind i id v val).countOp)

/-- OBJECT_DELETE (R127). -/
def State.deleteObj (s : State) (kind index : Nat) : Rule :=
  s.inMaquette fun v =>
    let slots := if kind < 3 then [index] else [(idSlots kind index).1, (idSlots kind index).2]
    match slots.find? fun i => (s.slotEff kind i).live v with
    | none => .missing
    | some i => Rule.need s.opFits .full <| .ok ((s.killObj kind i v).countOp)

/-! ## Landing (R128) -/

/-- Poison cleared by a write of the whole word in every replica (R159, R434). -/
def State.clearRowPoison (s : State) (parts : List (Nat × Nat)) : State :=
  { s with faults.poisoned := s.faults.poisoned.filter fun a =>
      !(parts.any fun p => (List.range 8).any fun k => a == ternaryAddr k p.1 p.2) }

/-- One write of the rule plane lands in all replicas and pipes at once. -/
def State.landWrite (s : State) (w : PlaneWrite) : State :=
  match w with
  | .range c x lo hi => (s.putRange c { extract := x, low := lo, high := hi }).clearRowPoison [(2, c)]
  | .rewrite a => { s with faults.poisoned := s.faults.poisoned.filter (· != a) }
  | .obj k i new =>
    let s := s.putObjAt (objKey k i) new
    if k < 2 then s.clearRowPoison [(k, i), (3, actionNo k i)] else s
  | .clearBirth k i => s.modObjAt (objKey k i) (w.apply k i)
  | .clearValid k i => s.modObjAt (objKey k i) (w.apply k i)
  | .clearDeath k i => s.modObjAt (objKey k i) (w.apply k i)

/-- The class whose write lands next. -/
def State.nextClass (s : State) : Option WriteClass :=
  [WriteClass.staging, .discard, .settling].find? fun c => !(s.writesOf c).isEmpty

/-- The first pending write of a class taken out of the stream. -/
def takeFirst (c : WriteClass) (l : List (WriteClass × PlaneWrite)) : List (WriteClass × PlaneWrite) :=
  match l with
  | [] => []
  | e :: t => if e.1 = c then t else e :: takeFirst c t

/-- RULE_WRITE_LAND (R128): one write in a clock with c mod 32 = 31. -/
def execRuleWriteLand (s : State) : Host.Outcome State Fault Refusal :=
  .next (if s.maintClock && s.rules.lastLand != some s.now then
    match s.nextClass with
    | none => s
    | some c =>
      match (s.writesOf c).head? with
      | none => s
      | some w =>
        { s with rules.stream := takeFirst c s.rules.stream, rules.lastLand := some s.now }.landWrite w
  else s)

/-! ## Commit and discard (R129, R130) -/

/-- Work of an Armature job that stages into the Maquette, or discards from it. -/
def ArmWork.staging (w : ArmWork) : Bool :=
  match w with
  | .insert _ _ _ _ (some _) => true
  | .delete _ _ (some _) => true
  | .prefixStage _ => true
  | _ => false

def ArmWork.discarding (w : ArmWork) : Bool :=
  match w with
  | .emDiscard .. => true
  | .slotDiscard .. => true
  | .prefixDiscard .. => true
  | _ => false

/-- Every job that an engine runs or holds, or that the Belvedere holds for one. -/
def State.allJobs (s : State) : List ArmJob :=
  ((List.range 4).flatMap fun e => (s.engine e).job.toList ++ (s.engine e).queue) ++ s.arm.backlog

/-- A write that stages an object of the Maquette. -/
def PlaneWrite.stages (w : PlaneWrite) : Bool :=
  match w with
  | .obj .. => true
  | _ => false

/-- A staging write of the Maquette has still to land. -/
def State.stagingLeft (s : State) : Bool :=
  (s.writesOf .staging).any PlaneWrite.stages || (s.allJobs.any fun j => j.work.staging)
    || s.tables.jobs.any fun j => j.opcode == 0x0408 && (s.table j.table).rcd.versioned == 1

/-- A stamp too far behind S: distance 16,384 or more (R129). -/
def Stamp.tooFar (t : Stamp) (v : BitVec 16) : Bool :=
  (t.birthSet && decide (16384 ≤ (v - t.birth).toNat)) || (t.deathSet && decide (16384 ≤ (v - t.death).toNat))

/-- An exact-match slot of a VERSIONED table that holds an entry. -/
def State.versionedSlot (s : State) (b : BitVec 256) : Bool := slotValid b && (s.table (slotTable b)).rcd.versioned == 1

/-- Some slot's stamp makes the commit wait for settling (R129). -/
def State.unsettled (s : State) (v : BitVec 16) : Bool :=
  ((List.range 9).any fun k => (s.effSlots k).any fun e => e.2.valid && e.2.stamp.tooFar v)
    || (s.rules.prefixes.any fun (e : Nat × ObjSlot) => e.2.valid && e.2.stamp.tooFar v)
    || (s.tables.em.any fun (e : Nat × EmSlot) => s.versionedSlot e.2.bits && (slotStamp e.2.bits).tooFar v)
    || (s.tables.stash.any fun (e : Nat × EmSlot) => s.versionedSlot e.2.bits && (slotStamp e.2.bits).tooFar v)

/-- BUSY with four live versions: the oldest and its in-flight count in RESULT (R129). -/
def State.versionsFull (s : State) : Rule :=
  .refuse stBusy dtNone
    (BitVec.ofNat 64 (s.oldestLive.toNat * 2 ^ 32 + s.inFlight s.oldestLive.toNat % 2 ^ 32)) 0

/-- The Maquette closes on acceptance; S waits for its boundary (R129). -/
def State.closeMaquette (s : State) (v : BitVec 16) (e : Nat) : State :=
  { s with rules := { s.rules with staged := none, stagedOps := 0, held := none, groupSeal := false
                                   coming := s.rules.coming ++ [(v, e)] } }

/-- The commit accepted in the present tick: effective epoch under R20 and R21, reply. One refused for the epoch it requires
leaves the Maquette open and unsealed. -/
def State.acceptCommit (s : State) (c : HeldCommit) (v : BitVec 16) : State :=
  if s.epochRefused [objRules] c.target then
    { s with rules.held := none, rules.groupSeal := false }.refuseHeld c.hdr 0x0502 stStateConflict dtNone
  else
  let p := s.epochFor [objRules] c.target.epoch
  ((s.dueAll p.1 [objRules] [.version v]).closeMaquette v p.1).reply c.hdr 0x0502 p.2.1 p.2.2 (BitVec.ofNat 64 p.1) 0 []

/-- MAQUETTE_COMMIT_ACCEPT (R129): the last staging write has landed. An attached LEAD sends PREPARE, a FOLLOW
acknowledges it (R401). -/
def execMaquetteCommitAccept (s : State) : Host.Outcome State Fault Refusal :=
  .next (match s.rules.held, s.rules.staged with
  | some c, some v =>
    if s.stagingLeft then s
    else
      match c.hdr.origin with
      | .colonnade txn =>
        let s := { s with rules.held := none, rules.groupSeal := true }
        let dg := s.heldDigest c.hdr 0x0502
        ({ s with cmd.running := s.cmd.running.eraseP fun r => r.hdr == c.hdr && r.opcode == 0x0502 }).prepareTxn c.hdr
          0x0502 txn (.maquetteCommit c.target) c.target.epoch [objRules] [.version v] dg
      | _ =>
        if s.twinned c.hdr then
          { s with rules.held := none, rules.groupSeal := true }.sendTxn c.hdr 0x0502 none (.maquetteCommit c.target) true
            c.target.epoch [objRules] [.version v]
        else s.acceptCommit c v
  | _, _ => s)

/-- The discard writes of the rule plane: staged adds lose VALID, staged deletes lose DEATH_SET (R130). -/
def State.discardPlane (s : State) (v : BitVec 16) : State :=
  (List.range 9).foldl (fun s k =>
    (s.effSlots k).foldl (fun s e =>
      if e.2.addedIn v then s.stageWrite .discard (.clearValid k e.1)
      else if e.2.valid && e.2.stamp.deathSet && e.2.stamp.death == v then s.stageWrite .discard (.clearDeath k e.1)
      else s) s) s

/-- Settling writes of the rule plane for the new oldest live version (R131). -/
def State.settlePlane (s : State) (o : BitVec 16) : State :=
  (List.range 9).foldl (fun s k =>
    (s.effSlots k).foldl (fun s e =>
      if e.2.valid && e.2.stamp.deathSet && atOrBefore e.2.stamp.death o then s.stageWrite .settling (.clearValid k e.1)
      else if e.2.valid && e.2.stamp.birthSet && atOrBefore e.2.stamp.birth o then
        s.stageWrite .settling (.clearBirth k e.1)
      else s) s) s

/-! ## Rules of the commands -/

/-- An extract's OFFSET lies in 0 to 62 (R110). -/
def extractOk (e : BitVec 32) : Bool := fld e 23 18 != 63

/-- The extract as stored: reserved bits ignored (R7, R110). -/
def extractClean (e : BitVec 32) : BitVec 32 := setFld e 17 16 0

/-- RULE_ADD: the record's checks of value (R114, R117, R118). -/
def ruleOk (r : RuleRec) : Bool :=
  decide (r.dir ≤ 1) && decide (r.prio ≤ 65535) && (r.key &&& ~~~r.mask) == 0 && (r.rangeVal &&& ~~~r.rangeMask) == 0
    && decide (fld r.action 127 125 ≤ 5)
    && (if r.dir = 0 then !bit r.action 62
        else decide (fld r.action 127 125 ≤ 1) && !bit r.action 108 && !bit r.action 41
          && !(bit r.action 97 && fld r.action 127 125 == 1))

def ruleRule (r : RuleRec) : Hdr → State → Rule := fun _ s =>
  Rule.need (decide (r.slot = 0xFFFF) || decide (1 < r.dir) || decide (r.slot < kindSlots r.dir)) (.access r.slot) <|
  Rule.need (ruleOk r) .param <|
  s.putBySlot r.dir r.slot fun i => .rule { r with slot := i, action := setFld r.action 23 0 0 }

def cmdRuleAdd (r : RuleRec) : Cmd := .mirrored 0x0504 (.ruleAdd r) (ruleRule r)

/-- A range comparator is compared by a rule that is live in a live version or staged, in some direction (R116). -/
def State.rangeInUse (s : State) (c : Nat) : Bool :=
  let vs := s.liveVersions ++ s.rules.staged.toList
  let live := fun (o : ObjSlot) => vs.any fun v => o.live v
  (List.range 2).any fun d =>
    ((s.effSlots d).any fun e =>
      live e.2 && (match e.2.val with | .rule r => bit r.rangeMask (c % 64) | _ => false))
    && ((s.effSlots (kindInKey + d)).any fun e =>
      live e.2 && (match e.2.val with | .keyProf _ g => g == c / 64 | _ => false))

/-- RANGE_SET (R116). -/
def cmdRangeSet (cmp : Nat) (extract : BitVec 32) (low high : Nat) : Cmd :=
  .mirrored 0x0507 (.rangeSet cmp extract low high) fun _ s =>
    Rule.need (decide (cmp < 256)) (.access cmp) <|
    Rule.need (extractOk extract && decide (low ≤ high) && decide (high ≤ 65535)) .param <|
    Rule.need (!s.rangeInUse cmp) .conflict <|
    .ok (s.stageWrite .staging (.range cmp (extractClean extract) low high))

/-- A parse entry's fields lie in their ranges (R104, R105). -/
def parseOk (r : BitVec 128) : Bool :=
  fld r 127 121 != 127 && fld r 49 48 != 3 && fld r 55 50 != 63
    && (fld r 49 48 != 0 || fld r 47 42 != 0) && (fld r 49 48 != 1 || fld r 47 42 != 63)

/-- PARSE_ENTRY_SET (R105, R124). -/
def cmdParseEntrySet (slot : Nat) (record : BitVec 128) : Cmd :=
  .mirrored 0x0508 (.parseEntrySet slot record) fun _ s =>
    Rule.need (decide (slot < 512)) (.access slot) <|
    Rule.need (parseOk record) .param <|
    (match s.putBySlot kindParse slot fun _ => .parse (setFld record 0 0 0) with
     | .done t st d _ p => .done t st d 0 p
     | r => r)

/-- KEY_PROFILE_SET (R110). -/
def cmdKeyProfileSet (dir id : Nat) (extracts : List (BitVec 32)) (rangeGroup : Nat) : Cmd :=
  .mirrored 0x0509 (.keyProfileSet dir id extracts rangeGroup) fun _ s =>
    Rule.need (decide (1 ≤ id) && decide (id ≤ 31)) (.access id) <|
    Rule.need (decide (dir ≤ 1) && decide (extracts.length = 20) && extracts.all extractOk && decide (rangeGroup ≤ 3)) .param <|
    s.putById (kindInKey + dir) id (.keyProf (extracts.map extractClean) rangeGroup)

/-- Bytes that an edit operation could add (R123). -/
def EditOp_adds (o : EditOp) : Nat :=
  match o with
  | .pushVlan .. => 4
  | .pushMpls _ => 4
  | .encap _ => 64
  | _ => 0

/-- The arguments of an edit operation lie in their ranges (R104, R123). -/
def editOpOk (o : EditOp) : Bool :=
  match o with
  | .encap t => decide (t < 64)
  | .decap ty inst => decide (1 ≤ ty) && decide (ty ≤ 62) && decide (inst ≤ 3)
  | _ => true

/-- EDIT_PROFILE_SET (R123). -/
def cmdEditProfileSet (id : Nat) (ops : List EditOp) : Cmd :=
  .mirrored 0x050A (.editProfileSet id ops) fun _ s =>
    Rule.need (decide (id < 256)) (.access id) <|
    Rule.need (decide (ops.length ≤ 8) && ops.all editOpOk && decide ((ops.map EditOp_adds).sum ≤ 128)) .param <|
    s.putById kindEdit id (.editProf ops)

/-- TEMPLATE_SET (R123, R134). -/
def cmdTemplateSet (id : Nat) (bytes : List Byte) : Cmd :=
  .mirrored 0x050B (.templateSet id bytes) fun _ s =>
    Rule.need (decide (id < 64)) (.access id) <|
    Rule.need (decide (bytes.length ≤ 64)) .param <|
    s.putById kindTemplate id (.template bytes)

/-- MIRROR_SESSION_SET (R134). -/
def cmdMirrorSessionSet (session : Nat) (toCpu : Bool) (dest trunc : Nat) : Cmd :=
  .mirrored 0x050C (.mirrorSessionSet session toCpu dest trunc) fun _ s =>
    Rule.need (decide (session < 16)) (.access session) <|
    Rule.need (decide (dest < if toCpu then 256 else 1024)) (.access dest) <|
    Rule.need (decide (trunc = 0) || (decide (64 ≤ trunc) && decide (trunc ≤ 10240))) .param <|
    s.putById kindMirror session (.mirror toCpu dest trunc)

/-- EGRESS_BIND (R121). -/
def cmdEgressBind (port profile : Nat) : Cmd :=
  .mirrored 0x050D (.egressBind port profile) fun _ s =>
    Rule.need (decide (port < 1024)) (.access port) <|
    Rule.need (decide (profile ≤ 31)) (.access profile) <|
    s.putById kindBind port (.bind profile)

/-- OBJECT_DELETE (R127). -/
def cmdObjectDelete (kind index : Nat) : Cmd :=
  .mirrored 0x0505 (.objectDelete kind index) fun _ s =>
    Rule.need (decide (8 < kind) || (if kind < 3 then decide (index < kindSlots kind)
        else decide ((kindIds kind).1 ≤ index) && decide (index < (kindIds kind).1 + (kindIds kind).2))) (.access index) <|
    Rule.need (decide (kind ≤ 8)) .param <|
    s.deleteObj kind index

/-- Discard writes are pending (R130). -/
def State.discardLeft (s : State) : Bool :=
  !(s.writesOf .discard).isEmpty || s.allJobs.any fun j => j.work.discarding

/-- MAQUETTE_OPEN (R127, R130). -/
def cmdMaquetteOpen : Cmd :=
  .mirrored 0x0501 .maquetteOpen fun _ s =>
    Rule.need s.rules.staged.isNone .conflict <|
    Rule.need (!s.discardLeft) .busy <|
    .val { s with rules.staged := some (s.newestLive + 1), rules.stagedOps := 0 } (s.newestLive + 1).toNat

/-- MAQUETTE_COMMIT (R129): held until the last staging write has landed; a part of a group seals the Maquette. -/
def cmdMaquetteCommit (target : EpochName) : Cmd :=
  { Cmd.mirrored 0x0502 (.maquetteCommit target) (fun h s =>
      match s.rules.staged with
      | none => .conflict
      | some v =>
        Rule.need (!s.sealed) .busy <|
        if h.group then
          Rule.need (!s.unsettled v) (.refuse stBusy dtSettling 0 0) <|
          .change [objRules] { s with rules.groupSeal := true } [.version v]
        else
          Rule.need (decide (s.liveVersions.length < 4)) s.versionsFull <|
          Rule.need (!s.unsettled v) (.refuse stBusy dtSettling 0 0) <|
          .held { s with rules.held := some { hdr := h, target := target } } 0) with
    target := target.epoch }

/-- A field list of an object as values of a reply. -/
def objValues (v : ObjVal) : List Nat :=
  match v with
  | .rule r => [r.dir, r.slot, r.prio, r.rangeVal.toNat, r.rangeMask.toNat] ++ words 5 r.key.toNat
      ++ words 5 r.mask.toNat ++ words 2 r.action.toNat
  | .parse r => words 2 r.toNat
  | .keyProf es g => es.map (·.toNat) ++ [g]
  | .editProf ops => ops.map EditOp_code
  | .template b => b.map (·.toNat)
  | .mirror c d t => [b2n c, d, t]
  | .bind p => [p]
  | .lpmPrefix f r l a x => [f, r, l] ++ words 2 a.toNat ++ [x.toNat]
where
  /-- Code and argument of an edit operation (R123): argument x 16 + code. -/
  EditOp_code (o : EditOp) : Nat :=
    match o with
    | .popVlan => 1
    | .pushVlan tpid tci f => 2 + 16 * (tpid.toNat * 2 ^ 17 + tci.toNat * 2 + b2n f)
    | .setVid v => 3 + 16 * v.toNat
    | .popMpls => 4
    | .pushMpls l => 5 + 16 * l.toNat
    | .swapMpls l => 6 + 16 * l.toNat
    | .decTtl => 7
    | .setDscp d => 8 + 16 * d.toNat
    | .setMac => 9
    | .encap t => 10 + 16 * t
    | .decap ty i => 11 + 16 * (ty * 4 + i)
    | .ioamTrace => 12
    | .ptpCorrect => 13

def stampValues (t : Stamp) : List Nat := [t.birth.toNat, b2n t.birthSet, t.death.toNat, b2n t.deathSet]

/-- The first poisoned word of a rule's row or action record in a replica (R436, log 14). -/
def State.rulePoison (s : State) (kind slot : Nat) : Option (BitVec 64) :=
  if kind < 2 then
    ((List.range 8).flatMap fun k => [ternaryAddr k kind slot, ternaryAddr k 3 (actionNo kind slot)]).find?
      s.faults.poisoned.contains
  else none

/-- Values of the largest object of a kind (R124). -/
def kindValues (kind : Nat) : Nat :=
  match kind with
  | 0 => 17 | 1 => 17 | 2 => 2 | 3 => 21 | 4 => 21 | 5 => 8 | 6 => 64 | 7 => 3 | 8 => 1 | _ => 0

/-- RULE_READ (R124, R134). -/
def cmdRuleRead (kind slot : Nat) : Cmd :=
  (Cmd.get 0x0506 (kind, slot) fun _ s =>
    Rule.need (decide (8 < kind) || decide (slot < kindSlots kind)) (.access slot) <|
    Rule.need (decide (kind ≤ 8)) .param <|
    let o := s.objAt (objKey kind slot)
    Rule.need o.valid .missing <|
    match s.rulePoison kind slot with
    | some a => .poisoned a
    | none => .reply s ([o.id] ++ objValues o.val ++ stampValues o.stamp)).upTo (5 + kindValues kind)

/-- VERSION_STATUS_GET (R134): current version, S, live versions with their counts, staged operations, pending writes. -/
def cmdVersionStatusGet : Cmd :=
  (Cmd.get 0x050E () fun _ s =>
    .done s stOk 0 (BitVec.ofNat 64 s.rules.current.toNat)
      ([s.rules.current.toNat, match s.rules.staged with | some v => v.toNat | none => 2 ^ 16]
        ++ (s.liveVersions.flatMap fun v => [v.toNat, s.inFlight v.toNat])
        ++ [s.rules.stagedOps, s.rules.stream.length])).upTo 12

/-- SpecTagsInUse: tags of a pipe allocated and not yet returned (R208). -/
def State.tagsInUse (s : State) (pipe : Nat) : Nat :=
  ((List.range 1024).filter fun i => (s.specTag (pipe * 1024 + i)).isSome).length

/-- PARSE_STATS_GET (R133, R208): the counters and the gauge of an ingress pipe, or from 64 of an egress pipe. -/
def cmdParseStatsGet (pipe : Nat) (clear : Bool) : Cmd :=
  .stats 0x050F clear pipe fun _ s =>
    Rule.need (decide (pipe < 128)) (.access pipe) <|
    statsRule s (if pipe < 64 then
        ([1, 2, 3, 4].map fun c => (Ctr.parseErr, pipe * 8 + c)) ++
          [(.runaheadReplay, pipe), (.clsNoMatch, pipe), (.clsDrop, pipe), (.clsBadDest, pipe), (.cloisterPass, pipe),
           (.cloisterSecondDrop, pipe), (.cloisterPoolDrop, pipe), (.mirrorStaleDest, pipe), (.specTagsAllocated, pipe),
           (.specConfirm, pipe), (.specRollbackMac, pipe), (.specRollbackIcv, pipe), (.specTagExhausted, pipe),
           (.runaheadHold, pipe)]
      else [(.egrClsDrop, pipe - 64), (.editTtlDrop, pipe - 64), (.egrMirrorCopies, pipe - 64),
            (.egrTrapCopies, pipe - 64), (.mirrorStaleDest, pipe)])
      (if pipe < 64 then [s.tagsInUse pipe] else []) clear

end Sys2Proof.Machine
end

