-- ==== Sys2Proof/Machine/ArmPlan.lean ====
section
/-! DEFINITION. What an Armature routine finds out and what it writes: insertion with relocation, deletion, learning,
stash reinsertion, staging, discard and settling of table entries (R170 to R177, spec/07_table_upkeep.md; R130, R131,
spec/05_parser_rules.md), and the placing of jobs (R375, spec/15_armature.md). A routine's search sees the tables as they
stand when it first needs its outcome (DEDUCED, log 18). -/

namespace Sys2Proof.Machine

/-! ## Locks (R182, R171) -/

/-- The bucket lies in the region of a held lock. -/
def State.bucketLocked (s : State) (bank bucket : Nat) : Bool :=
  (List.range 16).any fun n =>
    let l := s.lock n
    l.valid && decide (l.firstBank ≤ bank) && decide (bank < l.firstBank + l.bankCount)
      && decide (l.firstBucket ≤ bucket) && decide (bucket < l.firstBucket + l.bucketCount)

/-! ## Slots and entries (R143, R144) -/

def stampBits (t : Stamp) : Nat :=
  b2n t.birthSet <<< 247 ||| b2n t.deathSet <<< 246 ||| t.birth.toNat <<< 230 ||| t.death.toNat <<< 214

/-- The slots of an entry: one, or two halves for width 2. -/
def entrySlots (table width : Nat) (key : BitVec 320) (data : BitVec 80) (static : Bool) (t : Stamp) : List (BitVec 256) :=
  let head := 1 <<< 255 ||| b2n static <<< 253 ||| table <<< 248 ||| stampBits t
  if width = 2 then
    [BitVec.ofNat 256 (head ||| (key.toNat >>> 192) <<< 80 ||| data.toNat),
     BitVec.ofNat 256 (head ||| 1 <<< 208 ||| (key.toNat % 2 ^ 192) <<< 16)]
  else [BitVec.ofNat 256 (head ||| (key.toNat % 2 ^ 128) <<< 80 ||| data.toNat)]

/-- The key of the entry whose first half is `b` and second half `odd`. -/
def slotsKey (width : Nat) (b odd : BitVec 256) : BitVec 320 :=
  if width = 2 then BitVec.ofNat 320 (slotKey b * 2 ^ 192 + fld odd 207 16) else BitVec.ofNat 320 (slotKey b)

/-- Slots that the entry at slot `i` takes: the width of its table. -/
def State.unitWidth (s : State) (i : Nat) : Nat :=
  let b := (s.emSlot i).bits
  if slotValid b && (s.table (slotTable b)).rcd.width == 2 then 2 else 1

def State.slotFree (s : State) (i : Nat) : Bool := !slotValid (s.emSlot i).bits && !(s.emSlot i).poison

/-- The first slot of an unlocked bucket with room for `width` slots (R171 step 3). -/
def State.room (s : State) (width bank bucket : Nat) : Option Nat :=
  if s.bucketLocked bank bucket then none
  else
    ((List.range 4).filter fun k => k % width == 0).find? fun k =>
      s.slotFree (emIndex bank bucket k) && (width != 2 || s.slotFree (emIndex bank bucket (k + 1)))

/-- The other candidate bucket of the entry at slot `i`. -/
def State.alternate (s : State) (i : Nat) : Nat × Nat :=
  let b := (s.emSlot i).bits
  let p := s.buckets (slotTable b) (slotsKey (s.unitWidth i) b (s.emSlot (i + 1)).bits)
  if p.1 = (i / 4096, i % 4096 / 4) then p.2 else p.1

/-- First slots of the entries of a bucket that a mover of `width` slots may displace. -/
def State.residents (s : State) (width bank bucket : Nat) : List Nat :=
  (List.range 4).filter fun k =>
    let i := emIndex bank bucket k
    slotValid (s.emSlot i).bits && !slotHalf (s.emSlot i).bits && !(s.emSlot i).poison
      && (width == 1 || s.unitWidth i == 2)

/-! ## The search (R171 step 4) -/

/-- A path of exactly `n` relocations from a bucket, in reading order: the slots from the bucket's own to the free one. -/
def State.findPath (s : State) (n width bank bucket : Nat) (seen : List (Nat × Nat)) : Option (List Nat) :=
  match n with
  | 0 => (s.room width bank bucket).map fun k => [emIndex bank bucket k]
  | n + 1 =>
    if s.bucketLocked bank bucket then none
    else
      (s.residents width bank bucket).findSome? fun k =>
        let i := emIndex bank bucket k
        let alt := s.alternate i
        if seen.contains alt || alt == (bank, bucket) then none
        else (s.findPath n (s.unitWidth i) alt.1 alt.2 ((bank, bucket) :: seen)).map (i :: ·)

/-! ## Writes (R170, R172) -/

/-- The plan's step for one bucket: its slots with the updates, what becomes of their hit bits, the tag it will find. The
state is the tables as this write leaves them. -/
def State.bucketStep (s : State) (bank bucket : Nat) (upd : List (Nat × BitVec 256 × HitRule)) (merge : List (Nat × Nat))
    (kind : Nat) : State × PlanStep :=
  let at? := fun (k : Nat) => (upd.find? fun u => u.1 == k).map (·.2)
  let slots := (List.range 4).map fun k => ((at? k).map (·.1)).getD (s.emSlot (emIndex bank bucket k)).bits
  let hits := (List.range 4).map fun k => ((at? k).map (·.2)).getD .keep
  let tag := s.writeTag (tagKey 0 bank bucket)
  let t := upd.foldl (fun s u => s.putEmSlot (emIndex bank bucket u.1) { bits := u.2.1, poison := false }) s
  (t.putWriteTag (tagKey 0 bank bucket) (tag + 1), .bucket bank bucket slots hits merge tag.toNat kind)

/-- The updates that put the slots `l` at slot `i` of its bucket; a second half left behind by a wider entry is cleared. -/
def placeAt (oldWidth i : Nat) (l : List (BitVec 256)) (h : HitRule) : List (Nat × BitVec 256 × HitRule) :=
  let k := i % 4
  match l with
  | [a, b] => [(k, a, h), (k + 1, b, .clear)]
  | [a] => if oldWidth = 2 then [(k, a, h), (k + 1, 0, .clear)] else [(k, a, h)]
  | _ => []

/-- Copy-then-delete along a path, from its far end (R172): each write places a resident into the slot vacated, removing
the older copy there. -/
def State.moves (s : State) (path : List Nat) : State × List PlanStep :=
  match path with
  | a :: b :: rest =>
    let r := s.moves (b :: rest)
    let w := r.1.unitWidth a
    let l := if w = 2 then [(r.1.emSlot a).bits, (r.1.emSlot (a + 1)).bits] else [(r.1.emSlot a).bits]
    let merge := match rest with | c :: _ => [(b, c)] | [] => []
    let q := r.1.bucketStep (b / 4096) (b % 4096 / 4) (placeAt (r.1.unitWidth b) b l (.source a)) merge 1
    (q.1, r.2 ++ [q.2])
  | _ => (s, [])

/-- A place made for a new entry: the tables with its relocations planned, those writes, the slot, the old copies whose
hit bits move when it is written, and the path's buckets. -/
structure Opened where
  st : State
  steps : List PlanStep
  slot : Nat
  merge : List (Nat × Nat)
  path : List (Nat × Nat)

def bucketOf (i : Nat) : Nat × Nat := (i / 4096, i % 4096 / 4)

def State.openPath (s : State) (path : List Nat) : Option Opened :=
  match path with
  | [] => none
  | a :: rest =>
    let r := s.moves path
    some { st := r.1, steps := r.2, slot := a, merge := (match rest with | b :: _ => [(a, b)] | [] => [])
           path := path.map bucketOf }

/-- The entry at slot `i` moved away along a path of at most `d` relocations. -/
def State.moveAway (s : State) (d i : Nat) : Option Opened :=
  let alt := s.alternate i
  if alt = bucketOf i then none
  else
    match (List.range d).findSome? fun n => s.findPath n (s.unitWidth i) alt.1 alt.2 [bucketOf i] with
    | some p => s.openPath (i :: p)
    | none => none

/-- A pair of slots freed by moving its occupants, each along its own path (R171). -/
def State.openPair (s : State) (d bank bucket k : Nat) : Option Opened :=
  let i := emIndex bank bucket k
  let used := fun (t : State) (j : Nat) => slotValid (t.emSlot j).bits
  let ok := fun (j : Nat) => !(s.emSlot j).poison && (s.slotFree j || (s.unitWidth j == 1 && !slotHalf (s.emSlot j).bits))
  if s.bucketLocked bank bucket || !ok i || !ok (i + 1) then none
  else
    let first := if used s i then s.moveAway d i else some { st := s, steps := [], slot := i, merge := [], path := [(bank, bucket)] }
    match first with
    | none => none
    | some a =>
      if used s (i + 1) then
        match a.st.moveAway d (i + 1) with
        | none => none
        | some b => some { st := b.st, steps := a.steps ++ b.steps, slot := i, merge := a.merge ++ b.merge, path := a.path ++ b.path }
      else some a

/-- Level `d` of the search in one candidate bucket. -/
def State.openLevel (s : State) (width d : Nat) (b : Nat × Nat) : Option Opened :=
  match (s.findPath d width b.1 b.2 []).bind s.openPath with
  | some o => some o
  | none =>
    if width = 2 ∧ 0 < d then
      match s.openPair d b.1 b.2 0 with
      | some o => some o
      | none => s.openPair d b.1 b.2 2
    else none

/-- The place for a new entry: the first level within MAX_DEPTH that has one, bucket0 before bucket1 (R171 steps 3, 4). -/
def State.openPlace (s : State) (table width : Nat) (key : BitVec 320) : Option Opened :=
  let p := s.buckets table key
  (List.range ((s.table table).upkeep.maxDepth + 1)).findSome? fun d =>
    match s.openLevel width d p.1 with
    | some o => some o
    | none => s.openLevel width d p.2

/-- Stash slots of a table that writes not yet landed name: those waiting, and those of running routines. -/
def State.stashDue (s : State) (table : Nat) : List Nat :=
  let writes := (s.tables.stashWrites.flatMap fun w =>
      match w.op with | .arm _ ws _ => if w.table = table then ws.map (·.1) else [] | .patina _ => [])
  let plans := (List.range 4).flatMap fun e => match (s.engine e).plan with
    | some p => p.steps.flatMap fun st => match st with
      | .stash t ws => if t = table then ws.map (·.1) else []
      | _ => []
    | none => []
  writes ++ plans

/-- Free stash slots for `width` slots, the lowest, none of them promised to another routine (R142, R171). -/
def State.stashRoom (s : State) (table width : Nat) : Option Nat :=
  let due := s.stashDue table
  let free := fun k => !slotValid (s.stashSlot (table * 64 + k)).bits && !(s.stashSlot (table * 64 + k)).poison && !due.contains k
  ((List.range 64).filter fun k => k % width == 0).find? fun k => free k && (width != 2 || free (k + 1))

/-! ## Plans -/

def ArmPlan.answer (status : Nat) (value : BitVec 64) (counts : List (Ctr × Nat)) : ArmPlan :=
  { readAt := 0, begun := false, steps := [], path := [], status := status, value := value, notice := none, counts := counts }

/-- Both candidate buckets of the key lie in locked regions (R171). -/
def State.bothLocked (s : State) (table : Nat) (key : BitVec 320) : Bool :=
  let p := s.buckets table key
  s.bucketLocked p.1.1 p.1.2 && s.bucketLocked p.2.1 p.2.2

/-- Steps 3 to 6 of R171 for the slots `l` of a new entry; `counts` are counted at the commit. -/
def State.insertPlan (s : State) (table : Nat) (key : BitVec 320) (l : List (BitVec 256)) (notice : Option Notice)
    (counts : List (Ctr × Nat)) : ArmPlan :=
  let w := l.length
  match s.openPlace table w key with
  | some o =>
    let q := o.st.bucketStep (bucketOf o.slot).1 (bucketOf o.slot).2 (placeAt (o.st.unitWidth o.slot) o.slot l .set) o.merge 0
    { readAt := 0, begun := false, steps := o.steps ++ [q.2], path := o.path, status := stOk, value := (Loc.em o.slot).addr, notice := notice
      counts := counts }
  | none =>
    if s.bothLocked table key then .answer stLocked 0 []
    else
      match s.stashRoom table w with
      | some k =>
        { readAt := 0, begun := false, steps := [.stash table ((List.range w).map fun j => (k + j, (l[j]?).getD 0, if j = 0 then .set else .clear))]
          path := [], status := stOk, value := (Loc.stash (table * 64 + k)).addr, notice := notice
          counts := counts ++ [(.emStashInserts, table)] }
      | none => .answer stNoSpace 0 [(.emInsertNoSpace, table)]

/-- The copies of a key, poisoned ones left out; for a VERSIONED table those live in `v`. -/
def State.copiesOf (s : State) (table : Nat) (key : BitVec 320) (v : Option (BitVec 16)) : List Loc :=
  (s.places table key).filter fun l =>
    !s.placePoisoned (s.table table).rcd.width l && s.placeHolds table key l &&
      (match v with | some x => slotLive 1 (s.slotAt l).bits x | none => true)

def State.locLocked (s : State) (l : Loc) : Bool :=
  match l with
  | .em i => s.bucketLocked (bucketOf i).1 (bucketOf i).2
  | .stash _ => false

/-- The writes that change every listed copy by `f` (of its first or second half), a step for each bucket and one for the
stash. `h` is what becomes of the hit bit. -/
def State.editCopies (s : State) (table : Nat) (l : List Loc) (f : Bool → BitVec 256 → BitVec 256) (h : HitRule) : List PlanStep :=
  let w := (s.table table).rcd.width
  let em := l.filterMap fun x => match x with | .em i => some i | .stash _ => none
  let st := l.filterMap fun x => match x with | .stash i => some i | .em _ => none
  let bs := em.foldl (fun acc i => if acc.contains (bucketOf i) then acc else acc ++ [bucketOf i]) []
  let steps := bs.map fun b =>
    (s.bucketStep b.1 b.2 ((em.filter fun i => bucketOf i == b).flatMap fun i =>
      (List.range w).map fun j => ((i + j) % 4, f (j == 0) (s.emSlot (i + j)).bits, if j = 0 then h else .keep)) [] 0).2
  if st.isEmpty then steps
  else steps ++ [.stash table (st.flatMap fun i => (List.range w).map fun j =>
    ((i + j) % 64, f (j == 0) (s.stashSlot (i + j)).bits, if j = 0 then h else .keep))]

/-- The bucket that a journal word names, and the word of a bucket (R160). -/
def journalBucket (a : BitVec 64) : Nat × Nat := (fld a 47 32, fld a 31 0 / 4)
def journalWord (b : Nat × Nat) : BitVec 64 := faultAddr 1 b.1 (b.2 * 4)

/-- Duplicates found in successive journal buckets, each deleted in the bucket nearer the path's start (R173). -/
def State.dupSteps (s : State) (journal : List (BitVec 64)) : State × List PlanStep :=
  match journal with
  | x :: y :: rest =>
    let a := journalBucket x
    let b := journalBucket y
    let dup := (List.range 4).filterMap fun k =>
      let i := emIndex a.1 a.2 k
      let x := (s.emSlot i).bits
      if slotValid x && !slotHalf x then
        ((List.range 4).find? fun j => (List.range (s.unitWidth i)).all fun n =>
          (s.emSlot (emIndex b.1 b.2 j + n)).bits == (s.emSlot (i + n)).bits).map fun j => (i, emIndex b.1 b.2 j)
      else none
    if dup.isEmpty || s.bucketLocked a.1 a.2 then s.dupSteps (y :: rest)
    else
      let upd := dup.flatMap fun d => (List.range (s.unitWidth d.1)).map fun j => ((d.1 + j) % 4, (0 : BitVec 256), HitRule.clear)
      let q := s.bucketStep a.1 a.2 upd dup 2
      let r := q.1.dupSteps (y :: rest)
      (r.1, q.2 :: r.2)
  | _ => (s, [])

/-- A slot with its stamp replaced. -/
def withStamp (t : Stamp) (b : BitVec 256) : BitVec 256 :=
  (b &&& ~~~(BitVec.ofNat 256 (span 247 214))) ||| BitVec.ofNat 256 (stampBits t)

/-- Forwarding data with FWD_OP PORT and a port (R155, R177). -/
def portData (d : BitVec 80) (port : Nat) : BitVec 80 := setFld (setFld d 79 77 2) 76 61 port

/-- The plan of EM_ENTRY_ADD (R171, R174). -/
def State.planAdd (s : State) (table : Nat) (key : BitVec 320) (data : BitVec 80) (static : Bool)
    (staged : Option (BitVec 16)) : ArmPlan :=
  let r := (s.table table).rcd
  let old := s.copiesOf table key staged
  match old.head? with
  | some l =>
    if staged.isSome then .answer stStateConflict 0 []
    else if old.any s.locLocked then .answer stLocked 0 []
    else
      { readAt := 0, begun := false, steps := s.editCopies table old (fun first b =>
          let b := setFld b 253 253 (b2n static)
          if first then setFld b 79 0 data.toNat else b) .keep
        path := [], status := stOk, value := l.addr, notice := none, counts := [] }
  | none =>
    let t := match staged with | some v => { Stamp.init with birth := v, birthSet := true } | none => Stamp.init
    s.insertPlan table key (entrySlots table r.width key data static t) none [(.emInserts, table)]

/-- The plan of EM_ENTRY_DELETE (R174, R127). -/
def State.planDelete (s : State) (table : Nat) (key : BitVec 320) (staged : Option (BitVec 16)) : ArmPlan :=
  let old := s.copiesOf table key staged
  if old.isEmpty then .answer stNotFound 0 []
  else if old.any s.locLocked then .answer stLocked 0 []
  else
    let f := match staged with
      | none => fun (_ : Bool) (_ : BitVec 256) => (0 : BitVec 256)
      | some v => fun _ b =>
        let t := slotStamp b
        if t.birthSet && t.birth == v then 0 else withStamp { t with death := v, deathSet := true } b
    { readAt := 0, begun := false, steps := s.editCopies table old f .keep, path := [], status := stOk, value := 0, notice := none, counts := [] }

/-- The notice of a table with NOTICE = 1 (R180). -/
def State.noticeOf (s : State) (kind table : Nat) (key : BitVec 320) (data : BitVec 80) : Option Notice :=
  if (s.table table).upkeep.notice = 1 then
    some { kind := kind, table := table, key := key, data := data, epoch := s.clock.epoch } else none

/-- The plan of a learn or move request (R177). -/
def State.planLearn (s : State) (r : LearnReq) : ArmPlan :=
  let t := s.table r.table
  let old := s.copiesOf r.table r.key none
  if s.bothLocked r.table r.key then .answer stLocked 0 [(.learnLockedSkip, r.table)]
  else if r.move then
    match old.head? with
    | none => .answer stNotFound 0 []
    | some l =>
      if old.any s.locLocked then .answer stLocked 0 [(.learnLockedSkip, r.table)]
      else
        { readAt := 0, begun := false, steps := s.editCopies r.table old (fun first b => if first then setFld b 76 61 r.port else b) .keep
          path := [], status := stOk, value := l.addr
          notice := s.noticeOf 2 r.table r.key (setFld (slotData (s.slotAt l).bits) 76 61 r.port)
          counts := [(.learnMoved, r.table)] }
  else if !old.isEmpty then .answer stOk 0 [(.learnDup, r.table)]
  else
    let d := portData t.upkeep.learnTemplate r.port
    s.insertPlan r.table r.key (entrySlots r.table t.rcd.width r.key d false Stamp.init) (s.noticeOf 1 r.table r.key d)
      [(.emInserts, r.table), (.learnInserted, r.table)]

/-- The plan of a stash reinsertion (R175): the lowest occupied slot placed in its buckets, its stash slot then cleared. -/
def State.planReinsert (s : State) (table : Nat) : ArmPlan :=
  let w := (s.table table).rcd.width
  match (List.range 64).find? fun k => slotValid (s.stashSlot (table * 64 + k)).bits && !slotHalf (s.stashSlot (table * 64 + k)).bits with
  | none => .answer stOk 0 []
  | some k =>
    let i := table * 64 + k
    let l := (List.range w).map fun j => (s.stashSlot (i + j)).bits
    let key := slotsKey w (s.stashSlot i).bits (s.stashSlot (i + 1)).bits
    match s.openPlace table w key with
    | none => .answer stOk 0 []
    | some o =>
      let q := o.st.bucketStep (bucketOf o.slot).1 (bucketOf o.slot).2 (placeAt (o.st.unitWidth o.slot) o.slot l .set) o.merge 0
      { readAt := 0, begun := false, steps := o.steps ++ [q.2, .stash table ((List.range w).map fun j => (k + j, 0, .clear))], path := o.path
        status := stOk, value := 0, notice := none, counts := [(.emStashReinserted, table)] }

/-- The stamps of a key's copies after a discard or a settling (R130, R131). -/
def stampEdit (b : BitVec 256) (gone : Stamp → Bool) (t' : Stamp → Stamp) : BitVec 256 :=
  if gone (slotStamp b) then 0 else withStamp (t' (slotStamp b)) b

def State.planStamp (s : State) (table : Nat) (l : List Loc) (touch gone : Stamp → Bool) (t' : Stamp → Stamp) : ArmPlan :=
  let l := l.filter fun l => touch (slotStamp (s.slotAt l).bits)
  { readAt := 0, begun := false, steps := s.editCopies table l (fun _ b => stampEdit b gone t') .keep, path := [], status := stOk, value := 0
    notice := none, counts := [] }

/-- Stamps a discard of version `v` touches, and those of its adds; DEATH_SET cleared (R130). -/
def addedBy (v : BitVec 16) (x : Stamp) : Bool := x.birthSet && x.birth == v
def touchedBy (v : BitVec 16) (x : Stamp) : Bool := addedBy v x || (x.deathSet && x.death == v)
def undie (x : Stamp) : Stamp := { x with deathSet := false }

/-- Stamps that oldest live version `o` makes moot, and those dead by it; BIRTH_SET cleared (R131). -/
def deadBy (o : BitVec 16) (x : Stamp) : Bool := x.deathSet && atOrBefore x.death o
def mootBy (o : BitVec 16) (x : Stamp) : Bool := deadBy o x || (x.birthSet && atOrBefore x.birth o)
def grown (x : Stamp) : Stamp := { x with birthSet := false }

/-- The plan of a prefix write: it writes the last word of the prefix's path, under the tag read with it (R150, R168; the node
layout is the device's own, log 44). -/
def State.planPrefix (s : State) (n : Nat) (step : PlanStep) : ArmPlan :=
  let path := match (s.prefixAt n).val with
    | .lpmPrefix f r _ a _ => s.lpmPath f r a
    | _ => []
  let w := path.getLast?.getD (0, 0, 0)
  let bank := w.1 * 128 + w.2.1
  { ArmPlan.answer stOk 0 [] with
      steps := [.lpm step (bank * 1024 + w.2.2) (s.writeTag (tagKey 1 bank w.2.2)).toNat] }

/-- What the routine of a job finds out and will write (R171 to R177, R130, R131, R151). -/
def State.planOf (s : State) (w : ArmWork) : ArmPlan :=
  match w with
  | .insert t k d st v => s.planAdd t k d st v
  | .delete t k v => s.planDelete t k v
  | .learn r => s.planLearn r
  | .reinsert t => s.planReinsert t
  | .emDiscard t k v => s.planStamp t ((s.places t k).filter (s.placeHolds t k)) (touchedBy v) (addedBy v) undie
  | .emSettle t k o => s.planStamp t ((s.places t k).filter (s.placeHolds t k)) (mootBy o) (deadBy o) grown
  | .slotDiscard i v => s.planStamp (slotTable (s.emSlot i).bits) [.em i] (touchedBy v) (addedBy v) undie
  | .slotSettle i o => s.planStamp (slotTable (s.emSlot i).bits) [.em i] (mootBy o) (deadBy o) grown
  | .prefixStage n => s.planPrefix n (.prefixStage n)
  | .prefixDiscard n v => s.planPrefix n (.prefixDiscard n v)
  | .prefixSettle n o => s.planPrefix n (.prefixSettle n o)

/-- The plan of a routine, a restarted one first removing the duplicates that its journal names (R173). -/
def State.fullPlan (s : State) (w : ArmWork) (restarts : Nat) (journal : List (BitVec 64)) : ArmPlan :=
  if restarts = 0 then { s.planOf w with readAt := s.now }
  else
    let d := s.dupSteps journal
    let p := d.1.planOf w
    { p with steps := d.2 ++ p.steps, readAt := s.now }

/-! ## Jobs (R375) -/

/-- The kind of a job: it selects the routine number. -/
def ArmWork.kind (w : ArmWork) : Nat :=
  match w with
  | .insert .. => 0 | .delete .. => 1 | .learn _ => 2 | .reinsert _ => 3 | .emDiscard .. => 4 | .emSettle .. => 5
  | .prefixStage _ => 6 | .prefixDiscard .. => 7 | .prefixSettle .. => 8 | .slotDiscard .. => 4 | .slotSettle .. => 5

/-- Routine number 0 to 1,023 of a job. -/
def ArmWork.routine (w : ArmWork) : Nat := Config.routineNo w.kind % 1024

/-- The table whose entries a job names by key, if it names one. -/
def ArmWork.tableOf (w : ArmWork) : Option Nat :=
  match w with
  | .insert t .. => some t
  | .delete t .. => some t
  | .learn r => some r.table
  | .reinsert t => some t
  | .emDiscard t .. => some t
  | .emSettle t .. => some t
  | _ => none

/-- The table of a job: of the key it names, or of the slot it settles; a prefix has none (R377). -/
def State.jobTable (s : State) (w : ArmWork) : Option Nat :=
  match w with
  | .slotDiscard i _ => some (slotTable (s.emSlot i).bits)
  | .slotSettle i _ => some (slotTable (s.emSlot i).bits)
  | w => w.tableOf

/-- Every Armature engine is fenced (R389). -/
def State.armFenced (s : State) : Bool := (List.range 4).all fun e => (s.engine e).fenced

/-- A new job (R375). -/
def State.placeJob (s : State) (w : ArmWork) (reply : Option (Hdr × Nat)) : State :=
  let n := s.tables.jobNext
  { s with tables := { s.tables with jobNext := n + 1 } }.placeOne
    { id := n, work := w, reply := reply, restarts := 0, lastCause := 0, restartLimit := s.arm.restartLimit
      liveLimit := s.arm.liveLimit, placedAt := s.tickStamp }

/-- Held jobs placed as far as the queues have room. -/
def State.refill (s : State) : State :=
  match s.arm.backlog with
  | [] => s
  | j :: rest =>
    match s.pickEngine with
    | some e => { s with arm := { s.arm with backlog := rest } }.modEngine e fun x => { x with queue := x.queue ++ [j] }
    | none => s

end Sys2Proof.Machine
end

