-- ==== Sys2Proof/Machine/Turnstile.lean ====
section
/-! DEFINITION. The Turnstile, what one maintenance cycle does, the stash writes, and the replies of the table commands
that wait for them (R164 to R170, R175, R178 to R180, R184, spec/07_table_upkeep.md; R161, R163,
spec/06_table_store.md). -/

namespace Sys2Proof.Machine

/-! ## Requests -/

/-- A request issued to a bank's Turnstile (R164). -/
def State.request (s : State) (store bank cls : Nat) (op : MaintOp) : State :=
  { s with tables := { s.tables with maint := s.tables.maint ++
      [{ store := store, bank := bank, cls := cls, op := op, issued := s.now, waited := 0, starved := false }] } }

/-- The requests of a bank in the order in which the classes issued them. -/
def State.waitingAt (s : State) (store bank : Nat) : List MaintReq :=
  s.tables.maint.filter fun r => r.store == store && r.bank == bank

/-- The oldest request of each pending class of a bank, in class order. -/
def State.heads (s : State) (store bank : Nat) : List MaintReq :=
  (List.range 8).filterMap fun c => (s.waitingAt store bank).find? fun r => r.cls == c

/-- Tickets of a class (R167). -/
def State.ticketsOf (s : State) (cls : Nat) : Nat := fld s.tables.tickets (4 * cls + 3) (4 * cls)

def State.starveLimit (s : State) : Nat := max 16 (fld s.tables.tickets 43 32)

/-! ## The lottery (R165) -/

/-- The first class whose running sum of tickets exceeds `r`. -/
def walkTickets (s : State) (r sum : Nat) (l : List MaintReq) : Option MaintReq :=
  match l with
  | [] => none
  | q :: rest => if r < sum + s.ticketsOf q.cls then some q else walkTickets s r (sum + s.ticketsOf q.cls) rest

/-- The winner of a maintenance cycle: the oldest starved request, else by lot, else the lowest class (R165). -/
def State.winner (s : State) (l : List MaintReq) : Option MaintReq :=
  let starved := l.filter (·.starved)
  match starved with
  | q :: rest => some (rest.foldl (fun (b : MaintReq) x => if x.issued < b.issued then x else b) q)
  | [] =>
    let total := (l.map fun q => s.ticketsOf q.cls).sum
    if total = 0 then l.head? else walkTickets s (s.rand total) 0 l

/-- The winner leaves the queue; the other classes' oldest requests have waited through one more granted cycle (R166). -/
def State.passOver (s : State) (store bank : Nat) (w : MaintReq) (heads : List MaintReq) : State :=
  let aged := s.tables.maint.map fun (r : MaintReq) =>
    if r ≠ w ∧ heads.contains r ∧ 0 < s.ticketsOf r.cls then { r with waited := r.waited + 1 } else r
  { s with tables := { s.tables with maint := aged.erase w
                                     granted := s.tables.granted.set none (bankKey store bank) (some s.now) } }

/-- STORE code of R160 of a table store. -/
def storeCode (store : Nat) : Nat := if store = 0 then 1 else if store = 1 then 3 else 4

/-- The requests that reach STARVE_LIMIT become starved (R166). -/
def State.starve (s : State) (store bank : Nat) : State :=
  (s.heads store bank).foldl (fun s r =>
    if !r.starved && decide (0 < s.ticketsOf r.cls) && decide (s.starveLimit ≤ r.waited) then
      let w := setFld (setFld (s.tables.starved ||| BitVec.ofNat 64 (1 <<< r.cls)) 63 60 (storeCode store)) 47 32 bank
      let s := { s with tables := { s.tables with
                  starved := w, starvedAt := s.tables.starvedAt.set 0 r.cls (s.cycleStamp + 1), maint := s.tables.maint.map fun (x : MaintReq) => if x = r then { x with starved := true } else x } }
      (s.bump .turnstileStarve r.cls).note srcTurnstileStarved bank 0
    else s) s

/-! ## Landing of writes (R169, R170) -/

/-- The hit bit of a place: a slot index, or 2^21 + stash index. -/
def State.hitOf (s : State) (place : Nat) : Bool :=
  if place < 2 ^ 21 then s.emHit place else s.stashHitAny (place - 2 ^ 21)

/-- DATA with its reserved bits zero (R7, R155). -/
def dataClean (d : BitVec 80) : BitVec 80 := setFld d 6 0 0

/-- A slot as a write stores it: HIT is not written and reserved bits are zero, those of a second half among them (R7, R143). -/
def slotClean (b : BitVec 256) : BitVec 256 :=
  let b := setFld (setFld b 254 254 0) 213 209 0
  if bit b 208 then setFld b 15 0 0 else setFld b 6 0 0

/-- One slot as a write leaves it: `base` is the state whose hit bits the rules read. -/
def State.landSlot (s base : State) (i : Nat) (bits : BitVec 256) (h : HitRule) (merge : List (Nat × Nat)) : State :=
  let old := base.emSlot i
  let bits := slotClean bits
  let mine := match h with
    | .keep => base.emHit i
    | .set => true
    | .clear => false
    | .source p => base.hitOf p
  let hit := slotValid bits && (mine || merge.any fun m => m.2 == i && base.hitOf m.1)
  let s := if old.bits = bits ∧ h = .keep then s
    else (s.wordWritten (faultAddr 1 (i / 4096) (i % 4096))).putEmSlot i { bits := bits, poison := false }
  s.putEmHit i hit

/-- One bucket write, atomic (R169 steps 7 and 8); hit bits of removed copies move to the remaining ones. -/
def State.landBucket (s : State) (bank bucket : Nat) (slots : List (BitVec 256)) (hits : List HitRule)
    (merge : List (Nat × Nat)) : State :=
  let t := (List.range 4).foldl (fun t k =>
    t.landSlot s (emIndex bank bucket k) ((slots[k]?).getD 0) ((hits[k]?).getD .keep) merge) s
  let t := merge.foldl (fun t m =>
    if bucketOf m.2 = (bank, bucket) then t else t.putEmHit m.2 (s.hitOf m.2 || s.hitOf m.1)) t
  t.modWriteTag (tagKey 0 bank bucket) (· + 1)

/-- A stash slot written, in all eight copies (R175). -/
def State.landStash (s base : State) (table k : Nat) (bits : BitVec 256) (h : HitRule) : State :=
  let i := table * 64 + k
  let bits := slotClean bits
  let mine := match h with
    | .keep => base.stashHitAny i
    | .set => true
    | .clear => false
    | .source p => base.hitOf p
  (((stashCopies table k).foldl State.wordWritten s).putStashSlot i { bits := bits, poison := false }).putStashHits i
    (slotValid bits && mine)

/-- Stash slots in use. -/
def State.stashUsed (s : State) (table : Nat) : Nat :=
  ((List.range 64).filter fun k => slotValid (s.stashSlot (table * 64 + k)).bits).length

/-- EM_STASH_HIGH once at 56, again only after the stash has fallen below 48 (R175). -/
def State.stashLevel (s : State) (table : Nat) : State :=
  let n := s.stashUsed table
  if 56 ≤ n ∧ !(s.table table).stashHigh then
    (s.modTable table fun d => { d with stashHigh := true }).note srcEmStashHigh table 0
  else if n < 48 then s.modTable table fun d => { d with stashHigh := false }
  else s

/-! ## LPM prefixes (R151) -/

/-- Units of a prefix slot. -/
def prefixUnits (o : ObjSlot) : Nat := match o.val with | .lpmPrefix f _ _ _ _ => if f = 0 then 1 else 2 | _ => 0

/-- A prefix slot freed, its units with it. -/
def State.freePrefix (s : State) (n : Nat) : State :=
  let u := prefixUnits (s.prefixAt n)
  { s.putPrefixAt n ObjSlot.init with rules.lpmUnits := s.rules.lpmUnits - u }

/-- What the landing of a prefix write does (R130, R131, R151): staging was recorded when it was accepted. The word that
holds the prefix is written whole, and its tag increments (R159, R168). -/
def State.landPrefix (s : State) (step : PlanStep) (bank word : Nat) : State :=
  let s := (s.wordWritten (faultAddr 3 bank word)).modWriteTag (tagKey 1 bank word) (· + 1)
  match step with
  | .prefixDiscard n v =>
    let o := s.prefixAt n
    if o.valid && o.stamp.birthSet && o.stamp.birth == v then s.freePrefix n
    else if o.valid && o.stamp.deathSet && o.stamp.death == v then
      s.putPrefixAt n { o with stamp := { o.stamp with deathSet := false } }
    else s
  | .prefixSettle n w =>
    let o := s.prefixAt n
    if o.valid && o.stamp.deathSet && atOrBefore o.stamp.death w then s.freePrefix n
    else if o.valid && o.stamp.birthSet && atOrBefore o.stamp.birth w then
      s.putPrefixAt n { o with stamp := { o.stamp with birthSet := false } }
    else s
  | _ => s

/-! ## The engine's requests -/

/-- The routine commits (R381): its commit counts are counted, its notice dated. -/
def State.commitEngine (s : State) (e : Nat) : State :=
  let x := s.engine e
  if x.committed then s
  else
    let counts := match x.plan with | some p => p.counts | none => []
    let s := counts.foldl (fun s c => s.bump c.1 c.2) s
    (s.modEngine e fun x => { x with
      committed := true
      plan := x.plan.map fun p => { p with notice := p.notice.map fun n => { n with epoch := s.clock.epoch } } }).bump
      .armCommits e

/-- One request of the engine's word has completed; with COMMIT set and nothing refused, the last landing commits. The next word
runs in a later clock (R379). -/
def State.memDone (s : State) (e : Nat) (refused commit : Bool) : State :=
  let s := s.modEngine e fun x => { x with waiting := x.waiting - 1, refused := x.refused || refused, busyUntil := s.now + 1 }
  if commit && (s.engine e).waiting == 1 && !(s.engine e).refused then s.commitEngine e else s

/-- What a landed step counts as (R173, R187): a relocation, or each of the `dups` copies that it removes. -/
def State.countKind (s : State) (e kind dups : Nat) : State :=
  match (s.engine e).job.bind fun j => j.work.tableOf with
  | some t => if kind = 1 then s.bump .emRelocations t else if kind = 2 then s.bumpBy .emDupRemoved t dups else s
  | none => s

/-- A refused write counts in UpkeepWriteRefused of its bank (R169). -/
def State.refusedAt (s : State) (store bank : Nat) : State := s.bump .upkeepWriteRefused (bankKey store bank)

/-- A conditional write of an engine granted (R168, R169). -/
def State.landArm (s : State) (store bank e : Nat) (step : PlanStep) (commit : Bool) : State :=
  match step with
  | .bucket b k slots hits merge tag kind =>
    if s.bucketLocked b k || (s.writeTag (tagKey 0 b k)).toNat != tag then (s.refusedAt store bank).memDone e true commit
    else ((s.landBucket b k slots hits merge).countKind e kind merge.length).memDone e false commit
  | .stash .. => s.memDone e false commit
  | .lpm p word tag =>
    if (s.writeTag (tagKey 1 bank (word % 1024))).toNat != tag then (s.refusedAt store bank).memDone e true commit
    else (s.landPrefix p bank (word % 1024)).memDone e false commit
  | _ => s.memDone e false commit

/-- A unit read into a bucket buffer (R375); the bank counts as read by the routine. -/
def State.readArm (s : State) (store bank e unit buffer : Nat) : State :=
  let slots := if store = 0 then (List.range 4).map fun k => (s.emSlot (emIndex bank unit k)).bits
    else if store = 2 then
      let p := s.pair (unit * 1024 + bank)
      [BitVec.ofNat 256 (p.1 * 2 ^ 64 + p.2.1), 0, 0, 0]
    else [s.freeVal 256, 0, 0, 0]
  let s := if store = 1 then s.draw else s
  let b : ArmBuf := { store := storeCode store, bank := bank, bucket := unit, slots := slots
                      tag := s.writeTag (tagKey store bank unit), locked := store == 0 && s.bucketLocked bank unit }
  (s.modEngine e fun x => { x with bufs := x.bufs.set ArmBuf.init buffer b
                                   readBanks := (store, bank) :: x.readBanks }).memDone e false false

/-- CNT_RMW (R376): the spec states no operation of it, so the pair's new counts are free values (log 2). -/
def State.rmwArm (s : State) (e pair : Nat) (commit : Bool) : State :=
  let a := (s.freeVal 64).toNat
  let s := s.draw
  let b := (s.freeVal 64).toNat
  (((s.draw.putPair pair (a, b, false)).wordWritten (faultAddr 4 (pair % 1024) (pair / 1024))).modWriteTag
    (tagKey 2 (pair % 1024) (pair / 1024)) (· + 1)).memDone e false commit

/-! ## Patina (R178 to R180) -/

/-- A slot that Patina ages: first half, of the table, not STATIC. -/
def agedSlot (table : Nat) (b : BitVec 256) : Bool := slotValid b && slotTable b == table && !slotStatic b && !slotHalf b

/-- The 64 bytes of a notice (R180). -/
def Notice.bytes (n : Notice) (width : Nat) : List Byte :=
  beBytes 1 n.kind ++ beBytes 1 n.table ++ beBytes 2 0 ++ beBytes 8 n.epoch
    ++ (if width = 2 then beBytes 40 n.key.toNat else beBytes 16 n.key.toNat ++ beBytes 24 0)
    ++ beBytes 10 n.data.toNat ++ beBytes 2 0

/-- A notice packet to NOTICE_QUEUE, dropped and counted where the queue cannot admit it (R180). -/
def State.sendNotice (s : State) (n : Notice) : State :=
  let t := s.table n.table
  let r := s.sendCpu t.upkeep.noticeQueue 5 (n.bytes t.rcd.width)
  if r.2 then r.1 else r.1.bump .noticeDrop n.table

/-- An entry aged out: its notice, and PatinaAged for each deleted slot (R179, R180). -/
def State.aged (s : State) (table : Nat) (b odd : BitVec 256) (slots : Nat) : State :=
  let s := s.bumpBy .patinaAged table slots
  if (s.table table).upkeep.notice = 1 then
    s.sendNotice { kind := 3, table := table, key := slotsKey (s.table table).rcd.width b odd, data := slotData b, epoch := s.clock.epoch }
  else s

/-- The pass goes on to the bank's next bucket (R178). -/
def State.patinaNext (s : State) (table bank bucket : Nat) : State :=
  if bucket < 1023 then s.request 0 bank 4 (.patinaRead table (bucket + 1)) else s

/-- A Patina read (R178): hit bits cleared in the clock of the read, the slots whose bits were clear become candidates. -/
def State.patinaReadAt (s : State) (table bank bucket : Nat) : State :=
  if s.bucketLocked bank bucket then (s.bump .patinaLockedSkip table).patinaNext table bank bucket
  else
    let mine := (List.range 4).filter fun k => agedSlot table (s.emSlot (emIndex bank bucket k)).bits
    let cands := if (s.table table).passes ≤ 1 then [] else mine.filter fun k => !s.emHit (emIndex bank bucket k)
    let t := mine.foldl (fun s k => s.putEmHit (emIndex bank bucket k) false) s
    if cands.isEmpty then t.patinaNext table bank bucket
    else t.request 0 bank 4 (.patinaClear table bucket cands (s.writeTag (tagKey 0 bank bucket)).toNat s.now)

/-- More than 128 maintenance cycles of a bank have passed since clock `at?` (R168): one in 32 clocks. -/
def State.readStale (s : State) (at? : Nat) : Bool := decide (128 * 32 < s.now - at?)

/-- A Patina compare-and-clear (R169 step 6, R179): a candidate whose hit bit is set again keeps VALID. One that comes too
long after its read is not made: Patina reads again (R168). -/
def State.patinaClearAt (s : State) (table bank bucket : Nat) (cands : List Nat) (tag readAt : Nat) : State :=
  if s.readStale readAt then s.request 0 bank 4 (.patinaRead table bucket)
  else if s.bucketLocked bank bucket then ((s.refusedAt 0 bank).bump .patinaLockedSkip table).patinaNext table bank bucket
  else if (s.writeTag (tagKey 0 bank bucket)).toNat != tag then
    (s.refusedAt 0 bank).request 0 bank 4 (.patinaRead table bucket)
  else
    let w := if (s.table table).rcd.width = 2 then 2 else 1
    let die := cands.filter fun k => !s.emHit (emIndex bank bucket k)
    let gone := fun (k : Nat) => die.contains k || (w == 2 && decide (0 < k) && die.contains (k - 1))
    let slots := (List.range 4).map fun k => if gone k then 0 else (s.emSlot (emIndex bank bucket k)).bits
    let hits := (List.range 4).map fun k => if gone k then HitRule.clear else .keep
    let t := s.landBucket bank bucket slots hits []
    (die.foldl (fun t k =>
      t.aged table (s.emSlot (emIndex bank bucket k)).bits (s.emSlot (emIndex bank bucket (k + 1))).bits w) t).patinaNext
      table bank bucket

/-- The Patina pass of a table has ended when no request of it is left, at a bank or at the stash (R178). -/
def State.patinaBusy (s : State) (table : Nat) : Bool :=
  (s.tables.maint.any fun r => match r.op with
    | .patinaRead t _ => t == table
    | .patinaClear t _ _ _ _ => t == table
    | _ => false)
    || s.tables.stashWrites.any fun w => w.table == table && (match w.op with | .patina _ => true | .arm .. => false)

/-- The banks of a table. -/
def TableDef.banks (d : TableDef) : List Nat := (List.range d.rcd.bankCount).map fun i => d.rcd.baseBank + i

/-- Candidates of a stash: first halves that Patina ages. -/
def State.stashAged (s : State) (table : Nat) : List Nat :=
  (List.range 64).filter fun k => agedSlot table (s.stashSlot (table * 64 + k)).bits

/-- A Patina pass starts: it reads every bucket of the table, a bank's buckets one after another, each clear before the next read,
and its stash (R178; the order within a bank is a DESIGN CHOICE, log 19). -/
def State.startPass (s : State) (table : Nat) : State :=
  let d := s.table table
  let s := s.modTable table fun d => { d with passes := d.passes + 1, passLate := false }
  let s := d.banks.foldl (fun s b => s.request 0 b 4 (.patinaRead table 0)) s
  let mine := s.stashAged table
  let cands := if d.passes = 0 then [] else mine.filter fun k => !s.stashHitAny (table * 64 + k)
  let s := mine.foldl (fun s k => s.putStashHits (table * 64 + k) false) s
  if cands.isEmpty then s
  else { s with tables := { s.tables with
           stashWrites := s.tables.stashWrites ++ [{ table := table, ahead := false, op := .patina cands }] } }

/-- A pass held back by its predecessor starts when that has ended (R178). -/
def State.passEnd (s : State) (table : Nat) : State :=
  if (s.table table).passLate && !s.patinaBusy table then s.startPass table else s

/-! ## Table commands in progress -/

def State.tableJob (s : State) (id : Nat) : Option TableJob := s.tables.jobs.find? fun j => j.id == id

def State.modJob (s : State) (id : Nat) (f : TableJob → TableJob) : State :=
  { s with tables := { s.tables with jobs := s.tables.jobs.map fun j => if j.id = id then f j else j } }

/-- A table command ends: its requests are withdrawn. -/
def State.endJob (s : State) (id : Nat) : State :=
  { s with tables := { s.tables with
      jobs := s.tables.jobs.filter fun j => j.id != id
      maint := s.tables.maint.filter fun r => match r.op with
        | .dmaWrite j _ _ _ => j != id
        | .dmaRead j _ => j != id
        | .cmdWrite j _ _ _ => j != id
        | .cmdRead j _ => j != id
        | .cmdPair j _ => j != id
        | _ => true } }

/-- The slots of a place with HIT, as EM_ENTRY_READ returns them (R143, R163). -/
def State.readSlots (s : State) (width : Nat) (l : Loc) : List Nat :=
  let one := fun (x : Loc) =>
    let hit := match x with | .em i => s.emHit i | .stash i => s.stashHitAny i
    words 4 (setFld (s.slotAt x).bits 254 254 (b2n hit)).toNat
  if width = 2 then one l ++ one l.next else one l

/-- The answer of EM_ENTRY_READ (R159, R163). -/
def State.answerRead (s : State) (j : TableJob) : State :=
  let w := (s.table j.table).rcd.width
  let at? : Option (List Loc) × Option Loc :=
    match j.query with
    | .key k =>
      let l := s.copiesOf j.table k none
      (if l.isEmpty then none else some l, (s.places j.table k).find? (s.placePoisoned w))
    | .place i =>
      let l : Loc := if i < 2 ^ 21 then .em i else .stash (i - 2 ^ 21)
      if s.placePoisoned w l then (none, some l)
      else (if slotValid (s.slotAt l).bits && !slotHalf (s.slotAt l).bits && slotTable (s.slotAt l).bits == j.table
        then some [l] else none, none)
    | _ => (none, none)
  match at?.1, at?.2 with
  | some l, _ => s.reply j.hdr j.opcode stOk 0 0 0 (l.flatMap (s.readSlots w))
  | none, some l => s.reply j.hdr j.opcode stPoisoned 0 0 l.addr []
  | none, none => s.refuseHeld j.hdr j.opcode stNotFound 0

/-- The prefix a PREFIX_READ names, live in its version (R163). -/
def State.prefixFor (s : State) (f r len : Nat) (a : BitVec 128) (v : BitVec 16) : Option (Nat × ObjSlot) :=
  s.rules.prefixes.find? fun (e : Nat × ObjSlot) =>
    e.2.live v && (match e.2.val with
      | .lpmPrefix f' r' l' a' _ => f' == f && r' == r && l' == len && a' == a
      | _ => false)

/-- The answer of PREFIX_READ. -/
def State.answerPrefix (s : State) (j : TableJob) : State :=
  match j.query with
  | .prefixRead f r len a v =>
    match s.lpmBad f r a, s.prefixFor f r len a v with
    | some bad, _ => s.reply j.hdr j.opcode stPoisoned 0 0 bad []
    | none, some e =>
      match e.2.val with
      | .lpmPrefix _ _ _ _ x => s.reply j.hdr j.opcode stOk 0 x 0 (x.toNat :: stampValues e.2.stamp)
      | _ => s.refuseHeld j.hdr j.opcode stNotFound 0
    | none, none => s.refuseHeld j.hdr j.opcode stNotFound 0
  | _ => s.refuseHeld j.hdr j.opcode stNotFound 0

/-- The values a job has read, in order of their numbers. -/
def TableJob.values (j : TableJob) : List Nat :=
  (List.range j.done).flatMap fun i =>
    match j.nums.find? fun e => e.1 == j.first + i with
    | some e => [e.2.1, e.2.2]
    | none => []

/-- The last access of a table command made: its reply (R161, R163, R184). -/
def State.finishJob (s : State) (j : TableJob) : State :=
  let s := s.endJob j.id
  match j.poisonAt with
  | some a => s.reply j.hdr j.opcode stPoisoned 0 0 a []
  | none =>
    if j.opcode = 0x0407 then s.answerRead j
    else if j.opcode = 0x040B then s.answerPrefix j
    else if j.opcode = 0x0410 then s.reply j.hdr j.opcode stOk 0 0 0 j.values
    else if j.opcode = 0x0418 then
      let s := { s with cmd.out.dma := (j.acc.map fun (e : Nat × List (BitVec 256)) => (j.bank, e.1, e.2)) ++ s.cmd.out.dma }
      s.reply j.hdr j.opcode stOk 0 (BitVec.ofNat 64 j.done) 0 []
    else if j.opcode = 0x0417 then s.reply j.hdr j.opcode stOk 0 (BitVec.ofNat 64 j.done) 0 []
    else s.reply j.hdr j.opcode stOk 0 0 0 []

/-- One access of a table command made. -/
def State.jobStep (s : State) (id : Nat) (f : TableJob → TableJob) : State :=
  let s := s.modJob id fun j => { f j with left := j.left - 1, done := j.done + 1 }
  match s.tableJob id with
  | some j => if j.left = 0 then s.finishJob j else s
  | none => s

/-- A DMA grant lands one bucket of a TABLE_DMA_WRITE (R184): the owning lock's own region only. All four slots are
written; the hit bit of an entry whose TABLE or whole KEY changes is cleared (R170). -/
def State.landDma (s : State) (bank id lock bucket : Nat) (image : List (BitVec 256)) : State :=
  match s.tableJob id with
  | none => s
  | some j =>
    let l := s.lock lock
    let inside := l.valid && decide (l.firstBank ≤ bank) && decide (bank < l.firstBank + l.bankCount)
      && decide (l.firstBucket ≤ bucket) && decide (bucket < l.firstBucket + l.bucketCount)
    if !inside then
      (s.endJob id).reply j.hdr j.opcode stAccessViolation 0 (BitVec.ofNat 64 j.done)
        (faultAddr 1 bank (bucket * 4)) []
    else
      let old := fun (k : Nat) => (s.emSlot (emIndex bank bucket k)).bits
      let new := fun (k : Nat) => (image[k]?).getD 0
      let same := fun (k : Nat) =>
        let w := (s.table (slotTable (new k))).rcd.width
        slotTable (old k) == slotTable (new k) && slotsKey w (old k) (old (k + 1)) == slotsKey w (new k) (new (k + 1))
      let hits := (List.range 4).map fun k => if same k then HitRule.keep else .clear
      let t := (List.range 4).foldl (fun t k => t.wordWritten (faultAddr 1 bank (bucket * 4 + k))) s
      (t.landBucket bank bucket image hits []).jobStep id fun j => j

/-- The slot that DIRECT_WRITE leaves, or the status that refuses it (R143, R145, R163): as written where the table is not
VERSIONED; in a VERSIONED table VALID = 0 stages a delete of the live entry and VALID = 1 an add into a slot that is free
(DEDUCED, log 19). -/
def State.directSlot (s : State) (table : Nat) (old image : BitVec 256) : Except Nat (BitVec 256) :=
  if (s.table table).rcd.versioned = 0 then .ok image
  else
    match s.rules.staged with
    | none => .error stStateConflict
    | some v =>
      let t := slotStamp old
      let held := slotValid old && slotTable old == table
      let own := held && t.birthSet && t.birth == v
      if slotValid image then
        if !slotValid old || own || (held && t.deathSet && atOrBefore t.death s.oldestLive) then
          .ok (withStamp { Stamp.init with birth := v, birthSet := true } image)
        else .error stStateConflict
      else if own then .ok 0
      else if held && slotLive 1 old v then .ok (withStamp { t with death := v, deathSet := true } old)
      else .error stNotFound

/-- The write of DIRECT_WRITE (R145, R163, R169): refused with LOCKED in a locked region. -/
def State.landDirect (s : State) (bank id bucket slot : Nat) (image : BitVec 256) : State :=
  match s.tableJob id with
  | none => s
  | some j =>
    if s.bucketLocked bank bucket then
      ((s.refusedAt 0 bank).endJob id).refuseHeld j.hdr j.opcode stLocked 0
    else
      let old := (s.emSlot (emIndex bank bucket slot)).bits
      match s.directSlot j.table old image with
      | .error st => (s.endJob id).refuseHeld j.hdr j.opcode st 0
      | .ok new =>
        let h := if slotKey old = slotKey new ∧ slotTable old = slotTable new then HitRule.keep else .clear
        let slots := (List.range 4).map fun k => if k = slot then new else (s.emSlot (emIndex bank bucket k)).bits
        let hits := (List.range 4).map fun k => if k = slot then h else HitRule.keep
        let t := (s.landBucket bank bucket slots hits []).wordWritten (faultAddr 1 bank (bucket * 4 + slot))
        t.jobStep id fun j => j

/-- A counter pair read, cleared or both (R161): a single read-modify-write. -/
def State.landPair (s : State) (id pair : Nat) : State :=
  match s.tableJob id with
  | none => s
  | some j =>
    let p := s.pair pair
    let a := faultAddr 4 (pair % 1024) (pair / 1024)
    let t := if j.clear then ((s.putPair pair (0, 0, false)).wordWritten a).modWriteTag (tagKey 2 (pair % 1024) (pair / 1024)) (· + 1)
      else s
    let read := j.opcode == 0x0410
    t.jobStep id fun j => { j with
      nums := if read then j.nums ++ [(pair, p.1, p.2.1)] else j.nums
      poisonAt := if read && p.2.2 && j.poisonAt.isNone then some a else j.poisonAt }

/-! ## Scrubbing (R186) -/

/-- Permanence instance and array class of a table store (R439). -/
def storeClass (store : Nat) : Nat := 4 + store

/-- The comparison of the 8 copies of the next stash slot of a table (R186), in a stash clock; a free value names the copy in
which an error shows (log 2). -/
def State.compareStash (s : State) (table : Nat) (found : EccErr) : State :=
  let k := bankKey 3 table
  let slot := s.scrubPos k % 64
  let copy := (s.freeVal 3).toNat
  let s := if found = .good then s else s.draw
  let s := s.eccRead 4 (copy * 32 + table) (faultAddr 2 (copy * 32 + table) slot) found
  if slot = 63 then (s.putScrubPos k 0).modScrubFrom k (· + clkS s.tables.scrubPeriod) else s.modScrubPos k (· + 1)

/-- A scrub read: the next unit of the bank's round. Where a bucket shows an error, the slot is the environment's: a free
value names it (log 2). -/
def State.scrubAt (s : State) (store bank : Nat) (found : EccErr) : State :=
  let k := bankKey store bank
  let unit := s.scrubPos k % 1024
  let slot := (s.freeVal 2).toNat
  let index := if store = 0 then unit * 4 + slot else unit
  let s := if store = 0 ∧ found ≠ .good then s.draw else s
  let s := s.eccRead (storeClass store) bank (faultAddr (storeCode store) bank index) found
  if unit = 1023 then
    ((s.putScrubPos k 0).modScrubFrom k (· + clkS s.tables.scrubPeriod)).bump .scrubRounds 0
  else s.modScrubPos k (· + 1)

/-! ## TURNSTILE_GRANT -/

/-- The granted access. -/
def State.runMaint (s : State) (r : MaintReq) : State :=
  match r.op with
  | .armRead e u b => s.readArm r.store r.bank e u b
  | .armWrite e st c => s.landArm r.store r.bank e st c
  | .armCounter e p c => s.rmwArm e p c
  | .patinaRead t k => (s.patinaReadAt t r.bank k).passEnd t
  | .patinaClear t k c tag at? => (s.patinaClearAt t r.bank k c tag at?).passEnd t
  | .scrub f => (s.perfCount 0x103 0 1).scrubAt r.store r.bank f
  | .dmaWrite j l k im => s.landDma r.bank j l k im
  | .dmaRead j k =>
    let slots := (List.range 4).map fun i =>
      setFld (s.emSlot (emIndex r.bank k i)).bits 254 254 (b2n (s.emHit (emIndex r.bank k i)))
    let bad := ((List.range 4).find? fun i => (s.emSlot (emIndex r.bank k i)).poison).map fun i =>
      faultAddr 1 r.bank (k * 4 + i)
    s.jobStep j fun x => { x with acc := x.acc ++ [(k, slots)], poisonAt := if x.poisonAt.isNone then bad else x.poisonAt }
  | .cmdWrite j k i im => s.landDirect r.bank j k i im
  | .cmdRead j _ => s.jobStep j fun x => x
  | .cmdPair j p => s.landPair j p

/-- A bank whose contents are being copied: its maintenance clocks go to the copy (R426). -/
def State.copying (s : State) (store bank : Nat) : Bool :=
  s.faults.spareJobs.any fun j => j.store == store && j.bank == bank && j.switchAt.isNone

/-- The Turnstile's choice and the access it grants (R165, R166). -/
def State.grant (s : State) (store bank : Nat) : State :=
  let heads := s.heads store bank
  match s.winner heads with
  | none => s
  | some w => (((s.draw.passOver store bank w heads).starve store bank).bump .turnstileGrants w.cls).runMaint w

/-- TURNSTILE_GRANT (R165): one maintenance cycle of one bank. `writeBack` says that the cycle is ECC write-back's. -/
def execTurnstileGrant (store bank : Nat) (writeBack : Bool) (s : State) : Host.Outcome State Fault Refusal :=
  onUnit (decide (bank < numBanks store)) bank
    (if !s.maintClock || s.grantedAt (bankKey store bank) == some s.now then s
     else
       match s.backFor store bank with
       | some a => if writeBack then (s.writeBack a).putGrantedAt (bankKey store bank) (some s.now) else s
       | none => if writeBack || s.copying store bank then s else s.grant store bank)

/-! ## STASH_WRITE (R175) -/

/-- The next write of a stash: one made ahead after a commit, else in arrival order (R175, R383). -/
def State.nextStash (s : State) (table : Nat) : Option StashWrite :=
  match s.tables.stashWrites.find? fun w => w.table == table && w.ahead with
  | some w => some w
  | none => s.tables.stashWrites.find? fun w => w.table == table

/-- A stash compare-and-clear: candidates whose hit bit is set again stay (R169, R179). -/
def State.stashPatina (s : State) (table : Nat) (cands : List Nat) : State :=
  let w := if (s.table table).rcd.width = 2 then 2 else 1
  let die := cands.filter fun k => agedSlot table (s.stashSlot (table * 64 + k)).bits && !s.stashHitAny (table * 64 + k)
  die.foldl (fun t k =>
    let t := (List.range w).foldl (fun t j => t.landStash s table (k + j) 0 .clear) t
    t.aged table (s.stashSlot (table * 64 + k)).bits (s.stashSlot (table * 64 + k + 1)).bits w) s

/-- The hit bit of an entry that leaves the stash goes to the copy that remains in a bank (R170). -/
def State.mergeStash (s base : State) (table k : Nat) (new : BitVec 256) : State :=
  let i := table * 64 + k
  let old := (base.stashSlot i).bits
  if slotValid new || !slotValid old || slotHalf old || !base.stashHitAny i then s
  else
    let key := slotsKey (base.table table).rcd.width old (base.stashSlot (i + 1)).bits
    match (base.places table key).find? fun l => match l with | .em n => (base.emSlot n).bits == old | .stash _ => false with
    | some (.em n) => s.putEmHit n true
    | _ => s

def State.landStashOp (s : State) (w : StashWrite) : State :=
  match w.op with
  | .arm e ws c =>
    (ws.foldl (fun t x => (t.landStash s w.table x.1 x.2.1 x.2.2).mergeStash s w.table x.1 x.2.1) s).memDone e false c
  | .patina cands => (s.stashPatina w.table cands).passEnd w.table

/-- STASH_WRITE (R175): one write of the stash in a maintenance clock. -/
def execStashWrite (table : Nat) (s : State) : Host.Outcome State Fault Refusal :=
  onUnit (decide (table < 32)) table
    (if s.maintClock && s.stashAt table != some s.now then
       match s.nextStash table with
       | none => s
       | some w =>
         ({ s with tables := { s.tables with stashWrites := s.tables.stashWrites.erase w
                                             stashAt := s.tables.stashAt.set none table (some s.now) } }.landStashOp w).stashLevel table
     else s)

end Sys2Proof.Machine
end

