-- ==== Sys2Proof/Machine/Upkeep.lean ====
section
/-! DEFINITION. The periods of table upkeep, learning service, patrol scrubbing, region locks and table DMA (R175 to
R189, spec/07_table_upkeep.md). -/

namespace Sys2Proof.Machine

/-! ## Periods -/

/-- Epochs between stash reinsertions of a table (R175). -/
def reinsertPeriod : Nat := 1024

/-- STASH_REINSERT_PERIOD (R175): one reinsertion routine queued for a table whose stash is not empty. -/
def execStashReinsertPeriod (table : Nat) (s : State) : Host.Outcome State Fault Refusal :=
  onUnit (decide (table < 32)) table
    (if 0 < s.stashUsed table ∧ (s.table table).reinsertAt + reinsertPeriod ≤ s.clock.epoch then
       (s.modTable table fun d => { d with reinsertAt := s.clock.epoch }).placeJob (.reinsert table) none
     else s)

/-- AGE_PERIOD of a table in epochs (R178). -/
def TableDef.agePeriod (d : TableDef) : Nat := 2 ^ d.upkeep.ageExp

/-- A Patina pass of the table is due in this tick, and has not been seen to yet. -/
def State.passDue (s : State) (table : Nat) : Bool :=
  let d := s.table table
  d.valid && d.rcd.ageEn == 1 && s.clock.running && s.clock.tick == 0 && d.passAt != some s.clock.epoch
    && (s.clock.epoch - d.ageFrom) % d.agePeriod == 0

/-- PATINA_PASS_START (R178): a pass that finds its predecessor running waits for it, and PATINA_LATE is raised. -/
def execPatinaPassStart (table : Nat) (s : State) : Host.Outcome State Fault Refusal :=
  onUnit (decide (table < 32)) table
    (if s.passDue table then
       let t := s.modTable table fun d => { d with passAt := some s.clock.epoch }
       if t.patinaBusy table then
         if (t.table table).passLate then t
         else (t.modTable table fun d => { d with passLate := true }).note srcPatinaLate table 0
       else t.startPass table
     else s)

/-! ## Learning service (R177) -/

/-- Learn requests of a table taken in the present epoch. -/
def State.takenNow (s : State) (table : Nat) : Nat :=
  let p := s.learnTaken table
  if p.1 = s.clock.epoch then p.2 else 0

/-- One queued request: taken where its table has some of LEARN_RATE left in the epoch. -/
def State.serveLearn (s : State) (r : LearnReq) : State :=
  let n := s.takenNow r.table
  if n < (s.table r.table).upkeep.learnRate then
    ({ s with tables := { s.tables with learnQ := s.tables.learnQ.erase r
                                        learnTaken := s.tables.learnTaken.set (0, 0) r.table (s.clock.epoch, n + 1) } }).placeJob
      (.learn r) none
  else s

/-- LEARN_SERVICE (R177): the queue is taken oldest first. -/
def execLearnService (s : State) : Host.Outcome State Fault Refusal :=
  .next (if s.clock.running && !s.armFenced then s.tables.learnQ.foldl (fun t r => t.serveLearn r) s else s)

/-! ## Patrol scrubbing (R186) -/

def State.scrubClocks (s : State) : Nat := clkS s.tables.scrubPeriod

/-- A scrub read of the bank waits for its grant. -/
def State.scrubWaits (s : State) (store bank : Nat) : Bool :=
  (s.waitingAt store bank).any fun r => match r.op with | .scrub _ => true | _ => false

/-- SCRUB_LATE once for a round that has not ended when the next is due; INSTANCE is the bank (log 13). -/
def State.scrubLate (s : State) (store bank : Nat) : State :=
  let k := bankKey store bank
  if s.clock.running ∧ s.scrubPos k < 1024 ∧ s.tables.scrubBase + s.scrubFrom k + s.scrubClocks ≤ s.now then
    (s.modScrubPos k (· + 1024)).note srcScrubLate bank 0
  else s

/-- SCRUB_READ (R186): the next unit of a bank's round, at its even spacing. The read waits for its maintenance cycle. Store 3
stands for the stashes: the 8 copies of the next slot of table `bank`'s stash are compared (log 44). -/
def execScrubRead (store bank : Nat) (found : EccErr) (s : State) : Host.Outcome State Fault Refusal :=
  onUnit (decide (bank < numBanks store) || (store == 3 && decide (bank < 32))) bank
    (let k := bankKey store bank
     if store = 3 then
       if s.maintClock && decide (s.tables.scrubBase + s.scrubFrom k + s.scrubPos k * s.scrubClocks / 64 ≤ s.now) then
         s.compareStash bank found
       else s
     else
     let s := s.scrubLate store bank
     if s.clock.running && !s.scrubWaits store bank &&
         decide (s.tables.scrubBase + s.scrubFrom k + s.scrubPos k % 1024 * s.scrubClocks / 1024 ≤ s.now) then
       s.request store bank 5 (.scrub found)
     else s)

/-- SCRUB_SET (R186): a shorter period can leave rounds late at once. -/
def cmdScrubSet (period : Nat) : Cmd :=
  .set 0x041A period fun _ s =>
    Rule.need (decide (1 ≤ period) && decide (period ≤ 3600)) .param <|
    let t := { s with tables := { s.tables with scrubPeriod := period } }
    .ok ((List.range 3).foldl (fun t st => (List.range (numBanks st)).foldl (fun t b => t.scrubLate st b) t) t)

/-! ## Region locks (R182, R183) -/

/-- The regions of two locks share a bucket. -/
def Lock.overlaps (a b : Lock) : Bool :=
  decide (a.firstBank < b.firstBank + b.bankCount) && decide (b.firstBank < a.firstBank + a.bankCount)
    && decide (a.firstBucket < b.firstBucket + b.bucketCount) && decide (b.firstBucket < a.firstBucket + a.bucketCount)

/-- The command comes from the lock's owner. -/
def Lock.ownedBy (l : Lock) (h : Hdr) : Bool :=
  match h.origin with
  | .host r f _ => l.ring == r && l.func == f
  | _ => false

/-- A lock is released: TABLE_DMA_WRITE commands that name it stop where they are (R184). -/
def State.freeLock (s : State) (n : Nat) : State :=
  let jobs := s.tables.jobs.filter fun j => j.opcode == 0x0417 && j.table == n
  jobs.foldl (fun t j =>
    (t.endJob j.id).reply j.hdr j.opcode stLocked 0 (BitVec.ofNat 64 j.done)
      (faultAddr 1 j.bank ((j.first + j.done) * 4)) []) (s.putLock n Lock.init)

/-- Releases that take effect at a tick boundary (R183). -/
def State.endLocks (s : State) : State :=
  (List.range 16).foldl (fun t n =>
    let l := s.lock n
    if l.ending = 0 then t
    else if l.ending = 1 then t.freeLock n
    else (t.freeLock n).note srcLockOwnerLost n 0) s

/-- The owner of a lock is lost: its function, or its ring where one is named (R183). -/
def State.loseOwner (s : State) (func : Option Nat) (ring : Option Nat) : State :=
  (List.range 16).foldl (fun t n =>
    let l := t.lock n
    let hit := (match func with | some f => l.func == f | none => true)
      && (match ring with | some r => l.ring == r | none => true)
    if l.valid && hit && l.ending != 2 then t.putLock n { l with ending := 2 } else t) s

/-- LOCK_EXPIRED (R183): the boundary that starts LEASE_END has come. -/
def execLockExpired (lock : Nat) (s : State) : Host.Outcome State Fault Refusal :=
  onUnit (decide (lock < 16)) lock
    (if (s.lock lock).valid ∧ (s.lock lock).leaseEnd ≤ s.clock.epoch then (s.freeLock lock).note srcLockExpired lock 0
     else s)

/-- A lease of 0 selects the default (R183). -/
def leaseOf (lease : Nat) : Nat := if lease = 0 then 2 ^ 20 else lease
def leaseOk (lease : Nat) : Bool := lease == 0 || (decide (1024 ≤ lease) && decide (lease < 2 ^ 32))

/-- Lock commands come from a host ring only (R182). -/
def fromHost (h : Hdr) (rest : Rule) : Rule := match h.origin with | .host _ _ _ => rest | _ => .conflict

/-- The first number that a region reaches beyond the store (R182). -/
def regionRange (firstBank bankCount firstBucket bucketCount : Nat) : Option Nat :=
  if 512 ≤ firstBank then some firstBank
  else if 512 < firstBank + bankCount then some 512
  else if 1024 ≤ firstBucket then some firstBucket
  else if 1024 < firstBucket + bucketCount then some 1024
  else none

/-- LOCK_ACQUIRE (R182, R183). -/
def cmdLockAcquire (firstBank bankCount firstBucket bucketCount lease : Nat) : Cmd :=
  .set 0x0413 (firstBank, bankCount, firstBucket, bucketCount, lease) fun h s =>
    needRange (regionRange firstBank bankCount firstBucket bucketCount) <|
    Rule.need (decide (0 < bankCount) && decide (0 < bucketCount) && leaseOk lease) .param <|
    fromHost h <|
    let ring := match h.origin with | .host r _ _ => r | _ => 0
    let l : Lock := { valid := true, func := hdrFunc h, ring := ring, firstBank := firstBank, bankCount := bankCount
                      firstBucket := firstBucket, bucketCount := bucketCount
                      leaseEnd := s.clock.epoch + leaseOf lease, ending := 0 }
    Rule.need (!((List.range 16).any fun n => (s.lock n).valid && (s.lock n).overlaps l)) .lockedR <|
    match (List.range 16).find? fun n => !(s.lock n).valid with
    | none => .full
    | some n => .reply (s.putLock n l) [n, l.leaseEnd]

/-- The rules that LOCK_RENEW and LOCK_RELEASE share (R183). -/
def State.lockRule (s : State) (h : Hdr) (lock : Nat) (rest : Lock → Rule) : Rule :=
  fromHost h <|
  Rule.need ((s.lock lock).valid && (s.lock lock).ending == 0) .missing <|
  Rule.need ((s.lock lock).ownedBy h) .lockedR <|
  rest (s.lock lock)

/-- LOCK_RENEW (R183). -/
def cmdLockRenew (lock lease : Nat) : Cmd :=
  .set 0x0414 (lock, lease) fun h s =>
    Rule.need (decide (lock < 16)) (.access lock) <|
    Rule.need (leaseOk lease) .param <|
    s.lockRule h lock fun l =>
      let e := s.clock.epoch + leaseOf lease
      .val (s.putLock lock { l with leaseEnd := e }) e

/-- LOCK_RELEASE (R183): it takes effect at the next tick boundary. -/
def cmdLockRelease (lock : Nat) : Cmd :=
  .set 0x0415 lock fun h s =>
    Rule.need (decide (lock < 16)) (.access lock) <|
    s.lockRule h lock fun l => .ok (s.putLock lock { l with ending := 1 })

/-- TableLock[n] (R185). -/
def Lock.word (l : Lock) : BitVec 64 :=
  if l.valid then
    BitVec.ofNat 64 (1 <<< 63 ||| l.func <<< 60 ||| l.ring <<< 56 ||| l.firstBank <<< 47 ||| l.bankCount <<< 37
      ||| l.firstBucket <<< 27 ||| l.bucketCount <<< 16)
  else 0

/-- LOCK_STATUS_GET (R189). -/
def cmdLockStatusGet (lock : Nat) : Cmd :=
  .get 0x0416 lock fun _ s =>
    Rule.need (decide (lock < 16)) (.access lock) <|
    .reply s [(s.lock lock).word.toNat, (s.lock lock).leaseEnd]

/-! ## Table commands in maintenance cycles -/

/-- A table command begun: its accesses are requested in order. -/
def State.startJob (s : State) (j : TableJob) (l : List (Nat × Nat × MaintOp)) (cls : Nat) : State :=
  let t := { s with tables := { s.tables with jobs := s.tables.jobs ++ [{ j with left := l.length }] } }
  let t := { t with tables := { t.tables with jobNext := t.tables.jobNext + 1 } }
  l.foldl (fun t r => t.request r.1 r.2.1 cls r.2.2) t

/-- The record of a new table command. -/
def State.newJob (s : State) (h : Hdr) (op table bank first : Nat) (q : Query) : TableJob :=
  { id := s.tables.jobNext, hdr := h, opcode := op, table := table, bank := bank, first := first, left := 0, done := 0
    clear := false, query := q, acc := [], nums := [], poisonAt := none }

/-- Bank and buckets of a DMA lie in the store (R189). -/
def dmaRange (bank firstBucket count : Nat) : Option Nat :=
  if 512 ≤ bank then some bank
  else if 1024 ≤ firstBucket then some firstBucket
  else if 1024 < firstBucket + count then some 1024
  else none

/-- TABLE_DMA_WRITE (R184); the images are what the device fetches from the host address. -/
def cmdTableDmaWrite (lock bank firstBucket count : Nat) (images : List (List (BitVec 256))) : Cmd :=
  .set 0x0417 (lock, bank, firstBucket, count) fun h s =>
    Rule.need (decide (lock < 16)) (.access lock) <|
    needRange (dmaRange bank firstBucket count) <|
    Rule.need (decide (1 ≤ count) && decide (count ≤ 1024)) .param <|
    s.lockRule h lock fun _ =>
      let j := s.newJob h 0x0417 lock bank firstBucket .none
      .held (s.startJob j ((List.range count).map fun i =>
        (0, bank, .dmaWrite j.id lock (firstBucket + i) ((images[i]?).getD []))) 6) 0

/-- TABLE_DMA_READ (R184). -/
def cmdTableDmaRead (bank firstBucket count hostAddr : Nat) : Cmd :=
  .set 0x0418 (bank, firstBucket, count, hostAddr) fun h s =>
    needRange (dmaRange bank firstBucket count) <|
    Rule.need (decide (1 ≤ count) && decide (count ≤ 1024)) .param <|
    let j := s.newJob h 0x0418 0 bank firstBucket .none
    .held (s.startJob j ((List.range count).map fun i => (0, bank, .dmaRead j.id (firstBucket + i))) 6) 0

/-! ## Settings and statistics (R181, R187) -/

/-- The fields that a mask writes (bit i is the i-th field of R181; log 21). -/
def UpkeepRec_merge (old new : UpkeepRec) (f : BitVec 8) : UpkeepRec :=
  { maxDepth := if bit f 0 then new.maxDepth else old.maxDepth
    ageExp := if bit f 1 then new.ageExp else old.ageExp
    learnRate := if bit f 2 then new.learnRate else old.learnRate
    learnMove := if bit f 3 then new.learnMove else old.learnMove
    learnTemplate := if bit f 4 then dataClean new.learnTemplate else old.learnTemplate
    notice := if bit f 5 then new.notice else old.notice
    noticeQueue := if bit f 6 then new.noticeQueue else old.noticeQueue }

/-- Every field of the record lies in its range (R181). -/
def upkeepOk (r : UpkeepRec) : Bool :=
  decide (r.maxDepth ≤ 4) && decide (12 ≤ r.ageExp) && decide (r.ageExp ≤ 32) && decide (1 ≤ r.learnRate)
    && decide (r.learnRate ≤ 4096) && decide (r.learnMove ≤ 1) && decide (r.notice ≤ 1) && decide (r.noticeQueue ≤ 255)

/-- TABLE_UPKEEP_SET (R181): only the fields written are checked. -/
def cmdTableUpkeepSet (table : Nat) (r : UpkeepRec) (fields : BitVec 8) : Cmd :=
  .mirrored 0x0419 (.tableUpkeepSet table r fields) fun _ s =>
    Rule.need (decide (table < 32)) (.access table) <|
    Rule.need (upkeepOk (UpkeepRec_merge UpkeepRec.init r fields)) .param <|
    Rule.need (s.table table).valid .missing <|
    .at [objTable table] s [.upkeep table r fields]

def State.applyUpkeep (s : State) (table : Nat) (r : UpkeepRec) (fields : BitVec 8) : State :=
  s.modTable table fun d => { d with upkeep := UpkeepRec_merge d.upkeep r fields }

/-- UPKEEP_STATS_GET (R187): kind 0 a table, 1 a bank (sub its store), 2 a Turnstile class, 3 the device (log 22). -/
def upkeepStatsRule (sel : StatsSel) (clear : Bool) (s : State) : Rule :=
  match sel.kind with
  | 0 =>
    Rule.need (decide (sel.index < 32)) (.access sel.index) <|
    statsRule s ([Ctr.emInserts, .emRelocations, .emStashInserts, .emStashReinserted, .emInsertNoSpace, .emDupRemoved
      , .learnMerged, .learnInserted, .learnMoved, .learnDup, .learnLockedSkip, .patinaAged, .patinaLockedSkip
      , .noticeDrop].map fun c => (c, sel.index)) [] clear
  | 1 =>
    Rule.need (decide (sel.sub < 3)) .param <|
    Rule.need (decide (sel.index < numBanks sel.sub)) (.access sel.index) <|
    statsRule s [(.upkeepWriteRefused, bankKey sel.sub sel.index)] [] clear
  | 2 =>
    Rule.need (decide (sel.index < 8)) (.access sel.index) <|
    statsRule s [(.turnstileGrants, sel.index), (.turnstileStarve, sel.index)] [] clear
  | 3 => statsRule s [(.learnQueueDrop, 0), (.scrubRounds, 0)] [] clear
  | _ => .param

def cmdUpkeepStatsGet (sel : StatsSel) (clear : Bool) : Cmd :=
  .stats 0x041B clear sel fun _ s => upkeepStatsRule sel clear s

end Sys2Proof.Machine
end

