-- ==== Sys2Proof/Machine/TableCmds.lean ====
section
/-! DEFINITION. The table and lookup commands (R140 to R163, spec/06_table_store.md), and the routines that a discard or a
settling queues for table entries (R130, R131, spec/05_parser_rules.md). -/

namespace Sys2Proof.Machine

/-! ## Logical tables (R140, R141, R148) -/

/-- Every change accepted or staged and not yet in force: those due, the parts of the open group, and those of transactions
between the twins. -/
def State.stagedChanges (s : State) : List Change :=
  (s.changes.map (·.change)) ++ ((s.group.map fun g => g.parts.flatMap (·.changes)).getD [])
    ++ (s.prepared.flatMap (·.changes)) ++ s.txns.flatMap (·.changes)

/-- The record of a table that exists, or whose creation is accepted or staged and not yet in force. -/
def State.tableView (s : State) (t : Nat) : Option TableRec :=
  if (s.table t).valid then some (s.table t).rcd
  else s.stagedChanges.findSome? fun c => match c with
    | .tableCreate t' r => if t' = t then some r else none
    | _ => none

def isPow2 (n : Nat) : Bool := (List.range 10).any fun k => n == 2 ^ k

/-- The values of a record of R140. -/
def tableRecOk (r : TableRec) : Bool :=
  decide (r.kind ≤ 1) && decide (1 ≤ r.width) && decide (r.width ≤ 2) && (r.kind == 0 || r.width == 1)
    && isPow2 r.bankCount && (r.kind == 1 || decide (2 ≤ r.bankCount)) && decide (r.baseBank ≤ 511)
    && r.baseBank % r.bankCount == 0 && decide (r.versioned ≤ 1) && decide (r.learnEn ≤ 1) && decide (r.ageEn ≤ 1)
    && decide (r.seedSet ≤ 1) && (r.versioned == 0 || (r.learnEn == 0 && r.ageEn == 0))

def rangesMeet (a b : TableRec) : Bool :=
  decide (a.baseBank < b.baseBank + b.bankCount) && decide (b.baseBank < a.baseBank + a.bankCount)

/-- The range of a DIRECT table overlaps no other (R141). -/
def State.rangeFree (s : State) (r : TableRec) : Bool :=
  !((List.range 32).any fun t => match s.tableView t with
    | some o => (r.kind == 1 || o.kind == 1) && rangesMeet r o
    | none => false)

/-- The seeds that a table gets: the command's, or two that the device draws (R148; free values, log 2). -/
def State.withSeeds (s : State) (r : TableRec) : State × TableRec :=
  if r.seedSet = 1 then (s, r)
  else (s.draw.draw, { r with seed0 := s.freeVal 128, seed1 := s.draw.freeVal 128 })

/-- TABLE_CREATE (R140, R141). -/
def cmdTableCreate (table : Nat) (r : TableRec) : Cmd :=
  .mirrored 0x0401 (.tableCreate table r) fun _ s =>
    Rule.need (decide (table < 32)) (.access table) <|
    Rule.need (tableRecOk r) .param <|
    Rule.need (s.tableView table).isNone .conflict <|
    Rule.need (s.rangeFree r) .conflict <|
    let p := s.withSeeds r
    .at [objTable table] p.1 [.tableCreate table p.2]

/-- A table comes into being at its boundary; its ageing is counted from there (R178). -/
def State.applyTableCreate (s : State) (table : Nat) (r : TableRec) : State :=
  s.putTable table { TableDef.init with valid := true, rcd := r, ageFrom := s.clock.epoch }

/-- First halves of the entries of a table in the banks, and in its stash. -/
def State.entriesOf (s : State) (table : Nat) : List Nat :=
  (s.tables.em.filter fun (e : Nat × EmSlot) =>
    slotValid e.2.bits && slotTable e.2.bits == table
      && (!slotHalf e.2.bits || (s.table table).rcd.kind == 1)).map (·.1)
def State.stashOfTable (s : State) (table : Nat) : List Nat :=
  (s.tables.stash.filter fun (e : Nat × EmSlot) =>
    slotValid e.2.bits && slotTable e.2.bits == table && !slotHalf e.2.bits).map (·.1)

def State.holdsEntry (s : State) (table : Nat) : Bool := !(s.entriesOf table).isEmpty || !(s.stashOfTable table).isEmpty

def EmProf_names (r : EmProf) (table : Nat) : Bool := r.lookups.any fun l => l.valid && l.table == table

/-- A profile set in force or staged names the table, or it is the next-hop table, or is to become it (R141). -/
def State.tableNamed (s : State) (table : Nat) : Bool :=
  ((List.range 32).any fun k => EmProf_names (s.emProfile k) table) || s.tables.nextHop == some table
    || s.stagedChanges.any fun c => match c with
      | .emProfile _ r => EmProf_names r table
      | .nextHop t => t == some table
      | _ => false

/-- TABLE_DELETE (R141). -/
def cmdTableDelete (table : Nat) : Cmd :=
  .mirrored 0x0402 (.tableDelete table) fun _ s =>
    Rule.need (decide (table < 32)) (.access table) <|
    Rule.need (s.table table).valid .missing <|
    Rule.need (!s.holdsEntry table && !s.tableNamed table) .conflict <|
    .at [objTable table] s [.tableDelete table]

/-- A table ends at its boundary, with the learn requests that name it. -/
def State.applyTableDelete (s : State) (table : Nat) : State :=
  let s := s.putTable table TableDef.init
  { s with tables := { s.tables with learnQ := s.tables.learnQ.filter fun r => r.table != table } }

/-- TABLE_STATUS_GET (R163): the record without seeds, entries held, stash entries held. -/
def cmdTableStatusGet (table : Nat) : Cmd :=
  .get 0x0403 table fun _ s =>
    Rule.need (decide (table < 32)) (.access table) <|
    Rule.need (s.table table).valid .missing <|
    let r := (s.table table).rcd
    .reply s [table, r.kind, r.width, r.baseBank, r.bankCount, r.versioned, r.learnEn, r.ageEn, r.seedSet
      , (s.entriesOf table).length, (s.stashOfTable table).length]

/-- TABLE_SEED_SET (R148). -/
def cmdTableSeedSet (table : Nat) (seed0 seed1 : BitVec 128) : Cmd :=
  .set 0x0404 (table, seed0, seed1) fun _ s =>
    Rule.need (decide (table < 32)) (.access table) <|
    Rule.need (s.table table).valid .missing <|
    Rule.need (!s.holdsEntry table) .conflict <|
    .ok (s.modTable table fun d => { d with rcd := { d.rcd with seed0 := seed0, seed1 := seed1 } })

/-- LPM_SEED_SET (R148). -/
def cmdLpmSeedSet (seed : BitVec 128) : Cmd :=
  .set 0x040C seed fun _ s =>
    Rule.need (!(s.rules.prefixes.any fun (e : Nat × ObjSlot) => e.2.valid)) .conflict <|
    .ok { s with tables := { s.tables with lpmSeed := seed } }

/-! ## Entries (R163, R171, R174) -/

/-- FWD_OP 5 to 7 are refused (R155). -/
def dataOk (d : BitVec 80) : Bool := decide (fld d 79 77 ≤ 4)

/-- A key of the table's width (R140). -/
def keyFits (width : Nat) (key : BitVec 320) : Bool := width == 2 || decide (key.toNat < 2 ^ 128)

/-- The checks that commands naming a key of a HASH table share. -/
def State.hashTable (s : State) (table : Nat) (key : BitVec 320) (rest : Rule) : Rule :=
  Rule.need (decide (table < 32)) (.access table) <|
  Rule.need (s.table table).valid .missing <|
  Rule.need ((s.table table).rcd.kind == 0 && keyFits (s.table table).rcd.width key) .param rest

/-- EM_ENTRY_ADD (R171, R174): run by an Armature routine; in a VERSIONED table it stages an add. -/
def cmdEmEntryAdd (table : Nat) (key : BitVec 320) (data : BitVec 80) (static : Bool) : Cmd :=
  (Cmd.mirrored 0x0405 (.emEntryAdd table key data static) fun h s =>
    s.hashTable table key <|
    Rule.need (dataOk data) .param <|
    if (s.table table).rcd.versioned = 1 then
      s.inMaquette fun v =>
        Rule.need s.opFits .full <|
        .held (s.countOp.placeJob (.insert table key (dataClean data) static (some v)) (some (h, 0x0405))) 0
    else .held (s.placeJob (.insert table key (dataClean data) static none) (some (h, 0x0405))) 0).fence State.armFenced

/-- EM_ENTRY_DELETE (R174). -/
def cmdEmEntryDelete (table : Nat) (key : BitVec 320) : Cmd :=
  (Cmd.mirrored 0x0406 (.emEntryDelete table key) fun h s =>
    s.hashTable table key <|
    if (s.table table).rcd.versioned = 1 then
      s.inMaquette fun v =>
        Rule.need s.opFits .full <|
        .held (s.countOp.placeJob (.delete table key (some v)) (some (h, 0x0406))) 0
    else .held (s.placeJob (.delete table key none) (some (h, 0x0406))) 0).fence State.armFenced

/-- A table address of R160 lies in the exact-match banks or in a stash. -/
def emAddrOk (a : BitVec 64) : Bool :=
  if fld a 63 60 = 1 then decide (fld a 47 32 < 512) && decide (fld a 31 0 < 4096)
  else fld a 63 60 == 2 && decide (fld a 47 32 < 256) && decide (fld a 31 0 < 64)

/-- The slot of EM_ENTRY_READ at a stash address (R160, R163). -/
def State.readStash (s : State) (table : Nat) (addr : BitVec 64) : Rule :=
  let l : Loc := .stash (stashOf addr)
  let w := (s.table table).rcd.width
  if s.placePoisoned w l then .poisoned (l.addrIn (fld addr 47 32 / 32))
  else
    Rule.need (slotValid (s.slotAt l).bits && !slotHalf (s.slotAt l).bits && slotTable (s.slotAt l).bits == table) .missing <|
    .reply s (s.readSlots w l)

/-- EM_ENTRY_READ (R163): by key both buckets are read in maintenance cycles, by address the one bucket; a stash takes
no bank cycle. -/
def cmdEmEntryRead (table : Nat) (key : Option (BitVec 320)) (addr : BitVec 64) : Cmd :=
  .get 0x0407 (table, key, addr) fun h s =>
    match key with
    | some k =>
      s.hashTable table k <|
      let b := s.buckets table k
      let j := s.newJob h 0x0407 table 0 0 (.key k)
      .held (s.startJob j [(0, b.1.1, .cmdRead j.id b.1.2), (0, b.2.1, .cmdRead j.id b.2.2)] 7) 64
    | none =>
      Rule.need (decide (table < 32)) (.access table) <|
      Rule.need (emAddrOk addr) (.access addr.toNat) <|
      Rule.need (s.table table).valid .missing <|
      let i := fld addr 47 32 * 4096 + fld addr 31 0
      if fld addr 63 60 = 1 then
        let j := s.newJob h 0x0407 table (fld addr 47 32) 0 (.place i)
        .held (s.startJob j [(0, fld addr 47 32, .cmdRead j.id (fld addr 31 0 / 4))] 7) 64
      else s.readStash table addr

/-- DIRECT_WRITE (R145, R149, R163). -/
def cmdDirectWrite (table index : Nat) (slot : BitVec 256) : Cmd :=
  .mirrored 0x0408 (.directWrite table index slot) fun h s =>
    Rule.need (decide (table < 32)) (.access table) <|
    Rule.need (!(s.table table).valid || decide (index < (s.table table).rcd.bankCount * 4096)) (.access index) <|
    Rule.need (dataOk (slotData slot) && (!(s.table table).valid || (s.table table).rcd.kind == 1)) .param <|
    Rule.need (s.table table).valid .missing <|
    let r := (s.table table).rcd
    let i := index / r.bankCount
    let bank := r.baseBank + index % r.bankCount
    let image := slotClean slot
    let j := s.newJob h 0x0408 table bank (i / 4) .none
    let go := fun (t : State) => Rule.held (t.startJob j [(0, bank, .cmdWrite j.id (i / 4) (i % 4) image)] 7) 0
    if r.versioned = 1 then s.inMaquette fun _ => Rule.need s.opFits .full <| go s.countOp
    else go s

/-! ## LPM prefixes (R151, R152) -/

/-- Family, VRF, length and address lie in their ranges, no bit beyond LENGTH set (R152). -/
def prefixOk (family vrf length : Nat) (addr : BitVec 128) : Bool :=
  let w := if family = 0 then 32 else 128
  decide (family ≤ 1) && decide (vrf ≤ 4095) && decide (length ≤ w) && decide (addr.toNat < 2 ^ w)
    && addr.toNat % 2 ^ (w - length) == 0

/-- Result bits [15:11] and [6:0] are reserved (R155). -/
def resultClean (r : BitVec 64) : BitVec 64 := setFld (setFld r 15 11 0) 6 0 0

/-- The lowest free prefix slot. -/
def State.freePrefixSlot (s : State) : Nat :=
  ((List.range (s.rules.prefixes.length + 1)).find? fun n => !(s.prefixAt n).valid).getD 0

/-- PREFIX_ADD (R151, R152): the units are held from staging. -/
def cmdPrefixAdd (family vrf length : Nat) (addr : BitVec 128) (result : BitVec 64) : Cmd :=
  (Cmd.mirrored 0x0409 (.prefixAdd family vrf length addr result) fun _ s =>
    Rule.need (prefixOk family vrf length addr && decide (fld result 63 61 ≤ 4)) .param <|
    s.inMaquette fun v =>
      Rule.need (s.prefixFor family vrf length addr v).isNone .conflict <|
      let u := if family = 0 then 1 else 2
      Rule.need (decide (s.rules.lpmUnits + u ≤ 2097152) && s.opFits) .full <|
      let n := s.freePrefixSlot
      let o : ObjSlot := { valid := true, id := 0, stamp := { Stamp.init with birth := v, birthSet := true }
                           val := .lpmPrefix family vrf length addr (resultClean result) }
      let t := { s.putPrefixAt n o with rules.lpmUnits := s.rules.lpmUnits + u }
      .ok (t.countOp.placeJob (.prefixStage n) none)).fence State.armFenced

/-- PREFIX_DELETE (R127, R152). -/
def cmdPrefixDelete (family vrf length : Nat) (addr : BitVec 128) : Cmd :=
  (Cmd.mirrored 0x040A (.prefixDelete family vrf length addr) fun _ s =>
    Rule.need (prefixOk family vrf length addr) .param <|
    s.inMaquette fun v =>
      match s.prefixFor family vrf length addr v with
      | none => .missing
      | some e =>
        Rule.need s.opFits .full <|
        if e.2.addedIn v then .ok (s.freePrefix e.1).countOp
        else
          let t := s.putPrefixAt e.1 { e.2 with stamp := { e.2.stamp with death := v, deathSet := true } }
          .ok (t.countOp.placeJob (.prefixStage e.1) none)).fence State.armFenced

/-- PREFIX_READ (R163): the words of the path are read in maintenance cycles. -/
def cmdPrefixRead (family vrf length : Nat) (addr : BitVec 128) (version : Nat) : Cmd :=
  .get 0x040B (family, vrf, length, addr, version) fun h s =>
    Rule.need (prefixOk family vrf length addr && decide (version ≤ 65535)) .param <|
    let v := if version = 0 then s.rules.current else BitVec.ofNat 16 version
    let j := s.newJob h 0x040B 0 0 0 (.prefixRead family vrf length addr v)
    let path := s.lpmPath family vrf addr
    let reads := if path.isEmpty then [(0, 0, 0)] else path
    .held (s.startJob j (reads.map fun (w : Nat × Nat × Nat) => (1, w.1 * 128 + w.2.1, .cmdRead j.id w.2.2)) 7) 40

/-! ## Profile sets (R153, R154, R156, R157) -/

/-- An exact-match lookup of a profile set (R153). -/
def State.emLookupOk (s : State) (l : EmLookup) : Bool :=
  !l.valid || (decide (l.table ≤ 31) && decide (l.trigger ≤ 63) && l.extracts.all extractOk && decide (l.prio ≤ 7)
    && (match s.tableView l.table with
        | some r => l.extracts.length == (if r.width = 2 then 20 else 8)
        | none => l.extracts.length == 8 || l.extracts.length == 20))

/-- EM_PROFILE_SET (R153, R157). -/
def cmdEmProfileSet (prof : Nat) (r : EmProf) : Cmd :=
  .mirrored 0x040D (.emProfileSet prof r) fun _ s =>
    Rule.need (decide (1 ≤ prof) && decide (prof ≤ 31)) (.access prof) <|
    Rule.need (decide (r.lookups.length ≤ 8) && r.lookups.all s.emLookupOk && decide (r.missOp ≤ 2)
      && (r.missOp != 1 || decide (r.missArg ≤ 255)) && decide (r.missArg ≤ 65535)) .param <|
    .at [objSet prof] s [.emProfile prof r]

def State.applyEmProfile (s : State) (prof : Nat) (r : EmProf) : State := s.putEmProfile prof r

/-- An LPM lookup of a profile set (R154). -/
def lpmLookupOk (l : LpmLookup) : Bool :=
  !l.valid || (decide (l.family ≤ 1) && decide (l.vrfConst.getD 0 ≤ 4095) && (l.vrfConst.isSome || extractOk l.vrfExtract)
    && decide (l.hdr ≤ 63) && decide (l.inst ≤ 3) && decide (l.offset ≤ 63) && decide (l.trigger ≤ 63)
    && decide (l.prio ≤ 7))

/-- LPM_PROFILE_SET (R154, R157). -/
def cmdLpmProfileSet (prof : Nat) (r : List LpmLookup) : Cmd :=
  .mirrored 0x040E (.lpmProfileSet prof r) fun _ s =>
    Rule.need (decide (1 ≤ prof) && decide (prof ≤ 15)) (.access prof) <|
    Rule.need (decide (r.length ≤ 2) && r.all lpmLookupOk) .param <|
    .at [objSet (32 + prof)] s [.lpmProfile prof r]

def State.applyLpmProfile (s : State) (prof : Nat) (r : List LpmLookup) : State := s.putLpmProfile prof r

/-- NEXTHOP_TABLE_SET (R156): the table named is a DIRECT table. -/
def cmdNexthopTableSet (table : Option Nat) : Cmd :=
  .mirrored 0x040F (.nexthopTableSet table) fun _ s =>
    needRange (table.bind fun t => if t < 32 then none else some t) <|
    match table with
    | none => .at [objSet 64] s [.nextHop none]
    | some t =>
      match s.tableView t with
      | none => .missing
      | some r => Rule.need (r.kind == 1) .param <| .at [objSet 64] s [.nextHop (some t)]

def State.applyNextHop (s : State) (table : Option Nat) : State :=
  { s with tables := { s.tables with nextHop := table } }

/-! ## Counters (R161, R162) -/

/-- COUNTER_READ and COUNTER_CLEAR: a maintenance read-modify-write for each pair. -/
def State.pairJob (s : State) (h : Hdr) (op first count limit : Nat) (clear : Bool) : Rule :=
  Rule.need (decide (first < 1048576)) (.access first) <|
  Rule.need (decide (first + count ≤ 1048576)) (.access 1048576) <|
  Rule.need (decide (1 ≤ count) && decide (count ≤ limit)) .param <|
  let j := { s.newJob h op 0 0 first .none with clear := clear }
  .held (s.startJob j ((List.range count).map fun i =>
    (2, (first + i) % 1024, .cmdPair j.id (first + i))) 7) (if op = 0x0410 then 16 * count else 0)

def cmdCounterRead (first count : Nat) (clear : Bool) : Cmd :=
  .stats 0x0410 clear (first, count, clear) fun h s => s.pairJob h 0x0410 first count 256 clear

def cmdCounterClear (first count : Nat) : Cmd :=
  .set 0x0411 (first, count) fun h s => s.pairJob h 0x0411 first count 65536 true

/-- LOOKUP_STATS_GET (R139, R162): kind 0 a bank (sub its store), 1 a table, 2 a family, 3 a pipe (log 22). -/
def lookupStatsRule (sel : StatsSel) (clear : Bool) (s : State) : Rule :=
  match sel.kind with
  | 0 =>
    Rule.need (decide (sel.sub < 3)) .param <|
    Rule.need (decide (sel.index < numBanks sel.sub)) (.access sel.index) <|
    let k := bankKey sel.sub sel.index
    statsRule s ([(.lookupCycles, k), (.bankDefer, k), (.bankMergedReads, k)]
      ++ (if sel.sub = 2 then [(.counterPoisonSkip, sel.index)] else [])) [] clear
  | 1 =>
    Rule.need (decide (sel.index < 32)) (.access sel.index) <|
    statsRule s ([Ctr.emHits, .emMisses, .emStashHits, .directRange, .poisonSkipped, .poisonTrap].map
      fun c => (c, sel.index)) [] clear
  | 2 =>
    Rule.need (decide (sel.index < 2)) (.access sel.index) <|
    statsRule s [(.lpmHits, sel.index), (.lpmMisses, sel.index), (.poisonTrap, 32 + sel.index)] [s.rules.lpmUnits] clear
  | 3 =>
    Rule.need (decide (sel.index < 128)) (.access sel.index) <|
    statsRule s (if sel.index < 64 then [(.fwdMiss, sel.index)] else [(.nextHopMiss, sel.index - 64)]) [] clear
  | _ => .param

def cmdLookupStatsGet (sel : StatsSel) (clear : Bool) : Cmd :=
  .stats 0x0412 clear sel fun _ s => lookupStatsRule sel clear s

/-! ## Routines queued by a discard or a settling (R130, R131) -/

/-- Keys of the versioned HASH entries whose stamp `touch` selects, without repeats. -/
def State.touchedKeys (s : State) (touch : Stamp → Bool) : List (Nat × BitVec 320) :=
  let pick := fun (b : BitVec 256) => s.versionedSlot b && !slotHalf b && (s.table (slotTable b)).rcd.kind == 0
    && touch (slotStamp b)
  let key := fun (b odd : BitVec 256) => (slotTable b, slotsKey (s.table (slotTable b)).rcd.width b odd)
  ((s.tables.em.filter fun (e : Nat × EmSlot) => pick e.2.bits).map fun (e : Nat × EmSlot) =>
      key e.2.bits (s.emSlot (e.1 + 1)).bits)
    ++ ((s.tables.stash.filter fun (e : Nat × EmSlot) => pick e.2.bits).map fun (e : Nat × EmSlot) =>
      key e.2.bits (s.stashSlot (e.1 + 1)).bits)

/-- Slots of versioned DIRECT entries whose stamp `touch` selects. -/
def State.touchedSlots (s : State) (touch : Stamp → Bool) : List Nat :=
  (s.tables.em.filter fun (e : Nat × EmSlot) =>
    s.versionedSlot e.2.bits && (s.table (slotTable e.2.bits)).rcd.kind == 1 && touch (slotStamp e.2.bits)).map (·.1)

/-- Prefix slots whose stamp `touch` selects. -/
def State.touchedPrefixes (s : State) (touch : Stamp → Bool) : List Nat :=
  (s.rules.prefixes.filter fun (e : Nat × ObjSlot) => e.2.valid && touch e.2.stamp).map (·.1)

def State.placeAll (s : State) (l : List ArmWork) : State := l.foldl (fun t w => t.placeJob w none) s

/-- Settling of everything that the oldest live version `o` makes moot (R131). -/
def State.settleAll (s : State) (o : BitVec 16) : State :=
  (s.settlePlane o).placeAll
    (((s.touchedKeys (mootBy o)).eraseDups.map fun k => ArmWork.emSettle k.1 k.2 o)
      ++ ((s.touchedSlots (mootBy o)).map fun i => ArmWork.slotSettle i o)
      ++ ((s.touchedPrefixes (mootBy o)).map fun n => ArmWork.prefixSettle n o))

/-- Discard of everything that version `v` staged (R130). -/
def State.discardAll (s : State) (v : BitVec 16) : State :=
  (s.discardPlane v).placeAll
    (((s.touchedKeys (touchedBy v)).eraseDups.map fun k => ArmWork.emDiscard k.1 k.2 v)
      ++ ((s.touchedSlots (touchedBy v)).map fun i => ArmWork.slotDiscard i v)
      ++ ((s.touchedPrefixes (touchedBy v)).map fun n => ArmWork.prefixDiscard n v))

end Sys2Proof.Machine
end

