-- ==== Sys2Proof/Machine/Armature.lean ====
section
/-! DEFINITION. The Armature engines: jobs, microwords, abandonment and restart, patches, and their commands (R374 to R391,
spec/15_armature.md; R171 to R177, spec/07_table_upkeep.md). -/

namespace Sys2Proof.Machine

/-! ## Microwords (R376) -/

abbrev Microword := BitVec 256

def Microword.nextAddr (w : Microword) : Nat := fld w 255 241
def Microword.brMode (w : Microword) : Nat := fld w 240 238
/-- Condition code COND i (0 to 3). -/
def Microword.cond (w : Microword) (i : Nat) : Nat := fld w (237 - 6 * i) (232 - 6 * i)
def Microword.commit (w : Microword) : Bool := bit w 213
def Microword.memOp (w : Microword) : Nat := fld w 212 209
/-- Requests issued together. -/
def Microword.memCount (w : Microword) : Nat := fld w 208 206 + 1
def Microword.memReg (w : Microword) : Nat := fld w 205 200
def Microword.aluOp (w : Microword) : Nat := fld w 199 194
def Microword.srcA (w : Microword) : Nat := fld w 193 188
def Microword.srcB (w : Microword) : Nat := fld w 187 182
def Microword.dest (w : Microword) : Nat := fld w 181 176
def Microword.imm (w : Microword) : BitVec 32 := BitVec.ofNat 32 (fld w 175 144)
def Microword.wide (w : Microword) : BitVec 128 := BitVec.ofNat 128 (fld w 143 16)

/-- The word at a microaddress (R374). -/
def State.microAt (s : State) (a : Nat) : Microword :=
  if a < 0x4000 then s.microword a else if a < 0x4800 then s.patchWord (a - 0x4000) else 0

/-- Trap lookup (R378). -/
def State.trapTo (s : State) (a : Nat) : Nat :=
  match s.arm.traps.find? fun t => t.1 == a with
  | some t => t.2
  | none => a

/-- Register `r` of an engine; the bucket buffers are not registers. -/
def ArmEngine.reg (x : ArmEngine) (r : Nat) : BitVec 64 := x.regs.get 0 r

/-- A register written; registers 0 to 7 are read-only to microcode (R375). -/
def ArmEngine.setReg (x : ArmEngine) (r : Nat) (v : BitVec 64) : ArmEngine :=
  if r < 8 then x else { x with regs := x.regs.set 0 r v }

def ArmEngine.buf (x : ArmEngine) (b : Nat) : ArmBuf := x.bufs.get ArmBuf.init (b % 8)

/-- The key that a job works on. -/
def ArmWork.key (w : ArmWork) : Option (BitVec 320) :=
  match w with
  | .insert _ k _ _ _ => some k
  | .delete _ k _ => some k
  | .learn r => some r.key
  | .emDiscard _ k _ => some k
  | .emSettle _ k _ => some k
  | _ => none

/-- The 64 registers in order. -/
def ArmEngine.allRegs (x : ArmEngine) : List (BitVec 64) := (List.range 64).map x.reg

/-- Slot `k` of a buffer holds, in the job's table, the key in WIDE and registers (R147, R377); how these make up the key the
spec does not say (log 2). -/
def State.bufMatch (s : State) (x : ArmEngine) (w : Microword) (j : ArmJob) (b : ArmBuf) (k : Nat) : Bool :=
  match s.jobTable j.work with
  | some t => slotHolds t (s.table t).rcd.width (Config.matchKey w.wide x.allRegs) ((b.slots[k]?).getD 0) ((b.slots[k + 1]?).getD 0)
  | none => false

def bufFree (b : ArmBuf) (k : Nat) : Bool := !slotValid ((b.slots[k]?).getD 0)

/-- A condition code (R377); those of the job's table are FALSE for a job without one. -/
def State.condOf (s : State) (x : ArmEngine) (w : Microword) (j : ArmJob) (b : ArmBuf) (code : Nat) : Bool :=
  let ofTable := fun (f : Nat → Bool) => match s.jobTable j.work with | some t => f t | none => false
  if code = 1 then x.zero
  else if code = 2 then x.carry
  else if code = 3 then x.sign
  else if code < 4 then false
  else if code < 8 then s.bufMatch x w j b (code - 4)
  else if code < 12 then bufFree b (code - 8)
  else if code = 12 then bufFree b 0 && bufFree b 1
  else if code = 13 then bufFree b 2 && bufFree b 3
  else if code = 14 then b.locked
  else if code = 15 then ofTable fun t => (s.stashRoom t (s.table t).rcd.width).isNone
  else if code = 16 then x.journal.isEmpty
  else if code = 17 then ofTable fun t => (s.table t).rcd.versioned == 1
  else false

/-- The next microaddress, none at END (R378). -/
def State.nextUpc (s : State) (x : ArmEngine) (j : ArmJob) (w : Microword) : Option Nat :=
  if w.brMode = 5 then none
  else
    let b := x.buf w.srcA
    some (s.trapTo ((List.range (if w.brMode ≤ 4 then w.brMode else 0)).foldl (fun a i =>
      a ||| (if s.condOf x w j b (w.cond i) then 1 <<< i else 0)) w.nextAddr))

/-! ## Starts, abandonment and restart (R375, R380, R384) -/

/-- The engine at the entry of its job's routine; the journal stays (R173). -/
def State.enterRoutine (s : State) (e : Nat) : State :=
  match (s.engine e).job with
  | none => s
  | some j =>
    let upc := s.trapTo (s.entryAt j.work.routine)
    s.modEngine e fun x => { x with
      upc := upc, ended := false, committed := false, words := 0, waiting := 0, refused := false, plan := none
      late := [], readBanks := [], zero := false, carry := false, sign := false, busyUntil := s.now }

/-- Registers 0 to 7 receive the parameters of a job (R375). -/
def loadParams (regs : Arr (BitVec 64)) (w : ArmWork) : Arr (BitVec 64) :=
  (List.range 8).foldl (fun r i => r.set 0 i (Config.jobParam w i)) regs

/-- ARM_JOB_START (R375): the head of the queue starts, under the limits in force (R384). -/
def execArmJobStart (engine : Nat) (s : State) : Host.Outcome State Fault Refusal :=
  onUnit (decide (engine < 4)) engine
    (match (s.engine engine).queue with
     | [] => s
     | j :: rest =>
       let x := s.engine engine
       if s.clock.running && !x.fenced && !x.fenceDue && x.job.isNone && s.arm.quiescing.isNone && decide (j.placedAt < s.tickStamp) then
         let j := { j with restartLimit := s.arm.restartLimit, liveLimit := s.arm.liveLimit }
         let t := s.modEngine engine fun x => { x with
                    job := some j, queue := rest, regs := loadParams x.regs j.work }
         ((t.enterRoutine engine).bump .armJobs engine).refill
       else s)

/-- Requests of an engine still waiting are withdrawn (R380). -/
def State.withdrawEngine (s : State) (e : Nat) : State :=
  let mine := fun (r : MaintReq) => match r.op with
    | .armRead x _ _ => x == e
    | .armWrite x _ _ => x == e
    | .armCounter x _ _ => x == e
    | _ => false
  let stash := fun (w : StashWrite) => match w.op with | .arm x _ _ => x == e | _ => false
  { s with tables := { s.tables with maint := s.tables.maint.filter fun r => !mine r
                                     stashWrites := s.tables.stashWrites.filter fun w => !stash w } }

/-- The engine is idle again; a fence that waited for it takes effect (R389). -/
def State.idleEngine (s : State) (e : Nat) : State :=
  let due := (s.engine e).fenceDue
  let s := s.modEngine e fun x => { x with
    job := none, ended := false, committed := false, words := 0, waiting := 0, refused := false, plan := none
    late := [], readBanks := [] }
  if due then s.fenceEngine e else s

/-- The job is given up (R384); the detail holds the routine number above the last cause (log 20). -/
def State.giveUp (s : State) (e : Nat) (j : ArmJob) : State :=
  let s := s.modEngine e fun x => { x with journal := [] }
  let s := (s.bump .armGiveUp e).note srcArmRestartLimit e (BitVec.ofNat 64 (j.work.routine * 256 + j.lastCause))
  let s := match j.reply with
    | some r => s.reply r.1 r.2 stInternal 0 0 0 []
    | none => s
  s.idleEngine e

/-- A routine abandoned before its commit (R380): cause 1 a refused write, 2 a fault, 3 LIVE_LIMIT. -/
def State.abandon (s : State) (e cause : Nat) : State :=
  match (s.engine e).job with
  | none => s
  | some j =>
    if (s.engine e).committed || (s.engine e).ended then s
    else
      let s := (s.withdrawEngine e).bump
        (if cause = 1 then .armAbandonRefused else if cause = 2 then .armAbandonFault else .armAbandonLive) e
      let j := { j with restarts := j.restarts + 1, lastCause := cause }
      let s := s.modEngine e fun x => { x with job := some j }
      if j.restartLimit ≤ j.restarts then s.giveUp e j else s.enterRoutine e

/-- A bank is retired or switched to its spare: routines that have read it are abandoned (R380). -/
def State.abandonReaders (s : State) (store bank : Nat) : State :=
  (List.range 4).foldl (fun t e =>
    if (t.engine e).readBanks.contains (store, bank) then t.abandon e 2 else t) s

/-- An uncorrectable error of a fetched word or of an engine's own memories (R381, R389): raised at once and the routine
abandoned, or recorded until the routine's END once it has committed. -/
def State.engineError (s : State) (e src : Nat) (detail : BitVec 64) : State :=
  let x := s.engine e
  if x.job.isSome && (x.committed || x.ended) then
    s.modEngine e fun x => { x with late := x.late ++ [src * 2 ^ 64 + detail.toNat] }
  else (s.raise src e detail).abandon e 2

/-! ## MICROWORD_EXECUTE (R379) -/

/-- The state without the engine's own plan: what the plan has set aside is the routine's to use (R171). -/
def State.unplanned (s : State) (e : Nat) : State := s.modEngine e fun x => { x with plan := none }

/-- The plan of the running routine, found out when first needed (log 18). -/
def State.needPlan (s : State) (e : Nat) : State :=
  let x := s.engine e
  match x.plan, x.job with
  | none, some j => s.putEngine e { x with plan := some (s.fullPlan j.work j.restarts x.journal) }
  | _, _ => s

/-- The 16 words of a journal for a path, the last ones of a longer path (R375). -/
def journalOf (path : List (BitVec 64)) : List (BitVec 64) := path.drop (path.length - 16)

/-- A routine reads again: a new plan, whose path enters the journal before its first write; the old path stays ahead of it while
duplicates may lie there (R168, R173). -/
def State.planAfresh (s : State) (e : Nat) (x : ArmEngine) (j : ArmJob) (p : ArmPlan) : State :=
  let kept := decide (0 < j.restarts) || p.begun
  let q := (s.unplanned e).fullPlan j.work (if kept then max j.restarts 1 else 0) x.journal
  s.putEngine e { x with
    plan := some q
    journal := if x.journal.isEmpty then []
      else journalOf ((if kept then x.journal else []) ++ q.path.map journalWord) }

/-- A plan whose reads lie more than 128 maintenance cycles back is not written: the routine reads again, unless it has committed
(R168, R381). -/
def State.freshPlan (s : State) (e : Nat) : State :=
  let s := s.needPlan e
  match (s.engine e).plan, (s.engine e).job with
  | some p, some j =>
    if s.readStale p.readAt ∧ p.steps ≠ [] ∧ !(s.engine e).committed then s.planAfresh e (s.engine e) j p else s
  | _, _ => s

/-- The unit that an address register names: bank and unit of a store (R160). -/
def unitOf (store : Nat) (a : BitVec 64) : Nat × Nat :=
  (fld a 47 32 % numBanks store, (if store = 0 then fld a 31 0 / 4 else fld a 31 0) % 1024)

/-- Requests issued by a word: they wait until all have completed (R379). -/
def State.issue (s : State) (e : Nat) (l : List (Nat × Nat × MaintOp)) : State :=
  let s := s.modEngine e fun x => { x with waiting := l.length + 1 }
  l.foldl (fun t r => t.request r.1 r.2.1 e r.2.2) s

/-- Reads of `store` into buffers 0 upwards. -/
def State.issueReads (s : State) (e store : Nat) (w : Microword) : State :=
  s.issue e ((List.range w.memCount).map fun i =>
    let u := unitOf store ((s.engine e).reg ((w.memReg + i) % 64))
    (store, u.1, .armRead e u.2 i))

/-- The steps at the head of the plan that satisfy `p`, at most `n`, and the plan without them. -/
def takeSteps (n : Nat) (p : PlanStep → Bool) (l : List PlanStep) : List PlanStep × List PlanStep :=
  let now := (l.take n).takeWhile p
  (now, l.drop now.length)

def isBucketStep (p : PlanStep) : Bool := match p with | .bucket .. => true | _ => false
def isStashStep (p : PlanStep) : Bool := match p with | .stash .. => true | _ => false
def isPrefixStep (p : PlanStep) : Bool := match p with | .bucket .. => false | .stash .. => false | _ => true

/-- The next steps of the plan taken out of it. -/
def State.takePlan (s : State) (e n : Nat) (p : PlanStep → Bool) : State × List PlanStep :=
  let s := s.freshPlan e
  match (s.engine e).plan with
  | none => (s, [])
  | some pl =>
    let q := takeSteps n p pl.steps
    (s.modEngine e fun x => { x with plan := some { pl with steps := q.2, begun := pl.begun || !q.1.isEmpty } }, q.1)

/-- The word commits in its own clock where it has issued nothing (R381). -/
def State.commitIf (s : State) (e : Nat) (commit : Bool) : State :=
  if commit && (s.engine e).waiting ≤ 1 then s.commitEngine e else s

/-- Conditional writes of buckets, or of LPM words. -/
def State.issueWrites (s : State) (e : Nat) (w : Microword) (p : PlanStep → Bool) : State :=
  let q := s.takePlan e w.memCount p
  let at? := fun (st : PlanStep) => match st with
    | .bucket b _ _ _ _ _ _ => (0, b)
    | .lpm _ word _ => (1, word / 1024)
    | _ => (1, (unitOf 1 ((s.engine e).reg w.memReg)).1)
  (q.1.issue e (q.2.map fun st => ((at? st).1, (at? st).2, .armWrite e st w.commit))).commitIf e w.commit

/-- A stash write; the one after the commit goes ahead of all others (R383). -/
def State.issueStash (s : State) (e : Nat) (w : Microword) : State :=
  let q := s.takePlan e w.memCount isStashStep
  let ahead := (s.engine e).committed
  let l := q.2.filterMap fun st => match st with
    | .stash t ws => some ({ table := t, ahead := ahead, op := .arm e ws w.commit } : StashWrite)
    | _ => none
  let s := q.1.modEngine e fun x => { x with waiting := l.length + 1 }
  ({ s with tables := { s.tables with stashWrites := s.tables.stashWrites ++ l } }).commitIf e w.commit

/-- The group of four stash slots that an address names, as a buffer. -/
def State.stashBuf (s : State) (a : BitVec 64) : ArmBuf :=
  let i := stashOf a / 4 * 4
  { store := 2, bank := fld a 47 32 % 256, bucket := i % 64 / 4
    slots := (List.range 4).map fun k => (s.stashSlot (i + k)).bits, tag := 0, locked := false }

/-- Stash slot groups read into buffers 0 upwards. -/
def State.readStashBuf (s : State) (e : Nat) (w : Microword) : State :=
  s.modEngine e fun x => { x with
    bufs := (List.range w.memCount).foldl (fun l i => l.set ArmBuf.init i (s.stashBuf (x.reg ((w.memReg + i) % 64)))) x.bufs
    waiting := 1 }

/-- JOURNAL_READ: journal words, as addresses of R160, into DEST and up. -/
def ArmEngine.readJournal (x : ArmEngine) (w : Microword) : ArmEngine :=
  (List.range w.memCount).foldl (fun y i =>
    y.setReg ((w.dest + i) % 64) ((x.journal[((x.reg w.memReg).toNat + i) % 16]?).getD 0)) x

/-- HASH: h0 and h1 of R146 into DEST and DEST + 1, in four clocks. -/
def State.hashWord (s : State) (e : Nat) (j : ArmJob) (w : Microword) : State :=
  match j.work.tableOf, j.work.key with
  | some t, some key =>
    let d := s.table t
    let input := hashInput t d.rcd.width key
    s.modEngine e fun x => { (x.setReg w.dest (siphash13 d.rcd.seed0 input)).setReg ((w.dest + 1) % 64)
                               (siphash13 d.rcd.seed1 input) with busyUntil := s.now + 4 }
  | _, _ => s.modEngine e fun x => { x with busyUntil := s.now + 4 }

/-- REPLY: the routine's status and address to its command, once. -/
def State.replyJob (s : State) (e : Nat) : State :=
  let s := s.needPlan e
  match (s.engine e).job, (s.engine e).plan with
  | some j, some p =>
    match j.reply with
    | some r => (s.modEngine e fun x => { x with job := some { j with reply := none } }).reply r.1 r.2 p.status 0 p.value 0 []
    | none => s
  | _, _ => s

/-- NOTICE: the routine's notice packet, once (R180). -/
def State.noticeJob (s : State) (e : Nat) : State :=
  let s := s.needPlan e
  match (s.engine e).plan with
  | some p =>
    match p.notice with
    | some n => (s.modEngine e fun x => { x with plan := some { p with notice := none } }).sendNotice n
    | none => s
  | none => s

/-- The word's MEM_OP. -/
def State.memOp (s : State) (e : Nat) (j : ArmJob) (w : Microword) : State :=
  match w.memOp with
  | 1 => s.issueReads e 0 w
  | 2 => s.issueWrites e w isBucketStep
  | 3 => s.readStashBuf e w
  | 4 => s.issueStash e w
  | 5 => s.issueReads e 1 w
  | 6 => s.issueWrites e w isPrefixStep
  | 7 =>
    s.issue e ((List.range w.memCount).map fun i =>
      let u := unitOf 2 ((s.engine e).reg ((w.memReg + i) % 64))
      (2, u.1, .armCounter e (u.2 * 1024 + u.1) w.commit))
  | 8 => let s := s.needPlan e; s.modEngine e fun x => { x with journal := journalOf (((x.plan.map (·.path)).getD []).map journalWord) }
  | 9 => s.modEngine e fun x => x.readJournal w
  | 10 => let s := s.needPlan e; s.modEngine e fun x => { x with journal := [] }
  | 11 => s.hashWord e j w
  | 12 => s.replyJob e
  | 13 => s.noticeJob e
  | _ => s

/-- Bank MEM_OPs that write: a commit word with one commits as it lands, any other in its own clock (R381). -/
def memBank (op : Nat) : Bool := op == 2 || op == 6 || op == 7

/-- The ALU of the word, over the register and the buffer that SRC_A names (R376; what it computes is open, log 2). -/
def ArmEngine.alu (x : ArmEngine) (w : Microword) : ArmEngine :=
  let r := Config.alu w.aluOp (x.reg w.srcA) (x.buf w.srcA).slots (x.reg w.srcB) w.imm w.wide
  { x.setReg w.dest r.1 with zero := r.2.1, carry := r.2.2.1, sign := r.2.2.2 }

/-- The LIVE_LIMIT check after a word (R380, R384). -/
def State.liveCheck (s : State) (e : Nat) (j : ArmJob) : State :=
  if !(s.engine e).committed && decide (j.liveLimit ≤ (s.engine e).words) then
    (s.note srcArmLiveLimit e (BitVec.ofNat 64 j.work.routine)).abandon e 3
  else s

/-- One fetched word executed. -/
def State.runWord (s : State) (e : Nat) (j : ArmJob) (w : Microword) : State :=
  let next := (s.unplanned e).nextUpc (s.engine e) j w
  let s := s.modEngine e fun x => { x.alu w with words := x.words + 1, lastWord := some s.now }
  let s := (s.bump .armMicrowords e).memOp e j w
  let s := if w.commit && !memBank w.memOp then s.commitEngine e else s
  let s := s.modEngine e fun x => match next with
    | some a => { x with upc := a }
    | none => { x with ended := true }
  if next.isNone then s else s.liveCheck e j

/-- The engine may execute a word in this clock. -/
def State.wordReady (s : State) (e : Nat) : Bool :=
  let x := s.engine e
  s.worked && x.job.isSome && !x.ended && x.waiting == 0 && decide (x.busyUntil ≤ s.now) && x.lastWord != some s.now

/-- What the fetch found (R389): the address of the shared stores carries 0x00FF as BANK (R436). A word poisoned already abandons
the routine again and raises nothing (R434). -/
def State.fetchWord (s : State) (e : Nat) (j : ArmJob) (found : EccErr) : State :=
  let a := (s.engine e).upc
  let addr := faultAddr 12 0xFF a
  if s.arm.storePoison.contains a then s.abandon e 2
  else match found with
    | .uncorrectable => { s with arm.storePoison := a :: s.arm.storePoison }.engineError e srcArmCsUe addr
    | .corrected => (s.raise srcArmCsCe e addr).runWord e j (s.microAt a)
    | .good => s.runWord e j (s.microAt a)

/-- MICROWORD_EXECUTE (R379). -/
def execMicrowordExecute (engine : Nat) (found : EccErr) (s : State) : Host.Outcome State Fault Refusal :=
  onUnit (decide (engine < 4)) engine
    (match (s.engine engine).job with
     | some j => if s.wordReady engine then s.fetchWord engine j found else s
     | none => s)

/-- ARM_MEM_COMPLETE (R379, R380): every request of the word has completed; a refused one abandons the routine, also where the word
was its last (R381). -/
def execArmMemComplete (engine : Nat) (s : State) : Host.Outcome State Fault Refusal :=
  onUnit (decide (engine < 4)) engine
    (let x := s.engine engine
     if x.job.isSome && x.waiting == 1 then
       let t := s.modEngine engine fun x => { x with waiting := 0, refused := false, ended := x.ended && (x.committed || !x.refused) }
       if x.refused then t.abandon engine 1 else t
     else s)

/-- The errors recorded since the commit take effect (R381). -/
def State.lateError (s : State) (e : Nat) (late : List Nat) : State :=
  late.foldl (fun s n => s.raise (n / 2 ^ 64) e (BitVec.ofNat 64 n)) s

/-- ROUTINE_END (R383): the engine is free for its next job. -/
def execRoutineEnd (engine : Nat) (s : State) : Host.Outcome State Fault Refusal :=
  onUnit (decide (engine < 4)) engine
    (let x := s.engine engine
     if x.job.isSome && x.ended && decide (x.waiting ≤ 1) && (x.committed || !x.refused) then ((s.idleEngine engine).lateError engine x.late).refill else s)

/-! ## Discard (R130) -/

/-- A staging job given back when its Maquette is discarded: its command is refused with STATE_CONFLICT (DESIGN CHOICE,
log 23). -/
def State.refuseJob (s : State) (j : ArmJob) : State :=
  match j.reply with
  | some r => s.refuseHeld r.1 r.2 stStateConflict 0
  | none => s

/-- An engine's uncommitted staging routine stopped. -/
def State.stopStaging (s : State) (e : Nat) : State :=
  match (s.engine e).job with
  | some j =>
    if j.work.staging && !(s.engine e).committed && !(s.engine e).ended then
      (((s.withdrawEngine e).modEngine e fun x => { x with journal := [] }).refuseJob j).idleEngine e
    else s
  | none => s

/-- Queued staging jobs removed. -/
def State.dropStaging (s : State) : State :=
  let mine := ((List.range 4).flatMap fun e => (s.engine e).queue) ++ s.arm.backlog
  let s := (List.range 4).foldl (fun t e => t.modEngine e fun x => { x with queue := x.queue.filter fun j => !j.work.staging }) s
  let s := { s with arm := { s.arm with backlog := s.arm.backlog.filter fun j => !j.work.staging } }
  (mine.filter fun j => j.work.staging).foldl (fun t j => t.refuseJob j) s

/-- Direct writes of VERSIONED tables that have not landed end with the Maquette. -/
def State.dropDirect (s : State) : State :=
  (s.tables.jobs.filter fun j => j.opcode == 0x0408 && (s.table j.table).rcd.versioned == 1).foldl (fun t j =>
    (t.endJob j.id).refuseHeld j.hdr j.opcode stStateConflict 0) s

/-- The Maquette of version `v` discarded (R130). -/
def State.discardMaquette (s : State) (v : BitVec 16) : State :=
  let s := ((List.range 4).foldl (fun t e => t.stopStaging e) s).dropStaging.dropDirect
  { s with rules := { s.rules with staged := none, stagedOps := 0 } }.discardAll v

/-- MAQUETTE_DISCARD (R130). -/
def cmdMaquetteDiscard : Cmd :=
  .mirrored 0x0503 .maquetteDiscard fun _ s =>
    s.inMaquette fun v => .ok (s.discardMaquette v)

/-! ## Image checks (R385) -/

/-- Successor addresses of a word. -/
def Microword.targets (w : Microword) : List Nat :=
  if w.brMode = 5 then []
  else (List.range (2 ^ (if w.brMode ≤ 4 then w.brMode else 0))).map fun k => w.nextAddr ||| k

/-- The word alone is in order. -/
def wordOk (w : Microword) : Bool :=
  decide (w.brMode ≤ 5) && decide (w.memOp ≤ 13)
    && (w.brMode == 5 || ((List.range w.brMode).all fun i => decide (w.cond i ≤ 17)))
    && (w.brMode == 5 || (w.nextAddr % 2 ^ w.brMode == 0 && decide (w.nextAddr + 2 ^ w.brMode ≤ 0x4800)))

/-- Microcycles that a word may take after a commit (R379, R383): a stash write waits for a maintenance clock. -/
def Microword.cycles (w : Microword) : Nat := if w.memOp = 11 then 4 else if w.memOp = 4 then 32 else 1

/-- Every path from microaddress `a` after a commit keeps to R383. -/
def pathOk (word : Nat → Microword) (trap : Nat → Nat) (fuel cycles stash last a : Nat) : Bool :=
  match fuel with
  | 0 => false
  | fuel + 1 =>
    let w := word a
    let stash' := stash + (if w.memOp = 4 then 1 else 0)
    let cycles' := cycles + w.cycles
    decide (last < a) && decide (cycles' ≤ 64) && decide (stash' ≤ 1)
      && !(w.memOp == 1 || w.memOp == 2 || w.memOp == 5 || w.memOp == 6 || w.memOp == 7)
      && (w.targets.all fun b => pathOk word trap fuel cycles' stash' a (trap b))

/-- A COMMIT word keeps to R383: at most 32 words follow it. -/
def commitOk (word : Nat → Microword) (trap : Nat → Nat) (a : Nat) : Bool :=
  let w := word a
  !w.commit || (w.targets.all fun b => pathOk word trap 32 0 0 a (trap b))

/-- Words of the store as a patch would leave them. -/
def State.patchedWord (s : State) (p : PatchBody) (a : Nat) : Microword :=
  if a < 0x4000 then s.microword a else (p.words[a - 0x4000]?).getD 0

def patchTrap (p : PatchBody) (a : Nat) : Nat :=
  match p.traps.find? fun t => t.1 == a with | some t => t.2 | none => a

/-- The words and the entry table of an image of base microcode pass R385: the control store as the image fills it, no trap
set and the patch RAM zero. -/
def microcodeOk (f : FirmwareBody) : Bool :=
  let word := fun a => (f.microwords[a]?).getD 0
  decide (f.microwords.length ≤ 0x4000) && decide (f.entryTable.length ≤ 1024)
    && ((List.range f.microwords.length).all fun a => wordOk (word a) && commitOk word id a)
    && f.entryTable.all fun a => decide (a < 0x4800)

/-- A COMMIT word of the base whose path the traps of a patch lead astray (R383, R385). -/
def State.baseFault (s : State) (p : PatchBody) : Option Nat :=
  (s.arm.store.find? fun (e : Nat × BitVec 256) => !commitOk (s.patchedWord p) (patchTrap p) e.1).map (·.1)

/-- The microaddress of the first failing word or table entry of a patch, if any: of its own words, then its traps and entries,
then of the base words whose paths its traps change (R385, R386). -/
def State.patchFault (s : State) (p : PatchBody) : Option Nat :=
  let word := s.patchedWord p
  match (List.range p.words.length).find? fun i => !wordOk (word (0x4000 + i)) || !commitOk word (patchTrap p) (0x4000 + i) with
  | some i => some (0x4000 + i)
  | none =>
    match p.traps.find? fun t => !(decide (t.1 < 0x4000) && decide (0x4000 ≤ t.2) && decide (t.2 < 0x4800)) with
    | some t => some t.1
    | none =>
      match p.entries.find? fun t => !(decide (t.1 < 1024) && decide (t.2 < 0x4800)) with
      | some t => some t.2
      | none => if p.traps.isEmpty then none else s.baseFault p

/-! ## Patches (R386, R387) -/

/-- Entry-table rewrites over the base table. -/
def rewriteEntries (base : Arr Nat) (l : List (Nat × Nat)) : Arr Nat := l.foldl (fun a t => a.set 0 t.1 t.2) base

/-- Patch RAM with the words of a patch; the rest zero. -/
def loadWords (l : List (BitVec 256)) : Arr (BitVec 256) :=
  (List.range l.length).foldl (fun a i => a.set 0 i ((l[i]?).getD 0)) []

/-- The staged patch becomes active (R387 step 3), and M3 is extended by its body's digest (R473). -/
def State.applyPatch (s : State) (p : Patch) : State :=
  { s with
    sec.m3 := Config.sha384 (beBytes 48 s.sec.m3.toNat ++ beBytes 48 p.digest.toNat)
    arm := { s.arm with
      patchRam := loadWords p.words, traps := p.traps, entry := rewriteEntries s.arm.baseEntry p.entries
      patchLevel := p.level, patchSvn := p.svn, staged := none, quiescing := none
      storePoison := s.arm.storePoison.filter fun a => decide (a < 0x4000) } }

/-- No engine runs a routine. -/
def State.armIdle (s : State) : Bool := (List.range 4).all fun e => (s.engine e).job.isNone

/-- ARM_PATCH_QUIESCED (R387): all four engines are idle; the patch is written, ARM_PATCH_ACTIVATED raised, the reply
sent. -/
def execArmPatchQuiesced (s : State) : Host.Outcome State Fault Refusal :=
  .next (match s.arm.quiescing, s.arm.staged with
    | some q, some p =>
      if s.armIdle then
        ((s.applyPatch p).note srcArmPatchActivated 0 (BitVec.ofNat 64 p.level)).reply q.1 0x0D41 stOk 0
          (BitVec.ofNat 64 p.level) 0 []
      else s
    | _, _ => s)

/-- ARM_PATCH_ACTIVATE_TIMEOUT (R387): the activation is cancelled 1,024 epochs after its acceptance. -/
def execArmPatchActivateTimeout (s : State) : Host.Outcome State Fault Refusal :=
  .next (match s.arm.quiescing with
    | some q =>
      if !s.armIdle && decide (q.2 + 1024 ≤ s.clock.epoch) then
        { s with arm.quiescing := none }.refuseHeld q.1 0x0D41 stBusy 0
      else s
    | none => s)

/-- ARM_PATCH_ACTIVATE (R387). -/
def cmdArmPatchActivate : Cmd :=
  .set 0x0D41 () fun h s =>
    Rule.need s.arm.quiescing.isNone .busy <|
    Rule.need s.arm.staged.isSome .missing <|
    .held { s with arm.quiescing := some (h, s.clock.epoch) } 0

/-- ARM_PATCH_REVERT (R386): an empty patch staged, measured against the base image's SVN. -/
def cmdArmPatchRevert : Cmd :=
  .set 0x0D42 () fun _ s =>
    Rule.need s.arm.quiescing.isNone .busy <|
    Rule.need (decide (s.sec.svn ≤ s.arm.baseSvn)) (.refuse stRollbackRefused 0 0 0) <|
    .ok { s with arm.staged := some { level := 0, svn := 0, digest := 0, words := [], traps := [], entries := [] } }

/-- ArmatureVersion (R388). -/
def State.armatureVersion (s : State) : BitVec 64 :=
  BitVec.ofNat 64 (s.arm.baseVersion % 2 ^ 16 <<< 48 ||| s.arm.patchLevel % 2 ^ 16 <<< 32 ||| s.arm.patchSvn % 2 ^ 8 <<< 24
    ||| s.arm.baseSvn % 2 ^ 8 <<< 16 ||| b2n s.arm.staged.isSome <<< 1 ||| b2n s.arm.quiescing.isSome)

/-- ARM_PATCH_STATUS_GET (R391). -/
def cmdArmPatchStatusGet : Cmd :=
  .get 0x0D43 () fun _ s =>
    .reply s [s.armatureVersion.toNat, (s.arm.staged.map (·.level)).getD 0, (s.arm.staged.map (·.svn)).getD 0]

/-! ## Engine commands (R384, R389 to R391) -/

/-- ARM_ENGINE_SET (R384). -/
def cmdArmEngineSet (restart live : Option Nat) : Cmd :=
  .set 0x0D44 (restart, live) fun _ s =>
    let r := restart.getD s.arm.restartLimit
    let l := live.getD s.arm.liveLimit
    Rule.need (decide (1 ≤ r) && decide (r ≤ 255) && decide (2 ^ 16 ≤ l) && decide (l ≤ 2 ^ 28)) .param <|
    .ok { s with arm := { s.arm with restartLimit := r, liveLimit := l } }

/-- ARM_ENGINE_STATUS_GET (R391): state 0 IDLE, 1 RUNNING, 2 FENCED (log 22), routine number, queue depth. -/
def cmdArmEngineStatusGet (engine : Nat) : Cmd :=
  .get 0x0D45 engine fun _ s =>
    Rule.need (decide (engine < 4)) (.access engine) <|
    let x := s.engine engine
    .reply s [if x.fenced then 2 else if x.job.isSome then 1 else 0
      , match x.job with | some j => j.work.routine | none => 0, x.queue.length]

/-- An engine returned to service (R389). -/
def State.restoreEngine (s : State) (e : Nat) : State :=
  ((s.modEngine e fun x => { x with fenced := false, fenceDue := false }).clearPermanence srcArmRegUe e).refill

/-- ARM_ENGINE_RESTORE (R389, R391). -/
def cmdArmEngineRestore (engine : Nat) : Cmd :=
  .set 0x0D46 engine fun h s =>
    Rule.need (decide (engine < 4)) (.access engine) <|
    Rule.need ((s.engine engine).fenced && !s.reactedNow (.armEngine engine)) .conflict <|
    .ok ((s.restoreEngine engine).noteUnit (.armEngine engine) 0x0D46 h)

/-- ARM_STATS_GET (R390). -/
def cmdArmStatsGet (engine : Nat) (clear : Bool) : Cmd :=
  .stats 0x0D47 clear engine fun _ s =>
    Rule.need (decide (engine < 4)) (.access engine) <|
    statsRule s ([Ctr.armJobs, .armCommits, .armAbandonRefused, .armAbandonFault, .armAbandonLive, .armGiveUp
      , .armMicrowords].map fun c => (c, engine)) [] clear

end Sys2Proof.Machine
end

