-- ==== Sys2Proof/Machine/Lanes.lean ====
section
/-! DEFINITION. Raw link state (R67, R68 of spec/03_ports.md), bring-up, receive order, lane faults and retirement, eye
scans and lane commands (spec/02_lanes.md). -/

namespace Sys2Proof.Machine

/-! ## Raw and reported link state (R67, R68) -/

/-- LANE_STATE as its code (R39). -/
def LaneState.code (l : LaneState) : Nat :=
  match l with
  | .disabled => 0 | .signalDetect => 1 | .ctleAdapt => 2 | .cdrLock => 3 | .training => 4 | .polarity => 5
  | .laneOrder => 6 | .fecLock => 7 | .up => 8 | .test => 9 | .calFailed => 10 | .retired => 11

/-- The condition of R67 for raw up. -/
def State.rawCond (s : State) (p : Nat) : Bool :=
  let q := s.port p
  q.enabled && s.isPort p && ((s.lanesOf p).all fun l => (s.lane l).st == .up) && q.aligned && !q.localFault
    && !q.remoteFault

/-- A pause or PFC frame sent complete, and its counts (R65). -/
def State.sentFlow (s : State) (p prio quanta : Nat) : State :=
  let pfc := s.flowMode p = 2
  let s := { s with lp.pauseSent := (p, if pfc then BitVec.ofNat 8 (1 <<< prio) else 0, quanta) :: s.lp.pauseSent }
  let s := if pfc then s.bump .txPfc (p * 8 + prio) else s.bump .txPause p
  (((s.bump .txFramesOk p).bumpBy .txOctetsOk p 64).bump .txMulticast p).bump .txSize (p * 16)

/-- The pause and PFC frames of a port whose last byte is out count (R65). -/
def State.endFlows (s : State) (p : Nat) : State :=
  let out := (s.port p).flowSent.filter fun e => decide (e.1 ≤ s.now)
  let t := s.modPort p fun x => { x with flowSent := x.flowSent.filter fun e => decide (s.now < e.1) }
  out.foldl (fun t (e : Nat × Nat × Nat) => t.sentFlow p e.2.1 e.2.2) t

/-- A raw down: a pause or PFC frame in transmission is lost, and none behind it starts (R68). -/
def State.loseFlow (s : State) (p : Nat) : State :=
  let s := s.endFlows p
  let t := if (s.port p).flowSent.isEmpty then s else s.bump .txLinkLost p
  t.modPort p fun x => { x with flowSent := [] }

/-- The frame in transmission is lost (R68). -/
def State.loseFrame (s : State) (p : Nat) : State :=
  match s.sending p with
  | some cid => ((s.bump .txLinkLost p).txDropped cid).leaveMac cid
  | none => s

/-- A debounced link-down (R68); R310 follows as it reaches the tick-bound units. -/
def State.linkDown (s : State) (p : Nat) : State :=
  let s := (s.modPort p fun q => { q with linkUp := false }).bump .linkDownEvents p
  (s.modEport p fun e => { e with downDue := true }).note srcPortLinkDown p 0

/-- The down timer has run out at this clock. -/
def State.downExpired (s : State) (p : Nat) : Bool := decide ((s.port p).rawSince + s.debounceDown p ≤ s.now)

/-- The raw link follows its conditions (R67, R68): the onset of a raw down loses the frame in transmission; a raw up that
ends a raw down before the down timer is a suppressed flap, and in the clock of its expiry the link-down stands. -/
def State.reraw (s : State) (p : Nat) : State :=
  let up := s.rawCond p
  let q := s.port p
  if up = q.rawUp then s
  else if up then
    let s := if q.linkUp then (if s.downExpired p then s.linkDown p else s.bump .linkFlapSuppressed p) else s
    s.modPort p fun q => { q with rawUp := true, rawSince := s.now }
  else
    let s := s.loseFlow p
    (s.modPort p fun q => { q with rawUp := false, rawSince := s.now, flowUntil := 0, flowDue := [] }).loseFrame p

/-- The raw link of the port that a lane belongs to. -/
def State.rerawLane (s : State) (l : Nat) : State :=
  match s.portOfLane l with
  | some p => s.reraw p
  | none => s

/-! ## Lane states (R39) -/

/-- The lane's port is enabled and uses the lane (R39, R70). -/
def State.laneWanted (s : State) (l : Nat) : Bool :=
  match s.portOfLane l with
  | some p => (s.port p).enabled && (s.lanesOf p).contains l
  | none => false

/-- A running scan ends with a status (R45). -/
def Scan.finish (x : Scan) (status epoch now : Nat) : Scan :=
  { x with status := status, endEpoch := epoch, endedAt := now }

def State.endScan (s : State) (l status : Nat) : State :=
  s.modLane l fun x => { x with scan := x.scan.map fun c => if c.status = 0 then c.finish status s.clock.epoch s.now else c }

/-- FIR_PRE3 to FIR_POST1 (R35). -/
def firMask : BitVec 64 := BitVec.ofNat 64 (span 39 14)

/-- A field of a lane record is in its range, and the tap sum at most 63 (R35, R36). -/
def laneRecordOk (r : BitVec 64) : Bool :=
  decide (24 ≤ fld r 24 19) && decide
    ((sfld r 39 36).natAbs + (sfld r 35 31).natAbs + (sfld r 30 25).natAbs + fld r 24 19 + (sfld r 18 14).natAbs ≤ 63)

/-- Training has ended without completion: the FIR fields read back the taps it has reached (R37). Which taps those are
is open: any that R36 permits (log 89). -/
def State.leaveTaps (s : State) (l : Nat) : State :=
  let r := merge (s.lane l).cfg (s.freeVal 64) firMask
  (s.modLane l fun x => { x with cfg := if laneRecordOk r then r else x.cfg }).draw

/-- The lane enters a state: leaving UP ends its scan and adds to the time it has been UP; leaving TRAINING otherwise than
by completion counts in LaneTrainFail (R45, R47, R50). -/
def State.enterLane (s : State) (l : Nat) (st : LaneState) (trained : Bool) : State :=
  let x := s.lane l
  let s := if x.st = .training ∧ !trained then (s.bump .laneTrainFail l).leaveTaps l else s
  let s := if x.st = .up ∧ st ≠ .up then s.endScan l 3 else s
  let s := s.modLane l fun y =>
    { y with st := st, since := s.now, upFor := if x.st = .up then y.upFor + (s.now - y.since) else y.upFor
             held := y.held && st == .signalDetect }
  s.rerawLane l

/-- The lane returns to SIGNAL_DETECT. -/
def State.restartLane (s : State) (l : Nat) : State :=
  (s.modLane l fun x => { x with held := false, restartAt := some s.now }).enterLane l .signalDetect false

/-- The lane enters DISABLED and leaves it at once where its enabled port uses it. -/
def State.idleLane (s : State) (l : Nat) : State :=
  let s := s.enterLane l .disabled false
  if s.laneWanted l then s.enterLane l .signalDetect false else s

/-! ## Permanence and retirement (R50, R51) -/

/-- The lane retires (R51): squelched, its scan ended, RETIRED; its port narrows where armed (R70). A scan the host
aborted in the same clock ends with ABORTED_RETIRE (R45). -/
def State.retireLane (s : State) (l : Nat) : State :=
  let s := s.modLane l fun x =>
    { x with scan := x.scan.map fun c =>
               if c.status = 0 ∨ (c.status = 2 ∧ c.endedAt = s.now) then c.finish 4 s.clock.epoch s.now else c
             squelched := true, held := false, prbsGen := 0, prbsChk := 0, loopback := 0 }
  let s := (s.enterLane l .retired false).note srcLaneRetired l 0
  match s.portOfLane l with
  | some p =>
    if s.narrowArmed p && decide (2 ≤ (s.portLanes p).2) && (s.lanesOf p).contains l then
      s.schedule [objPort p] (.narrow p)
    else s
  | none => s

/-- Retirement of lanes is armed (R49). -/
def State.retireArmed (s : State) : Bool := (s.react srcLanePermanent).reaction == reactRetire

/-- The declaration of permanence (R50, R423): LANE_PERMANENT is raised, and the lane retired where RETIRE is armed. -/
def State.declareLane (s : State) (l : Nat) : State :=
  let s := s.modLane l fun x => { x with permanent := true }
  let s := s.raiseBase srcLanePermanent (srcSeverity srcLanePermanent) l 0 false false (if s.retireArmed then reactRetire else 0)
  if s.retireArmed then
    { s.retireLane l with
      faults.decided := (.lane l, s.cycleStamp, reactRetire) :: s.faults.decided.filter (·.2.1 / 2 == s.tickStamp) }
  else s

/-- The stamps of a lane with one more, of the last COUNT (R50). -/
def State.laneStamps (s : State) (l : Nat) : List Nat := (s.now :: (s.lane l).stamps).take (s.react srcLanePermanent).count

/-- COUNT errors lie within WINDOW. -/
def State.laneFull (s : State) (l : Nat) : Bool :=
  let e := s.react srcLanePermanent
  let st := s.laneStamps l
  decide (st.length = e.count) && decide (s.now - (st.getLast?).getD 0 ≤ clkMs e.windowMs)

/-- A lane that is permanent and not retired restarts at most once per RETRY_HOLDOFF (R50). -/
def State.holdRestart (s : State) (l : Nat) : State :=
  let hold := match (s.lane l).restartAt with
    | some t => decide (s.now < t + clkMs (s.octet (l / 8)).holdoffMs)
    | none => false
  if hold then (s.modLane l fun x => { x with held := true }).enterLane l .signalDetect false else s.restartLane l

/-- A counted error of the lane (R49, R50): its raise, the count, the permanence it may complete, and the restart. A masked
source raises nothing, and nothing is counted (R414); the lane restarts all the same. -/
def State.laneErrorAs (s : State) (l src : Nat) (detail : BitVec 64) : State :=
  if s.masked src then (if (s.lane l).permanent then s.holdRestart l else s.restartLane l)
  else
    let full := s.laneFull l
    let newly := full && !(s.lane l).permanent
    let st := s.laneStamps l
    let s := s.modLane l fun x =>
      { x with stamps := st, upFor := 0, since := if x.st = .up then s.now else x.since }
    let s := s.raiseBase src (srcSeverity src) l detail false newly 0
    let s := if newly then s.declareLane l else s
    if (s.lane l).st = .retired then s else if full then s.holdRestart l else s.restartLane l

def State.laneError (s : State) (l src : Nat) : State := s.laneErrorAs l src 0

/-- The next core clock. -/
def State.nextClock (s : State) : State :=
  let c := s.clock
  let c' := { c with now := c.now + 1, k := (c.k + 1) % 2
                     tick := if c.k = 1 then (c.tick + 1) % 1024 else c.tick
                     epoch := if c.k = 1 ∧ c.tick = 1023 then c.epoch + 1 else c.epoch }
  { s with clock := c' }

/-- Calibration of the lane fails (R38, R50): CAL_FAILED, and permanent in the clock after LANE_CAL_FAIL. -/
def State.calFail (s : State) (l : Nat) : State :=
  let c := s.clock
  let s := (s.enterLane l .calFailed false).note srcLaneCalFail l 0
  { s.nextClock.declareLane l with clock := c }

/-! ## Events of bring-up -/

/-- LANE_CALIBRATION_DONE (R38): a tile released by the boot ROM has calibrated its 128 lanes. -/
def execLaneCalibrationDone (tile : Nat) (failed : List Nat) (s : State) : Host.Outcome State Fault Refusal :=
  onUnit (decide (tile < 8)) tile
    (if s.lp.calibrating.contains tile then
       let t := { s with lp := { s.lp with calibrating := s.lp.calibrating.filter (· != tile)
                                           calibrated := s.lp.calibrated ++ [tile] } }
       (List.range 128).foldl (fun t i =>
         let l := tile * 128 + i
         if failed.contains l then t.calFail l else t.idleLane l) t
     else s)

/-- The limit of a bring-up state in core clocks (R39). -/
def State.laneLimit (s : State) (l : Nat) : Option Nat :=
  match (s.lane l).st with
  | .ctleAdapt => some (clkMs 20)
  | .cdrLock => some (clkMs 5)
  | .training => some (clkMs (s.octet (l / 8)).trainMs)
  | .polarity => some (clkMs 2)
  | .laneOrder => some (clkMs 10)
  | .fecLock => some (clkMs 5)
  | _ => none

/-- AN_EN of the port a lane belongs to. -/
def State.anEnabled (s : State) (p : Nat) : Bool := bit (s.port p).cfg 5

/-- Link training is on (R33, R39): by TRAIN, or by the ability auto-negotiation has resolved to, at rate codes 0 and 1. -/
def State.trains (s : State) (l : Nat) : Bool :=
  match s.portOfLane l with
  | some p => decide ((s.octet (l / 8)).rate < 2) && (bit (s.lane l).cfg 51 || (s.anEnabled p && (s.port p).ability.isSome))
  | none => false

/-- Auto-negotiation, where enabled, has resolved (R66). -/
def State.anSettled (s : State) (l : Nat) : Bool :=
  match s.portOfLane l with
  | some p => !s.anEnabled p || (s.port p).ability.isSome
  | none => true

/-- The octet's receive order is decided, and the lane's port does not contradict it (R41). -/
def State.orderSettled (s : State) (l : Nat) : Bool :=
  let o := s.octet (l / 8)
  (o.orderState == .decided || o.orderState == .assumed || o.orderState == .forced)
    && !(match s.portOfLane l with | some p => o.contrary.contains p | none => false)

/-- Every lane of the port has reached FEC_LOCK. -/
def State.fecReady (s : State) (l : Nat) : Bool :=
  match s.portOfLane l with
  | some p => (s.lanesOf p).all fun x => (s.lane x).st == .fecLock || (s.lane x).st == .up
  | none => true

/-- The state that follows, where the exit condition can be met now (R39). -/
def State.nextLane (s : State) (l : Nat) (inverted : Bool) : Option LaneState :=
  let x := s.lane l
  match x.st with
  | .signalDetect =>
    if !x.held && s.anSettled l && decide (x.since + clkMs 1 ≤ s.now) then some .ctleAdapt else none
  | .ctleAdapt => some .cdrLock
  | .cdrLock => some (if s.trains l then .training else .polarity)
  | .training => some .polarity
  | .polarity => if bit x.cfg 54 && bit x.cfg 53 != inverted then none else some .laneOrder
  | .laneOrder => if s.orderSettled l then some .fecLock else none
  | .fecLock => if s.fecReady l then some .up else none
  | _ => none

/-- The state's limit has not run out; a lane waits in LANE_ORDER while the order is not decided (R41). -/
def State.laneInTime (s : State) (l : Nat) : Bool :=
  match s.laneLimit l with
  | some n => decide (s.now ≤ (s.lane l).since + n) || (s.lane l).st == .laneOrder
  | none => true

/-- The taps that an event reports are taps that training can reach (R36); such an event does not happen with others
(log 86). -/
def State.tapsOk (s : State) (l : Nat) (fir : BitVec 64) : Bool :=
  (s.lane l).st != .training || laneRecordOk (merge (s.lane l).cfg fir firMask)

/-- What a state's completion writes: the taps that training reached, and the receive inversion of POLARITY (R37, R40;
under FORCE at this exit, DESIGN CHOICE, log 105). -/
def State.laneExit (s : State) (l : Nat) (inverted : Bool) (fir : BitVec 64) : State :=
  let x := s.lane l
  match x.st with
  | .training => s.putLane l { x with cfg := merge x.cfg fir firMask }
  | .polarity => s.putLane l { x with cfg := setFld x.cfg 52 52 (b2n (if bit x.cfg 54 then bit x.cfg 53 else inverted)) }
  | _ => s

/-- What entry into a state does besides: the order window opens, UP is counted (R41, R47). -/
def State.laneEntry (s : State) (l : Nat) (st : LaneState) : State :=
  match st with
  | .laneOrder =>
    s.modOctet (l / 8) fun o =>
      if o.orderMode = 0 ∧ o.orderState = .pending ∧ o.windowFrom = none then { o with windowFrom := some s.now } else o
  | .up => s.bump .laneUpEntries l
  | _ => s

/-- LANE_STATE_ADVANCE (R39, R40): the lane meets its state's exit condition. -/
def execLaneStateAdvance (lane : Nat) (inverted : Bool) (fir : BitVec 64) (s : State) : Host.Outcome State Fault Refusal :=
  onUnit (decide (lane < 1024)) lane
    (match s.nextLane lane inverted with
     | some st =>
       if s.laneInTime lane && s.tapsOk lane fir then ((s.laneExit lane inverted fir).laneEntry lane st).enterLane lane st true else s
     | none => s)

/-- A limit has run out; lanes whose order is not decided are not counted (R41). -/
def State.laneTimedOut (s : State) (l : Nat) : Bool :=
  match s.laneLimit l with
  | some n => decide ((s.lane l).since + n ≤ s.now) && ((s.lane l).st != .laneOrder || s.orderSettled l)
  | none => false

/-- LANE_BRINGUP_TIMEOUT (R39): a limit expires. -/
def execLaneBringupTimeout (lane : Nat) (s : State) : Host.Outcome State Fault Refusal :=
  onUnit (decide (lane < 1024)) lane
    (if s.laneTimedOut lane then (s.bump .laneBringupRestart lane).laneError lane srcLaneBringupTimeout else s)

/-- LANE_LOS (R39): loss of signal in a state after SIGNAL_DETECT. -/
def execLaneLos (lane : Nat) (s : State) : Host.Outcome State Fault Refusal :=
  let c := (s.lane lane).st.code
  onUnit (decide (lane < 1024)) lane
    (if 2 ≤ c ∧ c ≤ 8 then (s.bump .laneLosCount lane).enterLane lane .signalDetect false else s)

/-- LANE_CDR_UNLOCK (R49): clock recovery, locked at the exit of CDR_LOCK, is lost with signal present. -/
def execLaneCdrUnlock (lane : Nat) (s : State) : Host.Outcome State Fault Refusal :=
  let c := (s.lane lane).st.code
  onUnit (decide (lane < 1024)) lane
    (if 4 ≤ c ∧ c ≤ 8 then (s.bump .laneCdrUnlock lane).laneError lane srcLaneCdrUnlock else s)

/-- LANE_AM_LOSS (R49): marker lock, found in POLARITY, is lost with clock recovery locked. -/
def execLaneAmLoss (lane : Nat) (s : State) : Host.Outcome State Fault Refusal :=
  let c := (s.lane lane).st.code
  onUnit (decide (lane < 1024)) lane
    (if 6 ≤ c ∧ c ≤ 8 then (s.bump .laneAmLockLoss lane).laneError lane srcLaneAmLoss else s)

/-- LANE_RESTART_HOLDOFF (R50): RETRY_HOLDOFF has passed since the last restart. -/
def execLaneRestartHoldoff (lane : Nat) (s : State) : Host.Outcome State Fault Refusal :=
  let x := s.lane lane
  onUnit (decide (lane < 1024)) lane
    (if x.held && x.st == .signalDetect && decide (x.restartAt.getD 0 + clkMs (s.octet (lane / 8)).holdoffMs ≤ s.now) then s.restartLane lane else s)

/-- LANE_RECOVERED (R50): CLEAR_S seconds of UP without a counted error. -/
def execLaneRecovered (lane : Nat) (s : State) : Host.Outcome State Fault Refusal :=
  let x := s.lane lane
  onUnit (decide (lane < 1024)) lane
    (if x.permanent && x.st == .up && decide (clkS (s.react srcLanePermanent).clearS ≤ x.upFor + (s.now - x.since)) then
       (s.putLane lane { x with permanent := false, stamps := [] }).note srcLaneRecovered lane 0
     else s)

/-! ## Receive order (R41) -/

/-- The evidence that counts: ports of two or more lanes of the octet, every lane with marker lock. A port whose lane IDs
neither rise nor fall gives none (DESIGN CHOICE, log 90). -/
def State.orderEvidence (s : State) (o : Nat) (ev : List (Nat × Bool)) : List (Nat × Bool) :=
  ev.filter fun (e : Nat × Bool) =>
    s.isPort e.1 && e.1 / 8 == o && decide (2 ≤ (s.portLanes e.1).2)
      && (s.lanesOf e.1).all fun l => decide (6 ≤ (s.lane l).st.code) && decide ((s.lane l).st.code ≤ 8)

/-- The decision at the end of the window; true in the evidence is a port whose lane IDs rise. -/
def State.decideOrder (s : State) (o : Nat) (ev : List (Nat × Bool)) : State :=
  let l := s.orderEvidence o ev
  let set (st : OrderState) (r : Bool) : State :=
    s.modOctet o fun x => { x with orderState := st, reversed := r, windowFrom := none }
  if l.isEmpty then (set .assumed false).note srcLaneOrderUnknown o 0
  else if l.all (·.2) then set .decided false
  else if l.all (!·.2) then set .decided true
  else (set .conflict false).note srcLaneOrderConflict o 0

/-- Evidence of a later port against the decision. Its lanes that are past LANE_ORDER stay where they are (DESIGN CHOICE,
log 105). -/
def State.lateEvidence (s : State) (o : Nat) (ev : List (Nat × Bool)) : State :=
  let x := s.octet o
  let bad := (s.orderEvidence o ev).filter fun (e : Nat × Bool) => e.2 == x.reversed && !x.contrary.contains e.1
  if bad.isEmpty then s
  else (s.modOctet o fun y => { y with contrary := y.contrary ++ bad.map (·.1) }).note srcLaneOrderConflict o 0

/-- LANE_ORDER_WINDOW_END (R41): the window of 10 ms ends, or a port shows its order after the decision. -/
def execLaneOrderWindowEnd (octet : Nat) (evidence : List (Nat × Bool)) (s : State) : Host.Outcome State Fault Refusal :=
  let x := s.octet octet
  onUnit (decide (octet < 128)) octet
    (match x.orderState with
     | .pending =>
       match x.windowFrom with
       | some t => if t + clkMs 10 ≤ s.now then s.decideOrder octet evidence else s
       | none => s
     | .decided => s.lateEvidence octet evidence
     | .assumed => s.lateEvidence octet evidence
     | .conflict => s
     | .forced => s)

/-! ## Statistics and scans -/

/-- RS-FEC symbols in a second on a lane: line rate over 10 bits (R48). -/
def symbolRate (rate : Nat) : Nat :=
  match rate with | 0 => 21250000000 | 1 => 10625000000 | 2 => 5312500000 | _ => 2578125000

/-- LANE_SER_INTERVAL_END (R48): the second's corrected symbols, or in TEST its checker errors (R43), where no symbol
is corrected. -/
def execLaneSerIntervalEnd (lane symErr : Nat) (s : State) : Host.Outcome State Fault Refusal :=
  let x := s.lane lane
  let s := s.modLane lane fun x => { x with serWas := some (s.clock.now, s.ctrVal .laneSer1s lane) }
  let o := s.octet (lane / 8)
  onUnit (decide (lane < 1024)) lane
    (if x.st = .test then
       let t := s.putCount (Ctr.laneSer1s.key lane) 0
       if x.prbsChk = 0 then t else t.bumpBy .lanePrbsErr lane symErr
     else
       let t := s.bumpBy .laneSymErr lane symErr
       let t := t.putCount (Ctr.laneSer1s.key lane) (min symErr (2 ^ 32 - 1))
       if symbolRate o.rate < t.ctrVal .laneSer1s lane * 10 ^ o.serExp then t.note srcLaneSerHigh lane 0 else t)

/-- LANE_SNR_UPDATE (R47). -/
def execLaneSnrUpdate (lane snr : Nat) (s : State) : Host.Outcome State Fault Refusal :=
  onUnit (decide (lane < 1024)) lane
    (if (s.lane lane).st = .up then s.modLane lane fun x => { x with snr := snr % 2 ^ 16 } else s)

/-- EYE_SCAN_POINT_DONE (R44, R46): the running scan takes a point's count. -/
def execEyeScanPointDone (lane count : Nat) (s : State) : Host.Outcome State Fault Refusal :=
  onUnit (decide (lane < 1024)) lane
    (s.modLane lane fun x => { x with scan := x.scan.map fun c =>
       if c.status = 0 then
         let d := { c with counts := c.counts ++ [min count (2 ^ 32 - 1)], done := c.done + 1 }
         if d.done = d.phaseCount * d.voltCount then d.finish 1 s.clock.epoch s.now else d
       else c })

/-! ## Lane commands (R53) -/

def laneRange (n : Nat) (rest : Rule) : Rule := .need (decide (n < 1024)) (.access n) rest
def octetRange (n : Nat) (rest : Rule) : Rule := .need (decide (n < 128)) (.access n) rest

/-- Fields of R35 that a command may write; those of R37's last rule; FIR and AMP. -/
def laneWritable : BitVec 64 := BitVec.ofNat 64 (span 57 53 ||| span 51 14)
def laneQuiet : BitVec 64 := BitVec.ofNat 64 (span 54 53 ||| span 51 51 ||| span 49 40)
def laneFir : BitVec 64 := BitVec.ofNat 64 (span 57 56 ||| span 39 14)

/-- The state refuses the change of record `a` to `b` (R37). A change of TX_INV in TRAINING, which R37 neither refuses nor
lets take effect at once, is taken at once (DESIGN CHOICE, log 90). -/
def State.laneClash (s : State) (l : Nat) (a b : BitVec 64) : Bool :=
  let st := (s.lane l).st
  (st == .training && (a ^^^ b) &&& laneFir != 0)
    || (!(st == .disabled || st == .test || st == .retired) && (a ^^^ b) &&& laneQuiet != 0)
    || (st == .retired && (s.lane l).since == s.now)

/-- LANE_CONFIG_SET. -/
def cmdLaneConfigSet (lane : Nat) (record fields : BitVec 64) (trainMs serExp holdoffMs : Option Nat) : Cmd :=
  .set 0x0301 (lane, record, fields, trainMs, serExp, holdoffMs) fun _ s =>
    let old := (s.lane lane).cfg
    let r := merge old record (fields &&& laneWritable)
    let within (v : Option Nat) (lo hi : Nat) : Bool := match v with | some n => decide (lo ≤ n) && decide (n ≤ hi) | none => true
    laneRange lane <|
    .need (laneRecordOk r && within trainMs 100 5000 && within serExp 2 8 && within holdoffMs 10 1000) .param <|
    .need (!s.laneClash lane old r) .conflict <|
    .ok ((s.modLane lane fun x => { x with cfg := r }).modOctet (lane / 8) fun o =>
      { o with trainMs := trainMs.getD o.trainMs, serExp := serExp.getD o.serExp, holdoffMs := holdoffMs.getD o.holdoffMs })

/-- ORDER_STATE (R41). -/
def OrderState.code (o : OrderState) : Nat :=
  match o with | .pending => 0 | .decided => 1 | .assumed => 2 | .conflict => 3 | .forced => 4

/-- LANE_STATUS_GET: the record with LANE_STATE, ORDER_STATE, LaneSnr. -/
def cmdLaneStatusGet (lane : Nat) : Cmd :=
  .get 0x0302 lane fun _ s => laneRange lane <|
    .reply s [(setFld (s.lane lane).cfg 13 10 (s.lane lane).st.code).toNat, (s.octet (lane / 8)).orderState.code, (s.lane lane).snr]

/-- Counters of R47, in the table's order. -/
def laneCtrs (l : Nat) : List (Ctr × Nat) :=
  [(.laneSymErr, l), (.laneSer1s, l), (.laneLosCount, l), (.laneCdrUnlock, l), (.laneAmLockLoss, l),
   (.laneBringupRestart, l), (.laneTrainFail, l), (.laneUpEntries, l), (.lanePrbsErr, l)]

/-- LANE_STATS_GET. -/
def cmdLaneStatsGet (lane : Nat) (clear : Bool) : Cmd :=
  .stats 0x0303 clear (lane, clear) fun _ s => laneRange lane <| statsRule s (laneCtrs lane) [(s.lane lane).snr] clear

/-- Every point of a scan's grid lies on the sampler's range (R44). -/
def scanFits (start : Int) (step count lo hi : Nat) : Bool :=
  decide (-(lo : Int) ≤ start) && decide (start + (step * (count - 1) : Nat) ≤ (hi : Int))

/-- Scans running on a lane tile (R45). -/
def State.tileScans (s : State) (tile : Nat) : Nat :=
  ((List.range 128).filter fun i => match (s.lane (tile * 128 + i)).scan with | some c => c.status == 0 | none => false).length

/-- A scan begins on a lane under the next scan identifier (R45). -/
def startScan (lane : Nat) (c : Scan) (s : State) : State :=
  let t := s.modLane lane fun x => { x with scan := some c }
  { t with lp := { t.lp with scanNext := s.lp.scanNext + 1 } }

/-- EYE_SCAN_START (R44, R45). START_EPOCH is that of the acceptance, at which the first point's settling time begins
(DESIGN CHOICE, log 90). -/
def cmdEyeScanStart (lane eye : Nat) (phaseStart : Int) (phaseStep phaseCount : Nat) (voltStart : Int)
    (voltStep voltCount dwellExp : Nat) : Cmd :=
  .set 0x0304 (lane, eye, phaseStart, phaseStep, phaseCount, voltStart, voltStep, voltCount, dwellExp) fun _ s =>
    let rate := (s.octet (lane / 8)).rate
    let inR (v lo hi : Nat) : Bool := decide (lo ≤ v) && decide (v ≤ hi)
    let running := match (s.lane lane).scan with | some c => c.status == 0 | none => false
    laneRange lane <|
    .need (decide (eye < 3) && (rate != 3 || eye == 1) && inR phaseStep 1 64 && inR phaseCount 1 64 && inR voltStep 1 126
      && inR voltCount 1 127 && inR dwellExp 6 12 && scanFits phaseStart phaseStep phaseCount 32 31
      && scanFits voltStart voltStep voltCount 63 63) .param <|
    .need ((s.lane lane).st == .up) .conflict <|
    .need (!running && decide (s.tileScans (lane / 128) < 16)) .busy <|
    .val (startScan lane { id := s.lp.scanNext, rate := rate, eye := eye, phaseStart := phaseStart, phaseStep := phaseStep
                           phaseCount := phaseCount, voltStart := voltStart, voltStep := voltStep, voltCount := voltCount
                           dwellExp := dwellExp, status := 0, done := 0, startEpoch := s.clock.epoch, endEpoch := 0
                           counts := [], endedAt := 0 } s) s.lp.scanNext

/-- The lane that holds a scan. -/
def State.scanLane (s : State) (id : Nat) : Option (Nat × Scan) :=
  (s.lp.lanes.findSome? fun (e : Nat × Lane) => e.2.scan.bind fun c => if c.id = id then some (e.1, c) else none)

/-- A signed byte (R46). -/
def byteOf (i : Int) : Nat := (i % 256).toNat

/-- The result header of R46 as eight values of four bytes. -/
def Scan.header (c : Scan) (lane : Nat) : List Nat :=
  [lane * 65536 + c.rate * 256 + c.eye,
   byteOf c.phaseStart * 2 ^ 24 + c.phaseStep * 65536 + c.phaseCount * 256 + byteOf c.voltStart,
   c.voltStep * 2 ^ 24 + c.voltCount * 65536 + c.dwellExp * 256 + c.status, c.done * 65536,
   c.startEpoch / 2 ^ 32, c.startEpoch % 2 ^ 32, c.endEpoch / 2 ^ 32, c.endEpoch % 2 ^ 32]

/-- EYE_SCAN_READ: the header and `count` counts from point `first`. Points beyond the grid are refused with BAD_PARAM
(DESIGN CHOICE, log 90). -/
def cmdEyeScanRead (scan first count : Nat) : Cmd :=
  .get 0x0305 (scan, first, count) fun _ s =>
    match s.scanLane scan with
    | none => .missing
    | some (l, c) =>
      .need (decide (count ≤ 256) && decide (first + count ≤ c.phaseCount * c.voltCount)) .param <|
      .reply s (c.header l ++ (List.range count).map fun i => (c.counts[first + i]?).getD 0)

/-- EYE_SCAN_ABORT of a running scan (R45). An ended scan is refused with STATE_CONFLICT (DESIGN CHOICE, log 90). -/
def cmdEyeScanAbort (scan : Nat) : Cmd :=
  .set 0x0306 scan fun _ s =>
    match s.scanLane scan with
    | none => .missing
    | some (l, c) => .need (c.status == 0) .conflict (.ok (s.endScan l 2))

/-- LANE_RETIRE (R51). -/
def cmdLaneRetire (lane : Nat) : Cmd :=
  .set 0x0307 lane fun _ s => laneRange lane <|
    .need ((s.lane lane).st != .retired && !s.reactedNow (.lane lane)) .conflict (.ok (s.retireLane lane))

/-- A lane restored (R52): its permanence state and stamps are cleared and it calibrates again. -/
def State.restoreLane (s : State) (lane : Nat) (passes : Bool) : State :=
  let t := s.modLane lane fun x =>
    { x with permanent := false, stamps := [], upFor := 0, held := false, restartAt := none, squelched := false }
  if passes then t.idleLane lane else t.calFail lane

/-- The lane can be restored. -/
def State.mayRestoreLane (s : State) (lane : Nat) : Bool := (s.lane lane).st == .retired || (s.lane lane).st == .calFailed

/-- LANE_RESTORE (R52). -/
def cmdLaneRestore (lane : Nat) (passes : Bool) : Cmd :=
  .set 0x0308 (lane, passes) fun _ s => laneRange lane <|
    .need (s.mayRestoreLane lane && !s.reactedNow (.lane lane)) .conflict <|
    .val (s.restoreLane lane passes) (if passes then LaneState.disabled else LaneState.calFailed).code

/-- A pattern of the lane's modulation (R43): 0 OFF, 1 PRBS13Q, 2 PRBS31Q, 3 SSPRQ at PAM4, 4 PRBS31 at NRZ. -/
def patternOk (rate p : Nat) : Bool := p == 0 || (if rate = 3 then p == 4 else decide (p < 4))

/-- Every port that uses the lane is disabled, and the lane can be tested (R43). A lane that narrowing has left unused stays
DISABLED with its port enabled, as R70 says, and counts as the port's (DESIGN CHOICE, log 90). -/
def State.testable (s : State) (l : Nat) : Bool :=
  (match s.portOfLane l with | some p => !(s.port p).enabled | none => true)
    && ((s.lane l).st == .disabled || (s.lane l).st == .test)

/-- TEST is entered with a pattern or loopback, and left when all are OFF (R39, R43). -/
def State.retest (s : State) (l : Nat) : State :=
  let x := s.lane l
  let on := x.prbsGen != 0 || x.prbsChk != 0 || x.loopback != 0
  if on && x.st == .disabled then s.enterLane l .test false
  else if !on && x.st == .test then s.enterLane l .disabled false else s

/-- LANE_PRBS_SET. -/
def cmdLanePrbsSet (lane gen chk : Nat) : Cmd :=
  .set 0x0309 (lane, gen, chk) fun _ s =>
    let rate := (s.octet (lane / 8)).rate
    laneRange lane <| .need (patternOk rate gen && patternOk rate chk) .param <| .need (s.testable lane) .conflict <|
    .ok ((s.modLane lane fun x => { x with prbsGen := gen, prbsChk := chk }).retest lane)

/-- LANE_LOOPBACK_SET: mode 0 OFF, 1 NEAR, 2 FAR (DESIGN CHOICE, log 22). -/
def cmdLaneLoopbackSet (lane mode : Nat) : Cmd :=
  .set 0x030A (lane, mode) fun _ s =>
    laneRange lane <| .need (decide (mode < 3)) .param <| .need (s.testable lane) .conflict <|
    .ok ((s.modLane lane fun x => { x with loopback := mode }).retest lane)

/-- The receive order decision of an octet starts again (R41, R71): AUTO opens a window at once where a lane waits. -/
def State.restartOrder (s : State) (o mode : Nat) : State :=
  let waits := (List.range 8).any fun i => (s.lane (o * 8 + i)).st == .laneOrder
  let s := s.modOctet o fun x =>
    { x with orderMode := mode, orderState := if mode = 0 then .pending else .forced, reversed := decide (mode = 2)
             contrary := [], windowFrom := if mode = 0 && waits then some s.now else none }
  (List.range 8).foldl (fun s i =>
    s.modLane (o * 8 + i) fun x => if x.st = .laneOrder then { x with since := s.now } else x) s

/-- OCTET_ORDER_SET. -/
def cmdOctetOrderSet (octet mode : Nat) : Cmd :=
  .set 0x030B (octet, mode) fun _ s =>
    octetRange octet <| .need (decide (mode < 3)) .param <|
    .need (!((s.octetPorts octet).any fun p => (s.port p).linkUp)) .conflict <| .ok (s.restartOrder octet mode)

end Sys2Proof.Machine
end

