-- ==== Sys2Proof/Machine/Ports.lean ====
section
/-! DEFINITION. Ports, their MAC control frames and link state, narrowing, and the port commands (spec/03_ports.md). -/

namespace Sys2Proof.Machine

/-! ## Pause and PFC received (R63, R64) -/

/-- Core clocks of `q` quanta of 512 bit times at the port's MAC rate. -/
def State.quantaClocks (s : State) (p q : Nat) : Nat :=
  let r := 1000 * s.macRate p
  (32768 * q + r - 1) / r

/-- A pause timer loaded: the load before this tick's stays visible until the next tick (R64). -/
def State.loadTimer (s : State) (p timer q : Nat) : State :=
  let e := s.now + s.quantaClocks p q
  s.modPort p fun x =>
    let seen := (x.pause.find? fun (y : Nat × Nat × Nat) => y.1 == timer && decide (y.2.2 < s.tickStamp)).toList
    { x with pause := (timer, e, s.tickStamp) :: (seen ++ x.pause.filter fun (y : Nat × Nat × Nat) => y.1 != timer) }

/-- Priorities enabled in a PFC frame. -/
def ctlPrios (c : MacCtl) : List Nat := (List.range 8).filter fun i => bit c.enables i

/-- Priorities of the frame that act (R63). -/
def State.pfcActs (s : State) (p : Nat) (c : MacCtl) : List Nat :=
  if s.flowMode p = 2 then (ctlPrios c).filter fun i => s.pfcRx p i else []

/-- A pause frame with a good FCS. -/
def State.takePause (s : State) (p : Nat) (c : MacCtl) : State :=
  let s := s.bump .rxPause p
  if s.flowMode p = 1 then s.loadTimer p 8 (c.quanta.headD 0) else s.bump .rxFlowIgnored p

/-- A PFC frame with a good FCS. -/
def State.takePfc (s : State) (p : Nat) (c : MacCtl) : State :=
  let acts := s.pfcActs p c
  let s := (ctlPrios c).foldl (fun s i => s.bump .rxPfc (p * 8 + i)) s
  let s := acts.foldl (fun s i => s.loadTimer p i ((c.quanta[i]?).getD 0)) s
  if acts.isEmpty || acts.length != (ctlPrios c).length then s.bump .rxFlowIgnored p else s

/-- A MAC control frame received (R63). -/
def State.takeControl (s : State) (p : Nat) (c : MacCtl) : State :=
  if c.len < 64 then s.bump .rxRunt p
  else if s.maxFrameOf p c.len < c.len then s.bump .rxOversize p
  else if !c.fcsOk || decide (0 < c.fecBad) || c.truncated then s.bump .rxFcsErr p
  else
    let s := s.countRxOk p c.len c.cast
    if c.opcode = 0x0001 then s.takePause p c
    else if c.opcode = 0x0101 then s.takePfc p c
    else s.bump .rxMacCtlUnknown p

/-- MAC_CONTROL_FRAME_RX (R63): a port with its raw link up receives the frame, or one that its fall cut (R68). The codewords
are those since the report before, idle between frames included (R73, log 104). -/
def execMacControlFrameRx (port : Nat) (c : MacCtl) (s : State) : Host.Outcome State Fault Refusal :=
  onUnit (decide (port < 1024)) port
    (if (s.port port).rawUp || c.truncated then
       ((s.bumpBy .rxFecUncorrected port c.fecBad).bumpBy .rxFecCorrected port c.fecFixed).takeControl port c
     else s)

/-- PAUSE_TIMER_EXPIRY (R64): a timer that has run out is no longer held. -/
def execPauseTimerExpiry (port timer : Nat) (s : State) : Host.Outcome State Fault Refusal :=
  onUnit (decide (port < 1024) && decide (timer < 9)) port
    (match (s.port port).pause.find? fun e => e.1 == timer with
     | some e =>
       if e.2.1 ≤ s.now then s.modPort port fun x => { x with pause := x.pause.filter fun y => y.1 != timer } else s
     | none => s)

/-! ## Pause and PFC sent (R65, R221) -/

/-- The MAC sends pause or PFC frames for a priority: in the modes of R65, on a port whose raw link is up, and outside
ISOLATED (R430). -/
def State.sendsFlow (s : State) (p prio : Nat) : Bool :=
  (s.port p).rawUp && s.cmd.dev != .isolated
    && (if s.flowMode p = 1 then prio == 0 else s.flowMode p == 2 && s.pfcTx p prio)

/-- Core clocks of the 84 bytes that a pause or PFC frame takes on the wire (R65). -/
def State.flowClocks (s : State) (p : Nat) : Nat := s.wireClocks p 84

/-- One pause or PFC frame starts (R65). It follows the frames of its kind that are being sent. -/
def State.putFlow (s : State) (p prio quanta : Nat) : State :=
  if s.sendsFlow p prio then
    let e := max (s.port p).flowUntil s.now + s.flowClocks p
    s.modPort p fun x => { x with flowUntil := e, flowSent := x.flowSent ++ [(e, prio, quanta)] }
  else s

/-- The pause and PFC frames of every port whose last byte is out count. -/
def State.endAllFlows (s : State) : State :=
  (s.lp.ports.keysWhere fun _ x => x.flowSent.any fun e => decide (e.1 ≤ s.now)).foldl (fun t p => t.endFlows p) s

/-- A pause or PFC frame goes out between data frames: behind the frame in transmission, ahead of any queued data (R65). -/
def State.sendFlow (s : State) (p prio quanta : Nat) : State :=
  if (s.sending p).isSome && s.sendsFlow p prio then
    s.modPort p fun x => { x with flowDue := x.flowDue ++ [(prio, quanta)] }
  else s.putFlow p prio quanta

/-- The pause and PFC frames that waited for the end of a data frame. -/
def State.sendDueFlow (s : State) (p : Nat) : State :=
  let l := (s.port p).flowDue
  l.foldl (fun s e => s.putFlow p e.1 e.2) (s.modPort p fun x => { x with flowDue := [] })

/-- The MAC is taken up by pause or PFC frames (R65). -/
def State.flowBusy (s : State) (p : Nat) : Bool := decide (s.now < (s.port p).flowUntil) || !(s.port p).flowDue.isEmpty

/-- The standing request of a port and priority: core clock of the last XOFF. -/
def State.xoffAt (s : State) (p prio : Nat) : Option Nat := ((s.port p).xoff.find? fun e => e.1 == prio).map (·.2)

def State.putXoff (s : State) (p prio : Nat) (t : Option Nat) : State :=
  s.modPort p fun x => { x with xoff := (t.map fun n => (prio, n)).toList ++ x.xoff.filter fun e => e.1 != prio }

/-- XOFF_REQUEST (R221): the count at the end of the last tick has reached XOFF_CELLS, or fallen to XON_CELLS. -/
def execXoffRequest (port prio : Nat) (s : State) : Host.Outcome State Fault Refusal :=
  let k := port * 8 + prio
  let v := s.pk.prev.pg.get 0 k
  onUnit (decide (port < 1024) && decide (prio < 8)) port
    (match s.xoffAt port prio with
     | none =>
       if (s.pg k).xoff ≤ v then
         ((s.bump .pgXoff k).putXoff port prio (some s.now)).sendFlow port prio (s.pauseQuanta port)
       else s
     | some _ => if v ≤ (s.pg k).xon then (s.putXoff port prio none).sendFlow port prio 0 else s)

/-- XOFF_RESEND (R65): half of PAUSE_QUANTA has elapsed since the last XOFF of a standing request. -/
def execXoffResend (port prio : Nat) (s : State) : Host.Outcome State Fault Refusal :=
  onUnit (decide (port < 1024) && decide (prio < 8)) port
    (match s.xoffAt port prio with
     | some t =>
       if 2 * t + s.quantaClocks port (s.pauseQuanta port) ≤ 2 * s.now ∧ s.sendsFlow port prio then
         (s.putXoff port prio (some s.now)).sendFlow port prio (s.pauseQuanta port)
       else s
     | none => s)

/-! ## Auto-negotiation and the raw link (R66, R67) -/

/-- Ability codes (DESIGN CHOICE, log 24): rate x 64 + width x 4 + medium, medium 0 backplane (KR), 1 copper cable (CR). -/
def abilityCode (rate width medium : Nat) : Nat := rate * 64 + width * 4 + medium

/-- The abilities a port advertises (R66); those of 25GBASE-R name the FEC ability of FEC_MODE, RS-FEC or none, as 0 or 2
beside the medium (log 24). -/
def abilities (rate width fec : Nat) : List Nat :=
  if (rate = 2 ∧ width = 8) ∨ (rate = 3 ∧ width ≠ 1 ∧ width ≠ 4) then []
  else
    let f := if rate = 3 ∧ width = 1 ∧ fec = 1 then 2 else 0
    [abilityCode rate width f, abilityCode rate width (f + 1)]

/-- AN_RESOLVE (R66): negotiation of an enabled port whose link is down ends, with a shared ability or without one. -/
def execAnResolve (port : Nat) (partner : List Nat) (s : State) : Host.Outcome State Fault Refusal :=
  onUnit (decide (port < 1024)) port
    (if (s.port port).enabled && s.anEnabled port && !(s.port port).linkUp then
       match (abilities (s.portRate port) (s.portLanes port).2 (fld (s.port port).cfg 4 3)).find? fun a => partner.contains a with
       | some a => s.modPort port fun x => { x with ability := some a }
       | none => (s.modPort port fun x => { x with ability := none }).note srcPortAnNoCommon port 0
     else s)

/-- The MAC sends remote fault while the PCS detects a local fault (R67). -/
def State.setRemoteFault (s : State) (p : Nat) (on : Bool) : State :=
  let l := s.lp.sendsRemoteFault.filter (· != p)
  { s with lp.sendsRemoteFault := if on then p :: l else l }

/-- RAW_LINK_CHANGE (R67): what the PCS of an enabled port sees. -/
def execRawLinkChange (port : Nat) (aligned localFault remoteFault : Bool) (s : State) : Host.Outcome State Fault Refusal :=
  let q := s.port port
  onUnit (decide (port < 1024)) port
    (if q.enabled then
       let t := s.modPort port fun x =>
         { x with aligned := aligned, localFault := localFault, remoteFault := remoteFault }
       let t := t.setRemoteFault port localFault
       let t := if localFault && !q.localFault then t.note srcPortLocalFault port 0 else t
       let t := if remoteFault && !q.remoteFault then t.note srcPortRemoteFault port 0 else t
       t.reraw port
     else s)

/-- LINK_DOWN_DEBOUNCE_EXPIRY (R68). -/
def execLinkDownDebounceExpiry (port : Nat) (s : State) : Host.Outcome State Fault Refusal :=
  let q := s.port port
  onUnit (decide (port < 1024)) port
    (if q.linkUp && !q.rawUp && s.downExpired port then s.linkDown port else s)

/-! ## Changes at the boundary -/

/-- Every lane that the port uses enters a state, other than lanes retired, failed or in TEST. -/
def State.sendLanes (s : State) (ls : List Nat) (st : LaneState) : State :=
  ls.foldl (fun s l =>
    let x := (s.lane l).st
    if x = .retired ∨ x = .calFailed ∨ x = .test then s else s.enterLane l st false) s

/-- Every queue of a port flushed (R311). -/
def State.flushPort (s : State) (p : Nat) : State :=
  (s.portQueues p).foldl (fun s q => s.flushQueue p q .mcastDropDown) s

/-- PORT_ENABLE OFF at its boundary (R69): lanes DISABLED, queues flushed, PORT_LINK_DOWN where the link was UP. -/
def State.stopPort (s : State) (p : Nat) : State :=
  let was := (s.port p).linkUp
  let s := s.modPort p fun x => { x with enabled := false }
  let s := (s.sendLanes (s.lanesOf p) .disabled).reraw p
  let s := s.modPort p fun x =>
    { x with linkUp := false, aligned := false, localFault := false, remoteFault := false, ability := none, pause := []
             xoff := [] }
  let s := (s.setRemoteFault p false).flushPort p
  let s := s.modEport p fun e => { e with downAt := some s.tickStamp, downDue := false, holding := false }
  if was then s.note srcPortLinkDown p 0 else s

/-- PORT_ENABLE ON (R69): bring-up starts at SIGNAL_DETECT. -/
def State.startPort (s : State) (p : Nat) : State :=
  if (s.port p).enabled then s
  else
    let s := s.modPort p fun x => { x with enabled := true }
    s.sendLanes (s.lanesOf p) .signalDetect

def State.applyPortEnable (s : State) (p : Nat) (on : Bool) : State :=
  if on then (if s.isPort p && s.sliceLive (p / 64) then s.startPort p else s)
  else if (s.port p).enabled then s.stopPort p else s

/-- The record of R59 as PORT_CONFIG_SET leaves it. -/
def portWritable : BitVec 64 := BitVec.ofNat 64 (2 ^ 64 - 1)

def State.applyPortConfig (s : State) (p : Nat) (record fields : BitVec 64) : State :=
  s.modPort p fun x =>
    let r := merge x.cfg record fields
    { x with cfg := r
             maxPast := if fld r 63 50 = fld x.cfg 63 50 then x.maxPast
               else ((fld x.cfg 63 50, s.now) :: x.maxPast).take 4 }

/-- The widest group of R70: first lane and width. -/
def State.narrowGroup (s : State) (p : Nat) : Option (Nat × Nat) :=
  let a := s.portLanes p
  let fits (w : Nat) : Option (Nat × Nat) :=
    if widthOk (s.portRate p) w && decide (2 * w ≤ a.2) then
      ((((List.range (a.2 / w)).map fun i => a.1 + i * w).find? fun f =>
        (List.range w).all fun j => (s.lane (f + j)).st != .retired)).map fun f => (f, w)
    else none
  [4, 2, 1].findSome? fits

/-- Narrowing at its boundary (R70). -/
def State.applyNarrow (s : State) (p : Nat) : State :=
  if s.isPort p && (s.lanesOf p).any fun l => (s.lane l).st == .retired then
    match s.narrowGroup p with
    | none => s
    | some g =>
      let out := (s.lanesOf p).filter fun l => !(decide (g.1 ≤ l) && decide (l < g.1 + g.2))
      let s := s.modPort p fun x => { x with narrowed := some g }
      let s := (s.sendLanes out .disabled).note srcPortNarrowed p (BitVec.ofNat 64 (g.2 <<< 16 ||| g.1))
      s.reraw p
  else s

/-- A port of the new layout that keeps running: same rate, and the first lane and width in use (R71). -/
def State.keepsPort (s : State) (rate : Nat) (mask : BitVec 8) (p : Nat) : Bool :=
  s.isPort p && bit mask (p % 8) && s.portRate p == rate && s.portLanes p == (p, widthAt mask (p % 8))

/-- The records of a port's queues at their reset values (R287). -/
def State.resetQueues (s : State) (p : Nat) : State :=
  let s := s.modEport p fun e => { e with cfg := none, tcMap := none }
  let own (s : State) (q : Nat) : State := s.modEqueue q fun x => { x with admitRec := none, sched := none, shaper := Shaper.init }
  let s := (List.range 8).foldl (fun s i => own s (8 * p + i)) s
  let s := if s.qp p = 16 then (List.range 8).foldl (fun s i => own s (8 * p + 8 + i)) s else s
  (own s (mcastQueue p)).modEport p fun e => { e with shaper := Shaper.init }

/-- PORT_MODE_SET at its boundary (R71): kept ports go on, the others start disabled with reset records; scans end, and the
receive order is decided anew (R41, R45). A lane in TEST keeps its pattern, also one of another modulation than the new
rate's (DESIGN CHOICE, log 90). -/
def State.applyPortMode (s : State) (o rate : Nat) (mask : BitVec 8) : State :=
  let new := (starts mask).map fun k => o * 8 + k
  let gone := (List.range 8).map fun i => o * 8 + i
  let kept := new.filter fun p => s.keepsPort rate mask p
  let s := (List.range 8).foldl (fun s i => s.endScan (o * 8 + i) 3) s
  let s := s.modOctet o fun x => { x with rate := rate, mask := mask }
  let s := (gone.filter fun p => !kept.contains p).foldl (fun s p => s.putPort p Port.init) s
  let s := kept.foldl (fun s p => s.modPort p fun x => { x with narrowed := none }) s
  let s := (new.filter fun p => !kept.contains p).foldl (fun s p => s.resetQueues p) s
  s.restartOrder o (s.octet o).orderMode

/-! ## Port commands (R74) -/

/-- The checks of R56. -/
def portRange (s : State) (p : Nat) (rest : Rule) : Rule :=
  .need (decide (p < 1024)) (.access p) (.need (s.isPort p) .missing rest)

/-- The ports of an octet that a new layout changes or removes are disabled, or every one where the rate changes (R71). -/
def State.modeFree (s : State) (o rate : Nat) (mask : BitVec 8) : Bool :=
  (s.octetPorts o).all fun p => !(s.port p).enabled || s.keepsPort rate mask p

/-- A port that would disappear, or whose first lane would change, owns an SC (R71, R77). -/
def State.losesSc (s : State) (o : Nat) (mask : BitVec 8) : Bool :=
  let lost (p : Nat) : Bool := p / 8 == o && !bit mask (p % 8)
  (s.cipher.rxSc.any fun (e : Nat × Sc) => e.2.valid && lost e.2.port)
    || s.cipher.txSc.any fun (e : Nat × Sc) => e.2.valid && lost e.2.port

/-- The queue mode of an octet once the changes due have taken effect (R286, R287). -/
def State.q16Due (s : State) (o : Nat) : Bool :=
  let due := s.changes.filterMap fun x => match x.change with | .queueMode i m => if i = o then some m else none | _ => none
  due.getLast?.getD (s.octet o).q16

/-- PORT_MODE_SET (R54, R71, R287). -/
def cmdPortModeSet (octet rate : Nat) (mask : BitVec 8) : Cmd :=
  .set 0x0201 (octet, rate, mask) fun _ s =>
    octetRange octet <| .need (layoutOk rate mask) .param <| .need (s.modeFree octet rate mask) .conflict <|
    .need (!(s.q16Due octet && hasOddStart mask)) .conflict <| .need (!s.losesSc octet mask) .conflict <|
    .at ([objOctet octet] ++ (List.range 8).map fun i => objPort (octet * 8 + i)) s
      [.portMode octet rate mask]

/-- The record of R59 is in range at the port's rate. -/
def portRecordOk (rate : Nat) (r : BitVec 64) : Bool :=
  decide (1518 ≤ fld r 63 50) && decide (fld r 63 50 ≤ 10240) && decide (fld r 49 48 < 3)
    && (fld r 4 3 == 0 || (fld r 4 3 == 1 && rate == 3))

/-- PORT_CONFIG_SET (R59, R60). -/
def cmdPortConfigSet (port : Nat) (record fields : BitVec 64) : Cmd :=
  .set 0x0202 (port, record, fields) fun _ s =>
    let old := (s.port port).cfg
    let r := merge old record (fields &&& portWritable)
    .need (decide (port < 1024)) (.access port) <| .need (portRecordOk (s.portRate port) r) .param <|
    .need (s.isPort port) .missing <|
    .need (!(s.port port).enabled || (fld (r ^^^ old) 5 3 == 0)) .conflict <|
    .at [objPort port] s [.portConfig port record fields]

/-- PORT_ENABLE (R69). -/
def cmdPortEnable (port : Nat) (on : Bool) : Cmd :=
  .set 0x0203 (port, on) fun _ s => portRange s port (.at [objPortEnable port] s [.portEnable port on])

/-- Link state as PORT_STATUS_GET gives it (DESIGN CHOICE, log 16): bit 0 UP, 1 raw up, 2 local fault, 3 remote fault, 4
enabled. -/
def Port.flags (q : Port) : Nat :=
  b2n q.linkUp + 2 * b2n q.rawUp + 4 * b2n q.localFault + 8 * b2n q.remoteFault + 16 * b2n q.enabled

/-- PORT_STATUS_GET: the record, width, first lane, link state and faults, and the ability plus one. -/
def cmdPortStatusGet (port : Nat) : Cmd :=
  .get 0x0204 port fun _ s => portRange s port <|
    let q := s.port port
    .reply s [q.cfg.toNat, (s.portLanes port).2, (s.portLanes port).1, q.flags, (q.ability.map (· + 1)).getD 0]

def portCtrsA : List Ctr :=
  [.rxFramesOk, .txFramesOk, .rxOctetsOk, .txOctetsOk, .rxUnicast, .rxMulticast, .rxBroadcast, .txUnicast, .txMulticast,
    .txBroadcast]

def portCtrsB : List Ctr := [.rxRunt, .rxOversize, .rxFcsErr, .rxFecCorrected, .rxFecUncorrected, .rxPause, .txPause]

def portCtrsC : List Ctr :=
  [.rxFlowIgnored, .rxMacCtlUnknown, .txOversizeDrop, .txOversizeStomp, .txStomped, .txLinkLost, .linkDownEvents,
    .linkFlapSuppressed, .txStompRollback, .txStompPoison, .txStompReseq, .txStompEarly, .cutThroughStarted,
    .cutThroughUnderrun, .mcastDropQueue, .mcastDropDown, .mcastDropHold, .mcastDropLate]

/-- Counters of PORT_STATS_GET (R73, R208, R257). -/
def portCtrs (p : Nat) : List (Ctr × Nat) :=
  [(portCtrsA, 1, 1), ([Ctr.rxSize], 16, 10), ([Ctr.txSize], 16, 10), (portCtrsB, 1, 1), ([Ctr.rxPfc], 8, 8), ([Ctr.txPfc], 8, 8),
    (portCtrsC, 1, 1)].flatMap fun (g : List Ctr × Nat × Nat) =>
      g.1.flatMap fun c => (List.range g.2.2).map fun i => (c, p * g.2.1 + i)

/-- PORT_STATS_GET. -/
def cmdPortStatsGet (port : Nat) (clear : Bool) : Cmd :=
  .stats 0x0205 clear (port, clear) fun _ s => portRange s port (statsRule s (portCtrs port) [] clear)

/-- OCTET_LAYOUT_GET: rate, START_MASK, and the enables as bits 0 to 7. -/
def cmdOctetLayoutGet (octet : Nat) : Cmd :=
  .get 0x0206 octet fun _ s => octetRange octet <|
    .reply s [(s.octet octet).rate, (s.octet octet).mask.toNat,
      ((List.range 8).map fun i => b2n (s.port (octet * 8 + i)).enabled * 2 ^ i).sum]

end Sys2Proof.Machine
end

