-- ==== Sys2Proof/Machine/Cipher.lean ====
section
/-! DEFINITION. Secure channels and associations, duplicate computation and tamper alarms, the lookaside engine, and the
cipher commands (spec/04_link_cipher.md). -/

namespace Sys2Proof.Machine

/-- An authentication check (class 3 of R348). -/
def needAuth (ok : Bool) (rest : Rule) : Rule := .need ok .auth rest

/-! ## Secure channels and associations (R77, R80) -/

def State.sc (s : State) (dir n : Nat) : Sc := if dir = 0 then s.rxSc n else s.txSc n
def State.putSc (s : State) (dir n : Nat) (x : Sc) : State := if dir = 0 then s.putRxSc n x else s.putTxSc n x
def State.sa (s : State) (dir n : Nat) : Sa := if dir = 0 then s.rxSa n else s.txSa n
def State.putSa (s : State) (dir n : Nat) (x : Sa) : State := if dir = 0 then s.putRxSa n x else s.putTxSa n x

/-- SCs of an octet, and of the device, in a direction. -/
def scPerOctet (dir : Nat) : Nat := if dir = 0 then 32 else 16
def scCount (dir : Nat) : Nat := 128 * scPerOctet dir

/-- Line engine of an SC. -/
def scEngine (dir sc : Nat) : Nat := sc / scPerOctet dir * 2 + dir

/-- The objects of R21: an SC, an SA. -/
def objScDir (dir sc : Nat) : Nat × Nat := objSc (dir * 2 ^ 20 + sc)
def objSa (dir sa : Nat) : Nat × Nat := (29, dir * 2 ^ 20 + sa)

/-- Address of an SA in the SA store (R436). -/
def saAddr (dir sa : Nat) : BitVec 64 := faultAddr 9 dir sa

/-- A word of an array is written whole, and poison in it is gone. -/
def State.unpoison (s : State) (a : BitVec 64) : State :=
  { s with faults.poisoned := s.faults.poisoned.filter (· != a) }

/-- An SA is installed on the SC, or its installation is due. -/
def State.scHolds (s : State) (dir sc : Nat) : Bool :=
  ((List.range 4).any fun an => (s.sa dir (sc * 4 + an)).present)
    || s.changes.any fun p => match p.change with | .saInstall q _ => q.dir == dir && q.sc == sc | _ => false

/-- Some SC of the port holds an SA (R79). -/
def State.portHoldsSa (s : State) (port : Nat) : Bool :=
  [0, 1].any fun dir => (List.range (scPerOctet dir)).any fun i =>
    let n := port / 8 * scPerOctet dir + i
    (s.sc dir n).valid && (s.sc dir n).port == port && s.scHolds dir n

/-- The largest PN of a suite (R80). -/
def maxPn (xpn : Bool) : Nat := if xpn then 2 ^ 64 - 1 else 2 ^ 32 - 1

/-- PN_THRESHOLD of a transmit SC (R90). -/
def State.pnThreshold (s : State) (sc : Nat) : Nat :=
  let x := s.txSc sc
  x.pnThreshold.getD (if s.xpn x.port then 0xC000_0000_0000_0000 else 0xC000_0000)

/-- The lowest acceptable PN of a receive SA (R82). -/
def State.lowestPn (s : State) (sa : Nat) : Nat := max 1 ((s.rxSa sa).pn - (s.rxSc (sa / 4)).replayWindow)

/-- A transmit SA has used its last PN (R90). -/
def State.pnExhausted (s : State) (sa : Nat) : Bool := decide (maxPn (s.xpn (s.txSc (sa / 4)).port) < (s.txSa sa).pn)

/-- SA_PN_TAKE (R90): the next PN is taken; reaching PN_THRESHOLD raises SA_PN_THRESHOLD once, and using the last PN raises
SA_PN_EXHAUSTED. -/
def State.takePn (s : State) (sa : Nat) : State :=
  let x := s.txSa sa
  let hit := !x.threshRaised && decide (s.pnThreshold (sa / 4) ≤ x.pn + 1)
  let s := s.putTxSa sa { x with pn := x.pn + 1, threshRaised := x.threshRaised || hit }
  let s := if hit then s.note srcSaPnThreshold sa 0 else s
  if s.pnExhausted sa then s.note srcSaPnExhausted sa 0 else s

/-! ## Changes at the boundary -/

def State.applyCipherPort (s : State) (p : Nat) (record fields : BitVec 64) : State :=
  (s.putCipherPast p (((s.cipherPort p, s.now) :: s.cipherPast p).take 4)).modCipherPort p fun r => merge r record fields

def State.applyScSet (s : State) (sc dir : Nat) (rp : Option Bool) (win thr : Option Nat) : State :=
  let x := s.sc dir sc
  if x.valid then
    s.putSc dir sc { x with replayProtect := rp.getD x.replayProtect, replayWindow := win.getD x.replayWindow
                            pnThreshold := thr.or x.pnThreshold }
  else s

def State.applyScDelete (s : State) (sc dir : Nat) : State := s.putSc dir sc Sc.init

/-- The SA becomes usable (R80); keys erased since its acceptance leave it ERASED (R94). -/
def State.applySaInstall (s : State) (p : SaParams) (key : BitVec 256) : State :=
  let e := (s.cengine (scEngine p.dir p.sc)).erased
  let n := p.sc * 4 + p.an
  (s.putSa p.dir n { present := true, erased := e, key := if e then 0 else key, salt := if e then 0 else p.salt
                     ssci := p.ssci, pn := p.pn, threshRaised := false }).unpoison (saAddr p.dir n)

/-- SA_DELETE zeroes the key material (R81). -/
def State.applySaDelete (s : State) (sc dir an : Nat) : State := (s.putSa dir (sc * 4 + an) Sa.init).unpoison (saAddr dir (sc * 4 + an))

def State.applySaSelect (s : State) (sc an : Nat) : State := s.modTxSc sc fun x => { x with enc := some an }

/-! ## Lookaside messages (R95, R96) -/

/-- The reply of a host message's command, where the message has one. -/
def State.laAnswer (s : State) (id status : Nat) (payload : List Nat) : State :=
  match s.cipher.works.find? fun w => w.id == id with
  | none => s
  | some w =>
    let s := { s with cipher := { s.cipher with works := s.cipher.works.filter fun x => x.id != id } }
    s.reply w.hdr 0x0811 status 0 0 0 payload

/-- The messages that could run: those suspended, and those waiting whose context holds no suspended one (R96). -/
def State.laReady (s : State) : List LaJob :=
  s.cipher.ctx.filterMap (fun (e : Nat × LaCtx) => e.2.suspended)
    ++ s.cipher.waiting.filter fun j => (s.laCtx j.msg.ctx).suspended.isNone

/-- The better of two: the higher priority, then the earlier arrival (R96). -/
def betterJob (a b : LaJob) : LaJob :=
  if a.msg.prio < b.msg.prio then b else if b.msg.prio < a.msg.prio then a else if b.seq < a.seq then b else a

/-- The message that should run next (R96). -/
def State.laTop (s : State) : Option LaJob :=
  s.laReady.foldl (fun b j => match b with | none => some j | some x => some (betterJob x j)) none

/-- The host command that a message serves. -/
def State.laWork (s : State) (id : Nat) : Option LaWork := s.cipher.works.find? fun w => w.id == id

/-- A message starts, or resumes from its suspension slot; its context takes its IV. -/
def State.laStart (s : State) (j : LaJob) : State :=
  let s := s.modLaCtx j.msg.ctx fun c => if c.suspended = some j then { c with suspended := none } else c
  let s := match s.laWork j.msg.id with
    | some w => s.modLaCtx w.ctx fun c => { c with iv := w.iv }
    | none => s
  { s with cipher := { s.cipher with waiting := s.cipher.waiting.filter (· != j), running := some j, runFrom := s.now } }

/-- AES blocks of a message with `aad` and `data` ahead of its first block of data (R95). -/
def aadBlocks (aad : List Byte) : Nat := (aad.length + 15) / 16

/-- Counter block, GHASH accumulator and byte offset of a host message after `n` of its blocks, its additional data first
(R96). Key wrap has no counter: its slot holds the steps done and the word it is at (log 22). -/
def laSlot (key : BitVec 256) (w : LaWork) (n : Nat) : Nat × Nat × Nat :=
  let k := n - aadBlocks w.aad
  let text := if w.op = 0 then gcmCrypt key w.iv w.data else w.data.take (w.data.length - 16)
  let h := aesEnc key 0
  if w.op < 2 then (ctrBlock (gcmStart w.iv) (k + 1), ghash h 0 ((toBlocks w.aad ++ toBlocks text).take n), 16 * k)
  else if w.op = 4 then (ctrBlock (w.iv.toNat * 2 ^ 32 + Config.ctrFirst.toNat) n, 0, 16 * n)
  else (n, 0, 8 * (n % max 1 (w.data.length / 8)))

/-- AES blocks of an LA_CRYPT message: its additional data and its data, or the six of RFC 3394 for each 64-bit word wrapped
or unwrapped (R95). -/
def laBlocks (op : Nat) (aad data : List Byte) : Nat :=
  if op = 2 then 6 * (data.length / 8)
  else if op = 3 then 6 * (data.length / 8 - 1)
  else if op = 1 then aadBlocks aad + (data.length - 16 + 15) / 16
  else aadBlocks aad + (data.length + 15) / 16

/-- The running message goes to its context's suspension slot with what it has done, 8 blocks a clock (R95, R96). Of a message
that no command here carries, the saved blocks are free values. -/
def State.laSuspend (s : State) (j : LaJob) : State :=
  let n := min j.msg.blocks (j.done + 8 * (s.now - s.cipher.runFrom))
  let k := { j with done := n }
  match s.laWork j.msg.id with
  | some w =>
    s.modLaCtx j.msg.ctx fun c =>
      let x := laSlot c.key w n
      { c with suspended := some k, suspendedAt := s.now, ctrBlock := BitVec.ofNat 128 x.1, ghash := BitVec.ofNat 128 x.2.1
               offset := x.2.2 }
  | none =>
    s.draw.draw.modLaCtx j.msg.ctx fun c =>
      { c with suspended := some k, suspendedAt := s.now, ctrBlock := s.freeVal 128, ghash := s.draw.freeVal 128, offset := 16 * n }

/-- The engine starts messages: neither erased nor fenced (R99, R429). -/
def State.laLive (s : State) : Bool := !(s.cengine 256).erased && !(s.cengine 256).fenced

/-- The engine takes the message it should run (R96): a higher priority suspends the running one, where its context's slot is
free for it (log 106). -/
def State.laSchedule (s : State) : State :=
  if !s.laLive then s
  else match s.laTop, s.cipher.running with
    | none, _ => s
    | some j, none => s.laStart j
    | some j, some x =>
      if x.msg.prio < j.msg.prio ∧ (s.laCtx x.msg.ctx).suspended.isNone then (s.laSuspend x).laStart j else s

/-- A message enters the engine's queue. -/
def State.laRequest (s : State) (m : LaMsg) : State :=
  State.laSchedule { s with cipher := { s.cipher with
    laNext := s.cipher.laNext + 1, waiting := s.cipher.waiting ++ [{ seq := s.cipher.laNext, msg := m, done := 0 }] } }

/-- LA_MESSAGE_REQUEST (R96). -/
def execLaMessageRequest (m : LaMsg) (s : State) : Host.Outcome State Fault Refusal :=
  onUnit (decide (m.ctx < 64) && decide (m.prio < 4)) m.ctx (s.laRequest m)

/-- Bytes as 64-bit words, most significant byte first. -/
def toWords (l : List Byte) : List Nat := (chunks 8 l.length l).map ofBytes
def ofWords (l : List Nat) : List Byte := l.flatMap (beBytes 8)

/-- Output and tag of a host message (R95); none where a tag or an unwrap fails. The text of operation 1 ends with its tag, and
key wrap and CTR have none (log 22). -/
def laOutput (key : BitVec 256) (w : LaWork) : Option (List Byte × List Byte) :=
  match w.op with
  | 0 =>
    let t := gcmCrypt key w.iv w.data
    some (t, beBytes 16 (gcmTag key w.iv w.aad t).toNat)
  | 1 =>
    let n := w.data.length - 16
    (gcmOpen key w.iv w.aad (w.data.take n) (BitVec.ofNat 128 (ofBytes (w.data.drop n)))).map fun t => (t, w.data.drop n)
  | 2 => some (ofWords (keyWrap key (toWords w.data)), [])
  | 3 => (keyUnwrap key (toWords w.data)).map fun t => (ofWords t, [])
  | _ => some (aesCtr key (w.iv.toNat * 2 ^ 32 + Config.ctrFirst.toNat) w.data, [])

/-- What LA_CRYPT answers: output and tag, by the key the context holds now (DESIGN CHOICE, log 106); an unwrap or decryption
whose check fails is refused. -/
def State.laResult (s : State) (w : LaWork) : State :=
  match laOutput (s.laCtx w.ctx).key w with
  | some r => s.laAnswer w.id stOk ((r.1 ++ r.2).map (·.toNat))
  | none => s.laAnswer w.id stAuthFailed []

/-- LA_MESSAGE_COMPLETE (R96): the running message has had its blocks; the next resumes or starts. -/
def execLaMessageComplete (s : State) : Host.Outcome State Fault Refusal :=
  .next (match s.cipher.running with
    | none => s
    | some j =>
      if s.cipher.runFrom + (j.msg.blocks - j.done + 7) / 8 ≤ s.now then
        let t := { s with cipher := { s.cipher with running := none } }
        let t := match t.laWork j.msg.id with
          | some w => t.laResult w
          | none => t
        t.laSchedule
      else s)

/-- The context whose suspension slot holds a message. -/
def State.laHolder (s : State) (id : Nat) : Option (LaCtx × LaJob) :=
  s.cipher.ctx.findSome? fun (e : Nat × LaCtx) =>
    e.2.suspended.bind fun j => if j.msg.id = id then some (e.2, j) else none

/-- LA_PRIORITY_AGE (R96): a message suspended for 256 ticks rises one level, up to level 2. -/
def execLaPriorityAge (id : Nat) (s : State) : Host.Outcome State Fault Refusal :=
  .next (match s.laHolder id with
    | none => s
    | some (c, j) =>
      if c.suspendedAt + 512 ≤ s.now ∧ j.msg.prio < 2 then
        (s.modLaCtx j.msg.ctx fun c =>
          { c with suspended := some { j with msg := { j.msg with prio := j.msg.prio + 1 } }, suspendedAt := s.now }).laSchedule
      else s)

/-- Every message of the engine is discarded, host commands answered INTERNAL. -/
def State.laFlush (s : State) : State :=
  let ids := s.cipher.works.map (·.id)
  let s := { s with cipher := { s.cipher with running := none, waiting := [] } }
  ids.foldl (fun s i => s.laAnswer i stInternal []) s

/-! ## Mismatches and tamper alarms (R93, R94, R99) -/

/-- TAMPER_COUNT mismatches lie within TAMPER_WINDOW. -/
def State.tampered (s : State) (e : Nat) : Bool :=
  let x := s.cengine e
  match x.mismatches[x.tamperCount - 1]? with
  | some t => !x.erased && decide (s.now - t ≤ clkNs x.tamperNs)
  | none => false

/-- The keys of a line engine's SAs are zeroed (R94). -/
def State.eraseSas (s : State) (e : Nat) : State :=
  let dir := e % 2
  let n := scPerOctet dir * 4
  (List.range n).foldl (fun s i =>
    let k := e / 2 * n + i
    let x := s.sa dir k
    if x.present then s.putSa dir k { x with erased := true, key := 0, salt := 0 } else s) s

/-- The tamper alarm of an engine (R94, R99). -/
def State.alarm (s : State) (e : Nat) : State :=
  let s := s.modCengine e fun x => { x with erased := true, alarmAt := some s.now }
  if e = 256 then
    let s := { s with cipher := { s.cipher with ctx := [] } }
    (s.laFlush.note srcLaTamper 0 0).keyLost
  else (s.eraseSas e).note srcCipherTamper e 0

def State.checkTamper (s : State) (e : Nat) : State := if s.tampered e then s.alarm e else s

/-- The frame of a repeated mismatch (R93): a received frame fails its verdict, a transmitted copy is stomped where it has
begun and dropped otherwise, a message is discarded. -/
def State.discardFor (s : State) (e : Nat) (obj : Option Nat) : State :=
  if e = 256 then
    match s.cipher.running with
    | some j => (({ s with cipher := { s.cipher with running := none } }).laAnswer j.msg.id stInternal []).laSchedule
    | none => s
  else match obj with
    | none => s
    | some n =>
      if e % 2 = 0 then
        s.modPktD n fun p =>
          if p.verdict = .none ∧ p.sa.isSome ∧ p.port / 8 = e / 2 then
            { p with icvOk := some false, check := false, sa := none, verdictAt := s.tickStamp }
          else p
      else match s.copy n with
        | some c =>
          if c.port / 8 ≠ e / 2 then s
          else if c.phase = .sending then s.putCopy n (some (c.meet stompCipher s.tickStamp))
          else s.dropCopy n freeDrop
        | none => s

/-- Mismatches of an engine counted and stamped, `n` of them (R93). -/
def State.countMismatch (s : State) (e n : Nat) : State :=
  (s.bumpBy .cipherMismatch e n).modCengine e fun x =>
    { x with mismatches := (List.replicate n s.now ++ x.mismatches).take 255 }

/-- CIPHER_BLOCK_MISMATCH (R93): a block disagrees; `agree` says whether its second computation does, which else is a mismatch
of its own. -/
def execCipherBlockMismatch (engine : Nat) (agree : Bool) (obj : Option Nat) (s : State) : Host.Outcome State Fault Refusal :=
  onUnit (decide (engine < 257)) engine
    (let t := s.countMismatch engine (if agree then 1 else 2)
     let inst := if engine = 256 then 0 else engine
     let t := if agree then t.note (if engine = 256 then srcLaMismatch else srcCipherMismatch) inst 0
       else (t.discardFor engine obj).raise (if engine = 256 then srcLaMismatchRepeat else srcCipherMismatchRepeat) inst 0
     t.checkTamper engine)

/-! ## Cipher commands (R102) -/

/-- Writable fields of R78. -/
def cipherWritable : BitVec 64 := BitVec.ofNat 64 (span 63 47 ||| span 36 5)

/-- CIPHER_PORT_SET (R78, R79). -/
def cmdCipherPortSet (port : Nat) (record fields : BitVec 64) : Cmd :=
  .set 0x0801 (port, record, fields) fun _ s =>
    let r := merge (s.cipherPort port) record (fields &&& cipherWritable)
    .need (decide (port < 1024)) (.access port) <| .need (decide (fld r 61 60 < 2)) .param <|
    .need (s.isPort port) .missing <|
    .need (bit r 62 == bit (s.cipherPort port) 62 || !s.portHoldsSa port) .conflict <|
    .at [objCipherPort port] s [.cipherPort port record (fields &&& cipherWritable)]

/-- CIPHER_PORT_GET. -/
def cmdCipherPortGet (port : Nat) : Cmd :=
  .get 0x0802 port fun _ s => portRange s port (.val s (s.cipherPort port).toNat)

/-- REPLAY_WINDOW and PN_THRESHOLD are in range for a suite (R76, R90). -/
def scValuesOk (xpn : Bool) (win thr : Option Nat) : Bool :=
  (match win with | some w => decide (w ≤ if xpn then 2 ^ 30 else 2 ^ 32 - 1) | none => true)
    && (match thr with | some t => decide (1 ≤ t) && decide (t ≤ maxPn xpn) | none => true)

/-- The lowest free SC of an octet (R77). -/
def State.freeSc (s : State) (dir octet : Nat) : Option Nat :=
  ((List.range (scPerOctet dir)).map fun i => octet * scPerOctet dir + i).find? fun n => !(s.sc dir n).valid

/-- SC_CREATE (R77). -/
def cmdScCreate (port dir : Nat) (sci : BitVec 64) (replayProtect : Bool) (replayWindow pnThreshold : Option Nat) : Cmd :=
  .set 0x0803 (port, dir, sci, replayProtect, replayWindow, pnThreshold) fun _ s =>
    .need (decide (port < 1024)) (.access port) <|
    .need (decide (dir < 2) && scValuesOk (s.xpn port) replayWindow pnThreshold) .param <|
    .need (s.isPort port) .missing <|
    match s.freeSc dir (port / 8) with
    | none => .full
    | some n =>
      .val (s.putSc dir n { Sc.init with valid := true, port := port, sci := sci, replayProtect := replayProtect
                                         replayWindow := replayWindow.getD 0, pnThreshold := pnThreshold }) n

/-- Range of an SC's index, and its direction's. -/
def scRange (sc dir : Nat) (rest : Rule) : Rule :=
  .need (decide (sc < if dir = 1 then 2048 else 4096)) (.access sc) (.need (decide (dir < 2)) .param rest)

/-- SC_SET (R82, R90). -/
def cmdScSet (sc dir : Nat) (replayProtect : Option Bool) (replayWindow pnThreshold : Option Nat) : Cmd :=
  .set 0x0804 (sc, dir, replayProtect, replayWindow, pnThreshold) fun _ s =>
    scRange sc dir <| .need (scValuesOk (s.xpn (s.sc dir sc).port) replayWindow pnThreshold) .param <|
    .need (s.sc dir sc).valid .missing <|
    .at [objScDir dir sc] s [.scSet sc dir replayProtect replayWindow pnThreshold]

/-- SC_DELETE. -/
def cmdScDelete (sc dir : Nat) : Cmd :=
  .set 0x0805 (sc, dir) fun _ s =>
    scRange sc dir <| .need (s.sc dir sc).valid .missing <| .need (!s.scHolds dir sc) .conflict <|
    .at [objScDir dir sc] s [.scDelete sc dir]

/-- The key that SA_INSTALL or LA_CONTEXT_LOAD brings; none where a wrapped key fails its check (R80, R81). -/
def State.keyOf (s : State) (wrap : Option Nat) (key : BitVec 320) : Option (BitVec 256) :=
  match wrap with
  | none => some (key.truncate 256)
  | some k => unwrapKey (s.laCtx k).key key

/-- The engine's work on a wrapped key: a message of priority 1 (R96), of the 24 AES blocks that RFC 3394 takes for 256 bits
(log 57). -/
def State.unwrapMsg (s : State) (wrap : Option Nat) : State :=
  match wrap with
  | none => s
  | some k => s.laRequest { id := 2 ^ 32 + s.cipher.laNext, ctx := k, prio := 1, blocks := 24 }

/-- The AN holds an SA, or one is due (R81). -/
def State.anTaken (s : State) (dir sc an : Nat) : Bool :=
  (s.sa dir (sc * 4 + an)).present
    || s.changes.any fun p => match p.change with | .saInstall q _ => q.dir == dir && q.sc == sc && q.an == an | _ => false

def hostCtx (c : Nat) : Bool := decide (16 ≤ c) && decide (c < 64)

/-- SA_INSTALL (R80, R81, R99); its digest is taken with key and salt zero (R474). -/
def cmdSaInstall (p : SaParams) : Cmd :=
  Cmd.carry (Cmd.set 0x0806 ({ p with key := 0, salt := 0 } : SaParams) fun _ s =>
    let wrap := if p.wrapped then some p.kek else none
    let xpn := s.xpn (s.sc p.dir p.sc).port
    .need (decide (p.sc < if p.dir = 1 then 2048 else 4096)) (.access p.sc) <|
    .need (!p.wrapped || hostCtx p.kek) (.access p.kek) <|
    .need (decide (p.dir < 2) && decide (p.an < 4) && decide (1 ≤ p.pn) && decide (p.pn ≤ maxPn xpn)) .param <|
    needAuth (!p.wrapped || !s.laLive || (s.keyOf wrap p.key).isSome) <|
    .need (s.sc p.dir p.sc).valid .missing <| .need (!s.anTaken p.dir p.sc p.an) .conflict <|
    .need (!(s.cengine (scEngine p.dir p.sc)).erased && (!p.wrapped || s.laLive)) .conflict <|
    .at [objSa p.dir (p.sc * 4 + p.an)] (s.unwrapMsg wrap) [.saInstall p ((s.keyOf wrap p.key).getD 0)]) p

/-- The SA encodes for its transmit SC, now or by a selection that is due (R91). -/
def State.encodes (s : State) (dir sc an : Nat) : Bool :=
  dir == 1 && ((s.txSc sc).enc == some an
    || s.changes.any fun p => match p.change with | .saSelect x y => x == sc && y == an | _ => false)

/-- SA_DELETE (R81, R91). -/
def cmdSaDelete (sc dir an : Nat) : Cmd :=
  .set 0x0807 (sc, dir, an) fun _ s =>
    scRange sc dir <| .need (decide (an < 4)) .param <| .need (s.sa dir (sc * 4 + an)).present .missing <|
    .need (!s.encodes dir sc an) .conflict <| .at [objSa dir (sc * 4 + an)] s [.saDelete sc dir an]

/-- TX_SA_SELECT (R91). -/
def cmdTxSaSelect (sc an : Nat) : Cmd :=
  .set 0x0808 (sc, an) fun _ s =>
    scRange sc 1 <| .need (decide (an < 4)) .param <| .need ((s.txSc sc).valid && (s.txSa (sc * 4 + an)).present) .missing <|
    .at [objScDir 1 sc] s [.saSelect sc an]

/-- SA_STATUS_GET: 0 ABSENT, 1 ACTIVE, 2 ERASED; next PN; lowest acceptable PN, 0 for a transmit SA. -/
def cmdSaStatusGet (sc dir an : Nat) : Cmd :=
  .get 0x0809 (sc, dir, an) fun _ s =>
    let x := s.sa dir (sc * 4 + an)
    scRange sc dir <| .need (decide (an < 4)) .param <| .need (s.sc dir sc).valid .missing <|
    .reply s [if x.present then (if x.erased then 2 else 1) else 0, if x.present then x.pn else 0,
      if dir = 0 ∧ x.present then s.lowestPn (sc * 4 + an) else 0]

/-- Counters of R100 by scope: 0 port, 1 receive SC, 2 receive SA, 3 transmit SA, 4 engine (log 22). -/
def cipherKinds : Nat → List Ctr
  | 0 => [.inPktsNoTag, .inPktsUntagged, .inPktsBadTag, .inPktsUnknownSCI, .inPktsNoSCI, .outPktsUntagged, .outPktsTooLong,
          .outPktsNoSA, .outPktsNoSC]
  | 1 => [.inPktsLate]
  | 2 => [.inPktsOK, .inPktsInvalid, .inPktsNotValid, .inPktsUnusedSA, .inPktsNotUsingSA, .inOctetsValidated,
          .inOctetsDecrypted]
  | 3 => [.outPktsProtected, .outPktsEncrypted, .outOctetsProtected, .outOctetsEncrypted, .outPktsPnExhausted]
  | _ => [.cipherMismatch, .cipherKeyErasedDrop]

def cipherCtrs (kind i : Nat) : List (Ctr × Nat) := (cipherKinds kind).map fun c => (c, i)

def cipherScope (kind : Nat) : Nat :=
  match kind with | 0 => 1024 | 1 => 4096 | 2 => 16384 | 3 => 8192 | _ => 257

/-- CIPHER_STATS_GET. -/
def cmdCipherStatsGet (sel : StatsSel) (clear : Bool) : Cmd :=
  .stats 0x080A clear (sel, clear) fun _ s =>
    .need (decide (sel.index < cipherScope sel.kind)) (.access sel.index) <| .need (decide (sel.kind < 5)) .param <|
    .need (sel.kind != 0 || s.isPort sel.index) .missing <| statsRule s (cipherCtrs sel.kind sel.index) [] clear

def engineRange (e : Nat) (rest : Rule) : Rule := .need (decide (e < 257)) (.access e) rest

/-- CIPHER_ENGINE_SET (R94). -/
def cmdCipherEngineSet (engine count windowNs : Nat) : Cmd :=
  (Cmd.set 0x080B (engine, count, windowNs) fun _ s =>
    engineRange engine <|
    .need (decide (2 ≤ count) && decide (count ≤ 255) && decide (1000 ≤ windowNs) && decide (windowNs ≤ 1000000000)) .param <|
    .ok (s.modCengine engine fun x => { x with tamperCount := count, tamperNs := windowNs })).fence
      fun s => (s.cengine engine).fenced

/-- Contexts 4 to 15 loaded with the keys that firmware derives at BOOT (R99, R464). -/
def State.loadBootKeys (s : State) : State :=
  (List.range 12).foldl (fun t i => t.putLaCtx (4 + i) { LaCtx.init with valid := true, key := Config.bootKey (4 + i) }) s

/-- CIPHER_ENGINE_RESTORE (R94, R99): an alarm of the same cycle stands. -/
def cmdCipherEngineRestore (engine : Nat) : Cmd :=
  (Cmd.set 0x080C engine fun h s =>
    let x := s.cengine engine
    let u : UnitRef := if engine = 256 then .lookaside else .lineEngine engine
    engineRange engine <|
    .need (!(x.erased && x.alarmAt == some s.now) && !s.reactedNow u)
      .conflict <|
    let t := (s.noteUnit u 0x080C h).putCengine engine { x with erased := false }
    .ok (if engine = 256 ∧ x.erased then t.loadBootKeys.laSchedule else t)).fence fun s => (s.cengine engine).fenced

def ctxRange (c : Nat) (rest : Rule) : Rule := .need (hostCtx c) (.access c) rest

/-- A command on a host context of the lookaside engine. -/
def Cmd.la {α : Type} (op : Nat) (params : α) (rule : Hdr → State → Rule) : Cmd :=
  (Cmd.set op params rule).fence fun s => (s.cengine 256).fenced

/-- LA_CONTEXT_LOAD (R99, R102). A key wrapped under the context itself is taken (DESIGN CHOICE, log 106). -/
def cmdLaContextLoad (ctx kind : Nat) (wrapCtx : Option Nat) (key : BitVec 320) : Cmd :=
  Cmd.carry (.la 0x080D (ctx, kind, wrapCtx) fun _ s =>
    let erased := (s.cengine 256).erased
    ctxRange ctx <| (match wrapCtx with | some w => ctxRange w | none => id) <| .need (decide (kind < 3)) .param <|
    needAuth (erased || (s.keyOf wrapCtx key).isSome) <| .need (!erased) .conflict <|
    .ok (s.modLaCtx ctx fun c => { c with valid := true, kind := kind, key := (s.keyOf wrapCtx key).getD 0 })) (ctx, kind, wrapCtx, key)

/-- Bytes 0 to 31 of a blob, authenticated and not encrypted (R97). -/
def blobHead (ctx kind svn : Nat) (dev : BitVec 64) (nonce : BitVec 96) : List Byte :=
  beBytes 2 1 ++ beBytes 1 ctx ++ beBytes 1 kind ++ beBytes 1 svn ++ beBytes 3 0 ++ beBytes 8 dev.toNat
    ++ beBytes 12 nonce.toNat ++ beBytes 4 96

/-- The 96 bytes of BODY in the clear: key, salt, IV and suspended state, in the order that R97 names them (log 57). -/
def LaCtx.body (c : LaCtx) : List Byte :=
  beBytes 32 c.key.toNat ++ beBytes 12 c.salt.toNat ++ beBytes 12 c.iv.toNat ++ beBytes 16 c.ctrBlock.toNat
    ++ beBytes 16 c.ghash.toNat ++ beBytes 8 c.offset

/-- A context from the 96 bytes of BODY. -/
def ctxOfBody (kind : Nat) (l : List Byte) : LaCtx :=
  let part := fun i n => ofBytes ((l.drop i).take n)
  { LaCtx.init with
    valid := true, kind := kind, key := BitVec.ofNat 256 (part 0 32), salt := BitVec.ofNat 96 (part 32 12)
    iv := BitVec.ofNat 96 (part 44 12), ctrBlock := BitVec.ofNat 128 (part 56 16), ghash := BitVec.ofNat 128 (part 72 16)
    offset := part 88 8 }

/-- A blob opened under the device's context-wrapping key; none where its tag fails (R97, R98). -/
def openBlob (b : Blob) : Option LaCtx :=
  (gcmOpen Config.wrapKey b.nonce (blobHead b.context b.kind b.svn b.deviceId b.nonce) (beBytes 96 b.body.toNat) b.tag).map
    (ctxOfBody b.kind)

/-- LA_CONTEXT_EXPORT: the 144 bytes of R97. -/
def cmdLaContextExport (ctx : Nat) : Cmd :=
  .la 0x080E ctx fun _ s => ctxRange ctx <|
    let c := s.laCtx ctx
    let nonce := BitVec.ofNat 96 (Config.random s.freeCtr)
    let head := blobHead ctx c.kind s.sec.svn Config.deviceSerial nonce
    let text := gcmCrypt Config.wrapKey nonce c.body
    .reply s.draw (toWords (head ++ text ++ beBytes 16 (gcmTag Config.wrapKey nonce head text).toNat))

/-- LA_CONTEXT_IMPORT (R98, R99). -/
def cmdLaContextImport (ctx : Nat) (b : Blob) : Cmd :=
  .la 0x080F (ctx, b) fun _ s =>
    let erased := (s.cengine 256).erased
    ctxRange ctx <| .need (b.format == 1 && decide (b.kind < 3)) .param <|
    needAuth (b.deviceId == Config.deviceSerial && (erased || (openBlob b).isSome)) <|
    .need (decide (s.sec.svn ≤ b.svn)) (.refuse stRollbackRefused 0 0 0) <|
    .need (!erased) .conflict <| .need (s.laCtx ctx).suspended.isNone .busy <|
    .ok (s.putLaCtx ctx ((openBlob b).getD LaCtx.init))

/-- LA_CONTEXT_CLEAR (R98): a command whose message stood in the suspension slot is answered STATE_CONFLICT. -/
def cmdLaContextClear (ctx : Nat) : Cmd :=
  .la 0x0810 ctx fun _ s => ctxRange ctx <|
    let t := s.putLaCtx ctx LaCtx.init
    .ok (match (s.laCtx ctx).suspended with
      | some j => (t.laAnswer j.msg.id stStateConflict []).laSchedule
      | none => t)

/-- Operations of LA_CRYPT by KIND (DESIGN CHOICE, log 22): 0 GCM encrypt, 1 GCM decrypt, 2 key wrap, 3 key unwrap, 4
CTR. -/
def laOpOk (kind op : Nat) : Bool :=
  match kind with | 0 => op == 0 || op == 1 | 1 => op == 2 || op == 3 | _ => op == 4

/-- The data fits the operation: a tag to check, whole 64-bit words to wrap or unwrap (log 22). -/
def laDataOk (op n : Nat) : Bool :=
  match op with | 1 => decide (16 ≤ n) | 2 => decide (16 ≤ n) && n % 8 == 0 | 3 => decide (24 ≤ n) && n % 8 == 0 | _ => true

/-- LA_CRYPT (R95, R96): a message of priority 1, answered as it completes. A context never loaded is a GCM context with a key
of zeros (DESIGN CHOICE, log 106); one whose engine is erased has no kind to check (R99). -/
def cmdLaCrypt (ctx op : Nat) (iv : BitVec 96) (aad data : List Byte) : Cmd :=
  .la 0x0811 (ctx, op, iv, aad, data) fun h s =>
    ctxRange ctx <| .need (decide (data.length ≤ 65536) && decide (op < 5) && laDataOk op data.length) .param <|
    .need (!(s.cengine 256).erased) .conflict <| .need (laOpOk (s.laCtx ctx).kind op) .param <|
    let id := 2 ^ 32 + s.cipher.laNext
    let w : LaWork := { id := id, hdr := h, ctx := ctx, op := op, iv := iv, aad := aad, data := data }
    let t := { s with cipher := { s.cipher with works := s.cipher.works ++ [w] } }
    .held (t.laRequest { id := id, ctx := ctx, prio := 1, blocks := laBlocks op aad data })
      (data.length + 16)

end Sys2Proof.Machine
end

