-- ==== Sys2Proof/Machine/Time.lean ====
section
/-! DEFINITION. Time domains, pins, the snapshot and the time commands (spec/11_time.md; R514 of spec/22_registers.md). -/

namespace Sys2Proof.Machine

/-! ## Watchdogs (R264) -/

/-- The host watchdog of a domain has run out. -/
def State.wdOut (s : State) (n : Nat) : Bool :=
  let d := s.domain n
  d.st == .tracking && decide (0 < d.hostWd) && decide (d.wdFrom + clkS d.hostWd ≤ s.now)

/-- HOST_WD_EXPIRY: the domain enters HOLDOVER as the present time clock ends, which a TIME_ADJUST in that clock prevents. -/
def execHostWdExpiry (domain : Nat) (s : State) : Host.Outcome State Fault Refusal :=
  onUnit (decide (domain < 8)) domain
    (if s.wdOut domain then s.modDomain domain fun d => { d with wdHit := true } else s)

/-- A watchdog that ran out in the time clock that ends now, and that nothing in it restarted. -/
def State.settleWd (s : State) (n : Nat) : State :=
  if (s.domain n).wdHit then
    (if s.wdOut n then s.enterHoldover n else s).modDomain n fun d => { d with wdHit := false }
  else s

/-- HOLD_MAX_EXPIRY: to FREE with ADJ kept. -/
def execHoldMaxExpiry (domain : Nat) (s : State) : Host.Outcome State Fault Refusal :=
  let d := s.domain domain
  onUnit (decide (domain < 8)) domain
    (if d.st = .holdover ∧ d.holdFrom + clkS d.holdMax ≤ s.now then
       (s.putDomain domain { d with st := .free, events := d.events ++ [(false, s.tickStamp)] }).note srcTdHoldoverExpired domain 0
     else s)

/-! ## Pins (R277 to R279) -/

/-- Every instant above `a` and up to `b` has had its edge. -/
def Pps.edgesSent (p : Pps) (a b : Nat) : Bool := p.sentEdges.any fun e => decide (e.1 ≤ a) && decide (b ≤ e.2)

/-- A run of instants added to those sent, joined to the newest where it goes on from it. -/
def joinRun (r : Nat × Nat) (l : List (Nat × Nat)) : List (Nat × Nat) :=
  match l with
  | [] => [r]
  | e :: rest => if e.2 = r.1 then (e.1, r.2) :: rest else r :: l

/-- PPS_OUT_EDGE: an instant whose edge has not been sent has been reached or jumped over. -/
def execPpsOutEdge (pin : Nat) (s : State) : Host.Outcome State Fault Refusal :=
  let p := s.pps pin
  let n := s.ppsReached pin
  onUnit (decide (pin < 4)) pin
    (if p.dir = 1 ∧ p.lastSec.getD 0 < n ∧ !p.edgesSent (p.lastSec.getD 0) n then
       s.putPps pin { p with asserted := true, edgeAt := s.now, lastSec := some n, sentEdges := joinRun (p.lastSec.getD 0, n) p.sentEdges }
     else s)

/-- PPS_OUT_EDGE_END: WIDTH_NS has passed. -/
def execPpsOutEdgeEnd (pin : Nat) (s : State) : Host.Outcome State Fault Refusal :=
  let p := s.pps pin
  onUnit (decide (pin < 4)) pin
    (if p.asserted && decide (p.edgeAt + clkNs p.widthNs ≤ s.now) then s.putPps pin { p with asserted := false } else s)

/-- The pulse is an edge: at least 8 ns wide, and 100 ms after the last accepted edge (R278). -/
def State.ppsAccepts (s : State) (pin widthNs : Nat) : Bool :=
  decide (8 ≤ widthNs) && (match (s.pps pin).lastEdge with | some t => decide (t + clkMs 100 ≤ s.now) | none => true)

/-- Domains whose TIME_SET waits for the pin take their values (R263). -/
def State.setsAtPps (s : State) (pin : Nat) : State :=
  (List.range 8).foldl (fun s d =>
    match (s.domain d).setAtPps with
    | some (p, v) => if p = pin then (s.modDomain d fun x => { x with setAtPps := none }).stepTo d v else s
    | none => s) s

/-- The stamp of an accepted edge goes into the pin's queue (R275, R278). -/
def State.queuePps (s : State) (pin : Nat) : State :=
  let p := s.pps pin
  let r : TsRecord := { ring := 0, kind := 4, td := p.domain, cookie := 0, port := pin, ts := s.stampNow p.domain
                        epoch := s.clock.epochNow, tick := s.clock.tickNow }
  if p.queue.length < 16 then s.putPps pin { p with queue := p.queue ++ [r] } else s.bump .ppsInOverflow pin

/-- PPS_IN_EDGE (R278). -/
def execPpsInEdge (pin widthNs : Nat) (s : State) : Host.Outcome State Fault Refusal :=
  onUnit (decide (pin < 4)) pin
    (if (s.pps pin).dir ≠ 2 then s
     else if !s.ppsAccepts pin widthNs then s.bump .ppsInRejected pin
     else
       let t := (s.modPps pin fun p => { p with lastEdge := some s.now, lost := false }).queuePps pin
       let n := t.time.snap
       let t := if n.ppsEn && n.ppsPin == pin then { t with time := { t.time with snap := { n with duePps := true } } } else t
       t.setsAtPps pin)

/-- PPS_IN_LOST: 1.5 s after an accepted edge without another. -/
def execPpsInLost (pin : Nat) (s : State) : Host.Outcome State Fault Refusal :=
  let p := s.pps pin
  let due := match p.lastEdge with | some t => decide (t + clkMs 1500 ≤ s.now) | none => false
  onUnit (decide (pin < 4)) pin
    (if p.dir = 2 ∧ due = true ∧ p.lost = false then (s.putPps pin { p with lost := true }).note srcPpsInLost pin 0 else s)

/-- REF10M_GATE_END (R279). -/
def execRef10mGateEnd (offset : BitVec 32) (s : State) : Host.Outcome State Fault Refusal :=
  .next { s with time := { s.time with ref10m := offset, ref10mValid := true } }

/-- REF10M_LOST (R279). -/
def execRef10mLost (s : State) : Host.Outcome State Fault Refusal :=
  .next (State.note { s with time := { s.time with ref10mValid := false } } srcRef10mLost 0 0)

/-! ## The snapshot (R268, R514) -/

/-- The triggers that wait capture in a time clock of core clock `c`, with the domains as that time clock leaves them. -/
def State.capture (s : State) (c : Clock) : State :=
  let n := s.time.snap
  if n.dueWrite || n.duePps then
    let x : Capture := { byWrite := n.dueWrite, byPps := n.duePps, epoch := c.epochNow, tick := c.tickNow, clock := c.kNow
                         times := (List.range 8).map fun d => s.tdFrac d }
    { s with time.snap := { n with dueWrite := false, duePps := false, taken := n.taken ++ [x] } }
  else s

/-- SNAP_TRIGGER: a write of SnapControl. A TRIGGER captures at once where a time clock falls at the start of this core
clock. -/
def execSnapTrigger (value : BitVec 32) (s : State) : Host.Outcome State Fault Refusal :=
  let n := s.time.snap
  let t := { s with time.snap := { n with ppsPin := fld value 3 2, ppsEn := bit value 1, dueWrite := n.dueWrite || bit value 0 } }
  .next (if bit value 0 && s.now % 64 == 0 then t.capture t.clock else t)

/-- TIME_SNAPSHOT_CAPTURE: what the named triggers captured, in the first time clock after them, goes into the registers. -/
def execTimeSnapshotCapture (byWrite byPps : Bool) (s : State) : Host.Outcome State Fault Refusal :=
  let n := s.time.snap
  .next (match n.taken.find? fun x => (byWrite && x.byWrite) || (byPps && x.byPps) with
    | some x =>
      { s with time.snap :=
          { n with seq := (n.seq + 1) % 2 ^ 16, causePps := x.byPps, causeWrite := x.byWrite, epoch := x.epoch, tick := x.tick
                   clock := x.clock, times := x.times, taken := n.taken.erase x } }
    | none => s)

/-! ## Time commands (R285) -/

def tdRange (d : Nat) (rest : Rule) : Rule := .need (decide (d < 8)) (.access d) rest
def pinRange (p : Nat) (rest : Rule) : Rule := .need (decide (p < 4)) (.access p) rest

/-- ADJ is in range (R262). -/
def adjOk (a : Int) : Bool := decide (-(2 ^ 38) ≤ a) && decide (a ≤ 2 ^ 38)

/-- TIME_DOMAIN_SET (R264, R265, R281). -/
def cmdTimeDomainSet (domain : Nat) (adj : Option Int) (hostWd holdMax : Option Nat) : Cmd :=
  .set 0x0701 (domain, adj, hostWd, holdMax) fun _ s =>
    let d := s.domain domain
    tdRange domain <|
    .need ((match adj with | some a => adjOk a | none => true) && decide (hostWd.getD 0 ≤ 255)
      && decide (1 ≤ holdMax.getD 1) && decide (holdMax.getD 1 ≤ 65535)) .param <|
    .need (!(d.st == .twin && adj.isSome)) .conflict <|
    let e := match adj with | some a => d.setAdj s.now a | none => d
    .ok (s.putDomain domain { e with hostWd := hostWd.getD d.hostWd, holdMax := holdMax.getD d.holdMax })

/-- The 96 bits of R261. -/
def Domain.word (d : Domain) : Nat := d.sec <<< 48 ||| d.ns <<< 16 ||| d.fr

/-- TIME_GET: the value in two words, the epoch and the tick. -/
def cmdTimeGet (domain : Nat) : Cmd :=
  .get 0x0702 domain fun _ s => tdRange domain <| .reply s (words 2 (s.domain domain).word ++ [s.clock.epoch, s.clock.tick])

/-- TIME_SET (R263, R281). -/
def cmdTimeSet (domain sec ns frac : Nat) (atPps : Option Nat) : Cmd :=
  .set 0x0703 (domain, sec, ns, frac, atPps) fun _ s =>
    let v := fracOf sec ns frac * unitFrac
    tdRange domain <| (match atPps with | some p => pinRange p | none => id) <|
    .need (decide (sec < 2 ^ 48) && decide (ns < 10 ^ 9) && decide (frac < 65536)) .param <|
    .need ((s.domain domain).st != TdState.twin) .conflict <|
    match atPps with
    | some p => .ok (s.modDomain domain fun d => { d with setAtPps := some (p, v), wdFrom := s.now })
    | none => .ok ((s.modDomain domain fun d => { d with setAtPps := none }).stepTo domain v)

/-- TIME_STEP (R263, R281): applied in the first time clock after acceptance, its reply after that clock. -/
def cmdTimeStep (domain : Nat) (backward : Bool) (sec ns frac : Nat) : Cmd :=
  .set 0x0704 (domain, backward, sec, ns, frac) fun h s =>
    let m := fracOf sec ns frac
    let off : Int := (m * unitFrac : Nat)
    tdRange domain <|
    .need (decide (ns < 10 ^ 9) && decide (frac < 65536) && decide (m ≤ fracOf (2 ^ 47) 0 0)) .param <|
    .need ((s.domain domain).st != .twin) .conflict <|
    .held (s.modDomain domain fun d => { d with steps := d.steps ++ [(h, if backward then -off else off)] }) 0

/-- A step as its time clock finds the domain: applied, or refused where the result lies outside 0 to 2^48 s (R263). -/
def State.landStep (s : State) (domain : Nat) (e : Hdr × Int) : State :=
  let v := ((s.domain domain).value : Int) + e.2
  if 0 ≤ v ∧ v < (domainSpan : Int) then
    ((s.modDomain domain fun d => { d with setAtPps := none }).stepTo domain v.toNat).reply e.1 0x0704 stOk 0 0 0 []
  else s.refuseHeld e.1 0x0704 stBadParam 0

/-- A domain over `k` time clocks: in the first its steps land, at the rate before a TIME_ADJUST of the same clock (R262,
R263). -/
def State.advanceDomain (s : State) (k i : Nat) : State :=
  if k = 0 then s
  else
    let s := s.settleWd i
    let d := s.domain i
    let x := { d with steps := [], adjWas := none }
    if d.steps.isEmpty then
      let t := s.putDomain i (x.advance k)
      if d.value + k * timeInc d.adj < domainSpan then t else t.ppsBack i true
    else
      let first := { ({ x with adj := d.adjWas.getD d.adj }.advance 1) with adj := d.adj }
      (d.steps.foldl (fun s e => s.landStep i e) (s.putDomain i first)).modDomain i fun x => x.advance (k - 1)

/-- All eight domains after `n` core clocks; a snapshot that waits captures in the first time clock among them. -/
def State.advanceTime (s : State) (n : Nat) : State :=
  let k := timeClocks s.clock.now (s.clock.now + n)
  let t := (List.range 8).foldl (fun s i => s.advanceDomain k i) s
  if 0 < k then t.capture s.clock else t

/-- TIME_ADJUST (R262, R264, R281). -/
def cmdTimeAdjust (domain : Nat) (adj : Int) : Cmd :=
  .set 0x0705 (domain, adj) fun _ s =>
    let st := (s.domain domain).st
    tdRange domain <| .need (adjOk adj) .param <| .need (st != .twin) .conflict <|
    let t := if st = .holdover then s.recover domain else s
    .ok (t.modDomain domain fun d => { d.setAdj s.now adj with st := .tracking, wdFrom := s.now, firstAdj := some (d.firstAdj.getD s.now),
                                                                     adjWas := some (d.adjWas.getD d.adj) })

/-- State codes of TIME_HOLDOVER and TIME_STATUS_GET (DESIGN CHOICE, log 22). -/
def TdState.code (t : TdState) : Nat := match t with | .free => 0 | .tracking => 1 | .holdover => 2 | .twin => 3

/-- TIME_HOLDOVER (R264, R281). -/
def cmdTimeHoldover (domain : Nat) (enter : Bool) : Cmd :=
  .set 0x0706 (domain, enter) fun _ s =>
    tdRange domain <|
    match (s.domain domain).st with
    | .free => .conflict
    | .twin => .conflict
    | .tracking => if enter then .val (s.enterHoldover domain) TdState.holdover.code else .val s TdState.tracking.code
    | .holdover => if enter then .val s TdState.holdover.code else .val (s.recover domain) TdState.tracking.code

/-- The record of R265. -/
def Domain.record (d : Domain) : Nat := (d.adj % 2 ^ 40).toNat <<< 24 ||| d.hostWd <<< 16 ||| d.holdMax

/-- TIME_STATUS_GET: record, state, seconds of holdover elapsed, REF10M_OFFSET, validity. -/
def cmdTimeStatusGet (domain : Nat) : Cmd :=
  .get 0x0707 domain fun _ s =>
    let d := s.domain domain
    tdRange domain <|
    .reply s [d.record, d.st.code, if d.st = .holdover then (s.now - d.holdFrom) / clkS 1 else 0, s.time.ref10m.toNat,
      b2n s.time.ref10mValid]

/-- Writable fields of R272. -/
def timePortWritable : BitVec 64 := BitVec.ofNat 64 (span 50 0)

def State.applyTimePort (s : State) (p : Nat) (record fields : BitVec 64) : State :=
  s.modTimePort p fun r => merge r record fields

/-- TIME_PORT_SET (R272). -/
def cmdTimePortSet (port : Nat) (record fields : BitVec 64) : Cmd :=
  .set 0x0708 (port, record, fields) fun _ s =>
    portRange s port (.at [objTimePort port] s [.timePort port record (fields &&& timePortWritable)])

/-- TIME_PORT_GET: the record, RX_LAT and TX_LAT in units of 0.1 ns. -/
def cmdTimePortGet (port : Nat) : Cmd :=
  .get 0x0709 port fun _ s => portRange s port (.reply s [(s.timePort port).toNat, (s.portLat port).1, (s.portLat port).2])

/-- PPS_SET (R277). -/
def cmdPpsSet (pin dir domain : Nat) (activeLow : Bool) (offsetNs widthNs : Nat) : Cmd :=
  .set 0x070A (pin, dir, domain, activeLow, offsetNs, widthNs) fun _ s =>
    pinRange pin <| tdRange domain <|
    .need (decide (dir < 3) && decide (offsetNs < 10 ^ 9) && decide (8 ≤ widthNs) && decide (widthNs < 10 ^ 9)) .param <|
    let t := s.modPps pin fun p =>
      { p with dir := dir, domain := domain, activeLow := activeLow, offsetNs := offsetNs, widthNs := widthNs, asserted := false
               lastEdge := if p.dir = 2 ∧ dir = 2 then p.lastEdge else none, lost := false }
    let p := s.pps pin
    .ok (if p.dir = 1 ∧ dir = 1 ∧ p.domain = domain ∧ p.offsetNs = offsetNs then t
      else t.modPps pin fun p => { p with lastSec := some (t.ppsReached pin), sentEdges := [] })

/-- A record of R275 as four words. -/
def TsRecord.values (r : TsRecord) : List Nat :=
  let half := 2 * 10 ^ 9
  [r.port <<< 48 ||| r.td <<< 40 ||| r.kind <<< 32 ||| r.cookie,
   (r.ts / half % 2 ^ 48) <<< 16 ||| (r.ts % half / 2) >>> 16,
   ((r.ts % half / 2) % 2 ^ 16) <<< 48 ||| (r.ts % 2 * 0x8000) <<< 32 ||| r.epoch >>> 32 % 2 ^ 32,
   (r.epoch % 2 ^ 32) <<< 32 ||| r.tick <<< 16]

/-- PPS_READ: the oldest records leave the queue. -/
def cmdPpsRead (pin count : Nat) : Cmd :=
  (Cmd.get 0x070B (pin, count) fun _ s =>
    let q := (s.pps pin).queue
    pinRange pin <| .need (decide (count ≤ 16)) .param <|
    .reply (s.modPps pin fun p => { p with queue := q.drop count }) ((q.take count).flatMap TsRecord.values)).upTo
      (4 * count)

/-- TIME_STATS_GET. -/
def cmdTimeStatsGet (isPort : Bool) (index : Nat) (clear : Bool) : Cmd :=
  .stats 0x070C clear (isPort, index, clear) fun _ s =>
    if isPort then portRange s index (statsRule s [(.ptpCorrectSkipped, index)] [] clear)
    else pinRange index (statsRule s [(.ppsInRejected, index), (.ppsInOverflow, index)] [] clear)

end Sys2Proof.Machine
end

