-- ==== Sys2Proof/Machine/Gates.lean ====
section
/-! DEFINITION. Gate lists and launch times as the schedulers and the MACs read them, hand-over, shapers, the pause
watchdog, link-down policies, and the egress commands (R286 to R314, spec/12_egress.md). -/

namespace Sys2Proof.Machine

/-! ## The plan domain (R289, R291, R299) -/

/-- The sampled time of a domain in the present tick, in units of 2^-16 ns (R266). -/
def State.sampled (s : State) (d : Nat) : Nat := (s.domain d).sample / unitFrac

/-- Ticks from the present one to the first whose sample, at the domain's present rate, has gone up by `n` time clocks: the
first that starts when their core clocks have passed. -/
def State.ticksFor (s : State) (n : Nat) : Nat :=
  let start := s.tickStart
  let e := (64 * (start * 25 / 64 + n) - 25 * start + 24) / 25
  ((e + s.clock.tick * 3200 / s.slowest) * s.slowest + 3199) / 3200 - s.clock.tick

/-- The sample of the first tick whose sample is at or after `x` (R266), in units of 2^-16 ns. -/
def State.sampleFrom (s : State) (d x : Nat) : Nat :=
  let dom := s.domain d
  let inc := timeInc dom.adj
  let want := x * unitFrac
  if want ≤ dom.sample ∨ inc = 0 then dom.sample / unitFrac
  else
    let m := s.ticksFor ((want - dom.sample + inc - 1) / inc)
    (dom.sample + timeClocks s.tickStart (s.tickStart + s.span (s.clock.tick * 2) ((s.clock.tick + m) * 2)) * inc) / unitFrac

/-- The sample of the tick before the present one, at the domain's present rate. -/
def State.prevSample (s : State) (d : Nat) : Nat :=
  let dom := s.domain d
  (dom.sample - timeClocks s.prevStart s.tickStart * timeInc dom.adj) / unitFrac

/-- The domains that a port's lists and launch-time queues use, apart from queue `but` (R289). -/
def State.planDomains (s : State) (p : Nat) (but : Option Nat) : List Nat :=
  let e := s.eport p
  (e.oper.map fun l => l.spec.td).toList ++ (e.waitList.map fun l => l.spec.td).toList
    ++ ((s.portQueues p).filter fun q => s.launchEn q && some q != but).map s.launchTd

/-- PD of a port. -/
def State.planDomain (s : State) (p : Nat) : Option Nat := (s.planDomains p none).head?

/-- A queue's scheduling record once the changes due have taken effect. -/
def State.schedDue (s : State) (q : Nat) : BitVec 64 :=
  s.changes.foldl (fun v x =>
    match x.change with
    | .queueSched n r f => if n = q then merge v r f else v
    | _ => v) (s.schedRec q)

/-- The domains of a port's operational list and of the administrative one that waits, once the changes due have taken effect: a
later administrative list replaces an earlier one that waits (R302). -/
def State.listsDue (s : State) (p : Nat) : Option Nat × Option Nat :=
  let e := s.eport p
  s.changes.foldl (fun v x =>
    match x.change with
    | .gateList port l => if port = p then (v.1, some l.spec.td) else v
    | .gateClear port => if port = p then (none, none) else v
    | _ => v) (e.oper.map (fun l => l.spec.td), e.waitList.map fun l => l.spec.td)

/-- The domains of a port's launch-time queues, apart from queue `but`, once the changes due have taken effect. -/
def State.launchDue (s : State) (p : Nat) (but : Option Nat) : List Nat :=
  ((s.portQueues p).filter fun q => some q != but && bit (s.schedDue q) 57).map fun q => fld (s.schedDue q) 36 34

/-- A record of queue `q` in domain `td` leaves the port one plan domain. -/
def State.oneDomainQueue (s : State) (p q td : Nat) : Bool :=
  let l := s.listsDue p
  (l.1.toList ++ l.2.toList ++ s.launchDue p (some q)).all (· == td)

/-- A list in domain `td`, which replaces the one that waits, leaves the port one plan domain. -/
def State.oneDomainList (s : State) (p td : Nat) : Bool := ((s.listsDue p).1.toList ++ s.launchDue p none).all (· == td)

/-! ## Lengths (R291) -/

/-- Bytes that an operation adds, as the scheduler counts them. -/
def opGrowth (tpl : Nat → Option (List Byte)) (op : EditOp) : Nat :=
  match op with
  | .pushVlan _ _ _ => 4
  | .pushMpls _ => 4
  | .encap t => ((tpl t).map List.length).getD 0
  | _ => 0

/-- The edit profile that the ingress rule or the forwarding result names (R121). -/
def ingressEdit (p : Pkt) : Option Nat :=
  match p.action with
  | some a => if bit a 50 then some (fld a 49 42) else (p.forwarding.bind fun r => if bit r 40 then some (fld r 39 32) else none)
  | none => p.forwarding.bind fun r => if bit r 40 then some (fld r 39 32) else none

/-- SEC of R291. -/
def State.secLen (s : State) (port : Nat) : Nat :=
  if !s.macsecOn port then 0 else if bit (s.cipherPort port) 57 then 32 else 24

/-- L_sched of a copy before editing: the growth is that of the ingress decision's profile (R291, log 61). -/
def State.schedLen (s : State) (c : Copy) (p : Pkt) : Nat :=
  let base := if c.trunc = 0 then p.frameLen else min p.frameLen c.trunc
  let grow := match ingressEdit p with
    | some e => ((s.editOps e p.version).map (opGrowth (s.templateBytes p.version))).sum
    | none => 0
  max 64 (base + grow) + s.secLen c.port

/-- Time of `n` bytes and the port's OVERHEAD at its MAC rate, in units of 2^-16 ns, rounded up. -/
def State.durOf (s : State) (port n : Nat) : Nat :=
  let bytes := ((n : Int) + s.overhead port).toNat
  (bytes * 524288 + 25 * s.macRate port - 1) / (25 * s.macRate port)

/-! ## Gate lists (R299 to R302) -/

def GateList.cycle (l : GateList) : Nat := l.spec.cycle * 65536

def GateList.offset (l : GateList) (x : Nat) : Nat := (x - l.takeover) % l.cycle

/-- The entry at an offset of the cycle, and where it ends; the last entry reaches to the end of the cycle. -/
def segAt (cyc o k acc : Nat) (l : List Nat) : Nat × Nat :=
  match l with
  | [] => (k, cyc)
  | [_] => (k, cyc)
  | i :: rest =>
    let e := acc + i * 65536
    if o < e then (k, min e cyc) else segAt cyc o (k + 1) e rest

def GateList.seg (l : GateList) (x : Nat) : Nat × Nat := segAt l.cycle (l.offset x) 0 0 l.spec.intervals

/-- The gates that the list opens at instant `x`. -/
def GateList.vec (l : GateList) (x : Nat) : BitVec 16 := (l.spec.gates[(l.seg x).1]?).getD 0

/-- The next entry boundary after instant `x`. -/
def GateList.next (l : GateList) (x : Nat) : Nat := x - l.offset x + (l.seg x).2

/-- The gates that the list holds at the end of a cycle. -/
def GateList.final (l : GateList) : BitVec 16 := l.vec (l.takeover + l.cycle - 1)

/-- The last cycle before a takeover at `t` is not started (R302): the instant from which the final gates are held. -/
def GateList.extendedFrom (l : GateList) (t : Nat) : Option Nat :=
  let c := t - (t - l.takeover) % l.cycle
  if l.takeover < c ∧ c < t ∧ t - c < l.spec.ext * 65536 then some c else none

/-- Instant `x` lies in the extension of the last cycle. -/
def EPort.extendedAt (e : EPort) (x : Nat) : Bool :=
  match e.oper, e.waitList with
  | some o, some w => match o.extendedFrom w.takeover with | some c => decide (c ≤ x) && decide (x < w.takeover) | none => false
  | _, _ => false

/-- The gates of a port at instant `x`, by the operational list and the waiting one. -/
def EPort.vecAt (e : EPort) (x : Nat) : BitVec 16 :=
  match e.waitList with
  | some w =>
    if w.takeover ≤ x then w.vec x
    else match e.oper with
      | none => 0xFFFF
      | some o =>
        match o.extendedFrom w.takeover with
        | some c => if c ≤ x then o.final else o.vec x
        | none => o.vec x
  | none => match e.oper with | none => 0xFFFF | some o => o.vec x

/-- The next instant after `x` at which the gates may change. -/
def EPort.nextAt (e : EPort) (x : Nat) : Nat :=
  match e.waitList with
  | some w =>
    if w.takeover ≤ x then w.next x
    else match e.oper with
      | none => w.takeover
      | some o => min (o.next x) w.takeover
  | none => match e.oper with | none => x + 1 | some o => o.next x

/-- The gate bit of a queue (R299). -/
def State.gateBit (s : State) (port q : Nat) : Nat := if q < 8192 then q - 8 * port else s.mcastGateBit port

/-- The gate is open at `x`; the gates hold across a backward step until the last transition is reached again (R303). -/
def EPort.openAt (e : EPort) (b x : Nat) : Bool :=
  if x < e.lastTrans then bit e.gates b else bit (e.vecAt x) b

/-- The first of the next `fuel` boundaries after `x` at which the gate is closed. -/
def EPort.closesIn (e : EPort) (b fuel x : Nat) : Option Nat :=
  match fuel with
  | 0 => none
  | fuel + 1 =>
    let y := e.nextAt x
    if bit (e.vecAt y) b then e.closesIn b fuel y else some y

/-- Entries that a scan of one full cycle passes. -/
def EPort.scanLen (e : EPort) : Nat :=
  2 * ((e.oper.map fun l => l.spec.gates.length).getD 0 + (e.waitList.map fun l => l.spec.gates.length).getD 0) + 4

/-- C of R304: the first instant after `x` at which the gate closes, by the list in force and any that takes over before
it; none for a gate that never closes. Across a backward step the gates hold until the last transition is reached again
(R303). -/
def EPort.closing (e : EPort) (b x : Nat) : Option Nat :=
  let x := max x e.lastTrans
  match e.closesIn b e.scanLen x with
  | some y => some y
  | none =>
    match e.waitList with
    | some w =>
      if w.takeover ≤ x then none
      else if bit (e.vecAt w.takeover) b then e.closesIn b e.scanLen w.takeover else some w.takeover
    | none => none

/-- admit of R304 for a frame of scheduling length `len` with planned start `x`. -/
def State.gateAdmit (s : State) (port q len x : Nat) : Bool :=
  let e := s.eport port
  let b := s.gateBit port q
  e.oper.isNone ||
    (e.openAt b x &&
      match e.closing b x with
      | none => true
      | some c => decide (x + (if s.gateLength port then s.durOf port len else s.durOf port (s.maxFrame port)) ≤ c))

/-! ## Launch times (R307, R308) -/

/-- LT of a copy in its queue, in units of 2^-16 ns: none where the queue takes none, or the frame gets none. -/
def State.launchOf (s : State) (q : Nat) (p : Pkt) : Option Nat :=
  if !s.launchEn q then none
  else if s.launchArrival q then
    if p.td = s.launchTd q ∧ !p.injected then some (p.rxTs * 32768 + s.launchOffset q * 65536) else none
  else p.launch

/-- LATE_TOL in units of 2^-16 ns. -/
def State.lateTol (s : State) (q : Nat) : Nat := s.lateTolNs q * 65536

/-- The start `x` exceeds the launch time by more than LATE_TOL. -/
def State.tooLate (s : State) (q : Nat) (lt : Option Nat) (x : Nat) : Bool :=
  match lt with
  | some t => decide (t + s.lateTol q < x)
  | none => false

/-- A late frame (R308): dropped under DROP; under SEND it counts, and goes on without its launch time. -/
def State.lateFrame (s : State) (cid : Nat) (c : Copy) : State :=
  let s := s.noteOnce srcLaunchLate c.queue 0
  if s.lateSend c.queue then
    if c.late then s else (s.bump .launchLateSent c.queue).putCopy cid (some { c with late := true, launch := none })
  else
    let s := if c.kind = .group then s.bump .mcastDropLate c.port else s.bump .launchLateDrop c.queue
    s.dropCopy cid freeDrop

/-! ## Records (R238, R239) -/

/-- Records of a port of the slice. -/
def State.portRecords (s : State) (port : Nat) : Nat := 4096 / (s.slicePorts (port / 64)).length

/-- Records that a copy reserves at hand-over. -/
def State.needRecords (s : State) (c : Copy) (p : Pkt) : Nat :=
  if p.cells.all (·.written) then copyCells c p else cellCount (s.maxFrame c.port)

def State.recordsFree (s : State) (port n : Nat) : Bool :=
  decide (((s.openList port).map s.heldRecords).sum + (s.voidNow port).1 + n ≤ s.portRecords port)

/-! ## Choosing a frame (R292) -/

/-- The queue hands over nothing: paused and not ignoring pause, draining, or in deficit (R292, R296, R298). -/
def State.queueBlocked (s : State) (port q : Nat) : Bool :=
  (s.paused port (s.pfcPrio q) && !((s.equeue q).tripped && s.wdAction q == 1)) || s.draining q
    || (decide (0 < (s.equeue q).shaper.rate) && decide ((s.equeue q).shaper.level < 0))
    || (decide (0 < (s.eport port).shaper.rate) && decide ((s.eport port).shaper.level < 0))

/-- What the scheduler makes of a queue's head: passed over, late, seen its gate open in two complete cycles without
fitting, or handed over with its launch time and its plan. -/
inductive Judge where
  | skip
  | late
  | noFit
  | send (lt : Option Nat) (start : Option Nat)
deriving DecidableEq, Repr

/-- S of R291: the planned start in domain `pd`. -/
def State.planStart (s : State) (port pd : Nat) (lt : Option Nat) : Nat :=
  s.sampleFrom pd (max (max (s.eport port).plannedEnd (s.sampled pd + s.egressLead port * 81920)) (lt.getD 0))

/-- The frame judged at its planned start `x`: late, held by its gate, or to be handed over. -/
def State.judgeAt (s : State) (port q : Nat) (c : Copy) (p : Pkt) (lt : Option Nat) (x : Nat) : Judge :=
  if s.tooLate q lt x then .late
  else if s.gateAdmit port q (s.schedLen c p) x then .send lt (some x)
  else if 3 ≤ c.openCycles then .noFit
  else .skip

def State.judge (s : State) (port q : Nat) (c : Copy) (p : Pkt) : Judge :=
  if (c.pending && !c.cut) || s.queueBlocked port q || !s.recordsFree port (s.needRecords c p) then .skip
  else
    let lt := if c.late then none else s.launchOf q p
    match s.planDomain port with
    | none => .send none none
    | some pd =>
      match lt with
      | some t =>
        if s.sampled pd + s.egressLead port * 81920 < t then .skip
        else s.judgeAt port q c p lt (s.planStart port pd lt)
      | none => s.judgeAt port q c p none (s.planStart port pd none)

/-! ## Hand-over -/

/-- The body of a queue report with its snapped bytes (R325). -/
def State.reportBody (s : State) (c : Copy) (p : Pkt) (trigger snap : Nat) : List Byte :=
  let flags := b2n c.ecn + 2 * p.pass + 4 * b2n (c.kind == .group) + 8 * b2n (c.kind == .mirror || c.kind == .trap)
  let sec := p.rxTs / (2 * 10 ^ 9)
  let ns := p.rxTs % (2 * 10 ^ 9) / 2
  beBytes 2 c.queue ++ beBytes 2 p.port ++ beBytes 2 c.port ++ beBytes 2 p.version.toNat ++ beBytes 2 p.frameLen
    ++ beBytes 1 flags ++ beBytes 1 trigger ++ beBytes 3 c.depth ++ beBytes 1 (min snap p.bytes.length)
    ++ beBytes 4 (s.tickStamp - c.queuedAt) ++ beBytes 4 sec ++ beBytes 4 ns ++ beBytes 4 0 ++ p.bytes.take snap

/-- QUEUE_REPORT_TRIGGER (R324). -/
def State.reportTrigger (s : State) (c : Copy) (p : Pkt) : State :=
  let x := s.equeue c.queue
  let r := x.report
  let late := r.delayTrig != 0 && decide (r.delayTrig ≤ s.tickStamp - c.queuedAt)
  let deep := r.depthTrig != 0 && decide (r.depthTrig ≤ c.depth)
  if r.en = 0 ∨ (p.tag.isSome ∧ p.verdict ≠ .confirm) ∨ !(late || deep) then s
  else
    let gapOver := match x.lastReport with | some t => decide (t + r.gap ≤ s.tickStamp) | none => true
    if gapOver then
      s.putEqueue c.queue { x with lastReport := some s.tickStamp
                                   reportDue := x.reportDue ++
                                     [(s.tickStamp, s.reportBody c p (b2n late + 2 * b2n deep) r.snapLen)] }
    else s.bump .reportSuppressed c.queue

/-- The queue's next sequence numbers (R239). -/
def State.takeSeq (s : State) (q n : Nat) : State :=
  let sl := (if q < 8192 then q / 8 else q - 8192) / 64
  s.modSlice sl fun x => { x with seqNext := x.seqNext.set 0 q ((x.seqNext.get 0 q + n) % 65536) }

/-- A truncated mirror copy releases the cells it will not read (R252). -/
def State.releaseSurplus (s : State) (cid : Nat) (c : Copy) (p : Pkt) : State :=
  if c.trunc = 0 then s
  else s.releaseCells cid freeStageB ((c.unreleased p).filter fun i => decide (copyCells c p ≤ i))

/-- The plan of a frame handed over: F of its port, in a port with a plan domain (R291). -/
def State.storePlan (s : State) (port len : Nat) (start : Option Nat) : State :=
  match start with
  | some x => s.modEport port fun e => { e with plannedEnd := x + s.durOf port len }
  | none => s

/-- The copy handed over (R239, R291, R294, R324). -/
def State.handOver (s : State) (port q cid : Nat) (c : Copy) (p : Pkt) (lt start : Option Nat) : State :=
  let len := s.schedLen c p
  let n := s.needRecords c p
  let x := { c with
    phase := .handed, handedAt := s.tickStamp, records := n, seq := (s.slice (port / 64)).seqNext.get 0 q
    plan := start, planned := start.isSome && ((s.eport port).oper.isSome || lt.isSome), launch := lt, sched := len }
  let s := if s.launchEn q && lt.isNone && !c.late then s.bump .launchNoTime q else s
  let s := (s.bump .handOvers q).takeSeq q n
  let s := s.putQList q ((s.qList q).filter (· != cid))
  let s := (s.putOpenList port (s.openList port ++ [cid])).putCopy cid (some x)
  let s := (s.moveShapers q port (-((len : Int) + s.overhead port))).storePlan port len start
  (s.releaseSurplus cid c p).reportTrigger c p

/-- A head that has seen two open cycles without fitting is dropped (R306). -/
def State.dropNoFit (s : State) (port cid : Nat) (c : Copy) : State :=
  let s := s.noteOnce srcGateNofit port 0
  let s := if c.kind = .group then s.bump .mcastDropLate port else s.bump .gateNoFitDrop c.queue
  s.dropCopy cid freeDrop

/-- The queue's head: copy number, copy and packet. -/
def State.headOf (s : State) (q : Nat) : Option (Nat × Copy × Pkt) :=
  match (s.qList q).head? with
  | none => none
  | some cid =>
    match s.copy cid with
    | none => none
    | some c => (s.pkt c.pkt).map fun p => (cid, c, p)

/-- select of R292 over the queues still to be looked at; a frame that is late under SEND is sent at once, with no plan that binds it
(R308). -/
def State.select (s : State) (port : Nat) (qs : List Nat) : State :=
  match qs with
  | [] => s
  | q :: rest =>
    match s.headOf q with
    | none => s.select port rest
    | some (cid, c, p) =>
      match s.judge port q c p with
      | .skip => s.select port rest
      | .late =>
        let t := s.lateFrame cid c
        if s.lateSend q then t.handOver port q cid { c with late := true, launch := none } p none none else t.select port rest
      | .noFit => (s.dropNoFit port cid c).select port rest
      | .send lt start => s.handOver port q cid c p lt start

/-- A queue put in its place: higher QPRIO first, then the lower local index. -/
def insertQueue (s : State) (q : Nat) (l : List Nat) : List Nat :=
  match l with
  | [] => [q]
  | x :: t => if s.qPrio x < s.qPrio q then q :: x :: t else x :: insertQueue s q t

def State.queueOrder (s : State) (port : Nat) : List Nat := (s.portQueues port).foldl (fun l q => insertQueue s q l) []

/-- The port's scheduler can decide now: a worked tick, its link UP and not raw down, fewer than two open packets. -/
def State.canHandOver (s : State) (port : Nat) : Bool :=
  s.worked && s.isPort port && s.sliceLive (port / 64) && (s.eport port).handAt != some s.tickStamp && s.portUp port
    && (s.port port).rawUp && decide ((s.openList port).length + (s.voidNow port).2 < 2)

/-- HAND_OVER (R292). -/
def execHandOver (port : Nat) (s : State) : Host.Outcome State Fault Refusal :=
  onUnit (decide (port < 1024)) port
    (if s.canHandOver port then
       (s.modEport port fun e => { e with handAt := some s.tickStamp }).select port (s.queueOrder port)
     else s)

/-! ## Shapers (R294) -/

/-- A level after `n` ticks. -/
def Shaper.refill (x : Shaper) (n : Nat) : Shaper :=
  if x.rate = 0 then x
  else { x with level := min (x.level + (x.rate * 65536 * n : Nat)) ((x.burst : Int) * levelByte) }

/-- Every shaper gains what the ticks since the last refill give. -/
def State.refillShapers (s : State) : State :=
  let n := match s.eg.refilledAt with | some t => s.ticksIn (s.tickStart - t) | none => 1
  if n = 0 then s
  else
    let qs := s.eg.queues.map fun (e : Nat × Queue) => (e.1, { e.2 with shaper := e.2.shaper.refill n })
    let ps := s.eg.ports.map fun (e : Nat × EPort) => (e.1, { e.2 with shaper := e.2.shaper.refill n })
    { s with eg := { s.eg with queues := qs.filter fun (e : Nat × Queue) => e.2 != Queue.init
                               ports := ps.filter fun (e : Nat × EPort) => e.2 != EPort.init
                               refilledAt := some s.tickStart } }

/-- SHAPER_REFILL (R294). -/
def execShaperRefill (s : State) : Host.Outcome State Fault Refusal :=
  .next (if s.clock.running then s.refillShapers else s)

/-- A shaper record in force (R293, R294): levels are carried over and clipped; one switched on starts full. -/
def Shaper.load (x : Shaper) (record : BitVec 64) : Shaper :=
  let y : Shaper := { x with cfg := record }
  let top := (y.burst : Int) * levelByte
  { y with level := if x.rate = 0 then top else min x.level top }

def State.applyShaper (s : State) (isPort : Bool) (i : Nat) (record : BitVec 64) : State :=
  let s := s.refillShapers
  if isPort then s.modEport i fun e => { e with shaper := e.shaper.load record }
  else s.modEqueue i fun e => { e with shaper := e.shaper.load record }

/-! ## The pause watchdog (R297, R298) -/

/-- The port of a queue has the queue paused, and the queue holds a descriptor. -/
def State.stuck (s : State) (q : Nat) : Bool :=
  match s.queuePort q with
  | some p => s.paused p (s.pfcPrio q) && !(s.qList q).isEmpty
  | none => false

def State.queuePaused (s : State) (q : Nat) : Bool :=
  match s.queuePort q with | some p => s.paused p (s.pfcPrio q) | none => false

/-- The watchdog's timers of one queue brought up to the present tick. -/
def State.watchQueue (s : State) (q : Nat) : State :=
  let x := s.equeue q
  let wd := if s.stuck q && !x.tripped then some (x.wdFrom.getD s.now) else none
  let cl := if x.tripped && !s.queuePaused q then some (x.clearFrom.getD s.now) else none
  if x.wdFrom = wd ∧ x.clearFrom = cl then s else s.putEqueue q { x with wdFrom := wd, clearFrom := cl }

/-- The copies of a drained queue leave it (R298, R311). -/
def State.drainQueue (s : State) (port q : Nat) : State :=
  (s.flushable port q).foldl (fun s cid =>
    match s.copy cid with
    | some c =>
      let s := s.bump .pfcWdDrain q
      let s := if c.kind = .group then s.bump .mcastDropDown port else s
      s.dropCopy cid freeFlush
    | none => s) s

/-- PFC_WATCHDOG (R297): the queue has been paused with a descriptor for WD_TIME. -/
def execPfcWatchdog (queue : Nat) (s : State) : Host.Outcome State Fault Refusal :=
  onUnit (decide (queue < 9216)) queue
    (match s.queuePort queue, (s.equeue queue).wdFrom with
     | some p, some t =>
       if t + clkMs (s.wdTimeMs p) ≤ s.now ∧ s.stuck queue ∧ !(s.equeue queue).tripped then
         let s := s.modEqueue queue fun x => { x with tripped := true, wdFrom := none, clearFrom := none }
         let s := (s.bump .pfcWdTrips queue).note srcPfcWatchdog queue 0
         if s.wdAction queue = 2 then s.drainQueue p queue else s
       else s
     | _, _ => s)

/-- PFC_WD_RESTORED (R297): pause has been absent from a tripped queue for WD_RESTORE. -/
def execPfcWdRestored (queue : Nat) (s : State) : Host.Outcome State Fault Refusal :=
  onUnit (decide (queue < 9216)) queue
    (match s.queuePort queue, (s.equeue queue).clearFrom with
     | some p, some t =>
       if t + clkMs (s.wdRestoreMs p) ≤ s.now ∧ (s.equeue queue).tripped ∧ !s.queuePaused queue then
         (s.modEqueue queue fun x => { x with tripped := false, clearFrom := none }).note srcPfcWdRestored queue 0
       else s
     | _, _ => s)

/-! ## Planning again (R303, R310) -/

/-- Copies handed over under a plan and not yet started. -/
def State.plannedCopies (s : State) (port : Nat) : List Nat :=
  (s.openList port ++ s.macFifo port).eraseDups.filter fun cid =>
    match s.copy cid with | some c => c.plan.isSome && c.phase != .sending | none => false

/-- Frames planned and not started start at `x` and are judged again there; F follows them, or the new time (R303). -/
def State.replan (s : State) (port x : Nat) : State :=
  let l := s.plannedCopies port
  let s := l.foldl (fun s cid => s.modCopyD cid fun c => { c with plan := some x, rejudge := true }) s
  let len := (l.map fun cid => match s.copy cid with | some c => s.durOf port c.sched | none => 0).foldl max 0
  s.modEport port fun e => { e with plannedEnd := x + len }

/-! ## Link down (R68, R310) -/

/-- LINK_UP_DEBOUNCE_EXPIRY (R68): a held port resumes, and its planned frames are planned again (R310). -/
def execLinkUpDebounceExpiry (port : Nat) (s : State) : Host.Outcome State Fault Refusal :=
  let q := s.port port
  onUnit (decide (port < 1024)) port
    (if q.enabled && !q.linkUp && q.rawUp && decide (q.rawSince + s.debounceUp port ≤ s.now) then
       let s := (s.modPort port fun x => { x with linkUp := true }).note srcPortLinkUp port 0
       let s := s.modEport port fun e => { e with downAt := none, holding := false, downDue := false }
       match s.planDomain port with
       | some d => s.replan port (s.sampled d)
       | none => s
     else s)

/-- PORT_DOWN_POLICY (R310). -/
def execPortDownPolicy (port : Nat) (s : State) : Host.Outcome State Fault Refusal :=
  onUnit (decide (port < 1024)) port
    (if !(s.eport port).downDue then s
     else
       let hold := s.downHold port && s.holdTimeUs port != 0
       let s := s.modEport port fun e =>
         { e with downDue := false, downAt := some s.tickStamp, holding := hold
                  holdEnd := if hold then s.now + clkUs (s.holdTimeUs port) else 0 }
       if hold then s else s.flushPort port)

/-- PORT_HOLD_EXPIRED (R310). -/
def execPortHoldExpired (port : Nat) (s : State) : Host.Outcome State Fault Refusal :=
  let e := s.eport port
  onUnit (decide (port < 1024)) port
    (if e.holding && decide (e.holdEnd ≤ s.now) && !(s.port port).linkUp then
       let s := s.modEport port fun e => { e with holding := false }
       let s := (s.portQueues port).foldl (fun s q => s.flushQueue port q .mcastDropHold) s
       s.note srcPortHoldExpired port 0
     else s)

/-! ## Gate events (R300 to R305) -/

/-- A list opens the gate at some point of its cycle. -/
def GateList.opens (l : GateList) (fuel x b : Nat) : Bool :=
  match fuel with
  | 0 => false
  | fuel + 1 => bit (l.vec x) b || (l.offset (l.next x) != 0 && l.opens fuel (l.next x) b)

/-- A cycle of the operational list begins: the heads whose gate it opens have seen one more (R306). -/
def State.countCycle (s : State) (port : Nat) (l : GateList) (x : Nat) : State :=
  (s.portQueues port).foldl (fun s q =>
    if l.opens l.spec.gates.length x (s.gateBit port q) then
      match (s.qList q).head? with
      | some cid => s.modCopyD cid fun c => { c with openCycles := c.openCycles + 1 }
      | none => s
    else s) s

/-- The transitions of the operational list up to instant `now`, in instant order, at most `fuel` of them. -/
def State.transit (s : State) (port fuel now : Nat) : State :=
  match fuel with
  | 0 => s
  | fuel + 1 =>
    let e := s.eport port
    match e.oper with
    | none => s
    | some l =>
      let y := e.nextAt e.lastTrans
      let waits := match e.waitList with | some w => decide (w.takeover ≤ y) | none => false
      if now < y ∨ waits = true then s
      else
        let s := s.putEport port { e with gates := e.vecAt y, lastTrans := y }
        let s := if l.offset y = 0 && !e.extendedAt y then s.countCycle port l y else s
        s.transit port fuel now

/-- The transitions due in the present tick. Of more than four cycles the last three are gone through: the gates, and whether a head
has seen two complete cycles, are the same after all of them. -/
def State.applyTransitions (s : State) (port : Nat) : State :=
  let e := s.eport port
  match e.oper with
  | none => s
  | some l =>
    let now := s.sampled l.spec.td
    let late := decide (e.lastTrans + 4 * l.cycle < now)
    let s := if late then s.putEport port { e with lastTrans := now - l.offset now - 3 * l.cycle } else s
    s.transit port (5 * l.spec.gates.length + 5) now

/-- GATE_TRANSITION (R300). -/
def execGateTransition (port : Nat) (s : State) : Host.Outcome State Fault Refusal :=
  onUnit (decide (port < 1024)) port (if s.clock.running then s.applyTransitions port else s)

/-- A waiting list whose instant has come takes over (R301). -/
def State.takeover (s : State) (port : Nat) : State :=
  let e := s.eport port
  match e.waitList with
  | none => s
  | some w =>
    if s.sampled w.spec.td < w.takeover then s
    else
      let s := s.putEport port { e with oper := some w, waitList := none, gates := w.vec w.takeover, lastTrans := w.takeover }
      let s := (s.portQueues port).foldl (fun s q =>
        match (s.qList q).head? with
        | some cid => s.modCopyD cid fun c => { c with openCycles := 0 }
        | none => s) s
      (s.countCycle port w w.takeover).bump .gateTakeovers port |>.note srcGateTakeover port 0

/-- GATE_TAKEOVER (R301). -/
def execGateTakeover (port : Nat) (s : State) : Host.Outcome State Fault Refusal :=
  onUnit (decide (port < 1024)) port (if s.clock.running then s.takeover port else s)

/-- GATE_GUARD_RETURN (R305). -/
def State.guardBack (s : State) (port : Nat) : State :=
  if s.guardReturn port && s.gateLength port then
    ((s.modEport port fun e => { e with cfg := some (setFld (s.egressRec port) 56 56 0) }).bump .guardReturns port).note
      srcGateGuardReturn port 0
  else s

/-- One port in the tick in which events of its plan domain reach it (R303, R305). -/
def State.eventAtPort (s : State) (domain : Nat) (step : Bool) (port : Nat) : State :=
  if s.planDomain port = some domain then
    let s := s.guardBack port
    if step then (((s.applyTransitions port).takeover port).applyTransitions port).replan port (s.sampled domain) else s
  else s

/-- TIME_EVENT_REACH (R267): the events of earlier ticks. -/
def execTimeEventReach (domain : Nat) (s : State) : Host.Outcome State Fault Refusal :=
  let d := s.domain domain
  let l := d.events.filter fun e => decide (e.2 < s.tickStamp)
  onUnit (decide (domain < 8)) domain
    (if l.isEmpty then s
     else
       let step := l.any (·.1)
       let s := s.putDomain domain { d with events := d.events.filter fun e => !decide (e.2 < s.tickStamp) }
       s.eg.ports.foldl (fun s (e : Nat × EPort) => s.eventAtPort domain step e.1) s)

/-- P of R301: the time of a domain at the start of epoch `e`, at its present ADJ. -/
def State.projected (s : State) (d e : Nat) : Nat :=
  let clocks := s.span s.clockNo (2048 + 2 * s.clock.stretch) + (e - s.clock.epoch - 1) * s.span 0 2048
  ((s.domain d).advance (timeClocks s.now (s.now + clocks))).frac

/-- T_x of R301 for a list whose effective epoch is `e`; the mark says that BASE had passed. -/
def State.gateStart (s : State) (g : GateSpec) (e : Nat) : Nat × Bool :=
  let p := s.projected g.td e
  let b := g.base * 65536
  let c := g.cycle * 65536
  if p ≤ b then (b, false) else (b + (p - b + c - 1) / c * c, true)

/-- A list in its effective epoch (R301, R302): an instant that a step has passed is moved to the next cycle boundary. -/
def State.applyGateList (s : State) (port : Nat) (l : GateList) : State :=
  let now := s.sampled l.spec.td
  if now ≤ l.takeover then s.modEport port fun e => { e with waitList := some l }
  else
    let t := l.takeover + (now - l.takeover + l.cycle - 1) / l.cycle * l.cycle
    (s.modEport port fun e => { e with waitList := some { l with takeover := t } }).note srcGateTakeoverMoved port
      (BitVec.ofNat 64 (t / 65536))

/-- GATE_LIST_CLEAR at its boundary (R302). -/
def State.applyGateClear (s : State) (port : Nat) : State :=
  s.modEport port fun e => { e with oper := none, waitList := none, gates := 0xFFFF, lastTrans := 0 }

/-! ## Changes at the boundary -/

/-- QUEUE_MODE_SET at its boundary (R287). -/
def State.applyQueueMode (s : State) (o : Nat) (q16 : Bool) : State :=
  if (s.octet o).q16 = q16 then s
  else
    let s := (s.octetPorts o).foldl (fun s p => s.resetQueues p) s
    (s.octetPorts o).foldl (fun s p => s.resetQueues p) (s.modOctet o fun x => { x with q16 := q16 })

def schedMask : BitVec 64 := 0xFFFF_FFFC_FFFF_FFFF

def State.schedAfter (s : State) (q : Nat) (record fields : BitVec 64) : BitVec 64 :=
  merge (s.schedRec q) record (fields &&& schedMask)

def State.applyQueueSched (s : State) (q : Nat) (record fields : BitVec 64) : State :=
  s.modEqueue q fun x => { x with sched := some (s.schedAfter q record fields) }

def State.egressAfter (s : State) (p : Nat) (record fields : BitVec 64) : BitVec 64 :=
  merge (s.egressRec p) record (fields &&& 0xFFFF_FFFF_FFFF_FFFC)

def State.applyPortSched (s : State) (p : Nat) (record fields : BitVec 64) : State :=
  s.modEport p fun x => { x with cfg := some (s.egressAfter p record fields) }

def State.applyTcMap (s : State) (p : Nat) (map : BitVec 32) : State := s.modEport p fun x => { x with tcMap := some map }

/-! ## Commands (R314) -/

/-- A layout with an odd start bit is due for the octet. -/
def State.oddDue (s : State) (o : Nat) : Bool :=
  s.changes.any fun x => match x.change with | .portMode i _ m => i == o && hasOddStart m | _ => false

def State.enableDue (s : State) (o : Nat) : Bool :=
  s.changes.any fun x => match x.change with | .portEnable p on => p / 8 == o && on | _ => false

def cmdQueueModeSet (octet : Nat) (q16 : Bool) : Cmd :=
  .set 0x0601 (octet, q16) fun _ s =>
    .need (decide (octet < 128)) (.access octet) <|
    .need (!(s.octetPorts octet).any (fun p => (s.port p).enabled) && !s.enableDue octet) .conflict <|
    .need (!(q16 && (hasOddStart (s.octet octet).mask || s.oddDue octet))) .conflict <|
    .at [objQueueMode octet] s [.queueMode octet q16]

/-- The checks of a command that names a queue (R286, R314). -/
def queueRange (s : State) (q : Nat) (rest : Rule) : Rule :=
  .need (decide (q < 9472)) (.access q) (.need (s.queueExists q) .missing rest)

/-- A scheduling record in its ranges (R289). -/
def schedOk (q : Nat) (r : BitVec 64) : Bool := fld r 54 53 != 3 && !(decide (9216 ≤ q) && bit r 57)

def cmdQueueSchedSet (queue : Nat) (record fields : BitVec 64) : Cmd :=
  .set 0x0602 (queue, record, fields) fun _ s =>
    .need (decide (queue < 9472)) (.access queue) <|
    let v := merge (s.schedDue queue) record (fields &&& schedMask)
    .need (schedOk queue v) .param <|
    .need (s.queueExists queue) .missing <|
    .need (match s.queuePort queue with
      | some p =>
        !bit v 57 || s.oneDomainQueue p queue (fld v 36 34)
      | none => true) .conflict <|
    .at [objQueue queue] s [.queueSched queue record fields]

def cmdQueueSchedGet (queue : Nat) : Cmd :=
  .get 0x0603 queue fun _ s => queueRange s queue <| .reply s [(s.schedRec queue).toNat, b2n (s.equeue queue).tripped]

/-- The checks of a command that names a queue or a port. -/
def shaperRange (s : State) (isPort : Bool) (i : Nat) (rest : Rule) : Rule :=
  if isPort then portRange s i rest else queueRange s i rest

def shaperOk (r : BitVec 64) : Bool :=
  decide (fld r 63 43 ≤ 1600000) && decide (64 ≤ fld r 42 18) && decide (fld r 42 18 ≤ 16777216)

def cmdShaperSet (isPort : Bool) (index : Nat) (record : BitVec 64) : Cmd :=
  .set 0x0604 (isPort, index, record) fun _ s =>
    .need (decide (index < if isPort then 1024 else 9472)) (.access index) <|
    .need (shaperOk record) .param <| shaperRange s isPort index <|
    .at [objShaper isPort index] s [.shaper isPort index (record &&& 0xFFFF_FFFF_FFFC_0000)]

/-- A level in units of 2^-24 byte, as SHAPER_GET returns it. -/
def Shaper.shown (x : Shaper) : Nat := (BitVec.ofInt 64 (x.level / 25)).toNat

def cmdShaperGet (isPort : Bool) (index : Nat) : Cmd :=
  .get 0x0605 (isPort, index) fun _ s =>
    let x := if isPort then (s.eport index).shaper else (s.equeue index).shaper
    shaperRange s isPort index <| .reply s [x.cfg.toNat, x.shown]

/-- An egress record in its ranges (R290). -/
def egressOk (r : BitVec 64) : Bool :=
  decide (-32 ≤ sfld r 63 57) && decide (fld r 53 40 ≤ 10000) && decide (32 ≤ fld r 39 30) && decide (1 ≤ fld r 25 16)
    && decide (fld r 25 16 ≤ 1000) && decide (1 ≤ fld r 15 2) && decide (fld r 15 2 ≤ 10000)

def cmdPortSchedSet (port : Nat) (record fields : BitVec 64) : Cmd :=
  .set 0x0606 (port, record, fields) fun _ s =>
    .need (decide (port < 1024)) (.access port) <| .need (egressOk (s.egressAfter port record fields)) .param <|
    portRange s port <| .at [objSched port] s [.portSched port record fields]

def cmdTcMapSet (port : Nat) (map : BitVec 32) : Cmd :=
  .mirrored 0x0607 (.tcMapSet port map) fun _ s =>
    .need (decide (port < 1024)) (.access port) <|
    .need ((List.range 8).all fun t => decide (fld map (4 * t + 3) (4 * t) < s.qp port)) .param <|
    portRange s port <| .at [objTc port] s [.tcMap port map]

/-- PD as a value: 8 for none (DESIGN CHOICE, log 16). -/
def cmdPortSchedGet (port : Nat) : Cmd :=
  .get 0x0608 port fun _ s => portRange s port <|
    .reply s [(s.egressRec port).toNat, (s.tcMap port).toNat, b2n (s.octet (port / 8)).q16, 8 * port, s.qp port
             , (s.planDomain port).getD 8]

/-- A gate list in its ranges (R299). -/
def gateOk (g : GateSpec) : Bool :=
  decide (g.td < 8) && decide (g.base < 2 ^ 48 * 10 ^ 9) && decide (64 ≤ g.cycle) && decide (g.cycle < 2 ^ 32)
    && decide (g.ext ≤ g.cycle) && decide (1 ≤ g.gates.length) && decide (g.gates.length ≤ 256)
    && g.intervals.length == g.gates.length && g.intervals.all fun i => decide (8 ≤ i) && decide (i < 2 ^ 32)

/-- GATE_LIST_SET (R299, R301): T_x is set at acceptance, when the effective epoch is known. -/
def cmdGateListSet (port : Nat) (g : GateSpec) : Cmd :=
  .set 0x0609 (port, g) fun _ s =>
    .need (decide (port < 1024)) (.access port) <| .need (gateOk g) .param <| portRange s port <|
    .need (s.oneDomainList port g.td) .conflict <|
    .at [objGate port] s [.gateList port { spec := g, takeover := g.base * 65536 }]

def cmdGateListClear (port : Nat) : Cmd :=
  .set 0x060A port fun _ s => portRange s port <| .at [objGate port] s [.gateClear port]

/-- A list as values: TD, BASE in seconds and nanoseconds, T_x, cycle, extension, count, gates, intervals. -/
def GateList.values (l : GateList) : List Nat :=
  [l.spec.td, l.spec.base / 10 ^ 9, l.spec.base % 10 ^ 9] ++ words 2 l.takeover ++ [l.spec.cycle, l.spec.ext, l.spec.gates.length] ++ l.spec.gates.map BitVec.toNat
    ++ l.spec.intervals

/-- The operational list's current entry: in an extension the one whose gates the cycle before ended with (R302). -/
def EPort.entryNow (e : EPort) (l : GateList) : Nat :=
  (l.seg (if e.extendedAt e.lastTrans then l.takeover + l.cycle - 1 else e.lastTrans)).1

def cmdGateStatusGet (port : Nat) : Cmd :=
  (Cmd.get 0x060B port fun _ s =>
    let e := s.eport port
    portRange s port <|
    .reply s ((b2n e.oper.isSome :: ((e.oper.map GateList.values).getD []))
      ++ (b2n e.waitList.isSome :: ((e.waitList.map GateList.values).getD []))
      ++ [(e.oper.map e.entryNow).getD 0, e.gates.toNat, b2n (s.gateLength port)])).upTo 1045

def cmdEgressStatsGet (isPort : Bool) (index : Nat) (clear : Bool) : Cmd :=
  .stats 0x060C clear (isPort, index) fun _ s =>
    shaperRange s isPort index <|
    if isPort then
      statsRule s [(.gateSlip, index), (.gateHeld, index), (.guardReturns, index), (.gateTakeovers, index)] [] clear
    else
      statsRule s [(.queueFlushDrop, index), (.egressDownDrop, index), (.gateNoFitDrop, index), (.launchLateDrop, index)
        , (.launchLateSent, index), (.launchNoTime, index), (.pfcWdTrips, index), (.pfcWdDrain, index), (.handOvers, index)]
        [] clear

end Sys2Proof.Machine
end

