-- ==== Sys2Proof/Machine/Transmit.lean ====
section
/-! DEFINITION. The egress pipes and the transmit MACs: egress search and editing, egress mirror and trap copies, IOAM
trace, transmit protection, the start and the end of frames (R62, R89, R90, R121, R122, R203 to R205, R226, R248, R273,
R274, R294, R309, R328, R335, R435). -/

namespace Sys2Proof.Machine

/-! ## The egress search (R121) -/

/-- The egress rule a copy finds: none where its port is bound to no profile. -/
def State.egressFind (s : State) (c : Copy) (p : Pkt) : Found :=
  match s.objById kindBind c.port p.version with
  | some (.bind prof) =>
    if prof = 0 then .none
    else s.classify (c.port / 64) 1 prof p.version
      { frame := p.bytes, headers := p.headers, info := metaBytes p c.port c.queue }
  | _ => .none

/-- The winning rule's action. -/
def Found.action (f : Found) : Option (BitVec 128) := match f with | .rule _ r => some r.action | _ => Option.none

/-- The edit profile: the egress rule's, else the ingress rule's, else the forwarding result's. -/
def editProfile (act : Option (BitVec 128)) (p : Pkt) : Option Nat :=
  match act with
  | some a => if bit a 50 then some (fld a 49 42) else ingressEdit p
  | none => ingressEdit p

/-- The operations of a copy: its profile's, and SET_DSCP where a rule sets it, the egress rule's first. -/
def State.opsOf (s : State) (act : Option (BitVec 128)) (p : Pkt) : List EditOp :=
  let dscp (a : Option (BitVec 128)) : Option (BitVec 6) :=
    a.bind fun a => if bit a 104 then some (BitVec.ofNat 6 (fld a 103 98)) else none
  let base := match editProfile act p with | some e => s.editOps e p.version | none => []
  base ++ (((dscp act).or (dscp p.action)).map EditOp.setDscp).toList

/-- NEXT_HOP of a packet's forwarding result. -/
def nextHopOf (p : Pkt) : Nat := match p.forwarding with | some r => fld r 60 41 | none => 0

/-- The table that a copy's edit has still to read for its next hop (R156). -/
def State.hopTable (s : State) (c : Copy) (p : Pkt) (ops : List EditOp) : Option Nat :=
  if ops.contains .setMac && nextHopOf p != 0 && c.nextHop.isNone then s.tables.nextHop else none

/-- The read is outstanding. -/
def State.hopWaits (s : State) (pipe cid : Nat) : Bool :=
  s.tables.reqs.any fun q => q.requester == 64 + pipe && q.owner == cid
    && (match q.kind with | .direct _ _ hop => hop | _ => false)

/-! ## IOAM trace (R327 to R329); the option's layout is that of RFC 9197 and RFC 9486 (PRESUMED, log 25) -/

/-- Length of the field of trace-type bit `i`. -/
def ioamWidth (i : Nat) : Nat := if i = 8 ∨ i = 9 ∨ i = 10 then 8 else 4

/-- Trace-type bit `i` of the 24. -/
def traceBit (t i : Nat) : Bool := t.testBit (23 - i)

/-- The fields that a trace type asks for. -/
def traceFields (t : Nat) : List Nat := (List.range 22).filter (traceBit t)

/-- rx_ts of a packet in domain IOAM_TD, in units of 0.5 ns. -/
def State.ioamTs (s : State) (p : Pkt) : Nat :=
  if p.td = s.tel.ioamTd then p.rxTs
  else ((p.rxTs : Int) + (s.tdFrac s.tel.ioamTd / 32768 : Nat) - (s.tdFrac p.td / 32768 : Nat)).toNat

/-- One field of the node data (R328). -/
def State.ioamField (s : State) (c : Copy) (p : Pkt) (ns : BitVec 64) (i : Nat) : List Byte :=
  let hop := match p.headers.find? fun h => h.1 == 5 with | some h => byteAt p.bytes (h.2.1 + 7) | none => 0
  let ts := s.ioamTs p
  match i with
  | 0 => beBytes 1 hop ++ beBytes 3 s.tel.nodeId.toNat
  | 1 => beBytes 2 p.port ++ beBytes 2 c.port
  | 2 => beBytes 4 (ts / (2 * 10 ^ 9))
  | 3 => beBytes 4 (ts % (2 * 10 ^ 9) / 2)
  | 4 => beBytes 4 0
  | 5 => beBytes 4 ns.toNat
  | 6 => beBytes 4 c.depth
  | 8 => beBytes 1 hop ++ beBytes 7 s.tel.nodeId.toNat
  | 9 => beBytes 4 p.port ++ beBytes 4 c.port
  | 10 => beBytes 8 ns.toNat
  | 11 => beBytes 4 c.poolUsed
  | _ => beBytes 4 (2 ^ 32 - 1)

/-- The node data of a copy written, or why not; with it the place of the transit delay. -/
def State.ioamWrite (s : State) (c : Copy) (p : Pkt) (e : Editing) (off : Nat) : State × Editing × Option Nat :=
  let t := wordAt e.bytes (off + 10) 3
  let w := wordAt e.bytes (off + 8) 2
  match s.tel.namespaces.find? fun n => n.1 == wordAt e.bytes (off + 6) 2 with
  | none => (s.bump .ioamSkipped c.port, e, none)
  | some n =>
    if traceBit t 22 then (s.bump .ioamUnsupported c.port, e, none)
    else
      let fields := traceFields t
      let len := (fields.map ioamWidth).sum / 4
      let rem := w % 128
      if rem < len then (s.bump .ioamOverflow c.port, e.put (off + 8) (beBytes 2 (w ||| 0x400)), none)
      else
        let at_ := off + 14 + 4 * (rem - len)
        let e := e.put (off + 8) (beBytes 2 (w - len))
        let e := e.put at_ (fields.flatMap (s.ioamField c p n.2))
        let before := ((fields.filter fun i => decide (i < 4)).map ioamWidth).sum
        (s.bump .ioamUpdated c.port, e, if fields.contains 4 then some (at_ + before) else none)

/-- IOAM_TRACE_WRITE (R328): for a copy whose ingress rule has IOAM_EN and whose profile holds IOAM_TRACE. -/
def State.ioamTrace (s : State) (c : Copy) (p : Pkt) (e : Editing) : State × Editing × Option Nat :=
  if e.ioam && (match p.action with | some a => bit a 24 | none => false) then
    match e.find 7 with
    | some h => s.ioamWrite c p e h.2.1
    | none => (s, e, none)
  else (s, e, none)

/-! ## Egress mirror and trap copies (R122) -/

/-- The frame truncated for a mirror session: `n` bytes with its FCS. -/
def cutFrame (trunc : Nat) (f : List Byte) : List Byte := if trunc = 0 then f else f.take (trunc - 4)

/-- The packet of an egress mirror or trap copy: the edited frame in the TELEMETRY pool with its headers, bound to the tag of the
original where that is unresolved, and a copy of that packet for its version (R126). -/
def egressPkt (c : Copy) (p : Pkt) (pipe : Nat) (e : Editing) (trunc now : Nat) : Pkt :=
  let q := newPkt p.port p.fid pipe (cutFrame trunc e.bytes) p.version now
  let open_ := p.tag.isSome && p.verdict == .none
  { q with
    tag := if open_ then p.tag else none, macOk := p.macOk, verdict := if open_ then .none else .confirm
    pass := p.pass, metaVal := p.metaVal, rxTs := p.rxTs, td := p.td, cipher := p.cipher, headers := e.headers, origin := p.origin.or (some c.pkt)
    tc := p.tc, pool := ownTelemetry, egressMade := true, decision := .drop, injected := p.injected
    reason := if c.kind = .trap then 3 else 4 }

/-- One packet made for a target, cut at its session's length, admitted at once and queued for stage A. -/
def State.makeEgress (s : State) (c : Copy) (p : Pkt) (pipe : Nat) (e : Editing) (t : Target) (ctr : Ctr) : State :=
  let r := s.addPkt (egressPkt c p pipe e t.trunc s.tickStamp) false
  let s := (r.1.modPktD r.2 fun x => { x with counted := false }).bump ctr pipe
  (s.admitAll r.2 [{ t with trunc := 0 }]).queueCells r.2

/-- EGRESS_MIRROR_COPY (R122). -/
def State.egressCopies (s : State) (c : Copy) (p : Pkt) (pipe : Nat) (act : Option (BitVec 128)) (e : Editing) : State :=
  match act with
  | none => s
  | some a =>
    if c.kind = .mirror ∨ c.kind = .trap ∨ p.egressMade then s
    else
      let r := if bit a 97 then s.mirrorTarget (fld a 96 93) (64 + pipe) p.tc p.version else (s, [])
      let s := r.2.foldl (fun s t => s.makeEgress c p pipe e t .egrMirrorCopies) r.1
      if bit a 92 then s.makeEgress c p pipe e (cpuTarget (fld a 91 84) 0 .trap) .egrTrapCopies else s

/-! ## EGRESS_EDIT -/

/-- CELL_POISON_CONSUMED for cell `i` of a packet (R435, R436, R440). -/
def State.consumePoison (s : State) (port : Nat) (p : Pkt) (i : Nat) : State :=
  let n := ((p.cells[i]?).bind (·.cell)).getD 0
  (s.consumed (faultAddr 5 (cellPart n) (n * 32))).raise srcCellPoisonConsumed port (faultAddr 5 (cellPart n) (n * 32))

/-- The copy leaves the pipe dropped. -/
def State.editDrop (s : State) (cid : Nat) : State := s.dropCopy cid freeDrop

/-- Where the PTP header of the edited frame stands, with its UDP header and whether that lies over IPv4 (R273, R274). -/
def ptpPlace (e : Editing) : Option (Nat × Option (Nat × Bool)) :=
  (e.find 17).map fun h =>
    let udp := e.headers.find? fun x => x.1 == 9 && x.2.1 + 8 == h.2.1
    (h.2.1, udp.map fun u => (u.2.1, e.headers.any fun x => x.1 == 4 && x.2.1 + x.2.2 == u.2.1))

/-- The transmit SC that a rule names, the egress rule's first. -/
def txScOf (act : Option (BitVec 128)) (p : Pkt) : Option Nat :=
  let named (a : Option (BitVec 128)) : Option Nat := a.bind fun a => if bit a 62 then some (fld a 61 51) else none
  (named act).or (named p.action)

/-- One counter update of an egress pipe, on the edited frame (R135, R161). -/
def State.egressUpdate (s : State) (c : Copy) (p : Pkt) (pipe pair len : Nat) : State :=
  if p.speculative then s.modPktD c.pkt fun q => { q with pendingCounts := q.pendingCounts ++ [(64 + pipe, pair, len)] }
  else s.issueCount (64 + pipe) (pair, len)

/-- Counter updates of a copy in its egress pipe: its rule's, and its next hop's (R155, R161). -/
def State.egressCount (s : State) (c : Copy) (p : Pkt) (pipe : Nat) (act : Option (BitVec 128)) (len : Nat) : State :=
  let s := match c.hopCount with | some n => s.egressUpdate c p pipe n len | none => s
  match act with
  | some a => if bit a 83 then s.egressUpdate c p pipe (fld a 82 63) len else s
  | none => s

/-- The MAC pair a copy's next-hop read found. -/
def macPair (c : Copy) : Option Nat := (c.nextHop.getD none).map (·.toNat)

/-- The edited copy enters its MAC's FIFO; its slot is one that a rollback voids (R207). -/
def State.toMac (s : State) (cid : Nat) (c : Copy) : State :=
  let g := c.port / 16
  let s := s.modPktD c.pkt fun p => { p with editSlots := p.editSlots ++ [s.egressPipe c.port] }
  let s := s.putReleased g ((s.released g).filter (· != cid))
  (s.putMacFifo c.port (s.macFifo c.port ++ [cid])).putCopy cid (some c)

/-- The egress rule drops the copy: it counts, updates the rule's pair and makes its trap copy, of the frame as edited (R117,
R121, R122; log 38). -/
def State.dropByRule (s : State) (cid pipe : Nat) (c : Copy) (p : Pkt) (act : Option (BitVec 128)) (e : Editing) : State :=
  let f := cutFrame c.trunc e.bytes
  ((((s.bump .egrClsDrop pipe).egressCount c p pipe act (f.length + 4)).egressCopies c p pipe act { e with bytes := f })).editDrop cid

/-- The headers in which the MAC looks for a PTP message: a DIRECT frame to be stamped in one step is parsed for that alone (R273;
DESIGN CHOICE, log 17). -/
def State.ptpHeaders (s : State) (p : Pkt) (e : Editing) : Editing :=
  if p.oneStep && p.headers.isEmpty then { e with headers := (s.parse p.version e.bytes).headers } else e

/-- The copy edited in its slot: ECN mark, operations, IOAM, counter, copies. -/
def State.editCopy (s : State) (cid pipe : Nat) (c : Copy) (p : Pkt) (act : Option (BitVec 128)) (ops : List EditOp) :
    State :=
  let e0 : Editing := { bytes := p.bytes, headers := p.headers, dropped := false, ioam := false, ptp := false }
  let m := if c.ecn then e0.markCe else (e0, false)
  let tc := match act with | some a => if bit a 108 then fld a 107 105 else p.tc | none => p.tc
  let e := editFrame { s.editCtx p (macPair c) with tc := tc } ops m.1.bytes m.1.headers
  if (match act with | some a => fld a 127 125 == 1 | none => false) then s.dropByRule cid pipe c p act e
  else if e.dropped then (s.bump .editTtlDrop pipe).editDrop cid
  else
    let r := s.ioamTrace c p e
    let f := cutFrame c.trunc r.2.1.bytes
    let s := r.1.egressCount c p pipe act (f.length + 4)
    let c := { c with
      phase := .edited, frame := f, ecnDone := m.2, editProf := editProfile act p, txSc := txScOf act p, ioam := r.2.2
      correct := e.ptp, ptpAt := ptpPlace (s.ptpHeaders p r.2.1) }
    (s.toMac cid c).egressCopies c p pipe act r.2.1

/-- A copy in its edit slot, with what its search found. -/
def State.editFound (s : State) (cid pipe : Nat) (c : Copy) (p : Pkt) (f : Found) : State :=
  match f with
  | .trap addr => (s.tablePoison addr).editDrop cid
  | _ => s.editCopy cid pipe c p f.action (s.opsOf f.action p)

/-- The copy is the next of its port to be edited. -/
def State.editNext (s : State) (cid : Nat) (c : Copy) : Bool :=
  ((s.released (c.port / 16)).find? fun x => match s.copy x with | some y => y.port == c.port | none => false) == some cid

/-- Released copies of the octets that an egress pipe serves: `x` tells its own, 0, from adopted ones, 1. -/
def State.editQueue (s : State) (pipe x : Nat) : List Nat :=
  ((List.range 4).map fun i => pipe / 4 * 4 + i).flatMap fun g =>
    if s.egressPipe (g * 16) == pipe && octetSide pipe (g * 16) == x then s.released g else []

/-- A copy of a port waits while the pipe's other octets, own or adopted, have a copy ready and their turn (R428). -/
def State.editGives (s : State) (pipe port : Nat) : Bool :=
  let x := octetSide pipe port
  s.turn (128 + pipe) != x && (s.editQueue pipe (1 - x)).any fun cid =>
    match s.copy cid with | some c => s.editNext cid c && !s.hopWaits pipe cid | none => false

/-- The slot of an egress pipe is taken; the other octets have the next turn (R428). -/
def State.carryEdit (s : State) (pipe port : Nat) : State := (s.carry (64 + pipe)).putTurn (128 + pipe) (1 - octetSide pipe port)

/-- The copy is the next of its port to be edited, and its pipe has a slot that is its octets' to take. -/
def State.editReady (s : State) (cid pipe : Nat) (c : Copy) : Bool :=
  s.worked && s.sliceLive (c.port / 64) && decide (s.slotsUsed (64 + pipe) < 2) && s.editNext cid c && !s.editGives pipe c.port

/-- EGRESS_EDIT (R121): the copy takes a slot of its pipe, unless it has first to read its next hop. -/
def execEgressEdit (cid : Nat) (s : State) : Host.Outcome State Fault Refusal :=
  match s.copy cid with
  | none => .next s
  | some c =>
    match s.pkt c.pkt with
    | none => .next s
    | some p =>
      let pipe := s.egressPipe c.port
      if !s.editReady cid pipe c then .next s
      else if (p.cells[0]?).any (·.poison) || c.poison.contains 0 then
        .next ((((s.carryEdit pipe c.port).bump .egressPoisonDrop c.port).consumePoison c.port p 0).editDrop cid)
      else
        let f := s.egressFind c p
        match s.hopTable c p (s.opsOf f.action p) with
        | some t =>
          if s.hopWaits pipe cid then .next s
          else .next (s.addReq (newReq (64 + pipe) cid (.direct t (nextHopOf p) true)))
        | none => .next ((s.carryEdit pipe c.port).editFound cid pipe c p f)

/-- A copy of the pipe waits for its next-hop read. -/
def State.hopWait (s : State) (pipe : Nat) : Bool :=
  s.tables.reqs.any fun q => q.requester == 64 + pipe && q.counts && !q.dead

/-- The egress slots of a worked tick that no command has accounted (R335). -/
def State.accountEgress (s : State) (pipe : Nat) : State :=
  let r := !(s.editQueue pipe 0 ++ s.editQueue pipe 1).isEmpty
  s.accountRest (64 + pipe) r r (s.hopWait pipe) true

/-- Every slot of a worked tick counts in its pipe's ledger by the tick's end (R335). -/
def State.accountIdle (s : State) : State :=
  if s.worked then (List.range 64).foldl (fun s g => (s.accountIngress g).accountEgress g) s else s

/-- EGRESS_PIPE_SLOT (R335): the slots of the tick that edited no copy are accounted. A copy that was ready and waited for
no next-hop read waited for its MAC FIFO. -/
def execEgressPipeSlot (pipe : Nat) (ready0 ready1 : Bool) (s : State) : Host.Outcome State Fault Refusal :=
  onUnit (decide (pipe < 64)) pipe
    (if s.worked then s.accountRest (64 + pipe) ready0 ready1 (s.hopWait pipe) true else s)

/-! ## Transmit protection (R77, R89, R90) -/

/-- What the transmit engine makes of a frame: no SecY; sent uncontrolled; dropped, with its counter; or protected. -/
inductive TxClass where
  | off
  | clear
  | dropped (c : Ctr) (inst : Nat)
  | poisoned (addr : BitVec 64) (inst : Nat)
  | secured (sa : Nat)
deriving DecidableEq, Repr

/-- The default transmit SC of a port: its lowest (log 26). -/
def State.defaultSc (s : State) (port : Nat) : Option Nat :=
  ((List.range 16).map fun i => port / 8 * 16 + i).find? fun n => (s.txSc n).valid && (s.txSc n).port == port

def State.txClassSc (s : State) (port sc : Nat) : TxClass :=
  if !(s.txSc sc).valid || (s.txSc sc).port != port then .dropped .outPktsNoSC port
  else match (s.txSc sc).enc with
  | none => .dropped .outPktsNoSA port
  | some an =>
    let a := sc * 4 + an
    if !(s.txSa a).present then .dropped .outPktsNoSA port
    else if (s.txSa a).erased then .dropped .cipherKeyErasedDrop (port / 8 * 2 + 1)
    else if s.faults.poisoned.contains (saAddr 1 a) then .poisoned (saAddr 1 a) (port / 8 * 2 + 1)
    else if s.pnExhausted a then .dropped .outPktsPnExhausted a
    else .secured a

/-- An engine that has been erased or fenced drops protected frames (R94, R101). A port with no transmit SC drops the frame as
one that names another port's (DESIGN CHOICE, log 106). -/
def State.txClass (s : State) (port : Nat) (c : Copy) : TxClass :=
  if !s.macsecOn port then .off
  else if s.clearEtype port c.frame then .clear
  else if s.engineDead (port / 8 * 2 + 1) then .dropped .cipherKeyErasedDrop (port / 8 * 2 + 1)
  else match c.txSc.or (s.defaultSc port) with
  | some sc => s.txClassSc port sc
  | none => .dropped .outPktsNoSC port

/-- Bytes that protection adds. -/
def State.secBytes (s : State) (port : Nat) (k : TxClass) : Nat :=
  match k with | .secured _ => s.secLen port | _ => 0

/-- The frame's length by R3: with its FCS, SecTAG and ICV. -/
def State.wireLen (s : State) (port : Nat) (c : Copy) (k : TxClass) : Nat := c.frame.length + 4 + s.secBytes port k

/-! ## Time-stamps in the frame (R273, R274, R328) -/

/-- Bytes put at an even place of a UDP datagram, its checksum updated word by word; a zero IPv4 checksum stays zero. -/
def putUdp (f : List Byte) (udp : Option (Nat × Bool)) (pos : Nat) (l : List Byte) : List Byte :=
  let g := putBytes f pos l
  match udp with
  | none => g
  | some (u, v4) =>
    let old := wordAt f (u + 6) 2
    if v4 && old == 0 then g
    else
      let c := (List.range (l.length / 2)).foldl
        (fun c i => checksumUpdate c (wordAt f (pos + 2 * i) 2) (wordAt g (pos + 2 * i) 2)) old
      putBytes g (u + 6) (beBytes 2 (if c = 0 then 65535 else c))

/-- The header is that of a PTP event message. -/
def ptpEvent (f : List Byte) (pos : Nat) : Bool := decide (byteAt f pos % 16 ≤ 3)

/-- correctionField changed by `n` units of 2^-16 ns; none where the sum overflows. -/
def addCorrection (f : List Byte) (pos : Nat) (udp : Option (Nat × Bool)) (n : Int) : Option (List Byte) :=
  let v := (BitVec.ofNat 64 (wordAt f (pos + 8) 8)).toInt + n
  if -(2 : Int) ^ 63 ≤ v ∧ v < (2 : Int) ^ 63 then some (putUdp f udp (pos + 8) (beBytes 8 (BitVec.ofInt 64 v).toNat)) else none

/-- ONE_STEP (R273): seconds and nanoseconds of tx_ts, its fraction added to correctionField. -/
def oneStep (f : List Byte) (pos : Nat) (udp : Option (Nat × Bool)) (ts : Nat) : List Byte :=
  let g := putUdp f udp (pos + 34) (beBytes 6 (ts / (2 * 10 ^ 9)) ++ beBytes 4 (ts % (2 * 10 ^ 9) / 2))
  (addCorrection g pos udp (ts % 2 * 32768 : Nat)).getD g

/-- PTP_CORRECT (R274), or its count as skipped. -/
def State.ptpCorrect (s : State) (c : Copy) (p : Pkt) (ts : Nat) : State × List Byte :=
  let skip := (s.bump .ptpCorrectSkipped c.port, c.frame)
  match c.ptpAt with
  | none => skip
  | some (pos, udp) =>
    if p.td ≠ s.portTd c.port ∨ !ptpEvent c.frame pos then skip
    else match addCorrection c.frame pos udp (((ts : Int) - p.rxTs) * 32768) with
    | some f => (s, f)
    | none => skip

/-- The frame as its MAC sends it, time-stamps written. -/
def State.stampFrame (s : State) (c : Copy) (p : Pkt) (ts : Nat) : State × List Byte :=
  let r := if c.correct then s.ptpCorrect c p ts else (s, c.frame)
  let f := match c.ptpAt with
    | some (pos, udp) => if p.oneStep && ptpEvent r.2 pos then oneStep r.2 pos udp ts else r.2
    | none => r.2
  match c.ioam with
  | none => (r.1, f)
  | some at_ =>
    if p.td = r.1.portTd c.port then
      let d := (ts - p.rxTs) / 2
      (r.1, putBytes f at_ (beBytes 4 (if d < 2 ^ 31 then d else 2 ^ 31 ||| d % 2 ^ 31)))
    else (r.1.draw, putBytes f at_ (beBytes 4 (r.1.freeVal 32).toNat))

/-! ## MAC_FRAME_START -/

/-- The first instant after `x` at which the frame would pass its gate, among the boundaries of a cycle; none where it passes at
none of them. -/
def State.nextPass (s : State) (port q len fuel x : Nat) : Option Nat :=
  match fuel with
  | 0 => none
  | fuel + 1 =>
    let y := (s.eport port).nextAt x
    if s.gateAdmit port q len y then some y else s.nextPass port q len fuel y

/-- What the MAC makes of its next frame: not yet, late, held by its gate until an instant (none while it would pass at none), or to be started, having
slipped or not. -/
inductive StartJudge where
  | wait
  | late
  | held (till : Option Nat)
  | start (slipped : Bool)
deriving DecidableEq, Repr

/-- The start of a frame that the present lists never let pass: it is looked at anew in every tick. -/
def neverPlan : Nat := 2 ^ 128

/-- R309 for a planned frame with start `x`, in domain `pd`: the first tick at or after `x` is that whose sample, and not the
sample before, has reached it; a frame planned again is judged in any case (R303). -/
def State.startJudge (s : State) (port pd x : Nat) (c : Copy) : StartJudge :=
  let a := s.sampled pd
  if x = neverPlan then (if s.gateAdmit port c.queue c.sched a then .start true else .wait)
  else if a < x then .wait
  else if s.tooLate c.queue c.launch a then .late
  else if s.prevSample pd < x && !c.rejudge then .start false
  else if !s.gateAdmit port c.queue c.sched a then
    .held ((s.nextPass port c.queue c.sched (s.eport port).scanLen a).map (s.sampleFrom pd))
  else .start true

def State.judgeStart (s : State) (port : Nat) (c : Copy) : StartJudge :=
  match c.plan, s.planDomain port with
  | some x, some pd => if c.planned then s.startJudge port pd x c else .start false
  | _, _ => .start false

/-- The frame is too long for its port (R62, R89): the counters of its drop. -/
def State.dropOversize (s : State) (port cid : Nat) (k : TxClass) : State :=
  let s := s.bump .txOversizeDrop port
  let s := match k with | .secured _ => s.bump .outPktsTooLong port | _ => s
  s.dropCopy cid freeDrop

/-- The frame's length is known before it starts: a frame stored whole (R62). -/
def lengthKnown (c : Copy) (p : Pkt) : Bool := !c.cut || p.cells.all (·.written)

/-- A planned frame that starts after its planned start counts in GateSlip, and F follows the actual start (R309). -/
def State.slipFrame (s : State) (port : Nat) (c : Copy) : State :=
  let s := s.bump .gateSlip port
  match s.planDomain port with
  | some pd => s.modEport port fun e => { e with plannedEnd := max e.plannedEnd (s.sampled pd + s.durOf port c.sched) }
  | none => s

/-- The frame begins: its PN, its time-stamps (R90, R248, R273). -/
def State.beginFrame (s : State) (port cid : Nat) (c : Copy) (p : Pkt) (k : TxClass) (pcsPs : Nat) : State :=
  let ts := s.txTs port pcsPs
  let r := s.stampFrame c p ts
  let s := r.1
  let sa := match k with | .secured a => some a | _ => none
  let pn := match k with | .secured a => (s.txSa a).pn | _ => 0
  let sec := match k with | .secured a => some (s.secTx port a r.2) | _ => none
  let s := match k with | .secured a => s.takePn a | .clear => s.bump .outPktsUntagged port | _ => s
  let s := if c.cut then s.bump .cutThroughStarted port else s
  let s := if c.ecnDone then (s.bump .queueEcnMarked c.queue).perfCount 0x042 (port / 64 * 4) 1 else s
  let s := (s.putMacFifo port ((s.macFifo port).filter (· != cid))).putSending port (some cid)
  s.putCopy cid (some { c with
    phase := .sending, frame := r.2, sa := sa, pn := pn, sec := sec, maxTx := s.maxFrame port, known := lengthKnown c p
    txTs := ts, stamp := (s.clock.epoch, s.clock.tick, s.portTd port), startedAt := s.tickStamp, startClk := s.now })

/-- The frame may go: length, protection, start. -/
def State.startFrame (s : State) (port cid : Nat) (c : Copy) (p : Pkt) (pcsPs : Nat) (slipped : Bool) : State :=
  let k := s.txClass port c
  if lengthKnown c p && decide (s.maxFrame port < s.wireLen port c k) then s.dropOversize port cid k
  else match k with
  | .dropped x i => (s.bump x i).dropCopy cid freeDrop
  | .poisoned a i => ((s.bump .cipherKeyErasedDrop i).consumed a).dropCopy cid freeDrop
  | _ => (if slipped then s.slipFrame port c else s).beginFrame port cid c p k pcsPs

/-- MAC_FRAME_START (R309). -/
def execMacFrameStart (port : Nat) (pcsPs : Nat) (s : State) : Host.Outcome State Fault Refusal :=
  onUnit (decide (port < 1024)) port
    (if (s.sending port).isSome || !(s.port port).rawUp || !s.portUp port || s.flowBusy port then s
     else match (s.macFifo port).head? with
     | none => s
     | some cid =>
       match s.copy cid with
       | none => s
       | some c =>
         match s.pkt c.pkt with
         | none => s
         | some p =>
           match s.judgeStart port c with
           | .wait => s
           | .late =>
             if s.lateSend c.queue then
               (s.lateFrame cid c).startFrame port cid { c with late := true, launch := none } p pcsPs false
             else s.lateFrame cid c
           | .held t => (s.bump .gateHeld port).putCopy cid (some { c with plan := some (t.getD neverPlan), rejudge := false })
           | .start slipped =>
             s.startFrame port cid c p pcsPs slipped)

/-! ## TX_FRAME_END -/

/-- The copy's first poisoned cell. -/
def Copy.poisonCell (c : Copy) (p : Pkt) : Option Nat :=
  (List.range p.cells.length).find? fun i => c.poison.contains i || (p.cells[i]?).any (·.poison)

/-- A cut-through copy whose MAC came to a cell that was not held (R245). -/
def Copy.underrun (c : Copy) (p : Pkt) : Bool := c.cut && decide (c.out < p.cells.length)

/-- The copy's tag has not resolved. -/
def Pkt.unresolved (p : Pkt) : Bool := p.tag.isSome && p.verdict == .none

/-- Bytes of the frame under way on the line, without its FCS: with the SecTAG and ICV that protection adds (R3, R89). -/
def Copy.lineLen (c : Copy) : Nat := c.frame.length + c.secExtra

/-- A place in the plaintext as a place on the line: the SecTAG stands ahead of what follows its own place. -/
def Copy.linePos (c : Copy) (n : Nat) : Nat :=
  match c.sec with | some x => if n ≤ x.place then n else n + x.tag.length | none => n

/-- The plaintext bytes among the first `n` bytes on the line. -/
def Copy.plainPos (c : Copy) (n : Nat) : Nat :=
  match c.sec with
  | some x => if n ≤ x.place then n else max x.place (n - x.tag.length)
  | none => n

/-- What would stomp the frame under way, each with the bytes on the line ahead of it: a cause that has reached the MAC after
`sent` bytes, a poisoned cell, a cell not held, MAX_FRAME of a frame whose length was not known, the last data byte with the
tag unresolved (R62, R203 to R205, R245, R435). -/
def Copy.causes (c : Copy) (p : Pkt) (sent : Nat) : List (Nat × Nat) :=
  (if c.stomp = 0 then [] else [(sent, c.stomp)])
    ++ (if p.unresolved then [(c.lineLen, stompEarly)] else [])
    ++ (if !c.known && decide (c.maxTx < c.lineLen + 4) then [(c.maxTx - 4, stompOversize)] else [])
    ++ (match c.poisonCell p with | some i => [(c.linePos (256 * i), stompPoison)] | none => [])
    ++ (if c.underrun p then [(c.linePos (256 * c.out), stompReseq)] else [])

/-- The cause that came first; among causes of one place, the first row of R205. -/
def firstCause (l : List (Nat × Nat)) : Option (Nat × Nat) :=
  l.foldl (fun b x => match b with | none => some x | some y => if x.1 < y.1 then some x else b) none

/-- Bytes on the line ahead of the FCS of a stomped copy: the first multiple of 64 at or after those sent, or what MAX_FRAME
leaves (R62, R203). -/
def stompedLen (maxTx : Nat) (e : Nat × Nat) : Nat := if e.2 = stompOversize then maxTx - 4 else (e.1 + 63) / 64 * 64

/-- The counters of a stomp (R204, R205, R245); one for a cipher mismatch is a rollback's stomp of R87 (DEDUCED, log 39). -/
def State.countStomp (s : State) (port cause : Nat) (c : Copy) (p : Pkt) : State :=
  let s := s.bump .txStomped port
  if cause = stompOversize then s.bump .txOversizeStomp port
  else if cause = stompPoison then (s.bump .txStompPoison port).consumePoison port p ((c.poisonCell p).getD 0)
  else if cause = stompReseq then
    let s := s.bump .txStompReseq port
    if c.cut then s.bump .cutThroughUnderrun port else s
  else if cause = stompRollback ∨ cause = stompCipher then s.bump .txStompRollback port
  else if cause = stompEarly then (s.bump .txStompRollback port).bump .txStompEarly port
  else s

/-- The counters of a frame sent whole (R73, R100). -/
def State.countSent (s : State) (port len : Nat) (c : Copy) : State :=
  let s := ((s.bump .txFramesOk port).bumpBy .txOctetsOk port len).bump .txSize (port * 16 + sizeBin len)
  let cast := destCast c.frame
  let s := s.bump (if cast = 2 then .txBroadcast else if cast = 1 then .txMulticast else .txUnicast) port
  match c.sa with
  | none => s
  | some a =>
    if (c.sec.map (·.conf)).getD false then
      (s.bump .outPktsEncrypted a).bumpBy .outOctetsEncrypted a (c.frame.length + 4)
    else (s.bump .outPktsProtected a).bumpBy .outOctetsProtected a (c.frame.length + 4)

/-- The line's bytes of a plaintext frame, without ICV and FCS. -/
def Copy.lineBody (c : Copy) (f : List Byte) : List Byte := match c.sec with | some x => x.body f | none => f

/-- The frame as the line gets it, with its FCS: whole, with its ICV where it is protected; or stomped, zeros in place of every byte
from the cause on, encrypted where the frame is, and the FCS inverted (R87, R89, R203). -/
def Copy.lineFrame (c : Copy) (cause : Option (Nat × Nat)) : List Byte :=
  match cause with
  | none =>
    let b := c.lineBody c.frame ++ (match c.sec with | some x => x.icv c.frame | none => [])
    b ++ fcsOf b
  | some e =>
    let n := stompedLen c.maxTx e
    let b := (c.lineBody (c.frame.take (c.plainPos e.1) ++ List.replicate n 0)).take n
    b ++ badFcs b

/-- The copy's transmission ends (R203 to R205, R273, R294); the pause and PFC frames that waited for it follow (R65). -/
def State.endFrame (s : State) (port cid sent : Nat) (c : Copy) (p : Pkt) : State :=
  let cause := firstCause (c.causes p sent)
  let f := c.lineFrame cause
  let s := { s with pk := { s.pk with sent := (port, f, cause.isNone) :: s.pk.sent } }
  let s := match cause with
    | none => s.countSent port f.length c
    | some e => s.countStomp port e.2 c p
  let s := if c.kind = .unicast ∨ c.kind = .group then
      s.txRecord p port (if cause.isNone then 1 else 2) c.txTs c.stamp else s
  (((s.credit cid f.length).putSending port none).leaveMac cid).sendDueFlow port

/-- TX_FRAME_END (R294): `sent` is how many data bytes had gone out when a stomp's cause reached the MAC. -/
def execTxFrameEnd (port : Nat) (sent : Nat) (s : State) : Host.Outcome State Fault Refusal :=
  onUnit (decide (port < 1024)) port
    (match s.sending port with
     | none => s
     | some cid =>
       match s.copy cid with
       | none => s.putSending port none
       | some c =>
         match s.pkt c.pkt with
         | none => s.putSending port none
         | some p => s.endFrame port cid sent c p)

end Sys2Proof.Machine
end

