-- ==== Sys2Proof/Machine/Telemetry.lean ====
section
/-! DEFINITION. Queue samples, export streams, queue reports, throttle notices and event counters
(spec/13_telemetry.md). -/

namespace Sys2Proof.Machine

/-! ## Queue samples (R315, R316) -/

def sat24 (n : Nat) : Nat := min n (2 ^ 24 - 1)

/-- The head sojourn of a queue in ticks, 0 where it is empty (R315). -/
def State.headDelay (s : State) (q : Nat) : Nat :=
  match (s.qList q).head? with
  | some cid => match s.copy cid with | some c => s.tickStamp - c.queuedAt | none => 0
  | none => 0

/-- The gate of a queue is closed (R300): none for a CPU queue. -/
def State.gateShut (s : State) (q : Nat) : Bool :=
  match s.queuePort q with
  | some p => !bit (s.eport p).gates (s.gateBit p q)
  | none => false

/-- QFLAGS of R321. -/
def State.qFlags (s : State) (q : Nat) : Nat :=
  b2n (s.queuePaused q) + 2 * b2n (s.equeue q).tripped + 4 * b2n (s.gateShut q)
    + 8 * b2n (s.ecnEn q && decide (s.ecnCells q ≤ s.cq q))

/-- The stream is enabled and samples the queue. -/
def Stream.selects (x : Stream) (q : Nat) : Bool :=
  x.rcd.en == 1 && decide (x.rcd.firstQueue ≤ q) && decide (q ≤ x.rcd.lastQueue)

/-- A peak of stream `k` taken over another sample; a peak of nothing is not listed. -/
def addPeak (l : List (Nat × Nat × Nat)) (k depth delay : Nat) : List (Nat × Nat × Nat) :=
  let old := ((l.find? fun x => x.1 == k).map (·.2)).getD (0, 0)
  let new := (max old.1 depth, max old.2 delay)
  if new = (0, 0) then l else (l.filter fun x => x.1 != k) ++ [(k, new.1, new.2)]

/-- The peaks of one queue in a stream's interval. -/
def Queue.peak (x : Queue) (k : Nat) : Nat × Nat := ((x.peaks.find? fun e => e.1 == k).map (·.2)).getD (0, 0)

def State.sampleQueue (s : State) (q : Nat) : State :=
  if s.queueExists q then
    let x := s.equeue q
    let d := sat24 (s.cq q)
    let w := sat24 (s.headDelay q)
    let ks := (List.range 4).filter fun k => (s.stream k).selects q
    let y := { x with depth := d, delay := w, qflags := s.qFlags q, peaks := ks.foldl (fun l k => addPeak l k d w) x.peaks }
    if x = y then s else s.putEqueue q y
  else s

/-- The samples of an epoch boundary, on the state at the end of tick 1,023 (R315). -/
def State.sampleQueues (s : State) : State := (List.range 9472).foldl (fun s q => s.sampleQueue q) s

/-! ## Export streams (R317 to R319) -/

/-- The fields of `r` that the mask names, over the record `o`: bit i is the i-th field of R317's table (log 21). -/
def mergeStream (o r : StreamRec) (fields : BitVec 16) : StreamRec :=
  let f (i : Nat) {α : Type} (a b : α) : α := if bit fields i then b else a
  { en := f 0 o.en r.en, format := f 1 o.format r.format, destKind := f 2 o.destKind r.destKind, dest := f 3 o.dest r.dest
    tc := f 4 o.tc r.tc, da := f 5 o.da r.da, sa := f 6 o.sa r.sa, etherType := f 7 o.etherType r.etherType
    template := f 8 o.template r.template, firstQueue := f 9 o.firstQueue r.firstQueue
    lastQueue := f 10 o.lastQueue r.lastQueue, intervalExp := f 11 o.intervalExp r.intervalExp
    records := f 12 o.records r.records, depthThresh := f 13 o.depthThresh r.depthThresh
    delayThresh := f 14 o.delayThresh r.delayThresh }

/-- The ranges of R317. -/
def streamOk (r : StreamRec) : Bool :=
  decide (r.en ≤ 1) && decide (r.format ≤ 2) && decide (r.destKind ≤ 1)
    && decide (r.dest ≤ if r.destKind = 0 then 255 else 1023) && decide (r.tc ≤ 7)
    && (decide (r.template ≤ 63) || r.template == 0xFF) && decide (r.firstQueue ≤ 9471) && decide (r.lastQueue ≤ 9471)
    && decide (r.firstQueue ≤ r.lastQueue) && decide (r.intervalExp ≤ 20) && decide (1 ≤ r.records)
    && decide (r.records ≤ 512) && decide (r.depthThresh < 2 ^ 24) && decide (r.delayThresh < 2 ^ 24)

/-- The peaks of stream `k` restart for the queues `p` names (R318). -/
def State.dropPeaks (s : State) (k : Nat) (p : Nat → Bool) : State :=
  let qs := s.eg.queues.map fun (e : Nat × Queue) =>
    (e.1, if p e.1 then { e.2 with peaks := e.2.peaks.filter fun x => x.1 != k } else e.2)
  { s with eg.queues := qs.filter fun (e : Nat × Queue) => e.2 != Queue.init }

/-- A stream's record in force (R317): one enabled begins an interval, a partial one in the middle (R318); one disabled
has nothing left to generate. `format` is what FORMAT 0 resolves to for the sender. -/
def State.applyStream (s : State) (k : Nat) (r : StreamRec) (fields : BitVec 16) (format : Nat) : State :=
  let x := s.stream k
  let n := mergeStream x.rcd r fields
  let f := if n.format ≠ 0 then n.format else format
  let y := { x with rcd := n, format := f }
  if x.rcd.en = 0 ∧ n.en = 1 then
    (s.putStream k { y with openFrom := s.clock.epoch, partialOpen := s.clock.epoch % 2 ^ n.intervalExp != 0
                            due := [], discarded := false }).dropPeaks k fun _ => true
  else if n.en = 0 then s.putStream k { y with due := [] }
  else s.putStream k y

/-- The sample of a queue reaches the stream's thresholds (R317). -/
def State.exports (s : State) (r : StreamRec) (k q : Nat) : Bool :=
  let pk := (s.equeue q).peak k
  let a := decide (r.depthThresh ≤ pk.1)
  let b := decide (r.delayThresh ≤ pk.2)
  if r.depthThresh = 0 then b else if r.delayThresh = 0 then a else a || b

/-- The ungenerated remainder of a stream's interval is discarded (R318). -/
def State.discardDue (s : State) (k : Nat) : State :=
  let x := s.stream k
  if x.due.isEmpty then s.putStream k { x with discarded := false }
  else
    let s := (s.dropPeaks k fun q => x.due.contains q).bump .exportOverrun k
    (s.putStream k { x with due := [], discarded := true }).noteOnceAs srcTelemetryOverrun k 0

/-- An interval of stream `k` closes: its queues are due for export. -/
def State.closeInterval (s : State) (k : Nat) : State :=
  let s := s.discardDue k
  let x := s.stream k
  let sel := (List.range (x.rcd.lastQueue + 1)).filter fun q => decide (x.rcd.firstQueue ≤ q) && s.queueExists q
  let out := sel.filter fun q => s.exports x.rcd k q
  let s := s.dropPeaks k fun q => !out.contains q
  s.putStream k { x with due := out, intervalFrom := x.openFrom, partialDue := x.partialOpen, openFrom := s.clock.epoch
                         partialOpen := false }

/-- STREAM_INTERVAL_CLOSE (R318), in tick 0 of an epoch that closes the stream's interval. -/
def execStreamIntervalClose (stream : Nat) (s : State) : Host.Outcome State Fault Refusal :=
  onUnit (decide (stream < 4)) stream
    (let x := s.stream stream
     if s.clock.running ∧ x.rcd.en = 1 ∧ s.clock.tick = 0 ∧ s.clock.epoch % 2 ^ x.rcd.intervalExp = 0 ∧
         x.openFrom ≠ s.clock.epoch then s.closeInterval stream
     else s)

/-! ## Export packets (R320 to R322) -/

/-- The export header: 2.0 in 32 bytes, 1.x in 24 (R320, R322). -/
def State.exportHeader (s : State) (k kind epoch count : Nat) : List Byte :=
  let x := s.stream k
  let v2 := x.format = 2
  let flags := b2n x.partialDue + 2 * b2n x.discarded
  let head := beBytes 2 (if v2 then 0x0200 else 0x0100) ++ beBytes 1 kind ++ beBytes 1 s.sec.deviceId ++ beBytes 8 epoch
    ++ beBytes 4 x.seq ++ beBytes 2 count ++ beBytes 1 x.rcd.intervalExp ++ beBytes 1 k
    ++ beBytes 1 (if v2 then s.power.op else 0) ++ beBytes 1 flags ++ beBytes 2 0
  if v2 then
    head ++ beBytes 4 (s.tel.td0At / (10 ^ 9 * 65536)) ++ beBytes 4 (s.tel.td0At / 65536 % 10 ^ 9)
  else head

/-- The frame of an export packet: Ethernet header, template, and what follows. -/
def State.exportFrame (s : State) (k : Nat) (after : List Byte) : List Byte :=
  let r := (s.stream k).rcd
  let f := beBytes 6 r.da.toNat ++ beBytes 6 r.sa.toNat ++ beBytes 2 r.etherType.toNat ++ after
  let t := if r.template = 0xFF then none else s.templateBytes s.rules.current r.template
  match t with
  | some b =>
    padFrame (Editing.encap { bytes := f, headers := [], dropped := false, ioam := false, ptp := false } b).bytes
  | none => padFrame f

/-- One packet of stream `k` (R319): SEQUENCE advances whether or not it is admitted; the mark says that it was. -/
def State.exportPacket (s : State) (k kind epoch count : Nat) (body : List Byte) : State × Bool :=
  let r := (s.stream k).rcd
  let bytes := s.exportFrame k (s.exportHeader k kind epoch count ++ body)
  let s := (s.modStream k fun x => { x with seq := (x.seq + 1) % 2 ^ 32 }).bump .exportPackets k
  let g :=
    if r.destKind = 0 then s.generate { s.madePkt 0xFFFF 0 bytes 5 6 with madeBy := some (k, kind) } (cpuTarget r.dest 0 .cpu)
    else
      let p := { s.madePkt 0xFFFF (s.madePipe r.dest) bytes 5 6 with tc := r.tc, madeBy := some (k, kind) }
      match s.portTarget r.dest r.tc 0 .unicast with
      | (s, t :: _) => s.generate p t
      | (s, []) => (s, false)
  (if g.2 then g.1 else g.1.exportRefused (some (k, kind)), g.2)

/-- The record of a queue (R321, R322). -/
def State.queueRecord (s : State) (k q : Nat) : List Byte :=
  let x := s.equeue q
  let pk := x.peak k
  if (s.stream k).format = 2 then
    beBytes 2 q ++ beBytes 1 x.qflags ++ beBytes 1 0 ++ beBytes 3 x.depth ++ beBytes 3 pk.1 ++ beBytes 3 x.delay
      ++ beBytes 3 pk.2
  else beBytes 2 q ++ beBytes 3 x.depth ++ beBytes 3 pk.1 ++ beBytes 3 x.delay ++ beBytes 1 0

/-- The next sample packet of stream `k`. -/
def State.exportSamples (s : State) (k : Nat) : State :=
  let x := s.stream k
  let qs := x.due.take x.rcd.records
  let body := (qs.map fun q => s.queueRecord k q).flatten
  let s := (s.exportPacket k 1 x.intervalFrom qs.length body).1
  let s := (s.bumpBy .exportRecords k qs.length).dropPeaks k fun q => qs.contains q
  s.modStream k fun y => { y with due := x.due.drop x.rcd.records, lastGen := some s.tickStamp }

/-- EXPORT_PACKET_GENERATE (R318): at most one packet of a stream in a worked tick. -/
def execExportPacketGenerate (stream : Nat) (s : State) : Host.Outcome State Fault Refusal :=
  onUnit (decide (stream < 4)) stream
    (let x := s.stream stream
     if s.worked ∧ !x.due.isEmpty ∧ x.lastGen ≠ some s.tickStamp then s.exportSamples stream else s)

/-- QUEUE_REPORT_GENERATE (R324): in the tick after hand-over; the header carries the epoch of the hand-over. -/
def State.generateReport (s : State) (q stamp : Nat) (body : List Byte) : State :=
  let k := (s.equeue q).report.stream
  (s.exportPacket k 3 (stamp / 1024) 1 body).1

def execQueueReportGenerate (queue : Nat) (s : State) : Host.Outcome State Fault Refusal :=
  onUnit (decide (queue < 9472)) queue
    (match (s.equeue queue).reportDue with
     | (stamp, body) :: rest =>
       if s.worked ∧ stamp < s.tickStamp then
         (s.modEqueue queue fun x => { x with reportDue := rest }).generateReport queue stamp body
       else s
     | [] => s)

/-- The notices of an operating-point change in tick 0 of its epoch (R326). -/
def State.throttleNotices (s : State) (new old cause measured : Nat) : State :=
  let body := beBytes 1 new ++ beBytes 1 old ++ beBytes 1 cause ++ beBytes 1 0 ++ beBytes 2 s.power.capW
    ++ beBytes 2 (if cause = 3 then 0 else measured) ++ beBytes 8 0
  (List.range 4).foldl (fun s k =>
    if (s.stream k).rcd.en = 1 ∧ (s.stream k).format = 2 then
      (s.exportPacket k 2 s.clock.epoch 1 body).1.bump .throttleNotices k
    else s) s

/-! ## Reports and IOAM -/

/-- The fields of `r` that the mask names, over the record `o` (R323, log 21). -/
def mergeReport (o r : ReportRec) (fields : BitVec 8) : ReportRec :=
  let f (i a b : Nat) : Nat := if bit fields i then b else a
  { en := f 0 o.en r.en, stream := f 1 o.stream r.stream, delayTrig := f 2 o.delayTrig r.delayTrig
    depthTrig := f 3 o.depthTrig r.depthTrig, gap := f 4 o.gap r.gap, snapLen := f 5 o.snapLen r.snapLen }

/-- The ranges of R323. -/
def reportOk (r : ReportRec) : Bool :=
  decide (r.en ≤ 1) && decide (r.stream ≤ 3) && decide (r.delayTrig < 2 ^ 24) && decide (r.depthTrig < 2 ^ 24)
    && decide (16 ≤ r.gap) && decide (r.gap ≤ 65535) && decide (r.snapLen ≤ 128)

def State.applyReport (s : State) (q : Nat) (r : ReportRec) (fields : BitVec 8) : State :=
  s.modEqueue q fun x => { x with report := mergeReport x.report r fields }

def State.applyIoam (s : State) (nodeId : BitVec 56) (td : Nat) (namespaces : List (Nat × BitVec 64)) : State :=
  { s with tel := { s.tel with nodeId := nodeId, ioamTd := td, namespaces := namespaces } }

/-! ## Event counters (R330 to R334) -/

/-- Events of the catalogue that slices have (R333). -/
def sliceEvent (code : Nat) : Bool :=
  [0x001, 0x002, 0x003, 0x010, 0x011, 0x012, 0x013, 0x014, 0x018, 0x019, 0x01A, 0x01B, 0x01C, 0x020, 0x021, 0x022, 0x023,
   0x024, 0x030, 0x031, 0x032, 0x033, 0x034, 0x040, 0x041, 0x042, 0x043].contains code

def chipEvent (code : Nat) : Bool := decide (0x100 ≤ code) && decide (code ≤ 0x107)

/-- A record of R331 in its ranges for a slice's counter or one of the chip. -/
def perfOk (chip : Bool) (r : BitVec 64) : Bool :=
  let code := fld r 9 0
  let u := fld r 47 40
  if chip then chipEvent code || (sliceEvent code && (decide (u ≤ 15) || u == 0xFF))
  else sliceEvent code && decide (u ≤ 4)

/-- A record as it is kept: CLEAR and the reserved bits read 0. -/
def perfMask : BitVec 64 := BitVec.ofNat 64 (span 63 62 ||| span 47 40 ||| span 9 0)

/-- Some port of the slice holds a record of a cell that has not arrived (0x034). -/
def State.reseqWaits (s : State) (slice : Nat) : Bool :=
  (s.slicePorts slice).any fun p => (s.openList p).any fun cid =>
    match s.copy cid with | some c => decide (c.held.length < s.heldRecords cid) | none => false

/-- A CONDITION source of R333, for a pipe or a slice. -/
def State.perfCond (s : State) (code pipe : Nat) : Bool :=
  match code with
  | 0x024 => (s.freeTag pipe).isNone
  | 0x031 => s.stageAHigh pipe
  | 0x034 => s.reseqWaits (pipe / 4)
  | 0x101 => s.tables.maint.any (·.starved)
  | 0x106 => s.power.op != 0
  | _ => false

/-- The pipes that a counter's record selects, one for each slice where the event is of slices. -/
def Perf.pipes (x : Perf) (key : Nat) : List Nat :=
  let u := fld x.cfg 47 40
  let code := fld x.cfg 9 0
  if 0x100 ≤ code then [0]
  else if key < 128 then
    let b := key / 8 * 4
    if code = 0x024 then (if 4 ≤ u then [b, b + 1, b + 2, b + 3] else [b + u]) else [b]
  else
    let sl := if u = 0xFF then List.range 16 else [u]
    sl.flatMap fun i => if code = 0x024 then [i * 4, i * 4 + 1, i * 4 + 2, i * 4 + 3] else [i * 4]

/-- The condition that a counter's record names, over the pipes it selects. -/
def State.perfCondOf (s : State) (key : Nat) (x : Perf) : Bool := (x.pipes key).any fun p => s.perfCond (fld x.cfg 9 0) p

/-- The record accepted before this tick applies (R331): a condition that is true already becomes true no more (R332). -/
def State.settledPerf (s : State) (key : Nat) (x : Perf) : Perf :=
  match x.next with
  | none => x
  | some r =>
    let y := { x with cfg := r &&& perfMask, next := none, count := if bit r 61 then 0 else x.count }
    { y with was := s.perfCondOf key y }

def State.settlePerf (s : State) : State :=
  if s.tel.perf.isEmpty then s
  else { s with tel.perf := (s.tel.perf.map fun (e : Nat × Perf) => (e.1, s.settledPerf e.1 e.2)).filter fun (e : Nat × Perf) =>
      e.2 != Perf.init }

/-- A counter over `clocks` core clocks in which `worked` worked and `skipped` skipped ticks began. -/
def State.perfOver (s : State) (key : Nat) (x : Perf) (clocks worked skipped : Nat) : Perf :=
  let code := fld x.cfg 9 0
  let many := (x.pipes key).length
  if !bit x.cfg 63 then x
  else
    let n := match code with | 0x001 => clocks | 0x002 => worked | 0x003 => skipped | _ => 0
    if code ≤ 3 then
      { x with count := min (x.count + n * if bit x.cfg 62 then 1 else many) (2 ^ 64 - 1) }
    else
      let c := s.perfCondOf key x
      let add := if bit x.cfg 62 then (if c then clocks else 0) else if c && !x.was then 1 else 0
      { x with count := min (x.count + add) (2 ^ 64 - 1), was := c }

/-- The cycle counters over `elapsed` times 0.625 ns, each in its slice's own clock, and the clocked sources over `clocks` core
clocks (R330, R332); a frozen counter holds, and conditions that become true are counted no later (R334). -/
def State.perfClocks (s : State) (elapsed clocks worked skipped : Nat) : State :=
  if s.tel.freeze then
    { s with tel.perf := s.tel.perf.map fun (e : Nat × Perf) => (e.1, { e.2 with was := s.perfCondOf e.1 e.2 }) }
  else
    let s := (List.range 16).foldl (fun s i =>
      let f := match s.power.compat with | some l => (l[i]?).getD 1600 | none => 1600
      s.modCycles i fun v => min (v + elapsed * f) (1600 * (2 ^ 64 - 1))) s
    if s.tel.perf.isEmpty then s
    else { s with tel.perf := s.tel.perf.map fun (e : Nat × Perf) => (e.1, s.perfOver e.1 e.2 clocks worked skipped) }

/-- PERF_FREEZE_WRITE (R334). -/
def execPerfFreezeWrite (value : BitVec 32) (s : State) : Host.Outcome State Fault Refusal :=
  .next { s with tel.freeze := bit value 0 }

/-! ## Commands (R337) -/

def streamRange (k : Nat) (rest : Rule) : Rule := .need (decide (k < 4)) (.access k) rest

/-- Export format that FORMAT 0 stands for in a command's session: 1 or 2 (R317, R351). -/
def State.exportFormat (s : State) (h : Hdr) : Nat := match s.session h with | some x => x.telemetry | none => 2

/-- TELEMETRY_STREAM_SET. -/
def cmdTelemetryStreamSet (stream : Nat) (r : StreamRec) (fields : BitVec 16) : Cmd :=
  .set 0x0901 (stream, r, fields) fun h s =>
    let n := mergeStream (s.stream stream).rcd r fields
    streamRange stream <| .need (streamOk n) .param <| .need (n.destKind == 0 || s.isPort n.dest) .missing <|
    .at [objStream stream] s [.stream stream r fields (s.exportFormat h)]

def streamValues (r : StreamRec) : List Nat :=
  [r.en, r.format, r.destKind, r.dest, r.tc, r.da.toNat, r.sa.toNat, r.etherType.toNat, r.template, r.firstQueue
  , r.lastQueue, r.intervalExp, r.records, r.depthThresh, r.delayThresh]

/-- TELEMETRY_STREAM_GET. -/
def cmdTelemetryStreamGet (stream : Nat) : Cmd :=
  .get 0x0902 stream fun _ s => streamRange stream <|
    .reply s (streamValues (s.stream stream).rcd ++ [(s.stream stream).format, (s.stream stream).seq])

/-- QUEUE_REPORT_SET. -/
def cmdQueueReportSet (queue : Nat) (r : ReportRec) (fields : BitVec 8) : Cmd :=
  .set 0x0903 (queue, r, fields) fun _ s =>
    .need (decide (queue < 9472)) (.access queue) <| .need (decide (queue < 9216)) .param <|
    .need (reportOk (mergeReport (s.equeue queue).report r fields)) .param <| .need (s.queueExists queue) .missing <|
    .at [objReport queue] s [.report queue r fields]

/-- IOAM_SET. -/
def cmdIoamSet (nodeId : BitVec 56) (td : Nat) (namespaces : List (Nat × BitVec 64)) : Cmd :=
  .set 0x0904 (nodeId, td, namespaces) fun _ s =>
    .need (decide (td < 8) && decide (namespaces.length ≤ 4) && namespaces.all fun x => decide (x.1 < 65536)) .param <|
    .at [objDevice 20] s [.ioam nodeId td namespaces]

/-- QUEUE_SAMPLE_GET: DEPTH and DELAY of each queue. -/
def cmdQueueSampleGet (first count : Nat) : Cmd :=
  .get 0x0905 (first, count) fun _ s =>
    .need (decide (first < 9472)) (.access first) <| .need (decide (1 ≤ count) && decide (count ≤ 256)) .param <|
    .need (decide (first + count ≤ 9472)) (.access (first + count - 1)) <|
    .reply s ((List.range count).flatMap fun i => [(s.equeue (first + i)).depth, (s.equeue (first + i)).delay])

/-- PERF_COUNTER_SET (R331): a slice 0-15, or 16 for the chip; it applies from the next tick. -/
def cmdPerfCounterSet (scope counter : Nat) (record : BitVec 64) : Cmd :=
  .set 0x0906 (scope, counter, record) fun _ s =>
    .need (decide (scope ≤ 16)) (.access scope) <|
    .need (decide (counter < if scope = 16 then 16 else 8)) (.access counter) <|
    .need (perfOk (scope == 16) record) .param <|
    .ok (s.modPerf (scope * 8 + counter) fun x => { x with next := some record })

/-- TELEMETRY_STATS_GET by scope: 0 stream, 1 queue, 2 egress port (log 22). -/
def telemetryCtrs : Nat → List Ctr
  | 0 => [.exportPackets, .exportRecords, .exportDrop, .exportOverrun, .reportDrop, .throttleNotices]
  | 1 => [.reportSuppressed]
  | _ => [.ioamUpdated, .ioamOverflow, .ioamSkipped, .ioamUnsupported]

def telemetryScope : Nat → Nat
  | 0 => 4
  | 1 => 9472
  | _ => 1024

def cmdTelemetryStatsGet (sel : StatsSel) (clear : Bool) : Cmd :=
  .stats 0x0907 clear (sel, clear) fun _ s =>
    .need (decide (sel.kind < 3)) .param <| .need (decide (sel.index < telemetryScope sel.kind)) (.access sel.index) <|
    .need (sel.kind != 1 || s.queueExists sel.index) .missing <|
    statsRule s ((telemetryCtrs sel.kind).map fun c => (c, sel.index)) [] clear

end Sys2Proof.Machine
end

