-- ==== Sys2Proof/Machine/HostIO.lean ====
section
/-! DEFINITION. Packet I/O rings, MSI-X, event registers and the session commands (spec/14_commands.md). -/

namespace Sys2Proof.Machine

/-! ## MSI-X (R342) -/

/-- MSIX_SIGNAL: a signal held back by MIN_GAP is sent when the gap ends. -/
def execMsixSignal (rid : Nat) (s : State) : Host.Outcome State Fault Refusal :=
  onUnit (decide (rid < 228)) rid (if (s.hring rid).signalDue && s.gapOver rid then s.signal rid else s)

/-! ## CPU queues to receive rings (R295, R362, R363) -/

def cpuQueueNo (c : Nat) : Nat := 9216 + c

/-- The head of CPU queue `c` may be delivered: confirmed, its cells written, its shaper not in deficit. -/
def State.cpuHead (s : State) (c : Nat) : Option (Nat × Copy × Pkt) :=
  match s.headOf (cpuQueueNo c) with
  | none => none
  | some (cid, x, p) =>
    let sh := (s.equeue (cpuQueueNo c)).shaper
    if x.pending || p.cells.any (!·.written) || (decide (0 < sh.rate) && decide (sh.level < 0)) then none
    else some (cid, x, p)

/-- The CPU queues of a receive ring, higher QPRIO first, then the lower number (R295). -/
def State.ringQueues (s : State) (ring : Nat) : List Nat :=
  let cs := (List.range 256).filter fun c => s.cpuRing c == ring
  (cs.foldl (fun l c => insertQueue s (cpuQueueNo c) l) []).map (· - 9216)

/-- The bytes of a frame with those of its poisoned cells, which the spec leaves open (log 2). -/
def State.readBytes (s : State) (p : Pkt) : List Byte :=
  (List.range p.bytes.length).map fun i =>
    match p.cells[i / 256]? with
    | some c => if c.poison then BitVec.ofNat 8 ((s.freeVal 65536).toNat >>> (8 * (i % 8192))) else (p.bytes[i]?).getD 0
    | none => (p.bytes[i]?).getD 0

/-- The receive entry of a copy in a buffer of `capacity` bytes (R363). -/
def State.rxEntry (s : State) (ring c capacity : Nat) (x : Copy) (p : Pkt) : RxEntry :=
  let f := cutFrame x.trunc (s.readBytes p)
  { ring := ring, len := min f.length capacity, ingressPort := p.port, queue := c, tsValid := !p.injected
    trunc := decide (capacity < f.length), cloister := p.pass == 1, td := p.td, reason := p.reason
    ts := if p.injected then 0 else p.rxTs, version := p.version.toNat, bytes := f.take capacity }

/-- REASON of a copy (R363): a trap or mirror copy has its own. -/
def copyReason (x : Copy) (p : Pkt) : Nat :=
  match x.kind with | .trap => 3 | .mirror => 4 | _ => p.reason

/-- A frame delivered: the entry filled, the ring written back, the queue's shaper debited, the copy gone (R3, R294). -/
def State.deliverCpu (s : State) (ring c capacity cid : Nat) (x : Copy) (p : Pkt) : State :=
  let e := { s.rxEntry ring c capacity x p with reason := copyReason x p }
  let s := s.draw
  let s := { s with cmd.out.rx := e :: s.cmd.out.rx }
  let s := (s.advanceRing (32 + ring)).signalGap (32 + ring)
  let s := s.modEqueue (cpuQueueNo c) fun y =>
    { y with shaper := y.shaper.move (-((cutFrame x.trunc p.bytes).length + 4 : Nat)) }
  s.finishCopy cid

/-- CPU_QUEUE_DELIVER (R362): into the oldest posted buffer of a receive ring. -/
def execCpuQueueDeliver (ring capacity : Nat) (s : State) : Host.Outcome State Fault Refusal :=
  onUnit (decide (ring < 64)) ring
    (let r := s.hring (32 + ring)
     if !s.worked || !r.en || r.waiting = 0 then s
     else
       match (s.ringQueues ring).findSome? fun c => (s.cpuHead c).map fun h => (c, h) with
       | some (c, cid, x, p) => s.deliverCpu ring c capacity cid x p
       | none => s)

/-! ## Transmit rings (R364, R365) -/

/-- Frames of a transmit ring taken and not yet written whole. -/
def State.txHeld (s : State) (ring : Nat) : Nat :=
  (s.pk.pkts.filter fun (e : Nat × Option Pkt) =>
    match e.2 with
    | some p => p.txRing == some ring && (p.cells.isEmpty || p.cells.any (!·.written))
    | none => false).length + (s.pk.directQ.filter fun e => e.2.1 == ring).length

/-- Time-stamp records that a transmit ring still has to receive. -/
def State.tsHeld (s : State) (ring : Nat) : Nat :=
  (s.pk.pkts.filter fun (e : Nat × Option Pkt) =>
    match e.2 with | some p => p.txRing == some ring && p.tsReq | none => false).length
    + (s.pk.directQ.filter fun e => e.2.1 == ring && e.2.2.tsReq).length

/-- Free entries of a device-produced ring. -/
def Ring.room (r : Ring) : Nat := (r.hostIndex + r.size - 1 - r.devIndex) % r.size

/-- The paired completion ring has an entry for one more record (R338). -/
def State.tsRoom (s : State) (ring : Nat) : Bool := decide (s.tsHeld ring < (s.hring (160 + ring)).room)

/-- The descriptor's fields are in range (R364). -/
def State.descOk (s : State) (d : TxDesc) : Bool :=
  d.reservedZero && decide (d.mode ≤ 1) && s.isPort d.port && decide (60 ≤ d.len) && decide (d.len + 4 ≤ s.maxFrame d.port)
    && (d.mode == 1 || decide (d.queue ≤ s.qp d.port)) && decide (d.ltNs < 10 ^ 9) && decide (d.ltSec < 2 ^ 48)

def TxDesc.launch (d : TxDesc) : Option Nat := if d.ltValid then some (fracOf d.ltSec d.ltNs 0) else none

/-- The frame of a descriptor as a packet: it draws on the CPU pool (R365). -/
def State.injected (s : State) (ring : Nat) (d : TxDesc) (pipe : Nat) : Pkt :=
  { s.madePkt d.port pipe d.bytes ownCpu 1 with
    txRing := some ring, tsReq := d.tsReq, oneStep := d.oneStep, cookie := d.cookie, launch := TxDesc.launch d }

/-- DIRECT: the frame is handed over; it takes part in the decisions of the next worked tick (R18). -/
def State.injectDirect (s : State) (ring : Nat) (d : TxDesc) : State :=
  { s with pk.directQ := s.pk.directQ ++ [(s.tickStamp, ring, d)] }

/-- DIRECT: one lossy copy to the named queue. -/
def State.admitDirect (s : State) (ring : Nat) (d : TxDesc) : State :=
  let q := if d.queue = s.qp d.port then mcastQueue d.port else 8 * d.port + d.queue
  let p := s.injected ring d (s.ingressPipe d.port)
  let t : Target := { queue := q, port := d.port, kind := .unicast, trunc := 0 }
  if s.refusesDown d.port || s.draining q then
    let s := if s.draining q then s.bump .pfcWdDrain q else s.bump .egressDownDrop q
    ((s.txRecord p d.port 3 0 (0, 0, 0)).bump .injectDrop ring).advanceRing (96 + ring)
  else
    let g := s.generate p t
    if g.2 then g.1 else g.1.bump .injectDrop ring

/-- The frames handed over in DIRECT mode before this tick, oldest first. -/
def State.admitDirects (s : State) : State :=
  if !s.worked then s
  else
    let due := s.pk.directQ.filter fun e => decide (e.1 < s.tickStamp)
    due.foldl (fun s e => s.admitDirect e.2.1 e.2.2)
      { s with pk.directQ := s.pk.directQ.filter fun e => !decide (e.1 < s.tickStamp) }

/-- PIPE: the frame waits for a slot of the port's pipe, undecided and without a tag. -/
def State.injectPipe (s : State) (ring : Nat) (d : TxDesc) : State :=
  let p := { s.injected ring d (s.ingressPipe d.port) with admitted := false }
  let pid := s.pk.pktNext
  ({ s with pk := { s.pk with pktNext := pid + 1, injectQ := s.pk.injectQ ++ [pid] } }).putPkt pid (some p)

/-- A descriptor with a field out of range (R364). -/
def State.badDesc (s : State) (ring : Nat) (d : TxDesc) : State :=
  let s := (s.bump .injectBadDesc ring).advanceRing (96 + ring)
  if d.tsReq then
    s.txDone ring { ring := ring, kind := 3, td := 0, cookie := d.cookie, port := d.port, ts := 0, epoch := 0, tick := 0 }
  else s

/-- TX_DESCRIPTOR_FETCH (R365). -/
def execTxDescriptorFetch (ring : Nat) (d : TxDesc) (s : State) : Host.Outcome State Fault Refusal :=
  onUnit (decide (ring < 64)) ring
    (let r := s.hring (96 + ring)
     if !s.worked || !r.en || r.waiting ≤ s.txHeld ring || (d.tsReq && !s.tsRoom ring) then s
     else if !s.descOk d then s.badDesc ring d
     else if d.bytes.length ≠ d.len then s
     else if d.mode = 0 then s.injectDirect ring d
     else s.injectPipe ring d)

/-! ## Event registers (R366, R367) -/

/-- Indexes of the sources assigned in a group (R366, R410, R421, R444, R456, R388, R478). -/
def assigned (g : Nat) : BitVec 32 := enableInit g

/-- EVENT_STATUS_W1C (R367, R6): a bit raised in the same clock stays set. -/
def State.clearStatus (s : State) (g : Nat) (mask keep : BitVec 32) : State :=
  s.putEvStatus g (s.evStatus g &&& ~~~(mask &&& ~~~keep))

def execEventStatusW1c (group : Nat) (mask raisedSameClock : BitVec 32) (s : State) : Host.Outcome State Fault Refusal :=
  onUnit (decide (group < 32)) group (s.clearStatus group mask (raisedSameClock ||| s.raisedNow group))

/-! ## Versions (R349, R350) -/

/-- The Slait versions of R349, as major x 256 + minor, highest first. -/
def slaitVersions : List Nat := [0x302, 0x301, 0x300, 0x209, 0x208, 0x207, 0x206, 0x205, 0x204, 0x203, 0x202, 0x201, 0x200]

/-- The highest version within a host's range. -/
def agree (low high : Nat) : Option Nat := slaitVersions.find? fun v => decide (low ≤ v) && decide (v ≤ high)

/-- The telemetry format agreed: 2 for 2.0, 1 for 1.x, from the host's highest as major x 256 + minor. -/
def agreeFormat (highest : Option Nat) : Nat := match highest with | some v => if 0x200 ≤ v then 2 else 1 | none => 1

def State.dropSession (s : State) (h : Hdr) : State :=
  { s with cmd.sessions := s.cmd.sessions.filter fun x => !(x.sender == hdrSender h && x.target == h.target) }

/-- Versions of firmware and patch as HELLO and HEARTBEAT report them (R371, R395). -/
def State.fwVersion (s : State) : List Nat := [match s.sec.running with | some x => x.version.toNat | none => 0, s.arm.patchLevel]

/-- HELLO (R350). -/
def cmdHello (lowMaj lowMin highMaj highMin : Nat) (telemetry : Option Nat) : Cmd :=
  .set 0x0101 (lowMaj, lowMin, highMaj, highMin, telemetry) fun h s =>
    match agree (lowMaj * 256 + lowMin) (highMaj * 256 + highMin) with
    | none => .refuse stBadVersion 0 0x0302 0
    | some v =>
      let f := agreeFormat telemetry
      let x : Session := { sender := hdrSender h, target := h.target, major := v / 256, minor := v % 256, telemetry := f }
      let t := s.dropSession h
      .done { t with cmd.sessions := t.cmd.sessions ++ [x] } stOk 0 0
        ([v / 256, v % 256, f, s.sec.deviceId, 0xB1] ++ s.fwVersion ++ [devCode s.cmd.dev, s.twin.version])

/-- GOODBYE (R350). -/
def cmdGoodbye : Cmd := .set 0x0102 () fun h s => .ok (s.dropSession h)

/-- DEVICE_STATE_GET (R371). -/
def cmdDeviceStateGet : Cmd := .get 0x0103 () fun _ s => .reply s [devCode s.cmd.dev, s.clock.epoch, s.power.op]

/-- DEVICE_STATE_SET (R352). -/
def cmdDeviceStateSet (target : Nat) : Cmd :=
  .set 0x0104 target fun _ s =>
    .need (target == 2 || target == 3) .param <|
    .need (s.cmd.dev == .configure || s.cmd.dev == .service || (s.cmd.dev == .drain && target == 2)) .conflict <|
    .at [objDevice 0] s [.devState (if target = 2 then .configure else .service)]

/-- CPU_QUEUE_MAP_SET (R362). -/
def cmdCpuQueueMapSet (queue ring : Nat) : Cmd :=
  .set 0x0105 (queue, ring) fun _ s =>
    .need (decide (queue < 256)) (.access queue) <| .need (decide (ring < 64)) (.access ring) <|
    .at [objCpuQueue queue] s [.cpuMap queue ring]

def groupRange (g : Nat) (rest : Rule) : Rule := .need (decide (g < 32)) (.access g) rest

/-- EVENT_ROUTE_SET (R367): bits of unassigned sources stay 0 (R512). -/
def cmdEventRouteSet (group : Nat) (enable : BitVec 32) (ring : Nat) : Cmd :=
  .set 0x0106 (group, enable, ring) fun _ s =>
    groupRange group <| .need (decide (ring < 4)) (.access ring) <|
    .ok ((s.putEvEnable group (enable &&& assigned group)).putEvRoute group ring)

/-- EVENT_STATUS_GET. -/
def cmdEventStatusGet (group : Nat) : Cmd :=
  .get 0x0107 group fun _ s => groupRange group <|
    .reply s [(s.evStatus group).toNat, (s.evEnable group).toNat, s.evRoute group]

/-- EVENT_STATUS_CLEAR (R6): a bit set in the present clock stays set. -/
def cmdEventStatusClear (group : Nat) (mask : BitVec 32) : Cmd :=
  .set 0x0108 (group, mask) fun _ s => groupRange group <|
    .ok (s.clearStatus group mask (s.raisedNow group))

/-- SESSION_STATS_GET by scope: 0 command ring, 1 event ring, 2 transmit ring, 3 ingress pipe (log 22). -/
def sessionCtrs : Nat → List Ctr
  | 0 => [.cmdAccepted, .cmdRefused]
  | 1 => [.eventRingDrop]
  | 2 => [.injectDrop, .injectBadDesc]
  | _ => [.stateDrop]

def sessionScope : Nat → Nat
  | 0 => 16
  | 1 => 4
  | _ => 64

def cmdSessionStatsGet (sel : StatsSel) (clear : Bool) : Cmd :=
  .stats 0x0109 clear (sel, clear) fun _ s =>
    .need (decide (sel.index < sessionScope sel.kind)) (.access sel.index) <| .need (decide (sel.kind < 4)) .param <|
    statsRule s ((sessionCtrs sel.kind).map fun c => (c, sel.index)) [] clear

/-- ECHO: at most 1,024 bytes, its parameter size. -/
def cmdEcho (data : List Byte) : Cmd :=
  { Cmd.set 0x010A data (fun _ s => .reply s (data.map (·.toNat))) with lenOk := decide (data.length ≤ 1024) }

/-! ## Changes -/

/-- CPU_QUEUE_MAP_SET at its boundary. -/
def State.applyCpuMap (s : State) (queue ring : Nat) : State := s.putCpuRing queue ring

end Sys2Proof.Machine
end

