-- ==== Sys2Proof/Machine/Faults.lean ====
section
/-! DEFINITION. Faults, ECC, retiring, fencing and isolation (spec/17_faults.md). -/

namespace Sys2Proof.Machine

/-! ## What detection itself does, array by array (R431, R434, R435) -/

/-- A reorder record is lost: its cell becomes missing (R431, R245). The spec gives no place of a cell in the memory, so
the cell is an open choice among those the slice holds (log 2). -/
def State.loseRecord (s : State) (slice : Nat) : State :=
  let held := (s.slicePorts slice).flatMap fun p => (s.openList p).flatMap fun cid =>
    match s.copy cid with | some c => c.held.map fun i => (cid, i) | none => []
  match held[s.rand held.length]? with
  | some (cid, i) => (s.draw).modCopyD cid fun c => { c with held := c.held.filter (· != i) }
  | none => s.draw

/-- Hit bits and write tags of the 64-bit words at an exact-match address: every hit bit set, every tag advanced (R168,
R431). A hit word covers the 64 slots around the address, a tag word its unit's neighbours (DESIGN CHOICE, log 27). -/
def State.hitLost (s : State) (a : BitVec 64) : State :=
  let bank := fld a 47 32
  let first := fld a 31 0 / 64 * 64
  let s := (List.range 64).foldl (fun s i => s.putEmHit (bank * 4096 + first + i) true) s
  (List.range 16).foldl (fun s i => s.modWriteTag (tagKey 0 bank (first / 4 + i)) (· + 1)) s

/-- Queue state found bad: the queue is flushed and resumes empty (R435). Addresses of logs touch no queue. -/
def State.queueLost (s : State) (q : Nat) : State :=
  if q < 9472 then (s.consumed (faultAddr 10 0 q)).flushQueue ((s.queuePort q).getD 1024) q .queueFlushDrop else s

/-- Packet data of a pipe found bad: a cell of the packet in the pipe, or of the copy in its edit stage, carries poison
(R431). The cell is an open choice (log 70). -/
def State.pipePoison (s : State) (g : Nat) : State :=
  if g < 64 then
    match s.pk.pkts.find? fun (e : Nat × Option Pkt) =>
        match e.2 with | some p => p.pipe == g && !p.dropped && !p.cells.isEmpty | none => false with
    | some (pid, some p) =>
      (s.putPkt pid (some { p with cells := p.cells.modify (s.rand p.cells.length) fun x => { x with poison := true } })).draw
    | _ => s
  else
    match (s.released (g - 64)).head? with
    | some cid => (s.modCopyD cid fun c =>
        let n := match s.pkt c.pkt with | some p => copyCells c p | none => 1
        { c with poison := c.poison ++ [s.rand (max 1 n)] }).draw
    | none => s

/-- Pipe control state found bad: the packet of the pipe's slot is dropped as a decision (R431, R193). -/
def State.pipeControl (s : State) (g : Nat) : State :=
  let s := s.bump .pipeUeDrop g
  if g < 64 then
    match s.pk.pkts.find? fun (e : Nat × Option Pkt) =>
        match e.2 with | some p => p.pipe == g && p.decision == .undecided && !p.dropped | none => false with
    | some (pid, _) => s.decided pid .drop
    | none => s
  else
    match (s.released (g - 64)).head? with
    | some cid => s.dropCopy cid freeDrop
    | none => s

/-- A word of a pipe's memories found bad: packet data or control state, which is an open choice (R431; log 70). -/
def State.pipeLost (s : State) (g : Nat) : State := if s.rand 2 = 1 then s.draw.pipePoison g else s.draw.pipeControl g

/-- A word of a Belvedere memory found bad: code is reloaded, and of data the next command to execute is the one that reads it
(R431). Which of the two it was is an open choice (log 112). -/
def State.belvedereLost (s : State) : State :=
  if s.rand 2 = 1 then { s.draw with faults.dataBad := true } else s.draw

/-- ECC_UE of array class `x` (R431 to R435): the read poisons the word and raises the source; a word poisoned already
raises nothing. -/
def State.uncorrectable (s : State) (x inst : Nat) (a : BitVec 64) : State :=
  if x = 3 then (s.loseRecord (fld a 47 32 % 16)).eccUncorrected x inst a
  else if x = 10 ∧ fld a 31 0 < 0xFFFF0000 then (s.queueLost (fld a 31 0)).eccUncorrected x inst a
  else if x = 11 then (s.hitLost a).eccUncorrected x inst a
  else if x = 12 then s.belvedereLost.eccUncorrected x inst a
  else if x = 14 then (s.pipeLost inst).eccUncorrected x inst a
  else s.eccRead x inst a .uncorrectable

/-- FAULT_RAISE (R417 to R424): a raise as it reaches the collector, with what its own chapter says detection does; a masked pair
keeps the report only (R414). A number that R366 does not assign is never raised. -/
def execFaultRaise (source inst : Nat) (detail : BitVec 64) (s : State) : Host.Outcome State Fault Refusal :=
  onUnit (srcAssigned source) source
    (if source / 32 = 12 then s.eccRead (source % 32) inst detail .corrected
     else if source / 32 = 13 then s.uncorrectable (source % 32) inst detail
     else if (source = srcLaneCdrUnlock ∨ source = srcLaneAmLoss ∨ source = srcLaneBringupTimeout)
         ∧ 1 ≤ (s.lane inst).st.code ∧ (s.lane inst).st.code ≤ 8 ∧ inst < 1024 then s.laneErrorAs inst source detail
     else if source = srcCellStatePoison then
       (s.quarantine (fld detail 19 0)).raise source (cellPart (fld detail 19 0)) detail
     else if source = srcFreeListRebuild then
       (s.startRebuild (inst % 16) (cellBank (fld detail 31 0 / 32))).raise source inst detail
     else if source = srcArmCsUe ∨ source = srcArmRegUe then
       (if source = srcArmCsUe then { s with arm.storePoison := fld detail 31 0 :: s.arm.storePoison } else s).engineError
         (inst % 4) source detail
     else s.raise source inst detail)

/-- PERMANENCE_CLEAR (R423): CLEAR_S seconds without a counted raise. Lanes follow R50. -/
def execPermanenceClear (source inst : Nat) (s : State) : Host.Outcome State Fault Refusal :=
  onUnit (srcAssigned source) source
    (let f := s.faultInst (instKey source inst)
     if srcPerm source && source / 32 != 1 && decide (f.lastCounted + clkS (s.react source).clearS ≤ s.now) then
       s.clearPermanence source inst
     else s)

/-- A source with rails (R413, R415): firmware and the Gatehouse raise theirs without. -/
def railed (src : Nat) : Bool :=
  srcAssigned src && src / 32 != 0 && src / 32 != 4 && src / 32 != 16 && src / 32 != 17 && src / 32 != 18 && src / 32 != 19
    && src / 32 != 21

/-- WIRE_FAULT (R414). -/
def execWireFault (source inst : Nat) (s : State) : Host.Outcome State Fault Refusal :=
  onUnit (srcAssigned source) source
    (if s.masked source || !railed source then s
     else
       (((s.bump .wireFaults source).raiseBase source (max 2 (srcSeverity source)) inst 0 true false 0).putMasked source
         true).putMaskedAt source s.now)

/-- WIRE_UNMASK (R414): the pair has read QUIET or ERROR in 1,024 consecutive clocks; they follow the wire fault. -/
def execWireUnmask (source : Nat) (s : State) : Host.Outcome State Fault Refusal :=
  onUnit (srcAssigned source) source
    (if s.masked source && decide (s.maskedAt source + 1024 ≤ s.now) then (s.putMasked source false).putMaskedAt source 0 else s)

/-! ## ECC write-back and the background port (R431, R432) -/

/-- Partition and cell-bank of an address of the packet buffer: a cell's word, or its entry or descriptor (R209, R436). -/
def partOfAddr (a : BitVec 64) : Option Nat :=
  match fld a 63 60 with
  | 5 => some (fld a 31 0 / 32) | 6 => some (fld a 31 0) | 7 => some (fld a 31 0) | _ => none

/-- ECC_WRITE_BACK: in the array's next cycle. A table bank's cycle is then lost to lookups; a partition's is one that the uses
before it in the tick have left (R14, R212 step 6); banks make no cycle in a skipped tick (R23). -/
def execEccWriteBack (addr : BitVec 64) (s : State) : Host.Outcome State Fault Refusal :=
  .next (if !s.clock.running || !(s.faults.writeBacks.contains addr || s.faults.markers.contains addr) then s
    else
      match bankOfAddr addr with
      | some (store, bank) =>
        if s.worked && s.clockFree store bank s.clock.k && s.grantedAt (bankKey store bank) != some s.now then
          (s.useClock store bank s.clock.k).writeBack addr
        else s
      | none =>
        match partOfAddr addr with
        | some n =>
          let p := cellPart n
          if s.worked && decide (0 < s.cyclesLeft p (cellBank n)) && !s.stageAOpen && !s.stageBOpen p && !s.zeroOpen p
              && !s.freesOpen p then (s.useCellCycle n).writeBack addr else s
        | none => s.writeBack addr)

/-- Address of a row or comparator as the background port numbers them: ingress rows, egress rows, comparators. -/
def bgAddr (replica i : Nat) : BitVec 64 :=
  if i < 12288 then faultAddr 11 replica i
  else if i < 18432 then faultAddr 11 replica (1 <<< 30 ||| (i - 12288))
  else faultAddr 11 replica (2 <<< 30 ||| (i - 18432))

/-- BACKGROUND_PORT_READ (R431). -/
def execBackgroundPortRead (replica index : Nat) (found : EccErr) (s : State) : Host.Outcome State Fault Refusal :=
  onUnit (decide (replica < 8) && decide (index < 18688)) replica
    (if s.clock.running then
       (s.putBgPos replica ((index + 1) % 18688)).eccRead 7 replica (bgAddr replica index) found
     else s)

/-! ## Spare banks (R426) -/

/-- The epoch that R20 gives for the present tick. -/
def State.switchEpoch (s : State) : Nat := s.earliest

/-- BANK_SPARE_COPY: the next unit of a bank read into its spare, or back; after the last one the switch is set. -/
def State.copyUnit (s : State) (j : SpareJob) (found : EccErr) : State :=
  let slot := (s.freeVal 2).toNat
  let index := if j.store = 0 then j.copied * 4 + slot else j.copied
  let s := if j.store = 0 ∧ found ≠ .good then s.draw else s
  let s := s.eccRead (storeClass j.store) j.bank (faultAddr (storeCode j.store) j.bank index) found
  let last := j.copied == 1023
  let k := { j with copied := j.copied + 1, switchAt := if last then some s.switchEpoch else none }
  let s := { s with faults.spareJobs := s.faults.spareJobs.map fun x => if x = j then k else x }
  let s := s.putGrantedAt (bankKey j.store j.bank) (some s.now)
  if last then s.due s.switchEpoch [] (.spareSwitch j.store j.group j.bank j.back) else s

def execBankSpareCopy (store bank : Nat) (found : EccErr) (s : State) : Host.Outcome State Fault Refusal :=
  onUnit (decide (bank < numBanks store)) bank
    (match s.faults.spareJobs.find? fun j => j.store == store && j.bank == bank && j.switchAt.isNone with
     | some j =>
       if s.maintClock && s.grantedAt (bankKey store bank) != some s.now && (s.backFor store bank).isNone then
         s.copyUnit j found
       else s
     | none => s)

/-- The switch at its boundary: lookups use the spare, or the bank again; routines that have read the bank are abandoned. -/
def State.applySpareSwitch (s : State) (store group bank : Nat) (back : Bool) : State :=
  let s := { s with faults.spareJobs := s.faults.spareJobs.filter fun j => !(j.store == store && j.bank == bank) }
  let s := s.putSpareOf (spareKey store group) (if back then none else some bank)
  let s := s.abandonReaders store bank
  if back then (s.clearPermanence (srcEccUe (storeClass store)) bank).note srcBankUnspared bank 0
  else s.note srcBankSpared bank 0

/-! ## Partition banks (R427) -/

def State.applyBankDetach (s : State) (p b : Nat) : State := s.putPartBank (p * 32 + b) (.detached s.clock.epoch)

/-- The bank back in service: every cell of it that is not allocated is free again. -/
def State.applyBankRestore (s : State) (p b : Nat) : State :=
  ((s.putPartBank (p * 32 + b) .live).rebuildBank p b).clearPermanence (srcEccUe 0) (p * 32 + b)

/-- The bank holds no allocated cell but quarantined ones. -/
def State.bankEmpty (s : State) (p b : Nat) : Bool :=
  !(s.pk.cells.any fun (e : Nat × CellEntry) =>
    cellPart e.1 == p && cellBank e.1 == b && e.2.alloc && !e.2.quarantined)

/-- PARTITION_BANK_DRAINED: at the first boundary after the bank is empty. -/
def execPartitionBankDrained (part bank : Nat) (s : State) : Host.Outcome State Fault Refusal :=
  onUnit (decide (part < 16) && decide (bank < 32)) part
    (match s.partBank (part * 32 + bank) with
     | .detached e =>
       if e < s.clock.epoch ∧ s.clock.tick = 0 ∧ s.bankEmpty part bank = true then
         (s.putPartBank (part * 32 + bank) .retired).note srcPartitionBankRetired (part * 32 + bank) 0
       else s
     | _ => s)

/-! ## Pipes (R428), slices and replicas (R429), isolation (R430) -/

/-- A pipe is retired: it starts no packet more; PIPE_RETIRED is raised when the rollbacks of its tags are complete (R428; log
27). -/
def State.applyPipeRetire (s : State) (g : Nat) : State :=
  let t := s.putPipeRetired g true
  { t with faults.pipeClosing := t.faults.pipeClosing ++ [g] }.closePipe g

def State.applyPipeRestore (s : State) (g : Nat) : State :=
  (({ s with faults.pipeClosing := s.faults.pipeClosing.filter (· != g) }.putPipeRetired g false).clearPermanence
    (srcEccUe 14) g).note srcPipeRestored g 0

/-- The ports of a slice disabled as under R69. -/
def State.stopSlice (s : State) (sl : Nat) : State :=
  (s.slicePorts sl).foldl (fun s p => if (s.port p).enabled then s.stopPort p else s) s

def State.applySliceFence (s : State) (sl : Nat) : State :=
  ((s.stopSlice sl).putSliceFenced sl true).note srcUnitFenced sl 0

def State.applyReplicaFence (s : State) (k : Nat) : State :=
  (((s.stopSlice (2 * k)).stopSlice (2 * k + 1)).putReplicaFenced k true).note srcUnitFenced k 0

/-- UNIT_RESTORE of a fenced unit at its boundary (R429). -/
def State.applyUnfence (s : State) (u : UnitRef) : State :=
  match u with
  | .slice n => (s.putSliceFenced n false).note srcUnitRestored n 0
  | .replica k =>
    (((s.putReplicaFenced k false).clearPermanence (srcEccUe 7) k).clearPermanence (srcEccUe 8) k).note srcUnitRestored k 0
  | .lineEngine e =>
    ((s.modCengine e fun x => { x with fenced := false }).clearPermanence srcCipherMismatchRepeat e).note srcUnitRestored e 0
  | .lookaside =>
    ((s.modCengine 256 fun x => { x with fenced := false }).clearPermanence srcLaMismatchRepeat 256).note srcUnitRestored
      256 0
  | .armEngine e => (s.restoreEngine e).note srcUnitRestored e 0
  | _ => s

/-- ISOLATE at its boundary (R430). -/
def State.applyIsolate (s : State) : State :=
  let s := { s with cmd.dev := .isolated }
  if s.faults.isolatePorts = 0 then (List.range 16).foldl (fun s sl => s.stopSlice sl) s else s

/-! ## Commands (R441) -/

def sourceRange (n : Nat) (rest : Rule) : Rule := .need (decide (n < 1024)) (.access n) rest

/-- The entry of R421 as FAULT_REACTION_GET returns it. -/
def State.reactWord (s : State) (src : Nat) : BitVec 64 :=
  let e := s.react src
  BitVec.ofNat 64 (e.reaction <<< 61 ||| srcAllowed src <<< 56 ||| b2n (srcPerm src) <<< 55 ||| srcSeverity src <<< 52
    ||| e.count <<< 44 ||| e.windowMs <<< 28 ||| e.clearS <<< 12)

def inRange (x : Option Nat) (lo hi : Nat) : Bool := match x with | some v => decide (lo ≤ v) && decide (v ≤ hi) | none => true

/-- FAULT_REACTION_SET (R422). -/
def cmdFaultReactionSet (source : Nat) (f : ReactFields) : Cmd :=
  .set 0x0B01 (source, f) fun _ s =>
    sourceRange source <|
    .need ((match f.reaction with | some r => decide (r < 5) && (srcAllowed source).testBit r | none => true)
      && inRange f.count 1 255 && inRange f.windowMs 1 60000 && inRange f.clearS 1 65535) .param <|
    .ok (s.modReact source fun e =>
      { reaction := f.reaction.getD e.reaction, count := f.count.getD e.count, windowMs := f.windowMs.getD e.windowMs
        clearS := f.clearS.getD e.clearS })

def cmdFaultReactionGet (source : Nat) : Cmd :=
  .get 0x0B02 source fun _ s => sourceRange source <| .val s (s.reactWord source).toNat

/-- FAULT_CONFIG_SET (R417). -/
def cmdFaultConfigSet (logMin firstMin isolatePorts : Option Nat) : Cmd :=
  .set 0x0B03 (logMin, firstMin, isolatePorts) fun _ s =>
    .need (inRange logMin 0 5 && inRange firstMin 0 5 && inRange isolatePorts 0 1) .param <|
    .ok { s with faults := { s.faults with logMinSev := logMin.getD s.faults.logMinSev
                                           firstMinSev := firstMin.getD s.faults.firstMinSev
                                           isolatePorts := isolatePorts.getD s.faults.isolatePorts } }

/-- FLAGS of a log entry (R418). -/
def LogEntry.flags (e : LogEntry) : Nat := b2n e.wire + 2 * b2n e.permanent + 4 * b2n e.first + 8 * e.reaction

/-- The four 8-byte words of a log entry (R418, R516). -/
def LogEntry.words (e : LogEntry) : List Nat :=
  [e.seq * 2 ^ 32 + e.source * 2 ^ 16 + e.severity * 2 ^ 8 + e.flags, e.inst * 2 ^ 32, e.stamp, e.detail.toNat]

/-- The SEQUENCE of the oldest entry held (R516). -/
def State.oldestSeq (s : State) : Nat :=
  let n := s.faults.nextSeq
  if (s.logAt (n % 4096)).isSome then (n + 2 ^ 32 - 4096) % 2 ^ 32 else 0

/-- FAULT_LOG_READ (R441). -/
def cmdFaultLogRead (first count : Nat) : Cmd :=
  (Cmd.get 0x0B04 (first, count) fun _ s =>
    .need (decide (count ≤ 128) && decide (first < 2 ^ 32)) .param <|
    let n := s.faults.nextSeq
    if (first + 2 ^ 32 - n) % 2 ^ 32 < 2 ^ 31 then .done s stOk 0 (BitVec.ofNat 64 n) []
    else
      let held := decide ((n + 2 ^ 32 - first) % 2 ^ 32 ≤ (n + 2 ^ 32 - s.oldestSeq) % 2 ^ 32)
      let from_ := if held then first else s.oldestSeq
      let k := min count ((n + 2 ^ 32 - from_) % 2 ^ 32)
      match ((List.range (4 * k)).map fun i => logWordAddr ((from_ * 4 + i) % 16384)).find? s.poisonAt with
      | some a => .poisoned a
      | none =>
      let out := (List.range k).flatMap fun i =>
        match s.logAt ((from_ + i) % 4096) with | some e => e.words | none => []
      .done s (if held then stOk else stOkAdjusted) 0 (if held then 0 else BitVec.ofNat 64 from_) out).upTo (4 * count)

/-- FirstErrorStatus (R419). -/
def FirstError.status (f : FirstError) : BitVec 64 :=
  BitVec.ofNat 64 (b2n f.valid <<< 63 ||| b2n f.simultaneous <<< 62 ||| b2n f.wire <<< 61 ||| b2n f.permanent <<< 60
    ||| f.severity <<< 57 ||| f.reaction <<< 54 ||| f.source <<< 38 ||| f.inst)

def cmdFaultFirstGet : Cmd :=
  .get 0x0B05 () fun _ s => .reply s [s.faults.first.status.toNat, s.faults.first.stamp, s.faults.first.detail.toNat]

/-- VALID cleared; a qualifying raise of the present clock leaves it at 1, itself captured (R6, R420). -/
def State.clearFirst (s : State) : State :=
  match s.faults.firstNext.filter fun f => f.stamp == s.cycleStamp with
  | some f => { s with faults.first := f }
  | none => { s with faults.first := { s.faults.first with valid := false } }

def cmdFaultFirstClear : Cmd := .set 0x0B06 () fun _ s => .ok s.clearFirst

/-- FIRST_ERROR_VALID_W1C (R419, R6): VALID lies in bit 63; a record taken in the clock of the write stays. -/
def execFirstErrorValidW1c (value : BitVec 64) (s : State) : Host.Outcome State Fault Refusal :=
  .next (if bit value 63 then s.clearFirst else s)

/-- FAULT_STATUS_GET: the stamps within the window, the permanent flag and the masked flag. -/
def cmdFaultStatusGet (source inst : Nat) : Cmd :=
  (Cmd.get 0x0B07 (source, inst) fun _ s => sourceRange source <|
    let f := s.faultInst (instKey source inst)
    let stamps := f.stamps.filter fun t => decide (s.cycleStamp - t ≤ clkMs (s.react source).windowMs)
    .reply s ([stamps.length] ++ stamps ++ [b2n f.permanent, b2n (s.masked source)])).upTo 258

/-- The range of a unit's number. -/
def UnitRef.range (u : UnitRef) : Option Nat :=
  match u with
  | .pipe g => if g < 128 then none else some g
  | .partBank p b => if 16 ≤ p then some p else if 32 ≤ b then some b else none
  | .tableBank st b => if 3 ≤ st then some st else if numBanks st ≤ b then some b else none
  | .slice n => if n < 16 then none else some n
  | .replica k => if k < 8 then none else some k
  | .lineEngine e => if e < 256 then none else some e
  | .lookaside => none
  | .armEngine e => if e < 4 then none else some e
  | .lane n => if n < 1024 then none else some n
  | .trellis e => elemRange e

/-- The epoch in which a bank copy that starts now switches (R426), were no cycle lost to write-backs: 1,024 maintenance
clocks, the first of them the next one. -/
def State.spareEpoch (s : State) : Nat :=
  let next := s.tickStamp + (15 - s.tickStamp % 16)
  let first := if next = s.tickStamp ∧ s.clock.k = 1 then next + 16 else next
  let last := first + 1023 * 16
  if last % 1024 < 960 then last / 1024 + 1 else last / 1024 + 2

/-- A table bank and a lane as objects of changes. -/
def objBank (store bank : Nat) : Nat × Nat := objUnit (2 ^ 24 + store * 65536 + bank)
def objLane (n : Nat) : Nat × Nat := objUnit (2 ^ 25 + n)

/-- A bank of the store stands in its spare. -/
def State.spared (s : State) (store bank : Nat) : Bool :=
  s.spareOf (spareKey store (spareGroup store bank)) == some bank &&
    !(s.faults.spareJobs.any fun j => j.store == store && j.bank == bank)

/-- UNIT_RETIRE or UNIT_RESTORE of a table bank as a part of a group, at its boundary (R358, R426; log 88). -/
def State.applySpareStart (s : State) (store bank : Nat) (back : Bool) : State :=
  if (if back then s.spared store bank else s.maySpare store bank) then s.startSpare store bank back else s

/-- UNIT_RETIRE (R425 to R428): refused where a limit withholds it or a reaction on the unit was decided in this clock. As
a part of a group it takes effect at the group's boundary (R358, log 88). -/
def cmdUnitRetire (u : UnitRef) : Cmd :=
  .set 0x0B08 u fun h s =>
    needRange (UnitRef.range u) <|
    .need (match u with | .pipe _ => true | .partBank _ _ => true | .tableBank _ _ => true | _ => false) .param <|
    .need (!s.reactedNow u) .conflict <|
    let s := s.noteUnit u 0x0B08 h
    match u with
    | .pipe g => .need (s.mayRetirePipe g) .conflict <| .at [objPipe g] s [.pipeRetire g]
    | .partBank p b => .need (s.mayRetireBank p b) .conflict <| .at [objUnit (p * 32 + b)] s [.bankDetach p b]
    | .tableBank st b => .need (s.maySpare st b) .conflict <|
      if h.group then .at [objBank st b] s [.spareStart st b false] else .val (s.startSpare st b false) s.spareEpoch
    | _ => .param

/-- The unit is fenced: a slice also with its ternary replica (R429). -/
def State.unitFenced (s : State) (u : UnitRef) : Bool :=
  match u with
  | .slice n => s.sliceFenced n || s.replicaFenced (n / 2)
  | .replica k => s.replicaFenced k
  | .lineEngine e => (s.cengine e).fenced
  | .lookaside => (s.cengine 256).fenced
  | .armEngine e => (s.engine e).fenced
  | _ => false

/-- UNIT_FENCE (R429): slices and replicas at the boundary of R20, cipher engines at once. -/
def cmdUnitFence (u : UnitRef) : Cmd :=
  (Cmd.set 0x0B09 u fun h s =>
    needRange (UnitRef.range u) <|
    .need (match u with | .slice _ => true | .replica _ => true | .lineEngine _ => true | .lookaside => true | _ => false)
      .param <|
    .need (!s.reactedNow u) .conflict <|
    let s := s.noteUnit u 0x0B09 h
    match u with
    | .slice n => .at [objUnit (2 ^ 21 + n)] s [.sliceFence n]
    | .replica k => .at [objUnit (2 ^ 20 + k)] s [.replicaFence k]
    | .lineEngine e =>
      if h.group then .at [objUnit (2 ^ 22 + e)] s [.cipherFence e] else .val (s.fenceCipher e) s.clock.epoch
    | .lookaside =>
      if h.group then .at [objUnit (2 ^ 22 + 256)] s [.cipherFence 256] else .val (s.fenceCipher 256) s.clock.epoch
    | _ => .param).fence fun s => s.unitFenced u

/-- UNIT_RESTORE (R425 to R429): a lane and a Trellis element as their own commands say; whether a lane's calibration
passes is open (log 2). -/
def cmdUnitRestore (u : UnitRef) : Cmd :=
  .set 0x0B0A u fun h s =>
    needRange (UnitRef.range u) <|
    .need (!s.reactedNow u) .conflict <|
    let s := s.noteUnit u 0x0B0A h
    match u with
    | .pipe g => .need (!s.pipeLive g) .conflict <| .at [objPipe g] s [.pipeRestore g]
    | .partBank p b => .need (!s.bankLive p b) .conflict <| .at [objUnit (p * 32 + b)] s [.bankRestore p b]
    | .tableBank st b => .need (s.spared st b) .conflict <|
      if h.group then .at [objBank st b] s [.spareStart st b true] else .val (s.startSpare st b true) s.spareEpoch
    | .slice n => .need (s.sliceFenced n) .conflict <| .at [objUnit (2 ^ 21 + n)] s [.unitUnfence u]
    | .replica k => .need (s.replicaFenced k) .conflict <| .at [objUnit (2 ^ 20 + k)] s [.unitUnfence u]
    | .lineEngine e => .need (s.unitFenced u) .conflict <| .at [objUnit (2 ^ 22 + e)] s [.unitUnfence u]
    | .lookaside => .need (s.unitFenced u) .conflict <| .at [objUnit (2 ^ 22 + 256)] s [.unitUnfence u]
    | .armEngine e => .need (s.unitFenced u) .conflict <| .at [objUnit (2 ^ 23 + e)] s [.unitUnfence u]
    | .lane n =>
      if h.group then
        .need (s.mayRestoreLane n) .conflict <| .at [objLane n] s.draw [.laneRestore n (s.rand 2 == 1)]
      else (cmdLaneRestore n (s.rand 2 == 1)).rule h s.draw
    | .trellis e => s.restoreElem e 0x0B0A h

/-- FAULT_STATS_GET by scope: 0 array class, 1 source, 2 port, 3 pipe, 4 device (log 22). -/
def faultCtrs : Nat → List Ctr
  | 0 => [.eccCorrected, .eccUncorrected, .eccWriteBacks, .poisonConsumed]
  | 1 => [.wireFaults]
  | 2 => [.egressPoisonDrop]
  | 3 => [.pipeUeDrop]
  | _ => [.faultLogOverwritten]

def faultScope : Nat → Nat
  | 0 => 15
  | 1 => 1024
  | 2 => 1024
  | 3 => 128
  | _ => 1

def cmdFaultStatsGet (sel : StatsSel) (clear : Bool) : Cmd :=
  .stats 0x0B0B clear (sel, clear) fun _ s =>
    .need (decide (sel.index < faultScope sel.kind)) (.access sel.index) <| .need (decide (sel.kind < 5)) .param <|
    statsRule s ((faultCtrs sel.kind).map fun c => (c, sel.index)) [] clear

/-- FAULT_INJECT (R437): the TEST_MODE fuse of a shipped part is closed. -/
def cmdFaultInject : Cmd := .set 0x0B0F () fun _ _ => .conflict

end Sys2Proof.Machine
end

