-- ==== Sys2Proof/Machine/Resets.lean ====
section
/-! DEFINITION. Resets of the core and the Gatehouse (R480, R481, R486, spec/20_startup.md) and waking from Dormant mode
(R458, R459, spec/18_power.md). -/

namespace Sys2Proof.Machine

/-- The present time clock, at 625 MHz (R262). -/
def State.timeClock (s : State) : Nat := s.now * 25 / 64

/-- The clock while the core is held: the Gatehouse goes on counting in its tally from where the epoch stood (R13). -/
def Clock.hold (c : Clock) : Clock :=
  { c with running := false, stretch := 0, tick := 0, k := 0, tickAt := 0
           tally := if c.running then c.epoch else c.tally
           tallyClock := if c.running then c.tick * 2 + c.k else c.tallyClock }

/-- What the Gatehouse and the board keep of the power state through a reset of the core: the energy, the comparators, the
wake causes, the voltage last written (R456, R457, R459, R481, R486). -/
def Power.kept (p : Power) : Power :=
  { Power.init with energy := p.energy, cmps := p.cmps, wakeCauses := p.wakeCauses, lastAvs := p.lastAvs
                    avsSent := p.avsSent }

/-- What fuses, flash, the PERST# pin and the test access port keep (R463, R470, R481, R502). -/
def Security.kept (x : Security) : Security :=
  { Security.init with perstHigh := x.perstHigh, revoked := x.revoked, svn := x.svn, hssLeaf := x.hssLeaf, flash := x.flash
                       slots := x.slots, jtagHeld := x.jtagHeld, jtag := x.jtag }

/-- Domains without the steps that a command of the core still had to make. -/
def dropSteps (l : Arr Domain) : Arr Domain :=
  (List.range 8).foldl (fun a i => a.set Domain.init i { (a.get Domain.init i) with steps := [], adjWas := none }) l

/-- The time domains, the PPS pins and the 10 MHz measurement, which the Gatehouse keeps (R261, R269, R277, R481). -/
def Time.kept (t : Time) : Time :=
  { Time.init with domains := dropSteps t.domains, pps := t.pps, ref10m := t.ref10m, ref10mValid := t.ref10mValid }

/-- THERMTRIP_N and THERMTRIP_SEEN, which the Gatehouse keeps (R438). -/
def Faults.kept (f : Faults) : Faults :=
  { Faults.init with thermtripPin := f.thermtripPin, thermtripSeen := f.thermtripSeen, thermtripFree := f.thermtripFree }

/-- What has left the device already stands. -/
def Commands.kept (c : Commands) (dev : DevState) : Commands := { Commands.init with dev := dev, out := c.out }

/-- A reset of the core (R481): every unit in the state of R486 but for what the Gatehouse keeps; no event is raised for
what is lost. TD0 of a FOLLOW leaves TWIN (R264, R396). -/
def State.coreReset (s : State) (dev : DevState) : State :=
  { State.reset with
    clock := s.clock.hold, cmd := s.cmd.kept dev, faults := s.faults.kept, time := s.leaveTwin.time.kept
    power := s.power.kept, sec := s.sec.kept
    twin := { Twin.init with sent := s.twin.sent, wire := s.twin.wire }, ring := { RingState.init with sent := s.ring.sent }
    pk := { Packets.init with sent := s.pk.sent }, freeCtr := s.freeCtr, pending := s.pending }

/-- The board powers the Gatehouse up: only fuses and flash are kept (R481). -/
def State.powerUp (s : State) : State :=
  { State.reset with
    sec := { Security.init with revoked := s.sec.revoked, svn := s.sec.svn, hssLeaf := s.sec.hssLeaf
                                flash := s.sec.flash, slots := s.sec.slots }
    freeCtr := s.freeCtr, pending := s.pending }

/-- GATEHOUSE_POWER_UP (R481). -/
def execGatehousePowerUp (s : State) : Host.Outcome State Fault Refusal := .next s.powerUp

/-- THERMTRIP_N releases when VDD_CORE has been removed and the junction reads below 100 degrees (R438). -/
def State.coolPin (s : State) (tj : Nat) : State :=
  if s.faults.thermtripFree && decide (tj < 100) then
    { s with faults := { s.faults with thermtripPin := false, thermtripFree := false } }
  else s

/-- POWER_DOWN (R480): the board removes the core and lane rails. What the core holds is lost and the Gatehouse survives;
THERMTRIP_N releases once the junction reads below 100 degrees (R438). -/
def execPowerDown (s : State) : Host.Outcome State Fault Refusal :=
  let t := s.coreReset .reset
  .next (State.coolPin { t with faults.thermtripFree := t.faults.thermtripPin } s.clock.last.tj)

/-- PERST# low: an instruction held by the test access port takes effect (R502). -/
def Security.freePins (x : Security) : Security :=
  { x with perstHigh := false, jtag := x.jtagHeld.getD x.jtag, jtagHeld := none }

/-- PERST_ASSERT (R481): the core is reset; a Dormant device stays Dormant till the release (R459). A pushed image is
discarded, a burned leaf is not used again (R487). -/
def execPerstAssert (s : State) : Host.Outcome State Fault Refusal :=
  .next (let t := if s.cmd.dev = .dormant then s else s.coreReset .reset
    { t with sec := t.sec.freePins })

/-- A wake cause: 0-15 comparators, 16 WAKE_N, 17 the ring, 18 PERST#. Causes of one time clock are recorded together
(R459); the core is then released as after PERST# (R481). -/
def State.wake (s : State) (bit : Nat) : State :=
  if s.cmd.dev = .dormant then
    { s with cmd.dev := .reset
             power.waking := true, power.wakeAt := some s.timeClock, power.wakeCauses := BitVec.ofNat 32 (2 ^ bit) }
  else if s.power.waking ∧ s.power.wakeAt = some s.timeClock then
    { s with power.wakeCauses := s.power.wakeCauses ||| BitVec.ofNat 32 (2 ^ bit) }
  else s

/-- Entry into DORMANT (R458): every domain but the Gatehouse is gated and its contents are lost. -/
def State.applyDormant (s : State) (wakeNEn : Bool) : State :=
  { s.coreReset .dormant with power.wakeNEn := wakeNEn }

/-- WAKE_N_LOW (R459). -/
def execWakeNLow (s : State) : Host.Outcome State Fault Refusal :=
  .next (if s.power.wakeNEn then s.wake 16 else s)

/-- RING_WAKE_DETECT (R460): always enabled. -/
def execRingWakeDetect (s : State) : Host.Outcome State Fault Refusal := .next (s.wake 17)

end Sys2Proof.Machine
end

