-- ==== Sys2Proof/Machine/Power.lean ====
section
/-! DEFINITION. Operating points, the governor, AVSBus, the Gatehouse comparators and Dormant mode (spec/18_power.md). -/

namespace Sys2Proof.Machine

/-! ## Averages (R448 to R450) -/

/-- N epochs of a window of `ms` milliseconds (R448). -/
def windowN (ms : Nat) : Nat := (ms * 100000 + 127) / 128

/-- D epochs between decisions (R448). -/
def decisionD (ms : Nat) : Nat := (windowN ms + 7) / 8

/-- Sums of the lane rails and of the other rails over the window, and how many epochs it holds. After a restart that no
epoch has followed yet the spec states no average: free values (log 28). -/
def State.windowSums (s : State) : Nat × Nat × Nat :=
  match s.power.window with
  | [] => if s.power.windowFrom = 0 then (0, 0, 1) else ((s.freeVal 16).toNat, Config.random s.freeCtr % 65536, 1)
  | w => ((w.map Prod.fst).sum, (w.map Prod.snd).sum, w.length)

/-- A quotient in whole units; the spec does not state its rounding (log 28). -/
def State.rounded (s : State) (num den : Nat) : Nat :=
  num / den + (if num % den = 0 then 0 else (s.freeVal 1).toNat)

/-- AVG_W. -/
def State.avgW (s : State) : Nat :=
  let w := s.windowSums
  min 65535 (s.rounded (w.1 + w.2.1) w.2.2)

/-- Ticks skipped in 16 at a point (R24). -/
def skipped (op : Nat) : Nat := if op = 7 then 8 else op

/-- The floor estimate L + C x 8 / (16 - s) as a fraction (R450). -/
def State.floorEstimate (s : State) : Nat × Nat :=
  let w := s.windowSums
  let k := 16 - skipped s.power.op
  (w.1 * k + w.2.1 * 8, k * w.2.2)

/-! ## Voltage (R442 to R445) -/

/-- Cast-table code of a point in a band (R442): codes above 160 are not fused. -/
def castOf (op band : Nat) : Nat := Config.castCode (4 * op + band) % 161

/-- The code in force, or the one being written; a write that has failed holds the present one (R445). -/
def State.voltageCode (s : State) : Nat :=
  match s.power.avs with
  | some w => if w.tries = 4 then s.power.vid else w.code
  | none => s.power.vid

/-- A write of the present epoch that the regulator has not acknowledged. -/
def AvsWrite.fresh (w : AvsWrite) (e : Nat) : Bool := w.epoch == e && w.ackAt.isNone && w.tries == 1

/-- An AVSBus write (R444); with one of the same epoch it makes one write of the new pair's entry. -/
def State.avsStart (s : State) (code : Nat) (point : Option (Nat × Nat)) : State :=
  let sent := if s.power.avs.any (fun w => w.fresh s.clock.epoch) then s.power.avsSent.drop 1 else s.power.avsSent
  { s with power := { s.power with
             avs := some { code := code, tries := 1, epoch := s.clock.epoch, ackAt := none, point := point }
             avsSent := code :: sent } }

/-! ## Operating points (R446, R451) -/

/-- The four demands with their causes, in tie order (R446). -/
def State.demands (s : State) : List (Nat × Nat) :=
  [(if s.power.thermal then 7 else 0, 2), (if s.power.floor then 7 else 0, 4), (s.power.governor, 1), (s.power.host, 3)]

/-- The point demanded and its cause: a change to P0 has that of the demand that fell (R446). -/
def State.wanted (s : State) : Nat × Nat :=
  let m := s.demands.foldl (fun a (d : Nat × Nat) => max a d.1) 0
  if m = 0 then (0, s.power.fell)
  else (m, ((s.demands.find? fun (d : Nat × Nat) => d.1 == m).map Prod.snd).getD 0)

def Change.isPoint (c : Change) : Bool := match c with | .opPoint .. => true | _ => false

/-- A point that waits for its voltage or its boundary. -/
def State.plannedPoint (s : State) : Option Nat :=
  match s.power.avs.bind fun w => w.point with
  | some p => some p.1
  | none => s.changes.findSome? fun c => match c.change with | .opPoint p _ => some p | _ => none

/-- Planned moves given up. -/
def State.dropPlans (s : State) : State :=
  { s with changes := s.changes.filter fun c => !c.change.isPoint
           power.avs := s.power.avs.map fun w => { w with point := none } }

/-- The note of R451. -/
def State.throttleNote (s : State) (new old cause : Nat) : ThrottleNote :=
  { newOp := new, oldOp := old, cause := cause, capW := s.power.capW, measuredW := if cause = 3 then 0 else s.power.causeW
    epoch := s.clock.epoch }

/-- DETAIL of THROTTLE_ENTER and THROTTLE_EXIT: bytes 0-7 of the body (R451). -/
def throttleDetail (n : ThrottleNote) : BitVec 64 :=
  BitVec.ofNat 64 (n.newOp * 2 ^ 56 + n.oldOp * 2 ^ 48 + n.cause * 2 ^ 40 + n.capW * 2 ^ 16 + n.measuredW)

/-- The events and notices of a change in tick 0 of its epoch (R451). -/
def State.pointNotices (s : State) (n : ThrottleNote) : State :=
  let s := if n.oldOp = 0 then s.note srcThrottleEnter 0 (throttleDetail n)
    else if n.newOp = 0 then s.note srcThrottleExit 0 (throttleDetail n) else s
  let s := if s.twin.attached && s.twin.version == 0x201 then s.colSend (.throttle n) else s
  let s := s.ringSend 0xFF 4 (throttleBody n ++ beBytes 8 n.epoch)
  s.throttleNotices n.newOp n.oldOp n.cause s.power.causeW

/-- A point takes effect (R446). -/
def State.applyPoint (s : State) (new cause : Nat) : State :=
  if new = s.power.op then s else { s with power := { s.power with op := new, cause := cause } }

/-- A faster point (R444, R445): its higher voltage is written first; with an equal or a lower one it takes effect at the
boundary R20 gives. -/
def State.planFaster (s : State) (p : Nat × Nat) : State :=
  let code := castOf p.1 s.power.band
  if s.power.avsFault.isSome then s
  else if s.voltageCode < code then s.avsStart code (some p)
  else
    match s.power.avs with
    | some w => if w.code = code then { s with power.avs := some { w with point := some p } }
                else s.schedule [] (.opPoint p.1 p.2)
    | none => s.schedule [] (.opPoint p.1 p.2)

/-- The demands have changed: a move to the point demanded, at once where the change is at its own boundary and the point
is slower (R444, R446). -/
def State.planPoint (s : State) (atBoundary : Bool) : State :=
  let p := s.wanted
  if s.plannedPoint.getD s.power.op = p.1 then s
  else
    let t := { s.dropPlans with power.causeW := s.avgW }.draw
    if p.1 = t.power.op then t
    else if p.1 < t.power.op then t.planFaster p
    else if atBoundary then t.applyPoint p.1 p.2 else t.schedule [] (.opPoint p.1 p.2)

/-- The code that the present or the coming faster point needs. -/
def State.neededCode (s : State) : Nat := castOf (min s.power.op (s.plannedPoint.getD s.power.op)) s.power.band

/-- One write for what a boundary has changed, the lower voltage in tick 0 of the change epoch (R444); none while a failed
write holds the voltage (R445). -/
def State.settleVoltage (s : State) : State :=
  if s.power.avsFault.isSome || s.neededCode == s.voltageCode then s
  else s.avsStart s.neededCode (s.power.avs.bind fun w => w.point)

/-- The new temperature band (R443). -/
def newBand (old tj : Nat) : Nat :=
  let up := b2n (decide (40 ≤ tj)) + b2n (decide (65 ≤ tj)) + b2n (decide (85 ≤ tj))
  let down := b2n (decide (37 ≤ tj)) + b2n (decide (62 ≤ tj)) + b2n (decide (82 ≤ tj))
  if old < up then up else if down < old then down else old

/-- The epoch's readings at its boundary: energy, EPOCH_W, the window, TJ_MAX and the band (R443, R448, R456). The epoch
that ended is `ended`. -/
def State.takeReadings (s : State) (r : Readings) (ended : Nat) : State :=
  let p := s.power
  let w := if p.windowFrom ≤ ended then ((r.laneW, r.restW) :: p.window).take (windowN p.windowMs) else p.window
  { s.coolPin r.tj with
           clock.last := r
           power := { p with energy := (p.energy + r.microJ) % 2 ^ 64, epochW := r.laneW + r.restW, window := w
                             tjMax := r.tj, band := newBand p.band r.tj } }

/-! ## The governor (R448) -/

/-- The governor's demand and the epoch of its change. -/
def State.setGovernor (s : State) (g : Nat) (unattainable : Bool) : State :=
  { s with power := { s.power with governor := g, govAt := some s.clock.epoch, unattainable := unattainable
                                   fell := if g < s.power.governor then 1 else s.power.fell } }

/-- One decision, from the sum of the window's epochs and their number. -/
def State.govern (s : State) (sum n : Nat) : State :=
  let p := s.power
  let quiet := match p.govAt with | none => true | some e => decide (n ≤ s.clock.epoch - e)
  if p.capW * n < sum then
    if p.governor < 7 then (s.setGovernor (p.governor + 1) false).planPoint false
    else if p.unattainable then s
    else { s with power.unattainable := true }.note srcCapUnattainable 0 0
  else
    let s := { s with power.unattainable := false }
    if sum + p.marginW * n ≤ p.capW * n ∧ quiet = true ∧ 0 < p.governor then
      (s.setGovernor (p.governor - 1) false).planPoint false
    else s

/-- A decision is due: at the boundary of an epoch that is a multiple of D, with a full window (R448, R449). -/
def State.decisionDue (s : State) : Bool :=
  s.clock.running && s.clock.tick == 0 && s.clock.epoch % decisionD s.power.windowMs == 0
    && decide (windowN s.power.windowMs ≤ s.power.window.length) && s.power.decidedAt != some s.clock.epoch

/-- GOVERNOR_DECISION (R448). -/
def execGovernorDecision (s : State) : Host.Outcome State Fault Refusal :=
  .next (if s.decisionDue then
      let w := s.windowSums
      { s with power.decidedAt := some s.clock.epoch }.govern (w.1 + w.2.1) w.2.2
    else s)

/-! ## AVSBus (R444, R445) -/

/-- AVS_ACK: a later write that succeeds ends the hold of R445. -/
def execAvsAck (s : State) : Host.Outcome State Fault Refusal :=
  .next (match s.power.avs with
    | some w =>
      if w.ackAt.isNone ∧ w.tries < 4 then
        { s with power := { s.power with avs := some { w with ackAt := some s.now }, lastAvs := some w.code
                                         avsFault := none } }
      else s
    | none => s)

/-- The voltage has settled: the waiting point is due, and in BOOT the lane tiles are released (R444, R484). -/
def State.avsSettled (s : State) (w : AvsWrite) : State :=
  let s := { s with power := { s.power with vid := w.code, avs := none } }
  let s := match w.point with
    | some p => s.schedule [] (.opPoint p.1 p.2)
    | none => s.planPoint false
  if s.cmd.dev == .boot && s.lp.calibrating.isEmpty && s.lp.calibrated.isEmpty then
    { s with lp := { s.lp with calibrating := List.range 8 } }
  else s

/-- AVS_SETTLE: 50 microseconds after the acknowledgement. -/
def execAvsSettle (s : State) : Host.Outcome State Fault Refusal :=
  .next (match s.power.avs with
    | some w =>
      match w.ackAt with
      | some t => if t + clkUs 50 ≤ s.now then s.avsSettled w else s
      | none => s
    | none => s)

/-- AVS_WRITE_FAIL: a write not acknowledged is retried twice; the third failure raises AVS_ERROR (tries 4: failed). -/
def execAvsWriteFail (s : State) : Host.Outcome State Fault Refusal :=
  .next (match s.power.avs with
    | some w =>
      if w.ackAt.isSome ∨ 4 ≤ w.tries then s
      else if w.tries < 3 then
        { s with power := { s.power with avs := some { w with tries := w.tries + 1 }, avsSent := w.code :: s.power.avsSent } }
      else
        ({ s with power := { s.power with avs := some { w with tries := 4 }
                                          avsFault := some s.clock.epoch } }).note srcAvsError 0 0
    | none => s)

/-- The write tried again after AVS_ERROR: the voltage for the point in force or the faster one demanded (R445). -/
def State.avsRetry (s : State) : State :=
  let p := s.wanted
  if p.1 < s.power.op then s.avsStart (castOf p.1 s.power.band) (some p)
  else s.avsStart (castOf s.power.op s.power.band) none

/-- AVS_RETRY_PERIOD: every 1,024 epochs. -/
def execAvsRetryPeriod (s : State) : Host.Outcome State Fault Refusal :=
  .next (match s.power.avsFault with
    | some e =>
      if e < s.clock.epoch ∧ (s.clock.epoch - e) % 1024 = 0 ∧ s.power.avs.any (fun w => decide (4 ≤ w.tries)) then s.avsRetry
      else s
    | none => s)

/-! ## Comparators (R452, R457) -/

/-- Default thresholds: degrees, tenths of a millivolt (95 % of the nominal voltage) and millivolts (R452, R457, R494). -/
def State.threshold (s : State) (c : Nat) : Option Nat :=
  match c with
  | 4 => some 100
  | 5 => some 105
  | 6 => (s.cmp 6).thresh
  | 7 => (s.cmp 7).thresh
  | 14 => some (((s.cmp 14).thresh).getD 900)
  | 15 => some (((s.cmp 15).thresh).getD 900)
  | _ => none

/-- LOW_MV of a supply comparator in hundredths of a millivolt: as set, or 95 % of the rail's nominal voltage (R457, R494);
for VDD_CORE of the voltage last written. -/
def State.lowMv (s : State) (c : Nat) : Nat :=
  match (s.cmp c).thresh with
  | some v => v * 100
  | none =>
    match c with
    | 8 => 95 * (match s.power.lastAvs with | some v => 640 + v | none => 750)
    | 9 => 95 * 750
    | 10 => 95 * 800
    | 11 => 95 * 1150
    | 12 => 95 * 1800
    | _ => 95 * 850

/-- A comparator's new state; a trip wakes a Dormant device where WAKE_EN is set and raises its event where EVENT_EN is
(R457, R459). -/
def State.cmpTrip (s : State) (c src : Nat) (raises : Bool) : State :=
  let x := s.cmp c
  let s := s.putCmp c { x with tripped := true }
  let s := if x.wakeEn then s.wake c else s
  if raises && x.eventEn && s.clock.running then s.note src 0 0 else s

/-- Change objects of the host demand and the compatibility mode. -/
def objHostOp : Nat × Nat := objDevice 21
def objCompat : Nat × Nat := objDevice 22

/-- TC1 trips or clears with THERMAL_P7_EN set: the thermal demand (R454). -/
def State.thermalTrip (s : State) : State :=
  if s.power.thermalEn && s.clock.running then s.schedule [] .thermal else s

def Change.isThermal (c : Change) : Bool := match c with | .thermal => true | _ => false

def State.thermalClear (s : State) : State :=
  let s := { s with changes := s.changes.filter fun c => !c.change.isThermal }
  if s.power.thermal then ({ s with power := { s.power with thermal := false, fell := 2 } }).planPoint false else s

/-- A temperature comparator trips (R452). -/
def State.tcTrip (s : State) (tc : Nat) : State :=
  let s := s.cmpTrip (4 + tc) (match tc with | 0 => srcThermalWarn | 1 => srcThermalCrit | n => srcTc2Trip + (n - 2)) true
  if tc = 1 then s.thermalTrip else s

/-- A temperature comparator clears: THERMAL_CLEAR with the comparator as its instance. -/
def State.tcClear (s : State) (tc : Nat) : State :=
  let x := s.cmp (4 + tc)
  let s := s.putCmp (4 + tc) { x with tripped := false }
  let s := if x.eventEn && s.clock.running then s.note srcThermalClear (4 + tc) 0 else s
  if tc = 1 then s.thermalClear else s

/-- THERMAL_COMPARATOR_TRIP (R452): TC0 to TC3 against TJ_MAX. -/
def execThermalComparatorTrip (tc tj : Nat) (s : State) : Host.Outcome State Fault Refusal :=
  let s := s.coolPin tj
  onUnit (decide (tc < 4)) tc
    (match s.threshold (4 + tc) with
     | none => s
     | some v =>
       if (s.cmp (4 + tc)).tripped then (if tj + 3 ≤ v then s.tcClear tc else s)
       else if v ≤ tj then s.tcTrip tc else s)

/-- TIME_COMPARE_TRIP (R457): once per instant written. -/
def execTimeCompareTrip (cmp : Nat) (s : State) : Host.Outcome State Fault Refusal :=
  onUnit (decide (cmp < 4)) cmp
    (match (s.cmp cmp).instant with
     | none => s
     | some i =>
       if (s.cmp cmp).fired || decide (s.tdFrac (s.cmp cmp).domain < i) then s
       else (s.modCmp cmp fun x => { x with fired := true }).cmpTrip cmp (srcTimeCompare cmp) true)

/-- SUPPLY_LOW (R457): comparators 8 to 13 against a rail's voltage; the gated rails are not looked at in DORMANT. -/
def execSupplyLow (cmp mv : Nat) (s : State) : Host.Outcome State Fault Refusal :=
  onUnit (decide (8 ≤ cmp) && decide (cmp ≤ 13)) cmp
    (if s.cmd.dev = .dormant ∧ cmp ≠ 13 then s
     else if mv * 100 < s.lowMv cmp then
       (if (s.cmp cmp).tripped then s else s.cmpTrip cmp (srcSupplyLow cmp) (s.cmd.dev != .dormant))
     else s.modCmp cmp fun x => { x with tripped := false })

/-- EXT_LEVEL_TRIP (R457): above LEVEL_MV. -/
def execExtLevelTrip (cmp mv : Nat) (s : State) : Host.Outcome State Fault Refusal :=
  onUnit (cmp == 14 || cmp == 15) cmp
    (if (s.threshold cmp).getD 0 < mv then
       (if (s.cmp cmp).tripped then s else s.cmpTrip cmp (srcExtLevel cmp) true)
     else s.modCmp cmp fun x => { x with tripped := false })

/-- THERMTRIP (R438): latched till VDD_CORE is removed; the device keeps running. -/
def execThermtrip (s : State) : Host.Outcome State Fault Refusal :=
  .next (if s.faults.thermtripPin then s
    else
      let s := { s with faults := { s.faults with thermtripPin := true, thermtripSeen := true } }
      if s.clock.running then s.note srcThermtripAsserted 0 0 else s)

/-- GATEHOUSE_CLOCK_LOST (R487): the core reference clock is lost after the core has left RESET. -/
def execGatehouseClockLost (s : State) : Host.Outcome State Fault Refusal :=
  .next (let s := { s with clock.refOk := false }
    if s.clock.running then s.raise srcGatehouseClockLost 0 0 else s)

/-! ## Waking a neighbour (R460) -/

/-- WAKE_WAVE_END: 2 ms after the wave began. -/
def execWakeWaveEnd (west : Bool) (s : State) : Host.Outcome State Fault Refusal :=
  .next { s with power.waves := s.power.waves.filter fun (w : Bool × Nat) => !(w.1 == west && decide (w.2 + clkMs 2 ≤ s.now)) }

/-- The device is the root: RING_ROOT and a PCIe link that is up (R408). -/
def State.isRoot (s : State) : Bool := s.sec.ringRoot && s.sec.pcieUp

/-- A ring port's link is up. -/
def State.ringUp (s : State) (west : Bool) : Bool := !(if west then s.ring.brokenWest else s.ring.brokenEast)

/-! ## Changes -/

/-- Demands that change at a boundary; the point they give is settled once all its changes stand (`settlePoint`). -/
def State.applyHost (s : State) (op : Nat) : State :=
  { s with power := { s.power with host := op, fell := if op < s.power.host then 3 else s.power.fell } }

def State.applyThermal (s : State) : State := { s with power.thermal := true }

def Change.isDemand (c : Change) : Bool := match c with | .opHost _ => true | .thermal => true | _ => false

/-- After the changes of a boundary: the demands that changed give one point, and a change of the point in force is noted once (R326,
R446, R451). -/
def State.settlePoint (s : State) (old : Nat) (demands : Bool) : State :=
  let t := if demands then s.planPoint true else s
  if t.power.op = old then t else t.pointNotices (t.throttleNote t.power.op old t.power.cause)

def State.applyCompat (s : State) (freqs : Option (List Nat)) : State := { s with power.compat := freqs }

/-! ## Commands (R462) -/

/-- The stored cap, window and margin (R449). -/
def State.setCap (s : State) (cap window margin : Option Nat) : State :=
  let p := s.power
  let w := window.getD p.windowMs
  { s with power := { p with capW := cap.getD p.capW, marginW := margin.getD p.marginW, windowMs := w
                             window := if w = p.windowMs then p.window else []
                             windowFrom := if w = p.windowMs then p.windowFrom else s.clock.epoch + 1 } }

/-- The floor demand against an estimate of the state before (R450). -/
def State.setFloor (s : State) (num den : Nat) : Rule :=
  if s.power.capW * den < num then
    let t := (({ s with power.floor := true }).planPoint false).note srcCapUnattainable 0 0
    .done t stOkAdjusted dtCapBelowFloor (BitVec.ofNat 64 ((num + den - 1) / den)) []
  else if s.power.floor then .ok (({ s with power := { s.power with floor := false, fell := 4 } }).planPoint false)
  else .ok s

def within (lo hi : Nat) (v : Option Nat) : Bool := match v with | none => true | some x => decide (lo ≤ x) && decide (x ≤ hi)

def cmdPowerCapSet (cap window margin : Option Nat) : Cmd :=
  .set 0x0A01 (cap, window, margin) fun _ s =>
    .need (within 400 1150 cap && within 1 8 window && within 0 100 margin) .param <|
    ((s.setCap cap window margin).draw).setFloor s.floorEstimate.1 s.floorEstimate.2

/-- PowerStatus (R456). -/
def State.powerStatus (s : State) : BitVec 64 :=
  let p := s.power
  BitVec.ofNat 64 (p.op * 2 ^ 61 + p.cause * 2 ^ 58 + p.band * 2 ^ 56 + b2n p.floor * 2 ^ 55 + b2n p.thermal * 2 ^ 54
    + b2n p.compat.isSome * 2 ^ 53 + b2n p.avsFault.isSome * 2 ^ 52 + s.avgW * 2 ^ 32 + p.epochW % 65536 * 2 ^ 16
    + p.tjMax % 256 * 2 ^ 8 + p.vid)

def cmdPowerStatusGet : Cmd :=
  .get 0x0A02 () fun _ s =>
    let w := s.windowSums
    .reply s.draw ([s.powerStatus.toNat, s.power.energy] ++ s.demands.map Prod.fst
      ++ [s.rounded w.1 w.2.2, s.rounded w.2.1 w.2.2, s.power.wakeCauses.toNat])

def cmdOpHostSet (op : Nat) : Cmd :=
  .set 0x0A03 op fun _ s => .need (decide (op ≤ 7)) .param <| .at [objHostOp] s [.opHost op]

def cmdThermalSet (en : Nat) : Cmd :=
  .set 0x0A04 en fun _ s => .need (decide (en ≤ 1)) .param <| .ok { s with power.thermalEn := en == 1 }

/-- The fields that a kind of comparator has are in range (R452, R457). -/
def cmpFieldsOk (cmp : Nat) (f : CmpFields) : Bool :=
  if cmp < 4 then
    within 0 7 f.domain && within 0 (2 ^ 48 * 10 ^ 9 * 2 ^ 16 - 1) f.instant && f.thresh.isNone
  else
    f.domain.isNone && f.instant.isNone
      && (if cmp < 6 then f.thresh.isNone
          else if cmp < 8 then within 0 110 f.thresh
          else if cmp < 14 then within 0 65535 f.thresh else within 100 1700 f.thresh)

/-- The fields written; a new instant arms the comparator again (R457). -/
def Comparator.write (x : Comparator) (f : CmpFields) : Comparator :=
  { domain := f.domain.getD x.domain, instant := if f.instant.isSome then f.instant else x.instant
    fired := x.fired && f.instant.isNone, thresh := if f.thresh.isSome then f.thresh else x.thresh
    eventEn := f.eventEn.getD x.eventEn, wakeEn := f.wakeEn.getD x.wakeEn, tripped := x.tripped && f.instant.isNone }

def cmdComparatorSet (cmp : Nat) (f : CmpFields) : Cmd :=
  .set 0x0A05 (cmp, f) fun _ s =>
    .need (decide (cmp ≤ 15)) (.access cmp) <| .need (cmpFieldsOk cmp f) .param <| .ok (s.modCmp cmp fun x => x.write f)

/-- The threshold as COMPARATOR_GET returns it. -/
def State.cmpValue (s : State) (cmp : Nat) : Nat :=
  if 8 ≤ cmp ∧ cmp ≤ 13 then s.rounded (s.lowMv cmp) 100 else (s.threshold cmp).getD 0

def cmdComparatorGet (cmp : Nat) : Cmd :=
  .get 0x0A06 cmp fun _ s =>
    .need (decide (cmp ≤ 15)) (.access cmp) <|
    let x := s.cmp cmp
    .reply s.draw ([x.domain] ++ words 2 (x.instant.getD 0) ++ [s.cmpValue cmp, b2n x.eventEn, b2n x.wakeEn, b2n x.tripped])

/-- Some comparator has WAKE_EN set. -/
def State.anyWake (s : State) : Bool := (List.range 16).any fun c => (s.cmp c).wakeEn

def cmdDormantEnter (wakeNEn : Bool) : Cmd :=
  .set 0x0A07 wakeNEn fun _ s =>
    .need (s.anyWake || wakeNEn) .param <|
    .need (s.cmd.dev == .configure && !s.twin.attached && !s.isRoot) .conflict <|
    .at [objDevice 0] s [.dormant wakeNEn]

def cmdDeviceWake (west : Bool) : Cmd :=
  .set 0x0A08 west fun _ s =>
    .need (!s.ringUp west || s.ringLost west) .conflict <| .ok { s with power.waves := (west, s.now) :: s.power.waves }

/-- Frequencies of POWER_COMPAT_SET in range (R455). -/
def compatOk (freqs : List Nat) : Bool :=
  decide (freqs.length = 16) && (List.range 16).all fun i =>
    let f := freqs.getD i 0
    decide (400 ≤ f) && decide (f ≤ Config.sliceFmax i) && decide (f % 25 = 0)

def cmdPowerCompatSet (freqs : Option (List Nat)) : Cmd :=
  .set 0x0A09 freqs fun _ s =>
    .need (decide ((freqs.getD []).length ≤ 16)) (.access 16) <|
    .need (match freqs with | some l => compatOk l | none => true) .param <|
    .need (s.cmd.dev == .configure && (List.range 1024).all (fun p => !(s.port p).enabled) && !s.twin.attached) .conflict <|
    .at [objCompat] s [.compat freqs]

def cmdCastTableGet : Cmd :=
  .get 0x0A0A () fun _ s => .reply s ((List.range 32).map fun i => castOf (i / 4) (i % 4))

end Sys2Proof.Machine
end

