-- ==== Sys2Proof/Machine/Twin.lean ====
section
/-! DEFINITION. The Colonnade link, twin pairing, heartbeats and resynchronisation (R392 to R398 and R403 to R406,
spec/16_twin_ring.md; R281, R282, spec/11_time.md). Mirrored commands are in Mirror.lean. -/

namespace Sys2Proof.Machine

/-! ## Link-level retry (R394) -/

/-- LINK_ACK goes out again: a header of TYPE 0 that carries no message, no LINK_SEQ and no tag (DESIGN CHOICE, log 95). -/
def State.ackAgain (s : State) : State :=
  let f : ColFrame := { type := 0, seq := 0, txn := 0, epoch := 0, keyNo := s.twin.keyNo, payload := [], sentAt := 0, sends := 0 }
  { s with twin.wire := s.colHead f false :: s.twin.wire }

/-- The link goes down: the Colonnade disconnects and its lanes return to SIGNAL_DETECT. -/
def State.colonnadeDown (s : State) (src : Nat) : State :=
  let s := s.note src s.twin.peer 0
  ({ s with twin.lanes := .signalDetect }).disconnect

/-- `seq` is at or before `ack` in the 32-bit sequence. -/
def seqCovered (seq ack : Nat) : Bool := decide ((ack + 2 ^ 32 - seq) % 2 ^ 32 < 2 ^ 31)

/-- Frames that find room in the replay buffer are sent. -/
def sendRoom (now : Nat) (l : List ColFrame) : List ColFrame :=
  (l.take 512).map (fun (f : ColFrame) => if f.sends = 0 then { f with sends := 1, sentAt := now } else f) ++ l.drop 512

/-- LINK_ACK received: the frames it covers leave the replay buffer. -/
def State.takeAck (s : State) (ack : Nat) : State :=
  let l := s.twin.replay.filter fun f => !seqCovered f.seq ack
  let new := (l.take 512).filter fun (f : ColFrame) => f.sends == 0
  { s with twin := { s.twin with lastAck := some ack, replay := sendRoom s.now l } }.colPut new false

/-- Every unacknowledged frame sent again. -/
def State.resendAll (s : State) : State :=
  let l := s.twin.replay.filter fun (f : ColFrame) => f.sends != 0
  let n := l.length
  let s := s.colPut l true
  let s := { s with twin.replay := s.twin.replay.map fun (f : ColFrame) =>
               if f.sends = 0 then f else { f with sends := f.sends + 1, sentAt := s.now } }
  let s := s.bumpBy .colRetries 0 n
  if s.twin.retryEpoch = some s.clock.epoch then s
  else ({ s with twin.retryEpoch := some s.clock.epoch }).note srcColonnadeRetry s.twin.peer 0

/-- A resend: a frame sent 16 times without acknowledgement takes the link down. -/
def State.resend (s : State) : State :=
  match s.twin.replay.head? with
  | none => s
  | some f => if 16 ≤ f.sends then s.colonnadeDown srcColonnadeDown else s.resendAll

/-- A tag failure: more than 16 within 1 s take the link down. -/
def State.tagFailed (s : State) : State :=
  let l := s.now :: s.twin.tagFails.filter fun t => decide (s.now < t + clkS 1)
  let s := { s with twin.tagFails := l }
  if 16 < l.length then ({ s with twin.tagFails := [] }).colonnadeDown srcTwinAuthFailed else s.ackAgain

/-- A link context loaded with a key of the agreement (log 2). -/
def State.loadLinkKey (s : State) (n : Nat) : State :=
  (s.putLaCtx n { LaCtx.init with valid := true, kind := 0, key := s.freeVal 256 }).draw

/-- A move to key number `k` after `moves` others: each number's first key came with the connection, a later one is derived anew
(R396). -/
def State.moveKey (s : State) (ctx k moves : Nat) : State := if moves = 0 then s else s.loadLinkKey (ctx + k)

/-- The sender's key number in a received frame; a new one moves the receiver to its key (R396). -/
def State.rxKey (s : State) (k : Nat) : State :=
  if k % 2 = s.twin.rxMoves % 2 then s
  else State.moveKey { s with twin.rxMoves := s.twin.rxMoves + 1 } 2 (k % 2) s.twin.rxMoves

/-- LINK_ACK that came alone: one that repeats the last makes the device resend at once (R394, log 95). -/
def State.ackAlone (s : State) (ack : Nat) : State :=
  let again := s.twin.lastAck == some ack && s.twin.replay.any fun x => x.sends != 0
  let s := s.takeAck ack
  if again then s.resend else s

/-- COLONNADE_FRAME_RX (R394): a frame with a failed tag, an uncorrectable codeword or a gap is discarded and LINK_ACK
repeated; a header of TYPE 0 is a LINK_ACK that came alone (log 95). -/
def execColonnadeFrameRx (f : ColHdr) (tagOk cwOk : Bool) (s : State) : Host.Outcome State Fault Refusal :=
  .next (if !s.clock.running || s.twin.lanes != .up then s
    else if !cwOk then s.ackAgain
    else if f.type = 0 then s.ackAlone f.ack
    else if !tagOk then s.tagFailed
    else if f.seq ≠ s.twin.rxSeq then s.ackAgain
    else (({ s with twin.rxSeq := (s.twin.rxSeq + 1) % 2 ^ 32 }.rxKey f.keyNo).bump .colFramesRx 0).takeAck f.ack)

/-- COLONNADE_RESEND (R394): 2 microseconds after the oldest frame's last transmission. -/
def execColonnadeResend (s : State) : Host.Outcome State Fault Refusal :=
  .next (match s.twin.replay.head? with
    | some f => if f.sends ≠ 0 ∧ f.sentAt + clkUs 2 ≤ s.now then s.resend else s
    | none => s)

/-- COLONNADE_KEY_ROLLOVER (R396): after 2^31 frames under one key the sender moves to the other key number. -/
def execColonnadeKeyRollover (s : State) : Host.Outcome State Fault Refusal :=
  .next (if 2 ^ 31 ≤ s.twin.keyFrames then
      State.moveKey { s with twin := { s.twin with keyNo := 1 - s.twin.keyNo, keyFrames := 0, keyMoves := s.twin.keyMoves + 1 } }
        0 (1 - s.twin.keyNo) s.twin.keyMoves
    else s)

/-! ## Connecting (R396) -/

/-- HELLO sent once per attachment. -/
def State.sendHello (s : State) : State := if s.twin.joinStep = 0 then s.colSend .hello else s

/-- The Colonnade connects: contexts 0 to 3 loaded, heartbeat counting begun, TD0 of the FOLLOW in TWIN (R281, R396). -/
def State.connect (s : State) (version : Nat) : State :=
  let s := (List.range 4).foldl (fun s n => s.loadLinkKey n) s.sendHello
  let s := { s with twin := { s.twin with
               connected := true, version := version, joinStep := 2, keyNo := 0, keyFrames := 0, keyMoves := 0, rxMoves := 0, missed := 0
               beatSeen := false, beatFrom := s.clock.epoch } }
  s.enterTwin

/-- The highest of 2.1 and 2.0 that both offer (R396). -/
def helloVersion (m : ColHello) : Nat := if m.v21 then 0x201 else if m.v20 then 0x200 else 0

def fwMajor (s : State) : Nat := match s.sec.running with | some x => x.version.toNat / 2 ^ 24 | none => 0

/-- COLONNADE_HELLO_RX (R396, R26, R397): a LEAD connects in a TWIN_JOIN only (R397, R404). -/
def execColonnadeHelloRx (m : ColHello) (s : State) : Host.Outcome State Fault Refusal :=
  .next (if !s.clock.running || s.twin.connected || s.twin.role == .none || !s.laLive
          || (s.twin.role == .lead && s.twin.joinStep == 0) then s
    else
      let s := { s with twin.lanes := .up }
      if !m.sigOk || m.idHash != s.twin.peerId then ({ s with twin.joinStep := 0 }).note srcTwinAuthFailed s.twin.peer 0
      else if m.fwMajor ≠ fwMajor s then ({ s with twin.joinStep := 0 }).note srcTwinVersionMismatch s.twin.peer 0
      else if m.compat || s.power.compat.isSome || helloVersion m == 0 then { s with twin.joinStep := 0 }
      else s.connect (helloVersion m))

/-! ## Heartbeats (R403) and TIME (R281) -/

def roleCode (r : Role) : Nat := match r with | .none => 0 | .lead => 1 | .follow => 2

/-- Firmware version and patch level as HEARTBEAT carries them. -/
def State.beatVersion (s : State) : BitVec 48 :=
  BitVec.ofNat 48 ((match s.sec.running with | some x => x.version.toNat | none => 0) * 65536 + s.arm.patchLevel)

/-- HEARTBEAT and TIME at boundaries of multiples of 64 epochs. -/
def State.sendBeat (s : State) : State :=
  if s.twin.connected && s.clock.epoch % 64 == 0 then
    ({ s with twin.timeTx := some (s.stampNow 0) }.colSend (.heartbeat (roleCode s.twin.role) (devCode s.cmd.dev) s.beatVersion s.twin.lastTxn s.clock.epoch)).colSend
      (.time s.clock.epoch s.tel.td0At (s.stampNow 0) s.twin.timeRx)
  else s

/-- HEARTBEAT_RX: the intervals are counted from the last HEARTBEAT. -/
def execHeartbeatRx (role state : Nat) (version : BitVec 48) (lastTxn : Nat) (s : State) : Host.Outcome State Fault Refusal :=
  .next (if s.twin.connected then
      { s with twin := { s.twin with beatSeen := true, missed := 0, beatFrom := s.clock.epoch
                                     peerState := some (role, state, version, lastTxn) } }
    else s)

/-- Plane-down notification begins where PLANE_DOWN_EN is set (R403). -/
def State.startPlaneDown (s : State) : State :=
  if s.twin.notify.en = 1 then
    { s with twin.planeDown := s.twin.notify.ports.map fun p => (p, s.twin.notify.count, s.now) }
  else s

/-- TWIN_LOST: the Colonnade disconnects; the device does nothing beyond that unless PLANE_DOWN_EN is set. -/
def State.twinLost (s : State) : State := ((s.note srcTwinLost s.twin.peer 0).disconnect).startPlaneDown

/-- HEARTBEAT_INTERVAL_MISSED: an interval of 64 epochs has ended without a HEARTBEAT. -/
def execHeartbeatIntervalMissed (s : State) : Host.Outcome State Fault Refusal :=
  .next (if s.twin.connected ∧ s.twin.beatFrom + 64 * (s.twin.missed + 1) ≤ s.clock.epoch then
      let s := { s with twin := { s.twin with missed := s.twin.missed + 1, beatSeen := false } }.bump .colHeartbeatMissed 0
      if 3 ≤ s.twin.missed then s.twinLost else s
    else s)

/-- One plane-down frame: from the COLONNADE pool, as a lossy copy to the port's last unicast queue (R403); a queue that the
watchdog drains admits nothing (R298). -/
def State.planeDownFrame (s : State) (port : Nat) : State :=
  let q := 8 * port + (s.qp port - 1)
  if !s.isPort port then s
  else if s.refusesDown port then s.bump .egressDownDrop q
  else if s.draining q then s.bump .pfcWdDrain q
  else (s.generate (s.madePkt port (s.madePipe port) s.twin.notify.frame ownColonnade 0)
          { queue := q, port := port, kind := .unicast, trunc := 0 }).1

/-- The frame taken off the list; PLANE_DOWN_SENT once the last has been admitted or refused. -/
def State.planeDownNext (s : State) (e : Nat × Nat × Nat) (rest : List (Nat × Nat × Nat)) : State :=
  let l := if e.2.1 ≤ 1 then rest else rest ++ [(e.1, e.2.1 - 1, e.2.2 + clkUs s.twin.notify.gap)]
  let s := { s.planeDownFrame e.1 with twin.planeDown := l }
  if l.isEmpty then s.note srcPlaneDownSent s.twin.peer 0 else s

/-- PLANE_DOWN_FRAME_SEND. -/
def execPlaneDownFrameSend (s : State) : Host.Outcome State Fault Refusal :=
  .next (match s.twin.planeDown.find? fun e => decide (e.2.2 ≤ s.now) with
    | some e => s.planeDownNext e (s.twin.planeDown.erase e)
    | none => s)

/-- A steering of TD0 by ADJ, within its range; the spec does not state the value (log 2). -/
def State.steer (s : State) : State :=
  (s.modDomain 0 fun d => d.setAdj s.now (s.freeVal 39).toInt).draw

/-- TD0 steered for an offset from the LEAD's of `off` in 0.25 ns: beyond 1 µs by one step, else by ADJ (R281). -/
def State.steerBy (s : State) (off : Int) : State :=
  if 4000 < off.natAbs then s.stepTo 0 ((((s.domain 0).value : Int) - off * (unitNs / 4)) % domainSpan).toNat
  else if off = 0 then s else s.steer

/-- An epoch and a tick in units of 2^-16 ns of TD0. -/
def epochFrac : Nat := 1280 * 65536
def tickFrac : Nat := 81920

/-- The boundary of this device's present epoch against the LEAD's boundary `m`, their numbers taken into account (R282). -/
def State.boundaryError (s : State) (m : EpochMark) : Int :=
  (s.tel.td0At : Int) - m.td0 - ((s.clock.epoch : Int) - m.epoch) * epochFrac

/-- TWIN_TIME_RX (R281, R282): the peer's TIME is stamped; on the FOLLOW the exchange gives the path delay and the offset from
the LEAD's TD0, and the boundaries are compared. Half the difference of the two ways is the offset and half their sum the
delay (DEDUCED, log 107). -/
def execTwinTimeRx (t : TimePair) (m : EpochMark) (s : State) : Host.Outcome State Fault Refusal :=
  .next (if s.twin.connected then
      let rx := halfNs (s.tdAt 0 (-(t.pcsPs : Int)))
      let s := { s with twin.timeRx := rx }
      if s.twin.role ≠ .follow then s
      else
        let s : State := match s.twin.timeTx with
          | some tx =>
            let there : Int := (rx : Int) - t.leadTx
            let back : Int := (t.leadRx : Int) - tx
            State.steerBy { s with twin.pathDelay := there + back } (there - back)
          | none => s
        if s.twin.attached ∧ tickFrac < (s.boundaryError m).natAbs then s.note srcTwinEpochSlip s.twin.peer 0 else s
    else s)

/-! ## Joining (R282, R404) -/

/-- The join ends with TWIN_RESYNC_FAILED: the pair stays detached, the LEAD unfreezes, a FOLLOW in RESYNC returns to
CONFIGURE. -/
def State.joinFailed (s : State) : State :=
  ({ s with twin := { s.twin with joinStep := 0, frozen := false, resyncIn := [] } }).resyncFailed

/-- A TWIN_JOIN whose join has ended before its reply (log 29). -/
def State.sweepJoin (s : State) : State :=
  if s.twin.joinStep ≠ 0 then s
  else match s.cmd.running.find? fun r => r.opcode == 0x0C03 with
    | some r => s.refuseHeld r.hdr 0x0C03 stTwinFailed 0
    | none => s

/-- How far this device's next boundary, with the present epoch lengthened by `extra` ticks, lies after the LEAD's boundary `m`,
in 2^-16 ns of TD0 (R282). -/
def State.boundaryAfter (s : State) (m : EpochMark) (extra : Nat) : Int :=
  (s.tel.td0At : Int) + epochFrac + extra * tickFrac - m.td0

/-- That boundary falls within one tick of one of the LEAD's. -/
def State.aligns (s : State) (m : EpochMark) (extra : Nat) : Bool :=
  let d := s.boundaryAfter m extra % epochFrac
  decide (d ≤ tickFrac) || decide ((epochFrac : Int) ≤ d + tickFrac)

/-- EPOCH_ALIGN (R282): the FOLLOW lengthens the present epoch by unnumbered ticks, so that its boundary falls within one tick of
the LEAD's, and takes the LEAD's number at its end; a counter already ahead is never set back. A FOLLOW in CONFIGURE that still takes
the pair for attached learns from the LEAD's join that it is not (R402, R404; DEDUCED, log 29). -/
def execEpochAlign (m : EpochMark) (extra : Nat) (s : State) : Host.Outcome State Fault Refusal :=
  .next (if s.twin.connected ∧ s.twin.role = .follow ∧ (¬ s.twin.attached ∨ s.cmd.dev = .configure) ∧ s.twin.joinStep ≤ 2 ∧ extra ≤ 1023
          ∧ s.aligns m extra then
      let lead := ((m.epoch : Int) + (s.boundaryAfter m extra + epochFrac / 2) / epochFrac).toNat
      let s := { s with twin.attached := false }
      if lead < s.clock.epoch + 1 then (s.note srcTwinEpochAhead s.twin.peer 0).joinFailed
      else { s with clock.stretch := extra
                    twin := { s.twin with joinStep := 3, joinEpoch := lead } }
    else s)

/-- What the rule plane and the tables hold of R404 is discarded on the FOLLOW; packets, requests and upkeep machinery
stand. -/
def State.discardForwarding (s : State) : State :=
  { s with rules := { RulePlane.init with inFlight := s.rules.inFlight, program := s.rules.program }
           tables := { s.tables with defs := [], em := [], emHit := [], stash := [], stashHit := [], emProf := [], lpmProf := []
                                     nextHop := none, learnQ := [], stashWrites := [] }
           pk := { s.pk with groups := [], pools := [] }
           eg := { s.eg with queues := s.eg.queues.filterMap fun (e : Nat × Queue) =>
                               if { e.2 with admitRec := none } = Queue.init then none else some (e.1, { e.2 with admitRec := none })
                             ports := s.eg.ports.filterMap fun (e : Nat × EPort) =>
                               if { e.2 with tcMap := none } = EPort.init then none else some (e.1, { e.2 with tcMap := none }) } }

/-! ### The state that a resync carries -/

/-- The entry at a place, if a resync carries it: not the non-STATIC entries of tables that learn or age. -/
def State.entryItem (s : State) (l : Loc) : Option ResyncItem :=
  let b := (s.slotAt l).bits
  let t := slotTable b
  let r := (s.table t).rcd
  if !slotValid b || slotHalf b || (!slotStatic b && (r.learnEn == 1 || r.ageEn == 1)) then none
  else if r.kind = 1 then match l with | .em i => some (.direct i b) | .stash _ => none
  else if r.width = 2 then
    let o := (s.slotAt l.next).bits
    some (.entry t (BitVec.ofNat 320 (slotKey b * 2 ^ 192 + fld o 207 16)) [b, o])
  else some (.entry t (BitVec.ofNat 320 (slotKey b)) [b])

/-- The place of an entry in the canonical order: by table and key, then the direct entries by index. -/
def ResyncItem.order (i : ResyncItem) : Nat :=
  match i with | .entry t k _ => t * 2 ^ 320 + k.toNat | .direct n _ => 2 ^ 400 + n | _ => 0

/-- An item put in its place. -/
def insertItem (i : ResyncItem) (l : List ResyncItem) : List ResyncItem :=
  match l with
  | [] => [i]
  | x :: t => if x.order < i.order then x :: insertItem i t else i :: x :: t

/-- The entries without their places. -/
def State.resyncEntries (s : State) : List ResyncItem :=
  ((s.tables.em.map (fun (e : Nat × EmSlot) => Loc.em e.1) ++ s.tables.stash.map fun (e : Nat × EmSlot) => Loc.stash e.1).filterMap
    s.entryItem).foldr insertItem []

/-- The forwarding state of R404, in one fixed order: every object that a command of R400 sets, and nothing else. -/
def State.resyncItems (s : State) : List ResyncItem :=
  (s.rules.objs.map fun (e : Nat × ObjSlot) => .object (e.1 / 2 ^ 20) (e.1 % 2 ^ 20) e.2)
    ++ (s.rules.prefixes.map fun (e : Nat × ObjSlot) => .lpmPrefix e.1 e.2)
    ++ (s.rules.ranges.map fun (e : Nat × RangeCmp) => .range e.1 e.2)
    ++ [.versions s.rules.current s.rules.older s.rules.coming s.rules.staged s.rules.stagedOps]
    ++ (s.tables.defs.flatMap fun (e : Nat × TableDef) =>
          [.table e.1 { e.2.rcd with seed0 := 0, seed1 := 0 }, .upkeep e.1 e.2.upkeep])
    ++ s.resyncEntries
    ++ (s.tables.emProf.map fun (e : Nat × EmProf) => .emProfile e.1 e.2)
    ++ (s.tables.lpmProf.map fun (e : Nat × List LpmLookup) => .lpmProfile e.1 e.2)
    ++ [.nextHop s.tables.nextHop]
    ++ (s.pk.groups.map fun (e : Nat × Option McastGroup) => .group e.1 e.2)
    ++ (s.eg.ports.filterMap fun (e : Nat × EPort) => e.2.tcMap.map fun m => .tcMap e.1 m)
    ++ (s.pk.pools.map fun (e : Nat × Pool) => .pool e.1 e.2)
    ++ (s.eg.queues.filterMap fun (e : Nat × Queue) => e.2.admitRec.map fun r => .queueAdmit e.1 r)

/-- The LEAD sends its state, one item a message. -/
def State.sendState (s : State) : State :=
  s.resyncItems.zipIdx.foldl (fun s e => s.colSend (.resync e.2 e.1)) s

/-- RESYNC_START (R404): at a boundary B the FOLLOW enters RESYNC and the LEAD freezes mirrored commands; TWIN_JOIN is
answered with B. -/
def execResyncStart (s : State) : Host.Outcome State Fault Refusal :=
  .next (if !s.twin.connected || s.twin.attached || s.clock.tick != 0 then s
    else
      match s.twin.role with
      | .lead =>
        if s.twin.joinStep ≠ 2 then s
        else
          let s := { s with twin := { s.twin with joinStep := 4, joinEpoch := s.clock.epoch, frozen := true } }
          let s := s.sendState
          match s.cmd.running.find? fun r => r.opcode == 0x0C03 with
          | some r => s.reply r.hdr 0x0C03 stOk 0 (BitVec.ofNat 64 s.clock.epoch) 0 []
          | none => s
      | .follow =>
        if s.twin.joinStep ≠ 3 ∨ s.cmd.dev ≠ .configure ∨ s.clock.epoch < s.twin.joinEpoch then s
        else { s.discardForwarding with cmd.dev := .resync
                                        twin := { s.twin with joinStep := 4, joinEpoch := s.clock.epoch, resyncIn := [] } }
      | .none => s)

end Sys2Proof.Machine

/-- The layout of a RESYNC message's payload, which the spec does not state (log 2). -/
opaque Sys2Proof.Config.resyncItem (payload : List Sys2Proof.Byte) : Option Sys2Proof.Machine.ResyncItem

namespace Sys2Proof.Machine

/-- A write of an exact-match slot increments its bucket's write tag (R168). -/
def State.tagWrite (s : State) (slot : Nat) : State :=
  s.modWriteTag (tagKey 0 (bucketOf slot).1 (bucketOf slot).2) (· + 1)

/-- One write of an entry's placing (R171). -/
def State.placeStep (s : State) (p : PlanStep) : State :=
  match p with
  | .bucket b k slots hits merge _ _ => s.landBucket b k slots hits merge
  | .stash t l => l.foldl (fun u (w : Nat × BitVec 256 × HitRule) => u.landStash s t w.1 w.2.1 w.2.2) s
  | _ => s

/-- The FOLLOW places an entry under its own hashing, as an insertion does (R147, R171, R404). -/
def State.placeEntry (s : State) (table : Nat) (key : BitVec 320) (slots : List (BitVec 256)) : State :=
  (s.insertPlan table key slots none []).steps.foldl State.placeStep s

/-- An object put in place on the FOLLOW. A table takes seeds of its own (R148). -/
def State.putItem (s : State) (i : ResyncItem) : State :=
  match i with
  | .object k n o => s.putObjAt (objKey k n) o
  | .lpmPrefix n o => { s.putPrefixAt n o with rules.lpmUnits := s.rules.lpmUnits + prefixUnits o }
  | .range c r => s.putRange c r
  | .versions v old coming staged ops =>
    { s with rules := { s.rules with current := v, older := old, coming := coming, staged := staged, stagedOps := ops } }
  | .table t r => let p := s.withSeeds { r with seedSet := 0 }; p.1.applyTableCreate t p.2
  | .upkeep t r => s.modTable t fun d => { d with upkeep := r }
  | .entry t k l => s.placeEntry t k l
  | .direct n b => (s.putEmSlot n { bits := b, poison := false }).tagWrite n
  | .emProfile n r => s.putEmProfile n r
  | .lpmProfile n r => s.putLpmProfile n r
  | .nextHop t => { s with tables.nextHop := t }
  | .group g m => s.putMgroup g m
  | .tcMap p m => s.modEport p fun x => { x with tcMap := some m }
  | .pool o p => s.putPool o p
  | .queueAdmit q r => s.modEqueue q fun x => { x with admitRec := some r }

/-- RESYNC_RX (R404): one message of the bulk state. -/
def execResyncRx (id : Nat) (payload : List Byte) (s : State) : Host.Outcome State Fault Refusal :=
  .next (if s.twin.role = .follow ∧ s.twin.joinStep = 4 ∧ s.cmd.dev = .resync then
      let s := { s with twin.resyncIn := (id, payload) :: s.twin.resyncIn }
      match Config.resyncItem payload with
      | some i => s.putItem i
      | none => s
    else s)

/-- The digest over exactly the state of R404. -/
def State.forwardingDigest (s : State) : BitVec 384 := Config.resyncDigest s.twin.joinEpoch s.resyncItems

/-- RESYNC_DIGEST_COMPARE (R404): equal digests end the resync at the next boundary. -/
def execResyncDigestCompare (peer peerConfig : BitVec 384) (peerCount : Nat) (s : State) :
    Host.Outcome State Fault Refusal :=
  .next (if !s.twin.connected || s.twin.joinStep != 4 then s
    else if s.forwardingDigest = peer then
      ({ s with twin.joinStep := 5 }).due (s.clock.epoch + 1) [] (.resyncEnd peerConfig peerCount)
    else s.joinFailed)

/-- The resync has ended: the pair is attached, the FOLLOW returns to CONFIGURE with the LEAD's configuration digest, the
LEAD unfreezes (R404, R474); no pair forms with a twin in compatibility mode (R26). -/
def State.applyResyncEnd (s : State) (config : BitVec 384) (count : Nat) : State :=
  if s.twin.joinStep ≠ 5 then s
  else if s.power.compat.isSome then s.joinFailed
  else
    let s := { s with twin := { s.twin with attached := true, joinStep := 0, frozen := false, resyncIn := [] } }
    let s := if s.twin.role = .follow then
        { s with cmd.dev := if s.cmd.dev = .resync then .configure else s.cmd.dev
                 sec := { s.sec with configDigest := config, configCount := count } }
      else s
    (s.note srcTwinResyncDone s.twin.peer 0).note srcTwinAttached s.twin.peer 0

/-- TWIN_THROTTLE_RX (R396, R403): recorded; ignored under 2.0. -/
def execTwinThrottleRx (n : ThrottleNote) (s : State) : Host.Outcome State Fault Refusal :=
  .next (if s.twin.connected ∧ s.twin.version = 0x201 then
      { s with twin.notice := some n }.note srcTwinThrottle s.twin.peer 0
    else s)

/-! ## Changes (R406) -/

/-- The pair detached and the Colonnade disconnected by TWIN_DETACH, on either device. -/
def State.detached (s : State) : State := s.disconnect.note srcTwinDetached s.twin.peer 0

/-- TWIN_DETACH takes effect; the device's last message tells the twin. No message of R395 is stated to (DESIGN CHOICE,
log 113). -/
def State.applyDetach (s : State) : State :=
  if s.twin.connected then (s.colSend (.mirror 0 0x0C04 none .twinDetach)).detached else s.detached

/-- The roles are exchanged; TD0 follows the role (R281). -/
def State.applyRoleSwap (s : State) : State :=
  let s := { s with twin.swapAt := none }
  match s.twin.role with
  | .lead => ({ s with twin.role := .follow }).enterTwin
  | .follow => { s.leaveTwin with twin.role := .lead }
  | .none => s

/-- DRAIN entered or left (R352, R406). -/
def State.applyDrain (s : State) (on : Bool) : State :=
  if on then (if s.cmd.dev = .service then { s with cmd.dev := .drain } else s)
  else if s.cmd.dev = .drain then { s with cmd.dev := .service } else s

/-! ## Commands (R412) -/

def cmdTwinBind (role peer : Nat) (peerId : BitVec 384) : Cmd :=
  .set 0x0C01 (role, peer, peerId) fun _ s =>
    .need (decide (peer < 64)) (.access peer) <|
    .need (role == 1 || role == 2) .param <|
    .need (!s.twin.connected) .conflict <|
    .ok { s with twin := { s.twin with role := if role = 1 then .lead else .follow, peer := peer, peerId := peerId } }

def cmdTwinUnbind : Cmd :=
  .set 0x0C02 () fun _ s =>
    .need (!s.twin.connected) .conflict <| .ok { s with twin := { s.twin with role := .none, peer := 0, peerId := 0 } }

/-- The FOLLOW as the LEAD knows it is bound to it and in CONFIGURE: from its last HEARTBEAT while connected, else from the
present map; a device that neither names is taken at its word (log 29). -/
def State.followReady (s : State) : Bool :=
  match (if s.twin.connected then s.twin.peerState else none) with
  | some (role, st, _) => role == 2 && st == 2
  | none =>
    match s.ring.present.find? fun r => r.id == s.twin.peer with
    | some r => r.role == 2 && r.state == 2 && r.twinId == s.sec.deviceId
    | none => true

/-- TWIN_JOIN (R404): held till B. -/
def cmdTwinJoin : Cmd :=
  .set 0x0C03 () fun _ s =>
    .need (s.twin.role == .lead && !s.twin.attached && s.twin.joinStep != 4 && s.twin.joinStep != 5 && s.followReady
      && !(s.cmd.running.any fun r => r.opcode == 0x0C03) && (s.twin.connected || s.laLive) && s.power.compat.isNone) .conflict <|
    .held (if s.twin.connected then { s with twin.joinStep := 2 }
           else { s.sendHello with twin := { s.sendHello.twin with joinStep := 1, lanes := .up } }) 0

def objDetach : Nat × Nat := objDevice 23
def objRole : Nat × Nat := objDevice 24

def cmdTwinDetach : Cmd :=
  .set 0x0C04 () fun _ s => .need s.twin.attached .conflict <| .at [objDetach] s [.detach]

/-- TWIN_ROLE_SWAP (R406): a twin commit of an attached LEAD. -/
def cmdTwinRoleSwap : Cmd :=
  { Cmd.set 0x0C05 () (fun h s =>
      .need (s.twin.attached && (s.twin.role == .lead || (match h.origin with | .colonnade _ => true | _ => false))) .conflict <|
      .at [objRole] s [.roleSwap]) with
    mirror := some .twinRoleSwap }

def cmdTwinDrain (on : Bool) : Cmd :=
  .set 0x0C06 on fun _ s =>
    .need (if on then s.twin.attached && s.twin.role == .follow && s.cmd.dev == .service else s.cmd.dev == .drain) .conflict <|
    .at [objDevice 0] s [.drain on]

/-- The fields that the mask names (R403, log 21). -/
def NotifyRec_merge (o r : NotifyRec) (fields : BitVec 8) : NotifyRec :=
  { en := if bit fields 0 then r.en else o.en, ports := if bit fields 1 then r.ports else o.ports
    count := if bit fields 2 then r.count else o.count, gap := if bit fields 3 then r.gap else o.gap
    frame := if bit fields 4 then r.frame else o.frame }

def notifyOk (r : NotifyRec) (fields : BitVec 8) : Bool :=
  decide (r.en ≤ 1) && decide (r.ports.length ≤ 64) && decide (1 ≤ r.count) && decide (r.count ≤ 255)
    && decide (1 ≤ r.gap) && decide (r.gap ≤ 1000)
    && (!bit fields 4 || (decide (60 ≤ r.frame.length) && decide (r.frame.length ≤ 256)))

def cmdTwinNotifySet (r : NotifyRec) (fields : BitVec 8) : Cmd :=
  .set 0x0C07 (r, fields) fun _ s =>
    let n := NotifyRec_merge s.twin.notify r fields
    match n.ports.find? fun p => decide (1023 < p) with
    | some p => .access p
    | none => .need (notifyOk n fields) .param <| .ok { s with twin.notify := n }

/-- A throttle notice as values: whether there is one, its body and its epoch. -/
def noteValues (n : Option ThrottleNote) : List Nat :=
  match n with
  | none => [0, 0, 0]
  | some x => [1, (throttleDetail x).toNat, x.epoch]

def cmdTwinStatusGet : Cmd :=
  .get 0x0C08 () fun _ s =>
    let p := s.twin.peerState.getD (0, 0, 0, 0)
    .reply s ([roleCode s.twin.role, b2n s.twin.attached, s.twin.version, b2n s.twin.peerState.isSome, p.1, p.2.1, p.2.2.1.toNat
      , p.2.2.2, s.twin.lastTxn, b2n s.twin.frozen] ++ noteValues s.twin.notice)

def cmdTwinStatsGet (clear : Bool) : Cmd :=
  .stats 0x0C0B clear clear fun _ s =>
    statsRule s ([(Ctr.colFramesTx, 0), (.colFramesRx, 0), (.colRetries, 0), (.colHeartbeatMissed, 0), (.twinCommits, 0)
      , (.twinFailed, 0), (.twinDiverged, 0), (.ringFramesRelayed, 0), (.ringFramesRelayed, 1), (.ringRetries, 0)
      , (.ringRetries, 1), (.ringTtlDrop, 0), (.ringTtlDrop, 1)]) [] clear

end Sys2Proof.Machine
end

