-- ==== Sys2Proof/Machine/Ring.lean ====
section
/-! DEFINITION. The Slait ring (R407 to R409, R354, R355, R368, spec/16_twin_ring.md and spec/14_commands.md). -/

namespace Sys2Proof.Machine

/-- Port number of a ring port in events and counters: 0 east, 1 west. -/
def sideNo (west : Bool) : Nat := if west then 1 else 0

/-- A frame put out of a port, or turned back out of the other where that one is broken (R409). -/
def State.ringOutHeld (s : State) (west : Bool) (f : RingFrame) (held : Option Nat) : State :=
  let w := if west && s.ring.brokenWest then false else if !west && s.ring.brokenEast then true else west
  State.ringRoom { s with ring.unacked := s.ring.unacked ++ [{ west := w, frame := f, held := held, sends := 0 }] } w

/-- A frame of the device's own put out of a port. -/
def State.ringOut (s : State) (west : Bool) (f : RingFrame) : State := s.ringOutHeld west f none

/-- A relayed frame's packet in the COLONNADE pool: held in its cells till the next hop has the frame. -/
def State.relayPkt (s : State) (f : RingFrame) : Pkt :=
  { s.madePkt 0xFFFF 0 (beBytes 1 f.dest ++ beBytes 1 f.src ++ beBytes 1 f.type ++ beBytes 1 f.hops
      ++ beBytes 2 (f.segment * 2 + b2n f.last) ++ f.payload) ownColonnade 0 with cloister := true, frameLen := 6 + f.payload.length }

/-- A frame relayed through the COLONNADE pool (R214, R407); with the pool full it is not taken, and the neighbour's retry
sends it again. -/
def State.relayFrame (s : State) (west : Bool) (f : RingFrame) : State :=
  let p := s.relayPkt f
  let n := cellCount p.frameLen
  if (s.pool ownColonnade).size < s.poolUsed ownColonnade + n then s.raiseOnce srcPoolExhausted ownColonnade 0
  else
    let pid := s.pk.pktNext
    let s := { s with pk := { s.pk with pktNext := pid + 1 } }
    (((s.putPkt pid (some p)).startCells pid p.frameLen).ringOutHeld west f (some pid)).bump .ringFramesRelayed (sideNo west)

/-- What a neighbour has received is no longer kept: the cells of relayed frames are freed, and waiting frames go out. -/
def State.hopAcked (s : State) (west : Bool) : State :=
  let got := fun (u : RingOut) => u.west == west && u.sends != 0
  let gone := (s.ring.unacked.filter got).filterMap fun u => u.held
  let s := { s with ring := if west then { s.ring with downWest := false } else { s.ring with downEast := false } }
  (gone.foldl State.releaseHeld { s with ring.unacked := s.ring.unacked.filter fun u => !got u }).ringRoom west

/-- A segment joined to those before it (R407). -/
def State.joinSegment (s : State) (f : RingFrame) : State :=
  let old := ((s.ring.partials.find? fun p => p.1 == f.src && p.2.1 == f.type).map fun p => p.2.2).getD []
  let rest := s.ring.partials.filter fun p => !(p.1 == f.src && p.2.1 == f.type)
  { s with ring.partials := if f.last then rest else rest ++ [(f.src, f.type, old ++ f.payload)] }

/-- RING_FRAME_RX (R407): a frame for this device is taken, any other relayed with one hop less; a frame at 0 hops is
discarded. A frame that a neighbour sends shows that it has received those sent before (log 30). What a taken frame carries
follows as the command of its type. -/
def execRingFrameRx (west : Bool) (f : RingFrame) (s : State) : Host.Outcome State Fault Refusal :=
  .next (if !s.clock.running then s
    else
      let s := s.hopAcked west
      if f.hops = 0 then s.bump .ringTtlDrop (sideNo west)
      else
        let s := if f.dest = s.sec.deviceId ∨ f.dest = 0xFF then s.joinSegment f else s
        if f.dest = s.sec.deviceId ∨ f.src = s.sec.deviceId then s
        else s.relayFrame (!west) { f with hops := f.hops - 1 })

/-- RING_HOP_RESEND (R394, R407): the frames not acknowledged on a hop are sent again, 2 microseconds after the oldest one's last
transmission or on a repeated LINK_ACK; a frame sent 16 times takes the port's link down. -/
def execRingHopResend (west : Bool) (s : State) : Host.Outcome State Fault Refusal :=
  .next (let l := s.ring.unacked.filter fun u => u.west == west && u.sends != 0
    if l.isEmpty || s.ringLost west then s
    else if l.any fun u => decide (16 ≤ u.sends) then
      { s with ring := if west then { s.ring with downWest := true } else { s.ring with downEast := true } }
    else
      let again := fun (u : RingOut) => if u.west == west && u.sends != 0 then { u with sends := u.sends + 1 } else u
      let s := State.bumpBy { s with ring.sent := (l.map again).reverse ++ s.ring.sent
                                     ring.unacked := s.ring.unacked.map again } .ringRetries (sideNo west) l.length
      if s.ring.retryEpoch = some s.clock.epoch then s
      else ({ s with ring.retryEpoch := some s.clock.epoch }).note srcRingRetry (sideNo west) 0)

/-- The values of a longer result, as many bytes each as its opcode has (log 16). -/
def valuesOf (op : Nat) (l : List Byte) : List Nat := (chunks (valueBytes op) l.length l).map ofBytes

/-- RING_REPLY_RX (R344, R354): the device that took the command writes the reply as it came, with the longer result and the state of
the device that executed it. -/
def execRingReplyRx (id status : Nat) (rest : ReplyRest) (result addr : BitVec 64) (s : State) : Host.Outcome State Fault Refusal :=
  .next (match s.cmd.relays.find? fun r => r.id == id with
    | none => s
    | some r =>
      let s := { s with cmd.relays := s.cmd.relays.filter fun x => x.id != id }
      s.sendReply r.hdr { s.mkReply r.hdr r.opcode status rest.detail result addr (valuesOf r.opcode rest.result) with
        device := r.hdr.target, logged := addr, status := status, detail := rest.detail, state := rest.state
        resultLen := rest.result.length })

/-- A record of 32 bytes read back (R369). -/
def recordOf (ring dev : Nat) (r : BitVec 256) : EventRec :=
  { ring := ring, source := fld r 255 240, severity := fld r 239 232, repeated := bit r 224, lost := false
    inst := fld r 223 192, epoch := fld r 191 128, tick := fld r 127 112, device := dev, seq := 0
    detail := BitVec.ofNat 64 (fld r 63 0), clock := 0 }

/-- Enumeration is due within 1 ms (R408). -/
def State.enumSoon (s : State) : State := if s.isRoot then { s with ring.enumDue := some s.now } else s

/-- RING_BREAK or RING_RESTORED of another device's port: its place is kept, and the root enumerates (R408, R412). -/
def State.remoteBreak (s : State) (dev source port : Nat) : State :=
  let rest := s.ring.breaks.filter (· != (dev, port))
  if source = srcRingBreak then State.enumSoon { s with ring.breaks := rest ++ [(dev, port)] }
  else if source = srcRingRestored then State.enumSoon { s with ring.breaks := rest }
  else s

/-- RING_EVENT_RX (R368): the host-attached device writes the record into the ring that the sender's EventRoute names. -/
def execRingEventRx (dev ring : Nat) (record : BitVec 256) (s : State) : Host.Outcome State Fault Refusal :=
  onUnit (decide (ring < 4)) ring
    (if s.sec.pcieUp && s.clock.running then
       let e := { recordOf ring dev record with clock := s.clock.k }
       (s.writeEvent ring e false).remoteBreak dev e.source e.inst
     else s)

/-- RING_THROTTLE_RX (R403): recorded. -/
def execRingThrottleRx (src : Nat) (n : ThrottleNote) (s : State) : Host.Outcome State Fault Refusal :=
  .next (if s.clock.running then
      { s with ring.notices := (s.ring.notices.filter fun (e : Nat × ThrottleNote) => e.1 != src) ++ [(src, n)] }.note srcRingPeerThrottle src 0
    else s)

/-! ## Enumeration (R408) -/

/-- What the device answers: hops from the root in the direction in which ENUM came, and in the other as the ENUM of that
direction told them last; before one has come, a free value (log 30). -/
def State.enumReply (s : State) (west : Bool) (hops : Nat) : EnumReply :=
  let o := (if west then s.ring.hopsWest else s.ring.hopsEast).getD (s.freeVal 8).toNat
  { id := s.sec.deviceId, idHash := Config.identityHash, state := devCode s.cmd.dev, role := roleCode s.twin.role
    twinId := s.twin.peer, east := if west then hops else o, west := if west then o else hops, root := s.isRoot }

def EnumReply_bytes (r : EnumReply) : List Byte :=
  beBytes 1 r.id ++ beBytes 48 r.idHash.toNat ++ beBytes 1 r.state ++ beBytes 1 r.role ++ beBytes 1 r.twinId
    ++ beBytes 1 r.east ++ beBytes 1 r.west ++ beBytes 1 (b2n r.root)

/-- RING_ENUM_RX: ENUM of root `src` has come in on a port; a root that another root enumerates is left out. -/
def execRingEnumRx (src : Nat) (west : Bool) (hops : Nat) (s : State) : Host.Outcome State Fault Refusal :=
  .next (if !s.clock.running then s
    else
      let s := (s.ringSend src 6 (EnumReply_bytes (s.enumReply west hops))).draw
      let s := { s with ring := if west then { s.ring with hopsEast := some hops } else { s.ring with hopsWest := some hops } }
      if s.isRoot && !s.ring.excluded then
        ({ s with ring.excluded := true }).note srcRingDuplicateId s.sec.deviceId 0
      else if s.isRoot then s
      else { s with ring.root := some src })

/-- The replies kept in the map: of two with one strap ID that with fewer hops by the east path; roots other than the
enumerating one are left out. -/
def mapOf (self : Nat) (replies : List EnumReply) : List EnumReply :=
  replies.filter fun r =>
    (!r.root || r.id == self) && !(replies.any fun q => q.id == r.id && decide (q.east < r.east)) && r.id != self

/-- The root takes its new map (R408). -/
def State.newMap (s : State) (replies : List EnumReply) : State :=
  let m := mapOf s.sec.deviceId replies
  let old := s.ring.present.map fun r => r.id
  let new := m.map fun r => r.id
  let s := { s with ring := { s.ring with present := m, enumEpoch := s.clock.epoch } }
  let s := (new.filter fun i => !old.contains i).foldl (fun s i => s.note srcRingDeviceJoined i 0) s
  (old.filter fun i => !new.contains i).foldl (fun s i => s.note srcRingDeviceLeft i 0) s

/-- The present map as values: ID, state, role, twin and hops of each device. -/
def State.mapValues (s : State) : List Nat :=
  s.ring.present.flatMap fun r => [r.id, r.state, r.role, r.twinId, r.east, r.west]

/-- RING_ENUMERATE's reply once the map stands. -/
def State.answerEnumerate (s : State) : State :=
  match s.cmd.running.find? fun r => r.opcode == 0x0C0A with
  | some r => s.reply r.hdr 0x0C0A stOk 0 0 0 s.mapValues
  | none => s

/-- RING_ENUM_REPLY_RX: the root makes its map of the answers; another device that finds its own strap ID answered with
fewer hops takes no command. -/
def execRingEnumReplyRx (replies : List EnumReply) (s : State) : Host.Outcome State Fault Refusal :=
  .next (if !s.clock.running then s
    else if s.isRoot then
      let other := replies.any fun r => r.root && r.id != s.sec.deviceId
      State.answerEnumerate { s.newMap replies with ring.excluded := s.ring.excluded && other }
    else
      let own := replies.find? fun r => r.id == s.sec.deviceId && r.idHash == Config.identityHash
      let other := replies.find? fun r => r.id == s.sec.deviceId && r.idHash != Config.identityHash
      match own, other with
      | some a, some b =>
        if b.east < a.east ∧ ¬ s.ring.excluded then
          ({ s with ring.excluded := true }).note srcRingDuplicateId s.sec.deviceId 0
        else s
      | _, _ => { s with ring.excluded := false })

/-- RING_JOIN_RX (R408). -/
def execRingJoinRx (_src : Nat) (s : State) : Host.Outcome State Fault Refusal :=
  .next (if s.clock.running then s.enumSoon else s)

/-- ENUM in both directions. -/
def State.enumerate (s : State) : State :=
  let f : RingFrame := { dest := 0xFF, src := s.sec.deviceId, type := 5, hops := 128, segment := 0, last := true, payload := [] }
  let s := (s.ringOut false f).ringOut true f
  { s with ring := { s.ring with enumDue := none, enumEpoch := s.clock.epoch, root := some s.sec.deviceId } }

/-- RING_ENUMERATE_PERIOD (R408): after a break, a restoration or a JOIN, and every 2^20 epochs. -/
def execRingEnumeratePeriod (s : State) : Host.Outcome State Fault Refusal :=
  .next (if s.clock.running && s.isRoot && (s.ring.enumDue.isSome || decide (s.ring.enumEpoch + 2 ^ 20 ≤ s.clock.epoch)) then
      s.enumerate
    else s)

/-- RING_BREAK (R409): a port's link has been down for 1 ms; what it still had to send goes out of the other port. -/
def execRingBreak (west : Bool) (s : State) : Host.Outcome State Fault Refusal :=
  .next (if !s.clock.running || !s.ringUp west then s
    else
      let s := { s with ring := if west then { s.ring with brokenWest := true, downWest := false } else { s.ring with brokenEast := true, downEast := false } }
      let turn := s.ring.unacked.filter fun u => u.west == west
      let s := { s with ring.unacked := s.ring.unacked.filter fun u => u.west != west }
      let s := turn.foldl (fun s u => s.ringOutHeld (!west) u.frame u.held) s
      (s.note srcRingBreak (sideNo west) 0).enumSoon)

/-- RING_RESTORED (R409): the link has been up for 1 ms. -/
def execRingRestored (west : Bool) (s : State) : Host.Outcome State Fault Refusal :=
  .next (if !s.clock.running || s.ringUp west then s
    else
      let s := { s with ring := if west then { s.ring with brokenWest := false } else { s.ring with brokenEast := false } }
      (s.note srcRingRestored (sideNo west) 0).enumSoon)

/-! ## Commands (R412) -/

/-- Break positions: the device's own broken ports, and those that other devices' events have told of (R412). -/
def State.breakList (s : State) : List (Nat × Nat) :=
  (if s.ring.brokenEast then [(s.sec.deviceId, 0)] else []) ++ (if s.ring.brokenWest then [(s.sec.deviceId, 1)] else [])
    ++ s.ring.breaks

def cmdRingStatusGet : Cmd :=
  (Cmd.get 0x0C09 () fun _ s =>
    .reply s ([match s.ring.root with | some r => r | none => 0xFF, s.breakList.length]
      ++ (s.breakList.flatMap fun (b : Nat × Nat) => [b.1, b.2]) ++ s.mapValues
      ++ s.ring.notices.flatMap fun (e : Nat × ThrottleNote) => e.1 :: noteValues (some e.2))).upTo 888

/-- RING_ENUMERATE: the root only; its reply is the map that the enumeration finds. -/
def cmdRingEnumerate : Cmd :=
  .set 0x0C0A () fun _ s => .need s.isRoot .conflict <| .held s.enumerate (resultBytes 0x0C0A 378)

end Sys2Proof.Machine
end

