-- ==== Sys2Proof/Machine/Secure.lean ====
section
/-! DEFINITION. Signed images, firmware update, revocation, the HSS tree, measurements and attestation
(spec/19_security.md), and loading an Armature patch (R386, spec/15_armature.md). -/

namespace Sys2Proof.Machine

/-! ## Verification (R466) -/

/-- What verification answers: BOOT code (0 OK), command status, and the two signature results (bit 1 ECDSA, bit 0 HSS; 0
where the checks before them fail). -/
structure ImageCheck where
  code : Nat
  status : Nat
  sigs : Nat
deriving DecidableEq, Repr

/-- The key slots named hold the image's keys and are not revoked (check 2). -/
def State.keysOk (s : State) (h : ImageHdr) : Bool :=
  decide (h.ecdsaSlot < 4) && decide (h.lmsSlot < 4)
    && h.ecdsaPubHash == Config.ecdsaKeyHash h.ecdsaSlot && h.hssPubHash == Config.lmsKeyHash h.lmsSlot
    && !bit s.sec.revoked h.ecdsaSlot && !bit s.sec.revoked (4 + h.lmsSlot)

/-- IMAGE_VERIFY for an image of a kind: 1 firmware, 2 patch. -/
def State.verify (s : State) (kind : Nat) (h : ImageHdr) : ImageCheck :=
  let sigs := 2 * b2n h.ecdsaOk + b2n h.hssOk
  if !h.formatOk || h.kind != kind then { code := 2, status := stBadLength, sigs := 0 }
  else if !s.keysOk h then { code := 3, status := stAuthFailed, sigs := 0 }
  else if h.bodyDigest ≠ h.bodyHash then { code := 4, status := stAuthFailed, sigs := 0 }
  else if !h.ecdsaOk then { code := 5, status := stAuthFailed, sigs := sigs }
  else if !h.hssOk then { code := 6, status := stAuthFailed, sigs := sigs }
  else if h.svn < s.sec.svn then { code := 7, status := stRollbackRefused, sigs := sigs }
  else if kind = 1 ∧ !microcodeOk (Config.firmwareBody h.body) then { code := 8, status := stBadParam, sigs := sigs }
  else { code := 0, status := stOk, sigs := sigs }

/-- The bytes `a` to `b` of a list, as R465 names them. -/
def sliceBytes (l : List Byte) (a b : Nat) : List Byte := (l.drop a).take (b + 1 - a)

/-- An image read (R465): the header of 256 bytes, the body, r and s of the ECDSA signature, and the rest the HSS
signature. -/
def imageOf (l : List Byte) : ImageHdr :=
  let f := fun a b => ofBytes (sliceBytes l a b)
  let len := f 20 23
  let body := (l.drop 256).take len
  let msg := l.take 256
  { formatOk := f 0 3 == 0x4E5A4657 && f 4 5 == 1 && f 18 19 == 0 && f 229 255 == 0 && decide (len ≤ 2 ^ 24)
      && decide (256 + len + 96 ≤ l.length)
    kind := f 6 6, svn := f 7 7, imageSeq := f 8 11, version := BitVec.ofNat 32 (f 12 15), ecdsaSlot := f 16 16
    lmsSlot := f 17 17, bodyDigest := BitVec.ofNat 384 (f 24 71), ecdsaPubHash := Config.sha384 (sliceBytes l 72 168)
    hssPubHash := Config.sha384 (sliceBytes l 169 228), bodyHash := Config.sha384 body
    ecdsaOk := Config.ecdsaVerify (sliceBytes l 72 168) msg ((l.drop (256 + len)).take 96)
    hssOk := Config.hssVerify (sliceBytes l 169 228) msg (l.drop (256 + len + 96)), body := body }

/-- Byte `i` of what chunks, newest first, have written. -/
def chunkByte (place : Nat) (chunks : List (Nat × List Byte)) (i : Nat) : Byte :=
  match chunks.find? fun e => decide (e.1 ≤ i) && decide (i < e.1 + e.2.length) with
  | some e => e.2.getD (i - e.1) 0
  | none => Config.unwritten place i

/-- The image of `total` bytes that chunks make up. -/
def assemble (place total : Nat) (chunks : List (Nat × List Byte)) : List Byte :=
  (List.range total).map (chunkByte place chunks)

/-- A refusal of an image: RESULT holds the signature results. -/
def ImageCheck.refuse (v : ImageCheck) : Rule := .refuse v.status 0 (BitVec.ofNat 64 v.sigs) 0

/-! ## The HSS tree (R471) -/

/-- HSS_TOP_LOW below 64 leaves. -/
def State.leafLow (s : State) : State := if 4096 - s.sec.hssLeaf < 64 then s.note srcHssTopLow 0 0 else s

/-- The next top leaf burned and its lower tree begun; with none left, or where the burn fails its verification, no report
can be signed any more. -/
def State.burnLeaf (s : State) (burnOk : Bool) : State :=
  if s.sec.hssLeaf < 4096 ∧ !burnOk then
    ({ s with sec := { s.sec with exhausted := true, treeReady := false } }).note srcHssFuseError 0 0
  else if s.sec.hssLeaf < 4096 then
    ({ s with sec := { s.sec with topLeaf := some s.sec.hssLeaf, hssLeaf := s.sec.hssLeaf + 1, treeReady := false
                                  lowerLeaf := 0 } }).leafLow
  else ({ s with sec := { s.sec with exhausted := true, treeReady := false } }).note srcAttestExhausted 0 0

/-- HSS_TREE_READY (R471). -/
def execHssTreeReady (s : State) : Host.Outcome State Fault Refusal :=
  .next (if s.sec.running.isSome && s.sec.topLeaf.isSome && !s.sec.exhausted && !s.sec.treeReady then
      { s with sec := { s.sec with treeReady := true, lowerLeaf := 0 } }
    else s)

/-! ## Commands (R468 to R477) -/

/-- Chunk ranges of R477. -/
def chunkRange (offset : Nat) (chunk : List Byte) (rest : Rule) : Rule :=
  .need (decide (offset ≤ 2 ^ 24)) (.access offset) <| .need (decide (chunk.length ≤ 131008)) (.access chunk.length) rest

def Security.bootStatus (x : Security) : BitVec 64 :=
  BitVec.ofNat 64 (x.source * 2 ^ 62 + b2n x.slotB * 2 ^ 61 + x.codeA * 2 ^ 56 + x.codeB * 2 ^ 52 + x.codePush * 2 ^ 48
    + (if x.fusesRead then x.revoked.toNat * 2 ^ 40 + x.svn * 2 ^ 32 + x.hssLeaf * 2 ^ 19 else 0)
    + b2n x.thermtripPrior * 2 ^ 18 + b2n x.halted * 2 ^ 17 + x.sigA * 2 ^ 15 + x.sigB * 2 ^ 13 + x.sigPush * 2 ^ 11)

def cmdBootStatusGet : Cmd := .get 0x0D01 () fun _ s => .val s s.sec.bootStatus.toNat

/-- FW_PUSH (R468, R487): the boot ROM waits for a push. -/
def cmdFwPush (offset : Nat) (chunk : List Byte) : Cmd :=
  .set 0x0D02 (offset, chunk) fun _ s =>
    chunkRange offset chunk <|
    .need (s.cmd.dev == .boot && s.sec.step == .waitPush) .conflict <|
    .ok { s with sec.push := (offset, chunk) :: s.sec.push }

/-- FW_PUSH_DONE: a failure leaves the boot ROM waiting. -/
def cmdFwPushDone (total : Nat) : Cmd :=
  .set 0x0D03 total fun _ s =>
    .need (s.cmd.dev == .boot && s.sec.step == .waitPush) .conflict <|
    let image := imageOf (assemble 2 total s.sec.push)
    let v := s.verify 1 image
    let s := { s with sec := { s.sec with codePush := v.code, sigPush := v.sigs } }
    if v.code = 0 then
      .val { s with sec := { s.sec with chosen := some image, source := 2, step := .firmware } } v.sigs
    else .done s v.status 0 (BitVec.ofNat 64 v.sigs) []

/-- The slot not booted: 0 A, 1 B. -/
def Security.otherSlot (x : Security) : Nat := if x.slotB then 0 else 1

/-- FW_FLASH_WRITE (R470): the slot not booted; its header is erased first. -/
def cmdFwFlashWrite (offset : Nat) (chunk : List Byte) : Cmd :=
  .set 0x0D04 (offset, chunk) fun _ s =>
    chunkRange offset chunk <|
    .ok { s with sec := { s.sec with flash := (s.sec.otherSlot, offset, chunk) :: s.sec.flash
                                     slots := s.sec.slots.set .board s.sec.otherSlot .erased } }

/-- The chunks written to a flash slot. -/
def Security.chunksOf (x : Security) (slot : Nat) : List (Nat × List Byte) :=
  (x.flash.filter fun e => e.1 == slot).map fun e => e.2

/-- FW_FLASH_COMMIT: the header is written last. -/
def cmdFwFlashCommit (total : Nat) : Cmd :=
  .set 0x0D05 total fun _ s =>
    let k := s.sec.otherSlot
    let l := assemble k total (s.sec.chunksOf k)
    let image := imageOf l
    let v := s.verify 1 image
    if v.code ≠ 0 then v.refuse
    else
      let t := ({ s with sec := { s.sec with slots := s.sec.slots.set .board k (.image l)
                                             flash := s.sec.flash.filter fun e => e.1 != k } }).note
        srcFwFlashCommitted 0 0
      .done t stOk 0 (BitVec.ofNat 64 v.sigs) [k, image.imageSeq]

/-- FW_RESTART: the reply is written before the restart. -/
def cmdFwRestart : Cmd :=
  .set 0x0D06 () fun _ s =>
    .need (s.cmd.dev == .configure && !s.twin.attached) .conflict <| .ok { s with sec.restarting := true }

/-- The highest V that SVN_ADVANCE may burn. -/
def State.svnLimit (s : State) : Nat :=
  let l := [match s.sec.running with | some x => x.svn | none => 255, s.arm.baseSvn]
    ++ (if s.arm.patchLevel = 0 then [] else [s.arm.patchSvn])
    ++ (match s.arm.staged with | some p => if p.level = 0 then [] else [p.svn] | none => [])
  l.foldl min 255

def cmdSvnAdvance (v : Nat) : Cmd :=
  .set 0x0D07 v fun _ s =>
    .need (decide (s.sec.svn ≤ v) && decide (v ≤ 255)) .param <|
    if v = s.sec.svn then .val s v
    else
      .need (decide (v ≤ s.svnLimit)) .conflict <|
      .val ({ s with sec.svn := v }.note srcSvnAdvanced 0 0) v

/-- Slots of an algorithm that would stay unrevoked. -/
def State.slotsLeft (s : State) (lms : Bool) (slot : Nat) : Bool :=
  (List.range 4).any fun k => k != slot && !bit s.sec.revoked (k + if lms then 4 else 0)

def cmdKeyRevoke (lms : Bool) (slot : Nat) : Cmd :=
  .set 0x0D08 (lms, slot) fun _ s =>
    .need (decide (slot < 4)) (.access slot) <|
    .need (!(match s.sec.running with | some x => (if lms then x.lmsSlot else x.ecdsaSlot) == slot | none => false)
      && s.slotsLeft lms slot) .conflict <|
    let t := { s with sec.revoked := s.sec.revoked ||| BitVec.ofNat 8 (2 ^ (slot + if lms then 4 else 0)) }
    .val t t.sec.revoked.toNat

def cmdIdentityCertGet : Cmd :=
  .get 0x0D09 () fun _ s => .reply s ((List.range Config.certWords).map Config.certWord)

def cmdMeasurementGet : Cmd :=
  .get 0x0D0A () fun _ s =>
    .reply s ([s.sec.m0, s.sec.m1, s.sec.m2, s.sec.m3, s.sec.configDigest].flatMap (fun m => words 6 m.toNat)
      ++ [s.sec.configCount])

/-- Bytes 0 to 327 of the report (R475). -/
def State.report (s : State) (r : ReportDue) : List Byte :=
  let x := s.sec
  let fw := x.running
  beBytes 2 1 ++ beBytes 1 x.svn ++ beBytes 1 (b2n (x.source == 2) + 2 * b2n x.slotB + 4 * b2n x.thermtripPrior)
    ++ beBytes 4 (match fw with | some f => f.version.toNat | none => 0)
    ++ beBytes 1 (match fw with | some f => f.svn | none => 0) ++ beBytes 1 s.arm.baseSvn ++ beBytes 2 s.arm.patchLevel
    ++ beBytes 1 s.arm.patchSvn ++ beBytes 1 x.deviceId ++ beBytes 2 r.top ++ beBytes 4 r.lower ++ beBytes 4 x.configCount
    ++ beBytes 8 Config.deviceSerial.toNat ++ beBytes 8 r.epoch
    ++ [r.nonce, x.m0, x.m1, x.m2, x.m3, x.configDigest].flatMap fun m => beBytes 48 m.toNat

/-- HSS_SIG (R475): Nspk is 1, as RFC 8554 has it for two levels (log 96). -/
def hssBytes (top lower : Nat) (body : List Byte) : List Byte :=
  beBytes 4 1 ++ beBytes 2572 (Config.hssTopSig top).toNat ++ beBytes 56 (Config.hssLowerPub top).toNat
    ++ beBytes 2668 (Config.hssLowerSig top lower body).toNat

/-- The bytes of a report captured now and signed with both keys. -/
def State.signReport (s : State) (r : ReportDue) : List Nat :=
  let body := s.report r
  (body ++ beBytes 96 (Config.ecdsaSig body).toNat ++ hssBytes r.top r.lower body).map (·.toNat)

/-- A report accepted: it takes the next lower leaf, and is captured when the tick's measurement updates are all applied (R473,
R475). -/
def State.takeReport (s : State) (h : Hdr) (nonce : BitVec 384) (top : Nat) : Rule :=
  .held { s with sec := { s.sec with
            lowerLeaf := s.sec.lowerLeaf + 1
            reports := s.sec.reports ++ [{ hdr := h, nonce := nonce, top := top, lower := s.sec.lowerLeaf, epoch := s.clock.epoch }] } }
    5724

/-- The reports of a tick captured at its end, after its measurement updates (R473). -/
def State.captureReports (s : State) : State :=
  let t := { s with sec.reports := [] }
  s.sec.reports.foldl (fun t r => t.reply r.hdr 0x0D0B stOk 0 0 0 (s.signReport r)) t

/-- ATTEST_REPORT_GET (R471, R475): after lower leaf 32,767 the next report burns another top leaf and is refused with BUSY
while its tree is generated; a burn in service passes its verification or not, a free value (log 2). -/
def cmdAttestReportGet (nonce : BitVec 384) : Cmd :=
  (Cmd.get 0x0D0B nonce fun h s =>
    if s.sec.exhausted then .full
    else if 32768 ≤ s.sec.lowerLeaf then
      let t := s.draw.burnLeaf (s.rand 2 == 1)
      .done t (if t.sec.exhausted then stNoSpace else stBusy) 0 0 []
    else
      match s.sec.topLeaf with
      | some top => .need s.sec.treeReady .busy <| s.takeReport h nonce top
      | none => .busy).upTo 5724

/-! ## ARM_PATCH_LOAD (R386, R466) -/

def patchSizeOk (b : PatchBody) : Bool := decide (b.words.length ≤ 2048) && decide (b.traps.length ≤ 64)

def cmdArmPatchLoad (image : List Byte) : Cmd :=
  .set 0x0D40 image fun _ s =>
    let hd := imageOf image
    let body := Config.patchBody hd.body
    let v := s.verify 2 hd
    .need (patchSizeOk body) (.refuse stBadLength 0 0 0) <|
    .need (v.code == 0) v.refuse <|
    .need (body.baseVersion == s.arm.baseVersion) (.refuse stStateConflict 0 (BitVec.ofNat 64 v.sigs) 0) <|
    .need s.arm.quiescing.isNone (.refuse stBusy 0 (BitVec.ofNat 64 v.sigs) 0) <|
    .need (decide (1 ≤ body.level) && decide (body.level ≤ 65535)) (.refuse stBadParam 0 (BitVec.ofNat 64 v.sigs) 0) <|
    match s.patchFault body with
    | some a => .refuse stBadParam 0 (BitVec.ofNat 64 v.sigs) (BitVec.ofNat 64 a)
    | none =>
      .val { s with arm.staged := some { level := body.level, svn := hd.svn, digest := hd.bodyDigest, words := body.words
                                         traps := body.traps, entries := body.entries } } body.level

end Sys2Proof.Machine
end

