-- ==== Sys2Proof/Machine/Startup.lean ====
section
/-! DEFINITION. From reset to CONFIGURE (R467, R482 to R487, spec/19_security.md and spec/20_startup.md), function-level
reset (R481), and the management pins (R500, R502, spec/21_electrical.md). -/

namespace Sys2Proof.Machine

/-! ## Leaving RESET (R482, R483) -/

/-- The supplies of comparators 8 to 12 read at or above their LOW_MV. -/
def State.railsOk (s : State) (railsMv : List Nat) : Bool :=
  decide (railsMv.length = 5) && (List.range 5).all fun i => decide (s.lowMv (8 + i) ≤ railsMv.getD i 0 * 100)

/-- The core leaves RESET: the epoch counter reads 0 after the first release and resumes from the tally after any other;
the straps are sampled (bits 5-0 DEVICE_ID, 6 RING_ROOT, 7 BOOT_SRC). -/
def State.release (s : State) (straps : BitVec 8) : State :=
  let c := s.clock
  { s with
    clock := { c with running := true, released := true, refOk := true
                      epoch := if c.released then c.tally else 0
                      tick := if c.released then c.tallyClock / 2 else 0
                      k := if c.released then c.tallyClock % 2 else 0 }
    cmd.dev := .boot
    sec := { s.sec with step := .released, deviceId := fld straps 5 0, ringRoot := bit straps 6, bootHost := bit straps 7 } }

/-- PERST# high: an instruction that drives pins is held and the port acts as BYPASS (R502). -/
def Security.dropPins (x : Security) : Security :=
  if 3 ≤ x.jtag then { x with perstHigh := true, jtagHeld := some x.jtag, jtag := 0 } else { x with perstHigh := true }

/-- PERST# is high; the release of a Dormant device is a wake (R459). -/
def State.perstRise (s : State) : State :=
  let t := { s with sec := s.sec.dropPins }
  if s.cmd.dev = .dormant ∧ ¬ s.sec.perstHigh then t.wake 18 else t

/-- CORE_RESET_RELEASE (R482): an earlier release of PERST# is held until the last condition holds. -/
def execCoreResetRelease (straps : BitVec 8) (railsMv : List Nat) (clockStable : Bool) (s : State) :
    Host.Outcome State Fault Refusal :=
  .next (let t := s.perstRise
    if t.cmd.dev == .reset && clockStable && t.railsOk railsMv then t.release straps else t)

/-- ARRAY_INIT_DONE (R484): every array holds zero data, every free list threads its cells. -/
def execArrayInitDone (s : State) : Host.Outcome State Fault Refusal :=
  .next (if s.cmd.dev = .boot ∧ ¬ s.sec.arrayInit then
      { s with sec.arrayInit := true, tables.scrubBase := s.now }
    else s)

/-! ## The boot ROM (R467, R469) -/

/-- Fuses that cannot be read or a failed self-test halt the boot ROM; no slot is tried then: both read result 9 (DESIGN CHOICE, log 75). -/
def State.haltRom (s : State) (fusesOk : Bool) : State :=
  { s with sec := { s.sec with step := .halted, halted := true, fusesRead := fusesOk
                               codeA := if fusesOk then s.sec.codeA else 9, codeB := if fusesOk then s.sec.codeB else 9 } }

/-- Fuses read, keys derived, THERMTRIP_PRIOR reported and THERMTRIP_SEEN cleared (R438); the voltage for P0 written
(R484); the ROM measured. -/
def State.romReads (s : State) (romHash : BitVec 384) : State :=
  let s := { s with
    sec := { s.sec with fusesRead := true, serialValid := true, pcieUp := true, thermtripPrior := s.faults.thermtripSeen
                        m0 := romHash }
    faults.thermtripSeen := false }
  s.avsStart (castOf 0 s.power.band) none

/-- The leaf burn of step 2 (R471): without a leaf, or with a failed burn, the device still boots. -/
def State.romLeaf (s : State) (burnOk : Bool) : State :=
  if burnOk ∧ s.sec.hssLeaf < 4096 then
    { s with sec := { s.sec with topLeaf := some s.sec.hssLeaf, hssLeaf := s.sec.hssLeaf + 1 } }
  else { s with sec.exhausted := true }

/-- What the boot ROM reads of a flash slot: `board` is what the board's flash holds there while the device has not written
the slot; an erased header, or nothing at all, is no image (log 96). -/
def State.slotImage (s : State) (slot : Nat) (board : List Byte) : Option ImageHdr :=
  match s.sec.slots.get .board slot with
  | .board => if board.isEmpty then none else some (imageOf board)
  | .erased => none
  | .image l => some (imageOf l)

/-- The code and signatures of a flash slot. -/
def State.slotVerdict (s : State) (slot : Option ImageHdr) : ImageCheck :=
  match slot with
  | none => { code := 1, status := stBadLength, sigs := 0 }
  | some h => s.verify 1 h

/-- The slot to start: the valid one with the higher IMAGE_SEQ, A where they are equal. -/
def pickSlot (a b : Option ImageHdr) (va vb : ImageCheck) : Option (ImageHdr × Bool) :=
  match (if va.code = 0 then a else none), (if vb.code = 0 then b else none) with
  | some x, some y => if x.imageSeq < y.imageSeq then some (y, true) else some (x, false)
  | some x, none => some (x, false)
  | none, some y => some (y, true)
  | none, none => none

/-- Step 3 with BOOT_SRC = FLASH. -/
def State.romFlash (s : State) (boardA boardB : List Byte) : State :=
  let a := s.slotImage 0 boardA
  let b := s.slotImage 1 boardB
  let va := s.slotVerdict a
  let vb := s.slotVerdict b
  let x := { s.sec with codeA := va.code, codeB := vb.code, sigA := va.sigs, sigB := vb.sigs
                        rejected := (if va.code = 0 then [] else [0]) ++ (if vb.code = 0 then [] else [1]) }
  match pickSlot a b va vb with
  | some (h, slotB) => { s with sec := { x with chosen := some h, source := 1, slotB := slotB, step := .firmware } }
  | none => { s with sec := { x with step := .waitPush } }

/-- BOOT_ROM_START (R467): what the ROM finds of itself, of the fuses and in the board's flash stands in the operands. -/
def execBootRomStart (romOk fusesOk leafBurnOk : Bool) (romHash : BitVec 384) (slotA slotB : List Byte) (s : State) :
    Host.Outcome State Fault Refusal :=
  .next (if s.cmd.dev ≠ .boot ∨ s.sec.step ≠ .released then s
    else if !romOk || !fusesOk then s.haltRom fusesOk
    else
      let s := (s.romReads romHash).romLeaf leafBurnOk
      if s.sec.bootHost then { s with sec.step := .waitPush } else s.romFlash slotA slotB)

/-! ## Firmware (R467, R484) -/

/-- The base entry table (R374). -/
def loadEntries (l : List Nat) : Arr Nat := (List.range l.length).foldl (fun a i => a.set 0 i ((l[i]?).getD 0)) []

/-- Base microcode loaded, contexts 4 to 15 loaded with the keys derived at BOOT (R97, R374, R464). -/
def State.loadFirmware (s : State) (h : ImageHdr) : State :=
  let f := Config.firmwareBody h.body
  let s := { s with
    sec := { s.sec with step := .ready, running := some h, m1 := h.bodyDigest, m2 := Config.sha384 f.micro, m3 := 0 }
    arm := { s.arm with baseVersion := f.baseVersion % 2 ^ 16, baseSvn := h.svn, store := loadWords f.microwords
                        entry := loadEntries f.entryTable, baseEntry := loadEntries f.entryTable } }
  s.loadBootKeys

/-- What firmware raises once it runs: slots rejected, the state of the HSS tree, THERMTRIP_PRIOR (R438, R467, R471). -/
def State.firmwareEvents (s : State) : State :=
  let s := s.sec.rejected.foldl (fun s n => s.note srcBootSlotRejected n 0) s
  let s := { s with sec.rejected := [] }
  let s := if s.sec.exhausted then (if s.sec.hssLeaf < 4096 then s.note srcHssFuseError 0 0 else s.note srcAttestExhausted 0 0)
    else s
  let s := s.leafLow
  if s.sec.thermtripPrior then s.note srcThermtripPrior 0 0 else s

/-- FIRMWARE_START (R467 step 4). -/
def execFirmwareStart (s : State) : Host.Outcome State Fault Refusal :=
  .next (match s.sec.chosen with
    | some h =>
      if s.cmd.dev = .boot ∧ s.sec.step = .firmware ∧ s.sec.arrayInit then (s.loadFirmware h).firmwareEvents else s
    | none => s)

/-- The 288 entries of the firmware image's program, each in use (R105, R108): its words past the 288th are of no slot. -/
def parseImage (program : List (BitVec 128)) : List (BitVec 128) :=
  (List.range 288).map fun i => setFld (setFld (program.getD i 0) 0 0 0) 56 56 1

/-- The default parse program in slots 0 to 287, no entry in slots 288 to 511 (R108). -/
def State.loadParse (s : State) (program : List (BitVec 128)) : State :=
  let image := parseImage program
  (List.range 512).foldl (fun s i =>
    s.putObjAt (objKey kindParse i)
      (match image[i]? with
       | some w => { valid := true, id := 0, stamp := Stamp.init, val := .parse w }
       | none => ObjSlot.init)) { s with rules.program := image }

/-- JOIN to both ring neighbours, or the root's enumeration (R408, R484). -/
def State.joinRing (s : State) : State :=
  if s.isRoot then s.enumerate
  else
    let f : RingFrame := { dest := 0xFF, src := s.sec.deviceId, type := 7, hops := 128, segment := 0, last := true, payload := [] }
    (s.ringOut false f).ringOut true f

/-- The default parse program of the running firmware's image (R105, R108). -/
def State.imageProgram (s : State) : List (BitVec 128) :=
  match s.sec.running with | some h => (Config.firmwareBody h.body).program | none => []

/-- FIRMWARE_INIT_DONE (R484 step 6). -/
def execFirmwareInitDone (seedHigh seedLow : BitVec 64) (s : State) : Host.Outcome State Fault Refusal :=
  .next (if s.cmd.dev = .boot ∧ s.sec.step = .ready ∧ ¬ s.sec.fwInit then
      ({ s.loadParse s.imageProgram with sec.fwInit := true, tables.lpmSeed := seedHigh ++ seedLow }).joinRing
    else s)

/-! ## Ring indexes (R339, R485, R511) -/

/-- A ring disabled: its session and locks are lost, a command of it that has not started is dropped, replies of those
taken are discarded (R183, R339, R350). -/
def State.disableRing (s : State) (rid : Nat) : State :=
  let s := s.modHring rid fun r => { r with en := false, signalDue := false, kept := none }
  if rid < 16 then
    let s := { s with cmd.sessions := s.cmd.sessions.filter fun x => x.sender != rid }
    let s := s.modTakenAt rid fun t => t.bind fun c => if c.started then some { c with dead := true } else none
    s.loseOwner none (some rid)
  else s

/-- A doorbell value acted on: one of the ring's size or more disables the ring and raises RING_ERROR (R339). -/
def State.doorbell (s : State) (rid value : Nat) : State :=
  let r := s.hring rid
  if !r.en then s
  else if r.size ≤ value then
    ((s.disableRing rid).modHring rid fun r => { r with err := true }).note srcRingError rid 0
  else s.putHring rid { r with hostIndex := value }

/-- Doorbells kept in BOOT are acted on at the entry of CONFIGURE (R485). -/
def State.keptDoorbells (s : State) : State :=
  s.cmd.rings.foldl (fun s (e : Nat × Ring) =>
    match e.2.kept with
    | some v => (s.modHring e.1 fun r => { r with kept := none }).doorbell e.1 v
    | none => s) s

/-- CONFIGURE_ENTRY (R484 step 7): at the first boundary after calibration and firmware initialisation; a wake is reported
with its causes (R459). -/
def State.enterConfigure (s : State) : State :=
  if s.cmd.dev = .boot ∧ s.sec.fwInit ∧ s.lp.calibrated.length = 8 then
    let s := { s with cmd.dev := .configure }
    let s := if s.power.waking then
        ({ s with power := { s.power with waking := false } }).note srcDormantWake 0 (s.power.wakeCauses.setWidth 64)
      else s
    s.keptDoorbells
  else s

/-! ## Function-level reset (R481) -/

/-- The rings of a function. -/
def State.funcRings (s : State) (func : Nat) : List Nat := (List.range 228).filter fun r => (s.hring r).func == func

/-- A function's rings, sessions, locks and latched half are lost (R183, R350, R506). -/
def State.resetFunction (s : State) (func : Nat) : State :=
  let s := (s.funcRings func).foldl (fun s r => (s.disableRing r).putHring r (Ring.init r)) s
  (s.loseOwner (some func) none).putLatch func none

/-- PCIE_FUNCTION_RESET: that function's rings, sessions and locks; the link's fall is that of every function (R183, R350). -/
def execPcieFunctionReset (func : Nat) (linkDown : Bool) (s : State) : Host.Outcome State Fault Refusal :=
  onUnit (decide (func < 8)) func
    (let s := if linkDown then (List.range 8).foldl (fun s f => s.resetFunction f) s else s.resetFunction func
     { s with sec.pcieUp := !linkDown && s.sec.fusesRead })

/-! ## Management interfaces (R500, R502) -/

/-- DeviceId (R507). -/
def State.deviceIdReg (s : State) : BitVec 64 :=
  BitVec.ofNat 64 (0x0205 * 2 ^ 48 + 0xB1 * 2 ^ 40 + s.sec.deviceId * 2 ^ 32 + b2n s.sec.ringRoot * 2 ^ 31
    + b2n s.sec.bootHost * 2 ^ 30)

/-- FirmwareVersion (R507). -/
def State.firmwareReg (s : State) : BitVec 64 :=
  match s.sec.running with
  | some h => BitVec.ofNat 64 (h.version.toNat * 2 ^ 32 + h.svn * 2 ^ 24 + 0x32 * 2 ^ 16)
  | none => BitVec.ofNat 64 (0x32 * 2 ^ 16)

/-- Bytes of a block read; none is answered in RESET or DORMANT but for code 3. -/
def State.smbusBytes (s : State) (code : Nat) : List Byte :=
  if code = 3 then beBytes 1 s.clock.last.tj
  else if s.cmd.dev = .reset ∨ s.cmd.dev = .dormant then []
  else
    match code with
    | 0 => beBytes 8 s.deviceIdReg.toNat ++ beBytes 8 (if s.sec.serialValid then Config.deviceSerial.toNat else 0)
        ++ beBytes 8 s.firmwareReg.toNat
    | 1 => beBytes 8 s.sec.bootStatus.toNat
    | 2 => beBytes 8 s.powerStatus.toNat
    | _ => []

/-- SMB_ALERT_N is low: TC0 or TC1 is tripped (R500). -/
def State.smbAlertLow (s : State) : Bool := (s.cmp 4).tripped || (s.cmp 5).tripped

/-- SMBUS_BLOCK_READ: a code that is not answered is NACKed, no bytes. -/
def execSmbusBlockRead (code : Nat) (s : State) : Host.Outcome State Fault Refusal :=
  .next ({ s with cmd.out.smbus := s.smbusBytes code :: s.cmd.out.smbus }).draw

/-- Instructions served in every state: 0 BYPASS, 1 IDCODE, 2 SAMPLE/PRELOAD; those from 3 on drive pins (log 22). -/
def execJtagInstruction (instr : Nat) (s : State) : Host.Outcome State Fault Refusal :=
  .next (if instr < 3 ∨ ¬ s.sec.perstHigh then { s with sec.jtag := instr, sec.jtagHeld := none }
    else { s with sec.jtag := 0, sec.jtagHeld := some instr })

end Sys2Proof.Machine
end

