-- ==== Sys2Proof/Machine/Registers.lean ====
section
/-! DEFINITION. Host accesses to BAR0 (R6 to R8, spec/00_scope.md; R339, spec/14_commands.md; R505 to R517,
spec/22_registers.md). An access takes effect in the clock of its command (log 31). -/

namespace Sys2Proof.Machine

/-! ## Violations (R8, R517) -/

/-- Violation `e` comes before `x` of the same clock: ascending function, then offset (R517). -/
def Violation.before (e x : Violation) : Bool :=
  x.stamp == e.stamp && (decide (e.func < x.func) || (e.func == x.func && decide (e.offset < x.offset)))

/-- An entry placed at position `pos` of the violation log, before the later ones of its clock (R517). -/
def placeViolation (fuel pos : Nat) (e : Violation) (log : Arr (Option Violation)) : Arr (Option Violation) :=
  match fuel with
  | 0 => log.set none (pos % 64) (some e)
  | fuel + 1 =>
    match (if pos = 0 then none else log.get none ((pos - 1) % 64)) with
    | none => log.set none (pos % 64) (some e)
    | some x =>
      if e.before x then placeViolation fuel (pos - 1) e (log.set none (pos % 64) (some x)) else log.set none (pos % 64) (some e)

/-- An entry of the violation log, with CSR_VIOLATION. -/
def State.violate (s : State) (kind func width offset : Nat) (write : Bool) : State :=
  let e : Violation := { kind := kind, write := write, func := func, width := width, offset := offset, stamp := s.cycleStamp }
  let s := { s with cmd.violations := placeViolation 63 s.cmd.violCount e s.cmd.violations
                    cmd.violCount := (s.cmd.violCount + 1) % 2 ^ 32 }
  let s := if write then s else { s with cmd.out.reads := none :: s.cmd.out.reads }
  s.raise srcCsrViolation offset 0

/-- An access of a function: it discards the function's latch (R506), and it shows that the PCIe link is up (log 87). -/
def State.accessBy (s : State) (func : Nat) : State := { s.putLatch func none with sec.pcieUp := s.sec.fusesRead }

/-- BAR0_VIOLATION (R8). -/
def execBar0Violation (kind func width offset : Nat) (write : Bool) (s : State) : Host.Outcome State Fault Refusal :=
  onUnit (decide (func < 8)) func
    (if s.clock.running && decide (1 ≤ kind) && decide (kind ≤ 7) then
       (s.accessBy func).violate kind func width (offset % 2 ^ 26) write
     else s)

/-! ## Rings (R339, R509 to R511) -/

def ringOffset (rid : Nat) : Nat := 0x10000 + 32 * rid
def doorbellOffset (rid : Nat) : Nat := 0x20000 + 8 * rid

/-- A function that may reach a ring: 0 and the owner. -/
def State.reaches (s : State) (func rid : Nat) : Bool := func == 0 || func == (s.hring rid).func

/-- A ring whose entries are read in BOOT: those of ring 0 (R468, R485). -/
def servedInBoot (rid : Nat) : Bool := rid == 0 || rid == 16

/-- A doorbell write that has reached its ring. -/
def State.ringDoorbell (s : State) (rid value : Nat) : State :=
  if s.cmd.dev = .boot ∧ ¬ servedInBoot rid then s.modHring rid fun r => { r with kept := some value }
  else s.doorbell rid value

/-- RING_DOORBELL_WRITE (R339, R511). -/
def execRingDoorbellWrite (func rid value : Nat) (s : State) : Host.Outcome State Fault Refusal :=
  onUnit (decide (rid < 228) && decide (func < 8)) rid
    (if !s.clock.running then s
     else if s.reaches func rid then (s.accessBy func).ringDoorbell rid (value % 65536)
     else (s.accessBy func).violate 4 func 4 (doorbellOffset rid) true)

/-- The ring signals a vector: not a command submit or a packet transmit ring (R342). -/
def signals (rid : Nat) : Bool := !(decide (rid < 16) || (decide (96 ≤ rid) && decide (rid < 160)))

/-- SIZE_EXP as stored (R510). -/
def clampSize (n : Nat) : Nat := max 6 (min 16 n)

/-- The RW fields of a RingControl value stored. -/
def Ring.store (r : Ring) (rid : Nat) (v : BitVec 64) : Ring :=
  { r with func := fld v 61 59, sizeExp := clampSize (fld v 58 54), vector := if signals rid then fld v 53 46 else 0
           minGap := fld v 45 36 }

/-- A RingControl value stored: setting EN zeroes the indexes and ERR, clearing it disables the ring. -/
def State.storeControl (s : State) (rid : Nat) (v : BitVec 64) : State :=
  let r := (s.hring rid).store rid v
  if bit v 63 then
    if r.en then s.putHring rid r else s.putHring rid { r with en := true, err := false, devIndex := 0, hostIndex := 0 }
  else if r.en then (s.disableRing rid).modHring rid fun x => x.store rid v
  else s.putHring rid r

/-- The RingControl write changes what an enabled ring must keep. -/
def State.controlLocked (s : State) (rid : Nat) (v : BitVec 64) : Bool :=
  let r := s.hring rid
  r.en && bit v 63 && (fld v 61 59 != r.func || clampSize (fld v 58 54) != r.sizeExp)

/-- A RingControl write under R511. -/
def State.ringControl (s : State) (func rid : Nat) (v : BitVec 64) (width : Nat) : State :=
  let s := s.accessBy func
  if !s.reaches func rid || (func != 0 && fld v 61 59 != (s.hring rid).func) then
    s.violate 4 func width (ringOffset rid + 8) true
  else if s.controlLocked rid v then s.violate 5 func width (ringOffset rid + 8) true
  else s.storeControl rid v

/-- RING_CONTROL_WRITE (R511). -/
def execRingControlWrite (func rid : Nat) (value : BitVec 64) (s : State) : Host.Outcome State Fault Refusal :=
  onUnit (decide (rid < 228) && decide (func < 8)) rid (if s.clock.running then s.ringControl func rid value 8 else s)

/-- RingControl as it reads (R510). -/
def Ring.word (r : Ring) : BitVec 64 :=
  BitVec.ofNat 64 (b2n r.en * 2 ^ 63 + b2n r.err * 2 ^ 62 + r.func * 2 ^ 59 + r.sizeExp * 2 ^ 54 + r.vector * 2 ^ 46
    + r.minGap * 2 ^ 36 + r.devIndex * 2 ^ 16 + r.hostIndex)

/-! ## Locks and the Turnstile (R167, R185, R515) -/

/-- TABLE_LOCK_RELEASE_WRITE (R185): releases take effect at a tick boundary. -/
def State.releaseLocks (s : State) (func : Nat) (mask : BitVec 16) : State :=
  let named := (List.range 16).filter fun n => bit mask n
  if named.all fun n => (s.lock n).valid && (s.lock n).func == func then
    named.foldl (fun s n => s.modLock n fun l => if l.ending = 0 then { l with ending := 1 } else l) s
  else s.violate 6 func 4 0x50100 true

def execTableLockReleaseWrite (func : Nat) (mask : BitVec 16) (s : State) : Host.Outcome State Fault Refusal :=
  onUnit (decide (func < 8)) func (if s.clock.running then (s.accessBy func).releaseLocks func mask else s)

/-- TurnstileTickets as stored: STARVE_LIMIT below 16 as 16, reserved bits zero. -/
def ticketsClean (v : BitVec 64) : BitVec 64 := setFld (setFld v 63 44 0) 43 32 (max 16 (fld v 43 32))

/-- TURNSTILE_TICKETS_WRITE (R167). -/
def execTurnstileTicketsWrite (value : BitVec 64) (s : State) : Host.Outcome State Fault Refusal :=
  .next (if s.clock.running then { s with tables.tickets := ticketsClean value } else s)

/-- Classes starved in the present clock. -/
def State.starvedNow (s : State) : BitVec 8 :=
  BitVec.ofNat 8 (((List.range 8).filter fun k => s.tables.starvedAt.get 0 k == s.cycleStamp + 1).map fun k => 2 ^ k).sum

/-- TURNSTILE_STARVED_W1C (R167): a bit that hardware sets in the same clock stays set (R6). -/
def State.clearStarved (s : State) (mask : BitVec 8) : State :=
  { s with tables.starved := s.tables.starved &&& ~~~((mask &&& ~~~s.starvedNow).setWidth 64) }

def execTurnstileStarvedW1c (mask : BitVec 8) (s : State) : Host.Outcome State Fault Refusal :=
  .next (if s.clock.running then s.clearStarved mask else s)

/-! ## The address map (R505) -/

/-- What lies at a BAR0 offset: a register by the offset of its 8-byte slot. -/
inductive Reg where
  | ro | ringBase (rid : Nat) | ringControl (rid : Nat) | ringWriteBack (rid : Nat) | doorbell (rid : Nat)
  | evStatus (g : Nat) | evEnable (g : Nat) | evRoute (g : Nat) | snapControl | lockRelease | tickets | starved
  | perfFreeze | firstStatus | msix (word : Nat)
deriving DecidableEq, Repr

/-- A slot of one of a block's regular rows. -/
def inRow (o base n : Nat) : Bool := decide (base ≤ o) && decide (o < base + 8 * n)

/-- The read-only registers (R507, R508, R513 to R517). -/
def isRo (o : Nat) : Bool :=
  inRow o 0x0 4 || inRow o 0x80 16 || inRow o 0x1000 3 || inRow o 0x40008 2 || inRow o 0x40020 16 || inRow o 0x50000 32
    || inRow o 0x60008 2 || inRow o 0x60020 2 || inRow o 0x61000 128 || inRow o 0x71000 4 || inRow o 0x80000 16384
    || inRow o 0x1010000 16
    || (decide (0x1000000 ≤ o) && decide (o < 0x1010000)
        && (let w := o % 0x1000
            decide (w < 0x48) || (decide (0x100 ≤ w) && decide (w < 0x300) && decide (w % 0x40 < 0x28))))

/-- The register of an 8-byte slot; none for a reserved address, as which an offset inside a block of R505 that holds no register
counts too (DESIGN CHOICE, log 100). -/
def regAt (o : Nat) : Option Reg :=
  if inRow o 0x10000 912 then
    let rid := (o - 0x10000) / 32
    match (o - 0x10000) % 32 with
    | 0 => some (.ringBase rid) | 8 => some (.ringControl rid) | 16 => some (.ringWriteBack rid) | _ => none
  else if inRow o 0x20000 228 then some (.doorbell ((o - 0x20000) / 8))
  else if inRow o 0x30000 32 then some (.evStatus ((o - 0x30000) / 8))
  else if inRow o 0x30100 32 then some (.evEnable ((o - 0x30100) / 8))
  else if inRow o 0x30200 32 then some (.evRoute ((o - 0x30200) / 8))
  else if o = 0x40000 then some .snapControl
  else if o = 0x50100 then some .lockRelease
  else if o = 0x50200 then some .tickets
  else if o = 0x50208 then some .starved
  else if o = 0x60000 then some .firstStatus
  else if o = 0x1010100 then some .perfFreeze
  else if inRow o 0x70000 512 then some (.msix ((o - 0x70000) / 8))
  else if isRo o then some .ro
  else none

/-- Blocks served in BOOT (R506). -/
def bootBlock (o : Nat) : Bool :=
  decide (o < 0x2000) || (decide (0x10000 ≤ o) && decide (o < 0x30000)) || (decide (0x70000 ≤ o) && decide (o < 0x72000))

/-- The offset lies in the counter window of a fenced slice (R506). -/
def State.fencedWindow (s : State) (o : Nat) : Bool :=
  decide (0x1000000 ≤ o) && decide (o < 0x1010000) && !s.sliceLive ((o - 0x1000000) / 0x1000)

/-- KIND of the violation of an access (R8, R506, R517); none for one that is served. One that breaks several conditions has the
first of 3, 7, 1 and 2 that holds (DESIGN CHOICE, log 100). -/
def State.badAccess (s : State) (offset width : Nat) : Option Nat :=
  if (width ≠ 4 ∧ width ≠ 8) ∨ offset % width ≠ 0 then some 3
  else if s.cmd.dev = .boot ∧ ¬ bootBlock offset then some 7
  else if (regAt (offset - offset % 8)).isNone then some 1
  else if s.fencedWindow offset then some 2
  else none

/-- A write of `width` bytes into a 64-bit register that reads `old` (R506). -/
def mergeWrite (old value : BitVec 64) (offset width : Nat) : BitVec 64 :=
  if width = 8 then value
  else if offset % 8 = 0 then setFld old 31 0 (fld value 31 0)
  else setFld old 63 32 (fld value 31 0)

/-- RingBase and RingWriteBack: the owner's, and not while the ring is enabled (R511). -/
def State.ringAddr (s : State) (func rid offset width : Nat) (f : Ring → Ring) : State :=
  if !s.reaches func rid then s.violate 4 func width offset true
  else if (s.hring rid).en then s.violate 5 func width offset true
  else s.modHring rid f

/-- A 32-bit register takes the low half of its slot; a write of the high half alone stores nothing (R506). -/
def lowHalf (offset : Nat) (s t : State) : State := if offset % 8 = 0 then t else s

/-- A vector that was pending is sent once it is no longer masked (PRESUMED: PCI Express, log 97). -/
def State.unmasked (s : State) (v : Nat) : State :=
  if bit s.cmd.msixPending v && !s.msixMasked v then
    { s with cmd.msixPending := s.cmd.msixPending &&& ~~~(BitVec.ofNat 256 (1 <<< v)) }.sendMsix v
  else s

/-- The write stored in its register. -/
def State.storeReg (s : State) (func offset width : Nat) (v : BitVec 64) (r : Reg) : State :=
  match r with
  | .ro => s
  | .ringBase rid =>
    s.ringAddr func rid offset width fun x => { x with base := setFld (mergeWrite x.base v offset width) 11 0 0 }
  | .ringWriteBack rid =>
    s.ringAddr func rid offset width fun x => { x with writeBack := setFld (mergeWrite x.writeBack v offset width) 2 0 0 }
  | .ringControl rid => s.ringControl func rid (mergeWrite (s.hring rid).word v offset width) width
  | .doorbell rid =>
    if !s.reaches func rid then s.violate 4 func width offset true
    else lowHalf offset s (s.ringDoorbell rid (fld v 15 0))
  | .evStatus g => lowHalf offset s (s.clearStatus g (v.setWidth 32) (s.raisedNow g))
  | .evEnable g => lowHalf offset s (s.putEvEnable g (v.setWidth 32 &&& assigned g))
  | .evRoute g => lowHalf offset s (s.putEvRoute g (fld v 1 0))
  | .snapControl => lowHalf offset s (match execSnapTrigger (v.setWidth 32) s with | .next t => t | _ => s)
  | .lockRelease => lowHalf offset s (s.releaseLocks func (v.setWidth 16))
  | .tickets => { s with tables.tickets := ticketsClean (mergeWrite s.tables.tickets v offset width) }
  | .starved => lowHalf offset s (s.clearStarved (v.setWidth 8))
  | .perfFreeze => lowHalf offset s { s with tel.freeze := bit v 0 }
  | .firstStatus => if bit (mergeWrite 0 v offset width) 63 then s.clearFirst else s
  | .msix w => (s.putMsixWord w (mergeWrite (s.msixWord w) v offset width)).unmasked (w / 2)

/-- The registers of 64 bits that are RW (R510, R512, R515, R516). -/
def Reg.wide (r : Reg) : Bool :=
  match r with
  | .ringBase _ | .ringControl _ | .ringWriteBack _ | .tickets | .starved | .firstStatus | .msix _ => true
  | _ => false

/-- A write of `width` bytes covers the register's protection words and clears their poison; a 32-bit write to half of a 64-bit
register is a read-modify-write, after which the word keeps it (R433, R434, R506). -/
def clearsPoison (r : Reg) (width : Nat) : Bool := r != .ro && (width == 8 || !r.wide)

/-- REGISTER_WRITE (R506): a write to any register of BAR0. -/
def execRegisterWrite (func offset width : Nat) (value : BitVec 64) (s : State) : Host.Outcome State Fault Refusal :=
  onUnit (decide (func < 8)) func
    (if !s.clock.running then s
     else
       let s := s.accessBy func
       match s.badAccess offset width with
       | some k => s.violate k func width (offset % 2 ^ 26) true
       | none =>
         match regAt (offset - offset % 8) with
         | some r =>
           (List.range (width / 4)).foldl (fun s i => if clearsPoison r width then s.wordWritten (faultAddr 13 0 (offset + 4 * i)) else s)
             (s.storeReg func offset width value r)
         | none => s)

/-! ## Counters (R506, R513) -/

/-- The 64-bit counter at an offset. -/
def State.counterAt (s : State) (o : Nat) : Option Nat :=
  if o = 0x1010 then some s.power.energy
  else if inRow o 0x1010000 16 then some (s.perf (128 + (o - 0x1010000) / 8)).count
  else if 0x1000000 ≤ o ∧ o < 0x1010000 then
    let sl := (o - 0x1000000) / 0x1000
    let w := o % 0x1000
    if w = 0 then some (s.cycles sl / 1600)
    else if w < 0x48 then some (s.perf (sl * 8 + (w - 8) / 8)).count
    else if 0x100 ≤ w ∧ w < 0x300 ∧ w % 0x40 < 0x28 then
      some (s.ledger (((if w < 0x200 then 0 else 64) + sl * 4 + w % 0x100 / 0x40) * 8 + w % 0x40 / 8))
    else none
  else none

/-! ## Reads (R506 to R517) -/

/-- One of the 8-byte words of a run that starts at `base`. -/
def wordNo (o base : Nat) : Nat := (o - base) / 8

/-- SnapControl; TRIGGER reads 0 (R514). -/
def Snap.word (n : Snap) : Nat :=
  n.seq * 2 ^ 16 + b2n n.causePps * 2 ^ 9 + b2n n.causeWrite * 2 ^ 8 + n.ppsPin * 2 ^ 2 + b2n n.ppsEn * 2

/-- SnapTimeHi[d] and SnapTimeLo[d]: the time captured, in units of 2^-16 ns (R514). -/
def Snap.timeWord (n : Snap) (i : Nat) : Nat :=
  let t := (n.times[i / 2]?).getD 0
  let second := 10 ^ 9 * 2 ^ 16
  if i % 2 = 0 then t / second % 2 ^ 48 else t % second / 2 ^ 16 * 2 ^ 32 + t % 2 ^ 16 * 2 ^ 16

/-- The two words of a violation log entry (R517). -/
def Violation.word (x : Violation) (i : Nat) : Nat :=
  if i = 0 then x.kind * 2 ^ 60 + b2n x.write * 2 ^ 59 + x.func % 8 * 2 ^ 56 + x.width % 16 * 2 ^ 52 + x.offset % 2 ^ 26
  else x.stamp

/-- A read-only register by its offset (R507, R508, R513 to R517). -/
def State.roWord (s : State) (o : Nat) : Nat :=
  match s.counterAt o with
  | some v => v
  | none =>
    if o = 0x0 then s.deviceIdReg.toNat
    else if o = 0x8 then (if s.sec.serialValid then Config.deviceSerial.toNat else 0)
    else if o = 0x10 then s.firmwareReg.toNat
    else if o = 0x18 then s.armatureVersion.toNat
    else if inRow o 0x80 16 then Config.sliceFmax (wordNo o 0x80) % 2 ^ 16
    else if o = 0x1000 then s.sec.bootStatus.toNat
    else if o = 0x1008 then s.powerStatus.toNat
    else if o = 0x40008 then s.time.snap.epoch
    else if o = 0x40010 then s.time.snap.tick * 2 + s.time.snap.clock
    else if inRow o 0x40020 16 then s.time.snap.timeWord (wordNo o 0x40020)
    else if inRow o 0x50000 32 then
      let l := s.lock (wordNo o 0x50000 / 2)
      if wordNo o 0x50000 % 2 = 0 then l.word.toNat else if l.valid then l.leaseEnd else 0
    else if o = 0x60008 then s.faults.first.stamp
    else if o = 0x60010 then s.faults.first.detail.toNat
    else if o = 0x60020 then s.faults.nextSeq
    else if o = 0x60028 then s.cmd.violCount
    else if inRow o 0x61000 128 then
      match s.violation (wordNo o 0x61000 / 2) with | some x => x.word (wordNo o 0x61000 % 2) | none => 0
    else if inRow o 0x71000 4 then (s.cmd.msixPending >>> (64 * wordNo o 0x71000)).toNat
    else if inRow o 0x80000 16384 then
      match s.logAt (wordNo o 0x80000 / 4) with
      | some e => (e.words[wordNo o 0x80000 % 4]?).getD 0
      | none => 0
    else 0

/-- What a register reads: WO fields read as zero (R6), a 32-bit register zero above (R506). -/
def State.regWord (s : State) (o : Nat) (r : Reg) : BitVec 64 :=
  match r with
  | .ro => BitVec.ofNat 64 (s.roWord o)
  | .ringBase rid => (s.hring rid).base
  | .ringControl rid => (s.hring rid).word
  | .ringWriteBack rid => (s.hring rid).writeBack
  | .doorbell _ => 0
  | .evStatus g => (s.evStatus g).setWidth 64
  | .evEnable g => (s.evEnable g).setWidth 64
  | .evRoute g => BitVec.ofNat 64 (s.evRoute g)
  | .snapControl => BitVec.ofNat 64 s.time.snap.word
  | .lockRelease => 0
  | .tickets => s.tables.tickets
  | .starved => s.tables.starved
  | .perfFreeze => BitVec.ofNat 64 (b2n s.tel.freeze)
  | .firstStatus => s.faults.first.status
  | .msix w => s.msixWord w

/-- The ring whose registers or doorbell lie there. -/
def Reg.ring (r : Reg) : Option Nat :=
  match r with
  | .ringBase rid => some rid
  | .ringControl rid => some rid
  | .ringWriteBack rid => some rid
  | .doorbell rid => some rid
  | _ => none

/-- Fault address of the word at a BAR0 offset: the fault log's own in its window (R436, R516). -/
def barAddr (o : Nat) : BitVec 64 :=
  if 0x80000 ≤ o ∧ o < 0xA0000 then logWordAddr ((o - 0x80000) / 8) else faultAddr 13 0 o

/-- A read completed with `v`; one of a poisoned word completes with EP set, and its offset is written to the fault log
(R435; the entry's source is the array's, log 31). -/
def State.readDone (s : State) (offset width : Nat) (v : Nat) : State :=
  let s := { s with cmd.out.reads := some (BitVec.ofNat 64 v) :: s.cmd.out.reads }
  match ((List.range (width / 4)).map fun i => offset + 4 * i).find? fun o => s.poisonAt (barAddr o) with
  | some o =>
    let src := srcEccUe 13
    (State.consumed { s with cmd.out.epReads := offset :: s.cmd.out.epReads } (barAddr o)).record
      (logEntry s src (srcSeverity src) o false false 0 (faultAddr 13 0 o))
  | none => s

/-- Width of a read in bytes. -/
def barWidth (r : BarRead) : Nat := if r.wide then 8 else 4

/-- The 32 bits that a read of `offset` returns: the low half, or the high half, which is the function's latched one where it
has just read the low half of that counter (R506). -/
def readHalf (v : Nat) (old : Option Latch) (offset : Nat) : Nat :=
  if offset % 8 = 0 then v % 2 ^ 32
  else match old with
    | some l => if l.offset + 4 = offset then l.high else v / 2 ^ 32 % 2 ^ 32
    | none => v / 2 ^ 32 % 2 ^ 32

/-- COUNTER_LOW_HALF_READ (R506): the low half of a counter is returned and its high half latched for the function. The same
command stands for a read of any other register half and for a 64-bit read, which have no row of their own (log 31). -/
def execCounterLowHalfRead (func : Nat) (r : BarRead) (s : State) : Host.Outcome State Fault Refusal :=
  let offset := r.offset
  onUnit (decide (func < 8)) func
    (if !s.clock.running then s
     else
       let old := s.latch func
       let s := s.accessBy func
       match s.badAccess offset (barWidth r) with
       | some k => s.violate k func (barWidth r) (offset % 2 ^ 26) false
       | none =>
         let o := offset - offset % 8
         match regAt o with
         | none => s
         | some x =>
           if (match x.ring with | some rid => !s.reaches func rid | none => false) then s.violate 4 func (barWidth r) offset false
           else
             let v := (s.regWord o x).toNat
             let t := s.readDone offset (barWidth r) (if r.wide then v else readHalf v old offset)
             if offset % 8 = 0 ∧ !r.wide ∧ (s.counterAt o).isSome then
               t.putLatch func (some { offset := offset, high := v / 2 ^ 32 % 2 ^ 32 })
             else t)

end Sys2Proof.Machine
end

