-- ==== Sys2Proof/Machine/Changes.lean ====
section
/-! DEFINITION. What a change does when it becomes visible at its epoch boundary (R19, R20, spec/01_architecture.md). -/

namespace Sys2Proof.Machine

/-- A rule version becomes current (R126, R129). -/
def State.applyVersion (s : State) (v : BitVec 16) : State :=
  { s with rules := { s.rules with older := s.rules.older ++ [s.rules.current], current := v
                                   coming := s.rules.coming.filter fun (e : BitVec 16 × Nat) => e.1 != v } }

/-- A multicast group set (R249). -/
def State.applyMcast (s : State) (group : Nat) (self : Bool) (members : List Nat) : State :=
  s.putMgroup group (some { self := self, lists := listsOf members })

/-- The device leaves ISOLATED only at reset (R430). -/
def State.leave (s t : State) : State := if s.cmd.dev = .isolated then s else t

/-- A change of R19 made visible. -/
def State.applyChange (s : State) (c : Change) : State :=
  match c with
  | .devState st => s.leave { s with cmd.dev := st }
  | .cpuMap q r => s.applyCpuMap q r
  | .portMode o rate mask => s.applyPortMode o rate mask
  | .portConfig p r f => s.applyPortConfig p r f
  | .portEnable p on => s.applyPortEnable p on
  | .narrow p => s.applyNarrow p
  | .tableCreate t r => s.applyTableCreate t r
  | .tableDelete t => s.applyTableDelete t
  | .emProfile p r => s.applyEmProfile p r
  | .lpmProfile p r => s.applyLpmProfile p r
  | .nextHop t => s.applyNextHop t
  | .upkeep t r f => s.applyUpkeep t r f
  | .version v => s.applyVersion v
  | .queueMode o q => s.applyQueueMode o q
  | .queueSched q r f => s.applyQueueSched q r f
  | .shaper p i r => s.applyShaper p i r
  | .portSched p r f => s.applyPortSched p r f
  | .tcMap p m => s.applyTcMap p m
  | .gateList p l => s.applyGateList p l
  | .gateClear p => s.applyGateClear p
  | .pools sz pu => s.applyPools sz pu
  | .queueAdmit q r f => s.applyAdmit q r f
  | .pg p pr a b c => s.applyPg p pr a b c
  | .elemStop e l => s.applyElemStop e l
  | .elemRestore e => s.applyElemRestore e
  | .mcastSet g self l => s.applyMcast g self l
  | .mcastDelete g => s.putMgroup g none
  | .cutThrough p en st => s.applyCutThrough p en st
  | .timePort p r f => s.applyTimePort p r f
  | .cipherPort p r f => s.applyCipherPort p r f
  | .scSet sc d rp w t => s.applyScSet sc d rp w t
  | .scDelete sc d => s.applyScDelete sc d
  | .saInstall p k => s.applySaInstall p k
  | .saDelete sc d an => s.applySaDelete sc d an
  | .saSelect sc an => s.applySaSelect sc an
  | .stream k r f fm => s.applyStream k r f fm
  | .report q r f => s.applyReport q r f
  | .ioam n td ns => s.applyIoam n td ns
  | .opHost op => s.applyHost op
  | .opPoint op cause => s.applyPoint op cause
  | .thermal => s.applyThermal
  | .dormant w => s.leave (s.applyDormant w)
  | .compat f => s.applyCompat f
  | .pipeRetire g => s.applyPipeRetire g
  | .pipeRestore g => s.applyPipeRestore g
  | .sliceFence n => s.applySliceFence n
  | .replicaFence k => s.applyReplicaFence k
  | .unitUnfence u => s.applyUnfence u
  | .bankDetach p b => s.applyBankDetach p b
  | .bankRestore p b => s.applyBankRestore p b
  | .spareStart st b back => s.applySpareStart st b back
  | .cipherFence e => s.fenceCipher e
  | .laneRestore l ok => s.restoreLane l ok
  | .spareSwitch st g b back => s.applySpareSwitch st g b back
  | .isolate => s.applyIsolate
  | .detach => s.applyDetach
  | .roleSwap => s.applyRoleSwap
  | .drain on => s.applyDrain on
  | .resyncEnd c n => s.applyResyncEnd c n

/-- Changes in order. -/
def State.applyAll (s : State) (l : List Change) : State := l.foldl State.applyChange s

end Sys2Proof.Machine
end

