-- ==== Sys2Proof/Machine/Serve.lean ====
section
/-! DEFINITION. The command unit: fetching a submit entry, the order of checks, acceptance and reply (R338 to R361,
spec/14_commands.md), and the twin's part in a mirrored command (R399 to R401, spec/16_twin_ring.md). -/

namespace Sys2Proof.Machine

/-! ## Taking a command (R341, R354, R401) -/

/-- The device reads commands from ring `r`: in BOOT only from ring 0 of function 0, and once the boot ROM runs (R468,
R485). -/
def State.readsRing (s : State) (r : Nat) : Bool :=
  match s.cmd.dev with
  | .reset | .dormant => false
  | .boot => r == 0 && (s.hring 0).func == 0 && s.sec.step != .held && s.sec.step != .released
  | _ => true

/-- A submit entry can be read: the ring is enabled, holds an entry that the host has given, and its completion ring has
room; no command of the ring is in progress (R338, R341). -/
def State.canFetch (s : State) (r f e : Nat) : Bool :=
  decide (r < 16) && s.clock.running && s.readsRing r && (s.hring r).en && (s.hring r).waiting != 0
    && (s.hring r).func == f && (s.hring r).devIndex == e && !(s.hring (16 + r)).full && (s.takenAt r).isNone

/-- The next submit entry of a ring is read. -/
def State.fetch (s : State) (h : Hdr) (op : Nat) : State :=
  match h.origin with
  | .host r f e =>
    if s.canFetch r f e then
      (s.putTakenAt r (some { hdr := h, opcode := op, started := false, dead := false })).advanceRing r
    else s
  | _ => s

/-- The command that the twin's next message carries: MIRROR and PREPARE are executed in the order of their TXN (R399). -/
def State.nextCarried (s : State) : Option (Origin × Nat × Option Nat) :=
  s.cmd.carried.find? fun (e : Origin × Nat × Option Nat) => match e.1 with | .colonnade _ => true | _ => false

/-- One carried entry gone. -/
def State.uncarry (s : State) (o : Origin) (op : Nat) : State :=
  { s with cmd.carried := s.cmd.carried.eraseP fun (e : Origin × Nat × Option Nat) => e.1 == o && e.2.1 == op }

/-- GROUP_ID as the LEAD has chosen it (R401). -/
def State.takeChosen (s : State) (op : Nat) (v : Option Nat) : State :=
  if op = 0x0E01 then match v with | some n => { s with groupNext := n } | none => s else s

/-- The command starts, where it is its turn: from a ring, after the reply to the one before it; from the twin or another
device, when the message that carries it has come. -/
def State.begin (s : State) (h : Hdr) (op : Nat) : Option State :=
  if !s.clock.running || s.cmd.dev == .reset || s.cmd.dev == .dormant then none
  else match h.origin with
  | .host r _ _ =>
    let t := s.fetch h op
    if (t.hring r).en && t.takenAt r == some { hdr := h, opcode := op, started := false, dead := false } then
      some (t.putTakenAt r (some { hdr := h, opcode := op, started := true, dead := false }))
    else none
  | .slait _ =>
    if !s.ring.excluded && s.cmd.carried.any (fun (e : Origin × Nat × Option Nat) => e.1 == h.origin && e.2.1 == op) then
      some (s.uncarry h.origin op)
    else none
  | .colonnade _ =>
    match s.nextCarried with
    | some e => if e.1 == h.origin && e.2.1 == op then some ((s.uncarry h.origin op).takeChosen op e.2.2) else none
    | none => none

/-! ## Steps 1 to 8 of R348 -/

/-- The command comes from the twin. -/
def Hdr_twinned (h : Hdr) : Bool := match h.origin with | .colonnade _ => true | _ => false

/-- Step 1: the version is the session's; HELLO may name any version of major 2 or 3 (R350). -/
def State.versionOk (s : State) (h : Hdr) (op : Nat) : Bool :=
  if Hdr_twinned h then true
  else if op = 0x0101 then h.verMajor == 2 || h.verMajor == 3
  else match s.session h with
    | some x => x.major == h.verMajor && x.minor == h.verMinor
    | none => false

/-- The opcodes of the device. -/
def opcodes : List Nat :=
  (List.range 10).map (0x0101 + ·) ++ (List.range 6).map (0x0201 + ·) ++ (List.range 11).map (0x0301 + ·)
    ++ (List.range 27).map (0x0401 + ·) ++ (List.range 15).map (0x0501 + ·) ++ (List.range 12).map (0x0601 + ·)
    ++ (List.range 7).map (0x0640 + ·) ++ (List.range 8).map (0x0660 + ·) ++ (List.range 12).map (0x0701 + ·)
    ++ (List.range 17).map (0x0801 + ·) ++ (List.range 7).map (0x0901 + ·) ++ (List.range 10).map (0x0A01 + ·)
    ++ (List.range 11).map (0x0B01 + ·) ++ [0x0B0F] ++ (List.range 11).map (0x0C01 + ·) ++ (List.range 11).map (0x0D01 + ·)
    ++ (List.range 8).map (0x0D40 + ·) ++ (List.range 4).map (0x0E01 + ·)

/-- Step 2: the opcode is defined in the session's version (R351). -/
def State.opcodeOk (s : State) (h : Hdr) (op : Nat) : Bool :=
  opcodes.contains op && (op / 256 != 0x0E || decide (0x300 ≤ s.agreed h))
    && (!(decide (0x0105 ≤ op) && decide (op ≤ 0x0108)) || decide (0x302 ≤ s.agreed h))

/-- Step 3: LENGTH fits the opcode, and on a host ring CMD_LEN, 32 to 131,072, and REPLY_LEN lies in its range (R340, R343; its
status DESIGN CHOICE, log 109). -/
def Hdr_lengthOk (h : Hdr) : Bool :=
  h.sizeOk && decide (h.len ≤ 131040)
    && (match h.origin with | .host .. => h.cmdLen == h.len + 32 && decide (h.replyLen ≤ 131072) | _ => true)

/-- Opcodes that may be a part of a group (R357). -/
def groupable : List Nat :=
  [0x0201, 0x0202, 0x0203, 0x0801, 0x0804, 0x0805, 0x0806, 0x0807, 0x0808, 0x0502, 0x0401, 0x0402, 0x040D, 0x040E, 0x040F,
   0x0419, 0x0640, 0x0642, 0x0644, 0x0660, 0x0661, 0x0663, 0x0665, 0x0666, 0x0708, 0x0601, 0x0602, 0x0604, 0x0606, 0x0607,
   0x0609, 0x060A, 0x0901, 0x0903, 0x0904, 0x0104, 0x0105, 0x0C04, 0x0C06, 0x0B08, 0x0B09, 0x0B0A, 0x0A03, 0x0A07, 0x0A09]

/-- TWIN is permitted for the commands of R400; TWIN_ROLE_SWAP is a twin commit by itself (R406). -/
def Cmd.twinFlagOk (c : Cmd) : Bool := c.mirror.isSome && c.op != 0x0C05

/-- Step 5: reserved bits zero, each flag permitted for the opcode and the version, GROUP_ID zero where unused (R343,
R351). -/
def State.flagsOk (s : State) (h : Hdr) (c : Cmd) : Bool :=
  h.reservedZero && (!h.twin || (decide (0x204 ≤ s.agreed h) && c.twinFlagOk))
    && (!h.group || (decide (0x300 ≤ s.agreed h) && groupable.contains c.op))
    && (h.groupId == 0 || h.group || c.op / 256 == 0x0E)

/-- Step 7: the opcode group is legal in the device state (R353, R468; halted: R467). -/
def State.legalIn (s : State) (op : Nat) (isRead : Bool) : Bool :=
  let g := op / 256
  match s.cmd.dev with
  | .reset | .dormant => false
  | .boot =>
    if s.sec.halted then g == 1 || op == 0x0D01
    else g == 1 || op == 0x0D01 || op == 0x0D02 || op == 0x0D03 || op == 0x0D09
  | .configure | .service | .drain => true
  | .resync =>
    if g = 1 ∨ g = 3 ∨ (7 ≤ g ∧ g ≤ 0x0C) then true else g != 0x0E && isRead
  | .isolated =>
    if g = 1 ∨ g = 3 ∨ g = 7 ∨ (9 ≤ g ∧ g ≤ 0x0B) ∨ g = 0x0D then true else g != 0x0E && isRead

/-- The state that the parts of a group would leave (R357). -/
def State.withParts (s : State) (l : List Part) : State := s.applyAll (l.flatMap fun p => p.changes)

/-- The group that a header names, where it is open and the session's own. -/
def State.ownGroup (s : State) (h : Hdr) : Option Group :=
  s.group.bind fun g => if g.id = h.groupId ∧ g.sender = hdrSender h then some g else none

/-- The state against which a command is checked: for a part of a group what its earlier parts would leave (R357). -/
def State.asPart (s : State) (h : Hdr) : State :=
  if h.group then (match s.ownGroup h with | some g => s.withParts g.parts | none => s) else s

/-- Steps 1 to 8 for a command of this device: the first refusal. A command that then reads bad data in a Belvedere memory cannot
be completed (R347, R431; log 112). -/
def State.precheck (s : State) (h : Hdr) (c : Cmd) : Option Rule :=
  if !s.versionOk h c.op then some (.refuse stBadVersion 0 0 0)
  else if !s.opcodeOk h c.op then some (.refuse stBadOpcode 0 0 0)
  else if !Hdr_lengthOk h || !c.lenOk then some (.refuse stBadLength 0 0 0)
  else if 63 < h.target then some (.access h.target)
  else if !s.flagsOk h c then some .param
  else if !(s.asPart h).legalIn c.op c.isRead then some .conflict
  else if c.fenced (s.asPart h) then some (.refuse stFenced 0 0 0)
  else if s.faults.dataBad then some (.refuse stInternal 0 0 0)
  else none

/-! ## Step 9 -/

/-- Statuses of the first three classes of step 9, and of lengths. -/
def earlyStatus (st : Nat) : Bool :=
  st == stAccessViolation || st == stBadParam || st == stAuthFailed || st == stRollbackRefused || st == stBadLength

/-- `later` where the command's own rules do not refuse it in an earlier class. -/
def Rule.before (r later : Rule) : Rule :=
  match r with
  | .refuse st .. => if earlyStatus st then r else later
  | _ => later

/-- A command of R400 is refused: by a FOLLOW from a host ring or the Slait ring (R399), by an attached LEAD without TWIN
(R400), while a role swap is pending (R406) and while a join freezes mirrored commands (R404). -/
def State.mirrorGate (s : State) (h : Hdr) (c : Cmd) : Option Rule :=
  if c.mirror.isNone || Hdr_twinned h || (c.op / 256 == 0x0E && !h.twin) then none
  else if s.twin.swapAt.isSome then some .busy
  else if c.op = 0x0C05 then none
  else if s.twin.role = .follow then some .conflict
  else if s.twin.role = .lead ∧ s.twin.attached ∧ ¬ h.twin then some .conflict
  else if s.twin.role = .lead ∧ s.twin.frozen then some .busy
  else none

/-- No group of that number, or one of another session (R357). -/
def State.noGroup (s : State) (h : Hdr) : Rule :=
  match s.group with
  | some g => if g.id = h.groupId then .conflict else .missing
  | none => .missing

/-- A part checked against the state that the earlier parts would leave (R357). -/
def State.partRule (s : State) (h : Hdr) (c : Cmd) : Rule :=
  match s.ownGroup h with
  | none => (c.rule h s).before (s.noGroup h)
  | some g =>
    if g.twin != h.twin then .param
    else
      let r := c.rule h (s.withParts g.parts)
      if g.commit.isSome then r.before .busy
      else match r with
        | .change objs _ l =>
          if g.parts.any fun p => p.objs.any objs.contains then .conflict
          else if 256 ≤ g.parts.length then .full
          else .change objs (match c.rule h s with | .change _ t _ => t | _ => s) l
        | .refuse .. => r
        | _ => .param

/-- Whether MAQUETTE_OPEN would open another version than the LEAD's (R401). -/
def State.otherS (s : State) (h : Hdr) (op : Nat) (v : Option Nat) : Bool :=
  Hdr_twinned h && op == 0x0501 && v != some (s.newestLive + 1).toNat

/-- The command's own rules: step 9. -/
def State.ruleOf (s : State) (h : Hdr) (c : Cmd) (v : Option Nat) : Rule :=
  let r := if h.group then s.partRule h c else c.rule h s
  let r := match s.mirrorGate h c with | some g => r.before g | none => r
  if s.otherS h c.op v then r.before .conflict else r

/-- Bytes of the longest result (step 10): an accepted gate list returns T_x. -/
def Rule.bytes (r : Rule) (c : Cmd) (group : Bool) : Nat :=
  match r with
  | .done _ st _ _ pl => if st ≤ stOkAdjusted then c.replyNeed pl.length else resultBytes c.op pl.length
  | .held _ n => n
  | .change _ _ _ => if c.op = 0x0609 ∧ ¬ group then resultBytes c.op 2 else 0
  | .refuse .. => 0

/-- Step 10: the reply buffer of a host command (R340). -/
def Rule.fits (r : Rule) (h : Hdr) (c : Cmd) : Rule :=
  match h.origin with
  | .host .. =>
    if h.replyLen < r.bytes c h.group then .refuse stBadLength dtReplyShort (BitVec.ofNat 64 (r.bytes c h.group)) 0 else r
  | _ => r

/-- What the checks of R348 make of a command on this device. -/
def State.verdict (s : State) (h : Hdr) (c : Cmd) (v : Option Nat) : Rule :=
  match s.precheck h c with
  | some r => r
  | none => (s.ruleOf h c v).fits h c

/-! ## Acceptance of a change (R19 to R21) -/

/-- A gate list gets its T_x when its epoch is set (R301): the change, whether BASE had passed, and T_x. -/
def State.fixChange (s : State) (e : Nat) (c : Change) : Change × Bool × List Nat :=
  match c with
  | .gateList p l =>
    let g := s.gateStart l.spec e
    (.gateList p { l with takeover := g.1 }, g.2, words 2 g.1)
  | _ => (c, false, [])

/-- What the acceptance of a change does at once: a rule version closes the Maquette, a role swap bars the commands of
R400 (R129, R406). -/
def State.onAccept (s : State) (e : Nat) (c : Change) : State :=
  match c with
  | .version v => s.closeMaquette v e
  | .roleSwap => { s with twin.swapAt := some e }
  | _ => s

/-- Changes accepted for the boundary of `e`: the state, whether a value was moved, and the values to reply. -/
def State.takeChanges (s : State) (e : Nat) (objs : List (Nat × Nat)) (l : List Change) : State × Bool × List Nat :=
  let f := l.map (s.fixChange e)
  let t := s.dueAll e objs (f.map fun x => x.1)
  (f.foldl (fun t x => t.onAccept e x.1) t, f.any fun x => x.2.1, f.flatMap fun x => x.2.2)

/-- The status of an acceptance: a moved takeover instant is an adjusted value too (R301, R347). -/
def acceptStatus (st : Nat) (moved : Bool) : Nat := if moved then stOkAdjusted else st

/-! ## The outcome -/

/-- What extends the configuration digest: every command but reads and groups 0x01 and 0x0D (R474). -/
def Cmd.extends (c : Cmd) : Option (List Byte) :=
  if c.isRead ∨ c.op / 256 = 0x01 ∨ c.op / 256 = 0x0D then none else some c.digest

/-- A failing part marks its group FAILED, and every part received counts (R357). -/
def State.notePart (s : State) (h : Hdr) (op status : Nat) : State :=
  if !h.group || !groupable.contains op then s
  else match s.ownGroup h with
  | none => s
  | some g =>
    if g.commit.isSome then s
    else { s with group := some { g with count := g.count + 1, lastEpoch := s.clock.epoch
                                         failed := if status ≤ stOkAdjusted ∨ g.failed.isSome then g.failed
                                                   else some (g.count, status) } }

/-- A part that passes is held in its group. -/
def State.addPart (s : State) (op : Nat) (objs : List (Nat × Nat)) (l : List Change) : State :=
  match s.group with
  | none => s
  | some g => { s with group := some { g with parts := g.parts ++ [{ opcode := op, objs := objs, changes := l }] } }

/-- The command as the LEAD sends it: with the slot that it has chosen, and a table's seeds (R401). -/
def resolve (m : Mirrored) (result : Nat) (l : List Change) : Mirrored :=
  match m, l with
  | .ruleAdd r, _ => .ruleAdd { r with slot := result }
  | .tableCreate _ _, .tableCreate t r :: _ => .tableCreate t { r with seedSet := 1 }
  | _, _ => m

/-- The value that MIRROR carries beside the command: S of MAQUETTE_OPEN, the GROUP_ID of GROUP_OPEN (R401). -/
def chosenValue (op result : Nat) : Option Nat := if op = 0x0501 ∨ op = 0x0E01 then some result else none

/-- MIRROR of a command without an effective epoch: it is applied here on ACK. -/
def State.mirrorFirst (s : State) (h : Hdr) (c : Cmd) (m : Mirrored) (result : Nat) (l : List Change) : State :=
  (s.hold h c.op c.extends).sendTxn h c.op (chosenValue c.op result) (resolve m result l) false 0 [] []

/-- The LEAD runs the command on both twins (R400, R401, R406). -/
def State.onBoth (s : State) (h : Hdr) (c : Cmd) : Bool :=
  c.mirror.isSome && !Hdr_twinned h && (s.twinned h || (c.op == 0x0C05 && s.twin.attached && s.twin.role == .lead))

/-- A part that passes: OK with RESULT 0 (R357). -/
def State.passPart (s t : State) (h : Hdr) (c : Cmd) (objs : List (Nat × Nat)) (l : List Change) : State :=
  match s.onBoth h c, c.mirror with
  | true, some m => s.mirrorFirst h c m 0 l
  | _, _ => ((t.notePart h c.op stOk).addPart c.op objs l).answer h c.op c.extends stOk 0 0 0 []

/-- A change that is accepted at once, or that PREPARE goes out for (R20, R401). -/
def State.passChange (s t : State) (h : Hdr) (c : Cmd) (objs : List (Nat × Nat)) (l : List Change) : State :=
  match h.origin, s.onBoth h c, c.mirror with
  | .colonnade txn, _, some m => t.prepareTxn h c.op txn m c.target objs l c.extends
  | _, true, some m => (t.hold h c.op c.extends).sendTxn h c.op none (resolve m 0 l) true c.target objs l
  | _, _, _ =>
    let p := t.epochFor objs c.target
    let r := t.takeChanges p.1 objs l
    r.1.answer h c.op c.extends (acceptStatus p.2.1 r.2.1) p.2.2 (BitVec.ofNat 64 p.1) 0 r.2.2

/-- Commands that wait for their own preparation before anything is sent to the twin (R129, R358). -/
def holdsFirst (op : Nat) : Bool := op == 0x0502 || op == 0x0E02

/-- The command that read bad data has had INTERNAL: the word is good again (R431, log 112). -/
def State.dataRead (s : State) (st : Nat) : State := if st = stInternal then { s with faults.dataBad := false } else s

/-- The outcome of a command. -/
def State.finish (s : State) (h : Hdr) (c : Cmd) (r : Rule) : State :=
  match r with
  | .refuse st d res lg => ((s.dataRead st).notePart h c.op st).answer h c.op none st d res lg []
  | .done t st d res pl =>
    match s.onBoth h c && decide (st ≤ stOkAdjusted), c.mirror with
    | true, some m => s.mirrorFirst h c m res.toNat []
    | _, _ => t.answer h c.op c.extends st d res 0 pl
  | .held t _ =>
    match s.onBoth h c && !holdsFirst c.op, c.mirror with
    | true, some m => s.mirrorFirst h c m 0 []
    | _, _ => t.hold h c.op c.extends
  | .change objs t l => if h.group then s.passPart t h c objs l else s.passChange t h c objs l

/-! ## Relaying (R354, R355) -/

/-- Steps 3, 4, 6 and the reserved bits of step 5 at the device that relays; the session and its version are the target's (R354,
log 79). -/
def State.relayCheck (s : State) (h : Hdr) (c : Cmd) : Option Rule :=
  if !Hdr_lengthOk h || !c.lenOk then some (.refuse stBadLength 0 0 0)
  else if 63 < h.target then some (.access h.target)
  else if !h.reservedZero then some .param
  else if s.ring.present.any fun r => r.id == h.target then none
  else some .missing

/-- Header of the relayed packet (R343). -/
def headerBytes (h : Hdr) (op : Nat) : List Byte :=
  beBytes 1 h.verMajor ++ beBytes 1 h.verMinor ++ beBytes 2 op ++ beBytes 2 (b2n h.twin + 2 * b2n h.group + 4 * b2n h.notify)
    ++ beBytes 1 h.target ++ beBytes 1 0 ++ beBytes 4 h.tag ++ beBytes 4 h.len ++ beBytes 4 h.groupId ++ beBytes 12 0

/-- The relayed packet: header and the command's parameters (R343, R354, log 32). -/
def relayedBytes (h : Hdr) (c : Cmd) : List Byte := headerBytes h c.op ++ c.params

/-- A command for another device is sent along the ring, and its reply awaited. -/
def State.relay (s : State) (h : Hdr) (c : Cmd) : State :=
  match s.relayCheck h c with
  | some (.refuse st d res lg) => s.answer h c.op none st d res lg []
  | some _ => s
  | none =>
    let r : Relay := { id := s.cmd.relayNext, hdr := h, opcode := c.op, sentAt := s.now }
    State.ringSend { s with cmd := { s.cmd with relays := s.cmd.relays ++ [r], relayNext := s.cmd.relayNext + 1 } } h.target 1 (relayedBytes h c)

/-! ## Serving a command -/

/-- The value that the message of the twin carried for the command (R401). -/
def State.chosen (s : State) (h : Hdr) : Option Nat :=
  if Hdr_twinned h then s.nextCarried.bind fun (e : Origin × Nat × Option Nat) => e.2.2 else none

/-- A command whose turn it is runs through the checks of R348 and has its outcome; nothing happens where it is not its
turn. -/
def State.serve (s : State) (c : Cmd) (h : Hdr) : State :=
  match s.begin h c.op with
  | none => s
  | some t =>
    if !Hdr_twinned h && h.target != s.sec.deviceId then t.relay h c
    else t.finish h c (t.verdict h c (s.chosen h))

end Sys2Proof.Machine
end

