-- ==== Sys2Proof/Machine/Groups.lean ====
section
/-! DEFINITION. Group transactions (R356 to R360, spec/14_commands.md). -/

namespace Sys2Proof.Machine

/-- The group is gone; a MAQUETTE_COMMIT part unseals the Maquette, which stays open (R129). -/
def State.closeGroup (s : State) (g : Group) : State :=
  let s := { s with group := none }
  if g.parts.any fun p => p.opcode == 0x0502 then { s with rules.groupSeal := false } else s

/-- On an attached LEAD the FOLLOW discards its parts too (R360); its ACK changes nothing more here. -/
def State.discardGroup (s : State) (g : Group) : State :=
  let s := s.closeGroup g
  if g.twin && s.twin.role == .lead && s.twin.attached then
    { s with twin.txnNext := (s.twin.txnNext + 1) % 2 ^ 32 }.colSend (.mirror s.twin.txnNext 0x0E03 none .groupDiscard)
  else s

/-- PART, UNIT_CLASS and UNIT of R346; class 0 where the part failed its own checks. -/
def partAddr (part : Nat) (unit : Nat × Nat) : BitVec 64 :=
  BitVec.ofNat 64 (part % 2 ^ 16 * 2 ^ 48 + unit.1 * 2 ^ 40 + unit.2)

/-- The unit that has not prepared a version's part: a ternary replica with a staging write to come, an Armature engine with a
staging job, or the bank of a table's DMA (R346, R356). -/
def State.unprepared (s : State) : Nat × Nat :=
  if (s.writesOf .staging).any PlaneWrite.stages then (3, 0)
  else match (List.range 4).find? fun e => ((s.engine e).job.toList ++ (s.engine e).queue).any fun j => j.work.staging with
  | some e => (8, e)
  | none =>
    match s.tables.jobs.find? fun j => j.opcode == 0x0408 && (s.table j.table).rcd.versioned == 1 with
    | some j => (6, j.bank)
    | none => (0, 0)

/-- A GROUP_COMMIT that fails: every part is discarded, and the reply names the part and the unit (R358). -/
def State.failGroup (s : State) (g : Group) (h : Hdr) (part status : Nat) (unit : Nat × Nat) : State :=
  (s.discardGroup g).reply h 0x0E02 stPartFailed status 0 (partAddr part unit) []

/-! ## Commands -/

/-- GROUP_OPEN (R357): numbers run from 1 to 2^32 - 1. -/
def cmdGroupOpen : Cmd :=
  .mirrored 0x0E01 .groupOpen fun h s =>
    .need s.group.isNone .conflict <|
    let g : Group := { id := s.groupNext, sender := hdrSender h, twin := h.twin || Hdr_twinned h, parts := [], count := 0
                       failed := none, lastEpoch := s.clock.epoch, commit := none }
    .val { s with group := some g, groupNext := s.groupNext % (2 ^ 32 - 1) + 1 } s.groupNext

/-- TWIN must be as GROUP_OPEN gave it (R359); the group is open, the session's own and not already preparing. -/
def State.groupNeed (s : State) (h : Hdr) (rest : Group → Rule) : Rule :=
  match s.ownGroup h with
  | none => s.noGroup h
  | some g =>
    .need (g.twin == (h.twin || Hdr_twinned h)) .param <| .need g.commit.isNone .busy <| rest g

/-- GROUP_COMMIT (R358): taken, and held until every part has prepared. -/
def cmdGroupCommit (target : EpochName) : Cmd :=
  { Cmd.mirrored 0x0E02 (.groupCommit target) (fun h s => s.groupNeed h fun g =>
      .held { s with group := some { g with commit := some (h, target, s.clock.epoch) } } 0) with
    target := target.epoch }

/-- GROUP_DISCARD (R360). -/
def cmdGroupDiscard : Cmd :=
  .mirrored 0x0E03 .groupDiscard fun h s => s.groupNeed h fun g => .ok (s.closeGroup g)

/-- State of a group: 0 OPEN, 1 FAILED, 2 PREPARING (log 16). -/
def groupCode (g : Group) : Nat := if g.failed.isSome then 1 else if g.commit.isSome then 2 else 0

/-- GROUP_STATUS_GET: state, parts held, first failing part (2^16 for none). -/
def cmdGroupStatusGet : Cmd :=
  .get 0x0E04 () fun h s =>
    match s.group with
    | none => .missing
    | some g => .need (g.id == h.groupId) .missing <|
      .reply s [groupCode g, g.parts.length, (g.failed.map fun f => f.1).getD (2 ^ 16)]

/-! ## Preparation (R358) -/

/-- The position of the part that commits a rule version. -/
def versionPart (g : Group) : Option Nat := g.parts.findIdx? fun p => p.opcode == 0x0502

/-- A part that cannot be prepared: a fifth live version, or a stamp that is not settled (R129). -/
def State.cannotPrepare (s : State) (g : Group) : Option Nat :=
  match versionPart g, s.rules.staged with
  | some i, some v => if s.liveVersions.length < 4 ∧ ¬ s.unsettled v then none else some i
  | _, _ => none

/-- Every part has prepared: the staging writes of a version have landed. -/
def State.groupReady (s : State) (g : Group) : Bool := (versionPart g).isNone || !s.stagingLeft

/-- The commit waits for the twin. -/
def State.groupAtTwin (s : State) (h : Hdr) : Bool :=
  (s.txns.any fun t => t.hdr == h && t.opcode == 0x0E02) || s.prepared.any fun t => t.hdr == h && t.opcode == 0x0E02

/-- The group's commit is accepted alone (R358 step 4, R20), or refused for the epoch it requires, every part discarded. -/
def State.acceptGroup (s : State) (g : Group) (h : Hdr) (target : EpochName) : State :=
  let objs := g.parts.flatMap fun p => p.objs
  if s.epochRefused objs target then (s.discardGroup g).refuseHeld h 0x0E02 stStateConflict dtNone
  else
  let p := s.epochFor objs target.epoch
  let r := s.takeChanges p.1 objs (g.parts.flatMap fun p => p.changes)
  (r.1.closeGroup g).reply h 0x0E02 (acceptStatus p.2.1 r.2.1) p.2.2 (BitVec.ofNat 64 p.1) 0 []

/-- The prepared group: PREPARE to the twin, ACK to the LEAD, or acceptance. -/
def State.preparedGroup (s : State) (g : Group) (h : Hdr) (target : EpochName) : State :=
  let objs := g.parts.flatMap fun p => p.objs
  let l := g.parts.flatMap fun p => p.changes
  match h.origin with
  | .colonnade txn =>
    let dg := s.heldDigest h 0x0E02
    ({ s with cmd.running := s.cmd.running.eraseP fun r => r.hdr == h && r.opcode == 0x0E02 }).prepareTxn h 0x0E02 txn
      (.groupCommit target) target.epoch objs l dg
  | _ =>
    if s.twinned h then s.sendTxn h 0x0E02 none (.groupCommit target) true target.epoch objs l
    else s.acceptGroup g h target

/-- GROUP_COMMIT of a group that has FAILED is replied to at once (R358 step 1). -/
def State.failedGroup (s : State) : State :=
  match s.group with
  | some g => match g.commit, g.failed with
    | some (h, _, _), some f => s.failGroup g h f.1 f.2 (0, 0)
    | _, _ => s
  | none => s

/-- GROUP_PREPARED (R358): a group that has FAILED, or a part that cannot prepare, ends it; else it goes on when the last
part has prepared. -/
def execGroupPrepared (s : State) : Host.Outcome State Fault Refusal :=
  .next (match s.group.bind fun g => g.commit.map fun c => (g, c) with
  | none => s
  | some (g, h, target, _) =>
    if s.groupAtTwin h then s
    else match g.failed, s.cannotPrepare g with
    | some f, _ => s.failGroup g h f.1 f.2 (0, 0)
    | none, some i => s.failGroup g h i stBusy (0, 0)
    | none, none => if s.groupReady g then s.preparedGroup g h target else s)

/-- GROUP_PREPARE_TIMEOUT (R358): a part not prepared 1,024 epochs after the command fails with BUSY. -/
def execGroupPrepareTimeout (s : State) : Host.Outcome State Fault Refusal :=
  .next (match s.group.bind fun g => g.commit.map fun c => (g, c) with
  | none => s
  | some (g, h, _, e) =>
    if s.groupAtTwin h || s.groupReady g || decide (s.clock.epoch < e + 1024) then s
    else s.failGroup g h ((versionPart g).getD 0) stBusy s.unprepared)

/-- The first part that the device state makes illegal (R360). -/
def State.illegalPart (s : State) (g : Group) : Option Nat := g.parts.findIdx? fun p => !s.legalIn p.opcode false

/-- A group without a GROUP_COMMIT is lost with its session or after 2^20 epochs (R360). -/
def State.groupLost (s : State) (g : Group) : Bool :=
  (g.sender != 256 && !(s.cmd.sessions.any fun x => x.sender == g.sender && x.target == s.sec.deviceId))
    || decide (g.lastEpoch + 2 ^ 20 ≤ s.clock.epoch)

/-- The group ends and GROUP_ABANDONED is raised; a GROUP_COMMIT taken and not yet accepted fails with the part that has
become illegal. -/
def State.abandonGroup (s : State) (g : Group) (part : Nat) : State :=
  let t := s.note srcGroupAbandoned 0 0
  match g.commit with
  | none => t.discardGroup g
  | some (h, _, _) => t.failGroup g h part stStateConflict (0, 0)

/-- GROUP_ABANDONED (R360). -/
def execGroupAbandoned (s : State) : Host.Outcome State Fault Refusal :=
  .next (match s.group with
  | none => s
  | some g =>
    match s.illegalPart g with
    | some i => s.abandonGroup g i
    | none => if g.commit.isNone && s.groupLost g then s.abandonGroup g 0 else s)

end Sys2Proof.Machine
end

