-- ==== Sys2Proof/Machine/Mirror.lean ====
section
/-! DEFINITION. Messages that carry commands and their commitment between the twins (R399 to R402,
spec/16_twin_ring.md), and commands taken from rings and relayed (R341, R354, R361, spec/14_commands.md). -/

namespace Sys2Proof.Machine

/-! ## Commands of an opcode that no device has -/

/-- The command of an undefined opcode: it is refused at step 2. -/
def cmdUndefined (op : Nat) : Cmd := .get op () fun _ _ => .refuse stBadOpcode 0 0 0

/-- An undefined opcode has no row of its own: the checks of R348 run when its packet comes. -/
def State.orUndefined (s : State) (h : Hdr) (op : Nat) : State :=
  if opcodes.contains op then s else s.serve (cmdUndefined op) h

/-- COMMAND_FETCH (R341): the next submit entry of a ring is read; the command follows as its own row. -/
def execCommandFetch (h : Hdr) (opcode : Nat) (s : State) : Host.Outcome State Fault Refusal :=
  .next (match h.origin with
    | .host .. => (s.fetch h opcode).orUndefined h opcode
    | _ => s)

/-- RELAYED_COMMAND_RX (R354): the command follows as its own row, from its sending device. -/
def execRelayedCommandRx (src : Nat) (h : Hdr) (opcode : Nat) (s : State) : Host.Outcome State Fault Refusal :=
  .next (if s.clock.running ∧ ¬ s.ring.excluded ∧ h.target = s.sec.deviceId ∧ h.origin = .slait src then
      ({ s with cmd.carried := s.cmd.carried ++ [(Origin.slait src, opcode, none)] }).orUndefined h opcode
    else s)

/-- RELAY_TIMEOUT (R361): no reply within 100 ms. -/
def execRelayTimeout (id : Nat) (s : State) : Host.Outcome State Fault Refusal :=
  .next (match s.cmd.relays.find? fun r => r.id == id with
    | none => s
    | some r =>
      if s.now < r.sentAt + clkMs 100 then s
      else
        ({ s with cmd.relays := s.cmd.relays.filter fun x => x.id != id }).answer r.hdr r.opcode none stInternal
          dtTargetTimeout 0 0 [])

/-! ## The commands of R400 as they are run again on the LEAD -/

/-- A mirrored command with its rules. -/
def mirroredCmd (m : Mirrored) : Cmd :=
  match m with
  | .tableCreate t r => cmdTableCreate t r
  | .tableDelete t => cmdTableDelete t
  | .emEntryAdd t k d st => cmdEmEntryAdd t k d st
  | .emEntryDelete t k => cmdEmEntryDelete t k
  | .directWrite t i b => cmdDirectWrite t i b
  | .prefixAdd f v l a r => cmdPrefixAdd f v l a r
  | .prefixDelete f v l a => cmdPrefixDelete f v l a
  | .emProfileSet p r => cmdEmProfileSet p r
  | .lpmProfileSet p r => cmdLpmProfileSet p r
  | .nexthopTableSet t => cmdNexthopTableSet t
  | .tableUpkeepSet t r f => cmdTableUpkeepSet t r f
  | .maquetteOpen => cmdMaquetteOpen
  | .maquetteCommit t => cmdMaquetteCommit t
  | .maquetteDiscard => cmdMaquetteDiscard
  | .ruleAdd r => cmdRuleAdd r
  | .objectDelete k i => cmdObjectDelete k i
  | .rangeSet c e l h => cmdRangeSet c e l h
  | .parseEntrySet i r => cmdParseEntrySet i r
  | .keyProfileSet d i es g => cmdKeyProfileSet d i es g
  | .editProfileSet i ops => cmdEditProfileSet i ops
  | .templateSet i b => cmdTemplateSet i b
  | .mirrorSessionSet i c d t => cmdMirrorSessionSet i c d t
  | .egressBind p k => cmdEgressBind p k
  | .tcMapSet p m => cmdTcMapSet p m
  | .bufferPoolSet z p => cmdBufferPoolSet z p
  | .queueAdmitSet q r f => cmdQueueAdmitSet q r f
  | .mcastGroupSet g self l => cmdMcastGroupSet g self l
  | .mcastGroupDelete g => cmdMcastGroupDelete g
  | .groupOpen => cmdGroupOpen
  | .groupCommit t => cmdGroupCommit t
  | .groupDiscard => cmdGroupDiscard
  | .twinRoleSwap => cmdTwinRoleSwap
  | .twinDetach => cmdTwinDetach

/-! ## On the FOLLOW -/

/-- A message of the twin with a command can be taken: an attached FOLLOW on a connected Colonnade. -/
def State.follows (s : State) : Bool :=
  s.clock.running && s.twin.connected && s.twin.attached && s.twin.role == .follow

/-- MIRROR_RX (R401): the command follows as its own row, with the value that the LEAD has chosen for it. A message with the
opcode of TWIN_DETACH says, to a device of either role, that its twin has detached (R406; DESIGN CHOICE, log 113). -/
def execMirrorRx (txn opcode : Nat) (value : Option Nat) (s : State) : Host.Outcome State Fault Refusal :=
  .next (if opcode = 0x0C04 then (if s.clock.running && s.twin.connected then s.detached else s)
    else if s.follows then { s with cmd.carried := s.cmd.carried ++ [(Origin.colonnade txn, opcode, value)] } else s)

/-- PREPARE_RX (R401): the command follows as its own row. -/
def execPrepareRx (txn opcode : Nat) (s : State) : Host.Outcome State Fault Refusal :=
  .next (if s.follows then { s with cmd.carried := s.cmd.carried ++ [(Origin.colonnade txn, opcode, none)] } else s)

/-- A prepared transaction given up: the seal of a version commit is lifted, a prepared group is gone. -/
def State.dropPrepared (s : State) (t : Txn) : State :=
  let s := { s with prepared := s.prepared.filter fun x => x.txn != t.txn }
  if t.opcode = 0x0502 then { s with rules.groupSeal := false }
  else if t.opcode = 0x0E02 then match s.group with | some g => s.closeGroup g | none => s
  else s

/-- A prepared transaction committed for epoch `e`. -/
def State.commitPrepared (s : State) (t : Txn) (e : Nat) : State :=
  let s := (s.dropPrepared t).takeChanges e t.objs t.changes
  let s := { s.1.extend (some t.digest) with twin.lastTxn := t.txn }
  s.colSend (.ack t.txn stOk dtNone e)

/-- The device raises TWIN_DIVERGED with the TXN; the pair is detached on it, and the Colonnade stays connected (R396, R398, R402). -/
def State.diverged (s : State) (txn : Nat) : State :=
  (State.bump { s with twin.attached := false } .twinDiverged 0).note srcTwinDiverged s.twin.peer (BitVec.ofNat 64 txn)

/-- COMMIT_RX (R402): epoch 0 discards; a COMMIT for epoch E counts till tick 959 of epoch E - 1. -/
def execCommitRx (txn epoch : Nat) (s : State) : Host.Outcome State Fault Refusal :=
  .next (match s.prepared.find? fun t => t.txn == txn with
    | none => s
    | some t =>
      if epoch = 0 then s.dropPrepared t
      else if s.clock.epoch + 1 < epoch ∨ (s.clock.epoch + 1 = epoch ∧ s.clock.tick ≤ 959) then s.commitPrepared t epoch
      else (s.dropPrepared t).diverged txn)

/-- FOLLOW_COMMIT_DEADLINE (R402): no COMMIT has come by tick 959 of the epoch before E; E is at least two epochs after
the PREPARE (R401). -/
def execFollowCommitDeadline (txn : Nat) (s : State) : Host.Outcome State Fault Refusal :=
  .next (match s.prepared.find? fun t => t.txn == txn with
    | none => s
    | some t =>
      if s.clock.epoch < t.sentEpoch + 1 ∨ s.clock.tick < 959 then s else (s.dropPrepared t).diverged txn)

/-! ## On the LEAD -/

/-- LOGGED_ADDRESS of TWIN_FAILED: the failing part's position in its group, UNIT_CLASS 9 and the twin's device ID (R346, R401). -/
def State.twinAddr (s : State) (h : Hdr) : BitVec 64 :=
  let part := if h.group then (match s.group with | some g => g.count | none => 0) else 0
  BitVec.ofNat 64 (part % 2 ^ 16 * 2 ^ 48 + 9 * 2 ^ 40 + s.twin.peer)

def State.dropTxn (s : State) (txn : Nat) : State := { s with txns := s.txns.filter fun t => t.txn != txn }

/-- The LEAD's own prepared part is discarded, and the FOLLOW's with it (R359, R401). -/
def State.discardTxn (s : State) (t : Txn) : State :=
  let s := s.dropTxn t.txn
  let s := s.colSend (.commit t.txn 0)
  if t.opcode = 0x0502 ∧ t.prepared then { s with rules.groupSeal := false, rules.held := none }
  else if t.opcode = 0x0E02 then match s.group with | some g => s.closeGroup g | none => s
  else s

/-- The FOLLOW's part has failed: nothing commits on either device (R359, R401). -/
def State.failTxn (s : State) (t : Txn) (status : Nat) : State :=
  let s := (s.discardTxn t).bump .twinFailed 0
  (s.notePart t.hdr t.opcode stTwinFailed).reply t.hdr t.opcode stTwinFailed status 0 (s.twinAddr t.hdr) []

/-- On ACK with OK the LEAD applies a command without an effective epoch, and gives its own reply (R401). -/
def State.runMirrored (s : State) (t : Txn) : State :=
  let s := s.dropTxn t.txn
  let c := mirroredCmd t.cmd
  match if t.hdr.group then s.partRule t.hdr c else c.rule t.hdr s with
  | .refuse st d res lg => (s.notePart t.hdr t.opcode st).reply t.hdr t.opcode st d res lg []
  | .done u st d res pl => u.reply t.hdr t.opcode st d res 0 pl
  | .held u _ => u
  | .change objs u l =>
    ((u.notePart t.hdr t.opcode stOk).addPart t.opcode objs l).reply t.hdr t.opcode stOk 0 0 0 []

/-- E of a twin commit: the epoch that R20 gives for the accepting tick, plus one; a named earlier epoch is moved. -/
def State.twinEpoch (s : State) (objs : List (Nat × Nat)) (named : Nat) : Nat × Nat × Nat :=
  let want := if named = 0 then s.earliest + 1 else named
  let e := s.freeFrom objs (s.changes.length + 1) (max want (s.earliest + 1))
  if e = want then (e, stOk, dtNone) else (e, stOkAdjusted, dtAdjustedEpoch)

/-- The epoch that a mirrored commit names. -/
def Mirrored.named (m : Mirrored) : EpochName :=
  match m with | .maquetteCommit n => n | .groupCommit n => n | _ => ⟨0, false⟩

/-- The twin commit requires an epoch that it cannot have (R20, R401). -/
def State.twinRefused (s : State) (t : Txn) : Bool :=
  t.cmd.named.required && t.target != 0 && (s.twinEpoch t.objs t.target).1 != t.target

/-- On ACK with OK the LEAD accepts a command with an effective epoch, sends COMMIT with E and replies (R401). One that requires
an epoch it cannot have commits on neither device. -/
def State.commitTxn (s : State) (t : Txn) : State :=
  if s.twinRefused t then (s.discardTxn t).refuseHeld t.hdr t.opcode stStateConflict dtNone
  else
  let p := s.twinEpoch t.objs t.target
  let s := { s with txns := s.txns.map fun (x : Txn) => if x.txn == t.txn then { x with epoch := some p.1 } else x
                    twin := { s.twin with lastTxn := t.txn } }
  let r := ((s.colSend (.commit t.txn p.1)).bump .twinCommits 0).takeChanges p.1 t.objs t.changes
  let s := if t.opcode = 0x0E02 then match r.1.group with | some g => r.1.closeGroup g | none => r.1 else r.1
  s.reply t.hdr t.opcode p.2.1 p.2.2 (BitVec.ofNat 64 p.1) 0 []

/-- ACK_RX (R401, R402): of a MIRROR or PREPARE, or of the COMMIT before tick 0 of its epoch. -/
def execAckRx (txn status _detail _epoch : Nat) (s : State) : Host.Outcome State Fault Refusal :=
  .next (match s.txns.find? fun t => t.txn == txn with
    | none => s
    | some t =>
      match t.epoch with
      | some e => if s.clock.epoch < e then s.dropTxn txn else s
      | none =>
        if stOkAdjusted < status then s.failTxn t status
        else if t.prepared then s.commitTxn t else s.runMirrored t)

/-- TWIN_ACK_TIMEOUT (R401): no ACK within 1,024 epochs. -/
def execTwinAckTimeout (txn : Nat) (s : State) : Host.Outcome State Fault Refusal :=
  .next (match s.txns.find? fun t => t.txn == txn with
    | none => s
    | some t => if t.epoch.isSome ∨ s.clock.epoch < t.sentEpoch + 1024 then s else s.failTxn t dtTwinNoAck)

/-- LEAD_COMMIT_ACK_CHECK (R402): no ACK of the COMMIT by tick 0 of E: the LEAD detaches; what it has committed stands. -/
def execLeadCommitAckCheck (txn : Nat) (s : State) : Host.Outcome State Fault Refusal :=
  .next (match s.txns.find? fun t => t.txn == txn with
    | none => s
    | some t =>
      match t.epoch with
      | some e =>
        if s.clock.epoch < e then s
        else (s.dropTxn txn).diverged txn
      | none => s)

end Sys2Proof.Machine
end

