-- ==== Sys2Proof/Machine/Slait.lean ====
section
/-! DEFINITION. The meanings of the Slait commands: each runs its rules through the command unit (R348,
spec/14_commands.md). -/

namespace Sys2Proof.Machine

/-! ## Session and device (R371) -/

/-- HELLO (R350). -/
def execHello (h : Hdr) (lowMaj lowMin highMaj highMin : Nat) (telemetry : Option Nat)
    (s : State) : Host.Outcome State Fault Refusal :=
  .next (s.serve (cmdHello lowMaj lowMin highMaj highMin telemetry) h)

/-- GOODBYE (R350). -/
def execGoodbye (h : Hdr) (s : State) : Host.Outcome State Fault Refusal :=
  .next (s.serve cmdGoodbye h)

/-- DEVICE_STATE_GET (R371). -/
def execDeviceStateGet (h : Hdr) (s : State) : Host.Outcome State Fault Refusal :=
  .next (s.serve cmdDeviceStateGet h)

/-- DEVICE_STATE_SET (R352). -/
def execDeviceStateSet (h : Hdr) (target : Nat) (s : State) : Host.Outcome State Fault Refusal :=
  .next (s.serve (cmdDeviceStateSet target) h)

/-- CPU_QUEUE_MAP_SET (R362). -/
def execCpuQueueMapSet (h : Hdr) (queue ring : Nat) (s : State) : Host.Outcome State Fault Refusal :=
  .next (s.serve (cmdCpuQueueMapSet queue ring) h)

/-- EVENT_ROUTE_SET (R367). -/
def execEventRouteSet (h : Hdr) (group : Nat) (enable : BitVec 32) (ring : Nat)
    (s : State) : Host.Outcome State Fault Refusal :=
  .next (s.serve (cmdEventRouteSet group enable ring) h)

/-- EVENT_STATUS_GET (R371). -/
def execEventStatusGet (h : Hdr) (group : Nat) (s : State) : Host.Outcome State Fault Refusal :=
  .next (s.serve (cmdEventStatusGet group) h)

/-- EVENT_STATUS_CLEAR (R367). -/
def execEventStatusClear (h : Hdr) (group : Nat) (mask : BitVec 32) (s : State) : Host.Outcome State Fault Refusal :=
  .next (s.serve (cmdEventStatusClear group mask) h)

/-- SESSION_STATS_GET (R373). -/
def execSessionStatsGet (h : Hdr) (sel : StatsSel) (clear : Bool) (s : State) : Host.Outcome State Fault Refusal :=
  .next (s.serve (cmdSessionStatsGet sel clear) h)

/-- ECHO (R371). -/
def execEcho (h : Hdr) (data : List Byte) (s : State) : Host.Outcome State Fault Refusal :=
  .next (s.serve (cmdEcho data) h)

/-! ## Groups (R371) -/

/-- GROUP_OPEN (R357). -/
def execGroupOpen (h : Hdr) (s : State) : Host.Outcome State Fault Refusal :=
  .next (s.serve cmdGroupOpen h)

/-- GROUP_COMMIT (R358). A group that has FAILED is replied to at once (R358). -/
def execGroupCommit (h : Hdr) (target : EpochName) (s : State) : Host.Outcome State Fault Refusal :=
  .next (s.serve (cmdGroupCommit target) h).failedGroup

/-- GROUP_DISCARD (R360). -/
def execGroupDiscard (h : Hdr) (s : State) : Host.Outcome State Fault Refusal :=
  .next (s.serve cmdGroupDiscard h)

/-- GROUP_STATUS_GET (R371). -/
def execGroupStatusGet (h : Hdr) (s : State) : Host.Outcome State Fault Refusal :=
  .next (s.serve cmdGroupStatusGet h)

/-! ## Ports (R74) -/

/-- PORT_MODE_SET (R71). -/
def execPortModeSet (h : Hdr) (octet rate : Nat) (mask : BitVec 8) (s : State) : Host.Outcome State Fault Refusal :=
  .next (s.serve (cmdPortModeSet octet rate mask) h)

/-- PORT_CONFIG_SET (R60). -/
def execPortConfigSet (h : Hdr) (port : Nat) (record fields : BitVec 64)
    (s : State) : Host.Outcome State Fault Refusal :=
  .next (s.serve (cmdPortConfigSet port record fields) h)

/-- PORT_ENABLE (R69). -/
def execPortEnable (h : Hdr) (port : Nat) (on : Bool) (s : State) : Host.Outcome State Fault Refusal :=
  .next (s.serve (cmdPortEnable port on) h)

/-- PORT_STATUS_GET (R74). -/
def execPortStatusGet (h : Hdr) (port : Nat) (s : State) : Host.Outcome State Fault Refusal :=
  .next (s.serve (cmdPortStatusGet port) h)

/-- PORT_STATS_GET (R73). -/
def execPortStatsGet (h : Hdr) (port : Nat) (clear : Bool) (s : State) : Host.Outcome State Fault Refusal :=
  .next (s.serve (cmdPortStatsGet port clear) h)

/-- OCTET_LAYOUT_GET (R74). -/
def execOctetLayoutGet (h : Hdr) (octet : Nat) (s : State) : Host.Outcome State Fault Refusal :=
  .next (s.serve (cmdOctetLayoutGet octet) h)

/-! ## Lanes (R53) -/

/-- LANE_CONFIG_SET (R37). -/
def execLaneConfigSet (h : Hdr) (lane : Nat) (record fields : BitVec 64)
    (trainMs serExp holdoffMs : Option Nat) (s : State) : Host.Outcome State Fault Refusal :=
  .next (s.serve (cmdLaneConfigSet lane record fields trainMs serExp holdoffMs) h)

/-- LANE_STATUS_GET (R53). -/
def execLaneStatusGet (h : Hdr) (lane : Nat) (s : State) : Host.Outcome State Fault Refusal :=
  .next (s.serve (cmdLaneStatusGet lane) h)

/-- LANE_STATS_GET (R47). -/
def execLaneStatsGet (h : Hdr) (lane : Nat) (clear : Bool) (s : State) : Host.Outcome State Fault Refusal :=
  .next (s.serve (cmdLaneStatsGet lane clear) h)

/-- EYE_SCAN_START (R44). -/
def execEyeScanStart (h : Hdr) (lane eye : Nat) (phaseStart : Int) (phaseStep phaseCount : Nat)
    (voltStart : Int) (voltStep voltCount dwellExp : Nat) (s : State) : Host.Outcome State Fault Refusal :=
  .next (s.serve (cmdEyeScanStart lane eye phaseStart phaseStep phaseCount voltStart voltStep voltCount dwellExp) h)

/-- EYE_SCAN_READ (R46). -/
def execEyeScanRead (h : Hdr) (scan first count : Nat) (s : State) : Host.Outcome State Fault Refusal :=
  .next (s.serve (cmdEyeScanRead scan first count) h)

/-- EYE_SCAN_ABORT (R45). -/
def execEyeScanAbort (h : Hdr) (scan : Nat) (s : State) : Host.Outcome State Fault Refusal :=
  .next (s.serve (cmdEyeScanAbort scan) h)

/-- LANE_RETIRE (R51). -/
def execLaneRetire (h : Hdr) (lane : Nat) (s : State) : Host.Outcome State Fault Refusal :=
  .next (s.serve (cmdLaneRetire lane) h)

/-- LANE_RESTORE (R52). -/
def execLaneRestore (h : Hdr) (lane : Nat) (passes : Bool) (s : State) : Host.Outcome State Fault Refusal :=
  .next (s.serve (cmdLaneRestore lane passes) h)

/-- LANE_PRBS_SET (R43). -/
def execLanePrbsSet (h : Hdr) (lane gen chk : Nat) (s : State) : Host.Outcome State Fault Refusal :=
  .next (s.serve (cmdLanePrbsSet lane gen chk) h)

/-- LANE_LOOPBACK_SET (R43). -/
def execLaneLoopbackSet (h : Hdr) (lane mode : Nat) (s : State) : Host.Outcome State Fault Refusal :=
  .next (s.serve (cmdLaneLoopbackSet lane mode) h)

/-- OCTET_ORDER_SET (R41). -/
def execOctetOrderSet (h : Hdr) (octet mode : Nat) (s : State) : Host.Outcome State Fault Refusal :=
  .next (s.serve (cmdOctetOrderSet octet mode) h)

/-! ## Tables (R163) and their upkeep (R189) -/

/-- TABLE_CREATE (R140). -/
def execTableCreate (h : Hdr) (table : Nat) (r : TableRec) (s : State) : Host.Outcome State Fault Refusal :=
  .next (s.serve (cmdTableCreate table r) h)

/-- TABLE_DELETE (R141). -/
def execTableDelete (h : Hdr) (table : Nat) (s : State) : Host.Outcome State Fault Refusal :=
  .next (s.serve (cmdTableDelete table) h)

/-- TABLE_STATUS_GET (R163). -/
def execTableStatusGet (h : Hdr) (table : Nat) (s : State) : Host.Outcome State Fault Refusal :=
  .next (s.serve (cmdTableStatusGet table) h)

/-- TABLE_SEED_SET (R148). -/
def execTableSeedSet (h : Hdr) (table : Nat) (seed0 seed1 : BitVec 128)
    (s : State) : Host.Outcome State Fault Refusal :=
  .next (s.serve (cmdTableSeedSet table seed0 seed1) h)

/-- EM_ENTRY_ADD (R171). -/
def execEmEntryAdd (h : Hdr) (table : Nat) (key : BitVec 320) (data : BitVec 80) (static : Bool)
    (s : State) : Host.Outcome State Fault Refusal :=
  .next (s.serve (cmdEmEntryAdd table key data static) h)

/-- EM_ENTRY_DELETE (R174). -/
def execEmEntryDelete (h : Hdr) (table : Nat) (key : BitVec 320) (s : State) : Host.Outcome State Fault Refusal :=
  .next (s.serve (cmdEmEntryDelete table key) h)

/-- EM_ENTRY_READ (R163). -/
def execEmEntryRead (h : Hdr) (table : Nat) (key : Option (BitVec 320)) (addr : BitVec 64)
    (s : State) : Host.Outcome State Fault Refusal :=
  .next (s.serve (cmdEmEntryRead table key addr) h)

/-- DIRECT_WRITE (R145). -/
def execDirectWrite (h : Hdr) (table index : Nat) (slot : BitVec 256)
    (s : State) : Host.Outcome State Fault Refusal :=
  .next (s.serve (cmdDirectWrite table index slot) h)

/-- PREFIX_ADD (R152). -/
def execPrefixAdd (h : Hdr) (family vrf length : Nat) (addr : BitVec 128) (result : BitVec 64)
    (s : State) : Host.Outcome State Fault Refusal :=
  .next (s.serve (cmdPrefixAdd family vrf length addr result) h)

/-- PREFIX_DELETE (R152). -/
def execPrefixDelete (h : Hdr) (family vrf length : Nat) (addr : BitVec 128)
    (s : State) : Host.Outcome State Fault Refusal :=
  .next (s.serve (cmdPrefixDelete family vrf length addr) h)

/-- PREFIX_READ (R163). -/
def execPrefixRead (h : Hdr) (family vrf length : Nat) (addr : BitVec 128) (version : Nat)
    (s : State) : Host.Outcome State Fault Refusal :=
  .next (s.serve (cmdPrefixRead family vrf length addr version) h)

/-- LPM_SEED_SET (R148). -/
def execLpmSeedSet (h : Hdr) (seed : BitVec 128) (s : State) : Host.Outcome State Fault Refusal :=
  .next (s.serve (cmdLpmSeedSet seed) h)

/-- EM_PROFILE_SET (R153). -/
def execEmProfileSet (h : Hdr) (prof : Nat) (r : EmProf) (s : State) : Host.Outcome State Fault Refusal :=
  .next (s.serve (cmdEmProfileSet prof r) h)

/-- LPM_PROFILE_SET (R154). -/
def execLpmProfileSet (h : Hdr) (prof : Nat) (r : List LpmLookup) (s : State) : Host.Outcome State Fault Refusal :=
  .next (s.serve (cmdLpmProfileSet prof r) h)

/-- NEXTHOP_TABLE_SET (R156). -/
def execNexthopTableSet (h : Hdr) (table : Option Nat) (s : State) : Host.Outcome State Fault Refusal :=
  .next (s.serve (cmdNexthopTableSet table) h)

/-- COUNTER_READ (R161). -/
def execCounterRead (h : Hdr) (first count : Nat) (clear : Bool) (s : State) : Host.Outcome State Fault Refusal :=
  .next (s.serve (cmdCounterRead first count clear) h)

/-- COUNTER_CLEAR (R161). -/
def execCounterClear (h : Hdr) (first count : Nat) (s : State) : Host.Outcome State Fault Refusal :=
  .next (s.serve (cmdCounterClear first count) h)

/-- LOOKUP_STATS_GET (R162). -/
def execLookupStatsGet (h : Hdr) (sel : StatsSel) (clear : Bool) (s : State) : Host.Outcome State Fault Refusal :=
  .next (s.serve (cmdLookupStatsGet sel clear) h)

/-- LOCK_ACQUIRE (R182). -/
def execLockAcquire (h : Hdr) (firstBank bankCount firstBucket bucketCount lease : Nat)
    (s : State) : Host.Outcome State Fault Refusal :=
  .next (s.serve (cmdLockAcquire firstBank bankCount firstBucket bucketCount lease) h)

/-- LOCK_RENEW (R183). -/
def execLockRenew (h : Hdr) (lock lease : Nat) (s : State) : Host.Outcome State Fault Refusal :=
  .next (s.serve (cmdLockRenew lock lease) h)

/-- LOCK_RELEASE (R183). -/
def execLockRelease (h : Hdr) (lock : Nat) (s : State) : Host.Outcome State Fault Refusal :=
  .next (s.serve (cmdLockRelease lock) h)

/-- LOCK_STATUS_GET (R189). -/
def execLockStatusGet (h : Hdr) (lock : Nat) (s : State) : Host.Outcome State Fault Refusal :=
  .next (s.serve (cmdLockStatusGet lock) h)

/-- TABLE_DMA_WRITE (R184). -/
def execTableDmaWrite (h : Hdr) (lock bank firstBucket count : Nat) (images : List (List (BitVec 256)))
    (s : State) : Host.Outcome State Fault Refusal :=
  .next (s.serve (cmdTableDmaWrite lock bank firstBucket count images) h)

/-- TABLE_DMA_READ (R184). -/
def execTableDmaRead (h : Hdr) (bank firstBucket count hostAddr : Nat)
    (s : State) : Host.Outcome State Fault Refusal :=
  .next (s.serve (cmdTableDmaRead bank firstBucket count hostAddr) h)

/-- TABLE_UPKEEP_SET (R181). -/
def execTableUpkeepSet (h : Hdr) (table : Nat) (r : UpkeepRec) (fields : BitVec 8)
    (s : State) : Host.Outcome State Fault Refusal :=
  .next (s.serve (cmdTableUpkeepSet table r fields) h)

/-- SCRUB_SET (R186). -/
def execScrubSet (h : Hdr) (period : Nat) (s : State) : Host.Outcome State Fault Refusal :=
  .next (s.serve (cmdScrubSet period) h)

/-- UPKEEP_STATS_GET (R187). -/
def execUpkeepStatsGet (h : Hdr) (sel : StatsSel) (clear : Bool) (s : State) : Host.Outcome State Fault Refusal :=
  .next (s.serve (cmdUpkeepStatsGet sel clear) h)

/-! ## Rules (R134) -/

/-- MAQUETTE_OPEN (R127). -/
def execMaquetteOpen (h : Hdr) (s : State) : Host.Outcome State Fault Refusal :=
  .next (s.serve cmdMaquetteOpen h)

/-- MAQUETTE_COMMIT (R129). -/
def execMaquetteCommit (h : Hdr) (target : EpochName) (s : State) : Host.Outcome State Fault Refusal :=
  .next (s.serve (cmdMaquetteCommit target) h)

/-- MAQUETTE_DISCARD (R130). -/
def execMaquetteDiscard (h : Hdr) (s : State) : Host.Outcome State Fault Refusal :=
  .next (s.serve cmdMaquetteDiscard h)

/-- RULE_ADD (R114). -/
def execRuleAdd (h : Hdr) (r : RuleRec) (s : State) : Host.Outcome State Fault Refusal :=
  .next (s.serve (cmdRuleAdd r) h)

/-- OBJECT_DELETE (R127). -/
def execObjectDelete (h : Hdr) (kind index : Nat) (s : State) : Host.Outcome State Fault Refusal :=
  .next (s.serve (cmdObjectDelete kind index) h)

/-- RULE_READ (R124). -/
def execRuleRead (h : Hdr) (kind slot : Nat) (s : State) : Host.Outcome State Fault Refusal :=
  .next (s.serve (cmdRuleRead kind slot) h)

/-- RANGE_SET (R116). -/
def execRangeSet (h : Hdr) (cmp : Nat) (extract : BitVec 32) (low high : Nat)
    (s : State) : Host.Outcome State Fault Refusal :=
  .next (s.serve (cmdRangeSet cmp extract low high) h)

/-- PARSE_ENTRY_SET (R105). -/
def execParseEntrySet (h : Hdr) (slot : Nat) (record : BitVec 128) (s : State) : Host.Outcome State Fault Refusal :=
  .next (s.serve (cmdParseEntrySet slot record) h)

/-- KEY_PROFILE_SET (R110). -/
def execKeyProfileSet (h : Hdr) (dir id : Nat) (extracts : List (BitVec 32)) (rangeGroup : Nat)
    (s : State) : Host.Outcome State Fault Refusal :=
  .next (s.serve (cmdKeyProfileSet dir id extracts rangeGroup) h)

/-- EDIT_PROFILE_SET (R123). -/
def execEditProfileSet (h : Hdr) (id : Nat) (ops : List EditOp) (s : State) : Host.Outcome State Fault Refusal :=
  .next (s.serve (cmdEditProfileSet id ops) h)

/-- TEMPLATE_SET (R123). -/
def execTemplateSet (h : Hdr) (id : Nat) (bytes : List Byte) (s : State) : Host.Outcome State Fault Refusal :=
  .next (s.serve (cmdTemplateSet id bytes) h)

/-- MIRROR_SESSION_SET (R134). -/
def execMirrorSessionSet (h : Hdr) (session : Nat) (toCpu : Bool) (dest trunc : Nat)
    (s : State) : Host.Outcome State Fault Refusal :=
  .next (s.serve (cmdMirrorSessionSet session toCpu dest trunc) h)

/-- EGRESS_BIND (R121). -/
def execEgressBind (h : Hdr) (port profile : Nat) (s : State) : Host.Outcome State Fault Refusal :=
  .next (s.serve (cmdEgressBind port profile) h)

/-- VERSION_STATUS_GET (R134). -/
def execVersionStatusGet (h : Hdr) (s : State) : Host.Outcome State Fault Refusal :=
  .next (s.serve cmdVersionStatusGet h)

/-- PARSE_STATS_GET (R133). -/
def execParseStatsGet (h : Hdr) (pipe : Nat) (clear : Bool) (s : State) : Host.Outcome State Fault Refusal :=
  .next (s.serve (cmdParseStatsGet pipe clear) h)

/-! ## Egress (R314), buffer (R233) and Trellis (R260) -/

/-- QUEUE_MODE_SET (R287). -/
def execQueueModeSet (h : Hdr) (octet : Nat) (q16 : Bool) (s : State) : Host.Outcome State Fault Refusal :=
  .next (s.serve (cmdQueueModeSet octet q16) h)

/-- QUEUE_SCHED_SET (R289). -/
def execQueueSchedSet (h : Hdr) (queue : Nat) (record fields : BitVec 64)
    (s : State) : Host.Outcome State Fault Refusal :=
  .next (s.serve (cmdQueueSchedSet queue record fields) h)

/-- QUEUE_SCHED_GET (R314). -/
def execQueueSchedGet (h : Hdr) (queue : Nat) (s : State) : Host.Outcome State Fault Refusal :=
  .next (s.serve (cmdQueueSchedGet queue) h)

/-- SHAPER_SET (R293). -/
def execShaperSet (h : Hdr) (isPort : Bool) (index : Nat) (record : BitVec 64)
    (s : State) : Host.Outcome State Fault Refusal :=
  .next (s.serve (cmdShaperSet isPort index record) h)

/-- SHAPER_GET (R314). -/
def execShaperGet (h : Hdr) (isPort : Bool) (index : Nat) (s : State) : Host.Outcome State Fault Refusal :=
  .next (s.serve (cmdShaperGet isPort index) h)

/-- PORT_SCHED_SET (R290). -/
def execPortSchedSet (h : Hdr) (port : Nat) (record fields : BitVec 64)
    (s : State) : Host.Outcome State Fault Refusal :=
  .next (s.serve (cmdPortSchedSet port record fields) h)

/-- TC_MAP_SET (R288). -/
def execTcMapSet (h : Hdr) (port : Nat) (map : BitVec 32) (s : State) : Host.Outcome State Fault Refusal :=
  .next (s.serve (cmdTcMapSet port map) h)

/-- PORT_SCHED_GET (R314). -/
def execPortSchedGet (h : Hdr) (port : Nat) (s : State) : Host.Outcome State Fault Refusal :=
  .next (s.serve (cmdPortSchedGet port) h)

/-- GATE_LIST_SET (R301). -/
def execGateListSet (h : Hdr) (port : Nat) (g : GateSpec) (s : State) : Host.Outcome State Fault Refusal :=
  .next (s.serve (cmdGateListSet port g) h)

/-- GATE_LIST_CLEAR (R302). -/
def execGateListClear (h : Hdr) (port : Nat) (s : State) : Host.Outcome State Fault Refusal :=
  .next (s.serve (cmdGateListClear port) h)

/-- GATE_STATUS_GET (R314). -/
def execGateStatusGet (h : Hdr) (port : Nat) (s : State) : Host.Outcome State Fault Refusal :=
  .next (s.serve (cmdGateStatusGet port) h)

/-- EGRESS_STATS_GET (R312). -/
def execEgressStatsGet (h : Hdr) (isPort : Bool) (index : Nat) (clear : Bool)
    (s : State) : Host.Outcome State Fault Refusal :=
  .next (s.serve (cmdEgressStatsGet isPort index clear) h)

/-- BUFFER_POOL_SET (R216). -/
def execBufferPoolSet (h : Hdr) (sizes : List (Option Nat)) (pushout : List (Option Bool))
    (s : State) : Host.Outcome State Fault Refusal :=
  .next (s.serve (cmdBufferPoolSet sizes pushout) h)

/-- BUFFER_POOL_GET (R233). -/
def execBufferPoolGet (h : Hdr) (s : State) : Host.Outcome State Fault Refusal :=
  .next (s.serve cmdBufferPoolGet h)

/-- QUEUE_ADMIT_SET (R218). -/
def execQueueAdmitSet (h : Hdr) (queue : Nat) (record fields : BitVec 64)
    (s : State) : Host.Outcome State Fault Refusal :=
  .next (s.serve (cmdQueueAdmitSet queue record fields) h)

/-- QUEUE_ADMIT_GET (R233). -/
def execQueueAdmitGet (h : Hdr) (queue : Nat) (s : State) : Host.Outcome State Fault Refusal :=
  .next (s.serve (cmdQueueAdmitGet queue) h)

/-- PG_SET (R220). -/
def execPgSet (h : Hdr) (port prio : Nat) (xoff xon headroom : Option Nat)
    (s : State) : Host.Outcome State Fault Refusal :=
  .next (s.serve (cmdPgSet port prio xoff xon headroom) h)

/-- BUFFER_STATS_GET (R231). -/
def execBufferStatsGet (h : Hdr) (sel : StatsSel) (clear : Bool) (s : State) : Host.Outcome State Fault Refusal :=
  .next (s.serve (cmdBufferStatsGet sel clear) h)

/-- BUFFER_CELL_READ (R210). -/
def execBufferCellRead (h : Hdr) (first count : Nat) (s : State) : Host.Outcome State Fault Refusal :=
  .next (s.serve (cmdBufferCellRead first count) h)

/-- TRELLIS_RETIRE (R253). -/
def execTrellisRetire (h : Hdr) (e : Element) (drainLimit : Nat) (s : State) : Host.Outcome State Fault Refusal :=
  .next (s.serve (cmdTrellisRetire e drainLimit) h)

/-- TRELLIS_RESTORE (R255). -/
def execTrellisRestore (h : Hdr) (e : Element) (s : State) : Host.Outcome State Fault Refusal :=
  .next (s.serve (cmdTrellisRestore e) h)

/-- TRELLIS_STATUS_GET (R260). -/
def execTrellisStatusGet (h : Hdr) (e : Element) (s : State) : Host.Outcome State Fault Refusal :=
  .next (s.serve (cmdTrellisStatusGet e) h)

/-- MCAST_GROUP_SET (R249). -/
def execMcastGroupSet (h : Hdr) (group : Nat) (self : Bool) (members : List Nat)
    (s : State) : Host.Outcome State Fault Refusal :=
  .next (s.serve (cmdMcastGroupSet group self members) h)

/-- MCAST_GROUP_GET (R260). -/
def execMcastGroupGet (h : Hdr) (group : Nat) (s : State) : Host.Outcome State Fault Refusal :=
  .next (s.serve (cmdMcastGroupGet group) h)

/-- MCAST_GROUP_DELETE (R260). -/
def execMcastGroupDelete (h : Hdr) (group : Nat) (s : State) : Host.Outcome State Fault Refusal :=
  .next (s.serve (cmdMcastGroupDelete group) h)

/-- CUT_THROUGH_SET (R248). -/
def execCutThroughSet (h : Hdr) (port : Nat) (en : Option Bool) (start : Option Nat)
    (s : State) : Host.Outcome State Fault Refusal :=
  .next (s.serve (cmdCutThroughSet port en start) h)

/-- TRELLIS_STATS_GET (R257). -/
def execTrellisStatsGet (h : Hdr) (sel : StatsSel) (clear : Bool) (s : State) : Host.Outcome State Fault Refusal :=
  .next (s.serve (cmdTrellisStatsGet sel clear) h)

/-! ## Time (R285) -/

/-- TIME_DOMAIN_SET (R265). -/
def execTimeDomainSet (h : Hdr) (domain : Nat) (adj : Option Int) (hostWd holdMax : Option Nat)
    (s : State) : Host.Outcome State Fault Refusal :=
  .next (s.serve (cmdTimeDomainSet domain adj hostWd holdMax) h)

/-- TIME_GET (R285). -/
def execTimeGet (h : Hdr) (domain : Nat) (s : State) : Host.Outcome State Fault Refusal :=
  .next (s.serve (cmdTimeGet domain) h)

/-- TIME_SET (R263). -/
def execTimeSet (h : Hdr) (domain sec ns frac : Nat) (atPps : Option Nat)
    (s : State) : Host.Outcome State Fault Refusal :=
  .next (s.serve (cmdTimeSet domain sec ns frac atPps) h)

/-- TIME_STEP (R263). -/
def execTimeStep (h : Hdr) (domain : Nat) (backward : Bool) (sec ns frac : Nat)
    (s : State) : Host.Outcome State Fault Refusal :=
  .next (s.serve (cmdTimeStep domain backward sec ns frac) h)

/-- TIME_ADJUST (R262). -/
def execTimeAdjust (h : Hdr) (domain : Nat) (adj : Int) (s : State) : Host.Outcome State Fault Refusal :=
  .next (s.serve (cmdTimeAdjust domain adj) h)

/-- TIME_HOLDOVER (R264). -/
def execTimeHoldover (h : Hdr) (domain : Nat) (enter : Bool) (s : State) : Host.Outcome State Fault Refusal :=
  .next (s.serve (cmdTimeHoldover domain enter) h)

/-- TIME_STATUS_GET (R285). -/
def execTimeStatusGet (h : Hdr) (domain : Nat) (s : State) : Host.Outcome State Fault Refusal :=
  .next (s.serve (cmdTimeStatusGet domain) h)

/-- TIME_PORT_SET (R272). -/
def execTimePortSet (h : Hdr) (port : Nat) (record fields : BitVec 64)
    (s : State) : Host.Outcome State Fault Refusal :=
  .next (s.serve (cmdTimePortSet port record fields) h)

/-- TIME_PORT_GET (R271). -/
def execTimePortGet (h : Hdr) (port : Nat) (s : State) : Host.Outcome State Fault Refusal :=
  .next (s.serve (cmdTimePortGet port) h)

/-- PPS_SET (R277). -/
def execPpsSet (h : Hdr) (pin dir domain : Nat) (activeLow : Bool) (offsetNs widthNs : Nat)
    (s : State) : Host.Outcome State Fault Refusal :=
  .next (s.serve (cmdPpsSet pin dir domain activeLow offsetNs widthNs) h)

/-- PPS_READ (R278). -/
def execPpsRead (h : Hdr) (pin count : Nat) (s : State) : Host.Outcome State Fault Refusal :=
  .next (s.serve (cmdPpsRead pin count) h)

/-- TIME_STATS_GET (R284). -/
def execTimeStatsGet (h : Hdr) (isPort : Bool) (index : Nat) (clear : Bool)
    (s : State) : Host.Outcome State Fault Refusal :=
  .next (s.serve (cmdTimeStatsGet isPort index clear) h)

/-! ## Link cipher (R102) -/

/-- CIPHER_PORT_SET (R79). -/
def execCipherPortSet (h : Hdr) (port : Nat) (record fields : BitVec 64)
    (s : State) : Host.Outcome State Fault Refusal :=
  .next (s.serve (cmdCipherPortSet port record fields) h)

/-- CIPHER_PORT_GET (R102). -/
def execCipherPortGet (h : Hdr) (port : Nat) (s : State) : Host.Outcome State Fault Refusal :=
  .next (s.serve (cmdCipherPortGet port) h)

/-- SC_CREATE (R77). -/
def execScCreate (h : Hdr) (port dir : Nat) (sci : BitVec 64) (replayProtect : Bool)
    (replayWindow pnThreshold : Option Nat) (s : State) : Host.Outcome State Fault Refusal :=
  .next (s.serve (cmdScCreate port dir sci replayProtect replayWindow pnThreshold) h)

/-- SC_SET (R82). -/
def execScSet (h : Hdr) (sc dir : Nat) (replayProtect : Option Bool) (replayWindow pnThreshold : Option Nat)
    (s : State) : Host.Outcome State Fault Refusal :=
  .next (s.serve (cmdScSet sc dir replayProtect replayWindow pnThreshold) h)

/-- SC_DELETE (R102). -/
def execScDelete (h : Hdr) (sc dir : Nat) (s : State) : Host.Outcome State Fault Refusal :=
  .next (s.serve (cmdScDelete sc dir) h)

/-- SA_INSTALL (R81). -/
def execSaInstall (h : Hdr) (p : SaParams) (s : State) : Host.Outcome State Fault Refusal :=
  .next (s.serve (cmdSaInstall p) h)

/-- SA_DELETE (R81). -/
def execSaDelete (h : Hdr) (sc dir an : Nat) (s : State) : Host.Outcome State Fault Refusal :=
  .next (s.serve (cmdSaDelete sc dir an) h)

/-- TX_SA_SELECT (R91). -/
def execTxSaSelect (h : Hdr) (sc an : Nat) (s : State) : Host.Outcome State Fault Refusal :=
  .next (s.serve (cmdTxSaSelect sc an) h)

/-- SA_STATUS_GET (R102). -/
def execSaStatusGet (h : Hdr) (sc dir an : Nat) (s : State) : Host.Outcome State Fault Refusal :=
  .next (s.serve (cmdSaStatusGet sc dir an) h)

/-- CIPHER_STATS_GET (R100). -/
def execCipherStatsGet (h : Hdr) (sel : StatsSel) (clear : Bool) (s : State) : Host.Outcome State Fault Refusal :=
  .next (s.serve (cmdCipherStatsGet sel clear) h)

/-- CIPHER_ENGINE_SET (R94). -/
def execCipherEngineSet (h : Hdr) (engine count windowNs : Nat) (s : State) : Host.Outcome State Fault Refusal :=
  .next (s.serve (cmdCipherEngineSet engine count windowNs) h)

/-- CIPHER_ENGINE_RESTORE (R99). -/
def execCipherEngineRestore (h : Hdr) (engine : Nat) (s : State) : Host.Outcome State Fault Refusal :=
  .next (s.serve (cmdCipherEngineRestore engine) h)

/-- LA_CONTEXT_LOAD (R102). -/
def execLaContextLoad (h : Hdr) (ctx kind : Nat) (wrapCtx : Option Nat) (key : BitVec 320)
    (s : State) : Host.Outcome State Fault Refusal :=
  .next (s.serve (cmdLaContextLoad ctx kind wrapCtx key) h)

/-- LA_CONTEXT_EXPORT (R97). -/
def execLaContextExport (h : Hdr) (ctx : Nat) (s : State) : Host.Outcome State Fault Refusal :=
  .next (s.serve (cmdLaContextExport ctx) h)

/-- LA_CONTEXT_IMPORT (R98). -/
def execLaContextImport (h : Hdr) (ctx : Nat) (b : Blob) (s : State) : Host.Outcome State Fault Refusal :=
  .next (s.serve (cmdLaContextImport ctx b) h)

/-- LA_CONTEXT_CLEAR (R98). -/
def execLaContextClear (h : Hdr) (ctx : Nat) (s : State) : Host.Outcome State Fault Refusal :=
  .next (s.serve (cmdLaContextClear ctx) h)

/-- LA_CRYPT (R95). -/
def execLaCrypt (h : Hdr) (ctx op : Nat) (iv : BitVec 96) (aad data : List Byte)
    (s : State) : Host.Outcome State Fault Refusal :=
  .next (s.serve (cmdLaCrypt ctx op iv aad data) h)

/-! ## Telemetry (R337) -/

/-- TELEMETRY_STREAM_SET (R317). -/
def execTelemetryStreamSet (h : Hdr) (stream : Nat) (r : StreamRec) (fields : BitVec 16)
    (s : State) : Host.Outcome State Fault Refusal :=
  .next (s.serve (cmdTelemetryStreamSet stream r fields) h)

/-- TELEMETRY_STREAM_GET (R337). -/
def execTelemetryStreamGet (h : Hdr) (stream : Nat) (s : State) : Host.Outcome State Fault Refusal :=
  .next (s.serve (cmdTelemetryStreamGet stream) h)

/-- QUEUE_REPORT_SET (R323). -/
def execQueueReportSet (h : Hdr) (queue : Nat) (r : ReportRec) (fields : BitVec 8)
    (s : State) : Host.Outcome State Fault Refusal :=
  .next (s.serve (cmdQueueReportSet queue r fields) h)

/-- IOAM_SET (R329). -/
def execIoamSet (h : Hdr) (nodeId : BitVec 56) (td : Nat) (namespaces : List (Nat × BitVec 64))
    (s : State) : Host.Outcome State Fault Refusal :=
  .next (s.serve (cmdIoamSet nodeId td namespaces) h)

/-- QUEUE_SAMPLE_GET (R316). -/
def execQueueSampleGet (h : Hdr) (first count : Nat) (s : State) : Host.Outcome State Fault Refusal :=
  .next (s.serve (cmdQueueSampleGet first count) h)

/-- PERF_COUNTER_SET (R331). -/
def execPerfCounterSet (h : Hdr) (scope counter : Nat) (record : BitVec 64)
    (s : State) : Host.Outcome State Fault Refusal :=
  .next (s.serve (cmdPerfCounterSet scope counter record) h)

/-- TELEMETRY_STATS_GET (R336). -/
def execTelemetryStatsGet (h : Hdr) (sel : StatsSel) (clear : Bool) (s : State) : Host.Outcome State Fault Refusal :=
  .next (s.serve (cmdTelemetryStatsGet sel clear) h)

/-! ## Power (R462) -/

/-- POWER_CAP_SET (R449). -/
def execPowerCapSet (h : Hdr) (cap window margin : Option Nat) (s : State) : Host.Outcome State Fault Refusal :=
  .next (s.serve (cmdPowerCapSet cap window margin) h)

/-- POWER_STATUS_GET (R462). -/
def execPowerStatusGet (h : Hdr) (s : State) : Host.Outcome State Fault Refusal :=
  .next (s.serve cmdPowerStatusGet h)

/-- OP_HOST_SET (R446). -/
def execOpHostSet (h : Hdr) (op : Nat) (s : State) : Host.Outcome State Fault Refusal :=
  .next (s.serve (cmdOpHostSet op) h)

/-- THERMAL_SET (R454). -/
def execThermalSet (h : Hdr) (en : Nat) (s : State) : Host.Outcome State Fault Refusal :=
  .next (s.serve (cmdThermalSet en) h)

/-- COMPARATOR_SET (R457). -/
def execComparatorSet (h : Hdr) (cmp : Nat) (f : CmpFields) (s : State) : Host.Outcome State Fault Refusal :=
  .next (s.serve (cmdComparatorSet cmp f) h)

/-- COMPARATOR_GET (R462). -/
def execComparatorGet (h : Hdr) (cmp : Nat) (s : State) : Host.Outcome State Fault Refusal :=
  .next (s.serve (cmdComparatorGet cmp) h)

/-- DORMANT_ENTER (R458). -/
def execDormantEnter (h : Hdr) (wakeNEn : Bool) (s : State) : Host.Outcome State Fault Refusal :=
  .next (s.serve (cmdDormantEnter wakeNEn) h)

/-- DEVICE_WAKE (R460). -/
def execDeviceWake (h : Hdr) (west : Bool) (s : State) : Host.Outcome State Fault Refusal :=
  .next (s.serve (cmdDeviceWake west) h)

/-- POWER_COMPAT_SET (R455). -/
def execPowerCompatSet (h : Hdr) (freqs : Option (List Nat)) (s : State) : Host.Outcome State Fault Refusal :=
  .next (s.serve (cmdPowerCompatSet freqs) h)

/-- CAST_TABLE_GET (R442). -/
def execCastTableGet (h : Hdr) (s : State) : Host.Outcome State Fault Refusal :=
  .next (s.serve cmdCastTableGet h)

/-! ## Faults (R441) -/

/-- FAULT_REACTION_SET (R422). -/
def execFaultReactionSet (h : Hdr) (source : Nat) (f : ReactFields) (s : State) : Host.Outcome State Fault Refusal :=
  .next (s.serve (cmdFaultReactionSet source f) h)

/-- FAULT_REACTION_GET (R421). -/
def execFaultReactionGet (h : Hdr) (source : Nat) (s : State) : Host.Outcome State Fault Refusal :=
  .next (s.serve (cmdFaultReactionGet source) h)

/-- FAULT_CONFIG_SET (R417). -/
def execFaultConfigSet (h : Hdr) (logMin firstMin isolatePorts : Option Nat)
    (s : State) : Host.Outcome State Fault Refusal :=
  .next (s.serve (cmdFaultConfigSet logMin firstMin isolatePorts) h)

/-- FAULT_LOG_READ (R441). -/
def execFaultLogRead (h : Hdr) (first count : Nat) (s : State) : Host.Outcome State Fault Refusal :=
  .next (s.serve (cmdFaultLogRead first count) h)

/-- FAULT_FIRST_GET (R441). -/
def execFaultFirstGet (h : Hdr) (s : State) : Host.Outcome State Fault Refusal :=
  .next (s.serve cmdFaultFirstGet h)

/-- FAULT_FIRST_CLEAR (R420). -/
def execFaultFirstClear (h : Hdr) (s : State) : Host.Outcome State Fault Refusal :=
  .next (s.serve cmdFaultFirstClear h)

/-- FAULT_STATUS_GET (R441). -/
def execFaultStatusGet (h : Hdr) (source inst : Nat) (s : State) : Host.Outcome State Fault Refusal :=
  .next (s.serve (cmdFaultStatusGet source inst) h)

/-- UNIT_RETIRE (R425). -/
def execUnitRetire (h : Hdr) (u : UnitRef) (s : State) : Host.Outcome State Fault Refusal :=
  .next (s.serve (cmdUnitRetire u) h)

/-- UNIT_FENCE (R429). -/
def execUnitFence (h : Hdr) (u : UnitRef) (s : State) : Host.Outcome State Fault Refusal :=
  .next (s.serve (cmdUnitFence u) h)

/-- UNIT_RESTORE (R429). -/
def execUnitRestore (h : Hdr) (u : UnitRef) (s : State) : Host.Outcome State Fault Refusal :=
  .next (s.serve (cmdUnitRestore u) h)

/-- FAULT_STATS_GET (R440). -/
def execFaultStatsGet (h : Hdr) (sel : StatsSel) (clear : Bool) (s : State) : Host.Outcome State Fault Refusal :=
  .next (s.serve (cmdFaultStatsGet sel clear) h)

/-- FAULT_INJECT (R437). -/
def execFaultInject (h : Hdr) (s : State) : Host.Outcome State Fault Refusal :=
  .next (s.serve cmdFaultInject h)

/-! ## Twin and ring (R412) -/

/-- TWIN_BIND (R398). -/
def execTwinBind (h : Hdr) (role peer : Nat) (peerId : BitVec 384) (s : State) : Host.Outcome State Fault Refusal :=
  .next (s.serve (cmdTwinBind role peer peerId) h)

/-- TWIN_UNBIND (R398). -/
def execTwinUnbind (h : Hdr) (s : State) : Host.Outcome State Fault Refusal :=
  .next (s.serve cmdTwinUnbind h)

/-- TWIN_JOIN (R404). -/
def execTwinJoin (h : Hdr) (s : State) : Host.Outcome State Fault Refusal :=
  .next (s.serve cmdTwinJoin h)

/-- TWIN_DETACH (R406). -/
def execTwinDetach (h : Hdr) (s : State) : Host.Outcome State Fault Refusal :=
  .next (s.serve cmdTwinDetach h)

/-- TWIN_ROLE_SWAP (R406). -/
def execTwinRoleSwap (h : Hdr) (s : State) : Host.Outcome State Fault Refusal :=
  .next (s.serve cmdTwinRoleSwap h)

/-- TWIN_DRAIN (R406). -/
def execTwinDrain (h : Hdr) (on : Bool) (s : State) : Host.Outcome State Fault Refusal :=
  .next (s.serve (cmdTwinDrain on) h)

/-- TWIN_NOTIFY_SET (R403). -/
def execTwinNotifySet (h : Hdr) (r : NotifyRec) (fields : BitVec 8) (s : State) : Host.Outcome State Fault Refusal :=
  .next (s.serve (cmdTwinNotifySet r fields) h)

/-- TWIN_STATUS_GET (R412). -/
def execTwinStatusGet (h : Hdr) (s : State) : Host.Outcome State Fault Refusal :=
  .next (s.serve cmdTwinStatusGet h)

/-- RING_STATUS_GET (R412). -/
def execRingStatusGet (h : Hdr) (s : State) : Host.Outcome State Fault Refusal :=
  .next (s.serve cmdRingStatusGet h)

/-- RING_ENUMERATE (R408). -/
def execRingEnumerate (h : Hdr) (s : State) : Host.Outcome State Fault Refusal :=
  .next (s.serve cmdRingEnumerate h)

/-- TWIN_STATS_GET (R411). -/
def execTwinStatsGet (h : Hdr) (clear : Bool) (s : State) : Host.Outcome State Fault Refusal :=
  .next (s.serve (cmdTwinStatsGet clear) h)

/-! ## Security (R477) and the Armature (R391) -/

/-- ARM_PATCH_LOAD (R386). -/
def execArmPatchLoad (h : Hdr) (first rest : List Byte) (s : State) : Host.Outcome State Fault Refusal :=
  .next (s.serve (cmdArmPatchLoad (first ++ rest)) h)

/-- ARM_PATCH_ACTIVATE (R387). -/
def execArmPatchActivate (h : Hdr) (s : State) : Host.Outcome State Fault Refusal :=
  .next (s.serve cmdArmPatchActivate h)

/-- ARM_PATCH_REVERT (R386). -/
def execArmPatchRevert (h : Hdr) (s : State) : Host.Outcome State Fault Refusal :=
  .next (s.serve cmdArmPatchRevert h)

/-- ARM_PATCH_STATUS_GET (R391). -/
def execArmPatchStatusGet (h : Hdr) (s : State) : Host.Outcome State Fault Refusal :=
  .next (s.serve cmdArmPatchStatusGet h)

/-- ARM_ENGINE_SET (R384). -/
def execArmEngineSet (h : Hdr) (restart live : Option Nat) (s : State) : Host.Outcome State Fault Refusal :=
  .next (s.serve (cmdArmEngineSet restart live) h)

/-- ARM_ENGINE_STATUS_GET (R391). -/
def execArmEngineStatusGet (h : Hdr) (engine : Nat) (s : State) : Host.Outcome State Fault Refusal :=
  .next (s.serve (cmdArmEngineStatusGet engine) h)

/-- ARM_ENGINE_RESTORE (R389). -/
def execArmEngineRestore (h : Hdr) (engine : Nat) (s : State) : Host.Outcome State Fault Refusal :=
  .next (s.serve (cmdArmEngineRestore engine) h)

/-- ARM_STATS_GET (R390). -/
def execArmStatsGet (h : Hdr) (engine : Nat) (clear : Bool) (s : State) : Host.Outcome State Fault Refusal :=
  .next (s.serve (cmdArmStatsGet engine clear) h)

/-- BOOT_STATUS_GET (R469). -/
def execBootStatusGet (h : Hdr) (s : State) : Host.Outcome State Fault Refusal :=
  .next (s.serve cmdBootStatusGet h)

/-- FW_PUSH (R468). -/
def execFwPush (h : Hdr) (offset : Nat) (chunk : List Byte) (s : State) : Host.Outcome State Fault Refusal :=
  .next (s.serve (cmdFwPush offset chunk) h)

/-- FW_PUSH_DONE (R468). -/
def execFwPushDone (h : Hdr) (high low : BitVec 32) (s : State) : Host.Outcome State Fault Refusal :=
  .next (s.serve (cmdFwPushDone (high ++ low).toNat) h)

/-- FW_FLASH_WRITE (R470). -/
def execFwFlashWrite (h : Hdr) (offset : Nat) (chunk : List Byte) (s : State) : Host.Outcome State Fault Refusal :=
  .next (s.serve (cmdFwFlashWrite offset chunk) h)

/-- FW_FLASH_COMMIT (R470). -/
def execFwFlashCommit (h : Hdr) (high low : BitVec 32) (s : State) : Host.Outcome State Fault Refusal :=
  .next (s.serve (cmdFwFlashCommit (high ++ low).toNat) h)

/-- FW_RESTART (R470). The restart follows the reply (R470). -/
def execFwRestart (h : Hdr) (s : State) : Host.Outcome State Fault Refusal :=
  let t := s.serve cmdFwRestart h
  .next (if t.sec.restarting then t.coreReset .reset else t)

/-- SVN_ADVANCE (R470). -/
def execSvnAdvance (h : Hdr) (v : Nat) (s : State) : Host.Outcome State Fault Refusal :=
  .next (s.serve (cmdSvnAdvance v) h)

/-- KEY_REVOKE (R470). -/
def execKeyRevoke (h : Hdr) (lms : Bool) (slot : Nat) (s : State) : Host.Outcome State Fault Refusal :=
  .next (s.serve (cmdKeyRevoke lms slot) h)

/-- IDENTITY_CERT_GET (R472). -/
def execIdentityCertGet (h : Hdr) (s : State) : Host.Outcome State Fault Refusal :=
  .next (s.serve cmdIdentityCertGet h)

/-- MEASUREMENT_GET (R473). -/
def execMeasurementGet (h : Hdr) (s : State) : Host.Outcome State Fault Refusal :=
  .next (s.serve cmdMeasurementGet h)

/-- ATTEST_REPORT_GET (R475). -/
def execAttestReportGet (h : Hdr) (nonce : BitVec 384) (s : State) : Host.Outcome State Fault Refusal :=
  .next (s.serve (cmdAttestReportGet nonce) h)

end Sys2Proof.Machine
end

