-- ==== Sys2Proof/Machine/Tick.lean ====
section
/-! DEFINITION. The core clock, the tick and the epoch boundary (R11 to R14, R19 to R26, spec/01_architecture.md). -/

namespace Sys2Proof.Machine

/-! ## Clocks -/

/-- The present clock ends: its event records for the root go out, and `n` core clocks pass for the time domains and the core
clock. -/
def State.pass (s : State) (n : Nat) : State :=
  { s.flushEvents.advanceTime n with clock.now := s.clock.now + n }

/-- The Gatehouse's count while the core is held: it starts with the first release (R12, R13). -/
def Clock.tallyOne (c : Clock) : Clock :=
  if !c.released then c
  else if c.tallyClock = 2047 then { c with tallyClock := 0, tally := c.tally + 1 }
  else { c with tallyClock := c.tallyClock + 1 }

/-! ## Ticks -/

/-- Each of `n` ticks that start with more than 448 cells in a slice's stage A queue (R237). -/
def State.countFull (s : State) (n : Nat) : State :=
  (List.range 16).foldl (fun s i => if s.stageAHigh (i * 4) then s.bumpBy .stageAFull i n else s) s

/-- Cells of admitted packets that have come join the stage A queues (R196, R236). -/
def State.streamAll (s : State) : State :=
  (s.pk.pkts.keysWhere fun _ x => match x with
    | some p => p.admitted && decide (p.queued < p.cells.length)
    | none => false).foldl (fun s pid => s.streamCells pid) s

/-- Packets without a tag whose verdicts have reached the pipe resolve (R30, R192). -/
def State.resolveHeld (s : State) : State :=
  (s.pk.pkts.keysWhere fun _ x => match x with
    | some p => p.tag.isNone && p.verdict == .none
    | none => false).foldl (fun s pid => s.resolveUntagged pid) s

/-- The watchdogs of every queue that holds something or has a timer (R311). -/
def State.watchQueues (s : State) : State :=
  ((s.pk.queues.map fun e => e.1) ++ s.eg.queues.map fun e => e.1).foldl (fun s q => s.watchQueue q) s

/-- The end of a tick: the push-outs still due, the slots not used, and the counts that decisions of the next tick see (R217, R225,
R247, R335). -/
def State.tickEnd (s : State) : State :=
  let s := (s.runPushDue 64).accountIdle
  { s with pk := { s.pk with prev := s.pk.now, before := s.lookBefore } }

/-- A tick starts at the present clock: domains are sampled, and a full stage A queue is counted (R237, R266). -/
def State.tickMark (s : State) : State :=
  let s := { s with clock.tickAt := s.clock.now }
  ((List.range 8).foldl (fun s d => s.modDomain d fun x => { x with sample := x.value }) s).countFull 1

/-- The first work of a tick: releases of locks and event-counter records take effect, cells and verdicts that have come are taken,
queues are watched (R18, R183, R311, R331). -/
def State.tickWork (s : State) : State := s.endLocks.settlePerf.streamAll.resolveHeld.admitDirects.watchQueues

/-- A tick within an epoch begins. -/
def State.tickBegin (s : State) : State := s.tickMark.tickWork

/-! ## The epoch boundary -/

/-- In tick 1,023 each bank group in which a request was deferred raises BANK_DEFER, with its lowest such bank (R139). -/
def State.raiseDefers (s : State) : State :=
  let t := s.tables.deferEpoch.foldl (fun t (e : Nat × Option Nat) =>
    match e.2 with | some b => t.note e.1 b 0 | none => t) s
  { t with tables := { t.tables with deferEpoch := [] } }

/-- VERSION_RETIRE: versions no longer current with nothing in flight; STAMP_SETTLE for the new oldest (R126, R131). -/
def State.retireVersions (s : State) : State :=
  let gone := s.rules.older.filter fun v => s.inFlight v.toNat == 0
  if gone.isEmpty then s
  else
    let t := { s with rules := { s.rules with older := s.rules.older.filter fun v => s.inFlight v.toNat != 0 } }
    let t := gone.foldl (fun t v => t.note srcVersionRetired 0 (v.setWidth 64)) t
    t.settleAll t.oldestLive

/-- Every change due applies, in order of acceptance, before any work of tick 0 (R19, R20). -/
def State.applyDue (s : State) : State :=
  let due := s.changes.filter fun p => decide (p.epoch ≤ s.clock.epoch)
  let t := { s with changes := s.changes.filter fun p => decide (s.clock.epoch < p.epoch) }
  let t := due.foldl (fun t p => if t.clock.running then t.applyChange p.change else t) t
  if t.clock.running then t.settlePoint s.power.op (due.any fun p => p.change.isDemand) else t

/-- The number of the next epoch: one more, or the LEAD's at the end of an alignment (R12, R282). -/
def State.nextEpoch (s : State) : Nat :=
  if s.twin.joinStep = 3 then max (s.clock.epoch + 1) s.twin.joinEpoch else s.clock.epoch + 1

/-- What the device does at every boundary beside the changes due (R254, R315, R403, R444, R484). -/
def State.boundaryWork (s : State) : State :=
  if s.clock.running then s.enterConfigure.sendBeat.settleVoltage.sweepJoin else s

/-- Step 3 of the retirements whose drain ended before this boundary, ahead of the changes that take effect at it (R253). -/
def State.elemEnd (s : State) : State := if s.clock.running then s.elemBoundary else s

/-- EPOCH_BOUNDARY on the last clock of an epoch: queue samples and deferrals of the epoch that ends, then the new epoch
with its changes before any work of its tick 0 (R12, R19). -/
def State.newEpoch (s : State) (r : Readings) : State :=
  let ended := s.clock.epoch
  let t := s.raiseDefers.sampleQueues
  let t := t.tickEnd
  let t := { t with clock := { t.clock with epoch := s.nextEpoch, tick := 0, k := 0 } }
  let t := { t.tickMark with tel.td0At := (t.domain 0).frac }
  ((t.takeReadings r ended).retireVersions.elemEnd.applyDue).tickWork.boundaryWork

/-! ## Clock by clock, and straight to the boundary -/

/-- What the present clock of the running core ends with: counters, reports of a tick that ends, the passing of time. -/
def State.clockEnd (s : State) : State :=
  let n := s.clockNo
  let began := s.clock.k == 0
  let e := s.span n (n + 1)
  let t := s.perfClocks e 1 (b2n (began && s.worked)) (b2n (began && !s.worked))
  ((if s.clock.k = 0 then t else t.captureReports).pass e).endAllFlows

/-- One clock of the running core. An unnumbered tick repeats the present tick's number (R282). -/
def State.oneClock (s : State) : State :=
  let t := s.clockEnd
  if s.clock.k = 0 then { t with clock.k := 1 }
  else if 0 < s.clock.stretch then
    State.tickBegin { t.tickEnd with clock := { t.tickEnd.clock with stretch := s.clock.stretch - 1, k := 0 } }
  else if s.clock.tick = 1023 then t.newEpoch s.clock.last
  else State.tickBegin { t.tickEnd with clock := { t.tickEnd.clock with tick := s.clock.tick + 1, k := 0 } }

/-- What an empty queue's step does: one core clock passes, in the core or, where it is held, in the Gatehouse (log 6). -/
def State.idle (s : State) : State :=
  if s.clock.running then s.oneClock
  else { s.pass 1 with clock := { s.clock.tallyOne with now := s.clock.now + 1 } }

/-- The clock is the last of its epoch. -/
def Clock.atLast (c : Clock) : Bool := c.tick == 1023 && c.k == 1 && c.stretch == 0

/-- Clocks with no command in them pass, `fuel` at most, up to the last clock of the epoch. -/
def State.runClocks (fuel : Nat) (s : State) : State :=
  match fuel with
  | 0 => s
  | fuel + 1 => if s.clock.atLast || !s.clock.running then s else s.oneClock.runClocks fuel

/-- The clocks left in the epoch pass, one by one. -/
def State.toLastClock (s : State) : State := s.runClocks (2 * (1024 + s.clock.stretch))

/-- EPOCH_BOUNDARY (R19): the rest of the epoch passes, and the next one begins with the readings taken at its boundary
(log 6). -/
def execEpochBoundary (r : Readings) (s : State) : Host.Outcome State Fault Refusal :=
  .next (if s.clock.running then
      let t := s.toLastClock
      if t.clock.running then t.clockEnd.newEpoch r else t
    else s)

end Sys2Proof.Machine
end

