-- ==== Sys2Proof/Machine/Dispatch.lean ====
section
/-! DEFINITION. One arm per command: the meaning it calls. -/

namespace Sys2Proof.Machine

def exec (i : Instr) (s : State) : Host.Outcome State Fault Refusal :=
  match i with
  | .epochBoundary r => Sys2Proof.Machine.execEpochBoundary r s
  | .ingressPipeSlot pipe ready0 ready1 => Sys2Proof.Machine.execIngressPipeSlot pipe ready0 ready1 s
  | .packetEntry port fid f => Sys2Proof.Machine.execPacketEntry port fid f s
  | .bankCycleServe store bank => Sys2Proof.Machine.execBankCycleServe store bank s
  | .lookupResult req => Sys2Proof.Machine.execLookupResult req s
  | .ingressDecision pid => Sys2Proof.Machine.execIngressDecision pid s
  | .cloisterReturn pid => Sys2Proof.Machine.execCloisterReturn pid s
  | .macRxFrameEnd port fid f => Sys2Proof.Machine.execMacRxFrameEnd port fid f s
  | .macControlFrameRx port c => Sys2Proof.Machine.execMacControlFrameRx port c s
  | .pauseTimerExpiry port timer => Sys2Proof.Machine.execPauseTimerExpiry port timer s
  | .xoffRequest port prio => Sys2Proof.Machine.execXoffRequest port prio s
  | .xoffResend port prio => Sys2Proof.Machine.execXoffResend port prio s
  | .icvVerdict pid ok => Sys2Proof.Machine.execIcvVerdict pid ok s
  | .tagResolve tag => Sys2Proof.Machine.execTagResolve tag s
  | .rollbackZeroWrite tag => Sys2Proof.Machine.execRollbackZeroWrite tag s
  | .rollbackFree tag => Sys2Proof.Machine.execRollbackFree tag s
  | .specTagReturn tag => Sys2Proof.Machine.execSpecTagReturn tag s
  | .admitHead pid => Sys2Proof.Machine.execAdmitHead pid s
  | .stageATransfer slice errs => Sys2Proof.Machine.execStageATransfer slice errs s
  | .freeLand part => Sys2Proof.Machine.execFreeLand part s
  | .freeListRebuildDone part bank => Sys2Proof.Machine.execFreeListRebuildDone part bank s
  | .handOver port => Sys2Proof.Machine.execHandOver port s
  | .shaperRefill => Sys2Proof.Machine.execShaperRefill s
  | .portMatch slice => Sys2Proof.Machine.execPortMatch slice s
  | .stageBRead slice part err => Sys2Proof.Machine.execStageBRead slice part err s
  | .reseqRelease slice => Sys2Proof.Machine.execReseqRelease slice s
  | .reseqTimeout cid => Sys2Proof.Machine.execReseqTimeout cid s
  | .egressEdit cid => Sys2Proof.Machine.execEgressEdit cid s
  | .macFrameStart port pcsPs => Sys2Proof.Machine.execMacFrameStart port pcsPs s
  | .txFrameEnd port sent => Sys2Proof.Machine.execTxFrameEnd port sent s
  | .cipherBlockMismatch engine agree obj => Sys2Proof.Machine.execCipherBlockMismatch engine agree obj s
  | .laMessageRequest m => Sys2Proof.Machine.execLaMessageRequest m s
  | .laMessageComplete => Sys2Proof.Machine.execLaMessageComplete s
  | .laPriorityAge id => Sys2Proof.Machine.execLaPriorityAge id s
  | .laneCalibrationDone tile failed => Sys2Proof.Machine.execLaneCalibrationDone tile failed s
  | .laneStateAdvance lane inverted fir => Sys2Proof.Machine.execLaneStateAdvance lane inverted fir s
  | .laneBringupTimeout lane => Sys2Proof.Machine.execLaneBringupTimeout lane s
  | .laneLos lane => Sys2Proof.Machine.execLaneLos lane s
  | .laneCdrUnlock lane => Sys2Proof.Machine.execLaneCdrUnlock lane s
  | .laneAmLoss lane => Sys2Proof.Machine.execLaneAmLoss lane s
  | .laneRestartHoldoff lane => Sys2Proof.Machine.execLaneRestartHoldoff lane s
  | .laneRecovered lane => Sys2Proof.Machine.execLaneRecovered lane s
  | .laneOrderWindowEnd octet evidence => Sys2Proof.Machine.execLaneOrderWindowEnd octet evidence s
  | .laneSerIntervalEnd lane symErr => Sys2Proof.Machine.execLaneSerIntervalEnd lane symErr s
  | .eyeScanPointDone lane count => Sys2Proof.Machine.execEyeScanPointDone lane count s
  | .anResolve port partner => Sys2Proof.Machine.execAnResolve port partner s
  | .rawLinkChange port aligned localFault remoteFault => Sys2Proof.Machine.execRawLinkChange port aligned localFault remoteFault s
  | .linkDownDebounceExpiry port => Sys2Proof.Machine.execLinkDownDebounceExpiry port s
  | .linkUpDebounceExpiry port => Sys2Proof.Machine.execLinkUpDebounceExpiry port s
  | .portDownPolicy port => Sys2Proof.Machine.execPortDownPolicy port s
  | .portHoldExpired port => Sys2Proof.Machine.execPortHoldExpired port s
  | .pfcWatchdog queue => Sys2Proof.Machine.execPfcWatchdog queue s
  | .pfcWdRestored queue => Sys2Proof.Machine.execPfcWdRestored queue s
  | .gateTakeover port => Sys2Proof.Machine.execGateTakeover port s
  | .gateTransition port => Sys2Proof.Machine.execGateTransition port s
  | .timeEventReach domain => Sys2Proof.Machine.execTimeEventReach domain s
  | .hostWdExpiry domain => Sys2Proof.Machine.execHostWdExpiry domain s
  | .holdMaxExpiry domain => Sys2Proof.Machine.execHoldMaxExpiry domain s
  | .ppsOutEdge pin => Sys2Proof.Machine.execPpsOutEdge pin s
  | .ppsOutEdgeEnd pin => Sys2Proof.Machine.execPpsOutEdgeEnd pin s
  | .ppsInEdge pin widthNs => Sys2Proof.Machine.execPpsInEdge pin widthNs s
  | .ppsInLost pin => Sys2Proof.Machine.execPpsInLost pin s
  | .ref10mGateEnd offset => Sys2Proof.Machine.execRef10mGateEnd offset s
  | .ref10mLost => Sys2Proof.Machine.execRef10mLost s
  | .timeSnapshotCapture byWrite byPps => Sys2Proof.Machine.execTimeSnapshotCapture byWrite byPps s
  | .streamIntervalClose stream => Sys2Proof.Machine.execStreamIntervalClose stream s
  | .exportPacketGenerate stream => Sys2Proof.Machine.execExportPacketGenerate stream s
  | .queueReportGenerate queue => Sys2Proof.Machine.execQueueReportGenerate queue s
  | .ruleWriteLand => Sys2Proof.Machine.execRuleWriteLand s
  | .maquetteCommitAccept => Sys2Proof.Machine.execMaquetteCommitAccept s
  | .turnstileGrant store bank writeBack => Sys2Proof.Machine.execTurnstileGrant store bank writeBack s
  | .stashWrite table => Sys2Proof.Machine.execStashWrite table s
  | .stashReinsertPeriod table => Sys2Proof.Machine.execStashReinsertPeriod table s
  | .patinaPassStart table => Sys2Proof.Machine.execPatinaPassStart table s
  | .learnService => Sys2Proof.Machine.execLearnService s
  | .scrubRead store bank found => Sys2Proof.Machine.execScrubRead store bank found s
  | .lockExpired lock => Sys2Proof.Machine.execLockExpired lock s
  | .armJobStart engine => Sys2Proof.Machine.execArmJobStart engine s
  | .microwordExecute engine found => Sys2Proof.Machine.execMicrowordExecute engine found s
  | .armMemComplete engine => Sys2Proof.Machine.execArmMemComplete engine s
  | .routineEnd engine => Sys2Proof.Machine.execRoutineEnd engine s
  | .armPatchQuiesced => Sys2Proof.Machine.execArmPatchQuiesced s
  | .armPatchActivateTimeout => Sys2Proof.Machine.execArmPatchActivateTimeout s
  | .partitionDrainEnd part => Sys2Proof.Machine.execPartitionDrainEnd part s
  | .drainLimitExpiry part => Sys2Proof.Machine.execDrainLimitExpiry part s
  | .partitionRebuildDone part => Sys2Proof.Machine.execPartitionRebuildDone part s
  | .bankSpareCopy store bank found => Sys2Proof.Machine.execBankSpareCopy store bank found s
  | .partitionBankDrained part bank => Sys2Proof.Machine.execPartitionBankDrained part bank s
  | .faultRaise source inst detail => Sys2Proof.Machine.execFaultRaise source inst detail s
  | .permanenceClear source inst => Sys2Proof.Machine.execPermanenceClear source inst s
  | .wireFault source inst => Sys2Proof.Machine.execWireFault source inst s
  | .wireUnmask source => Sys2Proof.Machine.execWireUnmask source s
  | .eccWriteBack addr => Sys2Proof.Machine.execEccWriteBack addr s
  | .msixSignal rid => Sys2Proof.Machine.execMsixSignal rid s
  | .cpuQueueDeliver ring capacity => Sys2Proof.Machine.execCpuQueueDeliver ring capacity s
  | .txDescriptorFetch ring d => Sys2Proof.Machine.execTxDescriptorFetch ring d s
  | .pipeInjectSlot pipe => Sys2Proof.Machine.execPipeInjectSlot pipe s
  | .commandFetch h opcode => Sys2Proof.Machine.execCommandFetch h opcode s
  | .relayTimeout id => Sys2Proof.Machine.execRelayTimeout id s
  | .groupPrepared => Sys2Proof.Machine.execGroupPrepared s
  | .groupPrepareTimeout => Sys2Proof.Machine.execGroupPrepareTimeout s
  | .groupAbandoned => Sys2Proof.Machine.execGroupAbandoned s
  | .colonnadeFrameRx f tagOk cwOk => Sys2Proof.Machine.execColonnadeFrameRx f tagOk cwOk s
  | .colonnadeResend => Sys2Proof.Machine.execColonnadeResend s
  | .colonnadeKeyRollover => Sys2Proof.Machine.execColonnadeKeyRollover s
  | .colonnadeHelloRx m => Sys2Proof.Machine.execColonnadeHelloRx m s
  | .mirrorRx txn opcode value => Sys2Proof.Machine.execMirrorRx txn opcode value s
  | .prepareRx txn opcode => Sys2Proof.Machine.execPrepareRx txn opcode s
  | .ackRx txn status detail epoch => Sys2Proof.Machine.execAckRx txn status detail epoch s
  | .commitRx txn epoch => Sys2Proof.Machine.execCommitRx txn epoch s
  | .twinAckTimeout txn => Sys2Proof.Machine.execTwinAckTimeout txn s
  | .followCommitDeadline txn => Sys2Proof.Machine.execFollowCommitDeadline txn s
  | .leadCommitAckCheck txn => Sys2Proof.Machine.execLeadCommitAckCheck txn s
  | .heartbeatRx role state version lastTxn => Sys2Proof.Machine.execHeartbeatRx role state version lastTxn s
  | .heartbeatIntervalMissed => Sys2Proof.Machine.execHeartbeatIntervalMissed s
  | .planeDownFrameSend => Sys2Proof.Machine.execPlaneDownFrameSend s
  | .twinTimeRx t m => Sys2Proof.Machine.execTwinTimeRx t m s
  | .epochAlign m extra => Sys2Proof.Machine.execEpochAlign m extra s
  | .resyncStart => Sys2Proof.Machine.execResyncStart s
  | .resyncRx id payload => Sys2Proof.Machine.execResyncRx id payload s
  | .resyncDigestCompare peer peerConfig peerCount => Sys2Proof.Machine.execResyncDigestCompare peer peerConfig peerCount s
  | .twinThrottleRx n => Sys2Proof.Machine.execTwinThrottleRx n s
  | .ringFrameRx west f => Sys2Proof.Machine.execRingFrameRx west f s
  | .relayedCommandRx src h opcode => Sys2Proof.Machine.execRelayedCommandRx src h opcode s
  | .ringReplyRx id status rest result addr => Sys2Proof.Machine.execRingReplyRx id status rest result addr s
  | .ringEventRx dev ring record => Sys2Proof.Machine.execRingEventRx dev ring record s
  | .ringThrottleRx src n => Sys2Proof.Machine.execRingThrottleRx src n s
  | .ringEnumRx src west hops => Sys2Proof.Machine.execRingEnumRx src west hops s
  | .ringEnumReplyRx replies => Sys2Proof.Machine.execRingEnumReplyRx replies s
  | .ringJoinRx src => Sys2Proof.Machine.execRingJoinRx src s
  | .ringEnumeratePeriod => Sys2Proof.Machine.execRingEnumeratePeriod s
  | .ringBreak west => Sys2Proof.Machine.execRingBreak west s
  | .ringRestored west => Sys2Proof.Machine.execRingRestored west s
  | .ringWakeDetect => Sys2Proof.Machine.execRingWakeDetect s
  | .wakeWaveEnd west => Sys2Proof.Machine.execWakeWaveEnd west s
  | .governorDecision => Sys2Proof.Machine.execGovernorDecision s
  | .avsAck => Sys2Proof.Machine.execAvsAck s
  | .avsSettle => Sys2Proof.Machine.execAvsSettle s
  | .avsWriteFail => Sys2Proof.Machine.execAvsWriteFail s
  | .avsRetryPeriod => Sys2Proof.Machine.execAvsRetryPeriod s
  | .thermalComparatorTrip tc tj => Sys2Proof.Machine.execThermalComparatorTrip tc tj s
  | .timeCompareTrip cmp => Sys2Proof.Machine.execTimeCompareTrip cmp s
  | .supplyLow cmp mv => Sys2Proof.Machine.execSupplyLow cmp mv s
  | .extLevelTrip cmp mv => Sys2Proof.Machine.execExtLevelTrip cmp mv s
  | .wakeNLow => Sys2Proof.Machine.execWakeNLow s
  | .thermtrip => Sys2Proof.Machine.execThermtrip s
  | .gatehouseClockLost => Sys2Proof.Machine.execGatehouseClockLost s
  | .gatehousePowerUp => Sys2Proof.Machine.execGatehousePowerUp s
  | .perstAssert => Sys2Proof.Machine.execPerstAssert s
  | .coreResetRelease straps railsMv clockStable => Sys2Proof.Machine.execCoreResetRelease straps railsMv clockStable s
  | .arrayInitDone => Sys2Proof.Machine.execArrayInitDone s
  | .bootRomStart romOk fusesOk leafBurnOk romHash slotA slotB => Sys2Proof.Machine.execBootRomStart romOk fusesOk leafBurnOk romHash slotA slotB s
  | .firmwareStart => Sys2Proof.Machine.execFirmwareStart s
  | .firmwareInitDone seedHigh seedLow => Sys2Proof.Machine.execFirmwareInitDone seedHigh seedLow s
  | .hssTreeReady => Sys2Proof.Machine.execHssTreeReady s
  | .pcieFunctionReset func linkDown => Sys2Proof.Machine.execPcieFunctionReset func linkDown s
  | .ringDoorbellWrite func rid value => Sys2Proof.Machine.execRingDoorbellWrite func rid value s
  | .ringControlWrite func rid value => Sys2Proof.Machine.execRingControlWrite func rid value s
  | .eventStatusW1c group mask raisedSameClock => Sys2Proof.Machine.execEventStatusW1c group mask raisedSameClock s
  | .tableLockReleaseWrite func mask => Sys2Proof.Machine.execTableLockReleaseWrite func mask s
  | .turnstileTicketsWrite value => Sys2Proof.Machine.execTurnstileTicketsWrite value s
  | .turnstileStarvedW1c mask => Sys2Proof.Machine.execTurnstileStarvedW1c mask s
  | .snapTrigger value => Sys2Proof.Machine.execSnapTrigger value s
  | .perfFreezeWrite value => Sys2Proof.Machine.execPerfFreezeWrite value s
  | .firstErrorValidW1c value => Sys2Proof.Machine.execFirstErrorValidW1c value s
  | .counterLowHalfRead func r => Sys2Proof.Machine.execCounterLowHalfRead func r s
  | .bar0Violation kind func width offset write => Sys2Proof.Machine.execBar0Violation kind func width offset write s
  | .registerWrite func offset width value => Sys2Proof.Machine.execRegisterWrite func offset width value s
  | .smbusBlockRead code => Sys2Proof.Machine.execSmbusBlockRead code s
  | .jtagInstruction instr => Sys2Proof.Machine.execJtagInstruction instr s
  | .hello h lowMaj lowMin highMaj highMin telemetry => Sys2Proof.Machine.execHello h lowMaj lowMin highMaj highMin telemetry s
  | .goodbye h => Sys2Proof.Machine.execGoodbye h s
  | .deviceStateGet h => Sys2Proof.Machine.execDeviceStateGet h s
  | .deviceStateSet h target => Sys2Proof.Machine.execDeviceStateSet h target s
  | .cpuQueueMapSet h queue ring => Sys2Proof.Machine.execCpuQueueMapSet h queue ring s
  | .eventRouteSet h group enable ring => Sys2Proof.Machine.execEventRouteSet h group enable ring s
  | .eventStatusGet h group => Sys2Proof.Machine.execEventStatusGet h group s
  | .eventStatusClear h group mask => Sys2Proof.Machine.execEventStatusClear h group mask s
  | .sessionStatsGet h sel clear => Sys2Proof.Machine.execSessionStatsGet h sel clear s
  | .echo h data => Sys2Proof.Machine.execEcho h data s
  | .groupOpen h => Sys2Proof.Machine.execGroupOpen h s
  | .groupCommit h target => Sys2Proof.Machine.execGroupCommit h target s
  | .groupDiscard h => Sys2Proof.Machine.execGroupDiscard h s
  | .groupStatusGet h => Sys2Proof.Machine.execGroupStatusGet h s
  | .portModeSet h octet rate mask => Sys2Proof.Machine.execPortModeSet h octet rate mask s
  | .portConfigSet h port record fields => Sys2Proof.Machine.execPortConfigSet h port record fields s
  | .portEnable h port on => Sys2Proof.Machine.execPortEnable h port on s
  | .portStatusGet h port => Sys2Proof.Machine.execPortStatusGet h port s
  | .portStatsGet h port clear => Sys2Proof.Machine.execPortStatsGet h port clear s
  | .octetLayoutGet h octet => Sys2Proof.Machine.execOctetLayoutGet h octet s
  | .laneConfigSet h lane record fields trainMs serExp holdoffMs => Sys2Proof.Machine.execLaneConfigSet h lane record fields trainMs serExp holdoffMs s
  | .laneStatusGet h lane => Sys2Proof.Machine.execLaneStatusGet h lane s
  | .laneStatsGet h lane clear => Sys2Proof.Machine.execLaneStatsGet h lane clear s
  | .eyeScanStart h lane eye phaseStart phaseStep phaseCount voltStart voltStep voltCount dwellExp => Sys2Proof.Machine.execEyeScanStart h lane eye phaseStart phaseStep phaseCount voltStart voltStep voltCount dwellExp s
  | .eyeScanRead h scan first count => Sys2Proof.Machine.execEyeScanRead h scan first count s
  | .eyeScanAbort h scan => Sys2Proof.Machine.execEyeScanAbort h scan s
  | .laneRetire h lane => Sys2Proof.Machine.execLaneRetire h lane s
  | .laneRestore h lane passes => Sys2Proof.Machine.execLaneRestore h lane passes s
  | .lanePrbsSet h lane gen chk => Sys2Proof.Machine.execLanePrbsSet h lane gen chk s
  | .laneLoopbackSet h lane mode => Sys2Proof.Machine.execLaneLoopbackSet h lane mode s
  | .octetOrderSet h octet mode => Sys2Proof.Machine.execOctetOrderSet h octet mode s
  | .tableCreate h table r => Sys2Proof.Machine.execTableCreate h table r s
  | .tableDelete h table => Sys2Proof.Machine.execTableDelete h table s
  | .tableStatusGet h table => Sys2Proof.Machine.execTableStatusGet h table s
  | .tableSeedSet h table seed0 seed1 => Sys2Proof.Machine.execTableSeedSet h table seed0 seed1 s
  | .emEntryAdd h table key data static => Sys2Proof.Machine.execEmEntryAdd h table key data static s
  | .emEntryDelete h table key => Sys2Proof.Machine.execEmEntryDelete h table key s
  | .emEntryRead h table key addr => Sys2Proof.Machine.execEmEntryRead h table key addr s
  | .directWrite h table index slot => Sys2Proof.Machine.execDirectWrite h table index slot s
  | .prefixAdd h family vrf length addr result => Sys2Proof.Machine.execPrefixAdd h family vrf length addr result s
  | .prefixDelete h family vrf length addr => Sys2Proof.Machine.execPrefixDelete h family vrf length addr s
  | .prefixRead h family vrf length addr version => Sys2Proof.Machine.execPrefixRead h family vrf length addr version s
  | .lpmSeedSet h seed => Sys2Proof.Machine.execLpmSeedSet h seed s
  | .emProfileSet h prof r => Sys2Proof.Machine.execEmProfileSet h prof r s
  | .lpmProfileSet h prof r => Sys2Proof.Machine.execLpmProfileSet h prof r s
  | .nexthopTableSet h table => Sys2Proof.Machine.execNexthopTableSet h table s
  | .counterRead h first count clear => Sys2Proof.Machine.execCounterRead h first count clear s
  | .counterClear h first count => Sys2Proof.Machine.execCounterClear h first count s
  | .lookupStatsGet h sel clear => Sys2Proof.Machine.execLookupStatsGet h sel clear s
  | .lockAcquire h firstBank bankCount firstBucket bucketCount lease => Sys2Proof.Machine.execLockAcquire h firstBank bankCount firstBucket bucketCount lease s
  | .lockRenew h lock lease => Sys2Proof.Machine.execLockRenew h lock lease s
  | .lockRelease h lock => Sys2Proof.Machine.execLockRelease h lock s
  | .lockStatusGet h lock => Sys2Proof.Machine.execLockStatusGet h lock s
  | .tableDmaWrite h lock bank firstBucket count images => Sys2Proof.Machine.execTableDmaWrite h lock bank firstBucket count images s
  | .tableDmaRead h bank firstBucket count hostAddr => Sys2Proof.Machine.execTableDmaRead h bank firstBucket count hostAddr s
  | .tableUpkeepSet h table r fields => Sys2Proof.Machine.execTableUpkeepSet h table r fields s
  | .scrubSet h period => Sys2Proof.Machine.execScrubSet h period s
  | .upkeepStatsGet h sel clear => Sys2Proof.Machine.execUpkeepStatsGet h sel clear s
  | .maquetteOpen h => Sys2Proof.Machine.execMaquetteOpen h s
  | .maquetteCommit h target => Sys2Proof.Machine.execMaquetteCommit h target s
  | .maquetteDiscard h => Sys2Proof.Machine.execMaquetteDiscard h s
  | .ruleAdd h r => Sys2Proof.Machine.execRuleAdd h r s
  | .objectDelete h kind index => Sys2Proof.Machine.execObjectDelete h kind index s
  | .ruleRead h kind slot => Sys2Proof.Machine.execRuleRead h kind slot s
  | .rangeSet h cmp extract low high => Sys2Proof.Machine.execRangeSet h cmp extract low high s
  | .parseEntrySet h slot record => Sys2Proof.Machine.execParseEntrySet h slot record s
  | .keyProfileSet h dir id extracts rangeGroup => Sys2Proof.Machine.execKeyProfileSet h dir id extracts rangeGroup s
  | .editProfileSet h id ops => Sys2Proof.Machine.execEditProfileSet h id ops s
  | .templateSet h id bytes => Sys2Proof.Machine.execTemplateSet h id bytes s
  | .mirrorSessionSet h session toCpu dest trunc => Sys2Proof.Machine.execMirrorSessionSet h session toCpu dest trunc s
  | .egressBind h port profile => Sys2Proof.Machine.execEgressBind h port profile s
  | .versionStatusGet h => Sys2Proof.Machine.execVersionStatusGet h s
  | .parseStatsGet h pipe clear => Sys2Proof.Machine.execParseStatsGet h pipe clear s
  | .queueModeSet h octet q16 => Sys2Proof.Machine.execQueueModeSet h octet q16 s
  | .queueSchedSet h queue record fields => Sys2Proof.Machine.execQueueSchedSet h queue record fields s
  | .queueSchedGet h queue => Sys2Proof.Machine.execQueueSchedGet h queue s
  | .shaperSet h isPort index record => Sys2Proof.Machine.execShaperSet h isPort index record s
  | .shaperGet h isPort index => Sys2Proof.Machine.execShaperGet h isPort index s
  | .portSchedSet h port record fields => Sys2Proof.Machine.execPortSchedSet h port record fields s
  | .tcMapSet h port map => Sys2Proof.Machine.execTcMapSet h port map s
  | .portSchedGet h port => Sys2Proof.Machine.execPortSchedGet h port s
  | .gateListSet h port g => Sys2Proof.Machine.execGateListSet h port g s
  | .gateListClear h port => Sys2Proof.Machine.execGateListClear h port s
  | .gateStatusGet h port => Sys2Proof.Machine.execGateStatusGet h port s
  | .egressStatsGet h isPort index clear => Sys2Proof.Machine.execEgressStatsGet h isPort index clear s
  | .bufferPoolSet h sizes pushout => Sys2Proof.Machine.execBufferPoolSet h sizes pushout s
  | .bufferPoolGet h => Sys2Proof.Machine.execBufferPoolGet h s
  | .queueAdmitSet h queue record fields => Sys2Proof.Machine.execQueueAdmitSet h queue record fields s
  | .queueAdmitGet h queue => Sys2Proof.Machine.execQueueAdmitGet h queue s
  | .pgSet h port prio xoff xon headroom => Sys2Proof.Machine.execPgSet h port prio xoff xon headroom s
  | .bufferStatsGet h sel clear => Sys2Proof.Machine.execBufferStatsGet h sel clear s
  | .bufferCellRead h first count => Sys2Proof.Machine.execBufferCellRead h first count s
  | .trellisRetire h e drainLimit => Sys2Proof.Machine.execTrellisRetire h e drainLimit s
  | .trellisRestore h e => Sys2Proof.Machine.execTrellisRestore h e s
  | .trellisStatusGet h e => Sys2Proof.Machine.execTrellisStatusGet h e s
  | .mcastGroupSet h group self members => Sys2Proof.Machine.execMcastGroupSet h group self members s
  | .mcastGroupGet h group => Sys2Proof.Machine.execMcastGroupGet h group s
  | .mcastGroupDelete h group => Sys2Proof.Machine.execMcastGroupDelete h group s
  | .cutThroughSet h port en start => Sys2Proof.Machine.execCutThroughSet h port en start s
  | .trellisStatsGet h sel clear => Sys2Proof.Machine.execTrellisStatsGet h sel clear s
  | .timeDomainSet h domain adj hostWd holdMax => Sys2Proof.Machine.execTimeDomainSet h domain adj hostWd holdMax s
  | .timeGet h domain => Sys2Proof.Machine.execTimeGet h domain s
  | .timeSet h domain sec ns frac atPps => Sys2Proof.Machine.execTimeSet h domain sec ns frac atPps s
  | .timeStep h domain backward sec ns frac => Sys2Proof.Machine.execTimeStep h domain backward sec ns frac s
  | .timeAdjust h domain adj => Sys2Proof.Machine.execTimeAdjust h domain adj s
  | .timeHoldover h domain enter => Sys2Proof.Machine.execTimeHoldover h domain enter s
  | .timeStatusGet h domain => Sys2Proof.Machine.execTimeStatusGet h domain s
  | .timePortSet h port record fields => Sys2Proof.Machine.execTimePortSet h port record fields s
  | .timePortGet h port => Sys2Proof.Machine.execTimePortGet h port s
  | .ppsSet h pin dir domain activeLow offsetNs widthNs => Sys2Proof.Machine.execPpsSet h pin dir domain activeLow offsetNs widthNs s
  | .ppsRead h pin count => Sys2Proof.Machine.execPpsRead h pin count s
  | .timeStatsGet h isPort index clear => Sys2Proof.Machine.execTimeStatsGet h isPort index clear s
  | .cipherPortSet h port record fields => Sys2Proof.Machine.execCipherPortSet h port record fields s
  | .cipherPortGet h port => Sys2Proof.Machine.execCipherPortGet h port s
  | .scCreate h port dir sci replayProtect replayWindow pnThreshold => Sys2Proof.Machine.execScCreate h port dir sci replayProtect replayWindow pnThreshold s
  | .scSet h sc dir replayProtect replayWindow pnThreshold => Sys2Proof.Machine.execScSet h sc dir replayProtect replayWindow pnThreshold s
  | .scDelete h sc dir => Sys2Proof.Machine.execScDelete h sc dir s
  | .saInstall h p => Sys2Proof.Machine.execSaInstall h p s
  | .saDelete h sc dir an => Sys2Proof.Machine.execSaDelete h sc dir an s
  | .txSaSelect h sc an => Sys2Proof.Machine.execTxSaSelect h sc an s
  | .saStatusGet h sc dir an => Sys2Proof.Machine.execSaStatusGet h sc dir an s
  | .cipherStatsGet h sel clear => Sys2Proof.Machine.execCipherStatsGet h sel clear s
  | .cipherEngineSet h engine count windowNs => Sys2Proof.Machine.execCipherEngineSet h engine count windowNs s
  | .cipherEngineRestore h engine => Sys2Proof.Machine.execCipherEngineRestore h engine s
  | .laContextLoad h ctx kind wrapCtx key => Sys2Proof.Machine.execLaContextLoad h ctx kind wrapCtx key s
  | .laContextExport h ctx => Sys2Proof.Machine.execLaContextExport h ctx s
  | .laContextImport h ctx b => Sys2Proof.Machine.execLaContextImport h ctx b s
  | .laContextClear h ctx => Sys2Proof.Machine.execLaContextClear h ctx s
  | .laCrypt h ctx op iv aad data => Sys2Proof.Machine.execLaCrypt h ctx op iv aad data s
  | .telemetryStreamSet h stream r fields => Sys2Proof.Machine.execTelemetryStreamSet h stream r fields s
  | .telemetryStreamGet h stream => Sys2Proof.Machine.execTelemetryStreamGet h stream s
  | .queueReportSet h queue r fields => Sys2Proof.Machine.execQueueReportSet h queue r fields s
  | .ioamSet h nodeId td namespaces => Sys2Proof.Machine.execIoamSet h nodeId td namespaces s
  | .queueSampleGet h first count => Sys2Proof.Machine.execQueueSampleGet h first count s
  | .perfCounterSet h scope counter record => Sys2Proof.Machine.execPerfCounterSet h scope counter record s
  | .telemetryStatsGet h sel clear => Sys2Proof.Machine.execTelemetryStatsGet h sel clear s
  | .powerCapSet h cap window margin => Sys2Proof.Machine.execPowerCapSet h cap window margin s
  | .powerStatusGet h => Sys2Proof.Machine.execPowerStatusGet h s
  | .opHostSet h op => Sys2Proof.Machine.execOpHostSet h op s
  | .thermalSet h en => Sys2Proof.Machine.execThermalSet h en s
  | .comparatorSet h cmp f => Sys2Proof.Machine.execComparatorSet h cmp f s
  | .comparatorGet h cmp => Sys2Proof.Machine.execComparatorGet h cmp s
  | .dormantEnter h wakeNEn => Sys2Proof.Machine.execDormantEnter h wakeNEn s
  | .deviceWake h west => Sys2Proof.Machine.execDeviceWake h west s
  | .powerCompatSet h freqs => Sys2Proof.Machine.execPowerCompatSet h freqs s
  | .castTableGet h => Sys2Proof.Machine.execCastTableGet h s
  | .faultReactionSet h source f => Sys2Proof.Machine.execFaultReactionSet h source f s
  | .faultReactionGet h source => Sys2Proof.Machine.execFaultReactionGet h source s
  | .faultConfigSet h logMin firstMin isolatePorts => Sys2Proof.Machine.execFaultConfigSet h logMin firstMin isolatePorts s
  | .faultLogRead h first count => Sys2Proof.Machine.execFaultLogRead h first count s
  | .faultFirstGet h => Sys2Proof.Machine.execFaultFirstGet h s
  | .faultFirstClear h => Sys2Proof.Machine.execFaultFirstClear h s
  | .faultStatusGet h source inst => Sys2Proof.Machine.execFaultStatusGet h source inst s
  | .unitRetire h u => Sys2Proof.Machine.execUnitRetire h u s
  | .unitFence h u => Sys2Proof.Machine.execUnitFence h u s
  | .unitRestore h u => Sys2Proof.Machine.execUnitRestore h u s
  | .faultStatsGet h sel clear => Sys2Proof.Machine.execFaultStatsGet h sel clear s
  | .faultInject h => Sys2Proof.Machine.execFaultInject h s
  | .twinBind h role peer peerId => Sys2Proof.Machine.execTwinBind h role peer peerId s
  | .twinUnbind h => Sys2Proof.Machine.execTwinUnbind h s
  | .twinJoin h => Sys2Proof.Machine.execTwinJoin h s
  | .twinDetach h => Sys2Proof.Machine.execTwinDetach h s
  | .twinRoleSwap h => Sys2Proof.Machine.execTwinRoleSwap h s
  | .twinDrain h on => Sys2Proof.Machine.execTwinDrain h on s
  | .twinNotifySet h r fields => Sys2Proof.Machine.execTwinNotifySet h r fields s
  | .twinStatusGet h => Sys2Proof.Machine.execTwinStatusGet h s
  | .ringStatusGet h => Sys2Proof.Machine.execRingStatusGet h s
  | .ringEnumerate h => Sys2Proof.Machine.execRingEnumerate h s
  | .twinStatsGet h clear => Sys2Proof.Machine.execTwinStatsGet h clear s
  | .armPatchLoad h first rest => Sys2Proof.Machine.execArmPatchLoad h first rest s
  | .armPatchActivate h => Sys2Proof.Machine.execArmPatchActivate h s
  | .armPatchRevert h => Sys2Proof.Machine.execArmPatchRevert h s
  | .armPatchStatusGet h => Sys2Proof.Machine.execArmPatchStatusGet h s
  | .armEngineSet h restart live => Sys2Proof.Machine.execArmEngineSet h restart live s
  | .armEngineStatusGet h engine => Sys2Proof.Machine.execArmEngineStatusGet h engine s
  | .armEngineRestore h engine => Sys2Proof.Machine.execArmEngineRestore h engine s
  | .armStatsGet h engine clear => Sys2Proof.Machine.execArmStatsGet h engine clear s
  | .bootStatusGet h => Sys2Proof.Machine.execBootStatusGet h s
  | .fwPush h offset chunk => Sys2Proof.Machine.execFwPush h offset chunk s
  | .fwPushDone h high low => Sys2Proof.Machine.execFwPushDone h high low s
  | .fwFlashWrite h offset chunk => Sys2Proof.Machine.execFwFlashWrite h offset chunk s
  | .fwFlashCommit h high low => Sys2Proof.Machine.execFwFlashCommit h high low s
  | .fwRestart h => Sys2Proof.Machine.execFwRestart h s
  | .svnAdvance h v => Sys2Proof.Machine.execSvnAdvance h v s
  | .keyRevoke h lms slot => Sys2Proof.Machine.execKeyRevoke h lms slot s
  | .identityCertGet h => Sys2Proof.Machine.execIdentityCertGet h s
  | .measurementGet h => Sys2Proof.Machine.execMeasurementGet h s
  | .attestReportGet h nonce => Sys2Proof.Machine.execAttestReportGet h nonce s
  | .egressPipeSlot pipe ready0 ready1 => Sys2Proof.Machine.execEgressPipeSlot pipe ready0 ready1 s
  | .backgroundPortRead replica index found => Sys2Proof.Machine.execBackgroundPortRead replica index found s
  | .ringHopResend west => Sys2Proof.Machine.execRingHopResend west s
  | .laneSnrUpdate lane snr => Sys2Proof.Machine.execLaneSnrUpdate lane snr s
  | .powerDown => Sys2Proof.Machine.execPowerDown s

end Sys2Proof.Machine
end

