-- ==== Sys2Proof/WellFormed.lean ====
section
/-! DEFINITION. Commands that can stand: header fields within their widths (R343, spec/14_commands.md), and units that the
device has (R2, R10, spec/00_scope.md). A well-formed command never stops the machine. -/

namespace Sys2Proof

/-- A sender that exists: one of 16 submit rings of 8 functions, one of 64 devices, the twin (R338, R354, R399). -/
def originWf (o : Origin) : Bool :=
  match o with
  | .host ring func entry => decide (ring < 16) && decide (func < 8) && decide (entry < 65536)
  | .slait dev => decide (dev < 64)
  | .colonnade txn => decide (txn < 2 ^ 32)

/-- Header fields within their widths (R340, R343). -/
def hdrWf (h : Hdr) : Bool :=
  originWf h.origin && decide (h.verMajor < 256) && decide (h.verMinor < 256) && decide (h.target < 256)
    && decide (h.tag < 2 ^ 32) && decide (h.len < 2 ^ 32) && decide (h.cmdLen < 2 ^ 32) && decide (h.groupId < 2 ^ 32)
    && decide (h.replyLen < 2 ^ 32)

open Machine in
/-- A well-formed command. -/
def Instr.wf (i : Instr) : Bool :=
  match i with
  | .epochBoundary _ => true
  | .ingressPipeSlot pipe _ _ => decide (pipe < 64)
  | .packetEntry port _ _ => decide (port < 1024)
  | .bankCycleServe store bank => decide (bank < numBanks store)
  | .lookupResult _ => true
  | .ingressDecision _ => true
  | .cloisterReturn _ => true
  | .macRxFrameEnd port _ _ => decide (port < 1024)
  | .macControlFrameRx port _ => decide (port < 1024)
  | .pauseTimerExpiry port timer => decide (port < 1024) && decide (timer < 9)
  | .xoffRequest port prio => decide (port < 1024) && decide (prio < 8)
  | .xoffResend port prio => decide (port < 1024) && decide (prio < 8)
  | .icvVerdict _ _ => true
  | .tagResolve tag => tagOk tag
  | .rollbackZeroWrite tag => tagOk tag
  | .rollbackFree tag => tagOk tag
  | .specTagReturn tag => tagOk tag
  | .admitHead _ => true
  | .stageATransfer slice _ => decide (slice < 16)
  | .freeLand part => decide (part < 16)
  | .freeListRebuildDone part bank => decide (part < 16) && decide (bank < 32)
  | .handOver port => decide (port < 1024)
  | .shaperRefill => true
  | .portMatch slice => decide (slice < 16)
  | .stageBRead slice part _ => decide (slice < 16) && decide (part < 16)
  | .reseqRelease slice => decide (slice < 16)
  | .reseqTimeout _ => true
  | .egressEdit _ => true
  | .macFrameStart port _ => decide (port < 1024)
  | .txFrameEnd port _ => decide (port < 1024)
  | .cipherBlockMismatch engine _ _ => decide (engine < 257)
  | .laMessageRequest m => decide (m.ctx < 64) && decide (m.prio < 4)
  | .laMessageComplete => true
  | .laPriorityAge _ => true
  | .laneCalibrationDone tile _ => decide (tile < 8)
  | .laneStateAdvance lane _ _ => decide (lane < 1024)
  | .laneBringupTimeout lane => decide (lane < 1024)
  | .laneLos lane => decide (lane < 1024)
  | .laneCdrUnlock lane => decide (lane < 1024)
  | .laneAmLoss lane => decide (lane < 1024)
  | .laneRestartHoldoff lane => decide (lane < 1024)
  | .laneRecovered lane => decide (lane < 1024)
  | .laneOrderWindowEnd octet _ => decide (octet < 128)
  | .laneSerIntervalEnd lane _ => decide (lane < 1024)
  | .eyeScanPointDone lane _ => decide (lane < 1024)
  | .anResolve port _ => decide (port < 1024)
  | .rawLinkChange port _ _ _ => decide (port < 1024)
  | .linkDownDebounceExpiry port => decide (port < 1024)
  | .linkUpDebounceExpiry port => decide (port < 1024)
  | .portDownPolicy port => decide (port < 1024)
  | .portHoldExpired port => decide (port < 1024)
  | .pfcWatchdog queue => decide (queue < 9216)
  | .pfcWdRestored queue => decide (queue < 9216)
  | .gateTakeover port => decide (port < 1024)
  | .gateTransition port => decide (port < 1024)
  | .timeEventReach domain => decide (domain < 8)
  | .hostWdExpiry domain => decide (domain < 8)
  | .holdMaxExpiry domain => decide (domain < 8)
  | .ppsOutEdge pin => decide (pin < 4)
  | .ppsOutEdgeEnd pin => decide (pin < 4)
  | .ppsInEdge pin _ => decide (pin < 4)
  | .ppsInLost pin => decide (pin < 4)
  | .ref10mGateEnd _ => true
  | .ref10mLost => true
  | .timeSnapshotCapture _ _ => true
  | .streamIntervalClose stream => decide (stream < 4)
  | .exportPacketGenerate stream => decide (stream < 4)
  | .queueReportGenerate queue => decide (queue < 9472)
  | .ruleWriteLand => true
  | .maquetteCommitAccept => true
  | .turnstileGrant store bank _ => decide (bank < numBanks store)
  | .stashWrite table => decide (table < 32)
  | .stashReinsertPeriod table => decide (table < 32)
  | .patinaPassStart table => decide (table < 32)
  | .learnService => true
  | .scrubRead store bank _ => decide (bank < numBanks store) || (store == 3 && decide (bank < 32))
  | .lockExpired lock => decide (lock < 16)
  | .armJobStart engine => decide (engine < 4)
  | .microwordExecute engine _ => decide (engine < 4)
  | .armMemComplete engine => decide (engine < 4)
  | .routineEnd engine => decide (engine < 4)
  | .armPatchQuiesced => true
  | .armPatchActivateTimeout => true
  | .partitionDrainEnd part => decide (part < 16)
  | .drainLimitExpiry part => decide (part < 16)
  | .partitionRebuildDone part => decide (part < 16)
  | .bankSpareCopy store bank _ => decide (bank < numBanks store)
  | .partitionBankDrained part bank => decide (part < 16) && decide (bank < 32)
  | .faultRaise source _ _ => srcAssigned source
  | .permanenceClear source _ => srcAssigned source
  | .wireFault source _ => srcAssigned source
  | .wireUnmask source => srcAssigned source
  | .eccWriteBack _ => true
  | .msixSignal rid => decide (rid < 228)
  | .cpuQueueDeliver ring _ => decide (ring < 64)
  | .txDescriptorFetch ring _ => decide (ring < 64)
  | .pipeInjectSlot pipe => decide (pipe < 64)
  | .commandFetch h _ => hdrWf h
  | .relayTimeout _ => true
  | .groupPrepared => true
  | .groupPrepareTimeout => true
  | .groupAbandoned => true
  | .colonnadeFrameRx _ _ _ => true
  | .colonnadeResend => true
  | .colonnadeKeyRollover => true
  | .colonnadeHelloRx _ => true
  | .mirrorRx _ _ _ => true
  | .prepareRx _ _ => true
  | .ackRx _ _ _ _ => true
  | .commitRx _ _ => true
  | .twinAckTimeout _ => true
  | .followCommitDeadline _ => true
  | .leadCommitAckCheck _ => true
  | .heartbeatRx _ _ _ _ => true
  | .heartbeatIntervalMissed => true
  | .planeDownFrameSend => true
  | .twinTimeRx _ _ => true
  | .epochAlign _ _ => true
  | .resyncStart => true
  | .resyncRx _ _ => true
  | .resyncDigestCompare _ _ _ => true
  | .twinThrottleRx _ => true
  | .ringFrameRx _ _ => true
  | .relayedCommandRx _ h _ => hdrWf h
  | .ringReplyRx _ _ _ _ _ => true
  | .ringEventRx _ ring _ => decide (ring < 4)
  | .ringThrottleRx _ _ => true
  | .ringEnumRx _ _ _ => true
  | .ringEnumReplyRx _ => true
  | .ringJoinRx _ => true
  | .ringEnumeratePeriod => true
  | .ringBreak _ => true
  | .ringRestored _ => true
  | .ringWakeDetect => true
  | .wakeWaveEnd _ => true
  | .governorDecision => true
  | .avsAck => true
  | .avsSettle => true
  | .avsWriteFail => true
  | .avsRetryPeriod => true
  | .thermalComparatorTrip tc _ => decide (tc < 4)
  | .timeCompareTrip cmp => decide (cmp < 4)
  | .supplyLow cmp _ => decide (8 ≤ cmp) && decide (cmp ≤ 13)
  | .extLevelTrip cmp _ => cmp == 14 || cmp == 15
  | .wakeNLow => true
  | .thermtrip => true
  | .gatehouseClockLost => true
  | .gatehousePowerUp => true
  | .perstAssert => true
  | .coreResetRelease _ _ _ => true
  | .arrayInitDone => true
  | .bootRomStart _ _ _ _ _ _ => true
  | .firmwareStart => true
  | .firmwareInitDone _ _ => true
  | .hssTreeReady => true
  | .pcieFunctionReset func _ => decide (func < 8)
  | .ringDoorbellWrite func rid _ => decide (rid < 228) && decide (func < 8)
  | .ringControlWrite func rid _ => decide (rid < 228) && decide (func < 8)
  | .eventStatusW1c group _ _ => decide (group < 32)
  | .tableLockReleaseWrite func _ => decide (func < 8)
  | .turnstileTicketsWrite _ => true
  | .turnstileStarvedW1c _ => true
  | .snapTrigger _ => true
  | .perfFreezeWrite _ => true
  | .firstErrorValidW1c _ => true
  | .counterLowHalfRead func _ => decide (func < 8)
  | .bar0Violation _ func _ _ _ => decide (func < 8)
  | .registerWrite func _ _ _ => decide (func < 8)
  | .smbusBlockRead _ => true
  | .jtagInstruction _ => true
  | .hello h _ _ _ _ _ => hdrWf h
  | .goodbye h => hdrWf h
  | .deviceStateGet h => hdrWf h
  | .deviceStateSet h _ => hdrWf h
  | .cpuQueueMapSet h _ _ => hdrWf h
  | .eventRouteSet h _ _ _ => hdrWf h
  | .eventStatusGet h _ => hdrWf h
  | .eventStatusClear h _ _ => hdrWf h
  | .sessionStatsGet h _ _ => hdrWf h
  | .echo h _ => hdrWf h
  | .groupOpen h => hdrWf h
  | .groupCommit h _ => hdrWf h
  | .groupDiscard h => hdrWf h
  | .groupStatusGet h => hdrWf h
  | .portModeSet h _ _ _ => hdrWf h
  | .portConfigSet h _ _ _ => hdrWf h
  | .portEnable h _ _ => hdrWf h
  | .portStatusGet h _ => hdrWf h
  | .portStatsGet h _ _ => hdrWf h
  | .octetLayoutGet h _ => hdrWf h
  | .laneConfigSet h _ _ _ _ _ _ => hdrWf h
  | .laneStatusGet h _ => hdrWf h
  | .laneStatsGet h _ _ => hdrWf h
  | .eyeScanStart h _ _ _ _ _ _ _ _ _ => hdrWf h
  | .eyeScanRead h _ _ _ => hdrWf h
  | .eyeScanAbort h _ => hdrWf h
  | .laneRetire h _ => hdrWf h
  | .laneRestore h _ _ => hdrWf h
  | .lanePrbsSet h _ _ _ => hdrWf h
  | .laneLoopbackSet h _ _ => hdrWf h
  | .octetOrderSet h _ _ => hdrWf h
  | .tableCreate h _ _ => hdrWf h
  | .tableDelete h _ => hdrWf h
  | .tableStatusGet h _ => hdrWf h
  | .tableSeedSet h _ _ _ => hdrWf h
  | .emEntryAdd h _ _ _ _ => hdrWf h
  | .emEntryDelete h _ _ => hdrWf h
  | .emEntryRead h _ _ _ => hdrWf h
  | .directWrite h _ _ _ => hdrWf h
  | .prefixAdd h _ _ _ _ _ => hdrWf h
  | .prefixDelete h _ _ _ _ => hdrWf h
  | .prefixRead h _ _ _ _ _ => hdrWf h
  | .lpmSeedSet h _ => hdrWf h
  | .emProfileSet h _ _ => hdrWf h
  | .lpmProfileSet h _ _ => hdrWf h
  | .nexthopTableSet h _ => hdrWf h
  | .counterRead h _ _ _ => hdrWf h
  | .counterClear h _ _ => hdrWf h
  | .lookupStatsGet h _ _ => hdrWf h
  | .lockAcquire h _ _ _ _ _ => hdrWf h
  | .lockRenew h _ _ => hdrWf h
  | .lockRelease h _ => hdrWf h
  | .lockStatusGet h _ => hdrWf h
  | .tableDmaWrite h _ _ _ _ _ => hdrWf h
  | .tableDmaRead h _ _ _ _ => hdrWf h
  | .tableUpkeepSet h _ _ _ => hdrWf h
  | .scrubSet h _ => hdrWf h
  | .upkeepStatsGet h _ _ => hdrWf h
  | .maquetteOpen h => hdrWf h
  | .maquetteCommit h _ => hdrWf h
  | .maquetteDiscard h => hdrWf h
  | .ruleAdd h _ => hdrWf h
  | .objectDelete h _ _ => hdrWf h
  | .ruleRead h _ _ => hdrWf h
  | .rangeSet h _ _ _ _ => hdrWf h
  | .parseEntrySet h _ _ => hdrWf h
  | .keyProfileSet h _ _ _ _ => hdrWf h
  | .editProfileSet h _ _ => hdrWf h
  | .templateSet h _ _ => hdrWf h
  | .mirrorSessionSet h _ _ _ _ => hdrWf h
  | .egressBind h _ _ => hdrWf h
  | .versionStatusGet h => hdrWf h
  | .parseStatsGet h _ _ => hdrWf h
  | .queueModeSet h _ _ => hdrWf h
  | .queueSchedSet h _ _ _ => hdrWf h
  | .queueSchedGet h _ => hdrWf h
  | .shaperSet h _ _ _ => hdrWf h
  | .shaperGet h _ _ => hdrWf h
  | .portSchedSet h _ _ _ => hdrWf h
  | .tcMapSet h _ _ => hdrWf h
  | .portSchedGet h _ => hdrWf h
  | .gateListSet h _ _ => hdrWf h
  | .gateListClear h _ => hdrWf h
  | .gateStatusGet h _ => hdrWf h
  | .egressStatsGet h _ _ _ => hdrWf h
  | .bufferPoolSet h _ _ => hdrWf h
  | .bufferPoolGet h => hdrWf h
  | .queueAdmitSet h _ _ _ => hdrWf h
  | .queueAdmitGet h _ => hdrWf h
  | .pgSet h _ _ _ _ _ => hdrWf h
  | .bufferStatsGet h _ _ => hdrWf h
  | .bufferCellRead h _ _ => hdrWf h
  | .trellisRetire h _ _ => hdrWf h
  | .trellisRestore h _ => hdrWf h
  | .trellisStatusGet h _ => hdrWf h
  | .mcastGroupSet h _ _ _ => hdrWf h
  | .mcastGroupGet h _ => hdrWf h
  | .mcastGroupDelete h _ => hdrWf h
  | .cutThroughSet h _ _ _ => hdrWf h
  | .trellisStatsGet h _ _ => hdrWf h
  | .timeDomainSet h _ _ _ _ => hdrWf h
  | .timeGet h _ => hdrWf h
  | .timeSet h _ _ _ _ _ => hdrWf h
  | .timeStep h _ _ _ _ _ => hdrWf h
  | .timeAdjust h _ _ => hdrWf h
  | .timeHoldover h _ _ => hdrWf h
  | .timeStatusGet h _ => hdrWf h
  | .timePortSet h _ _ _ => hdrWf h
  | .timePortGet h _ => hdrWf h
  | .ppsSet h _ _ _ _ _ _ => hdrWf h
  | .ppsRead h _ _ => hdrWf h
  | .timeStatsGet h _ _ _ => hdrWf h
  | .cipherPortSet h _ _ _ => hdrWf h
  | .cipherPortGet h _ => hdrWf h
  | .scCreate h _ _ _ _ _ _ => hdrWf h
  | .scSet h _ _ _ _ _ => hdrWf h
  | .scDelete h _ _ => hdrWf h
  | .saInstall h _ => hdrWf h
  | .saDelete h _ _ _ => hdrWf h
  | .txSaSelect h _ _ => hdrWf h
  | .saStatusGet h _ _ _ => hdrWf h
  | .cipherStatsGet h _ _ => hdrWf h
  | .cipherEngineSet h _ _ _ => hdrWf h
  | .cipherEngineRestore h _ => hdrWf h
  | .laContextLoad h _ _ _ _ => hdrWf h
  | .laContextExport h _ => hdrWf h
  | .laContextImport h _ _ => hdrWf h
  | .laContextClear h _ => hdrWf h
  | .laCrypt h _ _ _ _ _ => hdrWf h
  | .telemetryStreamSet h _ _ _ => hdrWf h
  | .telemetryStreamGet h _ => hdrWf h
  | .queueReportSet h _ _ _ => hdrWf h
  | .ioamSet h _ _ _ => hdrWf h
  | .queueSampleGet h _ _ => hdrWf h
  | .perfCounterSet h _ _ _ => hdrWf h
  | .telemetryStatsGet h _ _ => hdrWf h
  | .powerCapSet h _ _ _ => hdrWf h
  | .powerStatusGet h => hdrWf h
  | .opHostSet h _ => hdrWf h
  | .thermalSet h _ => hdrWf h
  | .comparatorSet h _ _ => hdrWf h
  | .comparatorGet h _ => hdrWf h
  | .dormantEnter h _ => hdrWf h
  | .deviceWake h _ => hdrWf h
  | .powerCompatSet h _ => hdrWf h
  | .castTableGet h => hdrWf h
  | .faultReactionSet h _ _ => hdrWf h
  | .faultReactionGet h _ => hdrWf h
  | .faultConfigSet h _ _ _ => hdrWf h
  | .faultLogRead h _ _ => hdrWf h
  | .faultFirstGet h => hdrWf h
  | .faultFirstClear h => hdrWf h
  | .faultStatusGet h _ _ => hdrWf h
  | .unitRetire h _ => hdrWf h
  | .unitFence h _ => hdrWf h
  | .unitRestore h _ => hdrWf h
  | .faultStatsGet h _ _ => hdrWf h
  | .faultInject h => hdrWf h
  | .twinBind h _ _ _ => hdrWf h
  | .twinUnbind h => hdrWf h
  | .twinJoin h => hdrWf h
  | .twinDetach h => hdrWf h
  | .twinRoleSwap h => hdrWf h
  | .twinDrain h _ => hdrWf h
  | .twinNotifySet h _ _ => hdrWf h
  | .twinStatusGet h => hdrWf h
  | .ringStatusGet h => hdrWf h
  | .ringEnumerate h => hdrWf h
  | .twinStatsGet h _ => hdrWf h
  | .armPatchLoad h _ _ => hdrWf h
  | .armPatchActivate h => hdrWf h
  | .armPatchRevert h => hdrWf h
  | .armPatchStatusGet h => hdrWf h
  | .armEngineSet h _ _ => hdrWf h
  | .armEngineStatusGet h _ => hdrWf h
  | .armEngineRestore h _ => hdrWf h
  | .armStatsGet h _ _ => hdrWf h
  | .bootStatusGet h => hdrWf h
  | .fwPush h _ _ => hdrWf h
  | .fwPushDone h _ _ => hdrWf h
  | .fwFlashWrite h _ _ => hdrWf h
  | .fwFlashCommit h _ _ => hdrWf h
  | .fwRestart h => hdrWf h
  | .svnAdvance h _ => hdrWf h
  | .keyRevoke h _ _ => hdrWf h
  | .identityCertGet h => hdrWf h
  | .measurementGet h => hdrWf h
  | .attestReportGet h _ => hdrWf h
  | .egressPipeSlot pipe _ _ => decide (pipe < 64)
  | .backgroundPortRead replica index _ => decide (replica < 8) && decide (index < 18688)
  | .ringHopResend _ => true
  | .laneSnrUpdate lane _ => decide (lane < 1024)
  | .powerDown => true

end Sys2Proof
end

