-- ==== Sys2Proof/Safety.lean ====
section
/-! DEFINITION. The terms that claims use: safe runs, a Slait command whose own effect comes, its reply and its acceptance. -/

namespace Sys2Proof.Machine

/-! ## Safe runs -/

/-- Every waiting command is well-formed. -/
def State.queueWf (s : State) : Bool := s.pending.all Instr.wf

/-- The machine goes on: the next step neither faults nor refuses. -/
def goesOn (s : State) : Prop := ∃ t, step s = .next t

/-- The place in the epoch is one of R11: 1,024 ticks of two clocks; so is the Gatehouse's (R13). -/
def State.placeOk (s : State) : Prop := s.clock.tick < 1024 ∧ s.clock.k < 2 ∧ s.clock.tallyClock < 2048

/-! ## Slait commands (R348) -/

/-- The command's turn has come in `s`, it starts in `t`, it is for this device, it passes steps 1 to 8 of R348, it is no
part of a group, and it runs on this device alone. -/
structure Starts (s t : State) (h : Hdr) (c : Cmd) : Prop where
  begin : s.begin h c.op = some t
  notTwin : Hdr_twinned h = false
  here : h.target = s.sec.deviceId
  alone : h.group = false
  checks : t.precheck h c = none
  gate : t.mirrorGate h c = none
  own : t.onBoth h c = false

/-- The reply buffer holds a result of `n` values, and the largest that the command's parameters allow (step 10, R340); only
a host command has one. -/
def holds (h : Hdr) (c : Cmd) (n : Nat) : Prop :=
  match h.origin with
  | .host .. => c.replyNeed n ≤ h.replyLen
  | _ => True

/-- OK with RESULT `res` and the values `pl`, after the effect `u`; the digest of the configuration is extended (R344,
R474). -/
def State.replied (u : State) (h : Hdr) (c : Cmd) (res : Nat) (pl : List Nat) : State :=
  u.answer h c.op c.extends stOk dtNone (BitVec.ofNat 64 res) 0 pl

/-- A change accepted in the present tick: due at the boundary of R20 and R21, the epoch in RESULT. -/
def State.accepted (t : State) (h : Hdr) (c : Cmd) (objs : List (Nat × Nat)) (l : List Change) : State :=
  (t.dueAll (t.epochFor objs c.target).1 objs l).answer h c.op c.extends (t.epochFor objs c.target).2.1
    (t.epochFor objs c.target).2.2 (BitVec.ofNat 64 (t.epochFor objs c.target).1) 0 []

/-- The command `i` executes with its own effect `u`: OK, RESULT `res`, the values `pl`. -/
def Does (s t : State) (h : Hdr) (i : Instr) (c : Cmd) (u : State) (res : Nat) (pl : List Nat) : Prop :=
  Starts s t h c → holds h c pl.length → exec i s = .next (u.replied h c res pl)

/-- The command `i` executes with the effect `u` and replies as `st`, `d`, `res`, `pl` say. -/
def Ends (s t : State) (h : Hdr) (i : Instr) (c : Cmd) (u : State) (st d : Nat) (res : BitVec 64) (pl : List Nat) : Prop :=
  Starts s t h c → holds h c pl.length → exec i s = .next (u.answer h c.op c.extends st d res 0 pl)

/-- The command `i` is accepted in the state `u`: its changes are due at an epoch boundary, its reply is OK or OK_ADJUSTED
with the epoch. -/
def Accepts (s t : State) (h : Hdr) (i : Instr) (c : Cmd) (u : State) (objs : List (Nat × Nat)) (l : List Change) : Prop :=
  Starts s t h c → exec i s = .next (u.accepted h c objs l)

/-- The command `i` is taken with the effect `u`; its reply, of at most `n` bytes, comes from a later event. -/
def Waits (s t : State) (h : Hdr) (i : Instr) (c : Cmd) (u : State) (n : Nat) : Prop :=
  Starts s t h c → n ≤ h.replyLen → exec i s = .next (u.hold h c.op c.extends)

/-- The command `i` is refused: nothing but its reply comes of it (R347, R348). -/
def Refuses (s t : State) (h : Hdr) (i : Instr) (c : Cmd) (st d : Nat) (res lg : BitVec 64) : Prop :=
  Starts s t h c → exec i s = .next (t.answer h c.op none st d res lg [])

/-- A change that acceptance leaves as it is: no gate list, rule version or role swap. -/
def Change.plain (c : Change) : Bool :=
  match c with
  | .gateList .. | .version _ | .roleSwap => false
  | _ => true

/-- The command `i` answers as the rule `r`, shared by several commands, says. -/
def Answers (s t : State) (h : Hdr) (i : Instr) (c : Cmd) (r : Rule) : Prop :=
  match r with
  | .done u st d res pl => Ends s t h i c u st d res pl
  | .change objs u l => c.op ≠ 0x0609 → l.all Change.plain = true → Accepts s t h i c u objs l
  | .held u n => Waits s t h i c u n
  | .refuse st d res lg => Refuses s t h i c st d res lg

/-! ## Slait commands in general, and what a command leaves alone -/

/-- `i` is a Slait command that the command unit serves as `c`, whatever the state. -/
def Slait (i : Instr) (h : Hdr) (c : Cmd) : Prop := ∀ s : State, exec i s = .next (s.serve c h)

/-- Everything that no reply and no refusal touches (a reply is a performance event and is counted): the clocks, the units of the data path, their tables and rules, the
engines, the operating point, the open group, the mirrored transactions and the queue. -/
structure State.SameUnits (s t : State) : Prop where
  clock : t.clock = s.clock
  lp : t.lp = s.lp
  cipher : t.cipher = s.cipher
  rules : t.rules = s.rules
  tables : t.tables = s.tables
  pk : t.pk = s.pk
  time : t.time = s.time
  eg : t.eg = s.eg
  tel : { t.tel with perf := [] } = { s.tel with perf := [] }
  arm : t.arm = s.arm
  power : t.power = s.power
  group : t.group = s.group
  txns : t.txns = s.txns
  prepared : t.prepared = s.prepared
  freeCtr : t.freeCtr = s.freeCtr
  pending : t.pending = s.pending

/-- What of the command unit no reply touches: sessions, device state, CPU queues, commands in progress elsewhere. -/
structure State.SameSessions (s t : State) : Prop where
  dev : t.cmd.dev = s.cmd.dev
  sessions : t.cmd.sessions = s.cmd.sessions
  cpuMap : t.cmd.cpuMap = s.cmd.cpuMap
  relays : t.cmd.relays = s.cmd.relays
  running : t.cmd.running = s.cmd.running

end Sys2Proof.Machine
end

