-- ==== Sys2Proof/Certificates/Slice0/Obligations.lean ====
section
/-! DEFINITION. The statements for the provers: the step and its queue, invariants of every step, the order of checks of
a Slait command, acceptance, frames, single rules of the spec, and for every command of the table what it does. -/

open Sys2Proof Sys2Proof.Machine

/-! ## The queue and the step (this model's own, log 6) -/

/-- A step runs the command at the front of the queue (the model's own queue, logs 1 and 6). -/
def Obligations.StepRunsFront : Prop :=
  (∀ (s : State) (c : Instr) (rest : List Instr), step { s with pending := c :: rest } = exec c { s with pending := rest }) ∧
  (∀ s : State, s.pending = [] → step s = .next s.idle)

/-- Every step takes one command from the queue and puts none into it (the model's own queue, log 1). -/
def Obligations.StepTakesOneCommand : Prop := ∀ s t : State, step s = .next t → t.pending = s.pending.tail

/-- Well-formed commands never stop the machine. -/
def Obligations.WellFormedCommandsComplete : Prop :=
  (∀ (i : Instr) (s : State), i.wf = true → ∃ t, exec i s = .next t) ∧
  (∀ s : State, s.queueWf = true → goesOn s ∧ ∀ t, step s = .next t → t.queueWf = true)

/-! ## Whole-machine rules -/

/-- Every step keeps the place within the epoch, in the core and in the Gatehouse. -/
def Obligations.EveryStepKeepsPlace : Prop := ∀ s t : State, s.placeOk → step s = .next t → t.placeOk

/-- Reset satisfies the invariants of the place and of the queue. -/
def Obligations.ResetPlace : Prop :=
  State.reset.placeOk ∧ State.reset.queueWf = true ∧ State.reset.pending = [] ∧ State.reset.cmd.dev = .reset

/-- No step ever unburns a fuse. -/
def Obligations.EveryStepOnlyBurnsFuses : Prop := ∀ s t : State, step s = .next t →
  s.sec.svn ≤ t.sec.svn ∧ s.sec.hssLeaf ≤ t.sec.hssLeaf ∧ ∀ k, k < 8 → s.sec.revoked.getLsbD k = true → t.sec.revoked.getLsbD k = true

/-! ## The command unit (R339 to R361) -/

/-- A Slait command is refused by the first check that it fails. -/
def Obligations.ChecksInOrder : Prop := ∀ (i : Instr) (s t : State) (h : Hdr) (c : Cmd),
  Slait i h c → s.begin h c.op = some t → Hdr_twinned h = false → h.target = s.sec.deviceId → h.group = false →
  let refused (st : Nat) : Prop := exec i s = .next (t.answer h c.op none st 0 0 0 [])
  (t.versionOk h c.op = false → refused stBadVersion) ∧
  (t.versionOk h c.op = true →
   (t.opcodeOk h c.op = false → refused stBadOpcode) ∧
   (t.opcodeOk h c.op = true →
    ((Hdr_lengthOk h && c.lenOk) = false → refused stBadLength) ∧
    ((Hdr_lengthOk h && c.lenOk) = true →
     (63 < h.target → exec i s = .next (t.answer h c.op none stAccessViolation 0 0 (BitVec.ofNat 64 h.target) [])) ∧
     (h.target ≤ 63 →
      (t.flagsOk h c = false → refused stBadParam) ∧
      (t.flagsOk h c = true →
       (t.legalIn c.op c.isRead = false → refused stStateConflict) ∧
       (t.legalIn c.op c.isRead = true →
        (c.fenced t = true → refused stFenced) ∧
        (c.fenced t = false → t.faults.dataBad = true →
         exec i s = .next ({ t with faults.dataBad := false }.answer h c.op none stInternal 0 0 0 [])) ∧
        (c.fenced t = false → t.faults.dataBad = false → t.mirrorGate h c = none → ∀ st d res lg, c.rule h t = .refuse st d res lg →
         exec i s = .next (t.answer h c.op none st d res lg []))))))))

/-- A Slait command whose turn has not come changes nothing. -/
def Obligations.CommandsWaitTheirTurn : Prop := ∀ (i : Instr) (s : State) (h : Hdr) (c : Cmd),
  Slait i h c → s.begin h c.op = none → exec i s = .next s

/-- A reply buffer too small for the result is refused with the size in RESULT. -/
def Obligations.ReplyBufferTooSmall : Prop := ∀ (i : Instr) (s t : State) (h : Hdr) (c : Cmd) (u : State) (st d : Nat)
    (res : BitVec 64) (pl : List Nat),
  Slait i h c → Starts s t h c → c.rule h t = .done u st d res pl → (∃ r f e, h.origin = .host r f e) →
  let n := if st ≤ stOkAdjusted then max (resultBytes c.op pl.length) c.most else resultBytes c.op pl.length
  h.replyLen < n → exec i s = .next (t.answer h c.op none stBadLength dtReplyShort (BitVec.ofNat 64 n) 0 [])

/-- A target that enumeration does not show is refused with NOT_FOUND. -/
def Obligations.AbsentTargetNotFound : Prop := ∀ (i : Instr) (s t : State) (h : Hdr) (c : Cmd),
  Slait i h c → s.begin h c.op = some t → Hdr_twinned h = false → h.target ≠ s.sec.deviceId →
  Hdr_lengthOk h = true → c.lenOk = true → h.target ≤ 63 → h.reservedZero = true → (∀ r ∈ t.ring.present, r.id ≠ h.target) →
  exec i s = .next (t.answer h c.op none stNotFound 0 0 0 [])

/-- A command for a present device is relayed along the ring. -/
def Obligations.PresentTargetRelayed : Prop := ∀ (i : Instr) (s t : State) (h : Hdr) (c : Cmd),
  Slait i h c → s.begin h c.op = some t → Hdr_twinned h = false → h.target ≠ s.sec.deviceId →
  Hdr_lengthOk h = true → c.lenOk = true → h.target ≤ 63 → h.reservedZero = true → (∃ r ∈ t.ring.present, r.id = h.target) →
  exec i s = .next (State.ringSend { t with cmd := { t.cmd with
    relays := t.cmd.relays ++ [{ id := t.cmd.relayNext, hdr := h, opcode := c.op, sentAt := t.now }]
    relayNext := t.cmd.relayNext + 1 } } h.target 1 (relayedBytes h c))

/-- A cipher command with TWIN is refused with BAD_PARAM. -/
def Obligations.CipherTwinFlagRefused : Prop := ∀ (i : Instr) (s t : State) (h : Hdr) (c : Cmd),
  Slait i h c → c.op / 256 = 8 → c.mirror = none → s.begin h c.op = some t → Hdr_twinned h = false →
  h.target = s.sec.deviceId → h.group = false → t.versionOk h c.op = true → t.opcodeOk h c.op = true →
  Hdr_lengthOk h = true → c.lenOk = true → h.target ≤ 63 → h.twin = true →
  exec i s = .next (t.answer h c.op none stBadParam 0 0 0 [])

/-- The LEAD sends PREPARE for a change with TWIN and waits. -/
def Obligations.TwinCommandsPrepared : Prop := ∀ (i : Instr) (s t u : State) (h : Hdr) (c : Cmd) (m : Mirrored)
    (objs : List (Nat × Nat)) (l : List Change),
  Slait i h c → s.begin h c.op = some t → Hdr_twinned h = false → h.target = s.sec.deviceId → h.group = false →
  t.precheck h c = none → t.mirrorGate h c = none → c.op ≠ 0x0609 → c.mirror = some m →
  h.twin = true → t.twin.role = .lead → t.twin.attached = true → c.rule h t = .change objs u l →
  exec i s = .next ((u.hold h c.op c.extends).sendTxn h c.op none (resolve m 0 l) true c.target objs l)

/-- The FOLLOW prepares what the LEAD sends and acknowledges it. -/
def Obligations.FollowPrepares : Prop := ∀ (i : Instr) (s t u : State) (h : Hdr) (c : Cmd) (m : Mirrored)
    (objs : List (Nat × Nat)) (l : List Change) (txn : Nat),
  Slait i h c → h.origin = .colonnade txn → s.begin h c.op = some t → h.group = false →
  t.precheck h c = none → c.op ≠ 0x0501 → c.mirror = some m → c.rule h t = .change objs u l →
  exec i s = .next (u.prepareTxn h c.op txn m c.target objs l c.extends)

/-! ## Acceptance (R19 to R21, R301, R406) -/

/-- A change takes effect at the first boundary that is open to it and free. -/
def Obligations.EpochOfAcceptance : Prop := ∀ (s : State) (objs : List (Nat × Nat)) (named : Nat),
  let first := if s.clock.tick < 960 then s.clock.epoch + 1 else s.clock.epoch + 2
  let e := (s.epochFor objs named).1
  first ≤ e ∧ named ≤ e ∧ s.takenAtEpoch e objs = false ∧
  (∀ x, max (if named = 0 then first else named) first ≤ x → x < e → s.takenAtEpoch x objs = true) ∧
  (s.epochFor objs named).2 =
    (if e = (if named = 0 then first else named) then (stOk, dtNone) else (stOkAdjusted, dtAdjustedEpoch))

/-- GATE_LIST_SET is accepted with its takeover instant. -/
def Obligations.GateListSet : Prop := ∀ (s t : State) (h : Hdr) (port : Nat) (g : GateSpec),
  Starts s t h (cmdGateListSet port g) → port < 1024 → t.isPort port = true → gateOk g = true →
  t.oneDomainList port g.td = true → holds h (cmdGateListSet port g) 2 →
  let c := cmdGateListSet port g
  let e := t.epochFor [objGate port] 0
  let start := t.gateStart g e.1
  exec (.gateListSet h port g) s = .next
    ((t.dueAll e.1 [objGate port] [.gateList port { spec := g, takeover := start.1 }]).answer h 0x0609 c.extends
      (if start.2 then stOkAdjusted else e.2.1) e.2.2 (BitVec.ofNat 64 e.1) 0 (words 2 start.1))

/-- TWIN_ROLE_SWAP on an attached LEAD goes out as a twin commit. -/
def Obligations.TwinRoleSwap : Prop := ∀ (s t : State) (h : Hdr),
  s.begin h 0x0C05 = some t → Hdr_twinned h = false → h.target = s.sec.deviceId → h.group = false →
  t.precheck h cmdTwinRoleSwap = none → t.mirrorGate h cmdTwinRoleSwap = none →
  t.twin.attached = true → t.twin.role = .lead →
  exec (.twinRoleSwap h) s = .next ((t.hold h 0x0C05 cmdTwinRoleSwap.extends).sendTxn h 0x0C05 none .twinRoleSwap true 0
    [objRole] [.roleSwap])

/-- A part of a group is checked after the parts before it and held. -/
def Obligations.GroupPartsHeld : Prop := ∀ (i : Instr) (s t u : State) (h : Hdr) (c : Cmd) (g : Group)
    (objs : List (Nat × Nat)) (l : List Change),
  Slait i h c → s.begin h c.op = some t → Hdr_twinned h = false → h.target = s.sec.deviceId → h.group = true →
  t.precheck h c = none → t.mirrorGate h c = none → t.onBoth h c = false →
  t.group = some g → g.id = h.groupId → g.sender = hdrSender h → g.twin = h.twin → g.commit = none →
  g.parts.length < 256 → (∀ p ∈ g.parts, ∀ o ∈ p.objs, o ∉ objs) →
  c.rule h (t.withParts g.parts) = .change objs u l → c.op ≠ 0x0609 →
  let held (v : State) : Prop :=
    exec i s = .next (((v.notePart h c.op stOk).addPart c.op objs l).answer h c.op c.extends stOk 0 0 0 [])
  (∀ o w k, c.rule h t = .change o w k → held w) ∧ ((∀ o w k, c.rule h t ≠ .change o w k) → held t)

/-! ## Frames -/

/-- A reply touches only rings, events, links, the digest and counters. -/
def Obligations.ReplyFrame : Prop := ∀ (s : State) (h : Hdr) (op : Nat) (dg : Option (List Byte)) (st d : Nat)
    (res lg : BitVec 64) (pl : List Nat),
  let u := s.answer h op dg st d res lg pl
  s.SameUnits u ∧ s.SameSessions u ∧ u.changes = s.changes ∧ u.groupNext = s.groupNext ∧
  (st ≠ stInternal → u.faults = s.faults ∧
    (Hdr_twinned h = false → u.twin = s.twin) ∧ ((∀ x, h.origin ≠ .slait x) → u.ring = s.ring)) ∧
  (dg = none ∨ stOkAdjusted < st → u.sec = s.sec)

/-- Taking a command from a ring touches nothing but the ring. -/
def Obligations.BeginFrame : Prop := ∀ (s t : State) (h : Hdr) (op : Nat), s.begin h op = some t →
  s.SameUnits t ∧ s.SameSessions t ∧ t.changes = s.changes ∧ t.faults = s.faults ∧ t.twin = s.twin ∧ t.ring = s.ring ∧
  t.sec = s.sec ∧ t.ctr = s.ctr ∧ (op ≠ 0x0E01 → t.groupNext = s.groupNext)

/-- A refused Slait command has no side effect. -/
def Obligations.RefusedCommandsTouchNothing : Prop := ∀ (i : Instr) (s t : State) (h : Hdr) (c : Cmd) (st d : Nat)
    (res lg : BitVec 64),
  Slait i h c → s.begin h c.op = some t → Hdr_twinned h = false → h.target = s.sec.deviceId → h.group = false →
  t.verdict h c (s.chosen h) = .refuse st d res lg →
  ∃ u, exec i s = .next u ∧ s.SameUnits u ∧ s.SameSessions u ∧ u.changes = s.changes ∧ u.sec = s.sec

/-- An accepted change has no effect before its boundary. -/
def Obligations.AcceptedChangesWait : Prop := ∀ (i : Instr) (s t : State) (h : Hdr) (c : Cmd) (objs : List (Nat × Nat))
    (l : List Change),
  Slait i h c → Starts s t h c → c.op ≠ 0x0609 → l.all Change.plain = true → c.rule h t = .change objs t l →
  ∃ u, exec i s = .next u ∧ s.SameUnits u ∧ s.SameSessions u ∧
    u.changes = s.changes ++ l.map fun x => { epoch := (t.epochFor objs c.target).1, objs := objs, change := x }

/-! ## Rules of single functions -/

/-- Skipped ticks are chosen by position within 16. -/
def Obligations.SkippedTicks : Prop := ∀ s : State, s.clock.running = true → s.clock.stretch = 0 → s.power.op ≤ 7 →
  let p := s.clock.tick % 16
  (s.power.op < 7 → (s.worked = false ↔ p ∈ [14, 6, 10, 2, 12, 4, 8, 0].take s.power.op)) ∧
  (s.power.op = 7 → (s.worked = false ↔ p ∈ [14, 6, 10, 2, 12, 4, 8, 0])) ∧
  (p = 15 → s.worked = true ∧ (s.clock.k = 1 → s.maintClock = true))

/-- A slot is live as birth and death stamps say. -/
def Obligations.LiveSlots : Prop :=
  let live (valid : Bool) (e : Stamp) (v : BitVec 16) : Prop :=
    valid = true ∧ ¬ (e.birthSet = true ∧ 0x8000 ≤ (v - e.birth).toNat) ∧ ¬ (e.deathSet = true ∧ (v - e.death).toNat < 0x8000)
  (∀ (o : ObjSlot) (v : BitVec 16), o.live v = true ↔ live o.valid o.stamp v) ∧
  (∀ (b : BitVec 256) (v : BitVec 16), (slotValid b && slotLive 1 b v) = true ↔ live (slotValid b) (slotStamp b) v) ∧
  (∀ (s : State) (program : List (BitVec 128)) (i : Nat),
    let o := (s.loadParse program).objAt (objKey kindParse i)
    (i < 288 → o.valid = true ∧ o.stamp.birthSet = false ∧ o.stamp.deathSet = false) ∧
    (s.rules.objs.wf (fun _ => ObjSlot.init) = true → 288 ≤ i → i < 512 → o = ObjSlot.init))

/-- Stage A channels rotate over the partitions. -/
def Obligations.StageARotation : Prop := ∀ (s : State) (i : Nat),
  (∀ j, s.stageAPart i j = (i + j + (s.clock.epoch * 1024 + s.clock.tick)) % 16) ∧
  (∀ j k, j < 16 → k < 16 → s.stageAPart i j = s.stageAPart i k → j = k) ∧
  (∀ p, p < 16 → ∃ j, j < 16 ∧ s.stageAPart i j = p ∧ ∀ k, k < 16 → s.stageAPart i k = p → k = j)

/-- A lane record that breaks the FIR sum or FIR_MAIN is refused. -/
def Obligations.FirSum : Prop :=
  (∀ (s t : State) (h : Hdr) (lane : Nat) (record fields : BitVec 64) (trainMs serExp holdoffMs : Option Nat),
    let c := cmdLaneConfigSet lane record fields trainMs serExp holdoffMs
    let r := merge (t.lane lane).cfg record (fields &&& laneWritable)
    Starts s t h c → lane < 1024 →
    (63 < (sfld r 39 36).natAbs + (sfld r 35 31).natAbs + (sfld r 30 25).natAbs + fld r 24 19 + (sfld r 18 14).natAbs ∨
      fld r 24 19 < 24) →
    exec (.laneConfigSet h lane record fields trainMs serExp holdoffMs) s = .next (t.answer h 0x0301 none stBadParam 0 0 0 [])
      ∧ (t.answer h 0x0301 none stBadParam 0 0 0 []).lp = s.lp) ∧
  (let r := Lane.init.cfg
   (sfld r 39 36).natAbs = 0 ∧ (sfld r 35 31).natAbs = 1 ∧ (sfld r 30 25).natAbs = 6 ∧ fld r 24 19 = 54 ∧
     (sfld r 18 14).natAbs = 2)

/-- Rule actions that a direction does not have are refused. -/
def Obligations.RuleActionsRefused : Prop := ∀ (s t : State) (h : Hdr) (r : RuleRec), Starts s t h (cmdRuleAdd r) →
  (r.slot = 0xFFFF ∨ r.slot < kindSlots r.dir) → r.dir ≤ 1 →
  (r.dir = 0 ∧ bit r.action 62 = true) ∨
  (r.dir = 1 ∧ (1 < fld r.action 127 125 ∨ bit r.action 108 = true ∨ bit r.action 41 = true ∨
    (bit r.action 97 = true ∧ fld r.action 127 125 = 1))) →
  exec (.ruleAdd h r) s = .next (t.answer h 0x0504 none stBadParam 0 0 0 [])

/-- The temperature band has 3 degrees of hysteresis. -/
def Obligations.TemperatureBands : Prop := ∀ old tj : Nat, old ≤ 3 →
  (let up := if 85 ≤ tj then 3 else if 65 ≤ tj then 2 else if 40 ≤ tj then 1 else 0
   let down := if tj < 37 then 0 else if tj < 62 then 1 else if tj < 82 then 2 else 3
   newBand old tj = if old < up then up else if down < old then down else old)

/-- An idle step lets one clock pass (the model's own idle step, log 6). -/
def Obligations.ClocksAndTally : Prop := ∀ s t : State, s.pending = [] → step s = .next t →
  (s.clock.running = true → s.clock.k = 0 →
    t.clock.k = 1 ∧ t.clock.tick = s.clock.tick ∧ t.clock.epoch = s.clock.epoch) ∧
  (s.clock.running = true → s.clock.k = 1 → s.clock.stretch = 0 → s.clock.tick < 1023 →
    t.clock.k = 0 ∧ t.clock.tick = s.clock.tick + 1 ∧ t.clock.epoch = s.clock.epoch) ∧
  (s.clock.running = true → s.clock.k = 1 → 0 < s.clock.stretch →
    t.clock.k = 0 ∧ t.clock.tick = s.clock.tick ∧ t.clock.epoch = s.clock.epoch ∧ t.clock.stretch = s.clock.stretch - 1) ∧
  (s.clock.running = false → t.clock.epoch = s.clock.epoch ∧ t.clock.tick = s.clock.tick ∧
    (s.clock.released = false → t.clock.tally = s.clock.tally ∧ t.clock.tallyClock = s.clock.tallyClock) ∧
    (s.clock.released = true → s.clock.tallyClock < 2047 →
      t.clock.tally = s.clock.tally ∧ t.clock.tallyClock = s.clock.tallyClock + 1) ∧
    (s.clock.released = true → s.clock.tallyClock = 2047 → t.clock.tally = s.clock.tally + 1 ∧ t.clock.tallyClock = 0))

/-! ## Every Slait command, in the case that its own effect comes -/

/-- Every Slait command goes to the command unit with its own rules. -/
def Obligations.SlaitCommandsServed : Prop :=
  (∀ (h : Hdr) (lowMaj : Nat) (lowMin : Nat) (highMaj : Nat) (highMin : Nat) (telemetry : Option Nat), Slait (.hello h lowMaj lowMin highMaj highMin telemetry) h (cmdHello lowMaj lowMin highMaj highMin telemetry)) ∧
  (∀ (h : Hdr), Slait (.goodbye h) h cmdGoodbye) ∧
  (∀ (h : Hdr), Slait (.deviceStateGet h) h cmdDeviceStateGet) ∧
  (∀ (h : Hdr) (target : Nat), Slait (.deviceStateSet h target) h (cmdDeviceStateSet target)) ∧
  (∀ (h : Hdr) (queue : Nat) (ring : Nat), Slait (.cpuQueueMapSet h queue ring) h (cmdCpuQueueMapSet queue ring)) ∧
  (∀ (h : Hdr) (group : Nat) (enable : BitVec 32) (ring : Nat), Slait (.eventRouteSet h group enable ring) h (cmdEventRouteSet group enable ring)) ∧
  (∀ (h : Hdr) (group : Nat), Slait (.eventStatusGet h group) h (cmdEventStatusGet group)) ∧
  (∀ (h : Hdr) (group : Nat) (mask : BitVec 32), Slait (.eventStatusClear h group mask) h (cmdEventStatusClear group mask)) ∧
  (∀ (h : Hdr) (sel : StatsSel) (clear : Bool), Slait (.sessionStatsGet h sel clear) h (cmdSessionStatsGet sel clear)) ∧
  (∀ (h : Hdr) (data : List Byte), Slait (.echo h data) h (cmdEcho data)) ∧
  (∀ (h : Hdr), Slait (.groupOpen h) h cmdGroupOpen) ∧
  (∀ (h : Hdr) (target : EpochName), Slait (.groupCommit h target) h (cmdGroupCommit target)) ∧
  (∀ (h : Hdr), Slait (.groupDiscard h) h cmdGroupDiscard) ∧
  (∀ (h : Hdr), Slait (.groupStatusGet h) h cmdGroupStatusGet) ∧
  (∀ (h : Hdr) (octet : Nat) (rate : Nat) (mask : BitVec 8), Slait (.portModeSet h octet rate mask) h (cmdPortModeSet octet rate mask)) ∧
  (∀ (h : Hdr) (port : Nat) (record : BitVec 64) (fields : BitVec 64), Slait (.portConfigSet h port record fields) h (cmdPortConfigSet port record fields)) ∧
  (∀ (h : Hdr) (port : Nat) (on : Bool), Slait (.portEnable h port on) h (cmdPortEnable port on)) ∧
  (∀ (h : Hdr) (port : Nat), Slait (.portStatusGet h port) h (cmdPortStatusGet port)) ∧
  (∀ (h : Hdr) (port : Nat) (clear : Bool), Slait (.portStatsGet h port clear) h (cmdPortStatsGet port clear)) ∧
  (∀ (h : Hdr) (octet : Nat), Slait (.octetLayoutGet h octet) h (cmdOctetLayoutGet octet)) ∧
  (∀ (h : Hdr) (lane : Nat) (record : BitVec 64) (fields : BitVec 64) (trainMs : Option Nat) (serExp : Option Nat) (holdoffMs : Option Nat), Slait (.laneConfigSet h lane record fields trainMs serExp holdoffMs) h (cmdLaneConfigSet lane record fields trainMs serExp holdoffMs)) ∧
  (∀ (h : Hdr) (lane : Nat), Slait (.laneStatusGet h lane) h (cmdLaneStatusGet lane)) ∧
  (∀ (h : Hdr) (lane : Nat) (clear : Bool), Slait (.laneStatsGet h lane clear) h (cmdLaneStatsGet lane clear)) ∧
  (∀ (h : Hdr) (lane : Nat) (eye : Nat) (phaseStart : Int) (phaseStep : Nat) (phaseCount : Nat) (voltStart : Int) (voltStep : Nat) (voltCount : Nat) (dwellExp : Nat), Slait (.eyeScanStart h lane eye phaseStart phaseStep phaseCount voltStart voltStep voltCount dwellExp) h (cmdEyeScanStart lane eye phaseStart phaseStep phaseCount voltStart voltStep voltCount dwellExp)) ∧
  (∀ (h : Hdr) (scan : Nat) (first : Nat) (count : Nat), Slait (.eyeScanRead h scan first count) h (cmdEyeScanRead scan first count)) ∧
  (∀ (h : Hdr) (scan : Nat), Slait (.eyeScanAbort h scan) h (cmdEyeScanAbort scan)) ∧
  (∀ (h : Hdr) (lane : Nat), Slait (.laneRetire h lane) h (cmdLaneRetire lane)) ∧
  (∀ (h : Hdr) (lane : Nat) (passes : Bool), Slait (.laneRestore h lane passes) h (cmdLaneRestore lane passes)) ∧
  (∀ (h : Hdr) (lane : Nat) (gen : Nat) (chk : Nat), Slait (.lanePrbsSet h lane gen chk) h (cmdLanePrbsSet lane gen chk)) ∧
  (∀ (h : Hdr) (lane : Nat) (mode : Nat), Slait (.laneLoopbackSet h lane mode) h (cmdLaneLoopbackSet lane mode)) ∧
  (∀ (h : Hdr) (octet : Nat) (mode : Nat), Slait (.octetOrderSet h octet mode) h (cmdOctetOrderSet octet mode)) ∧
  (∀ (h : Hdr) (table : Nat) (r : TableRec), Slait (.tableCreate h table r) h (cmdTableCreate table r)) ∧
  (∀ (h : Hdr) (table : Nat), Slait (.tableDelete h table) h (cmdTableDelete table)) ∧
  (∀ (h : Hdr) (table : Nat), Slait (.tableStatusGet h table) h (cmdTableStatusGet table)) ∧
  (∀ (h : Hdr) (table : Nat) (seed0 : BitVec 128) (seed1 : BitVec 128), Slait (.tableSeedSet h table seed0 seed1) h (cmdTableSeedSet table seed0 seed1)) ∧
  (∀ (h : Hdr) (table : Nat) (key : BitVec 320) (data : BitVec 80) (static : Bool), Slait (.emEntryAdd h table key data static) h (cmdEmEntryAdd table key data static)) ∧
  (∀ (h : Hdr) (table : Nat) (key : BitVec 320), Slait (.emEntryDelete h table key) h (cmdEmEntryDelete table key)) ∧
  (∀ (h : Hdr) (table : Nat) (key : Option (BitVec 320)) (addr : BitVec 64), Slait (.emEntryRead h table key addr) h (cmdEmEntryRead table key addr)) ∧
  (∀ (h : Hdr) (table : Nat) (index : Nat) (slot : BitVec 256), Slait (.directWrite h table index slot) h (cmdDirectWrite table index slot)) ∧
  (∀ (h : Hdr) (family : Nat) (vrf : Nat) (length : Nat) (addr : BitVec 128) (result : BitVec 64), Slait (.prefixAdd h family vrf length addr result) h (cmdPrefixAdd family vrf length addr result)) ∧
  (∀ (h : Hdr) (family : Nat) (vrf : Nat) (length : Nat) (addr : BitVec 128), Slait (.prefixDelete h family vrf length addr) h (cmdPrefixDelete family vrf length addr)) ∧
  (∀ (h : Hdr) (family : Nat) (vrf : Nat) (length : Nat) (addr : BitVec 128) (version : Nat), Slait (.prefixRead h family vrf length addr version) h (cmdPrefixRead family vrf length addr version)) ∧
  (∀ (h : Hdr) (seed : BitVec 128), Slait (.lpmSeedSet h seed) h (cmdLpmSeedSet seed)) ∧
  (∀ (h : Hdr) (prof : Nat) (r : EmProf), Slait (.emProfileSet h prof r) h (cmdEmProfileSet prof r)) ∧
  (∀ (h : Hdr) (prof : Nat) (r : List LpmLookup), Slait (.lpmProfileSet h prof r) h (cmdLpmProfileSet prof r)) ∧
  (∀ (h : Hdr) (table : Option Nat), Slait (.nexthopTableSet h table) h (cmdNexthopTableSet table)) ∧
  (∀ (h : Hdr) (first : Nat) (count : Nat) (clear : Bool), Slait (.counterRead h first count clear) h (cmdCounterRead first count clear)) ∧
  (∀ (h : Hdr) (first : Nat) (count : Nat), Slait (.counterClear h first count) h (cmdCounterClear first count)) ∧
  (∀ (h : Hdr) (sel : StatsSel) (clear : Bool), Slait (.lookupStatsGet h sel clear) h (cmdLookupStatsGet sel clear)) ∧
  (∀ (h : Hdr) (firstBank : Nat) (bankCount : Nat) (firstBucket : Nat) (bucketCount : Nat) (lease : Nat), Slait (.lockAcquire h firstBank bankCount firstBucket bucketCount lease) h (cmdLockAcquire firstBank bankCount firstBucket bucketCount lease)) ∧
  (∀ (h : Hdr) (lock : Nat) (lease : Nat), Slait (.lockRenew h lock lease) h (cmdLockRenew lock lease)) ∧
  (∀ (h : Hdr) (lock : Nat), Slait (.lockRelease h lock) h (cmdLockRelease lock)) ∧
  (∀ (h : Hdr) (lock : Nat), Slait (.lockStatusGet h lock) h (cmdLockStatusGet lock)) ∧
  (∀ (h : Hdr) (lock : Nat) (bank : Nat) (firstBucket : Nat) (count : Nat) (images : List (List (BitVec 256))), Slait (.tableDmaWrite h lock bank firstBucket count images) h (cmdTableDmaWrite lock bank firstBucket count images)) ∧
  (∀ (h : Hdr) (bank : Nat) (firstBucket : Nat) (count : Nat) (hostAddr : Nat), Slait (.tableDmaRead h bank firstBucket count hostAddr) h (cmdTableDmaRead bank firstBucket count hostAddr)) ∧
  (∀ (h : Hdr) (table : Nat) (r : UpkeepRec) (fields : BitVec 8), Slait (.tableUpkeepSet h table r fields) h (cmdTableUpkeepSet table r fields)) ∧
  (∀ (h : Hdr) (period : Nat), Slait (.scrubSet h period) h (cmdScrubSet period)) ∧
  (∀ (h : Hdr) (sel : StatsSel) (clear : Bool), Slait (.upkeepStatsGet h sel clear) h (cmdUpkeepStatsGet sel clear)) ∧
  (∀ (h : Hdr), Slait (.maquetteOpen h) h cmdMaquetteOpen) ∧
  (∀ (h : Hdr) (target : EpochName), Slait (.maquetteCommit h target) h (cmdMaquetteCommit target)) ∧
  (∀ (h : Hdr), Slait (.maquetteDiscard h) h cmdMaquetteDiscard) ∧
  (∀ (h : Hdr) (r : RuleRec), Slait (.ruleAdd h r) h (cmdRuleAdd r)) ∧
  (∀ (h : Hdr) (kind : Nat) (index : Nat), Slait (.objectDelete h kind index) h (cmdObjectDelete kind index)) ∧
  (∀ (h : Hdr) (kind : Nat) (slot : Nat), Slait (.ruleRead h kind slot) h (cmdRuleRead kind slot)) ∧
  (∀ (h : Hdr) (cmp : Nat) (extract : BitVec 32) (low : Nat) (high : Nat), Slait (.rangeSet h cmp extract low high) h (cmdRangeSet cmp extract low high)) ∧
  (∀ (h : Hdr) (slot : Nat) (record : BitVec 128), Slait (.parseEntrySet h slot record) h (cmdParseEntrySet slot record)) ∧
  (∀ (h : Hdr) (dir : Nat) (id : Nat) (extracts : List (BitVec 32)) (rangeGroup : Nat), Slait (.keyProfileSet h dir id extracts rangeGroup) h (cmdKeyProfileSet dir id extracts rangeGroup)) ∧
  (∀ (h : Hdr) (id : Nat) (ops : List EditOp), Slait (.editProfileSet h id ops) h (cmdEditProfileSet id ops)) ∧
  (∀ (h : Hdr) (id : Nat) (bytes : List Byte), Slait (.templateSet h id bytes) h (cmdTemplateSet id bytes)) ∧
  (∀ (h : Hdr) (session : Nat) (toCpu : Bool) (dest : Nat) (trunc : Nat), Slait (.mirrorSessionSet h session toCpu dest trunc) h (cmdMirrorSessionSet session toCpu dest trunc)) ∧
  (∀ (h : Hdr) (port : Nat) (profile : Nat), Slait (.egressBind h port profile) h (cmdEgressBind port profile)) ∧
  (∀ (h : Hdr), Slait (.versionStatusGet h) h cmdVersionStatusGet) ∧
  (∀ (h : Hdr) (pipe : Nat) (clear : Bool), Slait (.parseStatsGet h pipe clear) h (cmdParseStatsGet pipe clear)) ∧
  (∀ (h : Hdr) (octet : Nat) (q16 : Bool), Slait (.queueModeSet h octet q16) h (cmdQueueModeSet octet q16)) ∧
  (∀ (h : Hdr) (queue : Nat) (record : BitVec 64) (fields : BitVec 64), Slait (.queueSchedSet h queue record fields) h (cmdQueueSchedSet queue record fields)) ∧
  (∀ (h : Hdr) (queue : Nat), Slait (.queueSchedGet h queue) h (cmdQueueSchedGet queue)) ∧
  (∀ (h : Hdr) (isPort : Bool) (index : Nat) (record : BitVec 64), Slait (.shaperSet h isPort index record) h (cmdShaperSet isPort index record)) ∧
  (∀ (h : Hdr) (isPort : Bool) (index : Nat), Slait (.shaperGet h isPort index) h (cmdShaperGet isPort index)) ∧
  (∀ (h : Hdr) (port : Nat) (record : BitVec 64) (fields : BitVec 64), Slait (.portSchedSet h port record fields) h (cmdPortSchedSet port record fields)) ∧
  (∀ (h : Hdr) (port : Nat) (map : BitVec 32), Slait (.tcMapSet h port map) h (cmdTcMapSet port map)) ∧
  (∀ (h : Hdr) (port : Nat), Slait (.portSchedGet h port) h (cmdPortSchedGet port)) ∧
  (∀ (h : Hdr) (port : Nat) (g : GateSpec), Slait (.gateListSet h port g) h (cmdGateListSet port g)) ∧
  (∀ (h : Hdr) (port : Nat), Slait (.gateListClear h port) h (cmdGateListClear port)) ∧
  (∀ (h : Hdr) (port : Nat), Slait (.gateStatusGet h port) h (cmdGateStatusGet port)) ∧
  (∀ (h : Hdr) (isPort : Bool) (index : Nat) (clear : Bool), Slait (.egressStatsGet h isPort index clear) h (cmdEgressStatsGet isPort index clear)) ∧
  (∀ (h : Hdr) (sizes : List (Option Nat)) (pushout : List (Option Bool)), Slait (.bufferPoolSet h sizes pushout) h (cmdBufferPoolSet sizes pushout)) ∧
  (∀ (h : Hdr), Slait (.bufferPoolGet h) h cmdBufferPoolGet) ∧
  (∀ (h : Hdr) (queue : Nat) (record : BitVec 64) (fields : BitVec 64), Slait (.queueAdmitSet h queue record fields) h (cmdQueueAdmitSet queue record fields)) ∧
  (∀ (h : Hdr) (queue : Nat), Slait (.queueAdmitGet h queue) h (cmdQueueAdmitGet queue)) ∧
  (∀ (h : Hdr) (port : Nat) (prio : Nat) (xoff : Option Nat) (xon : Option Nat) (headroom : Option Nat), Slait (.pgSet h port prio xoff xon headroom) h (cmdPgSet port prio xoff xon headroom)) ∧
  (∀ (h : Hdr) (sel : StatsSel) (clear : Bool), Slait (.bufferStatsGet h sel clear) h (cmdBufferStatsGet sel clear)) ∧
  (∀ (h : Hdr) (first : Nat) (count : Nat), Slait (.bufferCellRead h first count) h (cmdBufferCellRead first count)) ∧
  (∀ (h : Hdr) (e : Element) (drainLimit : Nat), Slait (.trellisRetire h e drainLimit) h (cmdTrellisRetire e drainLimit)) ∧
  (∀ (h : Hdr) (e : Element), Slait (.trellisRestore h e) h (cmdTrellisRestore e)) ∧
  (∀ (h : Hdr) (e : Element), Slait (.trellisStatusGet h e) h (cmdTrellisStatusGet e)) ∧
  (∀ (h : Hdr) (group : Nat) (self : Bool) (members : List Nat), Slait (.mcastGroupSet h group self members) h (cmdMcastGroupSet group self members)) ∧
  (∀ (h : Hdr) (group : Nat), Slait (.mcastGroupGet h group) h (cmdMcastGroupGet group)) ∧
  (∀ (h : Hdr) (group : Nat), Slait (.mcastGroupDelete h group) h (cmdMcastGroupDelete group)) ∧
  (∀ (h : Hdr) (port : Nat) (en : Option Bool) (start : Option Nat), Slait (.cutThroughSet h port en start) h (cmdCutThroughSet port en start)) ∧
  (∀ (h : Hdr) (sel : StatsSel) (clear : Bool), Slait (.trellisStatsGet h sel clear) h (cmdTrellisStatsGet sel clear)) ∧
  (∀ (h : Hdr) (domain : Nat) (adj : Option Int) (hostWd : Option Nat) (holdMax : Option Nat), Slait (.timeDomainSet h domain adj hostWd holdMax) h (cmdTimeDomainSet domain adj hostWd holdMax)) ∧
  (∀ (h : Hdr) (domain : Nat), Slait (.timeGet h domain) h (cmdTimeGet domain)) ∧
  (∀ (h : Hdr) (domain : Nat) (sec : Nat) (ns : Nat) (frac : Nat) (atPps : Option Nat), Slait (.timeSet h domain sec ns frac atPps) h (cmdTimeSet domain sec ns frac atPps)) ∧
  (∀ (h : Hdr) (domain : Nat) (backward : Bool) (sec : Nat) (ns : Nat) (frac : Nat), Slait (.timeStep h domain backward sec ns frac) h (cmdTimeStep domain backward sec ns frac)) ∧
  (∀ (h : Hdr) (domain : Nat) (adj : Int), Slait (.timeAdjust h domain adj) h (cmdTimeAdjust domain adj)) ∧
  (∀ (h : Hdr) (domain : Nat) (enter : Bool), Slait (.timeHoldover h domain enter) h (cmdTimeHoldover domain enter)) ∧
  (∀ (h : Hdr) (domain : Nat), Slait (.timeStatusGet h domain) h (cmdTimeStatusGet domain)) ∧
  (∀ (h : Hdr) (port : Nat) (record : BitVec 64) (fields : BitVec 64), Slait (.timePortSet h port record fields) h (cmdTimePortSet port record fields)) ∧
  (∀ (h : Hdr) (port : Nat), Slait (.timePortGet h port) h (cmdTimePortGet port)) ∧
  (∀ (h : Hdr) (pin : Nat) (dir : Nat) (domain : Nat) (activeLow : Bool) (offsetNs : Nat) (widthNs : Nat), Slait (.ppsSet h pin dir domain activeLow offsetNs widthNs) h (cmdPpsSet pin dir domain activeLow offsetNs widthNs)) ∧
  (∀ (h : Hdr) (pin : Nat) (count : Nat), Slait (.ppsRead h pin count) h (cmdPpsRead pin count)) ∧
  (∀ (h : Hdr) (isPort : Bool) (index : Nat) (clear : Bool), Slait (.timeStatsGet h isPort index clear) h (cmdTimeStatsGet isPort index clear)) ∧
  (∀ (h : Hdr) (port : Nat) (record : BitVec 64) (fields : BitVec 64), Slait (.cipherPortSet h port record fields) h (cmdCipherPortSet port record fields)) ∧
  (∀ (h : Hdr) (port : Nat), Slait (.cipherPortGet h port) h (cmdCipherPortGet port)) ∧
  (∀ (h : Hdr) (port : Nat) (dir : Nat) (sci : BitVec 64) (replayProtect : Bool) (replayWindow : Option Nat) (pnThreshold : Option Nat), Slait (.scCreate h port dir sci replayProtect replayWindow pnThreshold) h (cmdScCreate port dir sci replayProtect replayWindow pnThreshold)) ∧
  (∀ (h : Hdr) (sc : Nat) (dir : Nat) (replayProtect : Option Bool) (replayWindow : Option Nat) (pnThreshold : Option Nat), Slait (.scSet h sc dir replayProtect replayWindow pnThreshold) h (cmdScSet sc dir replayProtect replayWindow pnThreshold)) ∧
  (∀ (h : Hdr) (sc : Nat) (dir : Nat), Slait (.scDelete h sc dir) h (cmdScDelete sc dir)) ∧
  (∀ (h : Hdr) (p : SaParams), Slait (.saInstall h p) h (cmdSaInstall p)) ∧
  (∀ (h : Hdr) (sc : Nat) (dir : Nat) (an : Nat), Slait (.saDelete h sc dir an) h (cmdSaDelete sc dir an)) ∧
  (∀ (h : Hdr) (sc : Nat) (an : Nat), Slait (.txSaSelect h sc an) h (cmdTxSaSelect sc an)) ∧
  (∀ (h : Hdr) (sc : Nat) (dir : Nat) (an : Nat), Slait (.saStatusGet h sc dir an) h (cmdSaStatusGet sc dir an)) ∧
  (∀ (h : Hdr) (sel : StatsSel) (clear : Bool), Slait (.cipherStatsGet h sel clear) h (cmdCipherStatsGet sel clear)) ∧
  (∀ (h : Hdr) (engine : Nat) (count : Nat) (windowNs : Nat), Slait (.cipherEngineSet h engine count windowNs) h (cmdCipherEngineSet engine count windowNs)) ∧
  (∀ (h : Hdr) (engine : Nat), Slait (.cipherEngineRestore h engine) h (cmdCipherEngineRestore engine)) ∧
  (∀ (h : Hdr) (ctx : Nat) (kind : Nat) (wrapCtx : Option Nat) (key : BitVec 320), Slait (.laContextLoad h ctx kind wrapCtx key) h (cmdLaContextLoad ctx kind wrapCtx key)) ∧
  (∀ (h : Hdr) (ctx : Nat), Slait (.laContextExport h ctx) h (cmdLaContextExport ctx)) ∧
  (∀ (h : Hdr) (ctx : Nat) (b : Blob), Slait (.laContextImport h ctx b) h (cmdLaContextImport ctx b)) ∧
  (∀ (h : Hdr) (ctx : Nat), Slait (.laContextClear h ctx) h (cmdLaContextClear ctx)) ∧
  (∀ (h : Hdr) (ctx : Nat) (op : Nat) (iv : BitVec 96) (aad : List Byte) (data : List Byte), Slait (.laCrypt h ctx op iv aad data) h (cmdLaCrypt ctx op iv aad data)) ∧
  (∀ (h : Hdr) (stream : Nat) (r : StreamRec) (fields : BitVec 16), Slait (.telemetryStreamSet h stream r fields) h (cmdTelemetryStreamSet stream r fields)) ∧
  (∀ (h : Hdr) (stream : Nat), Slait (.telemetryStreamGet h stream) h (cmdTelemetryStreamGet stream)) ∧
  (∀ (h : Hdr) (queue : Nat) (r : ReportRec) (fields : BitVec 8), Slait (.queueReportSet h queue r fields) h (cmdQueueReportSet queue r fields)) ∧
  (∀ (h : Hdr) (nodeId : BitVec 56) (td : Nat) (namespaces : List (Nat × BitVec 64)), Slait (.ioamSet h nodeId td namespaces) h (cmdIoamSet nodeId td namespaces)) ∧
  (∀ (h : Hdr) (first : Nat) (count : Nat), Slait (.queueSampleGet h first count) h (cmdQueueSampleGet first count)) ∧
  (∀ (h : Hdr) (scope : Nat) (counter : Nat) (record : BitVec 64), Slait (.perfCounterSet h scope counter record) h (cmdPerfCounterSet scope counter record)) ∧
  (∀ (h : Hdr) (sel : StatsSel) (clear : Bool), Slait (.telemetryStatsGet h sel clear) h (cmdTelemetryStatsGet sel clear)) ∧
  (∀ (h : Hdr) (cap : Option Nat) (window : Option Nat) (margin : Option Nat), Slait (.powerCapSet h cap window margin) h (cmdPowerCapSet cap window margin)) ∧
  (∀ (h : Hdr), Slait (.powerStatusGet h) h cmdPowerStatusGet) ∧
  (∀ (h : Hdr) (op : Nat), Slait (.opHostSet h op) h (cmdOpHostSet op)) ∧
  (∀ (h : Hdr) (en : Nat), Slait (.thermalSet h en) h (cmdThermalSet en)) ∧
  (∀ (h : Hdr) (cmp : Nat) (f : CmpFields), Slait (.comparatorSet h cmp f) h (cmdComparatorSet cmp f)) ∧
  (∀ (h : Hdr) (cmp : Nat), Slait (.comparatorGet h cmp) h (cmdComparatorGet cmp)) ∧
  (∀ (h : Hdr) (wakeNEn : Bool), Slait (.dormantEnter h wakeNEn) h (cmdDormantEnter wakeNEn)) ∧
  (∀ (h : Hdr) (west : Bool), Slait (.deviceWake h west) h (cmdDeviceWake west)) ∧
  (∀ (h : Hdr) (freqs : Option (List Nat)), Slait (.powerCompatSet h freqs) h (cmdPowerCompatSet freqs)) ∧
  (∀ (h : Hdr), Slait (.castTableGet h) h cmdCastTableGet) ∧
  (∀ (h : Hdr) (source : Nat) (f : ReactFields), Slait (.faultReactionSet h source f) h (cmdFaultReactionSet source f)) ∧
  (∀ (h : Hdr) (source : Nat), Slait (.faultReactionGet h source) h (cmdFaultReactionGet source)) ∧
  (∀ (h : Hdr) (logMin : Option Nat) (firstMin : Option Nat) (isolatePorts : Option Nat), Slait (.faultConfigSet h logMin firstMin isolatePorts) h (cmdFaultConfigSet logMin firstMin isolatePorts)) ∧
  (∀ (h : Hdr) (first : Nat) (count : Nat), Slait (.faultLogRead h first count) h (cmdFaultLogRead first count)) ∧
  (∀ (h : Hdr), Slait (.faultFirstGet h) h cmdFaultFirstGet) ∧
  (∀ (h : Hdr), Slait (.faultFirstClear h) h cmdFaultFirstClear) ∧
  (∀ (h : Hdr) (source : Nat) (inst : Nat), Slait (.faultStatusGet h source inst) h (cmdFaultStatusGet source inst)) ∧
  (∀ (h : Hdr) (u : UnitRef), Slait (.unitRetire h u) h (cmdUnitRetire u)) ∧
  (∀ (h : Hdr) (u : UnitRef), Slait (.unitFence h u) h (cmdUnitFence u)) ∧
  (∀ (h : Hdr) (u : UnitRef), Slait (.unitRestore h u) h (cmdUnitRestore u)) ∧
  (∀ (h : Hdr) (sel : StatsSel) (clear : Bool), Slait (.faultStatsGet h sel clear) h (cmdFaultStatsGet sel clear)) ∧
  (∀ (h : Hdr), Slait (.faultInject h) h cmdFaultInject) ∧
  (∀ (h : Hdr) (role : Nat) (peer : Nat) (peerId : BitVec 384), Slait (.twinBind h role peer peerId) h (cmdTwinBind role peer peerId)) ∧
  (∀ (h : Hdr), Slait (.twinUnbind h) h cmdTwinUnbind) ∧
  (∀ (h : Hdr), Slait (.twinJoin h) h cmdTwinJoin) ∧
  (∀ (h : Hdr), Slait (.twinDetach h) h cmdTwinDetach) ∧
  (∀ (h : Hdr), Slait (.twinRoleSwap h) h cmdTwinRoleSwap) ∧
  (∀ (h : Hdr) (on : Bool), Slait (.twinDrain h on) h (cmdTwinDrain on)) ∧
  (∀ (h : Hdr) (r : NotifyRec) (fields : BitVec 8), Slait (.twinNotifySet h r fields) h (cmdTwinNotifySet r fields)) ∧
  (∀ (h : Hdr), Slait (.twinStatusGet h) h cmdTwinStatusGet) ∧
  (∀ (h : Hdr), Slait (.ringStatusGet h) h cmdRingStatusGet) ∧
  (∀ (h : Hdr), Slait (.ringEnumerate h) h cmdRingEnumerate) ∧
  (∀ (h : Hdr) (clear : Bool), Slait (.twinStatsGet h clear) h (cmdTwinStatsGet clear)) ∧
  (∀ (h : Hdr) (first rest : List Byte), Slait (.armPatchLoad h first rest) h (cmdArmPatchLoad (first ++ rest))) ∧
  (∀ (h : Hdr), Slait (.armPatchActivate h) h cmdArmPatchActivate) ∧
  (∀ (h : Hdr), Slait (.armPatchRevert h) h cmdArmPatchRevert) ∧
  (∀ (h : Hdr), Slait (.armPatchStatusGet h) h cmdArmPatchStatusGet) ∧
  (∀ (h : Hdr) (restart : Option Nat) (live : Option Nat), Slait (.armEngineSet h restart live) h (cmdArmEngineSet restart live)) ∧
  (∀ (h : Hdr) (engine : Nat), Slait (.armEngineStatusGet h engine) h (cmdArmEngineStatusGet engine)) ∧
  (∀ (h : Hdr) (engine : Nat), Slait (.armEngineRestore h engine) h (cmdArmEngineRestore engine)) ∧
  (∀ (h : Hdr) (engine : Nat) (clear : Bool), Slait (.armStatsGet h engine clear) h (cmdArmStatsGet engine clear)) ∧
  (∀ (h : Hdr), Slait (.bootStatusGet h) h cmdBootStatusGet) ∧
  (∀ (h : Hdr) (offset : Nat) (chunk : List Byte), Slait (.fwPush h offset chunk) h (cmdFwPush offset chunk)) ∧
  (∀ (h : Hdr) (high low : BitVec 32), Slait (.fwPushDone h high low) h (cmdFwPushDone (high ++ low).toNat)) ∧
  (∀ (h : Hdr) (offset : Nat) (chunk : List Byte), Slait (.fwFlashWrite h offset chunk) h (cmdFwFlashWrite offset chunk)) ∧
  (∀ (h : Hdr) (high low : BitVec 32), Slait (.fwFlashCommit h high low) h (cmdFwFlashCommit (high ++ low).toNat)) ∧
  (∀ (h : Hdr), Slait (.fwRestart h) h cmdFwRestart) ∧
  (∀ (h : Hdr) (v : Nat), Slait (.svnAdvance h v) h (cmdSvnAdvance v)) ∧
  (∀ (h : Hdr) (lms : Bool) (slot : Nat), Slait (.keyRevoke h lms slot) h (cmdKeyRevoke lms slot)) ∧
  (∀ (h : Hdr), Slait (.identityCertGet h) h cmdIdentityCertGet) ∧
  (∀ (h : Hdr), Slait (.measurementGet h) h cmdMeasurementGet) ∧
  (∀ (h : Hdr) (nonce : BitVec 384), Slait (.attestReportGet h nonce) h (cmdAttestReportGet nonce))

/-- What every session and device-state command does in each case that its own effect comes; the equation gives the whole next state, and with it the frame. -/
def Obligations.SessionCommands : Prop := ∀ (s t : State) (h : Hdr),
  (∀ (lowMaj : Nat) (lowMin : Nat) (highMaj : Nat) (highMin : Nat) (telemetry : Option Nat),
     match agree (lowMaj * 256 + lowMin) (highMaj * 256 + highMin) with
     | none => True
     | some v =>
       let f := agreeFormat telemetry
       let x : Session := { sender := hdrSender h, target := h.target, major := v / 256, minor := v % 256, telemetry := f }
       let u := t.dropSession h
       Does s t h (.hello h lowMaj lowMin highMaj highMin telemetry) (cmdHello lowMaj lowMin highMaj highMin
         telemetry) { u with cmd.sessions := u.cmd.sessions ++ [x] } 0 ([v / 256, v % 256, f, t.sec.deviceId, 0xB1]
           ++ t.fwVersion ++ [devCode t.cmd.dev, t.twin.version])) ∧
  (Does s t h (.goodbye h) cmdGoodbye (t.dropSession h) 0 []) ∧
  (Does s t h (.deviceStateGet h) cmdDeviceStateGet t 0 [devCode t.cmd.dev, t.clock.epoch, t.power.op]) ∧
  (∀ (target : Nat),
     (target == 2 || target == 3) = true →
     (t.cmd.dev == .configure || t.cmd.dev == .service || (t.cmd.dev == .drain && target == 2)) = true →
     Accepts s t h (.deviceStateSet h target) (cmdDeviceStateSet target) t [objDevice 0] [.devState (if target = 2
       then .configure else .service)]) ∧
  (∀ (queue : Nat) (ring : Nat),
     queue < 256 →
     ring < 64 →
     Accepts s t h (.cpuQueueMapSet h queue ring) (cmdCpuQueueMapSet queue ring) t [objCpuQueue queue] [.cpuMap queue
       ring]) ∧
  (∀ (group : Nat) (enable : BitVec 32) (ring : Nat),
     group < 32 →
     ring < 4 →
     Does s t h (.eventRouteSet h group enable ring) (cmdEventRouteSet group enable ring) ((t.putEvEnable group
       (enable &&& assigned group)).putEvRoute group ring) 0 []) ∧
  (∀ (group : Nat),
     group < 32 →
     Does s t h (.eventStatusGet h group) (cmdEventStatusGet group) t 0 [(t.evStatus group).toNat, (t.evEnable
       group).toNat, t.evRoute group]) ∧
  (∀ (group : Nat) (mask : BitVec 32),
     group < 32 →
     Does s t h (.eventStatusClear h group mask) (cmdEventStatusClear group mask) (t.clearStatus group mask
       (t.raisedNow group)) 0 []) ∧
  (∀ (sel : StatsSel) (clear : Bool),
     sel.index < sessionScope sel.kind →
     sel.kind < 4 →
     let cs : List (Ctr × Nat) := ((sessionCtrs sel.kind).map fun c => (c, sel.index))
     Does s t h (.sessionStatsGet h sel clear) (cmdSessionStatsGet sel clear) (if clear then t.clearCtrs cs else t) 0
       (if clear then t.ctrsBefore cs else t.ctrVals cs)) ∧
  (∀ (data : List Byte),
     Does s t h (.echo h data) (cmdEcho data) t 0 (data.map (·.toNat)))

/-- What every port command does in each case that its own effect comes; the equation gives the whole next state, and with it the frame. -/
def Obligations.PortCommands : Prop := ∀ (s t : State) (h : Hdr),
  (∀ (octet : Nat) (rate : Nat) (mask : BitVec 8),
     octet < 128 →
     layoutOk rate mask = true →
     t.modeFree octet rate mask = true →
     (!(t.q16Due octet && hasOddStart mask)) = true →
     (!t.losesSc octet mask) = true →
     Accepts s t h (.portModeSet h octet rate mask) (cmdPortModeSet octet rate mask) t ([objOctet octet] ++
       (List.range 8).map fun i => objPort (octet * 8 + i)) [.portMode octet rate mask]) ∧
  (∀ (port : Nat) (record : BitVec 64) (fields : BitVec 64),
     let old := (t.port port).cfg
     let r := merge old record (fields &&& portWritable)
     port < 1024 →
     (portRecordOk (t.portRate port) r) = true →
     t.isPort port = true →
     (!(t.port port).enabled || (fld (r ^^^ old) 5 3 == 0)) = true →
     Accepts s t h (.portConfigSet h port record fields) (cmdPortConfigSet port record fields) t [objPort port]
       [.portConfig port record fields]) ∧
  (∀ (port : Nat) (on : Bool),
     port < 1024 →
     t.isPort port = true →
     Accepts s t h (.portEnable h port on) (cmdPortEnable port on) t [objPortEnable port] [.portEnable port on]) ∧
  (∀ (port : Nat),
     port < 1024 →
     t.isPort port = true →
     let q := t.port port
     Does s t h (.portStatusGet h port) (cmdPortStatusGet port) t 0 [q.cfg.toNat, (t.portLanes port).2, (t.portLanes
       port).1, q.flags, (q.ability.map (· + 1)).getD 0]) ∧
  (∀ (port : Nat) (clear : Bool),
     port < 1024 →
     t.isPort port = true →
     Does s t h (.portStatsGet h port clear) (cmdPortStatsGet port clear) (if clear then t.clearCtrs (portCtrs port)
       else t) 0 (if clear then t.ctrsBefore (portCtrs port) else t.ctrVals (portCtrs port))) ∧
  (∀ (octet : Nat),
     octet < 128 →
     Does s t h (.octetLayoutGet h octet) (cmdOctetLayoutGet octet) t 0 [(t.octet octet).rate, (t.octet
       octet).mask.toNat,
           ((List.range 8).map fun i => b2n (t.port (octet * 8 + i)).enabled * 2 ^ i).sum])

/-- What every lane command does in each case that its own effect comes; the equation gives the whole next state, and with it the frame. -/
def Obligations.LaneCommands : Prop := ∀ (s t : State) (h : Hdr),
  (∀ (lane : Nat) (record : BitVec 64) (fields : BitVec 64) (trainMs : Option Nat) (serExp : Option Nat) (holdoffMs :
    Option Nat),
     let old := (t.lane lane).cfg
     let r := merge old record (fields &&& laneWritable)
     let within (v : Option Nat) (lo hi : Nat) : Bool := match v with | some n => decide (lo ≤ n) && decide (n ≤ hi) | none => true
     lane < 1024 →
     (laneRecordOk r && within trainMs 100 5000 && within serExp 2 8 && within holdoffMs 10 1000) = true →
     (!t.laneClash lane old r) = true →
     Does s t h (.laneConfigSet h lane record fields trainMs serExp holdoffMs) (cmdLaneConfigSet lane record fields
       trainMs serExp holdoffMs) ((t.modLane lane fun x => { x with cfg := r }).modOctet (lane / 8) fun o =>
           { o with trainMs := trainMs.getD o.trainMs, serExp := serExp.getD o.serExp, holdoffMs := holdoffMs.getD o.holdoffMs }) 0 []) ∧
  (∀ (lane : Nat),
     lane < 1024 →
     Does s t h (.laneStatusGet h lane) (cmdLaneStatusGet lane) t 0 [(setFld (t.lane lane).cfg 13 10 (t.lane
       lane).st.code).toNat, (t.octet (lane / 8)).orderState.code, (t.lane lane).snr]) ∧
  (∀ (lane : Nat) (clear : Bool),
     lane < 1024 →
     Does s t h (.laneStatsGet h lane clear) (cmdLaneStatsGet lane clear) (if clear then t.clearCtrs (laneCtrs lane)
       else t) 0 ((if clear then t.ctrsBefore (laneCtrs lane) else t.ctrVals (laneCtrs lane)) ++ [(t.lane
         lane).snr])) ∧
  (∀ (lane : Nat) (eye : Nat) (phaseStart : Int) (phaseStep : Nat) (phaseCount : Nat) (voltStart : Int) (voltStep :
    Nat) (voltCount : Nat) (dwellExp : Nat),
     let rate := (t.octet (lane / 8)).rate
     let inR (v lo hi : Nat) : Bool := decide (lo ≤ v) && decide (v ≤ hi)
     let running := match (t.lane lane).scan with | some c => c.status == 0 | none => false
     lane < 1024 →
     (decide (eye < 3) && (rate != 3 || eye == 1) && inR phaseStep 1 64 && inR phaseCount 1 64 && inR voltStep 1 126
           && inR voltCount 1 127 && inR dwellExp 6 12 && scanFits phaseStart phaseStep phaseCount 32 31
           && scanFits voltStart voltStep voltCount 63 63) = true →
     ((t.lane lane).st == .up) = true →
     (!running && decide (t.tileScans (lane / 128) < 16)) = true →
     Does s t h (.eyeScanStart h lane eye phaseStart phaseStep phaseCount voltStart voltStep voltCount dwellExp)
       (cmdEyeScanStart lane eye phaseStart phaseStep phaseCount voltStart voltStep voltCount dwellExp) (startScan
         lane { id := t.lp.scanNext, rate := rate, eye := eye, phaseStart := phaseStart, phaseStep := phaseStep, phaseCount := phaseCount, voltStart := voltStart, voltStep := voltStep, voltCount := voltCount, dwellExp := dwellExp, status := 0, done := 0, startEpoch := t.clock.epoch, endEpoch := 0, counts := [], endedAt := 0 } t) t.lp.scanNext []) ∧
  (∀ (scan : Nat) (first : Nat) (count : Nat),
     match t.scanLane scan with
     | none => True
     | some (l, c) =>
       (decide (count ≤ 256) && decide (first + count ≤ c.phaseCount * c.voltCount)) = true →
       Does s t h (.eyeScanRead h scan first count) (cmdEyeScanRead scan first count) t 0 (c.header l ++ (List.range
         count).map fun i => (c.counts[first + i]?).getD 0)) ∧
  (∀ (scan : Nat),
     match t.scanLane scan with
     | none => True
     | some (l, c) =>
       (c.status == 0) = true →
       Does s t h (.eyeScanAbort h scan) (cmdEyeScanAbort scan) (t.endScan l 2) 0 []) ∧
  (∀ (lane : Nat),
     lane < 1024 →
     ((t.lane lane).st != .retired && !t.reactedNow (.lane lane)) = true →
     Does s t h (.laneRetire h lane) (cmdLaneRetire lane) (t.retireLane lane) 0 []) ∧
  (∀ (lane : Nat) (passes : Bool),
     lane < 1024 →
     (t.mayRestoreLane lane && !t.reactedNow (.lane lane)) = true →
     Does s t h (.laneRestore h lane passes) (cmdLaneRestore lane passes) (t.restoreLane lane passes) (if passes then
       LaneState.disabled else LaneState.calFailed).code []) ∧
  (∀ (lane : Nat) (gen : Nat) (chk : Nat),
     let rate := (t.octet (lane / 8)).rate
     lane < 1024 →
     (patternOk rate gen && patternOk rate chk) = true →
     t.testable lane = true →
     Does s t h (.lanePrbsSet h lane gen chk) (cmdLanePrbsSet lane gen chk) ((t.modLane lane fun x =>
       { x with prbsGen := gen, prbsChk := chk }).retest lane) 0 []) ∧
  (∀ (lane : Nat) (mode : Nat),
     lane < 1024 →
     mode < 3 →
     t.testable lane = true →
     Does s t h (.laneLoopbackSet h lane mode) (cmdLaneLoopbackSet lane mode) ((t.modLane lane fun x =>
       { x with loopback := mode }).retest lane) 0 []) ∧
  (∀ (octet : Nat) (mode : Nat),
     octet < 128 →
     mode < 3 →
     (!((t.octetPorts octet).any fun p => (t.port p).linkUp)) = true →
     Does s t h (.octetOrderSet h octet mode) (cmdOctetOrderSet octet mode) (t.restartOrder octet mode) 0 [])

/-- What every table-store command does in each case that its own effect comes; the equation gives the whole next state, and with it the frame. -/
def Obligations.TableCommands : Prop := ∀ (s t : State) (h : Hdr),
  (∀ (table : Nat) (r : TableRec),
     table < 32 →
     tableRecOk r = true →
     (t.tableView table).isNone = true →
     t.rangeFree r = true →
     let p := t.withSeeds r
     Accepts s t h (.tableCreate h table r) (cmdTableCreate table r) p.1 [objTable table] [.tableCreate table p.2]) ∧
  (∀ (table : Nat),
     table < 32 →
     (t.table table).valid = true →
     (!t.holdsEntry table && !t.tableNamed table) = true →
     Accepts s t h (.tableDelete h table) (cmdTableDelete table) t [objTable table] [.tableDelete table]) ∧
  (∀ (table : Nat),
     table < 32 →
     (t.table table).valid = true →
     let r := (t.table table).rcd
     Does s t h (.tableStatusGet h table) (cmdTableStatusGet table) t 0 [table, r.kind, r.width, r.baseBank,
       r.bankCount, r.versioned, r.learnEn, r.ageEn, r.seedSet
           , (t.entriesOf table).length, (t.stashOfTable table).length]) ∧
  (∀ (table : Nat) (seed0 : BitVec 128) (seed1 : BitVec 128),
     table < 32 →
     (t.table table).valid = true →
     (!t.holdsEntry table) = true →
     Does s t h (.tableSeedSet h table seed0 seed1) (cmdTableSeedSet table seed0 seed1) (t.modTable table fun d =>
       { d with rcd := { d.rcd with seed0 := seed0, seed1 := seed1 } }) 0 []) ∧
  (∀ (table : Nat) (key : BitVec 320) (data : BitVec 80) (static : Bool),
     table < 32 → (t.table table).valid = true →
     ((t.table table).rcd.kind == 0 && keyFits (t.table table).rcd.width key) = true →
     dataOk data = true →
     ((((t.table table).rcd.versioned = 1 : Prop)) →
       ∀ v, t.rules.staged = some v → t.sealed = false →
       t.opFits = true →
       Waits s t h (.emEntryAdd h table key data static) (cmdEmEntryAdd table key data static) (t.countOp.placeJob
         (.insert table key (dataClean data) static (some v)) (some (h, 0x0405))) 0) ∧
     (¬ ((t.table table).rcd.versioned = 1) →
       Waits s t h (.emEntryAdd h table key data static) (cmdEmEntryAdd table key data static) (t.placeJob (.insert
         table key (dataClean data) static none) (some (h, 0x0405))) 0)) ∧
  (∀ (table : Nat) (key : BitVec 320),
     table < 32 → (t.table table).valid = true →
     ((t.table table).rcd.kind == 0 && keyFits (t.table table).rcd.width key) = true →
     ((((t.table table).rcd.versioned = 1 : Prop)) →
       ∀ v, t.rules.staged = some v → t.sealed = false →
       t.opFits = true →
       Waits s t h (.emEntryDelete h table key) (cmdEmEntryDelete table key) (t.countOp.placeJob (.delete table key
         (some v)) (some (h, 0x0406))) 0) ∧
     (¬ ((t.table table).rcd.versioned = 1) →
       Waits s t h (.emEntryDelete h table key) (cmdEmEntryDelete table key) (t.placeJob (.delete table key none)
         (some (h, 0x0406))) 0)) ∧
  (∀ (table : Nat) (key : Option (BitVec 320)) (addr : BitVec 64),
     match key with
     | some k =>
       table < 32 → (t.table table).valid = true →
       ((t.table table).rcd.kind == 0 && keyFits (t.table table).rcd.width k) = true →
       let b := t.buckets table k
       let j := t.newJob h 0x0407 table 0 0 (.key k)
       Waits s t h (.emEntryRead h table key addr) (cmdEmEntryRead table key addr) (t.startJob j [(0, b.1.1, .cmdRead
         j.id b.1.2), (0, b.2.1, .cmdRead j.id b.2.2)] 7) 64
     | none =>
       table < 32 →
       emAddrOk addr = true →
       (t.table table).valid = true →
       let i := fld addr 47 32 * 4096 + fld addr 31 0
       ((fld addr 63 60 = 1) →
         let j := t.newJob h 0x0407 table (fld addr 47 32) 0 (.place i)
         Waits s t h (.emEntryRead h table key addr) (cmdEmEntryRead table key addr) (t.startJob j [(0, fld addr 47
           32, .cmdRead j.id (fld addr 31 0 / 4))] 7) 64) ∧
       (¬ (fld addr 63 60 = 1) →
         Answers s t h (.emEntryRead h table key addr) (cmdEmEntryRead table key addr) (t.readStash table addr))) ∧
  (∀ (table index : Nat) (slot : BitVec 256),
     let r := (t.table table).rcd
     let i := index / r.bankCount
     let bank := r.baseBank + index % r.bankCount
     let image := setFld (setFld (setFld slot 254 254 0) 213 209 0) 6 0 0
     let j := t.newJob h 0x0408 table bank (i / 4) .none
     let go := fun (w : State) => w.startJob j [(0, bank, .cmdWrite j.id (i / 4) (i % 4) image)] 7
     table < 32 → (t.table table).valid = true → index < r.bankCount * 4096 → dataOk (slotData slot) = true →
     r.kind = 1 →
     (r.versioned = 1 → ∀ v, t.rules.staged = some v → t.sealed = false → t.opFits = true →
       Waits s t h (.directWrite h table index slot) (cmdDirectWrite table index slot) (go t.countOp) 0) ∧
     (r.versioned ≠ 1 →
       Waits s t h (.directWrite h table index slot) (cmdDirectWrite table index slot) (go t) 0)) ∧
  (∀ (family : Nat) (vrf : Nat) (length : Nat) (addr : BitVec 128) (result : BitVec 64),
     (prefixOk family vrf length addr && decide (fld result 63 61 ≤ 4)) = true →
     ∀ v, t.rules.staged = some v → t.sealed = false →
     (t.prefixFor family vrf length addr v).isNone = true →
     let u := if family = 0 then 1 else 2
     (decide (t.rules.lpmUnits + u ≤ 2097152) && t.opFits) = true →
     let n := t.freePrefixSlot
     let o : ObjSlot := { valid := true, id := 0, stamp := { Stamp.init with birth := v, birthSet := true }, val := .lpmPrefix family vrf length addr (resultClean result) }
     let w := { t.putPrefixAt n o with rules.lpmUnits := t.rules.lpmUnits + u }
     Does s t h (.prefixAdd h family vrf length addr result) (cmdPrefixAdd family vrf length addr result)
       (w.countOp.placeJob (.prefixStage n) none) 0 []) ∧
  (∀ (family : Nat) (vrf : Nat) (length : Nat) (addr : BitVec 128),
     prefixOk family vrf length addr = true →
     ∀ v, t.rules.staged = some v → t.sealed = false →
     match t.prefixFor family vrf length addr v with
     | none => True
     | some e =>
       t.opFits = true →
       ((e.2.addedIn v) →
         Does s t h (.prefixDelete h family vrf length addr) (cmdPrefixDelete family vrf length addr) (t.freePrefix
           e.1).countOp 0 []) ∧
       (¬ (e.2.addedIn v) →
         let u := t.putPrefixAt e.1 { e.2 with stamp := { e.2.stamp with death := v, deathSet := true } }
         Does s t h (.prefixDelete h family vrf length addr) (cmdPrefixDelete family vrf length addr)
           (u.countOp.placeJob (.prefixStage e.1) none) 0 [])) ∧
  (∀ (family : Nat) (vrf : Nat) (length : Nat) (addr : BitVec 128) (version : Nat),
     (prefixOk family vrf length addr && decide (version ≤ 65535)) = true →
     let v := if version = 0 then t.rules.current else BitVec.ofNat 16 version
     let j := t.newJob h 0x040B 0 0 0 (.prefixRead family vrf length addr v)
     let path := t.lpmPath family vrf addr
     let reads := if path.isEmpty then [(0, 0, 0)] else path
     Waits s t h (.prefixRead h family vrf length addr version) (cmdPrefixRead family vrf length addr version)
       (t.startJob j (reads.map fun (w : Nat × Nat × Nat) => (1, w.1 * 128 + w.2.1, .cmdRead j.id w.2.2)) 7) 40) ∧
  (∀ (seed : BitVec 128),
     (!(t.rules.prefixes.any fun (e : Nat × ObjSlot) => e.2.valid)) = true →
     Does s t h (.lpmSeedSet h seed) (cmdLpmSeedSet seed) { t with tables := { t.tables with lpmSeed := seed } } 0
       []) ∧
  (∀ (prof : Nat) (r : EmProf),
     (decide (1 ≤ prof) && decide (prof ≤ 31)) = true →
     (decide (r.lookups.length ≤ 8) && r.lookups.all t.emLookupOk && decide (r.missOp ≤ 2)
           && (r.missOp != 1 || decide (r.missArg ≤ 255)) && decide (r.missArg ≤ 65535)) = true →
     Accepts s t h (.emProfileSet h prof r) (cmdEmProfileSet prof r) t [objSet prof] [.emProfile prof r]) ∧
  (∀ (prof : Nat) (r : List LpmLookup),
     (decide (1 ≤ prof) && decide (prof ≤ 15)) = true →
     (decide (r.length ≤ 2) && r.all lpmLookupOk) = true →
     Accepts s t h (.lpmProfileSet h prof r) (cmdLpmProfileSet prof r) t [objSet (32 + prof)] [.lpmProfile prof r]) ∧
  (∀ (table : Option Nat),
     (table.bind fun u => if u < 32 then none else some u) = none →
     match table with
     | none =>
       Accepts s t h (.nexthopTableSet h table) (cmdNexthopTableSet table) t [objSet 64] [.nextHop none]
     | some u =>
       match t.tableView u with
       | none => True
       | some r =>
         (r.kind == 1) = true →
         Accepts s t h (.nexthopTableSet h table) (cmdNexthopTableSet table) t [objSet 64] [.nextHop (some u)]) ∧
  (∀ (first : Nat) (count : Nat) (clear : Bool),
     Answers s t h (.counterRead h first count clear) (cmdCounterRead first count clear) (t.pairJob h 0x0410 first
       count 256 clear)) ∧
  (∀ (first : Nat) (count : Nat),
     Answers s t h (.counterClear h first count) (cmdCounterClear first count) (t.pairJob h 0x0411 first count 65536
       true)) ∧
  (∀ (sel : StatsSel) (clear : Bool),
     Answers s t h (.lookupStatsGet h sel clear) (cmdLookupStatsGet sel clear) (lookupStatsRule sel clear t)) ∧
  (∀ (firstBank : Nat) (bankCount : Nat) (firstBucket : Nat) (bucketCount : Nat) (lease : Nat),
     (regionRange firstBank bankCount firstBucket bucketCount) = none →
     (decide (0 < bankCount) && decide (0 < bucketCount) && leaseOk lease) = true →
     (∃ r f e, h.origin = .host r f e) →
     let ring := match h.origin with | .host r _ _ => r | _ => 0
     let l : Lock := { valid := true, func := hdrFunc h, ring := ring, firstBank := firstBank, bankCount := bankCount, firstBucket := firstBucket, bucketCount := bucketCount, leaseEnd := t.clock.epoch + leaseOf lease, ending := 0 }
     (!((List.range 16).any fun n => (t.lock n).valid && (t.lock n).overlaps l)) = true →
     match (List.range 16).find? fun n => !(t.lock n).valid with
     | none => True
     | some n =>
       Does s t h (.lockAcquire h firstBank bankCount firstBucket bucketCount lease) (cmdLockAcquire firstBank
         bankCount firstBucket bucketCount lease) (t.putLock n l) 0 [n, l.leaseEnd]) ∧
  (∀ (lock : Nat) (lease : Nat),
     lock < 16 →
     leaseOk lease = true →
     (∃ r f e, h.origin = .host r f e) → (t.lock lock).valid = true → (t.lock lock).ending = 0 → (t.lock
       lock).ownedBy h = true →
     let l := t.lock lock
     let e := t.clock.epoch + leaseOf lease
     Does s t h (.lockRenew h lock lease) (cmdLockRenew lock lease) (t.putLock lock { l with leaseEnd := e }) e []) ∧
  (∀ (lock : Nat),
     lock < 16 →
     (∃ r f e, h.origin = .host r f e) → (t.lock lock).valid = true → (t.lock lock).ending = 0 → (t.lock
       lock).ownedBy h = true →
     let l := t.lock lock
     Does s t h (.lockRelease h lock) (cmdLockRelease lock) (t.putLock lock { l with ending := 1 }) 0 []) ∧
  (∀ (lock : Nat),
     lock < 16 →
     Does s t h (.lockStatusGet h lock) (cmdLockStatusGet lock) t 0 [(t.lock lock).word.toNat, (t.lock
       lock).leaseEnd]) ∧
  (∀ (lock : Nat) (bank : Nat) (firstBucket : Nat) (count : Nat) (images : List (List (BitVec 256))),
     lock < 16 →
     (dmaRange bank firstBucket count) = none →
     (decide (1 ≤ count) && decide (count ≤ 1024)) = true →
     (∃ r f e, h.origin = .host r f e) → (t.lock lock).valid = true → (t.lock lock).ending = 0 → (t.lock
       lock).ownedBy h = true →
     let j := t.newJob h 0x0417 lock bank firstBucket .none
     Waits s t h (.tableDmaWrite h lock bank firstBucket count images) (cmdTableDmaWrite lock bank firstBucket count
       images) (t.startJob j ((List.range count).map fun i =>
             (0, bank, .dmaWrite j.id lock (firstBucket + i) ((images[i]?).getD []))) 6) 0) ∧
  (∀ (bank : Nat) (firstBucket : Nat) (count : Nat) (hostAddr : Nat),
     (dmaRange bank firstBucket count) = none →
     (decide (1 ≤ count) && decide (count ≤ 1024)) = true →
     let j := t.newJob h 0x0418 0 bank firstBucket .none
     Waits s t h (.tableDmaRead h bank firstBucket count hostAddr) (cmdTableDmaRead bank firstBucket count hostAddr)
       (t.startJob j ((List.range count).map fun i => (0, bank, .dmaRead j.id (firstBucket + i))) 6) 0) ∧
  (∀ (table : Nat) (r : UpkeepRec) (fields : BitVec 8),
     table < 32 →
     (upkeepOk (UpkeepRec_merge UpkeepRec.init r fields)) = true →
     (t.table table).valid = true →
     Accepts s t h (.tableUpkeepSet h table r fields) (cmdTableUpkeepSet table r fields) t [objTable table] [.upkeep
       table r fields]) ∧
  (∀ (period : Nat),
     (decide (1 ≤ period) && decide (period ≤ 3600)) = true →
     let u := { t with tables := { t.tables with scrubPeriod := period } }
     Does s t h (.scrubSet h period) (cmdScrubSet period) ((List.range 3).foldl (fun u st => (List.range (numBanks
       st)).foldl (fun u b => u.scrubLate st b) u) u) 0 []) ∧
  (∀ (sel : StatsSel) (clear : Bool),
     Answers s t h (.upkeepStatsGet h sel clear) (cmdUpkeepStatsGet sel clear) (upkeepStatsRule sel clear t))

/-- What every rule-plane command does in each case that its own effect comes; the equation gives the whole next state, and with it the frame. -/
def Obligations.RuleCommands : Prop := ∀ (s t : State) (h : Hdr),
  (t.rules.staged.isNone = true →
   (!t.discardLeft) = true →
   Does s t h (.maquetteOpen h) cmdMaquetteOpen
     { t with rules.staged := some (t.newestLive + 1), rules.stagedOps := 0 } (t.newestLive + 1).toNat []) ∧
  (∀ (target : EpochName),
     match t.rules.staged with
     | none => True
     | some v =>
       (!t.sealed) = true →
       t.liveVersions.length < 4 →
       (!t.unsettled v) = true →
       Waits s t h (.maquetteCommit h target) (cmdMaquetteCommit target)
         { t with rules.held := some { hdr := h, target := target } } 0) ∧
  (∀ v, t.rules.staged = some v → t.sealed = false →
   Does s t h (.maquetteDiscard h) cmdMaquetteDiscard (t.discardMaquette v) 0 []) ∧
  (∀ (r : RuleRec),
     (r.slot = 0xFFFF ∨ 1 < r.dir ∨ r.slot < kindSlots r.dir) → ruleOk r = true →
     Answers s t h (.ruleAdd h r) (cmdRuleAdd r) (ruleRule r h t)) ∧
  (∀ (kind : Nat) (index : Nat),
     (decide (8 < kind) || (if kind < 3 then decide (index < kindSlots kind)
             else decide ((kindIds kind).1 ≤ index) && decide (index < (kindIds kind).1 + (kindIds kind).2))) = true →
     kind ≤ 8 →
     Answers s t h (.objectDelete h kind index) (cmdObjectDelete kind index) (t.deleteObj kind index)) ∧
  (∀ (kind : Nat) (slot : Nat),
     (decide (8 < kind) || decide (slot < kindSlots kind)) = true →
     kind ≤ 8 →
     let o := t.objAt (objKey kind slot)
     o.valid = true →
     match t.rulePoison kind slot with
     | some _ => True
     | none =>
       Does s t h (.ruleRead h kind slot) (cmdRuleRead kind slot) t 0 ([o.id] ++ objValues o.val ++ stampValues
         o.stamp)) ∧
  (∀ (cmp : Nat) (extract : BitVec 32) (low : Nat) (high : Nat),
     cmp < 256 →
     (extractOk extract && decide (low ≤ high) && decide (high ≤ 65535)) = true →
     (!t.rangeInUse cmp) = true →
     Does s t h (.rangeSet h cmp extract low high) (cmdRangeSet cmp extract low high) (t.stageWrite .staging (.range
       cmp (extractClean extract) low high)) 0 []) ∧
  (∀ (slot : Nat) (record : BitVec 128) (u : State) (res : BitVec 64) (pl : List Nat), slot < 512 → parseOk record =
    true →
     t.putBySlot kindParse slot (fun _ => .parse (setFld record 0 0 0)) = .done u stOk 0 res pl →
     Does s t h (.parseEntrySet h slot record) (cmdParseEntrySet slot record) u 0 pl) ∧
  (∀ (dir : Nat) (id : Nat) (extracts : List (BitVec 32)) (rangeGroup : Nat),
     (decide (1 ≤ id) && decide (id ≤ 31)) = true →
     (decide (dir ≤ 1) && decide (extracts.length = 20) && extracts.all extractOk && decide (rangeGroup ≤ 3)) = true →
     Answers s t h (.keyProfileSet h dir id extracts rangeGroup) (cmdKeyProfileSet dir id extracts rangeGroup)
       (t.putById (kindInKey + dir) id (.keyProf (extracts.map extractClean) rangeGroup))) ∧
  (∀ (id : Nat) (ops : List EditOp),
     id < 256 →
     (decide (ops.length ≤ 8) && ops.all editOpOk && decide ((ops.map EditOp_adds).sum ≤ 128)) = true →
     Answers s t h (.editProfileSet h id ops) (cmdEditProfileSet id ops) (t.putById kindEdit id (.editProf ops))) ∧
  (∀ (id : Nat) (bytes : List Byte),
     id < 64 →
     bytes.length ≤ 64 →
     Answers s t h (.templateSet h id bytes) (cmdTemplateSet id bytes) (t.putById kindTemplate id (.template bytes)))
       ∧
  (∀ (session : Nat) (toCpu : Bool) (dest : Nat) (trunc : Nat),
     session < 16 →
     dest < (if toCpu then 256 else 1024) →
     (decide (trunc = 0) || (decide (64 ≤ trunc) && decide (trunc ≤ 10240))) = true →
     Answers s t h (.mirrorSessionSet h session toCpu dest trunc) (cmdMirrorSessionSet session toCpu dest trunc)
       (t.putById kindMirror session (.mirror toCpu dest trunc))) ∧
  (∀ (port : Nat) (profile : Nat),
     port < 1024 →
     profile ≤ 31 →
     Answers s t h (.egressBind h port profile) (cmdEgressBind port profile) (t.putById kindBind port (.bind
       profile))) ∧
  (Does s t h (.versionStatusGet h) cmdVersionStatusGet t t.rules.current.toNat ([t.rules.current.toNat, match
    t.rules.staged with | some v => v.toNat | none => 2 ^ 16]
           ++ (t.liveVersions.flatMap fun v => [v.toNat, t.inFlight v.toNat])
           ++ [t.rules.stagedOps, t.rules.stream.length])) ∧
  (∀ (pipe : Nat) (clear : Bool),
     pipe < 128 →
     let cs : List (Ctr × Nat) := (if pipe < 64 then ([1, 2, 3, 4].map fun c => (Ctr.parseErr, pipe * 8 + c)) ++
       [(.runaheadReplay, pipe), (.clsNoMatch, pipe), (.clsDrop, pipe), (.clsBadDest, pipe), (.cloisterPass, pipe),
         (.cloisterSecondDrop, pipe), (.cloisterPoolDrop, pipe), (.mirrorStaleDest, pipe), (.specTagsAllocated,
           pipe), (.specConfirm, pipe), (.specRollbackMac, pipe), (.specRollbackIcv, pipe), (.specTagExhausted,
             pipe), (.runaheadHold, pipe)] else [(.egrClsDrop, pipe - 64), (.editTtlDrop, pipe - 64),
               (.egrMirrorCopies, pipe - 64), (.egrTrapCopies, pipe - 64), (.mirrorStaleDest, pipe)])
     Does s t h (.parseStatsGet h pipe clear) (cmdParseStatsGet pipe clear) (if clear then t.clearCtrs cs else t) 0
       ((if clear then t.ctrsBefore cs else t.ctrVals cs) ++ (if pipe < 64 then [t.tagsInUse pipe] else [])))

/-- What every egress, buffer and Trellis command does in each case that its own effect comes; the equation gives the whole next state, and with it the frame. -/
def Obligations.EgressAndBufferCommands : Prop := ∀ (s t : State) (h : Hdr),
  (∀ (octet : Nat) (q16 : Bool),
     octet < 128 →
     (!(t.octetPorts octet).any (fun p => (t.port p).enabled) && !t.enableDue octet) = true →
     (!(q16 && (hasOddStart (t.octet octet).mask || t.oddDue octet))) = true →
     Accepts s t h (.queueModeSet h octet q16) (cmdQueueModeSet octet q16) t [objQueueMode octet] [.queueMode octet
       q16]) ∧
  (∀ (queue : Nat) (record : BitVec 64) (fields : BitVec 64),
     queue < 9472 →
     let v := merge (t.schedDue queue) record (fields &&& schedMask)
     schedOk queue v = true →
     t.queueExists queue = true →
     (match t.queuePort queue with
           | some p =>
             !bit v 57 || t.oneDomainQueue p queue (fld v 36 34)
           | none => true) = true →
     Accepts s t h (.queueSchedSet h queue record fields) (cmdQueueSchedSet queue record fields) t [objQueue queue]
       [.queueSched queue record fields]) ∧
  (∀ (queue : Nat),
     queue < 9472 →
     t.queueExists queue = true →
     Does s t h (.queueSchedGet h queue) (cmdQueueSchedGet queue) t 0 [(t.schedRec queue).toNat, b2n (t.equeue
       queue).tripped]) ∧
  (∀ (isPort : Bool) (index : Nat) (record : BitVec 64),
     index < (if isPort then 1024 else 9472) →
     shaperOk record = true →
     (if isPort then index < 1024 ∧ t.isPort index = true else index < 9472 ∧ t.queueExists index = true) →
     Accepts s t h (.shaperSet h isPort index record) (cmdShaperSet isPort index record) t [objShaper isPort index]
       [.shaper isPort index (record &&& 0xFFFF_FFFF_FFFC_0000)]) ∧
  (∀ (isPort : Bool) (index : Nat),
     let x := if isPort then (t.eport index).shaper else (t.equeue index).shaper
     (if isPort then index < 1024 ∧ t.isPort index = true else index < 9472 ∧ t.queueExists index = true) →
     Does s t h (.shaperGet h isPort index) (cmdShaperGet isPort index) t 0 [x.cfg.toNat, x.shown]) ∧
  (∀ (port : Nat) (record : BitVec 64) (fields : BitVec 64),
     port < 1024 →
     (egressOk (t.egressAfter port record fields)) = true →
     port < 1024 →
     t.isPort port = true →
     Accepts s t h (.portSchedSet h port record fields) (cmdPortSchedSet port record fields) t [objSched port]
       [.portSched port record fields]) ∧
  (∀ (port : Nat) (map : BitVec 32),
     port < 1024 →
     ((List.range 8).all fun u => decide (fld map (4 * u + 3) (4 * u) < t.qp port)) = true →
     port < 1024 →
     t.isPort port = true →
     Accepts s t h (.tcMapSet h port map) (cmdTcMapSet port map) t [objTc port] [.tcMap port map]) ∧
  (∀ (port : Nat),
     port < 1024 →
     t.isPort port = true →
     Does s t h (.portSchedGet h port) (cmdPortSchedGet port) t 0 [(t.egressRec port).toNat, (t.tcMap port).toNat,
       b2n (t.octet (port / 8)).q16, 8 * port, t.qp port
                  , (t.planDomain port).getD 8]) ∧
  (∀ (port : Nat),
     port < 1024 →
     t.isPort port = true →
     Accepts s t h (.gateListClear h port) (cmdGateListClear port) t [objGate port] [.gateClear port]) ∧
  (∀ (port : Nat),
     let e := t.eport port
     port < 1024 →
     t.isPort port = true →
     Does s t h (.gateStatusGet h port) (cmdGateStatusGet port) t 0 ((b2n e.oper.isSome :: ((e.oper.map
       GateList.values).getD []))
           ++ (b2n e.waitList.isSome :: ((e.waitList.map GateList.values).getD []))
           ++ [(e.oper.map e.entryNow).getD 0, e.gates.toNat, b2n (t.gateLength port)])) ∧
  (∀ (isPort : Bool) (index : Nat) (clear : Bool),
     (if isPort then index < 1024 ∧ t.isPort index = true else index < 9472 ∧ t.queueExists index = true) →
     ((isPort) →
       let cs : List (Ctr × Nat) := [(.gateSlip, index), (.gateHeld, index), (.guardReturns, index), (.gateTakeovers,
         index)]
       Does s t h (.egressStatsGet h isPort index clear) (cmdEgressStatsGet isPort index clear) (if clear then
         t.clearCtrs cs else t) 0 (if clear then t.ctrsBefore cs else t.ctrVals cs)) ∧
     (¬ (isPort) →
       let cs : List (Ctr × Nat) := [(.queueFlushDrop, index), (.egressDownDrop, index), (.gateNoFitDrop, index),
         (.launchLateDrop, index) , (.launchLateSent, index), (.launchNoTime, index), (.pfcWdTrips, index),
           (.pfcWdDrain, index), (.handOvers, index)]
       Does s t h (.egressStatsGet h isPort index clear) (cmdEgressStatsGet isPort index clear) (if clear then
         t.clearCtrs cs else t) 0 (if clear then t.ctrsBefore cs else t.ctrVals cs))) ∧
  (∀ (sizes : List (Option Nat)) (pushout : List (Option Bool)),
     t.poolsOk sizes = true →
     Accepts s t h (.bufferPoolSet h sizes pushout) (cmdBufferPoolSet sizes pushout) t [objPool] [.pools sizes
       pushout]) ∧
  (Does s t h (.bufferPoolGet h) cmdBufferPoolGet t 0 (([1, 2, 3, 4, 5, 6].map fun o =>
       [(t.pool o).size, b2n (t.pool o).pushout] ++ t.gauge gaugePool o (t.poolUsed o)).flatten)) ∧
  (∀ (queue : Nat) (record : BitVec 64) (fields : BitVec 64),
     queue < 9472 →
     (admitOk (t.admitAfter queue record fields)) = true →
     t.queueExists queue = true →
     (t.minOk queue (t.admitAfter queue record fields)) = true →
     Accepts s t h (.queueAdmitSet h queue record fields) (cmdQueueAdmitSet queue record fields) t [objAdmit queue]
       [.queueAdmit queue record fields]) ∧
  (∀ (queue : Nat),
     queue < 9472 →
     t.queueExists queue = true →
     Does s t h (.queueAdmitGet h queue) (cmdQueueAdmitGet queue) t 0 [(t.admitRec queue).toNat, t.cq queue]) ∧
  (∀ (port : Nat) (prio : Nat) (xoff : Option Nat) (xon : Option Nat) (headroom : Option Nat),
     port < 1024 →
     prio < 8 →
     (pgOk (t.pgAfter port prio xoff xon headroom)) = true →
     t.isPort port = true →
     Accepts s t h (.pgSet h port prio xoff xon headroom) (cmdPgSet port prio xoff xon headroom) t [objPg (port * 8 +
       prio)] [.pg port prio xoff xon headroom]) ∧
  (∀ (sel : StatsSel) (clear : Bool),
     Answers s t h (.bufferStatsGet h sel clear) (cmdBufferStatsGet sel clear) (bufferStatsRule sel clear t)) ∧
  (∀ (first : Nat) (count : Nat),
     first < 786432 →
     first + count ≤ 786432 →
     (decide (1 ≤ count) && decide (count ≤ 256)) = true →
     match ((List.range count).map (first + ·)).find? fun n => (t.cellAt n).quarantined with
     | some _ => True
     | none =>
       Does s t h (.bufferCellRead h first count) (cmdBufferCellRead first count) t 0 ((List.range count).map fun i
         => (t.cellAt (first + i)).bits)) ∧
  (∀ (e : Element) (drainLimit : Nat),
     (elemRange e) = none →
     (drainLimit == 0 || (decide (16 ≤ drainLimit) && decide (drainLimit ≤ 65535))) = true →
     (t.mayRetire e && !t.reactedNow (.trellis e)) = true →
     Accepts s t h (.trellisRetire h e drainLimit) (cmdTrellisRetire e drainLimit) (t.noteUnit (.trellis e) 0x0660 h)
       [elemObj e] [.elemStop e (if drainLimit = 0 then 256 else drainLimit)]) ∧
  (∀ (e : Element),
     Answers s t h (.trellisRestore h e) (cmdTrellisRestore e) (t.restoreElem e 0x0661 h)) ∧
  (∀ (e : Element),
     (elemRange e) = none →
     Does s t h (.trellisStatusGet h e) (cmdTrellisStatusGet e) t 0 [(t.elemShown e).code, b2n (t.elemPermanent e)]) ∧
  (∀ (group : Nat) (self : Bool) (members : List Nat),
     group < 65536 →
     (members.find? fun p => decide (1024 ≤ p)) = none →
     members.length ≤ 1024 →
     (members.all t.isPort) = true →
     t.listsUsed + (listsOf members).length ≤ 131072 →
     Accepts s t h (.mcastGroupSet h group self members) (cmdMcastGroupSet group self members) t [objGroup group]
       [.mcastSet group self members]) ∧
  (∀ (group : Nat),
     group < 65536 →
     match t.mgroup group with
     | some g =>
       Does s t h (.mcastGroupGet h group) (cmdMcastGroupGet group) t 0 (b2n g.self :: g.members)
     | none => True) ∧
  (∀ (group : Nat),
     group < 65536 →
     (t.mgroup group).isSome = true →
     Accepts s t h (.mcastGroupDelete h group) (cmdMcastGroupDelete group) t [objGroup group] [.mcastDelete group]) ∧
  (∀ (port : Nat) (en : Option Bool) (start : Option Nat),
     port < 1024 →
     (match start with | some n => decide (1 ≤ n) && decide (n ≤ 8) | none => true) = true →
     t.isPort port = true →
     Accepts s t h (.cutThroughSet h port en start) (cmdCutThroughSet port en start) t [objCut port] [.cutThrough
       port en start]) ∧
  (∀ (sel : StatsSel) (clear : Bool),
     Answers s t h (.trellisStatsGet h sel clear) (cmdTrellisStatsGet sel clear) (trellisStatsRule sel clear t))

/-- What every time command does in each case that its own effect comes; the equation gives the whole next state, and with it the frame. -/
def Obligations.TimeCommands : Prop := ∀ (s t : State) (h : Hdr),
  (∀ (domain : Nat) (adj : Option Int) (hostWd : Option Nat) (holdMax : Option Nat),
     let d := t.domain domain
     domain < 8 →
     ((match adj with | some a => adjOk a | none => true) && decide (hostWd.getD 0 ≤ 255)
           && decide (1 ≤ holdMax.getD 1) && decide (holdMax.getD 1 ≤ 65535)) = true →
     (!(d.st == .twin && adj.isSome)) = true →
     let e := match adj with | some a => d.setAdj t.now a | none => d
     Does s t h (.timeDomainSet h domain adj hostWd holdMax) (cmdTimeDomainSet domain adj hostWd holdMax)
       (t.putDomain domain { e with hostWd := hostWd.getD d.hostWd, holdMax := holdMax.getD d.holdMax }) 0 []) ∧
  (∀ (domain : Nat),
     domain < 8 →
     Does s t h (.timeGet h domain) (cmdTimeGet domain) t 0 (words 2 (t.domain domain).word ++ [t.clock.epoch,
       t.clock.tick])) ∧
  (∀ (domain : Nat) (sec : Nat) (ns : Nat) (frac : Nat) (atPps : Option Nat),
     let v := fracOf sec ns frac * unitFrac
     domain < 8 →
     (∀ p, atPps = some p → p < 4) →
     (decide (sec < 2 ^ 48) && decide (ns < 10 ^ 9) && decide (frac < 65536)) = true →
     ((t.domain domain).st != TdState.twin) = true →
     match atPps with
     | some p =>
       Does s t h (.timeSet h domain sec ns frac atPps) (cmdTimeSet domain sec ns frac atPps) (t.modDomain domain
         fun d => { d with setAtPps := some (p, v), wdFrom := t.now }) 0 []
     | none =>
       Does s t h (.timeSet h domain sec ns frac atPps) (cmdTimeSet domain sec ns frac atPps) ((t.modDomain domain
         fun d => { d with setAtPps := none }).stepTo domain v) 0 []) ∧
  (∀ (domain : Nat) (backward : Bool) (sec : Nat) (ns : Nat) (frac : Nat),
     let m := fracOf sec ns frac
     let off : Int := (m * unitFrac : Nat)
     domain < 8 →
     (decide (ns < 10 ^ 9) && decide (frac < 65536) && decide (m ≤ fracOf (2 ^ 47) 0 0)) = true →
     ((t.domain domain).st != .twin) = true →
     Waits s t h (.timeStep h domain backward sec ns frac) (cmdTimeStep domain backward sec ns frac) (t.modDomain
       domain fun d => { d with steps := d.steps ++ [(h, if backward then -off else off)] }) 0) ∧
  (∀ (domain : Nat) (adj : Int),
     let st := (t.domain domain).st
     domain < 8 →
     adjOk adj = true →
     (st != .twin) = true →
     let u := if st = .holdover then t.recover domain else t
     Does s t h (.timeAdjust h domain adj) (cmdTimeAdjust domain adj) (u.modDomain domain fun d =>
       { d.setAdj t.now adj with st := .tracking, wdFrom := t.now, firstAdj := some (d.firstAdj.getD t.now), adjWas := some (d.adjWas.getD d.adj) }) 0 []) ∧
  (∀ (domain : Nat) (enter : Bool),
     domain < 8 →
     match (t.domain domain).st with
     | .free => True
     | .twin => True
     | .tracking =>
       ((enter) →
         Does s t h (.timeHoldover h domain enter) (cmdTimeHoldover domain enter) (t.enterHoldover domain)
           TdState.holdover.code []) ∧
       (¬ (enter) →
         Does s t h (.timeHoldover h domain enter) (cmdTimeHoldover domain enter) t TdState.tracking.code [])
     | .holdover =>
       ((enter) →
         Does s t h (.timeHoldover h domain enter) (cmdTimeHoldover domain enter) t TdState.holdover.code []) ∧
       (¬ (enter) →
         Does s t h (.timeHoldover h domain enter) (cmdTimeHoldover domain enter) (t.recover domain)
           TdState.tracking.code [])) ∧
  (∀ (domain : Nat),
     let d := t.domain domain
     domain < 8 →
     Does s t h (.timeStatusGet h domain) (cmdTimeStatusGet domain) t 0 [d.record, d.st.code, if d.st = .holdover
       then (t.now - d.holdFrom) / clkS 1 else 0, t.time.ref10m.toNat,
           b2n t.time.ref10mValid]) ∧
  (∀ (port : Nat) (record : BitVec 64) (fields : BitVec 64),
     port < 1024 →
     t.isPort port = true →
     Accepts s t h (.timePortSet h port record fields) (cmdTimePortSet port record fields) t [objTimePort port]
       [.timePort port record (fields &&& timePortWritable)]) ∧
  (∀ (port : Nat),
     port < 1024 →
     t.isPort port = true →
     Does s t h (.timePortGet h port) (cmdTimePortGet port) t 0 [(t.timePort port).toNat, (t.portLat port).1,
       (t.portLat port).2]) ∧
  (∀ (pin : Nat) (dir : Nat) (domain : Nat) (activeLow : Bool) (offsetNs : Nat) (widthNs : Nat),
     pin < 4 →
     domain < 8 →
     (decide (dir < 3) && decide (offsetNs < 10 ^ 9) && decide (8 ≤ widthNs) && decide (widthNs < 10 ^ 9)) = true →
     let u := t.modPps pin fun p =>
       { p with dir := dir, domain := domain, activeLow := activeLow, offsetNs := offsetNs, widthNs := widthNs, asserted := false, lastEdge := if p.dir = 2 ∧ dir = 2 then p.lastEdge else none, lost := false }
     let p := t.pps pin
     Does s t h (.ppsSet h pin dir domain activeLow offsetNs widthNs) (cmdPpsSet pin dir domain activeLow offsetNs
       widthNs) (if p.dir = 1 ∧ dir = 1 ∧ p.domain = domain ∧ p.offsetNs = offsetNs then u
           else u.modPps pin fun p => { p with lastSec := some (u.ppsReached pin), sentEdges := [] }) 0 []) ∧
  (∀ (pin : Nat) (count : Nat),
     let q := (t.pps pin).queue
     pin < 4 →
     count ≤ 16 →
     Does s t h (.ppsRead h pin count) (cmdPpsRead pin count) (t.modPps pin fun p =>
       { p with queue := q.drop count }) 0 ((q.take count).flatMap TsRecord.values)) ∧
  (∀ (isPort : Bool) (index : Nat) (clear : Bool),
     ((isPort) →
       index < 1024 →
       t.isPort index = true →
       let cs : List (Ctr × Nat) := [(.ptpCorrectSkipped, index)]
       Does s t h (.timeStatsGet h isPort index clear) (cmdTimeStatsGet isPort index clear) (if clear then
         t.clearCtrs cs else t) 0 (if clear then t.ctrsBefore cs else t.ctrVals cs)) ∧
     (¬ (isPort) →
       index < 4 →
       let cs : List (Ctr × Nat) := [(.ppsInRejected, index), (.ppsInOverflow, index)]
       Does s t h (.timeStatsGet h isPort index clear) (cmdTimeStatsGet isPort index clear) (if clear then
         t.clearCtrs cs else t) 0 (if clear then t.ctrsBefore cs else t.ctrVals cs)))

/-- What every cipher command does in each case that its own effect comes; the equation gives the whole next state, and with it the frame. -/
def Obligations.CipherCommands : Prop := ∀ (s t : State) (h : Hdr),
  (∀ (port : Nat) (record : BitVec 64) (fields : BitVec 64),
     let r := merge (t.cipherPort port) record (fields &&& cipherWritable)
     port < 1024 →
     fld r 61 60 < 2 →
     t.isPort port = true →
     (bit r 62 == bit (t.cipherPort port) 62 || !t.portHoldsSa port) = true →
     Accepts s t h (.cipherPortSet h port record fields) (cmdCipherPortSet port record fields) t [objCipherPort port]
       [.cipherPort port record (fields &&& cipherWritable)]) ∧
  (∀ (port : Nat),
     port < 1024 →
     t.isPort port = true →
     Does s t h (.cipherPortGet h port) (cmdCipherPortGet port) t (t.cipherPort port).toNat []) ∧
  (∀ (port : Nat) (dir : Nat) (sci : BitVec 64) (replayProtect : Bool) (replayWindow : Option Nat) (pnThreshold :
    Option Nat),
     port < 1024 →
     (decide (dir < 2) && scValuesOk (t.xpn port) replayWindow pnThreshold) = true →
     t.isPort port = true →
     match t.freeSc dir (port / 8) with
     | none => True
     | some n =>
       Does s t h (.scCreate h port dir sci replayProtect replayWindow pnThreshold) (cmdScCreate port dir sci
         replayProtect replayWindow pnThreshold) (t.putSc dir n
           { Sc.init with valid := true, port := port, sci := sci, replayProtect := replayProtect, replayWindow := replayWindow.getD 0, pnThreshold := pnThreshold }) n []) ∧
  (∀ (sc : Nat) (dir : Nat) (replayProtect : Option Bool) (replayWindow : Option Nat) (pnThreshold : Option Nat),
     sc < (if dir = 1 then 2048 else 4096) →
     dir < 2 →
     (scValuesOk (t.xpn (t.sc dir sc).port) replayWindow pnThreshold) = true →
     (t.sc dir sc).valid = true →
     Accepts s t h (.scSet h sc dir replayProtect replayWindow pnThreshold) (cmdScSet sc dir replayProtect
       replayWindow pnThreshold) t [objScDir dir sc] [.scSet sc dir replayProtect replayWindow pnThreshold]) ∧
  (∀ (sc : Nat) (dir : Nat),
     sc < (if dir = 1 then 2048 else 4096) →
     dir < 2 →
     (t.sc dir sc).valid = true →
     (!t.scHolds dir sc) = true →
     Accepts s t h (.scDelete h sc dir) (cmdScDelete sc dir) t [objScDir dir sc] [.scDelete sc dir]) ∧
  (∀ (p : SaParams),
     let wrap := if p.wrapped then some p.kek else none
     let xpn := t.xpn (t.sc p.dir p.sc).port
     p.sc < (if p.dir = 1 then 2048 else 4096) →
     (!p.wrapped || hostCtx p.kek) = true →
     (decide (p.dir < 2) && decide (p.an < 4) && decide (1 ≤ p.pn) && decide (p.pn ≤ maxPn xpn)) = true →
     (!p.wrapped || !t.laLive || (t.keyOf wrap p.key).isSome) = true →
     (t.sc p.dir p.sc).valid = true →
     (!t.anTaken p.dir p.sc p.an) = true →
     (!(t.cengine (scEngine p.dir p.sc)).erased && (!p.wrapped || t.laLive)) = true →
     Accepts s t h (.saInstall h p) (cmdSaInstall p) (t.unwrapMsg wrap) [objSa p.dir (p.sc * 4 + p.an)] [.saInstall p
       ((t.keyOf wrap p.key).getD 0)]) ∧
  (∀ (sc : Nat) (dir : Nat) (an : Nat),
     sc < (if dir = 1 then 2048 else 4096) →
     dir < 2 →
     an < 4 →
     (t.sa dir (sc * 4 + an)).present = true →
     (!t.encodes dir sc an) = true →
     Accepts s t h (.saDelete h sc dir an) (cmdSaDelete sc dir an) t [objSa dir (sc * 4 + an)] [.saDelete sc dir an])
       ∧
  (∀ (sc : Nat) (an : Nat),
     sc < (if 1 = 1 then 2048 else 4096) →
     1 < 2 →
     an < 4 →
     ((t.txSc sc).valid && (t.txSa (sc * 4 + an)).present) = true →
     Accepts s t h (.txSaSelect h sc an) (cmdTxSaSelect sc an) t [objScDir 1 sc] [.saSelect sc an]) ∧
  (∀ (sc : Nat) (dir : Nat) (an : Nat),
     let x := t.sa dir (sc * 4 + an)
     sc < (if dir = 1 then 2048 else 4096) →
     dir < 2 →
     an < 4 →
     (t.sc dir sc).valid = true →
     Does s t h (.saStatusGet h sc dir an) (cmdSaStatusGet sc dir an) t 0 [if x.present then (if x.erased then 2 else
       1) else 0, if x.present then x.pn else 0,
           if dir = 0 ∧ x.present then t.lowestPn (sc * 4 + an) else 0]) ∧
  (∀ (sel : StatsSel) (clear : Bool),
     sel.index < cipherScope sel.kind →
     sel.kind < 5 →
     (sel.kind != 0 || t.isPort sel.index) = true →
     let cs : List (Ctr × Nat) := (cipherCtrs sel.kind sel.index)
     Does s t h (.cipherStatsGet h sel clear) (cmdCipherStatsGet sel clear) (if clear then t.clearCtrs cs else t) 0
       (if clear then t.ctrsBefore cs else t.ctrVals cs)) ∧
  (∀ (engine : Nat) (count : Nat) (windowNs : Nat),
     engine < 257 →
     (decide (2 ≤ count) && decide (count ≤ 255) && decide (1000 ≤ windowNs) && decide (windowNs ≤ 1000000000)) =
       true →
     Does s t h (.cipherEngineSet h engine count windowNs) (cmdCipherEngineSet engine count windowNs) (t.modCengine
       engine fun x => { x with tamperCount := count, tamperNs := windowNs }) 0 []) ∧
  (∀ (engine : Nat),
     let x := t.cengine engine
     let u : UnitRef := if engine = 256 then .lookaside else .lineEngine engine
     engine < 257 →
     (!(x.erased && x.alarmAt == some t.now) && !t.reactedNow u) = true →
     let w := (t.noteUnit u 0x080C h).putCengine engine { x with erased := false }
     Does s t h (.cipherEngineRestore h engine) (cmdCipherEngineRestore engine) (if engine = 256 ∧ x.erased then
       w.loadBootKeys.laSchedule else w) 0 []) ∧
  (∀ (ctx : Nat) (kind : Nat) (wrapCtx : Option Nat) (key : BitVec 320),
     let erased := (t.cengine 256).erased
     hostCtx ctx = true →
     (∀ w, wrapCtx = some w → hostCtx w = true) →
     kind < 3 →
     (erased || (t.keyOf wrapCtx key).isSome) = true →
     (!erased) = true →
     Does s t h (.laContextLoad h ctx kind wrapCtx key) (cmdLaContextLoad ctx kind wrapCtx key) (t.modLaCtx ctx fun c
       => { c with valid := true, kind := kind, key := (t.keyOf wrapCtx key).getD 0 }) 0 []) ∧
  (∀ (ctx : Nat),
     hostCtx ctx = true →
     let c := t.laCtx ctx
     let nonce := BitVec.ofNat 96 (Config.random t.freeCtr)
     let head := blobHead ctx c.kind t.sec.svn Config.deviceSerial nonce
     let text := gcmCrypt Config.wrapKey nonce c.body
     Does s t h (.laContextExport h ctx) (cmdLaContextExport ctx) t.draw 0 (toWords (head ++ text ++ beBytes 16
       (gcmTag Config.wrapKey nonce head text).toNat))) ∧
  (∀ (ctx : Nat) (b : Blob),
     let erased := (t.cengine 256).erased
     hostCtx ctx = true →
     (b.format == 1 && decide (b.kind < 3)) = true →
     (b.deviceId == Config.deviceSerial && (erased || (openBlob b).isSome)) = true →
     t.sec.svn ≤ b.svn →
     (!erased) = true →
     (t.laCtx ctx).suspended.isNone = true →
     Does s t h (.laContextImport h ctx b) (cmdLaContextImport ctx b) (t.putLaCtx ctx ((openBlob b).getD LaCtx.init))
       0 []) ∧
  (∀ (ctx : Nat),
     hostCtx ctx = true →
     let u := t.putLaCtx ctx LaCtx.init
     Does s t h (.laContextClear h ctx) (cmdLaContextClear ctx) (match (t.laCtx ctx).suspended with
           | some j => (u.laAnswer j.msg.id stStateConflict []).laSchedule
           | none => u) 0 []) ∧
  (∀ (ctx : Nat) (op : Nat) (iv : BitVec 96) (aad : List Byte) (data : List Byte),
     hostCtx ctx = true →
     (decide (data.length ≤ 65536) && decide (op < 5) && laDataOk op data.length) = true →
     (!(t.cengine 256).erased) = true →
     (laOpOk (t.laCtx ctx).kind op) = true →
     let id := 2 ^ 32 + t.cipher.laNext
     let w : LaWork := { id := id, hdr := h, ctx := ctx, op := op, iv := iv, aad := aad, data := data }
     let u := { t with cipher := { t.cipher with works := t.cipher.works ++ [w] } }
     Waits s t h (.laCrypt h ctx op iv aad data) (cmdLaCrypt ctx op iv aad data) (u.laRequest
       { id := id, ctx := ctx, prio := 1, blocks := laBlocks op aad data }) (data.length + 16))

/-- What every telemetry command does in each case that its own effect comes; the equation gives the whole next state, and with it the frame. -/
def Obligations.TelemetryCommands : Prop := ∀ (s t : State) (h : Hdr),
  (∀ (stream : Nat) (r : StreamRec) (fields : BitVec 16),
     let n := mergeStream (t.stream stream).rcd r fields
     stream < 4 →
     streamOk n = true →
     (n.destKind == 0 || t.isPort n.dest) = true →
     Accepts s t h (.telemetryStreamSet h stream r fields) (cmdTelemetryStreamSet stream r fields) t [objStream
       stream] [.stream stream r fields (t.exportFormat h)]) ∧
  (∀ (stream : Nat),
     stream < 4 →
     Does s t h (.telemetryStreamGet h stream) (cmdTelemetryStreamGet stream) t 0 (streamValues (t.stream stream).rcd
       ++ [(t.stream stream).format, (t.stream stream).seq])) ∧
  (∀ (queue : Nat) (r : ReportRec) (fields : BitVec 8),
     queue < 9472 →
     queue < 9216 →
     (reportOk (mergeReport (t.equeue queue).report r fields)) = true →
     t.queueExists queue = true →
     Accepts s t h (.queueReportSet h queue r fields) (cmdQueueReportSet queue r fields) t [objReport queue] [.report
       queue r fields]) ∧
  (∀ (nodeId : BitVec 56) (td : Nat) (namespaces : List (Nat × BitVec 64)),
     (decide (td < 8) && decide (namespaces.length ≤ 4) && namespaces.all fun x => decide (x.1 < 65536)) = true →
     Accepts s t h (.ioamSet h nodeId td namespaces) (cmdIoamSet nodeId td namespaces) t [objDevice 20] [.ioam nodeId
       td namespaces]) ∧
  (∀ (first : Nat) (count : Nat),
     first < 9472 →
     (decide (1 ≤ count) && decide (count ≤ 256)) = true →
     first + count ≤ 9472 →
     Does s t h (.queueSampleGet h first count) (cmdQueueSampleGet first count) t 0 ((List.range count).flatMap fun i
       => [(t.equeue (first + i)).depth, (t.equeue (first + i)).delay])) ∧
  (∀ (scope : Nat) (counter : Nat) (record : BitVec 64),
     scope ≤ 16 →
     counter < (if scope = 16 then 16 else 8) →
     (perfOk (scope == 16) record) = true →
     Does s t h (.perfCounterSet h scope counter record) (cmdPerfCounterSet scope counter record) (t.modPerf (scope *
       8 + counter) fun x => { x with next := some record }) 0 []) ∧
  (∀ (sel : StatsSel) (clear : Bool),
     sel.kind < 3 →
     sel.index < telemetryScope sel.kind →
     (sel.kind != 1 || t.queueExists sel.index) = true →
     let cs : List (Ctr × Nat) := ((telemetryCtrs sel.kind).map fun c => (c, sel.index))
     Does s t h (.telemetryStatsGet h sel clear) (cmdTelemetryStatsGet sel clear) (if clear then t.clearCtrs cs else
       t) 0 (if clear then t.ctrsBefore cs else t.ctrVals cs))

/-- What every power command does in each case that its own effect comes; the equation gives the whole next state, and with it the frame. -/
def Obligations.PowerCommands : Prop := ∀ (s t : State) (h : Hdr),
  (∀ (cap : Option Nat) (window : Option Nat) (margin : Option Nat),
     (within 400 1150 cap && within 1 8 window && within 0 100 margin) = true →
     Answers s t h (.powerCapSet h cap window margin) (cmdPowerCapSet cap window margin) (((t.setCap cap window
       margin).draw).setFloor t.floorEstimate.1 t.floorEstimate.2)) ∧
  (let w := t.windowSums
   Does s t h (.powerStatusGet h) cmdPowerStatusGet t.draw 0 ([t.powerStatus.toNat, t.power.energy] ++ t.demands.map
     Prod.fst
         ++ [t.rounded w.1 w.2.2, t.rounded w.2.1 w.2.2, t.power.wakeCauses.toNat])) ∧
  (∀ (op : Nat),
     op ≤ 7 →
     Accepts s t h (.opHostSet h op) (cmdOpHostSet op) t [objHostOp] [.opHost op]) ∧
  (∀ (en : Nat),
     en ≤ 1 →
     Does s t h (.thermalSet h en) (cmdThermalSet en) { t with power.thermalEn := en == 1 } 0 []) ∧
  (∀ (cmp : Nat) (f : CmpFields),
     cmp ≤ 15 →
     cmpFieldsOk cmp f = true →
     Does s t h (.comparatorSet h cmp f) (cmdComparatorSet cmp f) (t.modCmp cmp fun x => x.write f) 0 []) ∧
  (∀ (cmp : Nat),
     cmp ≤ 15 →
     let x := t.cmp cmp
     Does s t h (.comparatorGet h cmp) (cmdComparatorGet cmp) t.draw 0 ([x.domain] ++ words 2 (x.instant.getD 0) ++
       [t.cmpValue cmp, b2n x.eventEn, b2n x.wakeEn, b2n x.tripped])) ∧
  (∀ (wakeNEn : Bool),
     (t.anyWake || wakeNEn) = true →
     (t.cmd.dev == .configure && !t.twin.attached && !t.isRoot) = true →
     Accepts s t h (.dormantEnter h wakeNEn) (cmdDormantEnter wakeNEn) t [objDevice 0] [.dormant wakeNEn]) ∧
  (∀ (west : Bool),
     (!t.ringUp west || t.ringLost west) = true →
     Does s t h (.deviceWake h west) (cmdDeviceWake west) { t with power.waves := (west, t.now) :: t.power.waves } 0
       []) ∧
  (∀ (freqs : Option (List Nat)),
     (freqs.getD []).length ≤ 16 →
     (match freqs with | some l => compatOk l | none => true) = true →
     (t.cmd.dev == .configure && (List.range 1024).all (fun p => !(t.port p).enabled) && !t.twin.attached) = true →
     Accepts s t h (.powerCompatSet h freqs) (cmdPowerCompatSet freqs) t [objCompat] [.compat freqs]) ∧
  (Does s t h (.castTableGet h) cmdCastTableGet t 0 ((List.range 32).map fun i => castOf (i / 4) (i % 4)))

/-- What every fault command does in each case that its own effect comes; the equation gives the whole next state, and with it the frame. -/
def Obligations.FaultCommands : Prop := ∀ (s t : State) (h : Hdr),
  (∀ (source : Nat) (f : ReactFields),
     source < 1024 →
     ((match f.reaction with | some r => decide (r < 5) && (srcAllowed source).testBit r | none => true)
           && inRange f.count 1 255 && inRange f.windowMs 1 60000 && inRange f.clearS 1 65535) = true →
     Does s t h (.faultReactionSet h source f) (cmdFaultReactionSet source f) (t.modReact source fun e =>
           { reaction := f.reaction.getD e.reaction, count := f.count.getD e.count, windowMs := f.windowMs.getD e.windowMs, clearS := f.clearS.getD e.clearS }) 0 []) ∧
  (∀ (source : Nat),
     source < 1024 →
     Does s t h (.faultReactionGet h source) (cmdFaultReactionGet source) t (t.reactWord source).toNat []) ∧
  (∀ (logMin : Option Nat) (firstMin : Option Nat) (isolatePorts : Option Nat),
     (inRange logMin 0 5 && inRange firstMin 0 5 && inRange isolatePorts 0 1) = true →
     Does s t h (.faultConfigSet h logMin firstMin isolatePorts) (cmdFaultConfigSet logMin firstMin isolatePorts)
       { t with faults := { t.faults with logMinSev := logMin.getD t.faults.logMinSev, firstMinSev := firstMin.getD t.faults.firstMinSev, isolatePorts := isolatePorts.getD t.faults.isolatePorts } } 0 []) ∧
  (∀ (first : Nat) (count : Nat),
     (decide (count ≤ 128) && decide (first < 2 ^ 32)) = true →
     let n := t.faults.nextSeq
     ((((first + 2 ^ 32 - n) % 2 ^ 32 < 2 ^ 31 : Prop)) →
       Does s t h (.faultLogRead h first count) (cmdFaultLogRead first count) t n []) ∧
     (¬ ((first + 2 ^ 32 - n) % 2 ^ 32 < 2 ^ 31) →
       let held := decide ((n + 2 ^ 32 - first) % 2 ^ 32 ≤ (n + 2 ^ 32 - t.oldestSeq) % 2 ^ 32)
       let from_ := if held then first else t.oldestSeq
       let k := min count ((n + 2 ^ 32 - from_) % 2 ^ 32)
       match ((List.range (4 * k)).map fun i => logWordAddr ((from_ * 4 + i) % 16384)).find? t.poisonAt with
       | some _ => True
       | none =>
         let out := (List.range k).flatMap fun i =>
           match t.logAt ((from_ + i) % 4096) with | some e => e.words | none => []
         Ends s t h (.faultLogRead h first count) (cmdFaultLogRead first count) t (if held then stOk else
           stOkAdjusted) 0 (if held then 0 else BitVec.ofNat 64 from_) out)) ∧
  (Does s t h (.faultFirstGet h) cmdFaultFirstGet t 0 [t.faults.first.status.toNat, t.faults.first.stamp,
    t.faults.first.detail.toNat]) ∧
  (Does s t h (.faultFirstClear h) cmdFaultFirstClear t.clearFirst 0 []) ∧
  (∀ (source : Nat) (inst : Nat),
     source < 1024 →
     let f := t.faultInst (instKey source inst)
     let stamps := f.stamps.filter fun u => decide (t.cycleStamp - u ≤ clkMs (t.react source).windowMs)
     Does s t h (.faultStatusGet h source inst) (cmdFaultStatusGet source inst) t 0 ([stamps.length] ++ stamps ++
       [b2n f.permanent, b2n (t.masked source)])) ∧
  (∀ (u : UnitRef),
     (UnitRef.range u) = none →
     (match u with | .pipe _ => true | .partBank _ _ => true | .tableBank _ _ => true | _ => false) = true →
     (!t.reactedNow u) = true →
     let s1 := t.noteUnit u 0x0B08 h
     match u with
     | .pipe g =>
       s1.mayRetirePipe g = true →
       Accepts s t h (.unitRetire h u) (cmdUnitRetire u) s1 [objPipe g] [.pipeRetire g]
     | .partBank p b =>
       s1.mayRetireBank p b = true →
       Accepts s t h (.unitRetire h u) (cmdUnitRetire u) s1 [objUnit (p * 32 + b)] [.bankDetach p b]
     | .tableBank st b =>
       s1.maySpare st b = true →
       Does s t h (.unitRetire h u) (cmdUnitRetire u) (s1.startSpare st b false) s1.spareEpoch []
     | _ => True) ∧
  (∀ (u : UnitRef),
     (UnitRef.range u) = none →
     (match u with | .slice _ => true | .replica _ => true | .lineEngine _ => true | .lookaside => true | _ => false)
       = true →
     (!t.reactedNow u) = true →
     let s1 := t.noteUnit u 0x0B09 h
     match u with
     | .slice n =>
       Accepts s t h (.unitFence h u) (cmdUnitFence u) s1 [objUnit (2 ^ 21 + n)] [.sliceFence n]
     | .replica k =>
       Accepts s t h (.unitFence h u) (cmdUnitFence u) s1 [objUnit (2 ^ 20 + k)] [.replicaFence k]
     | .lineEngine e =>
       Does s t h (.unitFence h u) (cmdUnitFence u) (s1.fenceCipher e) s1.clock.epoch []
     | .lookaside =>
       Does s t h (.unitFence h u) (cmdUnitFence u) (s1.fenceCipher 256) s1.clock.epoch []
     | _ => True) ∧
  (∀ (u : UnitRef),
     (UnitRef.range u) = none →
     (!t.reactedNow u) = true →
     let s1 := t.noteUnit u 0x0B0A h
     match u with
     | .pipe g =>
       (!s1.pipeLive g) = true →
       Accepts s t h (.unitRestore h u) (cmdUnitRestore u) s1 [objPipe g] [.pipeRestore g]
     | .partBank p b =>
       (!s1.bankLive p b) = true →
       Accepts s t h (.unitRestore h u) (cmdUnitRestore u) s1 [objUnit (p * 32 + b)] [.bankRestore p b]
     | .tableBank st b =>
       s1.spared st b = true →
       Does s t h (.unitRestore h u) (cmdUnitRestore u) (s1.startSpare st b true) s1.spareEpoch []
     | .slice n =>
       s1.sliceFenced n = true →
       Accepts s t h (.unitRestore h u) (cmdUnitRestore u) s1 [objUnit (2 ^ 21 + n)] [.unitUnfence u]
     | .replica k =>
       s1.replicaFenced k = true →
       Accepts s t h (.unitRestore h u) (cmdUnitRestore u) s1 [objUnit (2 ^ 20 + k)] [.unitUnfence u]
     | .lineEngine e =>
       s1.unitFenced u = true →
       Accepts s t h (.unitRestore h u) (cmdUnitRestore u) s1 [objUnit (2 ^ 22 + e)] [.unitUnfence u]
     | .lookaside =>
       s1.unitFenced u = true →
       Accepts s t h (.unitRestore h u) (cmdUnitRestore u) s1 [objUnit (2 ^ 22 + 256)] [.unitUnfence u]
     | .armEngine e =>
       s1.unitFenced u = true →
       Accepts s t h (.unitRestore h u) (cmdUnitRestore u) s1 [objUnit (2 ^ 23 + e)] [.unitUnfence u]
     | .lane n =>
       Answers s t h (.unitRestore h u) (cmdUnitRestore u) ((cmdLaneRestore n (s1.rand 2 == 1)).rule h s1.draw)
     | .trellis e =>
       Answers s t h (.unitRestore h u) (cmdUnitRestore u) (s1.restoreElem e 0x0B0A h)) ∧
  (∀ (sel : StatsSel) (clear : Bool),
     sel.index < faultScope sel.kind →
     sel.kind < 5 →
     let cs : List (Ctr × Nat) := ((faultCtrs sel.kind).map fun c => (c, sel.index))
     Does s t h (.faultStatsGet h sel clear) (cmdFaultStatsGet sel clear) (if clear then t.clearCtrs cs else t) 0 (if
       clear then t.ctrsBefore cs else t.ctrVals cs)) ∧
  (Answers s t h (.faultInject h) cmdFaultInject .conflict)

/-- What every twin and ring command does in each case that its own effect comes; the equation gives the whole next state, and with it the frame. -/
def Obligations.TwinCommands : Prop := ∀ (s t : State) (h : Hdr),
  (∀ (role : Nat) (peer : Nat) (peerId : BitVec 384),
     peer < 64 →
     (role == 1 || role == 2) = true →
     (!t.twin.connected) = true →
     Does s t h (.twinBind h role peer peerId) (cmdTwinBind role peer peerId)
       { t with twin := { t.twin with role := if role = 1 then .lead else .follow, peer := peer, peerId := peerId } }
         0 []) ∧
  ((!t.twin.connected) = true →
   Does s t h (.twinUnbind h) cmdTwinUnbind { t with twin := { t.twin with role := .none, peer := 0, peerId := 0 } }
     0 []) ∧
  ((t.twin.role == .lead && !t.twin.attached && t.twin.joinStep != 4 && t.twin.joinStep != 5 && t.followReady
         && !(t.cmd.running.any fun r => r.opcode == 0x0C03) && (t.twin.connected || t.laLive) &&
           t.power.compat.isNone) = true →
   Waits s t h (.twinJoin h) cmdTwinJoin (if t.twin.connected then { t with twin.joinStep := 2 }
              else { t.sendHello with twin := { t.sendHello.twin with joinStep := 1, lanes := .up } }) 0) ∧
  (t.twin.attached = true →
   Accepts s t h (.twinDetach h) cmdTwinDetach t [objDetach] [.detach]) ∧
  (∀ (on : Bool),
     (if on then t.twin.attached && t.twin.role == .follow && t.cmd.dev == .service else t.cmd.dev == .drain) = true →
     Accepts s t h (.twinDrain h on) (cmdTwinDrain on) t [objDevice 0] [.drain on]) ∧
  (∀ (r : NotifyRec) (fields : BitVec 8),
     let n := NotifyRec_merge t.twin.notify r fields
     match n.ports.find? fun p => decide (1023 < p) with
     | some _ => True
     | none =>
       notifyOk n fields = true →
       Does s t h (.twinNotifySet h r fields) (cmdTwinNotifySet r fields) { t with twin.notify := n } 0 []) ∧
  (let p := t.twin.peerState.getD (0, 0, 0, 0)
   Does s t h (.twinStatusGet h) cmdTwinStatusGet t 0 ([roleCode t.twin.role, b2n t.twin.attached, t.twin.version,
     b2n t.twin.peerState.isSome, p.1, p.2.1, p.2.2.1.toNat
         , p.2.2.2, t.twin.lastTxn, b2n t.twin.frozen] ++ noteValues t.twin.notice)) ∧
  (Does s t h (.ringStatusGet h) cmdRingStatusGet t 0 ([match t.ring.root with | some r => r | none => 0xFF,
    t.breakList.length]
         ++ (t.breakList.flatMap fun (b : Nat × Nat) => [b.1, b.2]) ++ t.mapValues
         ++ t.ring.notices.flatMap fun (e : Nat × ThrottleNote) => e.1 :: noteValues (some e.2))) ∧
  (t.isRoot = true →
   Waits s t h (.ringEnumerate h) cmdRingEnumerate t.enumerate (resultBytes 0x0C0A 378)) ∧
  (∀ (clear : Bool),
     let cs : List (Ctr × Nat) := ([(Ctr.colFramesTx, 0), (.colFramesRx, 0), (.colRetries, 0), (.colHeartbeatMissed,
       0), (.twinCommits, 0) , (.twinFailed, 0), (.twinDiverged, 0), (.ringFramesRelayed, 0), (.ringFramesRelayed,
         1), (.ringRetries, 0) , (.ringRetries, 1), (.ringTtlDrop, 0), (.ringTtlDrop, 1)])
     Does s t h (.twinStatsGet h clear) (cmdTwinStatsGet clear) (if clear then t.clearCtrs cs else t) 0 (if clear
       then t.ctrsBefore cs else t.ctrVals cs))

/-- What every boot, security and Armature command does in each case that its own effect comes; the equation gives the whole next state, and with it the frame. -/
def Obligations.SecurityAndArmatureCommands : Prop := ∀ (s t : State) (h : Hdr),
  (Does s t h (.bootStatusGet h) cmdBootStatusGet t t.sec.bootStatus.toNat []) ∧
  (∀ (offset : Nat) (chunk : List Byte),
     offset ≤ 2 ^ 24 →
     chunk.length ≤ 131008 →
     (t.cmd.dev == .boot && t.sec.step == .waitPush) = true →
     Does s t h (.fwPush h offset chunk) (cmdFwPush offset chunk)
       { t with sec.push := (offset, chunk) :: t.sec.push } 0 []) ∧
  (∀ (high low : BitVec 32),
     let total := (high ++ low).toNat
     let image := imageOf (assemble 2 total t.sec.push)
     let v := t.verify 1 image
     let u := { t with sec := { t.sec with codePush := v.code, sigPush := v.sigs } }
     t.cmd.dev = .boot → t.sec.step = .waitPush →
     (if v.code = 0 then Does s t h (.fwPushDone h high low) (cmdFwPushDone total)
       { u with sec := { u.sec with chosen := some image, source := 2, step := .firmware } } v.sigs []
     else Ends s t h (.fwPushDone h high low) (cmdFwPushDone total) u v.status 0 (BitVec.ofNat 64 v.sigs) [])) ∧
  (∀ (offset : Nat) (chunk : List Byte),
     offset ≤ 2 ^ 24 →
     chunk.length ≤ 131008 →
     Does s t h (.fwFlashWrite h offset chunk) (cmdFwFlashWrite offset chunk)
       { t with sec := { t.sec with flash := (t.sec.otherSlot, offset, chunk) :: t.sec.flash, slots := t.sec.slots.set .board t.sec.otherSlot .erased } } 0 []) ∧
  (∀ (high low : BitVec 32),
     let total := (high ++ low).toNat
     let k := t.sec.otherSlot
     let l := assemble k total (t.sec.chunksOf k)
     let v := t.verify 1 (imageOf l)
     let u := ({ t with sec := { t.sec with slots := t.sec.slots.set .board k (.image l), flash := t.sec.flash.filter fun e => e.1 != k } }).note
       srcFwFlashCommitted 0 0
     if v.code = 0 then
       Ends s t h (.fwFlashCommit h high low) (cmdFwFlashCommit total) u stOk 0 (BitVec.ofNat 64 v.sigs) [k, (imageOf
         l).imageSeq]
     else Answers s t h (.fwFlashCommit h high low) (cmdFwFlashCommit total) v.refuse) ∧
  ((t.cmd.dev = .configure → t.twin.attached = false → Starts s t h cmdFwRestart →
     exec (.fwRestart h) s = .next ((({ t with sec.restarting := true }).replied h cmdFwRestart 0 []).coreReset
       .reset))) ∧
  (∀ (v : Nat),
     (decide (t.sec.svn ≤ v) && decide (v ≤ 255)) = true →
     ((v = t.sec.svn) →
       Does s t h (.svnAdvance h v) (cmdSvnAdvance v) t v []) ∧
     (¬ (v = t.sec.svn) →
       v ≤ t.svnLimit →
       Does s t h (.svnAdvance h v) (cmdSvnAdvance v) ({ t with sec.svn := v }.note srcSvnAdvanced 0 0) v [])) ∧
  (∀ (lms : Bool) (slot : Nat),
     slot < 4 →
     (!(match t.sec.running with | some x => (if lms then x.lmsSlot else x.ecdsaSlot) == slot | none => false)
           && t.slotsLeft lms slot) = true →
     let u := { t with sec.revoked := t.sec.revoked ||| BitVec.ofNat 8 (2 ^ (slot + if lms then 4 else 0)) }
     Does s t h (.keyRevoke h lms slot) (cmdKeyRevoke lms slot) u u.sec.revoked.toNat []) ∧
  (Does s t h (.identityCertGet h) cmdIdentityCertGet t 0 ((List.range Config.certWords).map Config.certWord)) ∧
  (Does s t h (.measurementGet h) cmdMeasurementGet t 0 ([t.sec.m0, t.sec.m1, t.sec.m2, t.sec.m3,
    t.sec.configDigest].flatMap (fun m => words 6 m.toNat)
         ++ [t.sec.configCount])) ∧
  (∀ (nonce : BitVec 384),
     ¬ (t.sec.exhausted) →
     ((32768 ≤ t.sec.lowerLeaf) →
       let u := t.draw.burnLeaf (t.rand 2 == 1)
       Ends s t h (.attestReportGet h nonce) (cmdAttestReportGet nonce) u (if u.sec.exhausted then stNoSpace else
         stBusy) 0 0 []) ∧
     (¬ (32768 ≤ t.sec.lowerLeaf) →
       match t.sec.topLeaf with
       | some top =>
         t.sec.treeReady = true →
         Answers s t h (.attestReportGet h nonce) (cmdAttestReportGet nonce) (t.takeReport h nonce top)
       | none => True)) ∧
  (∀ (first rest : List Byte),
     let image := first ++ rest
     let hd := imageOf image
     let body := Config.patchBody hd.body
     let v := t.verify 2 hd
     let c := cmdArmPatchLoad image
     let i := Instr.armPatchLoad h first rest
     (if ¬ patchSizeOk body = true then Refuses s t h i c stBadLength 0 0 0
     else if v.code ≠ 0 then Answers s t h i c v.refuse
     else if body.baseVersion ≠ t.arm.baseVersion then Refuses s t h i c stStateConflict 0 (BitVec.ofNat 64 v.sigs) 0
     else if t.arm.quiescing ≠ none then Refuses s t h i c stBusy 0 (BitVec.ofNat 64 v.sigs) 0
     else if ¬ (1 ≤ body.level ∧ body.level ≤ 65535) then Refuses s t h i c stBadParam 0 (BitVec.ofNat 64 v.sigs) 0
     else match t.patchFault body with
       | some a => Refuses s t h i c stBadParam 0 (BitVec.ofNat 64 v.sigs) (BitVec.ofNat 64 a)
       | none =>
         Does s t h i c
           { t with arm.staged := some { level := body.level, svn := hd.svn, digest := hd.bodyDigest, words := body.words, traps := body.traps, entries := body.entries } } body.level [])) ∧
  (t.arm.quiescing.isNone = true →
   t.arm.staged.isSome = true →
   Waits s t h (.armPatchActivate h) cmdArmPatchActivate { t with arm.quiescing := some (h, t.clock.epoch) } 0) ∧
  (t.arm.quiescing.isNone = true →
   t.sec.svn ≤ t.arm.baseSvn →
   Does s t h (.armPatchRevert h) cmdArmPatchRevert
     { t with arm.staged := some { level := 0, svn := 0, digest := 0, words := [], traps := [], entries := [] } } 0
       []) ∧
  (Does s t h (.armPatchStatusGet h) cmdArmPatchStatusGet t 0 [t.armatureVersion.toNat, (t.arm.staged.map
    (·.level)).getD 0, (t.arm.staged.map (·.svn)).getD 0]) ∧
  (∀ (restart : Option Nat) (live : Option Nat),
     let r := restart.getD t.arm.restartLimit
     let l := live.getD t.arm.liveLimit
     (decide (1 ≤ r) && decide (r ≤ 255) && decide (2 ^ 16 ≤ l) && decide (l ≤ 2 ^ 28)) = true →
     Does s t h (.armEngineSet h restart live) (cmdArmEngineSet restart live)
       { t with arm := { t.arm with restartLimit := r, liveLimit := l } } 0 []) ∧
  (∀ (engine : Nat),
     engine < 4 →
     let x := t.engine engine
     Does s t h (.armEngineStatusGet h engine) (cmdArmEngineStatusGet engine) t 0 [if x.fenced then 2 else if
       x.job.isSome then 1 else 0
           , match x.job with | some j => j.work.routine | none => 0, x.queue.length]) ∧
  (∀ (engine : Nat),
     engine < 4 →
     ((t.engine engine).fenced && !t.reactedNow (.armEngine engine)) = true →
     Does s t h (.armEngineRestore h engine) (cmdArmEngineRestore engine) ((t.restoreEngine engine).noteUnit
       (.armEngine engine) 0x0D46 h) 0 []) ∧
  (∀ (engine : Nat) (clear : Bool),
     engine < 4 →
     let cs : List (Ctr × Nat) := ([Ctr.armJobs, .armCommits, .armAbandonRefused, .armAbandonFault, .armAbandonLive,
       .armGiveUp , .armMicrowords].map fun c => (c, engine))
     Does s t h (.armStatsGet h engine clear) (cmdArmStatsGet engine clear) (if clear then t.clearCtrs cs else t) 0
       (if clear then t.ctrsBefore cs else t.ctrVals cs))

/-- What every group command does in each case that its own effect comes; the equation gives the whole next state, and with it the frame. -/
def Obligations.GroupCommands : Prop := ∀ (s t : State) (h : Hdr),
  (t.group.isNone = true →
   let g : Group := { id := t.groupNext, sender := hdrSender h, twin := h.twin || Hdr_twinned h, parts := [], count := 0, failed := none, lastEpoch := t.clock.epoch, commit := none }
   Does s t h (.groupOpen h) cmdGroupOpen { t with group := some g, groupNext := t.groupNext % (2 ^ 32 - 1) + 1 }
     t.groupNext []) ∧
  (∀ (target : EpochName) (g : Group), t.ownGroup h = some g → g.twin = h.twin → g.commit = none →
     Starts s t h (cmdGroupCommit target) →
     exec (.groupCommit h target) s = .next
       ((({ t with group := some { g with commit := some (h, target, t.clock.epoch) } }
       : State).hold h 0x0E02 (cmdGroupCommit target).extends).failedGroup)) ∧
  (∀ g, t.ownGroup h = some g → g.twin = (h.twin || Hdr_twinned h) → g.commit = none →
   Does s t h (.groupDiscard h) cmdGroupDiscard (t.closeGroup g) 0 []) ∧
  (match t.group with
   | none => True
   | some g =>
     (g.id == h.groupId) = true →
     Does s t h (.groupStatusGet h) cmdGroupStatusGet t 0 [groupCode g, g.parts.length, (g.failed.map fun f =>
       f.1).getD (2 ^ 16)])

/-! ## Every event -/

/-- What every packet entry, lookup, decision and edit event does, in each case; the equation gives the whole next state, and with it the frame. -/
def Obligations.PacketEvents : Prop := ∀ (s : State),
  (∀ (pipe : Nat) (ready0 : Bool) (ready1 : Bool),
     pipe < 64 →
     if s.worked then
       exec (.ingressPipeSlot pipe ready0 ready1) s = .next (s.accountRest pipe ready0 ready1 (s.tableWait pipe)
         (s.stageAHigh pipe))
     else
       exec (.ingressPipeSlot pipe ready0 ready1) s = .next s) ∧
  (∀ (port : Nat) (fid : Nat) (f : RxFrame),
     port < 1024 →
     let pipe := s.ingressPipe port
     if !s.isPort port || isMacControl f then
       exec (.packetEntry port fid f) s = .next s
     else if s.pk.refused.contains (port, fid) then
       exec (.packetEntry port fid f) s = .next (s.clearRefused port fid)
     else
       let s1 := s.arrive port fid (s.now - 2 - s.clock.k) f
       match s1.arrivedAs port fid with
       | none =>
         exec (.packetEntry port fid f) s = .next s1
       | some a =>
         if !a.failed s1.tickStamp && s1.noSlotFor pipe port then
           exec (.packetEntry port fid f) s = .next (s1.lineWaits pipe port fid)
         else
           let s2 := s1.modLineWait pipe (·.filter (· != (port, fid)))
           if a.failed s2.tickStamp then
             exec (.packetEntry port fid f) s = .next (s2.forgetArrived port fid)
           else if !s2.forwards then
             exec (.packetEntry port fid f) s = .next ((s2.bump .stateDrop pipe).turnAway a)
           else
             exec (.packetEntry port fid f) s = .next (s2.enter a)) ∧
  (∀ (store : Nat) (bank : Nat),
     ((bank < numBanks store : Prop)) →
     if s.worked then
       if store = 0 then
         exec (.bankCycleServe store bank) s = .next (s.serveEmBank bank)
       else if store = 1 then
         exec (.bankCycleServe store bank) s = .next (s.serveLpmBank bank)
       else
         exec (.bankCycleServe store bank) s = .next (s.serveCounterBank bank)
     else
       exec (.bankCycleServe store bank) s = .next s) ∧
  (∀ (req : Nat),
     match s.tables.reqs.find? fun q => q.id == req with
     | none =>
       exec (.lookupResult req) s = .next s
     | some q =>
       match s.resultAt q with
       | none =>
         exec (.lookupResult req) s = .next s
       | some t =>
         if s.tickStamp < t then
           exec (.lookupResult req) s = .next s
         else
           let u := s.dropReq req
           if 64 ≤ q.requester then
             exec (.lookupResult req) s = .next (u.takeHop q)
           else
             match s.pkt q.owner with
             | none =>
               exec (.lookupResult req) s = .next u
             | some p =>
               if !q.old && p.verdict != .rollback then
                 exec (.lookupResult req) s = .next (u.takeResult q p)
               else
                 exec (.lookupResult req) s = .next u) ∧
  (∀ (pid : Nat),
     match s.pkt pid with
     | none =>
       exec (.ingressDecision pid) s = .next s
     | some p =>
       if p.decision = .undecided ∧ p.verdict ≠ .rollback ∧ !p.dropped ∧ !s.resultsDue pid ∧ !(s.verdictsIn pid p &&
         p.fails) then
         exec (.ingressDecision pid) s = .next (s.decideRows pid)
       else
         exec (.ingressDecision pid) s = .next s) ∧
  (∀ (pid : Nat),
     match s.pkt pid with
     | none =>
       exec (.cloisterReturn pid) s = .next s
     | some p =>
       let pipe := s.ingressPipe p.port
       if s.pk.cloisterQ.contains pid && p.cells.all (·.written) && s.slotReady pipe && !s.injectDue pipe
               && (!s.lineReady pipe || s.turn pipe == 1) then
         exec (.cloisterReturn pid) s = .next (s.leaveCloister pid pipe p)
       else
         exec (.cloisterReturn pid) s = .next s) ∧
  (∀ (cid : Nat),
     match s.copy cid with
     | none =>
       exec (.egressEdit cid) s = .next s
     | some c =>
       match s.pkt c.pkt with
       | none =>
         exec (.egressEdit cid) s = .next s
       | some p =>
         let pipe := s.egressPipe c.port
         if !s.editReady cid pipe c then
           exec (.egressEdit cid) s = .next s
         else if (p.cells[0]?).any (·.poison) || c.poison.contains 0 then
           exec (.egressEdit cid) s = .next ((((s.carryEdit pipe c.port).bump .egressPoisonDrop c.port).consumePoison
             c.port p 0).editDrop cid)
         else
           let f := s.egressFind c p
           match s.hopTable c p (s.opsOf f.action p) with
           | some t =>
             if s.hopWaits pipe cid then
               exec (.egressEdit cid) s = .next s
             else
               exec (.egressEdit cid) s = .next (s.addReq (newReq (64 + pipe) cid (.direct t (nextHopOf p) true)))
           | none =>
             exec (.egressEdit cid) s = .next ((s.carryEdit pipe c.port).editFound cid pipe c p f)) ∧
  (∀ (pipe : Nat) (ready0 : Bool) (ready1 : Bool),
     pipe < 64 →
     if s.worked then
       exec (.egressPipeSlot pipe ready0 ready1) s = .next (s.accountRest (64 + pipe) ready0 ready1 (s.hopWait pipe)
         true)
     else
       exec (.egressPipeSlot pipe ready0 ready1) s = .next s)

/-- What every MAC event does, in each case; the equation gives the whole next state, and with it the frame. -/
def Obligations.MacEvents : Prop := ∀ (s : State),
  (∀ (port : Nat) (fid : Nat) (f : RxFrame),
     port < 1024 →
     if !s.isPort port || isMacControl f then
       exec (.macRxFrameEnd port fid f) s = .next s
     else
       let ok := (s.macVerdict port f).isNone
       let s1 := s.countMac port f
       match s1.pktOf port fid with
       | some pid =>
         exec (.macRxFrameEnd port fid f) s = .next (s1.modPktD pid fun p => if p.macOk.isNone then
           { p with macOk := some ok, verdictAt := s1.tickStamp } else p)
       | none =>
         if s1.pk.refused.contains (port, fid) then
           exec (.macRxFrameEnd port fid f) s = .next (s1.clearRefused port fid)
         else
           let s2 := s1.arrive port fid (s1.now - s1.wireClocks port f.wireLen) f
           let verdict := fun (a : Arrived) =>
             if a.is port fid && a.verdict.isNone then { a with verdict := some (ok, s2.tickStamp) } else a
           exec (.macRxFrameEnd port fid f) s = .next
             { s2 with pk := { s2.pk with arrived := s2.pk.arrived.map verdict } }) ∧
  (∀ (port : Nat) (c : MacCtl),
     port < 1024 →
     if (s.port port).rawUp || c.truncated then
       exec (.macControlFrameRx port c) s = .next (((s.bumpBy .rxFecUncorrected port c.fecBad).bumpBy .rxFecCorrected
         port c.fecFixed).takeControl port c)
     else
       exec (.macControlFrameRx port c) s = .next s) ∧
  (∀ (port : Nat) (timer : Nat),
     (decide (port < 1024) && decide (timer < 9)) = true →
     match (s.port port).pause.find? fun e => e.1 == timer with
     | some e =>
       if e.2.1 ≤ s.now then
         exec (.pauseTimerExpiry port timer) s = .next (s.modPort port fun x =>
           { x with pause := x.pause.filter fun y => y.1 != timer })
       else
         exec (.pauseTimerExpiry port timer) s = .next s
     | none =>
       exec (.pauseTimerExpiry port timer) s = .next s) ∧
  (∀ (port : Nat) (prio : Nat),
     let k := port * 8 + prio
     let v := s.pk.prev.pg.get 0 k
     (decide (port < 1024) && decide (prio < 8)) = true →
     match s.xoffAt port prio with
     | none =>
       if (s.pg k).xoff ≤ v then
         exec (.xoffRequest port prio) s = .next (((s.bump .pgXoff k).putXoff port prio (some s.now)).sendFlow port
           prio (s.pauseQuanta port))
       else
         exec (.xoffRequest port prio) s = .next s
     | some _ =>
       if v ≤ (s.pg k).xon then
         exec (.xoffRequest port prio) s = .next ((s.putXoff port prio none).sendFlow port prio 0)
       else
         exec (.xoffRequest port prio) s = .next s) ∧
  (∀ (port : Nat) (prio : Nat),
     (decide (port < 1024) && decide (prio < 8)) = true →
     match s.xoffAt port prio with
     | some t =>
       if 2 * t + s.quantaClocks port (s.pauseQuanta port) ≤ 2 * s.now ∧ s.sendsFlow port prio then
         exec (.xoffResend port prio) s = .next ((s.putXoff port prio (some s.now)).sendFlow port prio (s.pauseQuanta
           port))
       else
         exec (.xoffResend port prio) s = .next s
     | none =>
       exec (.xoffResend port prio) s = .next s) ∧
  (∀ (port : Nat) (pcsPs : Nat),
     port < 1024 →
     if (s.sending port).isSome || !(s.port port).rawUp || !s.portUp port || s.flowBusy port then
       exec (.macFrameStart port pcsPs) s = .next s
     else
       match (s.macFifo port).head? with
       | none =>
         exec (.macFrameStart port pcsPs) s = .next s
       | some cid =>
         match s.copy cid with
         | none =>
           exec (.macFrameStart port pcsPs) s = .next s
         | some c =>
           match s.pkt c.pkt with
           | none =>
             exec (.macFrameStart port pcsPs) s = .next s
           | some p =>
             match s.judgeStart port c with
             | .wait =>
               exec (.macFrameStart port pcsPs) s = .next s
             | .late =>
               if s.lateSend c.queue then
                 exec (.macFrameStart port pcsPs) s = .next ((s.lateFrame cid c).startFrame port cid
                   { c with late := true, launch := none } p pcsPs false)
               else
                 exec (.macFrameStart port pcsPs) s = .next (s.lateFrame cid c)
             | .held t =>
               exec (.macFrameStart port pcsPs) s = .next ((s.bump .gateHeld port).putCopy cid (some
                 { c with plan := some (t.getD neverPlan), rejudge := false }))
             | .start slipped =>
               exec (.macFrameStart port pcsPs) s = .next (s.startFrame port cid c p pcsPs slipped)) ∧
  (∀ (port : Nat) (sent : Nat),
     port < 1024 →
     match s.sending port with
     | none =>
       exec (.txFrameEnd port sent) s = .next s
     | some cid =>
       match s.copy cid with
       | none =>
         exec (.txFrameEnd port sent) s = .next (s.putSending port none)
       | some c =>
         match s.pkt c.pkt with
         | none =>
           exec (.txFrameEnd port sent) s = .next (s.putSending port none)
         | some p =>
           exec (.txFrameEnd port sent) s = .next (s.endFrame port cid sent c p))

/-- What every run-ahead and lookaside event does, in each case; the equation gives the whole next state, and with it the frame. -/
def Obligations.RollbackEvents : Prop := ∀ (s : State),
  (∀ (pid : Nat) (ok : Bool),
     match s.pkt pid with
     | none =>
       exec (.icvVerdict pid ok) s = .next s
     | some p =>
       if p.icvWait && p.icvOk.isNone && ok == p.icvGood then
         exec (.icvVerdict pid ok) s = .next (s.putPkt pid (some
           { p with icvOk := some ok, verdictAt := s.tickStamp }))
       else
         exec (.icvVerdict pid ok) s = .next s) ∧
  (∀ (tag : Nat),
     tagOk tag = true →
     match s.tagPkt tag with
     | none =>
       exec (.tagResolve tag) s = .next s
     | some (pid, p) =>
       if p.verdict = .none ∧ s.verdictsIn pid p then
         if p.fails then
           exec (.tagResolve tag) s = .next (s.rollback pid p)
         else
           exec (.tagResolve tag) s = .next (s.confirm pid p)
       else
         exec (.tagResolve tag) s = .next s) ∧
  (∀ (tag : Nat),
     tagOk tag = true →
     match s.tagPkt tag with
     | none =>
       exec (.rollbackZeroWrite tag) s = .next s
     | some (pid, p) =>
       if s.worked && p.rollStep == 1 && p.needsZero && !s.stageAOpen && !(List.range 16).any s.stageBOpen then
         exec (.rollbackZeroWrite tag) s = .next (s.zeroTag pid p)
       else
         exec (.rollbackZeroWrite tag) s = .next s) ∧
  (∀ (tag : Nat),
     tagOk tag = true →
     match s.tagPkt tag with
     | none =>
       exec (.rollbackFree tag) s = .next s
     | some (pid, p) =>
       if p.rollStep = (if p.needsZero then 2 else 1) ∧ p.resolvedAt < s.tickStamp then
         let cells := (s.underTag pid p).flatMap fun q => match s.pkt q with
           | some x => (s.cellsLeft x).filterMap fun i => (x.cells[i]?).bind (·.cell)
           | none => []
         let s1 := s.modPktD pid fun y => { y with rollCells := cells }
         exec (.rollbackFree tag) s = .next (((s1.boundTo tag).foldl (fun s1 q => (s1.rollFree q).modPktD q fun y =>
           { y with tag := none }) s1).rollFree pid)
       else
         exec (.rollbackFree tag) s = .next s) ∧
  (∀ (tag : Nat),
     tagOk tag = true →
     match s.tagPkt tag with
     | none =>
       exec (.specTagReturn tag) s = .next s
     | some (pid, p) =>
       if (p.verdict = .confirm ∨ (p.rollStep = 3 ∧ !s.freesDue p)) ∧ p.resolvedAt < s.tickStamp then
         exec (.specTagReturn tag) s = .next ((s.returnTag tag pid).closePipe (tag / 1024))
       else
         exec (.specTagReturn tag) s = .next s) ∧
  (∀ (engine : Nat) (agree : Bool) (obj : Option Nat),
     engine < 257 →
     let t := s.countMismatch engine (if agree then 1 else 2)
     let inst := if engine = 256 then 0 else engine
     let t := if agree then t.note (if engine = 256 then srcLaMismatch else srcCipherMismatch) inst 0
       else (t.discardFor engine obj).raise (if engine = 256 then srcLaMismatchRepeat else srcCipherMismatchRepeat)
         inst 0
     exec (.cipherBlockMismatch engine agree obj) s = .next (t.checkTamper engine)) ∧
  (∀ (m : LaMsg),
     (decide (m.ctx < 64) && decide (m.prio < 4)) = true →
     exec (.laMessageRequest m) s = .next (s.laRequest m)) ∧
  (match s.cipher.running with
   | none =>
     exec (.laMessageComplete) s = .next s
   | some j =>
     if s.cipher.runFrom + (j.msg.blocks - j.done + 7) / 8 ≤ s.now then
       let t := { s with cipher := { s.cipher with running := none } }
       let t := match t.laWork j.msg.id with
         | some w => t.laResult w
         | none => t
       exec (.laMessageComplete) s = .next t.laSchedule
     else
       exec (.laMessageComplete) s = .next s) ∧
  (∀ (id : Nat),
     match s.laHolder id with
     | none =>
       exec (.laPriorityAge id) s = .next s
     | some (c, j) =>
       if c.suspendedAt + 512 ≤ s.now ∧ j.msg.prio < 2 then
         exec (.laPriorityAge id) s = .next ((s.modLaCtx j.msg.ctx fun c =>
                   { c with suspended := some { j with msg := { j.msg with prio := j.msg.prio + 1 } }, suspendedAt := s.now }).laSchedule)
       else
         exec (.laPriorityAge id) s = .next s)

/-- What every buffer, scheduler and Trellis event does, in each case; the equation gives the whole next state, and with it the frame. -/
def Obligations.BufferEvents : Prop := ∀ (s : State),
  (∀ (pid : Nat),
     match s.pkt pid with
     | none =>
       exec (.admitHead pid) s = .next s
     | some p =>
       if !s.worked || !s.admitReady p || s.admitBefore p.pipe then
         exec (.admitHead pid) s = .next s
       else
         let s1 := s.runPushDue (s.pipeTurn p.pipe)
         let a := s1.mainTargets p
         let b := a.1.sideTargets p
         exec (.admitHead pid) s = .next (((b.1.admitAll pid (a.2 ++ b.2)).queueCells pid).countInject pid p)) ∧
  (∀ (slice : Nat) (errs : List (Nat × XferErr)),
     slice < 16 →
     if s.stageAReady slice then
       exec (.stageATransfer slice errs) s = .next (s.stageATick slice errs)
     else
       exec (.stageATransfer slice errs) s = .next s) ∧
  (∀ (part : Nat),
     part < 16 →
     if s.worked && (s.part part).landedAt != some s.tickStamp && (s.part part).life != .retired && !s.stageAOpen
             && !s.stageBOpen part && !s.zeroOpen part then
       exec (.freeLand part) s = .next (s.landTick part)
     else
       exec (.freeLand part) s = .next s) ∧
  (∀ (part : Nat) (bank : Nat),
     (decide (part < 16) && decide (bank < 32)) = true →
     if (s.part part).rebuilding.contains (bank, 1536) then
       exec (.freeListRebuildDone part bank) s = .next (s.rebuildBank part bank)
     else
       exec (.freeListRebuildDone part bank) s = .next s) ∧
  (∀ (port : Nat),
     port < 1024 →
     if s.canHandOver port then
       exec (.handOver port) s = .next ((s.modEport port fun e => { e with handAt := some s.tickStamp }).select port
         (s.queueOrder port))
     else
       exec (.handOver port) s = .next s) ∧
  (if s.clock.running then
     exec (.shaperRefill) s = .next s.refillShapers
   else
     exec (.shaperRefill) s = .next s) ∧
  (∀ (slice : Nat),
     slice < 16 →
     if s.worked && s.sliceLive slice && (s.slice slice).matchAt != some s.tickStamp then
       exec (.portMatch slice) s = .next ((s.matchTick slice).markWindow slice)
     else
       exec (.portMatch slice) s = .next s) ∧
  (∀ (slice : Nat) (part : Nat) (err : XferErr),
     (decide (slice < 16) && decide (part < 16)) = true →
     if s.worked && s.sliceLive slice && (s.slice slice).matchAt != some s.tickStamp && !s.stageAOpen then
       match (s.slice slice).matched.find? fun m => m.1 == part with
       | some m =>
         if s.chanReads slice part s.tickStamp && s.readCycle m.2.2.1 m.2.2.2 then
           exec (.stageBRead slice part err) s = .next ((s.useReadCycle m.2.2.1 m.2.2.2).stageBTransfer slice part
             m.2.1 m.2.2.1 m.2.2.2 err)
         else
           exec (.stageBRead slice part err) s = .next s
       | none =>
         exec (.stageBRead slice part err) s = .next s
     else
       exec (.stageBRead slice part err) s = .next s) ∧
  (∀ (slice : Nat),
     slice < 16 →
     if s.worked && s.sliceLive slice && (s.slice slice).releaseAt != some s.tickStamp then
       exec (.reseqRelease slice) s = .next (s.releaseTick slice)
     else
       exec (.reseqRelease slice) s = .next s) ∧
  (∀ (cid : Nat),
     match s.copy cid with
     | none =>
       exec (.reseqTimeout cid) s = .next s
     | some c =>
       if c.expired || c.phase == .done || c.stomp == 1 then
         exec (.reseqTimeout cid) s = .next s
       else
         match s.pkt c.pkt, s.missing c with
         | some p, some idx =>
           exec (.reseqTimeout cid) s = .next (s.reseqExpire cid idx c p)
         | _, _ =>
           exec (.reseqTimeout cid) s = .next s) ∧
  (∀ (port : Nat),
     port < 1024 →
     if !(s.eport port).downDue then
       exec (.portDownPolicy port) s = .next s
     else
       let hold := s.downHold port && s.holdTimeUs port != 0
       let s1 := s.modEport port fun e =>
         { e with downDue := false, downAt := some s.tickStamp, holding := hold, holdEnd := if hold then s.now + clkUs (s.holdTimeUs port) else 0 }
       if hold then
         exec (.portDownPolicy port) s = .next s1
       else
         exec (.portDownPolicy port) s = .next (s1.flushPort port)) ∧
  (∀ (port : Nat),
     let e := s.eport port
     port < 1024 →
     if e.holding && decide (e.holdEnd ≤ s.now) && !(s.port port).linkUp then
       let s1 := s.modEport port fun e => { e with holding := false }
       let s2 := (s1.portQueues port).foldl (fun s1 q => s1.flushQueue port q .mcastDropHold) s1
       exec (.portHoldExpired port) s = .next (s2.note srcPortHoldExpired port 0)
     else
       exec (.portHoldExpired port) s = .next s) ∧
  (∀ (queue : Nat),
     queue < 9216 →
     match s.queuePort queue, (s.equeue queue).wdFrom with
     | some p, some t =>
       if t + clkMs (s.wdTimeMs p) ≤ s.now ∧ s.stuck queue ∧ !(s.equeue queue).tripped then
         let s1 := s.modEqueue queue fun x => { x with tripped := true, wdFrom := none, clearFrom := none }
         let s2 := (s1.bump .pfcWdTrips queue).note srcPfcWatchdog queue 0
         if s2.wdAction queue = 2 then
           exec (.pfcWatchdog queue) s = .next (s2.drainQueue p queue)
         else
           exec (.pfcWatchdog queue) s = .next s2
       else
         exec (.pfcWatchdog queue) s = .next s
     | _, _ =>
       exec (.pfcWatchdog queue) s = .next s) ∧
  (∀ (queue : Nat),
     queue < 9216 →
     match s.queuePort queue, (s.equeue queue).clearFrom with
     | some p, some t =>
       if t + clkMs (s.wdRestoreMs p) ≤ s.now ∧ (s.equeue queue).tripped ∧ !s.queuePaused queue then
         exec (.pfcWdRestored queue) s = .next ((s.modEqueue queue fun x =>
           { x with tripped := false, clearFrom := none }).note srcPfcWdRestored queue 0)
       else
         exec (.pfcWdRestored queue) s = .next s
     | _, _ =>
       exec (.pfcWdRestored queue) s = .next s) ∧
  (∀ (part : Nat),
     part < 16 →
     if (s.part part).life == .draining && s.drainEmpty part then
       exec (.partitionDrainEnd part) s = .next (s.modPart part fun q => { q with drained := true })
     else
       exec (.partitionDrainEnd part) s = .next s) ∧
  (∀ (part : Nat),
     let q := s.part part
     part < 16 →
     if q.life == .draining && !q.drained && !q.forced && decide (q.stopEpoch + q.drainLimit ≤ s.clock.epoch) then
       exec (.drainLimitExpiry part) s = .next (s.forceDrain part)
     else
       exec (.drainLimitExpiry part) s = .next s) ∧
  (∀ (part : Nat),
     part < 16 →
     if (s.part part).life == .restoring && !(s.part part).drained then
       exec (.partitionRebuildDone part) s = .next (s.clearPartition part)
     else
       exec (.partitionRebuildDone part) s = .next s)

/-- What every lane event does, in each case; the equation gives the whole next state, and with it the frame. -/
def Obligations.LaneEvents : Prop := ∀ (s : State),
  (∀ (tile : Nat) (failed : List Nat),
     tile < 8 →
     if s.lp.calibrating.contains tile then
       let t := { s with lp := { s.lp with calibrating := s.lp.calibrating.filter (· != tile), calibrated := s.lp.calibrated ++ [tile] } }
       exec (.laneCalibrationDone tile failed) s = .next ((List.range 128).foldl (fun t i =>
                let l := tile * 128 + i
                if failed.contains l then t.calFail l else t.idleLane l) t)
     else
       exec (.laneCalibrationDone tile failed) s = .next s) ∧
  (∀ (lane : Nat) (inverted : Bool) (fir : BitVec 64),
     lane < 1024 →
     match s.nextLane lane inverted with
     | some st =>
       if s.laneInTime lane && s.tapsOk lane fir then
         exec (.laneStateAdvance lane inverted fir) s = .next (((s.laneExit lane inverted fir).laneEntry lane
           st).enterLane lane st true)
       else
         exec (.laneStateAdvance lane inverted fir) s = .next s
     | none =>
       exec (.laneStateAdvance lane inverted fir) s = .next s) ∧
  (∀ (lane : Nat),
     lane < 1024 →
     if s.laneTimedOut lane then
       exec (.laneBringupTimeout lane) s = .next ((s.bump .laneBringupRestart lane).laneError lane
         srcLaneBringupTimeout)
     else
       exec (.laneBringupTimeout lane) s = .next s) ∧
  (∀ (lane : Nat),
     let c := (s.lane lane).st.code
     lane < 1024 →
     if 2 ≤ c ∧ c ≤ 8 then
       exec (.laneLos lane) s = .next ((s.bump .laneLosCount lane).enterLane lane .signalDetect false)
     else
       exec (.laneLos lane) s = .next s) ∧
  (∀ (lane : Nat),
     let c := (s.lane lane).st.code
     lane < 1024 →
     if 4 ≤ c ∧ c ≤ 8 then
       exec (.laneCdrUnlock lane) s = .next ((s.bump .laneCdrUnlock lane).laneError lane srcLaneCdrUnlock)
     else
       exec (.laneCdrUnlock lane) s = .next s) ∧
  (∀ (lane : Nat),
     let c := (s.lane lane).st.code
     lane < 1024 →
     if 6 ≤ c ∧ c ≤ 8 then
       exec (.laneAmLoss lane) s = .next ((s.bump .laneAmLockLoss lane).laneError lane srcLaneAmLoss)
     else
       exec (.laneAmLoss lane) s = .next s) ∧
  (∀ (lane : Nat),
     let x := s.lane lane
     lane < 1024 →
     if x.held && x.st == .signalDetect && decide (x.restartAt.getD 0 + clkMs (s.octet (lane / 8)).holdoffMs ≤ s.now)
       then
       exec (.laneRestartHoldoff lane) s = .next (s.restartLane lane)
     else
       exec (.laneRestartHoldoff lane) s = .next s) ∧
  (∀ (lane : Nat),
     let x := s.lane lane
     lane < 1024 →
     if x.permanent && x.st == .up && decide (clkS (s.react srcLanePermanent).clearS ≤ x.upFor + (s.now - x.since))
       then
       exec (.laneRecovered lane) s = .next ((s.putLane lane { x with permanent := false, stamps := [] }).note
         srcLaneRecovered lane 0)
     else
       exec (.laneRecovered lane) s = .next s) ∧
  (∀ (octet : Nat) (evidence : List (Nat × Bool)),
     let x := s.octet octet
     octet < 128 →
     match x.orderState with
     | .pending =>
       match x.windowFrom with
       | some t =>
         if t + clkMs 10 ≤ s.now then
           exec (.laneOrderWindowEnd octet evidence) s = .next (s.decideOrder octet evidence)
         else
           exec (.laneOrderWindowEnd octet evidence) s = .next s
       | none =>
         exec (.laneOrderWindowEnd octet evidence) s = .next s
     | .decided =>
       exec (.laneOrderWindowEnd octet evidence) s = .next (s.lateEvidence octet evidence)
     | .assumed =>
       exec (.laneOrderWindowEnd octet evidence) s = .next (s.lateEvidence octet evidence)
     | .conflict =>
       exec (.laneOrderWindowEnd octet evidence) s = .next s
     | .forced =>
       exec (.laneOrderWindowEnd octet evidence) s = .next s) ∧
  (∀ (lane : Nat) (symErr : Nat),
     let x := s.lane lane
     let s1 := s.modLane lane fun x => { x with serWas := some (s.clock.now, s.ctrVal .laneSer1s lane) }
     let o := s1.octet (lane / 8)
     lane < 1024 →
     if x.st = .test then
       let t := s1.putCount (Ctr.laneSer1s.key lane) 0
       if x.prbsChk = 0 then
         exec (.laneSerIntervalEnd lane symErr) s = .next t
       else
         exec (.laneSerIntervalEnd lane symErr) s = .next (t.bumpBy .lanePrbsErr lane symErr)
     else
       let t := s1.bumpBy .laneSymErr lane symErr
       let t := t.putCount (Ctr.laneSer1s.key lane) (min symErr (2 ^ 32 - 1))
       if symbolRate o.rate < t.ctrVal .laneSer1s lane * 10 ^ o.serExp then
         exec (.laneSerIntervalEnd lane symErr) s = .next (t.note srcLaneSerHigh lane 0)
       else
         exec (.laneSerIntervalEnd lane symErr) s = .next t) ∧
  (∀ (lane : Nat) (count : Nat),
     lane < 1024 →
     let count1 (c : Scan) : Scan := { c with counts := c.counts ++ [min count (2 ^ 32 - 1)], done := c.done + 1 }
     let close (c : Scan) : Scan := if c.done = c.phaseCount * c.voltCount then c.finish 1 s.clock.epoch s.now else c
     exec (.eyeScanPointDone lane count) s =
       .next (s.modLane lane fun x =>
         { x with scan := x.scan.map fun c => if c.status = 0 then close (count1 c) else c })) ∧
  (∀ (lane : Nat) (snr : Nat),
     lane < 1024 →
     if (s.lane lane).st = .up then
       exec (.laneSnrUpdate lane snr) s = .next (s.modLane lane fun x => { x with snr := snr % 2 ^ 16 })
     else
       exec (.laneSnrUpdate lane snr) s = .next s)

/-- What every port event does, in each case; the equation gives the whole next state, and with it the frame. -/
def Obligations.PortEvents : Prop := ∀ (s : State),
  (∀ (port : Nat) (partner : List Nat),
     port < 1024 →
     if (s.port port).enabled && s.anEnabled port && !(s.port port).linkUp then
       match (abilities (s.portRate port) (s.portLanes port).2 (fld (s.port port).cfg 4 3)).find? fun a =>
         partner.contains a with
       | some a =>
         exec (.anResolve port partner) s = .next (s.modPort port fun x => { x with ability := some a })
       | none =>
         exec (.anResolve port partner) s = .next ((s.modPort port fun x => { x with ability := none }).note
           srcPortAnNoCommon port 0)
     else
       exec (.anResolve port partner) s = .next s) ∧
  (∀ (port : Nat) (aligned : Bool) (localFault : Bool) (remoteFault : Bool),
     let q := s.port port
     port < 1024 →
     if q.enabled then
       let t := s.modPort port fun x =>
         { x with aligned := aligned, localFault := localFault, remoteFault := remoteFault }
       let t := t.setRemoteFault port localFault
       let t := if localFault && !q.localFault then t.note srcPortLocalFault port 0 else t
       let t := if remoteFault && !q.remoteFault then t.note srcPortRemoteFault port 0 else t
       exec (.rawLinkChange port aligned localFault remoteFault) s = .next (t.reraw port)
     else
       exec (.rawLinkChange port aligned localFault remoteFault) s = .next s) ∧
  (∀ (port : Nat),
     let q := s.port port
     port < 1024 →
     if q.linkUp && !q.rawUp && s.downExpired port then
       exec (.linkDownDebounceExpiry port) s = .next (s.linkDown port)
     else
       exec (.linkDownDebounceExpiry port) s = .next s) ∧
  (∀ (port : Nat),
     let q := s.port port
     port < 1024 →
     if q.enabled && !q.linkUp && q.rawUp && decide (q.rawSince + s.debounceUp port ≤ s.now) then
       let s1 := (s.modPort port fun x => { x with linkUp := true }).note srcPortLinkUp port 0
       let s2 := s1.modEport port fun e => { e with downAt := none, holding := false, downDue := false }
       match s2.planDomain port with
       | some d =>
         exec (.linkUpDebounceExpiry port) s = .next (s2.replan port (s2.sampled d))
       | none =>
         exec (.linkUpDebounceExpiry port) s = .next s2
     else
       exec (.linkUpDebounceExpiry port) s = .next s)

/-- What every epoch, gate and time event does, in each case; the equation gives the whole next state, and with it the frame. -/
def Obligations.TimeEvents : Prop := ∀ (s : State),
  (∀ (r : Readings),
     if s.clock.running then
       let t := s.toLastClock
       if t.clock.running then
         exec (.epochBoundary r) s = .next (t.clockEnd.newEpoch r)
       else
         exec (.epochBoundary r) s = .next t
     else
       exec (.epochBoundary r) s = .next s) ∧
  (∀ (port : Nat),
     port < 1024 →
     if s.clock.running then
       exec (.gateTakeover port) s = .next (s.takeover port)
     else
       exec (.gateTakeover port) s = .next s) ∧
  (∀ (port : Nat),
     port < 1024 →
     if s.clock.running then
       exec (.gateTransition port) s = .next (s.applyTransitions port)
     else
       exec (.gateTransition port) s = .next s) ∧
  (∀ (domain : Nat),
     let d := s.domain domain
     let l := d.events.filter fun e => decide (e.2 < s.tickStamp)
     domain < 8 →
     if l.isEmpty then
       exec (.timeEventReach domain) s = .next s
     else
       let step := l.any (·.1)
       let s1 := s.putDomain domain { d with events := d.events.filter fun e => !decide (e.2 < s.tickStamp) }
       exec (.timeEventReach domain) s = .next (s1.eg.ports.foldl (fun s1 (e : Nat × EPort) => s1.eventAtPort domain
         step e.1) s1)) ∧
  (∀ (domain : Nat),
     domain < 8 →
     if s.wdOut domain then
       exec (.hostWdExpiry domain) s = .next (s.modDomain domain fun d => { d with wdHit := true })
     else
       exec (.hostWdExpiry domain) s = .next s) ∧
  (∀ (domain : Nat),
     let d := s.domain domain
     domain < 8 →
     if d.st = .holdover ∧ d.holdFrom + clkS d.holdMax ≤ s.now then
       exec (.holdMaxExpiry domain) s = .next ((s.putDomain domain
         { d with st := .free, events := d.events ++ [(false, s.tickStamp)] }).note srcTdHoldoverExpired domain 0)
     else
       exec (.holdMaxExpiry domain) s = .next s) ∧
  (∀ (pin : Nat),
     let p := s.pps pin
     let n := s.ppsReached pin
     pin < 4 →
     if p.dir = 1 ∧ p.lastSec.getD 0 < n ∧ !p.edgesSent (p.lastSec.getD 0) n then
       exec (.ppsOutEdge pin) s = .next (s.putPps pin
         { p with asserted := true, edgeAt := s.now, lastSec := some n, sentEdges := joinRun (p.lastSec.getD 0, n) p.sentEdges })
     else
       exec (.ppsOutEdge pin) s = .next s) ∧
  (∀ (pin : Nat),
     let p := s.pps pin
     pin < 4 →
     if p.asserted && decide (p.edgeAt + clkNs p.widthNs ≤ s.now) then
       exec (.ppsOutEdgeEnd pin) s = .next (s.putPps pin { p with asserted := false })
     else
       exec (.ppsOutEdgeEnd pin) s = .next s) ∧
  (∀ (pin : Nat) (widthNs : Nat),
     pin < 4 →
     if (s.pps pin).dir ≠ 2 then
       exec (.ppsInEdge pin widthNs) s = .next s
     else if !s.ppsAccepts pin widthNs then
       exec (.ppsInEdge pin widthNs) s = .next (s.bump .ppsInRejected pin)
     else
       let t := (s.modPps pin fun p => { p with lastEdge := some s.now, lost := false }).queuePps pin
       let n := t.time.snap
       let t := if n.ppsEn && n.ppsPin == pin then { t with time := { t.time with snap := { n with duePps := true } } } else t
       exec (.ppsInEdge pin widthNs) s = .next (t.setsAtPps pin)) ∧
  (∀ (pin : Nat),
     let p := s.pps pin
     let due := match p.lastEdge with | some t => decide (t + clkMs 1500 ≤ s.now) | none => false
     pin < 4 →
     if p.dir = 2 ∧ due = true ∧ p.lost = false then
       exec (.ppsInLost pin) s = .next ((s.putPps pin { p with lost := true }).note srcPpsInLost pin 0)
     else
       exec (.ppsInLost pin) s = .next s) ∧
  (∀ (offset : BitVec 32),
     exec (.ref10mGateEnd offset) s = .next { s with time := { s.time with ref10m := offset, ref10mValid := true } })
       ∧
  (exec (.ref10mLost) s = .next (State.note { s with time := { s.time with ref10mValid := false } } srcRef10mLost 0
    0)) ∧
  (∀ (byWrite : Bool) (byPps : Bool),
     let n := s.time.snap
     match n.taken.find? fun x => (byWrite && x.byWrite) || (byPps && x.byPps) with
     | some x =>
       exec (.timeSnapshotCapture byWrite byPps) s = .next
         { s with time.snap := { n with seq := (n.seq + 1) % 2 ^ 16, causePps := x.byPps, causeWrite := x.byWrite, epoch := x.epoch, tick := x.tick, clock := x.clock, times := x.times, taken := n.taken.erase x } }
     | none =>
       exec (.timeSnapshotCapture byWrite byPps) s = .next s)

/-- What every power and Dormant-mode event does, in each case; the equation gives the whole next state, and with it the frame. -/
def Obligations.PowerEvents : Prop := ∀ (s : State),
  (exec (.ringWakeDetect) s = .next (s.wake 17)) ∧
  (∀ (west : Bool),
     exec (.wakeWaveEnd west) s = .next
       { s with power.waves := s.power.waves.filter fun (w : Bool × Nat) => !(w.1 == west && decide (w.2 + clkMs 2 ≤ s.now)) }) ∧
  (if s.decisionDue then
     let w := s.windowSums
     exec (.governorDecision) s = .next ({ s with power.decidedAt := some s.clock.epoch }.govern (w.1 + w.2.1) w.2.2)
   else
     exec (.governorDecision) s = .next s) ∧
  (match s.power.avs with
   | some w =>
     if w.ackAt.isNone ∧ w.tries < 4 then
       exec (.avsAck) s = .next
         { s with power := { s.power with avs := some { w with ackAt := some s.now }, lastAvs := some w.code, avsFault := none } }
     else
       exec (.avsAck) s = .next s
   | none =>
     exec (.avsAck) s = .next s) ∧
  (match s.power.avs with
   | some w =>
     match w.ackAt with
     | some t =>
       if t + clkUs 50 ≤ s.now then
         exec (.avsSettle) s = .next (s.avsSettled w)
       else
         exec (.avsSettle) s = .next s
     | none =>
       exec (.avsSettle) s = .next s
   | none =>
     exec (.avsSettle) s = .next s) ∧
  (match s.power.avs with
   | some w =>
     if w.ackAt.isSome ∨ 4 ≤ w.tries then
       exec (.avsWriteFail) s = .next s
     else if w.tries < 3 then
       exec (.avsWriteFail) s = .next
         { s with power := { s.power with avs := some { w with tries := w.tries + 1 }, avsSent := w.code :: s.power.avsSent } }
     else
       exec (.avsWriteFail) s = .next
         (({ s with power := { s.power with avs := some { w with tries := 4 }, avsFault := some s.clock.epoch } }).note srcAvsError 0 0)
   | none =>
     exec (.avsWriteFail) s = .next s) ∧
  (match s.power.avsFault with
   | some e =>
     if e < s.clock.epoch ∧ (s.clock.epoch - e) % 1024 = 0 ∧ s.power.avs.any (fun w => decide (4 ≤ w.tries)) then
       exec (.avsRetryPeriod) s = .next s.avsRetry
     else
       exec (.avsRetryPeriod) s = .next s
   | none =>
     exec (.avsRetryPeriod) s = .next s) ∧
  (∀ (tc : Nat) (tj : Nat),
     let s1 := s.coolPin tj
     tc < 4 →
     match s1.threshold (4 + tc) with
     | none =>
       exec (.thermalComparatorTrip tc tj) s = .next s1
     | some v =>
       if (s1.cmp (4 + tc)).tripped then
         if tj + 3 ≤ v then
           exec (.thermalComparatorTrip tc tj) s = .next (s1.tcClear tc)
         else
           exec (.thermalComparatorTrip tc tj) s = .next s1
       else if v ≤ tj then
         exec (.thermalComparatorTrip tc tj) s = .next (s1.tcTrip tc)
       else
         exec (.thermalComparatorTrip tc tj) s = .next s1) ∧
  (∀ (cmp : Nat),
     cmp < 4 →
     match (s.cmp cmp).instant with
     | none =>
       exec (.timeCompareTrip cmp) s = .next s
     | some i =>
       if (s.cmp cmp).fired || decide (s.tdFrac (s.cmp cmp).domain < i) then
         exec (.timeCompareTrip cmp) s = .next s
       else
         exec (.timeCompareTrip cmp) s = .next ((s.modCmp cmp fun x => { x with fired := true }).cmpTrip cmp
           (srcTimeCompare cmp) true)) ∧
  (∀ (cmp : Nat) (mv : Nat),
     (decide (8 ≤ cmp) && decide (cmp ≤ 13)) = true →
     if s.cmd.dev = .dormant ∧ cmp ≠ 13 then
       exec (.supplyLow cmp mv) s = .next s
     else if mv * 100 < s.lowMv cmp then
       if (s.cmp cmp).tripped then
         exec (.supplyLow cmp mv) s = .next s
       else
         exec (.supplyLow cmp mv) s = .next (s.cmpTrip cmp (srcSupplyLow cmp) (s.cmd.dev != .dormant))
     else
       exec (.supplyLow cmp mv) s = .next (s.modCmp cmp fun x => { x with tripped := false })) ∧
  (∀ (cmp : Nat) (mv : Nat),
     (cmp == 14 || cmp == 15) = true →
     if (s.threshold cmp).getD 0 < mv then
       if (s.cmp cmp).tripped then
         exec (.extLevelTrip cmp mv) s = .next s
       else
         exec (.extLevelTrip cmp mv) s = .next (s.cmpTrip cmp (srcExtLevel cmp) true)
     else
       exec (.extLevelTrip cmp mv) s = .next (s.modCmp cmp fun x => { x with tripped := false })) ∧
  (if s.power.wakeNEn then
     exec (.wakeNLow) s = .next (s.wake 16)
   else
     exec (.wakeNLow) s = .next s) ∧
  (if s.faults.thermtripPin then
     exec (.thermtrip) s = .next s
   else
     let s1 := { s with faults := { s.faults with thermtripPin := true, thermtripSeen := true } }
     if s1.clock.running then
       exec (.thermtrip) s = .next (s1.note srcThermtripAsserted 0 0)
     else
       exec (.thermtrip) s = .next s1)

/-- What every start-up event does, in each case; the equation gives the whole next state, and with it the frame. -/
def Obligations.StartupEvents : Prop := ∀ (s : State),
  (let s1 := { s with clock.refOk := false }
   if s.clock.running then
     exec .gatehouseClockLost s = .next (s1.raise srcGatehouseClockLost 0 0)
   else
     exec .gatehouseClockLost s = .next s1) ∧
  (exec (.gatehousePowerUp) s = .next s.powerUp) ∧
  (let t := if s.cmd.dev = .dormant then s else s.coreReset .reset
   exec (.perstAssert) s = .next { t with sec := t.sec.freePins }) ∧
  (∀ (straps : BitVec 8) (railsMv : List Nat) (clockStable : Bool),
     let t := s.perstRise
     if t.cmd.dev == .reset && clockStable && t.railsOk railsMv then
       exec (.coreResetRelease straps railsMv clockStable) s = .next (t.release straps)
     else
       exec (.coreResetRelease straps railsMv clockStable) s = .next t) ∧
  (if s.cmd.dev = .boot ∧ ¬ s.sec.arrayInit then
     exec (.arrayInitDone) s = .next { s with sec.arrayInit := true, tables.scrubBase := s.now }
   else
     exec (.arrayInitDone) s = .next s) ∧
  (∀ (romOk : Bool) (fusesOk : Bool) (leafBurnOk : Bool) (romHash : BitVec 384) (slotA : List Byte) (slotB : List
    Byte),
     if s.cmd.dev ≠ .boot ∨ s.sec.step ≠ .released then
       exec (.bootRomStart romOk fusesOk leafBurnOk romHash slotA slotB) s = .next s
     else if !romOk || !fusesOk then
       exec (.bootRomStart romOk fusesOk leafBurnOk romHash slotA slotB) s = .next (s.haltRom fusesOk)
     else
       let s1 := (s.romReads romHash).romLeaf leafBurnOk
       if s1.sec.bootHost then
         exec (.bootRomStart romOk fusesOk leafBurnOk romHash slotA slotB) s = .next { s1 with sec.step := .waitPush }
       else
         exec (.bootRomStart romOk fusesOk leafBurnOk romHash slotA slotB) s = .next (s1.romFlash slotA slotB)) ∧
  (match s.sec.chosen with
   | some h =>
     if s.cmd.dev = .boot ∧ s.sec.step = .firmware ∧ s.sec.arrayInit then
       exec (.firmwareStart) s = .next ((s.loadFirmware h).firmwareEvents)
     else
       exec (.firmwareStart) s = .next s
   | none =>
     exec (.firmwareStart) s = .next s) ∧
  (∀ (seedHigh : BitVec 64) (seedLow : BitVec 64),
     if s.cmd.dev = .boot ∧ s.sec.step = .ready ∧ ¬ s.sec.fwInit then
       exec (.firmwareInitDone seedHigh seedLow) s = .next
         (({ s.loadParse s.imageProgram with sec.fwInit := true, tables.lpmSeed := seedHigh ++ seedLow }).joinRing)
     else
       exec (.firmwareInitDone seedHigh seedLow) s = .next s) ∧
  (if s.sec.running.isSome && s.sec.topLeaf.isSome && !s.sec.exhausted && !s.sec.treeReady then
     exec (.hssTreeReady) s = .next { s with sec := { s.sec with treeReady := true, lowerLeaf := 0 } }
   else
     exec (.hssTreeReady) s = .next s) ∧
  (∀ (func : Nat) (linkDown : Bool),
     func < 8 →
     let s1 := if linkDown then (List.range 8).foldl (fun s f => s.resetFunction f) s else s.resetFunction func
     exec (.pcieFunctionReset func linkDown) s = .next { s1 with sec.pcieUp := !linkDown && s1.sec.fusesRead }) ∧
  (let t := s.coreReset .reset
   exec (.powerDown) s = .next (State.coolPin { t with faults.thermtripFree := t.faults.thermtripPin }
     s.clock.last.tj))

/-- What every telemetry event does, in each case; the equation gives the whole next state, and with it the frame. -/
def Obligations.TelemetryEvents : Prop := ∀ (s : State),
  (∀ (stream : Nat),
     stream < 4 →
     let x := s.stream stream
     if s.clock.running ∧ x.rcd.en = 1 ∧ s.clock.tick = 0 ∧ s.clock.epoch % 2 ^ x.rcd.intervalExp = 0 ∧
              x.openFrom ≠ s.clock.epoch then
       exec (.streamIntervalClose stream) s = .next (s.closeInterval stream)
     else
       exec (.streamIntervalClose stream) s = .next s) ∧
  (∀ (stream : Nat),
     stream < 4 →
     let x := s.stream stream
     if s.worked ∧ !x.due.isEmpty ∧ x.lastGen ≠ some s.tickStamp then
       exec (.exportPacketGenerate stream) s = .next (s.exportSamples stream)
     else
       exec (.exportPacketGenerate stream) s = .next s) ∧
  (∀ (queue : Nat),
     queue < 9472 →
     match (s.equeue queue).reportDue with
     | (stamp, body) :: rest =>
       if s.worked ∧ stamp < s.tickStamp then
         exec (.queueReportGenerate queue) s = .next ((s.modEqueue queue fun x =>
           { x with reportDue := rest }).generateReport queue stamp body)
       else
         exec (.queueReportGenerate queue) s = .next s
     | [] =>
       exec (.queueReportGenerate queue) s = .next s)

/-- What every twin-link event does, in each case; the equation gives the whole next state, and with it the frame. -/
def Obligations.TwinEvents : Prop := ∀ (s : State),
  (∀ (f : ColHdr) (tagOk : Bool) (cwOk : Bool),
     if !s.clock.running || s.twin.lanes != .up then
       exec (.colonnadeFrameRx f tagOk cwOk) s = .next s
     else if !cwOk then
       exec (.colonnadeFrameRx f tagOk cwOk) s = .next s.ackAgain
     else if f.type = 0 then
       exec (.colonnadeFrameRx f tagOk cwOk) s = .next (s.ackAlone f.ack)
     else if !tagOk then
       exec (.colonnadeFrameRx f tagOk cwOk) s = .next s.tagFailed
     else if f.seq ≠ s.twin.rxSeq then
       exec (.colonnadeFrameRx f tagOk cwOk) s = .next s.ackAgain
     else
       exec (.colonnadeFrameRx f tagOk cwOk) s = .next ((({ s with twin.rxSeq := (s.twin.rxSeq + 1) % 2 ^ 32 }.rxKey
         f.keyNo).bump .colFramesRx 0).takeAck f.ack)) ∧
  (match s.twin.replay.head? with
   | some f =>
     if f.sends ≠ 0 ∧ f.sentAt + clkUs 2 ≤ s.now then
       exec (.colonnadeResend) s = .next s.resend
     else
       exec (.colonnadeResend) s = .next s
   | none =>
     exec (.colonnadeResend) s = .next s) ∧
  (if 2 ^ 31 ≤ s.twin.keyFrames then
     exec (.colonnadeKeyRollover) s = .next (State.moveKey
       { s with twin := { s.twin with keyNo := 1 - s.twin.keyNo, keyFrames := 0, keyMoves := s.twin.keyMoves + 1 } }
             0 (1 - s.twin.keyNo) s.twin.keyMoves)
   else
     exec (.colonnadeKeyRollover) s = .next s) ∧
  (∀ (m : ColHello),
     if !s.clock.running || s.twin.connected || s.twin.role == .none || !s.laLive
               || (s.twin.role == .lead && s.twin.joinStep == 0) then
       exec (.colonnadeHelloRx m) s = .next s
     else
       let s1 := { s with twin.lanes := .up }
       if !m.sigOk || m.idHash != s1.twin.peerId then
         exec (.colonnadeHelloRx m) s = .next (({ s1 with twin.joinStep := 0 }).note srcTwinAuthFailed s1.twin.peer 0)
       else if m.fwMajor ≠ fwMajor s1 then
         exec (.colonnadeHelloRx m) s = .next (({ s1 with twin.joinStep := 0 }).note srcTwinVersionMismatch
           s1.twin.peer 0)
       else if m.compat || s1.power.compat.isSome || helloVersion m == 0 then
         exec (.colonnadeHelloRx m) s = .next { s1 with twin.joinStep := 0 }
       else
         exec (.colonnadeHelloRx m) s = .next (s1.connect (helloVersion m))) ∧
  (∀ (txn : Nat) (opcode : Nat) (value : Option Nat),
     if opcode = 0x0C04 then
       if s.clock.running && s.twin.connected then
         exec (.mirrorRx txn opcode value) s = .next s.detached
       else
         exec (.mirrorRx txn opcode value) s = .next s
     else if s.follows then
       exec (.mirrorRx txn opcode value) s = .next
         { s with cmd.carried := s.cmd.carried ++ [(Origin.colonnade txn, opcode, value)] }
     else
       exec (.mirrorRx txn opcode value) s = .next s) ∧
  (∀ (txn : Nat) (opcode : Nat),
     if s.follows then
       exec (.prepareRx txn opcode) s = .next
         { s with cmd.carried := s.cmd.carried ++ [(Origin.colonnade txn, opcode, none)] }
     else
       exec (.prepareRx txn opcode) s = .next s) ∧
  (∀ (txn : Nat) (status : Nat) (detail : Nat) (epoch : Nat),
     match s.txns.find? fun t => t.txn == txn with
     | none =>
       exec (.ackRx txn status detail epoch) s = .next s
     | some t =>
       match t.epoch with
       | some e =>
         if s.clock.epoch < e then
           exec (.ackRx txn status detail epoch) s = .next (s.dropTxn txn)
         else
           exec (.ackRx txn status detail epoch) s = .next s
       | none =>
         if stOkAdjusted < status then
           exec (.ackRx txn status detail epoch) s = .next (s.failTxn t status)
         else if t.prepared then
           exec (.ackRx txn status detail epoch) s = .next (s.commitTxn t)
         else
           exec (.ackRx txn status detail epoch) s = .next (s.runMirrored t)) ∧
  (∀ (txn : Nat) (epoch : Nat),
     match s.prepared.find? fun t => t.txn == txn with
     | none =>
       exec (.commitRx txn epoch) s = .next s
     | some t =>
       if epoch = 0 then
         exec (.commitRx txn epoch) s = .next (s.dropPrepared t)
       else if s.clock.epoch + 1 < epoch ∨ (s.clock.epoch + 1 = epoch ∧ s.clock.tick ≤ 959) then
         exec (.commitRx txn epoch) s = .next (s.commitPrepared t epoch)
       else
         exec (.commitRx txn epoch) s = .next ((s.dropPrepared t).diverged txn)) ∧
  (∀ (txn : Nat),
     match s.txns.find? fun t => t.txn == txn with
     | none =>
       exec (.twinAckTimeout txn) s = .next s
     | some t =>
       if t.epoch.isSome ∨ s.clock.epoch < t.sentEpoch + 1024 then
         exec (.twinAckTimeout txn) s = .next s
       else
         exec (.twinAckTimeout txn) s = .next (s.failTxn t dtTwinNoAck)) ∧
  (∀ (txn : Nat),
     match s.prepared.find? fun t => t.txn == txn with
     | none =>
       exec (.followCommitDeadline txn) s = .next s
     | some t =>
       if s.clock.epoch < t.sentEpoch + 1 ∨ s.clock.tick < 959 then
         exec (.followCommitDeadline txn) s = .next s
       else
         exec (.followCommitDeadline txn) s = .next ((s.dropPrepared t).diverged txn)) ∧
  (∀ (txn : Nat),
     match s.txns.find? fun t => t.txn == txn with
     | none =>
       exec (.leadCommitAckCheck txn) s = .next s
     | some t =>
       match t.epoch with
       | some e =>
         if s.clock.epoch < e then
           exec (.leadCommitAckCheck txn) s = .next s
         else
           exec (.leadCommitAckCheck txn) s = .next ((s.dropTxn txn).diverged txn)
       | none =>
         exec (.leadCommitAckCheck txn) s = .next s) ∧
  (∀ (role : Nat) (state : Nat) (version : BitVec 48) (lastTxn : Nat),
     if s.twin.connected then
       exec (.heartbeatRx role state version lastTxn) s = .next
         { s with twin := { s.twin with beatSeen := true, missed := 0, beatFrom := s.clock.epoch, peerState := some (role, state, version, lastTxn) } }
     else
       exec (.heartbeatRx role state version lastTxn) s = .next s) ∧
  (if s.twin.connected ∧ s.twin.beatFrom + 64 * (s.twin.missed + 1) ≤ s.clock.epoch then
     let s1 := { s with twin := { s.twin with missed := s.twin.missed + 1, beatSeen := false } }.bump .colHeartbeatMissed 0
     if 3 ≤ s1.twin.missed then
       exec (.heartbeatIntervalMissed) s = .next s1.twinLost
     else
       exec (.heartbeatIntervalMissed) s = .next s1
   else
     exec (.heartbeatIntervalMissed) s = .next s) ∧
  (match s.twin.planeDown.find? fun e => decide (e.2.2 ≤ s.now) with
   | some e =>
     exec (.planeDownFrameSend) s = .next (s.planeDownNext e (s.twin.planeDown.erase e))
   | none =>
     exec (.planeDownFrameSend) s = .next s) ∧
  (∀ (t : TimePair) (m : EpochMark),
     if s.twin.connected then
       let rx := halfNs (s.tdAt 0 (-(t.pcsPs : Int)))
       let s1 := { s with twin.timeRx := rx }
       if s1.twin.role ≠ .follow then
         exec (.twinTimeRx t m) s = .next s1
       else
         let s1 : State := match s1.twin.timeTx with
           | some tx =>
             let there : Int := (rx : Int) - t.leadTx
             let back : Int := (t.leadRx : Int) - tx
             State.steerBy { s1 with twin.pathDelay := there + back } (there - back)
           | none => s1
         if s1.twin.attached ∧ tickFrac < (s1.boundaryError m).natAbs then
           exec (.twinTimeRx t m) s = .next (s1.note srcTwinEpochSlip s1.twin.peer 0)
         else
           exec (.twinTimeRx t m) s = .next s1
     else
       exec (.twinTimeRx t m) s = .next s) ∧
  (∀ (m : EpochMark) (extra : Nat),
     if s.twin.connected ∧ s.twin.role = .follow ∧ (¬ s.twin.attached ∨ s.cmd.dev = .configure) ∧ s.twin.joinStep ≤ 2
       ∧ extra ≤ 1023
               ∧ s.aligns m extra then
       let lead := ((m.epoch : Int) + (s.boundaryAfter m extra + epochFrac / 2) / epochFrac).toNat
       let s1 := { s with twin.attached := false }
       if lead < s1.clock.epoch + 1 then
         exec (.epochAlign m extra) s = .next ((s1.note srcTwinEpochAhead s1.twin.peer 0).joinFailed)
       else
         exec (.epochAlign m extra) s = .next
           { s1 with clock.stretch := extra, twin := { s1.twin with joinStep := 3, joinEpoch := lead } }
     else
       exec (.epochAlign m extra) s = .next s) ∧
  (if !s.twin.connected || s.twin.attached || s.clock.tick != 0 then
     exec (.resyncStart) s = .next s
   else
     match s.twin.role with
     | .lead =>
       if s.twin.joinStep ≠ 2 then
         exec (.resyncStart) s = .next s
       else
         let s1 := { s with twin := { s.twin with joinStep := 4, joinEpoch := s.clock.epoch, frozen := true } }
         let s2 := s1.sendState
         match s2.cmd.running.find? fun r => r.opcode == 0x0C03 with
         | some r =>
           exec (.resyncStart) s = .next (s2.reply r.hdr 0x0C03 stOk 0 (BitVec.ofNat 64 s2.clock.epoch) 0 [])
         | none =>
           exec (.resyncStart) s = .next s2
     | .follow =>
       if s.twin.joinStep ≠ 3 ∨ s.cmd.dev ≠ .configure ∨ s.clock.epoch < s.twin.joinEpoch then
         exec (.resyncStart) s = .next s
       else
         exec (.resyncStart) s = .next
           { s.discardForwarding with cmd.dev := .resync, twin := { s.twin with joinStep := 4, joinEpoch := s.clock.epoch, resyncIn := [] } }
     | .none =>
       exec (.resyncStart) s = .next s) ∧
  (∀ (id : Nat) (payload : List Byte),
     if s.twin.role = .follow ∧ s.twin.joinStep = 4 ∧ s.cmd.dev = .resync then
       let s1 := { s with twin.resyncIn := (id, payload) :: s.twin.resyncIn }
       match Config.resyncItem payload with
       | some i =>
         exec (.resyncRx id payload) s = .next (s1.putItem i)
       | none =>
         exec (.resyncRx id payload) s = .next s1
     else
       exec (.resyncRx id payload) s = .next s) ∧
  (∀ (peer : BitVec 384) (peerConfig : BitVec 384) (peerCount : Nat),
     if !s.twin.connected || s.twin.joinStep != 4 then
       exec (.resyncDigestCompare peer peerConfig peerCount) s = .next s
     else if s.forwardingDigest = peer then
       exec (.resyncDigestCompare peer peerConfig peerCount) s = .next (({ s with twin.joinStep := 5 }).due
         (s.clock.epoch + 1) [] (.resyncEnd peerConfig peerCount))
     else
       exec (.resyncDigestCompare peer peerConfig peerCount) s = .next s.joinFailed) ∧
  (∀ (n : ThrottleNote),
     if s.twin.connected ∧ s.twin.version = 0x201 then
       exec (.twinThrottleRx n) s = .next ({ s with twin.notice := some n }.note srcTwinThrottle s.twin.peer 0)
     else
       exec (.twinThrottleRx n) s = .next s)

/-- What every register, ring and host-interface event does, in each case; the equation gives the whole next state, and with it the frame. -/
def Obligations.RegisterEvents : Prop := ∀ (s : State),
  (∀ (rid : Nat),
     rid < 228 →
     if (s.hring rid).signalDue && s.gapOver rid then
       exec (.msixSignal rid) s = .next (s.signal rid)
     else
       exec (.msixSignal rid) s = .next s) ∧
  (∀ (ring : Nat) (capacity : Nat),
     ring < 64 →
     let r := s.hring (32 + ring)
     if !s.worked || !r.en || r.waiting = 0 then
       exec (.cpuQueueDeliver ring capacity) s = .next s
     else
       match (s.ringQueues ring).findSome? fun c => (s.cpuHead c).map fun h => (c, h) with
       | some (c, cid, x, p) =>
         exec (.cpuQueueDeliver ring capacity) s = .next (s.deliverCpu ring c capacity cid x p)
       | none =>
         exec (.cpuQueueDeliver ring capacity) s = .next s) ∧
  (∀ (ring : Nat) (d : TxDesc),
     ring < 64 →
     let r := s.hring (96 + ring)
     if !s.worked || !r.en || r.waiting ≤ s.txHeld ring || (d.tsReq && !s.tsRoom ring) then
       exec (.txDescriptorFetch ring d) s = .next s
     else if !s.descOk d then
       exec (.txDescriptorFetch ring d) s = .next (s.badDesc ring d)
     else if d.bytes.length ≠ d.len then
       exec (.txDescriptorFetch ring d) s = .next s
     else if d.mode = 0 then
       exec (.txDescriptorFetch ring d) s = .next (s.injectDirect ring d)
     else
       exec (.txDescriptorFetch ring d) s = .next (s.injectPipe ring d)) ∧
  (∀ (pipe : Nat),
     pipe < 64 →
     match s.injectFor pipe with
     | none =>
       exec (.pipeInjectSlot pipe) s = .next s
     | some pid =>
       if s.slotReady pipe && (s.injectDue pipe || !(s.lineReady pipe || s.cloisterWaits pipe)) then
         let s1 := { s with pk := { s.pk with injectQ := s.pk.injectQ.filter (· != pid) } }
         let s2 := s1.carry pipe
         let s3 := (s2.putSlotNo pipe ((s2.slotNo pipe).1, (s2.slotNo pipe).1)).modPktD pid fun p =>
           { p with pipe := pipe, version := s2.rules.current, counted := true, entered := s2.tickStamp }
         exec (.pipeInjectSlot pipe) s = .next ((s3.modInFlight s3.rules.current.toNat (· + 1)).parsePkt pid)
       else
         exec (.pipeInjectSlot pipe) s = .next s) ∧
  (∀ (h : Hdr) (opcode : Nat),
     match h.origin with
     | .host .. =>
       exec (.commandFetch h opcode) s = .next ((s.fetch h opcode).orUndefined h opcode)
     | _ =>
       exec (.commandFetch h opcode) s = .next s) ∧
  (∀ (id : Nat),
     match s.cmd.relays.find? fun r => r.id == id with
     | none =>
       exec (.relayTimeout id) s = .next s
     | some r =>
       if s.now < r.sentAt + clkMs 100 then
         exec (.relayTimeout id) s = .next s
       else
         exec (.relayTimeout id) s = .next (({ s with cmd.relays := s.cmd.relays.filter fun x => x.id != id }).answer
           r.hdr r.opcode none stInternal
                   dtTargetTimeout 0 0 [])) ∧
  (∀ (west : Bool) (f : RingFrame),
     if !s.clock.running then
       exec (.ringFrameRx west f) s = .next s
     else
       let s1 := s.hopAcked west
       if f.hops = 0 then
         exec (.ringFrameRx west f) s = .next (s1.bump .ringTtlDrop (sideNo west))
       else
         let s2 := if f.dest = s1.sec.deviceId ∨ f.dest = 0xFF then s1.joinSegment f else s1
         if f.dest = s2.sec.deviceId ∨ f.src = s2.sec.deviceId then
           exec (.ringFrameRx west f) s = .next s2
         else
           exec (.ringFrameRx west f) s = .next (s2.relayFrame (!west) { f with hops := f.hops - 1 })) ∧
  (∀ (src : Nat) (h : Hdr) (opcode : Nat),
     if s.clock.running ∧ ¬ s.ring.excluded ∧ h.target = s.sec.deviceId ∧ h.origin = .slait src then
       exec (.relayedCommandRx src h opcode) s = .next
         (({ s with cmd.carried := s.cmd.carried ++ [(Origin.slait src, opcode, none)] }).orUndefined h opcode)
     else
       exec (.relayedCommandRx src h opcode) s = .next s) ∧
  (∀ (id : Nat) (status : Nat) (rest : ReplyRest) (result : BitVec 64) (addr : BitVec 64),
     match s.cmd.relays.find? fun r => r.id == id with
     | none =>
       exec (.ringReplyRx id status rest result addr) s = .next s
     | some r =>
       let s1 := { s with cmd.relays := s.cmd.relays.filter fun x => x.id != id }
       exec (.ringReplyRx id status rest result addr) s = .next (s1.sendReply r.hdr
         { s1.mkReply r.hdr r.opcode status rest.detail result addr (valuesOf r.opcode rest.result) with device := r.hdr.target, logged := addr, status := status, detail := rest.detail, state := rest.state, resultLen := rest.result.length })) ∧
  (∀ (dev : Nat) (ring : Nat) (record : BitVec 256),
     ring < 4 →
     if s.sec.pcieUp && s.clock.running then
       let e := { recordOf ring dev record with clock := s.clock.k }
       exec (.ringEventRx dev ring record) s = .next ((s.writeEvent ring e false).remoteBreak dev e.source e.inst)
     else
       exec (.ringEventRx dev ring record) s = .next s) ∧
  (∀ (src : Nat) (n : ThrottleNote),
     if s.clock.running then
       exec (.ringThrottleRx src n) s = .next
         ({ s with ring.notices := (s.ring.notices.filter fun (e : Nat × ThrottleNote) => e.1 != src) ++ [(src, n)] }.note srcRingPeerThrottle src 0)
     else
       exec (.ringThrottleRx src n) s = .next s) ∧
  (∀ (src : Nat) (west : Bool) (hops : Nat),
     if !s.clock.running then
       exec (.ringEnumRx src west hops) s = .next s
     else
       let s1 := (s.ringSend src 6 (EnumReply_bytes (s.enumReply west hops))).draw
       let s2 := { s1 with ring := if west then { s1.ring with hopsEast := some hops } else { s1.ring with hopsWest := some hops } }
       if s2.isRoot && !s2.ring.excluded then
         exec (.ringEnumRx src west hops) s = .next (({ s2 with ring.excluded := true }).note srcRingDuplicateId
           s2.sec.deviceId 0)
       else if s2.isRoot then
         exec (.ringEnumRx src west hops) s = .next s2
       else
         exec (.ringEnumRx src west hops) s = .next { s2 with ring.root := some src }) ∧
  (∀ (replies : List EnumReply),
     if !s.clock.running then
       exec (.ringEnumReplyRx replies) s = .next s
     else if s.isRoot then
       let other := replies.any fun r => r.root && r.id != s.sec.deviceId
       exec (.ringEnumReplyRx replies) s = .next (State.answerEnumerate
         { s.newMap replies with ring.excluded := s.ring.excluded && other })
     else
       let own := replies.find? fun r => r.id == s.sec.deviceId && r.idHash == Config.identityHash
       let other := replies.find? fun r => r.id == s.sec.deviceId && r.idHash != Config.identityHash
       match own, other with
       | some a, some b =>
         if b.east < a.east ∧ ¬ s.ring.excluded then
           exec (.ringEnumReplyRx replies) s = .next (({ s with ring.excluded := true }).note srcRingDuplicateId
             s.sec.deviceId 0)
         else
           exec (.ringEnumReplyRx replies) s = .next s
       | _, _ =>
         exec (.ringEnumReplyRx replies) s = .next { s with ring.excluded := false }) ∧
  (∀ (src : Nat),
     if s.clock.running then
       exec (.ringJoinRx src) s = .next s.enumSoon
     else
       exec (.ringJoinRx src) s = .next s) ∧
  (if s.clock.running && s.isRoot && (s.ring.enumDue.isSome || decide (s.ring.enumEpoch + 2 ^ 20 ≤ s.clock.epoch))
    then
     exec (.ringEnumeratePeriod) s = .next s.enumerate
   else
     exec (.ringEnumeratePeriod) s = .next s) ∧
  (∀ (west : Bool),
     if !s.clock.running || !s.ringUp west then
       exec (.ringBreak west) s = .next s
     else
       let s1 := { s with ring := if west then { s.ring with brokenWest := true, downWest := false } else { s.ring with brokenEast := true, downEast := false } }
       let turn := s1.ring.unacked.filter fun u => u.west == west
       let s2 := { s1 with ring.unacked := s1.ring.unacked.filter fun u => u.west != west }
       let s3 := turn.foldl (fun s2 u => s2.ringOutHeld (!west) u.frame u.held) s2
       exec (.ringBreak west) s = .next ((s3.note srcRingBreak (sideNo west) 0).enumSoon)) ∧
  (∀ (west : Bool),
     if !s.clock.running || s.ringUp west then
       exec (.ringRestored west) s = .next s
     else
       let s1 := { s with ring := if west then { s.ring with brokenWest := false } else { s.ring with brokenEast := false } }
       exec (.ringRestored west) s = .next ((s1.note srcRingRestored (sideNo west) 0).enumSoon)) ∧
  (∀ (func : Nat) (rid : Nat) (value : Nat),
     (decide (rid < 228) && decide (func < 8)) = true →
     if !s.clock.running then
       exec (.ringDoorbellWrite func rid value) s = .next s
     else if s.reaches func rid then
       exec (.ringDoorbellWrite func rid value) s = .next ((s.accessBy func).ringDoorbell rid (value % 65536))
     else
       exec (.ringDoorbellWrite func rid value) s = .next ((s.accessBy func).violate 4 func 4 (doorbellOffset rid)
         true)) ∧
  (∀ (func : Nat) (rid : Nat) (value : BitVec 64),
     (decide (rid < 228) && decide (func < 8)) = true →
     if s.clock.running then
       exec (.ringControlWrite func rid value) s = .next (s.ringControl func rid value 8)
     else
       exec (.ringControlWrite func rid value) s = .next s) ∧
  (∀ (group : Nat) (mask : BitVec 32) (raisedSameClock : BitVec 32),
     group < 32 →
     exec (.eventStatusW1c group mask raisedSameClock) s = .next (s.clearStatus group mask (raisedSameClock |||
       s.raisedNow group))) ∧
  (∀ (func : Nat) (mask : BitVec 16),
     func < 8 →
     if s.clock.running then
       exec (.tableLockReleaseWrite func mask) s = .next ((s.accessBy func).releaseLocks func mask)
     else
       exec (.tableLockReleaseWrite func mask) s = .next s) ∧
  (∀ (value : BitVec 64),
     if s.clock.running then
       exec (.turnstileTicketsWrite value) s = .next { s with tables.tickets := ticketsClean value }
     else
       exec (.turnstileTicketsWrite value) s = .next s) ∧
  (∀ (mask : BitVec 8),
     if s.clock.running then
       exec (.turnstileStarvedW1c mask) s = .next (s.clearStarved mask)
     else
       exec (.turnstileStarvedW1c mask) s = .next s) ∧
  (∀ (value : BitVec 32),
     let n := s.time.snap
     let t := { s with time.snap := { n with ppsPin := fld value 3 2, ppsEn := bit value 1, dueWrite := n.dueWrite || bit value 0 } }
     if bit value 0 && s.now % 64 == 0 then
       exec (.snapTrigger value) s = .next (t.capture t.clock)
     else
       exec (.snapTrigger value) s = .next t) ∧
  (∀ (value : BitVec 32),
     exec (.perfFreezeWrite value) s = .next { s with tel.freeze := bit value 0 }) ∧
  (∀ (value : BitVec 64),
     if bit value 63 then
       exec (.firstErrorValidW1c value) s = .next s.clearFirst
     else
       exec (.firstErrorValidW1c value) s = .next s) ∧
  (∀ (func : Nat) (r : BarRead),
     let offset := r.offset
     func < 8 →
     if !s.clock.running then
       exec (.counterLowHalfRead func r) s = .next s
     else
       let old := s.latch func
       let s1 := s.accessBy func
       match s1.badAccess offset (barWidth r) with
       | some k =>
         exec (.counterLowHalfRead func r) s = .next (s1.violate k func (barWidth r) (offset % 2 ^ 26) false)
       | none =>
         let o := offset - offset % 8
         match regAt o with
         | none =>
           exec (.counterLowHalfRead func r) s = .next s1
         | some x =>
           if (match x.ring with | some rid => !s1.reaches func rid | none => false) then
             exec (.counterLowHalfRead func r) s = .next (s1.violate 4 func (barWidth r) offset false)
           else
             let v := (s1.regWord o x).toNat
             let t := s1.readDone offset (barWidth r) (if r.wide then v else readHalf v old offset)
             if offset % 8 = 0 ∧ !r.wide ∧ (s1.counterAt o).isSome then
               exec (.counterLowHalfRead func r) s = .next (t.putLatch func (some
                 { offset := offset, high := v / 2 ^ 32 % 2 ^ 32 }))
             else
               exec (.counterLowHalfRead func r) s = .next t) ∧
  (∀ (kind : Nat) (func : Nat) (width : Nat) (offset : Nat) (write : Bool),
     func < 8 →
     if s.clock.running && decide (1 ≤ kind) && decide (kind ≤ 7) then
       exec (.bar0Violation kind func width offset write) s = .next ((s.accessBy func).violate kind func width
         (offset % 2 ^ 26) write)
     else
       exec (.bar0Violation kind func width offset write) s = .next s) ∧
  (∀ (func : Nat) (offset : Nat) (width : Nat) (value : BitVec 64),
     func < 8 →
     if !s.clock.running then
       exec (.registerWrite func offset width value) s = .next s
     else
       let s1 := s.accessBy func
       match s1.badAccess offset width with
       | some k =>
         exec (.registerWrite func offset width value) s = .next (s1.violate k func width (offset % 2 ^ 26) true)
       | none =>
         match regAt (offset - offset % 8) with
         | some r =>
           exec (.registerWrite func offset width value) s = .next ((List.range (width / 4)).foldl (fun s1 i => if
             clearsPoison r width then s1.wordWritten (faultAddr 13 0 (offset + 4 * i)) else s1)
                        (s1.storeReg func offset width value r))
         | none =>
           exec (.registerWrite func offset width value) s = .next s1) ∧
  (∀ (code : Nat),
     exec (.smbusBlockRead code) s = .next
       { s with cmd.out.smbus := s.smbusBytes code :: s.cmd.out.smbus, freeCtr := s.freeCtr + 1 }) ∧
  (∀ (instr : Nat),
     if instr < 3 ∨ ¬ s.sec.perstHigh then
       exec (.jtagInstruction instr) s = .next { s with sec.jtag := instr, sec.jtagHeld := none }
     else
       exec (.jtagInstruction instr) s = .next { s with sec.jtag := 0, sec.jtagHeld := some instr }) ∧
  (∀ (west : Bool),
     let l := s.ring.unacked.filter fun u => u.west == west && u.sends != 0
     if l.isEmpty || s.ringLost west then
       exec (.ringHopResend west) s = .next s
     else if l.any fun u => decide (16 ≤ u.sends) then
       exec (.ringHopResend west) s = .next
         { s with ring := if west then { s.ring with downWest := true } else { s.ring with downEast := true } }
     else
       let again := fun (u : RingOut) => if u.west == west && u.sends != 0 then { u with sends := u.sends + 1 } else u
       let s1 := State.bumpBy { s with ring.sent := (l.map again).reverse ++ s.ring.sent, ring.unacked := s.ring.unacked.map again } .ringRetries (sideNo west) l.length
       if s1.ring.retryEpoch = some s1.clock.epoch then
         exec (.ringHopResend west) s = .next s1
       else
         exec (.ringHopResend west) s = .next (({ s1 with ring.retryEpoch := some s1.clock.epoch }).note srcRingRetry
           (sideNo west) 0))

/-- What every unit-fault event does, in each case; the equation gives the whole next state, and with it the frame. -/
def Obligations.FaultEvents : Prop := ∀ (s : State),
  (∀ (store : Nat) (bank : Nat) (found : EccErr),
     bank < numBanks store →
     match s.faults.spareJobs.find? fun j => j.store == store && j.bank == bank && j.switchAt.isNone with
     | some j =>
       if s.maintClock && s.grantedAt (bankKey store bank) != some s.now && (s.backFor store bank).isNone then
         exec (.bankSpareCopy store bank found) s = .next (s.copyUnit j found)
       else
         exec (.bankSpareCopy store bank found) s = .next s
     | none =>
       exec (.bankSpareCopy store bank found) s = .next s) ∧
  (∀ (part : Nat) (bank : Nat),
     (decide (part < 16) && decide (bank < 32)) = true →
     match s.partBank (part * 32 + bank) with
     | .detached e =>
       if e < s.clock.epoch ∧ s.clock.tick = 0 ∧ s.bankEmpty part bank = true then
         exec (.partitionBankDrained part bank) s = .next ((s.putPartBank (part * 32 + bank) .retired).note
           srcPartitionBankRetired (part * 32 + bank) 0)
       else
         exec (.partitionBankDrained part bank) s = .next s
     | _ =>
       exec (.partitionBankDrained part bank) s = .next s) ∧
  (∀ (source : Nat) (inst : Nat) (detail : BitVec 64),
     srcAssigned source = true →
     if source / 32 = 12 then
       exec (.faultRaise source inst detail) s = .next (s.eccRead (source % 32) inst detail .corrected)
     else if source / 32 = 13 then
       exec (.faultRaise source inst detail) s = .next (s.uncorrectable (source % 32) inst detail)
     else if (source = srcLaneCdrUnlock ∨ source = srcLaneAmLoss ∨ source = srcLaneBringupTimeout)
              ∧ 1 ≤ (s.lane inst).st.code ∧ (s.lane inst).st.code ≤ 8 ∧ inst < 1024 then
       exec (.faultRaise source inst detail) s = .next (s.laneErrorAs inst source detail)
     else if source = srcCellStatePoison then
       exec (.faultRaise source inst detail) s = .next ((s.quarantine (fld detail 19 0)).raise source (cellPart (fld
         detail 19 0)) detail)
     else if source = srcFreeListRebuild then
       exec (.faultRaise source inst detail) s = .next ((s.startRebuild (inst % 16) (cellBank (fld detail 31 0 /
         32))).raise source inst detail)
     else if source = srcArmCsUe ∨ source = srcArmRegUe then
       exec (.faultRaise source inst detail) s = .next ((if source = srcArmCsUe then
         { s with arm.storePoison := fld detail 31 0 :: s.arm.storePoison } else s).engineError
                (inst % 4) source detail)
     else
       exec (.faultRaise source inst detail) s = .next (s.raise source inst detail)) ∧
  (∀ (source : Nat) (inst : Nat),
     srcAssigned source = true →
     let f := s.faultInst (instKey source inst)
     if srcPerm source && source / 32 != 1 && decide (f.lastCounted + clkS (s.react source).clearS ≤ s.now) then
       exec (.permanenceClear source inst) s = .next (s.clearPermanence source inst)
     else
       exec (.permanenceClear source inst) s = .next s) ∧
  (∀ (source : Nat) (inst : Nat),
     srcAssigned source = true →
     if s.masked source || !railed source then
       exec (.wireFault source inst) s = .next s
     else
       exec (.wireFault source inst) s = .next ((((s.bump .wireFaults source).raiseBase source (max 2 (srcSeverity
         source)) inst 0 true false 0).putMasked source
                true).putMaskedAt source s.now)) ∧
  (∀ (source : Nat),
     srcAssigned source = true →
     if s.masked source && decide (s.maskedAt source + 1024 ≤ s.now) then
       exec (.wireUnmask source) s = .next ((s.putMasked source false).putMaskedAt source 0)
     else
       exec (.wireUnmask source) s = .next s) ∧
  (∀ (addr : BitVec 64),
     if !s.clock.running || !(s.faults.writeBacks.contains addr || s.faults.markers.contains addr) then
       exec (.eccWriteBack addr) s = .next s
     else
       match bankOfAddr addr with
       | some (store, bank) =>
         if s.worked && s.clockFree store bank s.clock.k && s.grantedAt (bankKey store bank) != some s.now then
           exec (.eccWriteBack addr) s = .next ((s.useClock store bank s.clock.k).writeBack addr)
         else
           exec (.eccWriteBack addr) s = .next s
       | none =>
         match partOfAddr addr with
         | some n =>
           let p := cellPart n
           if s.worked && decide (0 < s.cyclesLeft p (cellBank n)) && !s.stageAOpen && !s.stageBOpen p && !s.zeroOpen
             p
                         && !s.freesOpen p then
             exec (.eccWriteBack addr) s = .next ((s.useCellCycle n).writeBack addr)
           else
             exec (.eccWriteBack addr) s = .next s
         | none =>
           exec (.eccWriteBack addr) s = .next (s.writeBack addr)) ∧
  (∀ (replica : Nat) (index : Nat) (found : EccErr),
     (decide (replica < 8) && decide (index < 18688)) = true →
     if s.clock.running then
       exec (.backgroundPortRead replica index found) s = .next ((s.putBgPos replica ((index + 1) % 18688)).eccRead 7
         replica (bgAddr replica index) found)
     else
       exec (.backgroundPortRead replica index found) s = .next s)

/-- What every table-upkeep, staging, Armature and group event does, in each case; the equation gives the whole next state, and with it the frame. -/
def Obligations.UpkeepEvents : Prop := ∀ (s : State),
  (if s.maintClock && s.rules.lastLand != some s.now then
     match s.nextClass with
     | none =>
       exec (.ruleWriteLand) s = .next s
     | some c =>
       match (s.writesOf c).head? with
       | none =>
         exec (.ruleWriteLand) s = .next s
       | some w =>
         exec (.ruleWriteLand) s = .next
           ({ s with rules.stream := takeFirst c s.rules.stream, rules.lastLand := some s.now }.landWrite w)
   else
     exec (.ruleWriteLand) s = .next s) ∧
  (match s.rules.held, s.rules.staged with
   | some c, some v =>
     if s.stagingLeft then
       exec (.maquetteCommitAccept) s = .next s
     else
       match c.hdr.origin with
       | .colonnade txn =>
         let s1 := { s with rules.held := none, rules.groupSeal := true }
         let dg := s1.heldDigest c.hdr 0x0502
         exec (.maquetteCommitAccept) s = .next
           (({ s1 with cmd.running := s1.cmd.running.eraseP fun r => r.hdr == c.hdr && r.opcode == 0x0502 }).prepareTxn c.hdr
                   0x0502 txn (.maquetteCommit c.target) c.target.epoch [objRules] [.version v] dg)
       | _ =>
         if s.twinned c.hdr then
           exec (.maquetteCommitAccept) s = .next ({ s with rules.held := none, rules.groupSeal := true }.sendTxn
             c.hdr 0x0502 none (.maquetteCommit c.target) true
                       c.target.epoch [objRules] [.version v])
         else
           exec (.maquetteCommitAccept) s = .next (s.acceptCommit c v)
   | _, _ =>
     exec (.maquetteCommitAccept) s = .next s) ∧
  (∀ (store : Nat) (bank : Nat) (writeBack : Bool),
     bank < numBanks store →
     if !s.maintClock || s.grantedAt (bankKey store bank) == some s.now then
       exec (.turnstileGrant store bank writeBack) s = .next s
     else
       match s.backFor store bank with
       | some a =>
         if writeBack then
           exec (.turnstileGrant store bank writeBack) s = .next ((s.writeBack a).putGrantedAt (bankKey store bank)
             (some s.now))
         else
           exec (.turnstileGrant store bank writeBack) s = .next s
       | none =>
         if writeBack || s.copying store bank then
           exec (.turnstileGrant store bank writeBack) s = .next s
         else
           exec (.turnstileGrant store bank writeBack) s = .next (s.grant store bank)) ∧
  (∀ (table : Nat),
     table < 32 →
     if s.maintClock && s.stashAt table != some s.now then
       match s.nextStash table with
       | none =>
         exec (.stashWrite table) s = .next s
       | some w =>
         exec (.stashWrite table) s = .next
           (({ s with tables := { s.tables with stashWrites := s.tables.stashWrites.erase w, stashAt := s.tables.stashAt.set none table (some s.now) } }.landStashOp w).stashLevel table)
     else
       exec (.stashWrite table) s = .next s) ∧
  (∀ (table : Nat),
     table < 32 →
     if 0 < s.stashUsed table ∧ (s.table table).reinsertAt + reinsertPeriod ≤ s.clock.epoch then
       exec (.stashReinsertPeriod table) s = .next ((s.modTable table fun d =>
         { d with reinsertAt := s.clock.epoch }).placeJob (.reinsert table) none)
     else
       exec (.stashReinsertPeriod table) s = .next s) ∧
  (∀ (table : Nat),
     table < 32 →
     if s.passDue table then
       let t := s.modTable table fun d => { d with passAt := some s.clock.epoch }
       if t.patinaBusy table then
         if (t.table table).passLate then
           exec (.patinaPassStart table) s = .next t
         else
           exec (.patinaPassStart table) s = .next ((t.modTable table fun d => { d with passLate := true }).note
             srcPatinaLate table 0)
       else
         exec (.patinaPassStart table) s = .next (t.startPass table)
     else
       exec (.patinaPassStart table) s = .next s) ∧
  (if s.clock.running && !s.armFenced then
     exec (.learnService) s = .next (s.tables.learnQ.foldl (fun t r => t.serveLearn r) s)
   else
     exec (.learnService) s = .next s) ∧
  (∀ (store : Nat) (bank : Nat) (found : EccErr),
     (decide (bank < numBanks store) || (store == 3 && decide (bank < 32))) = true →
     let k := bankKey store bank
     if store = 3 then
       if s.maintClock && decide (s.tables.scrubBase + s.scrubFrom k + s.scrubPos k * s.scrubClocks / 64 ≤ s.now) then
         exec (.scrubRead store bank found) s = .next (s.compareStash bank found)
       else
         exec (.scrubRead store bank found) s = .next s
     else
       let s1 := s.scrubLate store bank
       if s1.clock.running && !s1.scrubWaits store bank &&
                decide (s1.tables.scrubBase + s1.scrubFrom k + s1.scrubPos k % 1024 * s1.scrubClocks / 1024 ≤ s1.now)
                  then
         exec (.scrubRead store bank found) s = .next (s1.request store bank 5 (.scrub found))
       else
         exec (.scrubRead store bank found) s = .next s1) ∧
  (∀ (lock : Nat),
     lock < 16 →
     if (s.lock lock).valid ∧ (s.lock lock).leaseEnd ≤ s.clock.epoch then
       exec (.lockExpired lock) s = .next ((s.freeLock lock).note srcLockExpired lock 0)
     else
       exec (.lockExpired lock) s = .next s) ∧
  (∀ (engine : Nat),
     engine < 4 →
     match (s.engine engine).queue with
     | [] =>
       exec (.armJobStart engine) s = .next s
     | j :: rest =>
       let x := s.engine engine
       if s.clock.running && !x.fenced && !x.fenceDue && x.job.isNone && s.arm.quiescing.isNone && decide (j.placedAt
         < s.tickStamp) then
         let j := { j with restartLimit := s.arm.restartLimit, liveLimit := s.arm.liveLimit }
         let t := s.modEngine engine fun x => { x with job := some j, queue := rest, regs := loadParams x.regs j.work }
         exec (.armJobStart engine) s = .next (((t.enterRoutine engine).bump .armJobs engine).refill)
       else
         exec (.armJobStart engine) s = .next s) ∧
  (∀ (engine : Nat) (found : EccErr),
     engine < 4 →
     match (s.engine engine).job with
     | some j =>
       if s.wordReady engine then
         exec (.microwordExecute engine found) s = .next (s.fetchWord engine j found)
       else
         exec (.microwordExecute engine found) s = .next s
     | none =>
       exec (.microwordExecute engine found) s = .next s) ∧
  (∀ (engine : Nat),
     engine < 4 →
     let x := s.engine engine
     if x.job.isSome && x.waiting == 1 then
       let t := s.modEngine engine fun x => { x with waiting := 0, refused := false, ended := x.ended && (x.committed || !x.refused) }
       if x.refused then
         exec (.armMemComplete engine) s = .next (t.abandon engine 1)
       else
         exec (.armMemComplete engine) s = .next t
     else
       exec (.armMemComplete engine) s = .next s) ∧
  (∀ (engine : Nat),
     engine < 4 →
     let x := s.engine engine
     if x.job.isSome && x.ended && decide (x.waiting ≤ 1) && (x.committed || !x.refused) then
       exec (.routineEnd engine) s = .next (((s.idleEngine engine).lateError engine x.late).refill)
     else
       exec (.routineEnd engine) s = .next s) ∧
  (match s.arm.quiescing, s.arm.staged with
   | some q, some p =>
     if s.armIdle then
       exec (.armPatchQuiesced) s = .next (((s.applyPatch p).note srcArmPatchActivated 0 (BitVec.ofNat 64
         p.level)).reply q.1 0x0D41 stOk 0
                 (BitVec.ofNat 64 p.level) 0 [])
     else
       exec (.armPatchQuiesced) s = .next s
   | _, _ =>
     exec (.armPatchQuiesced) s = .next s) ∧
  (match s.arm.quiescing with
   | some q =>
     if !s.armIdle && decide (q.2 + 1024 ≤ s.clock.epoch) then
       exec (.armPatchActivateTimeout) s = .next ({ s with arm.quiescing := none }.refuseHeld q.1 0x0D41 stBusy 0)
     else
       exec (.armPatchActivateTimeout) s = .next s
   | none =>
     exec (.armPatchActivateTimeout) s = .next s) ∧
  (match s.group.bind fun g => g.commit.map fun c => (g, c) with
   | none =>
     exec (.groupPrepared) s = .next s
   | some (g, h, target, _) =>
     if s.groupAtTwin h then
       exec (.groupPrepared) s = .next s
     else
       match g.failed, s.cannotPrepare g with
       | some f, _ =>
         exec (.groupPrepared) s = .next (s.failGroup g h f.1 f.2 (0, 0))
       | none, some i =>
         exec (.groupPrepared) s = .next (s.failGroup g h i stBusy (0, 0))
       | none, none =>
         if s.groupReady g then
           exec (.groupPrepared) s = .next (s.preparedGroup g h target)
         else
           exec (.groupPrepared) s = .next s) ∧
  (match s.group.bind fun g => g.commit.map fun c => (g, c) with
   | none =>
     exec (.groupPrepareTimeout) s = .next s
   | some (g, h, _, e) =>
     if s.groupAtTwin h || s.groupReady g || decide (s.clock.epoch < e + 1024) then
       exec (.groupPrepareTimeout) s = .next s
     else
       exec (.groupPrepareTimeout) s = .next (s.failGroup g h ((versionPart g).getD 0) stBusy s.unprepared)) ∧
  (match s.group with
   | none =>
     exec (.groupAbandoned) s = .next s
   | some g =>
     match s.illegalPart g with
     | some i =>
       exec (.groupAbandoned) s = .next (s.abandonGroup g i)
     | none =>
       if g.commit.isNone && s.groupLost g then
         exec (.groupAbandoned) s = .next (s.abandonGroup g 0)
       else
         exec (.groupAbandoned) s = .next s)

/-! ## Where the start-up and host-interface events complete -/

/-- Where each start-up event completes, and with what effect: hypotheses on the state and the operands alone, the event's own effect as the next state. -/
def Obligations.StartupCompletes : Prop := ∀ (s : State),
  (s.clock.running = true →
    exec .gatehouseClockLost s = .next (State.raise { s with clock.refOk := false } srcGatehouseClockLost 0 0)) ∧
  (∃ t, exec .gatehousePowerUp s = .next t ∧ t = s.powerUp) ∧
  (s.cmd.dev ≠ .dormant →
    exec .perstAssert s = .next { s.coreReset .reset with sec := (s.coreReset .reset).sec.freePins }) ∧
  (∀ (straps : BitVec 8) (railsMv : List Nat), s.perstRise.cmd.dev = .reset → s.perstRise.railsOk railsMv = true →
    exec (.coreResetRelease straps railsMv true) s = .next (s.perstRise.release straps)) ∧
  (s.cmd.dev = .boot → s.sec.arrayInit = false →
    exec .arrayInitDone s = .next { s with sec.arrayInit := true, tables.scrubBase := s.now }) ∧
  (∀ (leafBurnOk : Bool) (romHash : BitVec 384) (slotA slotB : List Byte), s.cmd.dev = .boot → s.sec.step = .released →
    let t := (s.romReads romHash).romLeaf leafBurnOk
    (t.sec.bootHost = true →
      exec (.bootRomStart true true leafBurnOk romHash slotA slotB) s = .next { t with sec.step := .waitPush }) ∧
    (t.sec.bootHost = false →
      exec (.bootRomStart true true leafBurnOk romHash slotA slotB) s = .next (t.romFlash slotA slotB))) ∧
  (∀ h : ImageHdr, s.sec.chosen = some h → s.cmd.dev = .boot → s.sec.step = .firmware → s.sec.arrayInit = true →
    exec .firmwareStart s = .next (s.loadFirmware h).firmwareEvents) ∧
  (∀ seedHigh seedLow : BitVec 64, s.cmd.dev = .boot → s.sec.step = .ready → s.sec.fwInit = false →
    exec (.firmwareInitDone seedHigh seedLow) s = .next
      (State.joinRing { s.loadParse s.imageProgram with sec.fwInit := true, tables.lpmSeed := seedHigh ++ seedLow })) ∧
  (s.sec.running.isSome = true → s.sec.topLeaf.isSome = true → s.sec.exhausted = false → s.sec.treeReady = false →
    exec .hssTreeReady s = .next { s with sec := { s.sec with treeReady := true, lowerLeaf := 0 } }) ∧
  (∀ (func : Nat) (linkDown : Bool), func < 8 →
    let one (s : State) (f : Nat) : State := (((s.funcRings f).foldl (fun s r => (s.disableRing r).putHring r (Ring.init r)) s).loseOwner
      (some f) none).putLatch f none
    let t := if linkDown then (List.range 8).foldl one s else one s func
    exec (.pcieFunctionReset func linkDown) s = .next { t with sec.pcieUp := !linkDown && t.sec.fusesRead }) ∧
  (let t := s.coreReset .reset
   let free := s.faults.thermtripPin && decide (s.clock.last.tj < 100)
   exec .powerDown s = .next { t with faults := { t.faults with
     thermtripPin := s.faults.thermtripPin && !free, thermtripFree := s.faults.thermtripPin && !free } })

/-- With the core's clock running, where each register, ring and host-interface event completes, and with what effect: hypotheses on the state and the operands alone, the event's own effect as the next state. -/
def Obligations.HostInterfaceCompletes : Prop := ∀ (s : State), s.clock.running = true →
  (∀ rid, rid < 228 → (s.hring rid).signalDue = true → s.gapOver rid = true →
    exec (.msixSignal rid) s = .next (s.signal rid)) ∧
  (∀ ring capacity c cid x p, ring < 64 → s.worked = true → (s.hring (32 + ring)).en = true →
    (s.hring (32 + ring)).waiting ≠ 0 →
    ((s.ringQueues ring).findSome? fun c => (s.cpuHead c).map fun h => (c, h)) = some (c, cid, x, p) →
    exec (.cpuQueueDeliver ring capacity) s = .next (s.deliverCpu ring c capacity cid x p)) ∧
  (∀ ring (d : TxDesc), ring < 64 → s.worked = true → (s.hring (96 + ring)).en = true →
    s.txHeld ring < (s.hring (96 + ring)).waiting → (d.tsReq = true → s.tsRoom ring = true) → s.descOk d = true →
    d.bytes.length = d.len →
    (d.mode = 0 → exec (.txDescriptorFetch ring d) s = .next (s.injectDirect ring d)) ∧
    (d.mode ≠ 0 → exec (.txDescriptorFetch ring d) s = .next (s.injectPipe ring d))) ∧
  (∀ pipe pid, pipe < 64 → s.slotReady pipe = true → s.injectFor pipe = some pid →
    (s.injectDue pipe = true ∨ (s.lineReady pipe = false ∧ s.cloisterWaits pipe = false)) →
    let s1 := State.carry { s with pk := { s.pk with injectQ := s.pk.injectQ.filter (· != pid) } } pipe
    let s2 := (s1.putSlotNo pipe ((s1.slotNo pipe).1, (s1.slotNo pipe).1)).modPktD pid fun p =>
      { p with pipe := pipe, version := s1.rules.current, counted := true, entered := s1.tickStamp }
    exec (.pipeInjectSlot pipe) s = .next ((s2.modInFlight s2.rules.current.toNat (· + 1)).parsePkt pid)) ∧
  (∀ (h : Hdr) (op r f e : Nat), h.origin = .host r f e →
    exec (.commandFetch h op) s = .next ((s.fetch h op).orUndefined h op)) ∧
  (∀ id (r : Relay), (s.cmd.relays.find? fun r => r.id == id) = some r → r.sentAt + clkMs 100 ≤ s.now →
    exec (.relayTimeout id) s = .next (State.answer { s with cmd.relays := s.cmd.relays.filter fun x => x.id != id }
      r.hdr r.opcode none stInternal dtTargetTimeout 0 0 [])) ∧
  (∀ west (f : RingFrame), 0 < f.hops → f.dest ≠ s.sec.deviceId → f.dest ≠ 0xFF → f.src ≠ s.sec.deviceId →
    (s.hopAcked west).sec = s.sec →
    exec (.ringFrameRx west f) s = .next ((s.hopAcked west).relayFrame (!west) { f with hops := f.hops - 1 })) ∧
  (∀ src (h : Hdr) op, s.ring.excluded = false → h.target = s.sec.deviceId → h.origin = .slait src →
    exec (.relayedCommandRx src h op) s = .next
      (State.orUndefined { s with cmd.carried := s.cmd.carried ++ [(Origin.slait src, op, none)] } h op)) ∧
  (∀ id status (rest : ReplyRest) (result addr : BitVec 64) (r : Relay),
    (s.cmd.relays.find? fun r => r.id == id) = some r →
    let s1 := { s with cmd.relays := s.cmd.relays.filter fun x => x.id != id }
    exec (.ringReplyRx id status rest result addr) s = .next (s1.sendReply r.hdr
      { s1.mkReply r.hdr r.opcode status rest.detail result addr (valuesOf r.opcode rest.result) with
        device := r.hdr.target, logged := addr, status := status, detail := rest.detail, state := rest.state
        resultLen := rest.result.length })) ∧
  (∀ dev ring (record : BitVec 256), ring < 4 → s.sec.pcieUp = true →
    let e := { recordOf ring dev record with clock := s.clock.k }
    exec (.ringEventRx dev ring record) s = .next ((s.writeEvent ring e false).remoteBreak dev e.source e.inst)) ∧
  (∀ src (n : ThrottleNote), exec (.ringThrottleRx src n) s = .next (State.note
    { s with ring.notices := (s.ring.notices.filter fun (e : Nat × ThrottleNote) => e.1 != src) ++ [(src, n)] }
    srcRingPeerThrottle src 0)) ∧
  (∀ src west hops, let t := (s.ringSend src 6 (EnumReply_bytes (s.enumReply west hops))).draw
    let u := { t with ring := if west then { t.ring with hopsEast := some hops } else { t.ring with hopsWest := some hops } }
    u.isRoot = false → exec (.ringEnumRx src west hops) s = .next { u with ring.root := some src }) ∧
  (∀ replies, s.isRoot = true → exec (.ringEnumReplyRx replies) s = .next (State.answerEnumerate { s.newMap replies with
    ring.excluded := s.ring.excluded && replies.any fun r => r.root && r.id != s.sec.deviceId })) ∧
  (∀ src, exec (.ringJoinRx src) s = .next (if s.isRoot then { s with ring.enumDue := some s.now } else s)) ∧
  (s.isRoot = true → s.ring.enumDue.isSome = true ∨ s.ring.enumEpoch + 2 ^ 20 ≤ s.clock.epoch →
    exec .ringEnumeratePeriod s = .next s.enumerate) ∧
  (∀ west, s.ringUp west = true →
    let s1 := { s with ring := if west then { s.ring with brokenWest := true, downWest := false }
      else { s.ring with brokenEast := true, downEast := false } }
    let s2 := { s1 with ring.unacked := s1.ring.unacked.filter fun u => u.west != west }
    let s3 := (s1.ring.unacked.filter fun u => u.west == west).foldl (fun s u => s.ringOutHeld (!west) u.frame u.held) s2
    exec (.ringBreak west) s = .next (s3.note srcRingBreak (sideNo west) 0).enumSoon) ∧
  (∀ west, s.ringUp west = false →
    let s1 := { s with ring := if west then { s.ring with brokenWest := false } else { s.ring with brokenEast := false } }
    exec (.ringRestored west) s = .next (s1.note srcRingRestored (sideNo west) 0).enumSoon) ∧
  (∀ func rid value, rid < 228 → func < 8 → s.reaches func rid = true →
    exec (.ringDoorbellWrite func rid value) s = .next ((s.accessBy func).ringDoorbell rid (value % 65536))) ∧
  (∀ func rid (value : BitVec 64), rid < 228 → func < 8 →
    exec (.ringControlWrite func rid value) s = .next (s.ringControl func rid value 8)) ∧
  (∀ group (mask same : BitVec 32), group < 32 →
    exec (.eventStatusW1c group mask same) s = .next (s.clearStatus group mask (same ||| s.raisedNow group))) ∧
  (∀ func (mask : BitVec 16), func < 8 →
    exec (.tableLockReleaseWrite func mask) s = .next ((s.accessBy func).releaseLocks func mask)) ∧
  (∀ value : BitVec 64, exec (.turnstileTicketsWrite value) s = .next { s with tables.tickets := ticketsClean value }) ∧
  (∀ mask : BitVec 8, exec (.turnstileStarvedW1c mask) s = .next (s.clearStarved mask)) ∧
  (∀ value : BitVec 32, bit value 0 = false ∨ s.now % 64 ≠ 0 →
    exec (.snapTrigger value) s = .next { s with time := { s.time with snap :=
      { s.time.snap with ppsPin := fld value 3 2, ppsEn := bit value 1, dueWrite := s.time.snap.dueWrite || bit value 0 } } }) ∧
  (∀ value : BitVec 32, exec (.perfFreezeWrite value) s = .next { s with tel.freeze := bit value 0 }) ∧
  (∀ value : BitVec 64, bit value 63 = true → exec (.firstErrorValidW1c value) s = .next s.clearFirst) ∧
  (∀ func offset v, func < 8 → offset % 8 = 0 → (s.accessBy func).badAccess offset 4 = none →
    regAt offset = some .ro → (s.accessBy func).counterAt offset = some v →
    let n := ((s.accessBy func).regWord offset .ro).toNat
    let r : BarRead := { offset := offset, wide := false }
    (exec (.counterLowHalfRead func r) s = .next (((s.accessBy func).readDone offset 4 (readHalf n (s.latch func) offset)).putLatch func
      (some { offset := offset, high := n / 2 ^ 32 % 2 ^ 32 }))) ∧
    ((s.accessBy func).badAccess offset 8 = none →
      exec (.counterLowHalfRead func { r with wide := true }) s = .next ((s.accessBy func).readDone offset 8 n))) ∧
  (∀ kind func width offset write, func < 8 → 1 ≤ kind → kind ≤ 7 →
    exec (.bar0Violation kind func width offset write) s = .next
      ((s.accessBy func).violate kind func width (offset % 2 ^ 26) write)) ∧
  (∀ func offset width (value : BitVec 64) r, func < 8 → (s.accessBy func).badAccess offset width = none →
    regAt (offset - offset % 8) = some r → r ≠ .ro →
    exec (.registerWrite func offset width value) s = .next ((List.range (width / 4)).foldl
      (fun t i => t.wordWritten (faultAddr 13 0 (offset + 4 * i))) ((s.accessBy func).storeReg func offset width value r))) ∧
  (∀ code, ∃ t, exec (.smbusBlockRead code) s = .next t ∧ t.cmd.out.smbus = s.smbusBytes code :: s.cmd.out.smbus) ∧
  (∀ instr, instr < 3 → exec (.jtagInstruction instr) s = .next { s with sec.jtag := instr, sec.jtagHeld := none }) ∧
  (∀ west, let l := s.ring.unacked.filter fun u => u.west == west && u.sends != 0
    l ≠ [] → s.ringLost west = false →
    let again (u : RingOut) : RingOut := if u.west == west && u.sends != 0 then { u with sends := u.sends + 1 } else u
    let s1 := State.bumpBy { s with ring := { s.ring with
      sent := (l.map again).reverse ++ s.ring.sent, unacked := s.ring.unacked.map again } } .ringRetries (sideNo west) l.length
    ((∃ u ∈ l, 16 ≤ u.sends) → exec (.ringHopResend west) s = .next
      { s with ring := if west then { s.ring with downWest := true } else { s.ring with downEast := true } }) ∧
    ((∀ u ∈ l, u.sends < 16) → s1.ring.retryEpoch = some s1.clock.epoch → exec (.ringHopResend west) s = .next s1))
end

