-- ==== Sys2Proof/Laws/Arr.lean ====
section
/-! SUPPORT. The laws of the arrays that hold the block's registers, tables and buffers: what a write changes, and the
canonical form that every write keeps. -/

namespace Sys2Proof

/-- A write leaves every other index as it was. -/
theorem Arr.get_set_ne {α : Type} [DecidableEq α] (d e : α) (a : Arr α) (i k : Nat) (v : α) (h : k ≠ i) :
    (a.set d i v).get e k = a.get e k := by
  induction a with
  | nil =>
    unfold Arr.set
    split
    · rfl
    · simp [Arr.get, h]
  | cons p t ih =>
    obtain ⟨j, w⟩ := p
    unfold Arr.set
    split
    · split
      · rfl
      · simp [Arr.get, h]
    · split
      · next hij =>
        subst hij
        split <;> simp [Arr.get, h]
      · simp only [Arr.get]
        split
        · rfl
        · exact ih

theorem Arr.wf_tail {α : Type} [DecidableEq α] {d : Nat → α} {p : Nat × α} {t : Arr α} (h : Arr.wf d (p :: t) = true) :
    Arr.wf d t = true := by
  simp only [Arr.wf, Bool.and_eq_true] at h
  exact h.2

/-- In canonical form an index below the first is not listed. -/
theorem Arr.get_below {α : Type} [DecidableEq α] {d : Nat → α} (e : α) (a : Arr α) (i : Nat) (h : a.wf d = true)
    (hi : ∀ j v t, a = (j, v) :: t → i < j) : a.get e i = e := by
  induction a with
  | nil => rfl
  | cons p t ih =>
    obtain ⟨j, w⟩ := p
    have hj := hi j w t rfl
    simp only [Arr.get, Nat.ne_of_lt hj, if_false]
    apply ih (Arr.wf_tail h)
    rintro k v u rfl
    simp only [Arr.wf, Bool.and_eq_true, decide_eq_true_eq] at h
    omega

/-- What a write stores is read back. -/
theorem Arr.get_set_self {α : Type} [DecidableEq α] {d : Nat → α} (a : Arr α) (i : Nat) (v : α) (h : a.wf d = true) :
    (a.set (d i) i v).get (d i) i = v := by
  induction a with
  | nil =>
    unfold Arr.set
    split
    · next hv => simp [Arr.get, hv]
    · simp [Arr.get]
  | cons p t ih =>
    obtain ⟨j, w⟩ := p
    unfold Arr.set
    split
    · next hij =>
      split
      · next hv => rw [hv]; exact Arr.get_below _ _ _ h (by rintro k x u e; cases e; exact hij)
      · simp [Arr.get]
    · split
      · next hij =>
        subst hij
        split
        · next hv =>
          rw [hv]
          apply Arr.get_below _ _ _ (Arr.wf_tail h)
          rintro k x u rfl
          simp only [Arr.wf, Bool.and_eq_true, decide_eq_true_eq] at h
          omega
        · simp [Arr.get]
      · next hne =>
        simp only [Arr.get, hne, if_false]
        exact ih (Arr.wf_tail h)

/-- The first index of a written array is the written one or the first before. -/
theorem Arr.set_head {α : Type} [DecidableEq α] {d : Nat → α} (a : Arr α) (i n : Nat) (v : α) (hi : n < i)
    (h : a.wf d = true) (ha : ∀ j w t, a = (j, w) :: t → n < j) :
    ∀ j w t, a.set (d i) i v = (j, w) :: t → n < j := by
  intro j w t e
  cases a with
  | nil =>
    unfold Arr.set at e
    split at e
    · cases e
    · cases e; exact hi
  | cons p u =>
    obtain ⟨k, x⟩ := p
    have hk := ha k x u rfl
    unfold Arr.set at e
    split at e
    · split at e
      · cases e; exact hk
      · cases e; exact hi
    · split at e
      · split at e
        · cases u with
          | nil => cases e
          | cons q r =>
            cases e
            simp only [Arr.wf, Bool.and_eq_true, decide_eq_true_eq] at h
            omega
        · cases e; exact hi
      · cases e; exact hk

theorem Arr.wf_cons {α : Type} [DecidableEq α] {d : Nat → α} {j : Nat} {v : α} {t : Arr α} (hv : v ≠ d j)
    (hh : ∀ k w u, t = (k, w) :: u → j < k) (ht : t.wf d = true) : Arr.wf d ((j, v) :: t) = true := by
  cases t with
  | nil => simp [Arr.wf, hv]
  | cons p u =>
    obtain ⟨k, w⟩ := p
    have := hh k w u rfl
    rw [Arr.wf]
    simp only [bne_iff_ne, ne_eq, hv, not_false_eq_true, this, decide_true, Bool.and_true, Bool.true_and, ht]

/-- A write keeps the canonical form. -/
theorem Arr.wf_set {α : Type} [DecidableEq α] {d : Nat → α} (a : Arr α) (i : Nat) (v : α) (h : a.wf d = true) :
    (a.set (d i) i v).wf d = true := by
  induction a with
  | nil =>
    unfold Arr.set
    split
    · rfl
    · next hv => exact Arr.wf_cons hv (by intro k w u e; cases e) rfl
  | cons p t ih =>
    obtain ⟨j, w⟩ := p
    have hw : w ≠ d j := by
      simp only [Arr.wf, Bool.and_eq_true, bne_iff_ne] at h
      exact h.1.1
    have hj : ∀ k x u, t = (k, x) :: u → j < k := by
      rintro k x u rfl
      simp only [Arr.wf, Bool.and_eq_true, decide_eq_true_eq] at h
      exact h.1.2
    unfold Arr.set
    split
    · next hij =>
      split
      · exact h
      · next hv => exact Arr.wf_cons hv (by intro k x u e; cases e; exact hij) h
    · split
      · next hij =>
        subst hij
        split
        · exact Arr.wf_tail h
        · next hv => exact Arr.wf_cons hv hj (Arr.wf_tail h)
      · next h1 h2 =>
        exact Arr.wf_cons hw (Arr.set_head t i j v (by omega) (Arr.wf_tail h) hj) (ih (Arr.wf_tail h))

/-- Indexes taken out keep the canonical form. -/
theorem Arr.keep_sublist {α : Type} (a : Arr α) (p : Nat → Bool) : List.Sublist (a.keep p) a := List.filter_sublist

end Sys2Proof
end

