-- ==== Sys2Proof/Laws/Frame.lean ====
section
/-! SUPPORT. What almost every operation leaves alone: the queue, the place in the epoch, the fuses; and what every
operation keeps. -/

namespace Sys2Proof.Machine

/-- The queue, the place in the epoch and the fuses. -/
def State.fr (s : State) : List Instr × Nat × Nat × Nat × Nat × Nat × BitVec 8 × Nat :=
  (s.pending, s.clock.epoch, s.clock.tick, s.clock.k, s.clock.tallyClock, s.sec.svn, s.sec.revoked, s.sec.hssLeaf)

theorem fr_mk (s : State) (cmd : Commands) (faults : Faults) (lp : LanePlane) (cipher : Cipher) (rules : RulePlane)
    (tables : Tables) (pk : Packets) (time : Time) (eg : Egress) (tel : Telemetry)
    (arm : Armature) (twin : Twin) (ring : RingState) (power : Power)
    (changes : List PendingChange) (group : Option Group) (groupNext : Nat) (txns prepared : List Txn)
    (ctr ctrNow : Arr Nat) (ctrAt freeCtr : Nat) :
    State.fr ⟨s.clock, cmd, faults, lp, cipher, rules, tables, pk, time, eg, tel, arm, twin, ring, power, s.sec, changes, group, groupNext, txns, prepared, ctr, ctrNow, ctrAt, freeCtr, s.pending⟩ = s.fr := rfl

theorem fr_mk_clock (s : State) (c_now : Nat) (c_running : Bool) (c_released : Bool) (c_tally : Nat) (c_tickAt : Nat) (c_stretch : Nat) (c_last : Readings) (c_refOk : Bool)
    (cmd : Commands) (faults : Faults) (lp : LanePlane) (cipher : Cipher) (rules : RulePlane)
    (tables : Tables) (pk : Packets) (time : Time) (eg : Egress) (tel : Telemetry)
    (arm : Armature) (twin : Twin) (ring : RingState) (power : Power)
    (changes : List PendingChange) (group : Option Group) (groupNext : Nat) (txns prepared : List Txn)
    (ctr ctrNow : Arr Nat) (ctrAt freeCtr : Nat) :
    State.fr ⟨⟨c_now, s.clock.epoch, s.clock.tick, s.clock.k, c_running, c_released, c_tally, s.clock.tallyClock, c_tickAt, c_stretch, c_last, c_refOk⟩, cmd, faults, lp, cipher, rules, tables, pk, time, eg, tel, arm, twin, ring, power, s.sec, changes, group, groupNext, txns, prepared, ctr, ctrNow, ctrAt, freeCtr, s.pending⟩ = s.fr := rfl

theorem fr_mk_sec (s : State) (x_step : BootStep) (x_reports : List ReportDue) (x_arrayInit : Bool) (x_fwInit : Bool) (x_perstHigh : Bool) (x_pcieUp : Bool)
    (x_deviceId : Nat) (x_ringRoot : Bool) (x_bootHost : Bool) (x_fusesRead : Bool) (x_serialValid : Bool)
    (x_source : Nat) (x_slotB : Bool) (x_codeA : Nat) (x_codeB : Nat) (x_codePush : Nat) (x_sigA : Nat)
    (x_sigB : Nat) (x_sigPush : Nat) (x_thermtripPrior : Bool) (x_halted : Bool) (x_chosen : Option ImageHdr)
    (x_running : Option ImageHdr) (x_rejected : List Nat) (x_push : List (Nat × List Byte))
    (x_flash : List (Nat × Nat × List Byte)) (x_slots : Arr FlashSlot)
    (x_topLeaf : Option Nat) (x_treeReady : Bool) (x_lowerLeaf : Nat) (x_exhausted : Bool) (x_m0 : BitVec 384)
    (x_m1 : BitVec 384) (x_m2 : BitVec 384) (x_m3 : BitVec 384) (x_configDigest : BitVec 384)
    (x_configCount : Nat) (x_restarting : Bool) (x_jtagHeld : Option Nat) (x_jtag : Nat)
    (cmd : Commands) (faults : Faults) (lp : LanePlane) (cipher : Cipher) (rules : RulePlane)
    (tables : Tables) (pk : Packets) (time : Time) (eg : Egress) (tel : Telemetry)
    (arm : Armature) (twin : Twin) (ring : RingState) (power : Power)
    (changes : List PendingChange) (group : Option Group) (groupNext : Nat) (txns prepared : List Txn)
    (ctr ctrNow : Arr Nat) (ctrAt freeCtr : Nat) :
    State.fr ⟨s.clock, cmd, faults, lp, cipher, rules, tables, pk, time, eg, tel, arm, twin, ring, power, ⟨x_step, x_reports, x_arrayInit, x_fwInit, x_perstHigh, x_pcieUp, x_deviceId, x_ringRoot, x_bootHost, s.sec.revoked, s.sec.svn, s.sec.hssLeaf, x_fusesRead, x_serialValid, x_source, x_slotB, x_codeA, x_codeB, x_codePush, x_sigA, x_sigB, x_sigPush, x_thermtripPrior, x_halted, x_chosen, x_running, x_rejected, x_push, x_flash, x_slots, x_topLeaf, x_treeReady, x_lowerLeaf, x_exhausted, x_m0, x_m1, x_m2, x_m3, x_configDigest, x_configCount, x_restarting, x_jtagHeld, x_jtag⟩, changes, group, groupNext, txns, prepared, ctr, ctrNow, ctrAt, freeCtr, s.pending⟩ = s.fr := rfl

theorem foldl_fr {α : Type} (f : State → α → State) (h : ∀ s a, (f s a).fr = s.fr) (l : List α) (s : State) :
    (l.foldl f s).fr = s.fr := by
  induction l generalizing s with
  | nil => rfl
  | cons a l ih => simp only [List.foldl_cons, ih, h]

theorem ite_fr (c : Prop) [Decidable c] (a b : State) : (if c then a else b).fr = if c then a.fr else b.fr := by
  split <;> rfl

theorem ite_fst {α : Type} (c : Prop) [Decidable c] (a b : State × α) :
    (if c then a else b).1 = if c then a.1 else b.1 := by split <;> rfl

theorem fold_fst_fr {α β : Type} (f : State × β → α → State × β) (h : ∀ p a, (f p a).1.fr = p.1.fr) (l : List α)
    (p : State × β) : (l.foldl f p).1.fr = p.1.fr := by
  induction l generalizing p with
  | nil => rfl
  | cons a l ih => simp only [List.foldl_cons, ih, h]

theorem pair_fr {α : Type} {x : State × α} {t : State} {a : α}
    {f : List Instr × Nat × Nat × Nat × Nat × Nat × BitVec 8 × Nat} (h : x = (t, a)) (e : x.1.fr = f) : t.fr = f := by
  subst h
  exact e

/-- The same for what a command answers; a command that stops changes nothing. -/
def outFr (o : Host.Outcome State Fault Refusal) (s : State) : List Instr × Nat × Nat × Nat × Nat × Nat × BitVec 8 × Nat :=
  match o with
  | .next t => t.fr
  | _ => s.fr

theorem outFr_next (s t : State) : outFr (.next t) s = t.fr := rfl

theorem outFr_fault (s : State) (f : Fault) : outFr (.fault f) s = s.fr := rfl

theorem outFr_onUnit (s t : State) (ok : Bool) (n : Nat) : outFr (onUnit ok n t) s = if ok then t.fr else s.fr := by
  unfold onUnit
  split <;> rfl

theorem outFr_ite (c : Prop) [Decidable c] (a b : Host.Outcome State Fault Refusal) (s : State) :
    outFr (if c then a else b) s = if c then outFr a s else outFr b s := by split <;> rfl

theorem outFr_out {o : Host.Outcome State Fault Refusal} {s t : State} (e : outFr o s = s.fr) (h : o = .next t) :
    t.fr = s.fr := by
  subst h
  exact e

/-- The same for what the rules of a command answer; a refusal changes nothing. -/
def ruleFr (r : Rule) (s : State) : List Instr × Nat × Nat × Nat × Nat × Nat × BitVec 8 × Nat :=
  match r with
  | .done t .. => t.fr
  | .change _ t _ => t.fr
  | .held t _ => t.fr
  | .refuse .. => s.fr

section
variable (s t : State)
theorem ruleFr_done (a b : Nat) (c : BitVec 64) (l : List Nat) : ruleFr (.done t a b c l) s = t.fr := rfl
theorem ruleFr_change (a : List (Nat × Nat)) (l : List Change) : ruleFr (.change a t l) s = t.fr := rfl
theorem ruleFr_held (n : Nat) : ruleFr (.held t n) s = t.fr := rfl
theorem ruleFr_refuse (a b : Nat) (c d : BitVec 64) : ruleFr (.refuse a b c d) s = s.fr := rfl
theorem ruleFr_ok : ruleFr (.ok t) s = t.fr := rfl
theorem ruleFr_val (n : Nat) : ruleFr (.val t n) s = t.fr := rfl
theorem ruleFr_reply (l : List Nat) : ruleFr (.reply t l) s = t.fr := rfl
theorem ruleFr_at (a : List (Nat × Nat)) (l : List Change) : ruleFr (.at a t l) s = t.fr := rfl
theorem ruleFr_access (n : Nat) : ruleFr (.access n) s = s.fr := rfl
theorem ruleFr_param : ruleFr .param s = s.fr := rfl
theorem ruleFr_conflict : ruleFr .conflict s = s.fr := rfl
theorem ruleFr_missing : ruleFr .missing s = s.fr := rfl
theorem ruleFr_busy : ruleFr .busy s = s.fr := rfl
theorem ruleFr_lockedR : ruleFr .lockedR s = s.fr := rfl
theorem ruleFr_full : ruleFr .full s = s.fr := rfl
theorem ruleFr_auth : ruleFr .auth s = s.fr := rfl
theorem ruleFr_poisoned (a : BitVec 64) : ruleFr (.poisoned a) s = s.fr := rfl
theorem ruleFr_ite (c : Prop) [Decidable c] (a b : Rule) :
    ruleFr (if c then a else b) s = if c then ruleFr a s else ruleFr b s := by split <;> rfl
theorem ruleFr_need (ok : Bool) (a b : Rule) :
    ruleFr (Rule.need ok a b) s = if ok then ruleFr b s else ruleFr a s := by unfold Rule.need; split <;> rfl
theorem ruleFr_needRange (n : Option Nat) (a : Rule) :
    ruleFr (needRange n a) s = if n.isSome then s.fr else ruleFr a s := by cases n <;> rfl
end

theorem rule_done_fr {r : Rule} {s t : State} {a b : Nat} {c : BitVec 64} {l : List Nat}
    {f : List Instr × Nat × Nat × Nat × Nat × Nat × BitVec 8 × Nat} (h : r = .done t a b c l) (e : ruleFr r s = f) :
    t.fr = f := by
  subst h
  exact e

theorem rule_change_fr {r : Rule} {s t : State} {a : List (Nat × Nat)} {l : List Change}
    {f : List Instr × Nat × Nat × Nat × Nat × Nat × BitVec 8 × Nat} (h : r = .change a t l) (e : ruleFr r s = f) :
    t.fr = f := by
  subst h
  exact e

theorem ruleFr_base {s t : State} (r : Rule) (h : t.fr = s.fr) : ruleFr r s = ruleFr r t := by
  cases r <;> first | rfl | exact h.symm

theorem Cmd_get_rule {α : Type} (op : Nat) (p : α) (r : Hdr → State → Rule) : (Cmd.get op p r).rule = r := rfl
theorem Cmd_set_rule {α : Type} (op : Nat) (p : α) (r : Hdr → State → Rule) : (Cmd.set op p r).rule = r := rfl
theorem Cmd_stats_rule {α : Type} (op : Nat) (c : Bool) (p : α) (r : Hdr → State → Rule) :
    (Cmd.stats op c p r).rule = r := rfl
theorem Cmd_mirrored_rule (op : Nat) (m : Mirrored) (r : Hdr → State → Rule) : (Cmd.mirrored op m r).rule = r := rfl
theorem Cmd_carry_rule {α : Type} (c : Cmd) (p : α) : (c.carry p).rule = c.rule := rfl
theorem Cmd_fence_rule (c : Cmd) (f : State → Bool) : (c.fence f).rule = c.rule := rfl

theorem Cmd_upTo_rule (c : Cmd) (n : Nat) : (c.upTo n).rule = c.rule := rfl

/-! ## What every operation keeps -/

/-- The queue stands, fuses are only ever burned, and the place in the epoch stays one. -/
structure State.Keeps (s t : State) : Prop where
  queue : t.pending = s.pending
  svn : s.sec.svn ≤ t.sec.svn
  revoked : s.sec.revoked &&& t.sec.revoked = s.sec.revoked
  leaf : s.sec.hssLeaf ≤ t.sec.hssLeaf
  place : s.placeOk → t.placeOk

theorem State.Keeps.refl (s : State) : s.Keeps s := ⟨rfl, Nat.le_refl _, BitVec.and_self, Nat.le_refl _, id⟩

theorem State.Keeps.trans {s t u : State} (a : s.Keeps t) (b : t.Keeps u) : s.Keeps u :=
  ⟨b.queue.trans a.queue, Nat.le_trans a.svn b.svn,
    by rw [← a.revoked, BitVec.and_assoc, b.revoked], Nat.le_trans a.leaf b.leaf, fun h => b.place (a.place h)⟩

theorem State.Keeps.ofFr {s t : State} (h : t.fr = s.fr) : s.Keeps t := by
  simp only [State.fr, Prod.mk.injEq] at h
  obtain ⟨h1, _, h2, h3, h4, h5, h6, h7⟩ := h
  refine ⟨h1, Nat.le_of_eq h5.symm, by rw [h6, BitVec.and_self], Nat.le_of_eq h7.symm, ?_⟩
  simp only [State.placeOk, h2, h3, h4]
  exact id

/-- After an operation that leaves all of it alone. -/
theorem State.Keeps.before {s t u : State} (a : t.Keeps u) (h : t.fr = s.fr) : s.Keeps u := (State.Keeps.ofFr h).trans a

/-- Before one. -/
theorem State.Keeps.after {s t u : State} (a : s.Keeps t) (h : u.fr = t.fr) : s.Keeps u := a.trans (State.Keeps.ofFr h)

theorem State.Keeps.ite {s a b : State} {c : Prop} [Decidable c] (ha : s.Keeps a) (hb : s.Keeps b) :
    s.Keeps (if c then a else b) := by split <;> assumption

theorem State.Keeps.foldl {α : Type} (f : State → α → State) (h : ∀ s a, State.Keeps s (f s a)) (l : List α) (s : State) :
    s.Keeps (l.foldl f s) := by
  induction l generalizing s with
  | nil => exact Keeps.refl s
  | cons a l ih => exact (h s a).trans (ih _)

/-- What the rules of a command answer keeps it. -/
def Rule.Keeps (s : State) (r : Rule) : Prop :=
  match r with
  | .done t .. => s.Keeps t
  | .change _ t _ => s.Keeps t
  | .held t _ => s.Keeps t
  | .refuse .. => True

theorem Rule.Keeps.ofFr {s : State} {r : Rule} (h : ruleFr r s = s.fr) : r.Keeps s := by
  cases r <;> first | exact State.Keeps.ofFr h | trivial

theorem Rule.Keeps.need {s : State} {ok : Bool} {a b : Rule} (ha : a.Keeps s) (hb : b.Keeps s) :
    (Rule.need ok a b).Keeps s := by
  unfold Rule.need
  split <;> assumption

/-- The command keeps it in every state. -/
def Cmd.Keeps (c : Cmd) : Prop := ∀ h s, (c.rule h s).Keeps s

end Sys2Proof.Machine
end

