-- ==== Sys2Proof/Laws/FrameOps.lean ====
section
/-! SUPPORT. Frames of the operations on State, the time operations and reactions. -/

namespace Sys2Proof.Machine
theorem State.putHring_fr (s : State) (n : Nat) (v : Ring) : (State.putHring s n v).fr = s.fr := rfl

theorem State.modHring_fr (s : State) (n : Nat) (f : Ring → Ring) : (State.modHring s n f).fr = s.fr := by
  unfold State.modHring
  simp only [↓fr_mk, ↓fr_mk_clock, ↓fr_mk_sec, ↓foldl_fr, ↓ite_fr, ↓State.putHring_fr, ite_self, implies_true]

theorem State.putTakenAt_fr (s : State) (n : Nat) (v : (Option Taken)) : (State.putTakenAt s n v).fr = s.fr := rfl

theorem State.modTakenAt_fr (s : State) (n : Nat) (f : (Option Taken) → (Option Taken)) : (State.modTakenAt s n f).fr = s.fr := by
  unfold State.modTakenAt
  simp only [↓fr_mk, ↓fr_mk_clock, ↓fr_mk_sec, ↓foldl_fr, ↓ite_fr, ↓State.putTakenAt_fr, ite_self, implies_true]

theorem State.putEvStatus_fr (s : State) (n : Nat) (v : (BitVec 32)) : (State.putEvStatus s n v).fr = s.fr := rfl

theorem State.modEvStatus_fr (s : State) (n : Nat) (f : (BitVec 32) → (BitVec 32)) : (State.modEvStatus s n f).fr = s.fr := by
  unfold State.modEvStatus
  simp only [↓fr_mk, ↓fr_mk_clock, ↓fr_mk_sec, ↓foldl_fr, ↓ite_fr, ↓State.putEvStatus_fr, ite_self, implies_true]

theorem State.putEvSetAt_fr (s : State) (n : Nat) (v : Nat) : (State.putEvSetAt s n v).fr = s.fr := rfl

theorem State.modEvSetAt_fr (s : State) (n : Nat) (f : Nat → Nat) : (State.modEvSetAt s n f).fr = s.fr := by
  unfold State.modEvSetAt
  simp only [↓fr_mk, ↓fr_mk_clock, ↓fr_mk_sec, ↓foldl_fr, ↓ite_fr, ↓State.putEvSetAt_fr, ite_self, implies_true]

theorem State.putEvRaisedAt_fr (s : State) (n : Nat) (v : Nat) : (State.putEvRaisedAt s n v).fr = s.fr := rfl

theorem State.modEvRaisedAt_fr (s : State) (n : Nat) (f : Nat → Nat) : (State.modEvRaisedAt s n f).fr = s.fr := by
  unfold State.modEvRaisedAt
  simp only [↓fr_mk, ↓fr_mk_clock, ↓fr_mk_sec, ↓foldl_fr, ↓ite_fr, ↓State.putEvRaisedAt_fr, ite_self, implies_true]

theorem State.putEvEnable_fr (s : State) (n : Nat) (v : (BitVec 32)) : (State.putEvEnable s n v).fr = s.fr := rfl

theorem State.modEvEnable_fr (s : State) (n : Nat) (f : (BitVec 32) → (BitVec 32)) : (State.modEvEnable s n f).fr = s.fr := by
  unfold State.modEvEnable
  simp only [↓fr_mk, ↓fr_mk_clock, ↓fr_mk_sec, ↓foldl_fr, ↓ite_fr, ↓State.putEvEnable_fr, ite_self, implies_true]

theorem State.putEvRoute_fr (s : State) (n : Nat) (v : Nat) : (State.putEvRoute s n v).fr = s.fr := rfl

theorem State.modEvRoute_fr (s : State) (n : Nat) (f : Nat → Nat) : (State.modEvRoute s n f).fr = s.fr := by
  unfold State.modEvRoute
  simp only [↓fr_mk, ↓fr_mk_clock, ↓fr_mk_sec, ↓foldl_fr, ↓ite_fr, ↓State.putEvRoute_fr, ite_self, implies_true]

theorem State.putCpuRing_fr (s : State) (n : Nat) (v : Nat) : (State.putCpuRing s n v).fr = s.fr := rfl

theorem State.modCpuRing_fr (s : State) (n : Nat) (f : Nat → Nat) : (State.modCpuRing s n f).fr = s.fr := by
  unfold State.modCpuRing
  simp only [↓fr_mk, ↓fr_mk_clock, ↓fr_mk_sec, ↓foldl_fr, ↓ite_fr, ↓State.putCpuRing_fr, ite_self, implies_true]

theorem State.putViolation_fr (s : State) (n : Nat) (v : (Option Violation)) : (State.putViolation s n v).fr = s.fr := rfl

theorem State.modViolation_fr (s : State) (n : Nat) (f : (Option Violation) → (Option Violation)) : (State.modViolation s n f).fr = s.fr := by
  unfold State.modViolation
  simp only [↓fr_mk, ↓fr_mk_clock, ↓fr_mk_sec, ↓foldl_fr, ↓ite_fr, ↓State.putViolation_fr, ite_self, implies_true]

theorem State.putMsixWord_fr (s : State) (n : Nat) (v : (BitVec 64)) : (State.putMsixWord s n v).fr = s.fr := rfl

theorem State.modMsixWord_fr (s : State) (n : Nat) (f : (BitVec 64) → (BitVec 64)) : (State.modMsixWord s n f).fr = s.fr := by
  unfold State.modMsixWord
  simp only [↓fr_mk, ↓fr_mk_clock, ↓fr_mk_sec, ↓foldl_fr, ↓ite_fr, ↓State.putMsixWord_fr, ite_self, implies_true]

theorem State.putLatch_fr (s : State) (n : Nat) (v : (Option Latch)) : (State.putLatch s n v).fr = s.fr := rfl

theorem State.modLatch_fr (s : State) (n : Nat) (f : (Option Latch) → (Option Latch)) : (State.modLatch s n f).fr = s.fr := by
  unfold State.modLatch
  simp only [↓fr_mk, ↓fr_mk_clock, ↓fr_mk_sec, ↓foldl_fr, ↓ite_fr, ↓State.putLatch_fr, ite_self, implies_true]

theorem State.putLogAt_fr (s : State) (n : Nat) (v : (Option LogEntry)) : (State.putLogAt s n v).fr = s.fr := rfl

theorem State.modLogAt_fr (s : State) (n : Nat) (f : (Option LogEntry) → (Option LogEntry)) : (State.modLogAt s n f).fr = s.fr := by
  unfold State.modLogAt
  simp only [↓fr_mk, ↓fr_mk_clock, ↓fr_mk_sec, ↓foldl_fr, ↓ite_fr, ↓State.putLogAt_fr, ite_self, implies_true]

theorem State.putReact_fr (s : State) (n : Nat) (v : ReactEntry) : (State.putReact s n v).fr = s.fr := rfl

theorem State.modReact_fr (s : State) (n : Nat) (f : ReactEntry → ReactEntry) : (State.modReact s n f).fr = s.fr := by
  unfold State.modReact
  simp only [↓fr_mk, ↓fr_mk_clock, ↓fr_mk_sec, ↓foldl_fr, ↓ite_fr, ↓State.putReact_fr, ite_self, implies_true]

theorem State.putFaultInst_fr (s : State) (n : Nat) (v : FaultInst) : (State.putFaultInst s n v).fr = s.fr := rfl

theorem State.modFaultInst_fr (s : State) (n : Nat) (f : FaultInst → FaultInst) : (State.modFaultInst s n f).fr = s.fr := by
  unfold State.modFaultInst
  simp only [↓fr_mk, ↓fr_mk_clock, ↓fr_mk_sec, ↓foldl_fr, ↓ite_fr, ↓State.putFaultInst_fr, ite_self, implies_true]

theorem State.putMasked_fr (s : State) (n : Nat) (v : Bool) : (State.putMasked s n v).fr = s.fr := rfl

theorem State.modMasked_fr (s : State) (n : Nat) (f : Bool → Bool) : (State.modMasked s n f).fr = s.fr := by
  unfold State.modMasked
  simp only [↓fr_mk, ↓fr_mk_clock, ↓fr_mk_sec, ↓foldl_fr, ↓ite_fr, ↓State.putMasked_fr, ite_self, implies_true]

theorem State.putMaskedAt_fr (s : State) (n : Nat) (v : Nat) : (State.putMaskedAt s n v).fr = s.fr := rfl

theorem State.putSpareOf_fr (s : State) (n : Nat) (v : (Option Nat)) : (State.putSpareOf s n v).fr = s.fr := rfl

theorem State.modSpareOf_fr (s : State) (n : Nat) (f : (Option Nat) → (Option Nat)) : (State.modSpareOf s n f).fr = s.fr := by
  unfold State.modSpareOf
  simp only [↓fr_mk, ↓fr_mk_clock, ↓fr_mk_sec, ↓foldl_fr, ↓ite_fr, ↓State.putSpareOf_fr, ite_self, implies_true]

theorem State.putPipeRetired_fr (s : State) (n : Nat) (v : Bool) : (State.putPipeRetired s n v).fr = s.fr := rfl

theorem State.modPipeRetired_fr (s : State) (n : Nat) (f : Bool → Bool) : (State.modPipeRetired s n f).fr = s.fr := by
  unfold State.modPipeRetired
  simp only [↓fr_mk, ↓fr_mk_clock, ↓fr_mk_sec, ↓foldl_fr, ↓ite_fr, ↓State.putPipeRetired_fr, ite_self, implies_true]

theorem State.putSliceFenced_fr (s : State) (n : Nat) (v : Bool) : (State.putSliceFenced s n v).fr = s.fr := rfl

theorem State.modSliceFenced_fr (s : State) (n : Nat) (f : Bool → Bool) : (State.modSliceFenced s n f).fr = s.fr := by
  unfold State.modSliceFenced
  simp only [↓fr_mk, ↓fr_mk_clock, ↓fr_mk_sec, ↓foldl_fr, ↓ite_fr, ↓State.putSliceFenced_fr, ite_self, implies_true]

theorem State.putReplicaFenced_fr (s : State) (n : Nat) (v : Bool) : (State.putReplicaFenced s n v).fr = s.fr := rfl

theorem State.modReplicaFenced_fr (s : State) (n : Nat) (f : Bool → Bool) : (State.modReplicaFenced s n f).fr = s.fr := by
  unfold State.modReplicaFenced
  simp only [↓fr_mk, ↓fr_mk_clock, ↓fr_mk_sec, ↓foldl_fr, ↓ite_fr, ↓State.putReplicaFenced_fr, ite_self, implies_true]

theorem State.putPartBank_fr (s : State) (n : Nat) (v : BankLife) : (State.putPartBank s n v).fr = s.fr := rfl

theorem State.modPartBank_fr (s : State) (n : Nat) (f : BankLife → BankLife) : (State.modPartBank s n f).fr = s.fr := by
  unfold State.modPartBank
  simp only [↓fr_mk, ↓fr_mk_clock, ↓fr_mk_sec, ↓foldl_fr, ↓ite_fr, ↓State.putPartBank_fr, ite_self, implies_true]

theorem State.putBgPos_fr (s : State) (n : Nat) (v : Nat) : (State.putBgPos s n v).fr = s.fr := rfl

theorem State.modBgPos_fr (s : State) (n : Nat) (f : Nat → Nat) : (State.modBgPos s n f).fr = s.fr := by
  unfold State.modBgPos
  simp only [↓fr_mk, ↓fr_mk_clock, ↓fr_mk_sec, ↓foldl_fr, ↓ite_fr, ↓State.putBgPos_fr, ite_self, implies_true]

theorem State.putLane_fr (s : State) (n : Nat) (v : Lane) : (State.putLane s n v).fr = s.fr := rfl

theorem State.modLane_fr (s : State) (n : Nat) (f : Lane → Lane) : (State.modLane s n f).fr = s.fr := by
  unfold State.modLane
  simp only [↓fr_mk, ↓fr_mk_clock, ↓fr_mk_sec, ↓foldl_fr, ↓ite_fr, ↓State.putLane_fr, ite_self, implies_true]

theorem State.putOctet_fr (s : State) (n : Nat) (v : Octet) : (State.putOctet s n v).fr = s.fr := rfl

theorem State.modOctet_fr (s : State) (n : Nat) (f : Octet → Octet) : (State.modOctet s n f).fr = s.fr := by
  unfold State.modOctet
  simp only [↓fr_mk, ↓fr_mk_clock, ↓fr_mk_sec, ↓foldl_fr, ↓ite_fr, ↓State.putOctet_fr, ite_self, implies_true]

theorem State.putPort_fr (s : State) (n : Nat) (v : Port) : (State.putPort s n v).fr = s.fr := rfl

theorem State.modPort_fr (s : State) (n : Nat) (f : Port → Port) : (State.modPort s n f).fr = s.fr := by
  unfold State.modPort
  simp only [↓fr_mk, ↓fr_mk_clock, ↓fr_mk_sec, ↓foldl_fr, ↓ite_fr, ↓State.putPort_fr, ite_self, implies_true]

theorem State.putCipherPort_fr (s : State) (n : Nat) (v : (BitVec 64)) : (State.putCipherPort s n v).fr = s.fr := rfl

theorem State.modCipherPort_fr (s : State) (n : Nat) (f : (BitVec 64) → (BitVec 64)) : (State.modCipherPort s n f).fr = s.fr := by
  unfold State.modCipherPort
  simp only [↓fr_mk, ↓fr_mk_clock, ↓fr_mk_sec, ↓foldl_fr, ↓ite_fr, ↓State.putCipherPort_fr, ite_self, implies_true]

theorem State.putCipherPast_fr (s : State) (n : Nat) (v : List (BitVec 64 × Nat)) : (State.putCipherPast s n v).fr = s.fr := rfl

theorem State.putRxSc_fr (s : State) (n : Nat) (v : Sc) : (State.putRxSc s n v).fr = s.fr := rfl

theorem State.modRxSc_fr (s : State) (n : Nat) (f : Sc → Sc) : (State.modRxSc s n f).fr = s.fr := by
  unfold State.modRxSc
  simp only [↓fr_mk, ↓fr_mk_clock, ↓fr_mk_sec, ↓foldl_fr, ↓ite_fr, ↓State.putRxSc_fr, ite_self, implies_true]

theorem State.putTxSc_fr (s : State) (n : Nat) (v : Sc) : (State.putTxSc s n v).fr = s.fr := rfl

theorem State.modTxSc_fr (s : State) (n : Nat) (f : Sc → Sc) : (State.modTxSc s n f).fr = s.fr := by
  unfold State.modTxSc
  simp only [↓fr_mk, ↓fr_mk_clock, ↓fr_mk_sec, ↓foldl_fr, ↓ite_fr, ↓State.putTxSc_fr, ite_self, implies_true]

theorem State.putRxSa_fr (s : State) (n : Nat) (v : Sa) : (State.putRxSa s n v).fr = s.fr := rfl

theorem State.modRxSa_fr (s : State) (n : Nat) (f : Sa → Sa) : (State.modRxSa s n f).fr = s.fr := by
  unfold State.modRxSa
  simp only [↓fr_mk, ↓fr_mk_clock, ↓fr_mk_sec, ↓foldl_fr, ↓ite_fr, ↓State.putRxSa_fr, ite_self, implies_true]

theorem State.putTxSa_fr (s : State) (n : Nat) (v : Sa) : (State.putTxSa s n v).fr = s.fr := rfl

theorem State.modTxSa_fr (s : State) (n : Nat) (f : Sa → Sa) : (State.modTxSa s n f).fr = s.fr := by
  unfold State.modTxSa
  simp only [↓fr_mk, ↓fr_mk_clock, ↓fr_mk_sec, ↓foldl_fr, ↓ite_fr, ↓State.putTxSa_fr, ite_self, implies_true]

theorem State.putCengine_fr (s : State) (n : Nat) (v : CEngine) : (State.putCengine s n v).fr = s.fr := rfl

theorem State.modCengine_fr (s : State) (n : Nat) (f : CEngine → CEngine) : (State.modCengine s n f).fr = s.fr := by
  unfold State.modCengine
  simp only [↓fr_mk, ↓fr_mk_clock, ↓fr_mk_sec, ↓foldl_fr, ↓ite_fr, ↓State.putCengine_fr, ite_self, implies_true]

theorem State.putLaCtx_fr (s : State) (n : Nat) (v : LaCtx) : (State.putLaCtx s n v).fr = s.fr := rfl

theorem State.modLaCtx_fr (s : State) (n : Nat) (f : LaCtx → LaCtx) : (State.modLaCtx s n f).fr = s.fr := by
  unfold State.modLaCtx
  simp only [↓fr_mk, ↓fr_mk_clock, ↓fr_mk_sec, ↓foldl_fr, ↓ite_fr, ↓State.putLaCtx_fr, ite_self, implies_true]

theorem State.putObjAt_fr (s : State) (n : Nat) (v : ObjSlot) : (State.putObjAt s n v).fr = s.fr := rfl

theorem State.modObjAt_fr (s : State) (n : Nat) (f : ObjSlot → ObjSlot) : (State.modObjAt s n f).fr = s.fr := by
  unfold State.modObjAt
  simp only [↓fr_mk, ↓fr_mk_clock, ↓fr_mk_sec, ↓foldl_fr, ↓ite_fr, ↓State.putObjAt_fr, ite_self, implies_true]

theorem State.putPrefixAt_fr (s : State) (n : Nat) (v : ObjSlot) : (State.putPrefixAt s n v).fr = s.fr := rfl

theorem State.modPrefixAt_fr (s : State) (n : Nat) (f : ObjSlot → ObjSlot) : (State.modPrefixAt s n f).fr = s.fr := by
  unfold State.modPrefixAt
  simp only [↓fr_mk, ↓fr_mk_clock, ↓fr_mk_sec, ↓foldl_fr, ↓ite_fr, ↓State.putPrefixAt_fr, ite_self, implies_true]

theorem State.putRange_fr (s : State) (n : Nat) (v : RangeCmp) : (State.putRange s n v).fr = s.fr := rfl

theorem State.modRange_fr (s : State) (n : Nat) (f : RangeCmp → RangeCmp) : (State.modRange s n f).fr = s.fr := by
  unfold State.modRange
  simp only [↓fr_mk, ↓fr_mk_clock, ↓fr_mk_sec, ↓foldl_fr, ↓ite_fr, ↓State.putRange_fr, ite_self, implies_true]

theorem State.putInFlight_fr (s : State) (n : Nat) (v : Nat) : (State.putInFlight s n v).fr = s.fr := rfl

theorem State.modInFlight_fr (s : State) (n : Nat) (f : Nat → Nat) : (State.modInFlight s n f).fr = s.fr := by
  unfold State.modInFlight
  simp only [↓fr_mk, ↓fr_mk_clock, ↓fr_mk_sec, ↓foldl_fr, ↓ite_fr, ↓State.putInFlight_fr, ite_self, implies_true]

theorem State.putTable_fr (s : State) (n : Nat) (v : TableDef) : (State.putTable s n v).fr = s.fr := rfl

theorem State.modTable_fr (s : State) (n : Nat) (f : TableDef → TableDef) : (State.modTable s n f).fr = s.fr := by
  unfold State.modTable
  simp only [↓fr_mk, ↓fr_mk_clock, ↓fr_mk_sec, ↓foldl_fr, ↓ite_fr, ↓State.putTable_fr, ite_self, implies_true]

theorem State.putEmSlot_fr (s : State) (n : Nat) (v : EmSlot) : (State.putEmSlot s n v).fr = s.fr := rfl

theorem State.modEmSlot_fr (s : State) (n : Nat) (f : EmSlot → EmSlot) : (State.modEmSlot s n f).fr = s.fr := by
  unfold State.modEmSlot
  simp only [↓fr_mk, ↓fr_mk_clock, ↓fr_mk_sec, ↓foldl_fr, ↓ite_fr, ↓State.putEmSlot_fr, ite_self, implies_true]

theorem State.putEmHit_fr (s : State) (n : Nat) (v : Bool) : (State.putEmHit s n v).fr = s.fr := rfl

theorem State.modEmHit_fr (s : State) (n : Nat) (f : Bool → Bool) : (State.modEmHit s n f).fr = s.fr := by
  unfold State.modEmHit
  simp only [↓fr_mk, ↓fr_mk_clock, ↓fr_mk_sec, ↓foldl_fr, ↓ite_fr, ↓State.putEmHit_fr, ite_self, implies_true]

theorem State.putStashSlot_fr (s : State) (n : Nat) (v : EmSlot) : (State.putStashSlot s n v).fr = s.fr := rfl

theorem State.modStashSlot_fr (s : State) (n : Nat) (f : EmSlot → EmSlot) : (State.modStashSlot s n f).fr = s.fr := by
  unfold State.modStashSlot
  simp only [↓fr_mk, ↓fr_mk_clock, ↓fr_mk_sec, ↓foldl_fr, ↓ite_fr, ↓State.putStashSlot_fr, ite_self, implies_true]

theorem State.putStashHit_fr (s : State) (n : Nat) (v : Bool) : (State.putStashHit s n v).fr = s.fr := rfl

theorem State.modStashHit_fr (s : State) (n : Nat) (f : Bool → Bool) : (State.modStashHit s n f).fr = s.fr := by
  unfold State.modStashHit
  simp only [↓fr_mk, ↓fr_mk_clock, ↓fr_mk_sec, ↓foldl_fr, ↓ite_fr, ↓State.putStashHit_fr, ite_self, implies_true]

theorem State.putWriteTag_fr (s : State) (n : Nat) (v : (BitVec 8)) : (State.putWriteTag s n v).fr = s.fr := rfl

theorem State.modWriteTag_fr (s : State) (n : Nat) (f : (BitVec 8) → (BitVec 8)) : (State.modWriteTag s n f).fr = s.fr := by
  unfold State.modWriteTag
  simp only [↓fr_mk, ↓fr_mk_clock, ↓fr_mk_sec, ↓foldl_fr, ↓ite_fr, ↓State.putWriteTag_fr, ite_self, implies_true]

theorem State.putPair_fr (s : State) (n : Nat) (v : (Nat × Nat × Bool)) : (State.putPair s n v).fr = s.fr := rfl

theorem State.modPair_fr (s : State) (n : Nat) (f : (Nat × Nat × Bool) → (Nat × Nat × Bool)) : (State.modPair s n f).fr = s.fr := by
  unfold State.modPair
  simp only [↓fr_mk, ↓fr_mk_clock, ↓fr_mk_sec, ↓foldl_fr, ↓ite_fr, ↓State.putPair_fr, ite_self, implies_true]

theorem State.putLpmPoison_fr (s : State) (n : Nat) (v : Bool) : (State.putLpmPoison s n v).fr = s.fr := rfl

theorem State.modLpmPoison_fr (s : State) (n : Nat) (f : Bool → Bool) : (State.modLpmPoison s n f).fr = s.fr := by
  unfold State.modLpmPoison
  simp only [↓fr_mk, ↓fr_mk_clock, ↓fr_mk_sec, ↓foldl_fr, ↓ite_fr, ↓State.putLpmPoison_fr, ite_self, implies_true]

theorem State.putEmProfile_fr (s : State) (n : Nat) (v : EmProf) : (State.putEmProfile s n v).fr = s.fr := rfl

theorem State.modEmProfile_fr (s : State) (n : Nat) (f : EmProf → EmProf) : (State.modEmProfile s n f).fr = s.fr := by
  unfold State.modEmProfile
  simp only [↓fr_mk, ↓fr_mk_clock, ↓fr_mk_sec, ↓foldl_fr, ↓ite_fr, ↓State.putEmProfile_fr, ite_self, implies_true]

theorem State.putLpmProfile_fr (s : State) (n : Nat) (v : (List LpmLookup)) : (State.putLpmProfile s n v).fr = s.fr := rfl

theorem State.modLpmProfile_fr (s : State) (n : Nat) (f : (List LpmLookup) → (List LpmLookup)) : (State.modLpmProfile s n f).fr = s.fr := by
  unfold State.modLpmProfile
  simp only [↓fr_mk, ↓fr_mk_clock, ↓fr_mk_sec, ↓foldl_fr, ↓ite_fr, ↓State.putLpmProfile_fr, ite_self, implies_true]

theorem State.putBankUsed_fr (s : State) (n : Nat) (v : (Nat × Nat)) : (State.putBankUsed s n v).fr = s.fr := rfl

theorem State.modBankUsed_fr (s : State) (n : Nat) (f : (Nat × Nat) → (Nat × Nat)) : (State.modBankUsed s n f).fr = s.fr := by
  unfold State.modBankUsed
  simp only [↓fr_mk, ↓fr_mk_clock, ↓fr_mk_sec, ↓foldl_fr, ↓ite_fr, ↓State.putBankUsed_fr, ite_self, implies_true]

theorem State.putDeferEpoch_fr (s : State) (n : Nat) (v : (Option Nat)) : (State.putDeferEpoch s n v).fr = s.fr := rfl

theorem State.modDeferEpoch_fr (s : State) (n : Nat) (f : (Option Nat) → (Option Nat)) : (State.modDeferEpoch s n f).fr = s.fr := by
  unfold State.modDeferEpoch
  simp only [↓fr_mk, ↓fr_mk_clock, ↓fr_mk_sec, ↓foldl_fr, ↓ite_fr, ↓State.putDeferEpoch_fr, ite_self, implies_true]

theorem State.putGrantedAt_fr (s : State) (n : Nat) (v : (Option Nat)) : (State.putGrantedAt s n v).fr = s.fr := rfl

theorem State.modGrantedAt_fr (s : State) (n : Nat) (f : (Option Nat) → (Option Nat)) : (State.modGrantedAt s n f).fr = s.fr := by
  unfold State.modGrantedAt
  simp only [↓fr_mk, ↓fr_mk_clock, ↓fr_mk_sec, ↓foldl_fr, ↓ite_fr, ↓State.putGrantedAt_fr, ite_self, implies_true]

theorem State.putStashAt_fr (s : State) (n : Nat) (v : (Option Nat)) : (State.putStashAt s n v).fr = s.fr := rfl

theorem State.modStashAt_fr (s : State) (n : Nat) (f : (Option Nat) → (Option Nat)) : (State.modStashAt s n f).fr = s.fr := by
  unfold State.modStashAt
  simp only [↓fr_mk, ↓fr_mk_clock, ↓fr_mk_sec, ↓foldl_fr, ↓ite_fr, ↓State.putStashAt_fr, ite_self, implies_true]

theorem State.putLearnTaken_fr (s : State) (n : Nat) (v : (Nat × Nat)) : (State.putLearnTaken s n v).fr = s.fr := rfl

theorem State.modLearnTaken_fr (s : State) (n : Nat) (f : (Nat × Nat) → (Nat × Nat)) : (State.modLearnTaken s n f).fr = s.fr := by
  unfold State.modLearnTaken
  simp only [↓fr_mk, ↓fr_mk_clock, ↓fr_mk_sec, ↓foldl_fr, ↓ite_fr, ↓State.putLearnTaken_fr, ite_self, implies_true]

theorem State.putLock_fr (s : State) (n : Nat) (v : Lock) : (State.putLock s n v).fr = s.fr := rfl

theorem State.modLock_fr (s : State) (n : Nat) (f : Lock → Lock) : (State.modLock s n f).fr = s.fr := by
  unfold State.modLock
  simp only [↓fr_mk, ↓fr_mk_clock, ↓fr_mk_sec, ↓foldl_fr, ↓ite_fr, ↓State.putLock_fr, ite_self, implies_true]

theorem State.putScrubPos_fr (s : State) (n : Nat) (v : Nat) : (State.putScrubPos s n v).fr = s.fr := rfl

theorem State.modScrubPos_fr (s : State) (n : Nat) (f : Nat → Nat) : (State.modScrubPos s n f).fr = s.fr := by
  unfold State.modScrubPos
  simp only [↓fr_mk, ↓fr_mk_clock, ↓fr_mk_sec, ↓foldl_fr, ↓ite_fr, ↓State.putScrubPos_fr, ite_self, implies_true]

theorem State.putScrubFrom_fr (s : State) (n : Nat) (v : Nat) : (State.putScrubFrom s n v).fr = s.fr := rfl

theorem State.modScrubFrom_fr (s : State) (n : Nat) (f : Nat → Nat) : (State.modScrubFrom s n f).fr = s.fr := by
  unfold State.modScrubFrom
  simp only [↓fr_mk, ↓fr_mk_clock, ↓fr_mk_sec, ↓foldl_fr, ↓ite_fr, ↓State.putScrubFrom_fr, ite_self, implies_true]

theorem State.putPkt_fr (s : State) (n : Nat) (v : (Option Pkt)) : (State.putPkt s n v).fr = s.fr := rfl

theorem State.modPkt_fr (s : State) (n : Nat) (f : (Option Pkt) → (Option Pkt)) : (State.modPkt s n f).fr = s.fr := by
  unfold State.modPkt
  simp only [↓fr_mk, ↓fr_mk_clock, ↓fr_mk_sec, ↓foldl_fr, ↓ite_fr, ↓State.putPkt_fr, ite_self, implies_true]

theorem State.putCopy_fr (s : State) (n : Nat) (v : (Option Copy)) : (State.putCopy s n v).fr = s.fr := rfl

theorem State.modCopy_fr (s : State) (n : Nat) (f : (Option Copy) → (Option Copy)) : (State.modCopy s n f).fr = s.fr := by
  unfold State.modCopy
  simp only [↓fr_mk, ↓fr_mk_clock, ↓fr_mk_sec, ↓foldl_fr, ↓ite_fr, ↓State.putCopy_fr, ite_self, implies_true]

theorem State.putSpecTag_fr (s : State) (n : Nat) (v : (Option Nat)) : (State.putSpecTag s n v).fr = s.fr := rfl

theorem State.modSpecTag_fr (s : State) (n : Nat) (f : (Option Nat) → (Option Nat)) : (State.modSpecTag s n f).fr = s.fr := by
  unfold State.modSpecTag
  simp only [↓fr_mk, ↓fr_mk_clock, ↓fr_mk_sec, ↓foldl_fr, ↓ite_fr, ↓State.putSpecTag_fr, ite_self, implies_true]

theorem State.putTagNext_fr (s : State) (n : Nat) (v : Nat) : (State.putTagNext s n v).fr = s.fr := rfl

theorem State.modTagNext_fr (s : State) (n : Nat) (f : Nat → Nat) : (State.modTagNext s n f).fr = s.fr := by
  unfold State.modTagNext
  simp only [↓fr_mk, ↓fr_mk_clock, ↓fr_mk_sec, ↓foldl_fr, ↓ite_fr, ↓State.putTagNext_fr, ite_self, implies_true]

theorem State.putQList_fr (s : State) (n : Nat) (v : (List Nat)) : (State.putQList s n v).fr = s.fr := rfl

theorem State.modQList_fr (s : State) (n : Nat) (f : (List Nat) → (List Nat)) : (State.modQList s n f).fr = s.fr := by
  unfold State.modQList
  simp only [↓fr_mk, ↓fr_mk_clock, ↓fr_mk_sec, ↓foldl_fr, ↓ite_fr, ↓State.putQList_fr, ite_self, implies_true]

theorem State.putOpenList_fr (s : State) (n : Nat) (v : (List Nat)) : (State.putOpenList s n v).fr = s.fr := rfl

theorem State.modOpenList_fr (s : State) (n : Nat) (f : (List Nat) → (List Nat)) : (State.modOpenList s n f).fr = s.fr := by
  unfold State.modOpenList
  simp only [↓fr_mk, ↓fr_mk_clock, ↓fr_mk_sec, ↓foldl_fr, ↓ite_fr, ↓State.putOpenList_fr, ite_self, implies_true]

theorem State.putReleased_fr (s : State) (n : Nat) (v : (List Nat)) : (State.putReleased s n v).fr = s.fr := rfl

theorem State.modReleased_fr (s : State) (n : Nat) (f : (List Nat) → (List Nat)) : (State.modReleased s n f).fr = s.fr := by
  unfold State.modReleased
  simp only [↓fr_mk, ↓fr_mk_clock, ↓fr_mk_sec, ↓foldl_fr, ↓ite_fr, ↓State.putReleased_fr, ite_self, implies_true]

theorem State.putMacFifo_fr (s : State) (n : Nat) (v : (List Nat)) : (State.putMacFifo s n v).fr = s.fr := rfl

theorem State.modMacFifo_fr (s : State) (n : Nat) (f : (List Nat) → (List Nat)) : (State.modMacFifo s n f).fr = s.fr := by
  unfold State.modMacFifo
  simp only [↓fr_mk, ↓fr_mk_clock, ↓fr_mk_sec, ↓foldl_fr, ↓ite_fr, ↓State.putMacFifo_fr, ite_self, implies_true]

theorem State.putSending_fr (s : State) (n : Nat) (v : (Option Nat)) : (State.putSending s n v).fr = s.fr := rfl

theorem State.modSending_fr (s : State) (n : Nat) (f : (Option Nat) → (Option Nat)) : (State.modSending s n f).fr = s.fr := by
  unfold State.modSending
  simp only [↓fr_mk, ↓fr_mk_clock, ↓fr_mk_sec, ↓foldl_fr, ↓ite_fr, ↓State.putSending_fr, ite_self, implies_true]

theorem State.putCellAt_fr (s : State) (n : Nat) (v : CellEntry) : (State.putCellAt s n v).fr = s.fr := rfl

theorem State.modCellAt_fr (s : State) (n : Nat) (f : CellEntry → CellEntry) : (State.modCellAt s n f).fr = s.fr := by
  unfold State.modCellAt
  simp only [↓fr_mk, ↓fr_mk_clock, ↓fr_mk_sec, ↓foldl_fr, ↓ite_fr, ↓State.putCellAt_fr, ite_self, implies_true]

theorem State.putVoidRec_fr (s : State) (n : Nat) (v : Nat × Nat × Nat) : (State.putVoidRec s n v).fr = s.fr := rfl

theorem State.putVoided_fr (s : State) (n : Nat) (v : Nat × List Nat) : (State.putVoided s n v).fr = s.fr := rfl

theorem State.modVoided_fr (s : State) (n : Nat) (f : Nat × List Nat → Nat × List Nat) : (State.modVoided s n f).fr = s.fr := by
  unfold State.modVoided
  simp only [↓fr_mk, ↓fr_mk_clock, ↓fr_mk_sec, ↓foldl_fr, ↓ite_fr, ↓State.putVoided_fr, ite_self, implies_true]

theorem State.putPartCycles_fr (s : State) (n : Nat) (v : Nat × Nat) : (State.putPartCycles s n v).fr = s.fr := rfl

theorem State.modPartCycles_fr (s : State) (n : Nat) (f : Nat × Nat → Nat × Nat) : (State.modPartCycles s n f).fr = s.fr := by
  unfold State.modPartCycles
  simp only [↓fr_mk, ↓fr_mk_clock, ↓fr_mk_sec, ↓foldl_fr, ↓ite_fr, ↓State.putPartCycles_fr, ite_self, implies_true]

theorem State.putPart_fr (s : State) (n : Nat) (v : Partition) : (State.putPart s n v).fr = s.fr := rfl

theorem State.modPart_fr (s : State) (n : Nat) (f : Partition → Partition) : (State.modPart s n f).fr = s.fr := by
  unfold State.modPart
  simp only [↓fr_mk, ↓fr_mk_clock, ↓fr_mk_sec, ↓foldl_fr, ↓ite_fr, ↓State.putPart_fr, ite_self, implies_true]

theorem State.putSlice_fr (s : State) (n : Nat) (v : SliceSt) : (State.putSlice s n v).fr = s.fr := rfl

theorem State.modSlice_fr (s : State) (n : Nat) (f : SliceSt → SliceSt) : (State.modSlice s n f).fr = s.fr := by
  unfold State.modSlice
  simp only [↓fr_mk, ↓fr_mk_clock, ↓fr_mk_sec, ↓foldl_fr, ↓ite_fr, ↓State.putSlice_fr, ite_self, implies_true]

theorem State.putChan_fr (s : State) (n : Nat) (v : ElemLife) : (State.putChan s n v).fr = s.fr := rfl

theorem State.modChan_fr (s : State) (n : Nat) (f : ElemLife → ElemLife) : (State.modChan s n f).fr = s.fr := by
  unfold State.modChan
  simp only [↓fr_mk, ↓fr_mk_clock, ↓fr_mk_sec, ↓foldl_fr, ↓ite_fr, ↓State.putChan_fr, ite_self, implies_true]

theorem State.putPool_fr (s : State) (n : Nat) (v : Pool) : (State.putPool s n v).fr = s.fr := rfl

theorem State.modPool_fr (s : State) (n : Nat) (f : Pool → Pool) : (State.modPool s n f).fr = s.fr := by
  unfold State.modPool
  simp only [↓fr_mk, ↓fr_mk_clock, ↓fr_mk_sec, ↓foldl_fr, ↓ite_fr, ↓State.putPool_fr, ite_self, implies_true]

theorem State.putPg_fr (s : State) (n : Nat) (v : PgRec) : (State.putPg s n v).fr = s.fr := rfl

theorem State.modPg_fr (s : State) (n : Nat) (f : PgRec → PgRec) : (State.modPg s n f).fr = s.fr := by
  unfold State.modPg
  simp only [↓fr_mk, ↓fr_mk_clock, ↓fr_mk_sec, ↓foldl_fr, ↓ite_fr, ↓State.putPg_fr, ite_self, implies_true]

theorem State.putPeak_fr (s : State) (n : Nat) (v : Nat) : (State.putPeak s n v).fr = s.fr := rfl

theorem State.modPeak_fr (s : State) (n : Nat) (f : Nat → Nat) : (State.modPeak s n f).fr = s.fr := by
  unfold State.modPeak
  simp only [↓fr_mk, ↓fr_mk_clock, ↓fr_mk_sec, ↓foldl_fr, ↓ite_fr, ↓State.putPeak_fr, ite_self, implies_true]

theorem State.putOnceEpoch_fr (s : State) (n : Nat) (v : (Option Nat)) : (State.putOnceEpoch s n v).fr = s.fr := rfl

theorem State.modOnceEpoch_fr (s : State) (n : Nat) (f : (Option Nat) → (Option Nat)) : (State.modOnceEpoch s n f).fr = s.fr := by
  unfold State.modOnceEpoch
  simp only [↓fr_mk, ↓fr_mk_clock, ↓fr_mk_sec, ↓foldl_fr, ↓ite_fr, ↓State.putOnceEpoch_fr, ite_self, implies_true]

theorem State.putMgroup_fr (s : State) (n : Nat) (v : (Option McastGroup)) : (State.putMgroup s n v).fr = s.fr := rfl

theorem State.modMgroup_fr (s : State) (n : Nat) (f : (Option McastGroup) → (Option McastGroup)) : (State.modMgroup s n f).fr = s.fr := by
  unfold State.modMgroup
  simp only [↓fr_mk, ↓fr_mk_clock, ↓fr_mk_sec, ↓foldl_fr, ↓ite_fr, ↓State.putMgroup_fr, ite_self, implies_true]

theorem State.putCutThrough_fr (s : State) (n : Nat) (v : (Bool × Nat)) : (State.putCutThrough s n v).fr = s.fr := rfl

theorem State.modCutThrough_fr (s : State) (n : Nat) (f : (Bool × Nat) → (Bool × Nat)) : (State.modCutThrough s n f).fr = s.fr := by
  unfold State.modCutThrough
  simp only [↓fr_mk, ↓fr_mk_clock, ↓fr_mk_sec, ↓foldl_fr, ↓ite_fr, ↓State.putCutThrough_fr, ite_self, implies_true]

theorem State.putOrphans_fr (s : State) (n : Nat) (v : (List Nat)) : (State.putOrphans s n v).fr = s.fr := rfl

theorem State.modOrphans_fr (s : State) (n : Nat) (f : (List Nat) → (List Nat)) : (State.modOrphans s n f).fr = s.fr := by
  unfold State.modOrphans
  simp only [↓fr_mk, ↓fr_mk_clock, ↓fr_mk_sec, ↓foldl_fr, ↓ite_fr, ↓State.putOrphans_fr, ite_self, implies_true]

theorem State.putLineWait_fr (s : State) (n : Nat) (v : List (Nat × Nat)) : (State.putLineWait s n v).fr = s.fr := rfl

theorem State.modLineWait_fr (s : State) (n : Nat) (f : List (Nat × Nat) → List (Nat × Nat)) : (State.modLineWait s n f).fr = s.fr := by
  unfold State.modLineWait
  simp only [↓fr_mk, ↓fr_mk_clock, ↓fr_mk_sec, ↓foldl_fr, ↓ite_fr, ↓State.putLineWait_fr, ite_self, implies_true]

theorem State.putSlotsAt_fr (s : State) (n : Nat) (v : (Nat × Nat)) : (State.putSlotsAt s n v).fr = s.fr := rfl

theorem State.modSlotsAt_fr (s : State) (n : Nat) (f : (Nat × Nat) → (Nat × Nat)) : (State.modSlotsAt s n f).fr = s.fr := by
  unfold State.modSlotsAt
  simp only [↓fr_mk, ↓fr_mk_clock, ↓fr_mk_sec, ↓foldl_fr, ↓ite_fr, ↓State.putSlotsAt_fr, ite_self, implies_true]

theorem State.putSlotNo_fr (s : State) (n : Nat) (v : Nat × Nat) : (State.putSlotNo s n v).fr = s.fr := rfl

theorem State.putTurn_fr (s : State) (n : Nat) (v : Nat) : (State.putTurn s n v).fr = s.fr := rfl

theorem State.modTurn_fr (s : State) (n : Nat) (f : Nat → Nat) : (State.modTurn s n f).fr = s.fr := by
  unfold State.modTurn
  simp only [↓fr_mk, ↓fr_mk_clock, ↓fr_mk_sec, ↓foldl_fr, ↓ite_fr, ↓State.putTurn_fr, ite_self, implies_true]

theorem State.putDomain_fr (s : State) (n : Nat) (v : Domain) : (State.putDomain s n v).fr = s.fr := rfl

theorem State.modDomain_fr (s : State) (n : Nat) (f : Domain → Domain) : (State.modDomain s n f).fr = s.fr := by
  unfold State.modDomain
  simp only [↓fr_mk, ↓fr_mk_clock, ↓fr_mk_sec, ↓foldl_fr, ↓ite_fr, ↓State.putDomain_fr, ite_self, implies_true]

theorem State.putPps_fr (s : State) (n : Nat) (v : Pps) : (State.putPps s n v).fr = s.fr := rfl

theorem State.modPps_fr (s : State) (n : Nat) (f : Pps → Pps) : (State.modPps s n f).fr = s.fr := by
  unfold State.modPps
  simp only [↓fr_mk, ↓fr_mk_clock, ↓fr_mk_sec, ↓foldl_fr, ↓ite_fr, ↓State.putPps_fr, ite_self, implies_true]

theorem State.putTimePort_fr (s : State) (n : Nat) (v : (BitVec 64)) : (State.putTimePort s n v).fr = s.fr := rfl

theorem State.modTimePort_fr (s : State) (n : Nat) (f : (BitVec 64) → (BitVec 64)) : (State.modTimePort s n f).fr = s.fr := by
  unfold State.modTimePort
  simp only [↓fr_mk, ↓fr_mk_clock, ↓fr_mk_sec, ↓foldl_fr, ↓ite_fr, ↓State.putTimePort_fr, ite_self, implies_true]

theorem State.putEqueue_fr (s : State) (n : Nat) (v : Queue) : (State.putEqueue s n v).fr = s.fr := rfl

theorem State.modEqueue_fr (s : State) (n : Nat) (f : Queue → Queue) : (State.modEqueue s n f).fr = s.fr := by
  unfold State.modEqueue
  simp only [↓fr_mk, ↓fr_mk_clock, ↓fr_mk_sec, ↓foldl_fr, ↓ite_fr, ↓State.putEqueue_fr, ite_self, implies_true]

theorem State.putEport_fr (s : State) (n : Nat) (v : EPort) : (State.putEport s n v).fr = s.fr := rfl

theorem State.modEport_fr (s : State) (n : Nat) (f : EPort → EPort) : (State.modEport s n f).fr = s.fr := by
  unfold State.modEport
  simp only [↓fr_mk, ↓fr_mk_clock, ↓fr_mk_sec, ↓foldl_fr, ↓ite_fr, ↓State.putEport_fr, ite_self, implies_true]

theorem State.putStream_fr (s : State) (n : Nat) (v : Stream) : (State.putStream s n v).fr = s.fr := rfl

theorem State.modStream_fr (s : State) (n : Nat) (f : Stream → Stream) : (State.modStream s n f).fr = s.fr := by
  unfold State.modStream
  simp only [↓fr_mk, ↓fr_mk_clock, ↓fr_mk_sec, ↓foldl_fr, ↓ite_fr, ↓State.putStream_fr, ite_self, implies_true]

theorem State.putPerf_fr (s : State) (n : Nat) (v : Perf) : (State.putPerf s n v).fr = s.fr := rfl

theorem State.modPerf_fr (s : State) (n : Nat) (f : Perf → Perf) : (State.modPerf s n f).fr = s.fr := by
  unfold State.modPerf
  simp only [↓fr_mk, ↓fr_mk_clock, ↓fr_mk_sec, ↓foldl_fr, ↓ite_fr, ↓State.putPerf_fr, ite_self, implies_true]

theorem State.putCycles_fr (s : State) (n : Nat) (v : Nat) : (State.putCycles s n v).fr = s.fr := rfl

theorem State.modCycles_fr (s : State) (n : Nat) (f : Nat → Nat) : (State.modCycles s n f).fr = s.fr := by
  unfold State.modCycles
  simp only [↓fr_mk, ↓fr_mk_clock, ↓fr_mk_sec, ↓foldl_fr, ↓ite_fr, ↓State.putCycles_fr, ite_self, implies_true]

theorem State.putLedger_fr (s : State) (n : Nat) (v : Nat) : (State.putLedger s n v).fr = s.fr := rfl

theorem State.modLedger_fr (s : State) (n : Nat) (f : Nat → Nat) : (State.modLedger s n f).fr = s.fr := by
  unfold State.modLedger
  simp only [↓fr_mk, ↓fr_mk_clock, ↓fr_mk_sec, ↓foldl_fr, ↓ite_fr, ↓State.putLedger_fr, ite_self, implies_true]

theorem State.putEngine_fr (s : State) (n : Nat) (v : ArmEngine) : (State.putEngine s n v).fr = s.fr := rfl

theorem State.modEngine_fr (s : State) (n : Nat) (f : ArmEngine → ArmEngine) : (State.modEngine s n f).fr = s.fr := by
  unfold State.modEngine
  simp only [↓fr_mk, ↓fr_mk_clock, ↓fr_mk_sec, ↓foldl_fr, ↓ite_fr, ↓State.putEngine_fr, ite_self, implies_true]

theorem State.putMicroword_fr (s : State) (n : Nat) (v : (BitVec 256)) : (State.putMicroword s n v).fr = s.fr := rfl

theorem State.modMicroword_fr (s : State) (n : Nat) (f : (BitVec 256) → (BitVec 256)) : (State.modMicroword s n f).fr = s.fr := by
  unfold State.modMicroword
  simp only [↓fr_mk, ↓fr_mk_clock, ↓fr_mk_sec, ↓foldl_fr, ↓ite_fr, ↓State.putMicroword_fr, ite_self, implies_true]

theorem State.putPatchWord_fr (s : State) (n : Nat) (v : (BitVec 256)) : (State.putPatchWord s n v).fr = s.fr := rfl

theorem State.modPatchWord_fr (s : State) (n : Nat) (f : (BitVec 256) → (BitVec 256)) : (State.modPatchWord s n f).fr = s.fr := by
  unfold State.modPatchWord
  simp only [↓fr_mk, ↓fr_mk_clock, ↓fr_mk_sec, ↓foldl_fr, ↓ite_fr, ↓State.putPatchWord_fr, ite_self, implies_true]

theorem State.putEntryAt_fr (s : State) (n : Nat) (v : Nat) : (State.putEntryAt s n v).fr = s.fr := rfl

theorem State.modEntryAt_fr (s : State) (n : Nat) (f : Nat → Nat) : (State.modEntryAt s n f).fr = s.fr := by
  unfold State.modEntryAt
  simp only [↓fr_mk, ↓fr_mk_clock, ↓fr_mk_sec, ↓foldl_fr, ↓ite_fr, ↓State.putEntryAt_fr, ite_self, implies_true]

theorem State.putBaseEntryAt_fr (s : State) (n : Nat) (v : Nat) : (State.putBaseEntryAt s n v).fr = s.fr := rfl

theorem State.modBaseEntryAt_fr (s : State) (n : Nat) (f : Nat → Nat) : (State.modBaseEntryAt s n f).fr = s.fr := by
  unfold State.modBaseEntryAt
  simp only [↓fr_mk, ↓fr_mk_clock, ↓fr_mk_sec, ↓foldl_fr, ↓ite_fr, ↓State.putBaseEntryAt_fr, ite_self, implies_true]

theorem State.putCmp_fr (s : State) (n : Nat) (v : Comparator) : (State.putCmp s n v).fr = s.fr := rfl

theorem State.modCmp_fr (s : State) (n : Nat) (f : Comparator → Comparator) : (State.modCmp s n f).fr = s.fr := by
  unfold State.modCmp
  simp only [↓fr_mk, ↓fr_mk_clock, ↓fr_mk_sec, ↓foldl_fr, ↓ite_fr, ↓State.putCmp_fr, ite_self, implies_true]

theorem State.putCount_fr (s : State) (n : Nat) (v : Nat) : (State.putCount s n v).fr = s.fr := rfl

theorem State.modCount_fr (s : State) (n : Nat) (f : Nat → Nat) : (State.modCount s n f).fr = s.fr := by
  unfold State.modCount
  simp only [↓fr_mk, ↓fr_mk_clock, ↓fr_mk_sec, ↓foldl_fr, ↓ite_fr, ↓State.putCount_fr, ite_self, implies_true]

theorem State.perfCount_fr (s : State) (code unit n : Nat) : (State.perfCount s code unit n).fr = s.fr := by
  unfold State.perfCount
  repeat' first
  | with_reducible rfl
  | simp only [↓fr_mk, ↓fr_mk_clock, ↓fr_mk_sec, ↓foldl_fr, ↓ite_fr, ↓ite_fst, ↓fold_fst_fr, ite_self, implies_true]
  | split
  | refine (foldl_fr _ (fun _ _ => ?_) _ _).trans ?_
  | refine (fold_fst_fr _ (fun _ _ => ?_) _ _).trans ?_
  | refine pair_fr (by assumption) ?_
  | exact rfl

theorem State.addFresh_fr (s : State) (k n : Nat) : (State.addFresh s k n).fr = s.fr := by
  unfold State.addFresh
  simp only [↓fr_mk, ↓fr_mk_clock, ↓fr_mk_sec, ↓foldl_fr, ↓ite_fr, ite_self, implies_true]

theorem State.bumpBy_fr (s : State) (c : Ctr) (inst n : Nat) : (State.bumpBy s c inst n).fr = s.fr := by
  unfold State.bumpBy
  repeat' first
  | with_reducible rfl
  | simp only [↓fr_mk, ↓fr_mk_clock, ↓fr_mk_sec, ↓foldl_fr, ↓ite_fr, ↓State.putCount_fr, ↓State.perfCount_fr, ↓State.addFresh_fr, ite_self, implies_true]
  | split
  | refine (foldl_fr _ (fun _ _ => ?_) _ _).trans ?_
  | refine (fold_fst_fr _ (fun _ _ => ?_) _ _).trans ?_
  | refine pair_fr (by assumption) ?_
  | exact rfl

theorem State.bump_fr (s : State) (c : Ctr) (inst : Nat) : (State.bump s c inst).fr = s.fr := by
  unfold State.bump
  simp only [↓fr_mk, ↓fr_mk_clock, ↓fr_mk_sec, ↓foldl_fr, ↓ite_fr, ↓State.bumpBy_fr, ite_self, implies_true]

theorem State.clearCtr_fr (s : State) (c : Ctr) (inst : Nat) : (State.clearCtr s c inst).fr = s.fr := by
  unfold State.clearCtr
  simp only [↓fr_mk, ↓fr_mk_clock, ↓fr_mk_sec, ↓foldl_fr, ↓ite_fr, ↓State.modLane_fr, ↓State.putCount_fr, ite_self, implies_true]

theorem State.clearCtrs_fr (s : State) (l : List (Ctr × Nat)) : (State.clearCtrs s l).fr = s.fr := by
  unfold State.clearCtrs
  repeat' first
  | with_reducible rfl
  | simp only [↓fr_mk, ↓fr_mk_clock, ↓fr_mk_sec, ↓foldl_fr, ↓ite_fr, ↓State.clearCtr_fr, ite_self, implies_true]
  | split
  | refine (foldl_fr _ (fun _ _ => ?_) _ _).trans ?_
  | refine (fold_fst_fr _ (fun _ _ => ?_) _ _).trans ?_
  | refine pair_fr (by assumption) ?_
  | exact rfl

theorem State.draw_fr (s : State) : (State.draw s).fr = s.fr := by
  unfold State.draw
  simp only [↓fr_mk, ↓fr_mk_clock, ↓fr_mk_sec, ↓foldl_fr, ↓ite_fr, ite_self, implies_true]

theorem onUnit_fr (ok : Bool) (n : Nat) (t : State) : outFr (onUnit ok n t) t = t.fr := by
  unfold onUnit
  simp only [↓outFr_next, ↓outFr_fault, ↓outFr_onUnit, ↓outFr_ite, ↓fr_mk, ↓fr_mk_clock, ↓fr_mk_sec, ↓foldl_fr, ↓ite_fr, ↓ite_fst, ↓fold_fst_fr, ite_self, implies_true]

theorem State.due_fr (s : State) (e : Nat) (objs : List (Nat × Nat)) (c : Change) : (State.due s e objs c).fr = s.fr := by
  unfold State.due
  simp only [↓fr_mk, ↓fr_mk_clock, ↓fr_mk_sec, ↓foldl_fr, ↓ite_fr, ite_self, implies_true]

theorem State.schedule_fr (s : State) (objs : List (Nat × Nat)) (c : Change) : (State.schedule s objs c).fr = s.fr := by
  unfold State.schedule
  simp only [↓fr_mk, ↓fr_mk_clock, ↓fr_mk_sec, ↓foldl_fr, ↓ite_fr, ↓State.due_fr, ite_self, implies_true]

theorem State.sendMsix_fr (s : State) (v : Nat) : (State.sendMsix s v).fr = s.fr := by
  unfold State.sendMsix
  simp only [↓fr_mk, ↓fr_mk_clock, ↓fr_mk_sec, ↓foldl_fr, ↓ite_fr, ite_self, implies_true]

theorem State.signal_fr (s : State) (rid : Nat) : (State.signal s rid).fr = s.fr := by
  unfold State.signal
  simp only [↓fr_mk, ↓fr_mk_clock, ↓fr_mk_sec, ↓foldl_fr, ↓ite_fr, ↓State.putHring_fr, ↓State.sendMsix_fr, ite_self, implies_true]

theorem State.signalGap_fr (s : State) (rid : Nat) : (State.signalGap s rid).fr = s.fr := by
  unfold State.signalGap
  simp only [↓fr_mk, ↓fr_mk_clock, ↓fr_mk_sec, ↓foldl_fr, ↓ite_fr, ↓State.modHring_fr, ↓State.signal_fr, ite_self, implies_true]

theorem State.advanceRing_fr (s : State) (rid : Nat) : (State.advanceRing s rid).fr = s.fr := by
  unfold State.advanceRing
  simp only [↓fr_mk, ↓fr_mk_clock, ↓fr_mk_sec, ↓foldl_fr, ↓ite_fr, ↓State.putHring_fr, ite_self, implies_true]

theorem State.putEvent_fr (s : State) (k : Nat) (e : EventRec) (sorted : Bool) : (State.putEvent s k e sorted).1.fr = s.fr := by
  unfold State.putEvent
  repeat' first
  | with_reducible rfl
  | simp only [↓fr_mk, ↓fr_mk_clock, ↓fr_mk_sec, ↓foldl_fr, ↓ite_fr, ↓ite_fst, ↓fold_fst_fr, ↓State.putHring_fr, ↓State.bump_fr, ↓State.signalGap_fr, ↓State.advanceRing_fr, ite_self, implies_true]
  | split
  | refine (foldl_fr _ (fun _ _ => ?_) _ _).trans ?_
  | refine (fold_fst_fr _ (fun _ _ => ?_) _ _).trans ?_
  | refine pair_fr (by assumption) ?_
  | exact rfl

theorem State.ringRoom_fr (s : State) (west : Bool) : (State.ringRoom s west).fr = s.fr := by
  unfold State.ringRoom
  simp only [↓fr_mk, ↓fr_mk_clock, ↓fr_mk_sec, ↓foldl_fr, ↓ite_fr, ite_self, implies_true]

theorem State.ringSend_fr (s : State) (dest type : Nat) (payload : List Byte) : (State.ringSend s dest type payload).fr = s.fr := by
  unfold State.ringSend
  repeat' first
  | with_reducible rfl
  | simp only [↓fr_mk, ↓fr_mk_clock, ↓fr_mk_sec, ↓foldl_fr, ↓ite_fr, ↓State.ringRoom_fr, ite_self, implies_true]
  | split
  | refine (foldl_fr _ (fun _ _ => ?_) _ _).trans ?_
  | refine (fold_fst_fr _ (fun _ _ => ?_) _ _).trans ?_
  | refine pair_fr (by assumption) ?_
  | exact rfl

theorem State.setStatus_fr (s : State) (src : Nat) : (State.setStatus s src).fr = s.fr := by
  unfold State.setStatus
  simp only [↓fr_mk, ↓fr_mk_clock, ↓fr_mk_sec, ↓foldl_fr, ↓ite_fr, ↓State.putEvStatus_fr, ↓State.putEvSetAt_fr, ↓State.putEvRaisedAt_fr, ite_self, implies_true]

theorem State.consumed_fr (s : State) (a : BitVec 64) : (State.consumed s a).fr = s.fr := by
  unfold State.consumed
  simp only [↓State.bump_fr]

theorem State.clearLogPoison_fr (s : State) (slot : Nat) : (State.clearLogPoison s slot).fr = s.fr := rfl

theorem State.record_fr (s : State) (e : LogEntry) : (State.record s e).fr = s.fr := by
  unfold State.record
  simp only [↓State.clearLogPoison_fr, ↓fr_mk, ↓fr_mk_clock, ↓fr_mk_sec, ↓foldl_fr, ↓ite_fr, ↓State.bump_fr, ite_self, implies_true]

theorem State.dropNotice_fr (s : State) (k : Nat) : (State.dropNotice s k).fr = s.fr := by
  unfold State.dropNotice
  simp only [↓fr_mk, ↓fr_mk_clock, ↓fr_mk_sec, ↓foldl_fr, ↓ite_fr, ↓ite_fst, ↓fold_fst_fr, ↓State.putHring_fr, ↓State.putEvent_fr, ↓State.setStatus_fr, ↓State.record_fr, ite_self, implies_true]

theorem State.writeEvent_fr (s : State) (k : Nat) (e : EventRec) (sorted : Bool) : (State.writeEvent s k e sorted).fr = s.fr := by
  unfold State.writeEvent
  simp only [↓fr_mk, ↓fr_mk_clock, ↓fr_mk_sec, ↓foldl_fr, ↓ite_fr, ↓ite_fst, ↓fold_fst_fr, ↓State.putEvent_fr, ↓State.dropNotice_fr, ite_self, implies_true]

theorem State.flushEvents_fr (s : State) : (State.flushEvents s).fr = s.fr := by
  unfold State.flushEvents
  repeat' first
  | with_reducible rfl
  | simp only [↓fr_mk, ↓fr_mk_clock, ↓fr_mk_sec, ↓foldl_fr, ↓ite_fr, ↓ite_fst, ↓fold_fst_fr, ↓State.ringSend_fr, ↓State.writeEvent_fr, ite_self, implies_true]
  | split
  | refine (foldl_fr _ (fun _ _ => ?_) _ _).trans ?_
  | refine (fold_fst_fr _ (fun _ _ => ?_) _ _).trans ?_
  | refine pair_fr (by assumption) ?_
  | exact rfl

theorem State.emit_fr (s : State) (src sev inst : Nat) (detail : BitVec 64) : (State.emit s src sev inst detail).fr = s.fr := by
  unfold State.emit
  repeat' first
  | with_reducible rfl
  | simp only [↓fr_mk, ↓fr_mk_clock, ↓fr_mk_sec, ↓foldl_fr, ↓ite_fr, ↓State.setStatus_fr, ↓State.writeEvent_fr, ite_self, implies_true]
  | split
  | refine (foldl_fr _ (fun _ _ => ?_) _ _).trans ?_
  | refine (fold_fst_fr _ (fun _ _ => ?_) _ _).trans ?_
  | refine pair_fr (by assumption) ?_
  | exact rfl

theorem State.raiseBase_fr (s : State) (src sev inst : Nat) (detail : BitVec 64) (wire perm : Bool) (reaction : Nat) : (State.raiseBase s src sev inst detail wire perm reaction).fr = s.fr := by
  unfold State.raiseBase
  simp only [↓fr_mk, ↓fr_mk_clock, ↓fr_mk_sec, ↓foldl_fr, ↓ite_fr, ↓State.record_fr, ↓State.emit_fr, ite_self, implies_true]

theorem State.note_fr (s : State) (src inst : Nat) (detail : BitVec 64) : (State.note s src inst detail).fr = s.fr := by
  unfold State.note
  simp only [↓fr_mk, ↓fr_mk_clock, ↓fr_mk_sec, ↓foldl_fr, ↓ite_fr, ↓State.raiseBase_fr, ite_self, implies_true]

theorem State.noteOnceAs_fr (s : State) (src inst : Nat) (detail : BitVec 64) : (State.noteOnceAs s src inst detail).fr = s.fr := by
  unfold State.noteOnceAs
  simp only [↓fr_mk, ↓fr_mk_clock, ↓fr_mk_sec, ↓foldl_fr, ↓ite_fr, ↓State.putOnceEpoch_fr, ↓State.note_fr, ite_self, implies_true]

theorem State.noteOnce_fr (s : State) (src inst : Nat) (detail : BitVec 64) : (State.noteOnce s src inst detail).fr = s.fr := by
  unfold State.noteOnce
  simp only [↓fr_mk, ↓fr_mk_clock, ↓fr_mk_sec, ↓foldl_fr, ↓ite_fr, ↓State.putOnceEpoch_fr, ↓State.note_fr, ite_self, implies_true]

theorem State.enterHoldover_fr (s : State) (n : Nat) : (State.enterHoldover s n).fr = s.fr := by
  unfold State.enterHoldover
  simp only [↓fr_mk, ↓fr_mk_clock, ↓fr_mk_sec, ↓foldl_fr, ↓ite_fr, ↓State.putDomain_fr, ↓State.note_fr, ite_self, implies_true]

theorem State.recover_fr (s : State) (n : Nat) : (State.recover s n).fr = s.fr := by
  unfold State.recover
  simp only [↓fr_mk, ↓fr_mk_clock, ↓fr_mk_sec, ↓foldl_fr, ↓ite_fr, ↓State.modDomain_fr, ↓State.note_fr, ite_self, implies_true]

theorem State.ppsBack_fr (s : State) (n : Nat) (wrap : Bool) : (State.ppsBack s n wrap).fr = s.fr := by
  unfold State.ppsBack
  repeat' first
  | with_reducible rfl
  | simp only [↓fr_mk, ↓fr_mk_clock, ↓fr_mk_sec, ↓foldl_fr, ↓ite_fr, ↓State.modPps_fr, ite_self, implies_true]
  | split
  | refine (foldl_fr _ (fun _ _ => ?_) _ _).trans ?_
  | refine (fold_fst_fr _ (fun _ _ => ?_) _ _).trans ?_
  | refine pair_fr (by assumption) ?_
  | exact rfl

theorem State.stepTo_fr (s : State) (n v : Nat) : (State.stepTo s n v).fr = s.fr := by
  unfold State.stepTo
  simp only [↓fr_mk, ↓fr_mk_clock, ↓fr_mk_sec, ↓foldl_fr, ↓ite_fr, ↓State.putDomain_fr, ↓State.note_fr, ↓State.ppsBack_fr, ite_self, implies_true]

theorem State.leaveTwin_fr (s : State) : (State.leaveTwin s).fr = s.fr := by
  unfold State.leaveTwin
  simp only [↓fr_mk, ↓fr_mk_clock, ↓fr_mk_sec, ↓foldl_fr, ↓ite_fr, ↓State.enterHoldover_fr, ite_self, implies_true]

theorem State.enterTwin_fr (s : State) : (State.enterTwin s).fr = s.fr := by
  unfold State.enterTwin
  simp only [↓fr_mk, ↓fr_mk_clock, ↓fr_mk_sec, ↓foldl_fr, ↓ite_fr, ↓State.modDomain_fr, ite_self, implies_true]

theorem State.resyncFailed_fr (s : State) : (State.resyncFailed s).fr = s.fr := by
  unfold State.resyncFailed
  simp only [↓fr_mk, ↓fr_mk_clock, ↓fr_mk_sec, ↓foldl_fr, ↓ite_fr, ↓State.schedule_fr, ↓State.note_fr, ite_self, implies_true]

theorem State.disconnect_fr (s : State) : (State.disconnect s).fr = s.fr := by
  unfold State.disconnect
  simp only [↓fr_mk, ↓fr_mk_clock, ↓fr_mk_sec, ↓foldl_fr, ↓ite_fr, ↓State.leaveTwin_fr, ↓State.resyncFailed_fr, ite_self, implies_true]

theorem State.keyLost_fr (s : State) : (State.keyLost s).fr = s.fr := by
  unfold State.keyLost
  simp only [↓fr_mk, ↓fr_mk_clock, ↓fr_mk_sec, ↓foldl_fr, ↓ite_fr, ↓State.note_fr, ↓State.disconnect_fr, ite_self, implies_true]

theorem State.startSpare_fr (s : State) (store bank : Nat) (back : Bool) : (State.startSpare s store bank back).fr = s.fr := by
  unfold State.startSpare
  simp only [↓fr_mk, ↓fr_mk_clock, ↓fr_mk_sec, ↓foldl_fr, ↓ite_fr, ite_self, implies_true]

theorem State.fenceCipher_fr (s : State) (e : Nat) : (State.fenceCipher s e).fr = s.fr := by
  unfold State.fenceCipher
  simp only [↓fr_mk, ↓fr_mk_clock, ↓fr_mk_sec, ↓foldl_fr, ↓ite_fr, ↓State.modCengine_fr, ↓State.note_fr, ↓State.keyLost_fr, ite_self, implies_true]

theorem State.placeOne_fr (s : State) (j : ArmJob) : (State.placeOne s j).fr = s.fr := by
  unfold State.placeOne
  repeat' first
  | with_reducible rfl
  | simp only [↓fr_mk, ↓fr_mk_clock, ↓fr_mk_sec, ↓foldl_fr, ↓ite_fr, ↓State.modEngine_fr, ite_self, implies_true]
  | split
  | refine (foldl_fr _ (fun _ _ => ?_) _ _).trans ?_
  | refine (fold_fst_fr _ (fun _ _ => ?_) _ _).trans ?_
  | refine pair_fr (by assumption) ?_
  | exact rfl

theorem State.moveQueue_fr (s : State) (e : Nat) : (State.moveQueue s e).fr = s.fr := by
  unfold State.moveQueue
  repeat' first
  | with_reducible rfl
  | simp only [↓fr_mk, ↓fr_mk_clock, ↓fr_mk_sec, ↓foldl_fr, ↓ite_fr, ↓State.modEngine_fr, ↓State.placeOne_fr, ite_self, implies_true]
  | split
  | refine (foldl_fr _ (fun _ _ => ?_) _ _).trans ?_
  | refine (fold_fst_fr _ (fun _ _ => ?_) _ _).trans ?_
  | refine pair_fr (by assumption) ?_
  | exact rfl

theorem State.fenceEngine_fr (s : State) (e : Nat) : (State.fenceEngine s e).fr = s.fr := by
  unfold State.fenceEngine
  simp only [↓fr_mk, ↓fr_mk_clock, ↓fr_mk_sec, ↓foldl_fr, ↓ite_fr, ↓State.modEngine_fr, ↓State.note_fr, ↓State.moveQueue_fr, ite_self, implies_true]

theorem State.retryAction_fr (s : State) (src : Nat) (detail : BitVec 64) : (State.retryAction s src detail).fr = s.fr := by
  unfold State.retryAction
  simp only [↓fr_mk, ↓fr_mk_clock, ↓fr_mk_sec, ↓foldl_fr, ↓ite_fr, ite_self, implies_true]

theorem State.fenceAction_fr (s : State) (src inst : Nat) : (State.fenceAction s src inst).fr = s.fr := by
  unfold State.fenceAction
  simp only [↓fr_mk, ↓fr_mk_clock, ↓fr_mk_sec, ↓foldl_fr, ↓ite_fr, ↓State.schedule_fr, ↓State.fenceCipher_fr, ↓State.fenceEngine_fr, ite_self, implies_true]

theorem State.isolateAction_fr (s : State) : (State.isolateAction s).fr = s.fr := by
  unfold State.isolateAction
  simp only [↓fr_mk, ↓fr_mk_clock, ↓fr_mk_sec, ↓foldl_fr, ↓ite_fr, ↓State.schedule_fr, ↓State.note_fr, ite_self, implies_true]

theorem State.noteUnit_fr (s : State) (u : UnitRef) (op : Nat) (h : Hdr) : (State.noteUnit s u op h).fr = s.fr := by
  unfold State.noteUnit
  simp only [↓fr_mk, ↓fr_mk_clock, ↓fr_mk_sec, ↓foldl_fr, ↓ite_fr, ite_self, implies_true]

theorem State.cancelUnit_fr (s : State) (u : UnitRef) : (State.cancelUnit s u).fr = s.fr := by
  unfold State.cancelUnit
  repeat' first
  | with_reducible rfl
  | simp only [↓fr_mk, ↓fr_mk_clock, ↓fr_mk_sec, ↓foldl_fr, ↓ite_fr, ↓onUnit_fr, ite_self, implies_true]
  | split
  | refine (foldl_fr _ (fun _ _ => ?_) _ _).trans ?_
  | refine (fold_fst_fr _ (fun _ _ => ?_) _ _).trans ?_
  | refine pair_fr (by assumption) ?_
  | exact rfl

theorem State.retireAction_fr (s t : State) (src inst : Nat) (h : s.retireAction src inst = some t) : t.fr = s.fr := by
  unfold State.retireAction at h
  (repeat' split at h) <;> first
    | contradiction
    | (injection h with h; subst h; first | exact s.schedule_fr .. | exact s.startSpare_fr ..)
    | (simp only [Option.ite_none_right_eq_some, Option.some.injEq] at h
       obtain ⟨_, h⟩ := h
       subst h
       exact s.schedule_fr ..)

theorem State.applyReaction_fr (s : State) (r src inst : Nat) (detail : BitVec 64) :
    (State.applyReaction s r src inst detail).1.fr = s.fr := by
  unfold State.applyReaction
  split
  · exact s.isolateAction_fr
  split
  · exact s.retryAction_fr src detail
  split
  · exact s.fenceAction_fr src inst
  split
  · split
    · next t h => exact s.retireAction_fr t src inst h
    · rfl
  · rfl

theorem State.countRaise_fr (s : State) (src inst : Nat) : (State.countRaise s src inst).1.fr = s.fr := by
  unfold State.countRaise
  repeat' first
  | with_reducible rfl
  | simp only [↓fr_mk, ↓fr_mk_clock, ↓fr_mk_sec, ↓foldl_fr, ↓ite_fr, ↓ite_fst, ↓fold_fst_fr, ↓State.putFaultInst_fr, ite_self, implies_true]
  | split
  | refine (foldl_fr _ (fun _ _ => ?_) _ _).trans ?_
  | refine (fold_fst_fr _ (fun _ _ => ?_) _ _).trans ?_
  | refine pair_fr (by assumption) ?_
  | exact rfl

theorem State.reactTo_fr (s : State) (src inst : Nat) (detail : BitVec 64) (declared : Bool) : (State.reactTo s src inst detail declared).1.fr = s.fr := by
  unfold State.reactTo
  repeat' first
  | with_reducible rfl
  | simp only [↓fr_mk, ↓fr_mk_clock, ↓fr_mk_sec, ↓foldl_fr, ↓ite_fr, ↓ite_fst, ↓fold_fst_fr, ↓State.cancelUnit_fr, ↓State.applyReaction_fr, ite_self, implies_true]
  | split
  | refine (foldl_fr _ (fun _ _ => ?_) _ _).trans ?_
  | refine (fold_fst_fr _ (fun _ _ => ?_) _ _).trans ?_
  | refine pair_fr (by assumption) ?_
  | exact rfl

theorem State.raise_fr (s : State) (src inst : Nat) (detail : BitVec 64) : (State.raise s src inst detail).fr = s.fr := by
  unfold State.raise
  simp only [↓fr_mk, ↓fr_mk_clock, ↓fr_mk_sec, ↓foldl_fr, ↓ite_fr, ↓ite_fst, ↓fold_fst_fr, ↓State.raiseBase_fr, ↓State.note_fr, ↓State.countRaise_fr, ↓State.reactTo_fr, ite_self, implies_true]

theorem State.raiseOnce_fr (s : State) (src inst : Nat) (detail : BitVec 64) : (State.raiseOnce s src inst detail).fr = s.fr := by
  unfold State.raiseOnce
  simp only [↓fr_mk, ↓fr_mk_clock, ↓fr_mk_sec, ↓foldl_fr, ↓ite_fr, ↓State.putOnceEpoch_fr, ↓State.raise_fr, ite_self, implies_true]

theorem State.clearPermanence_fr (s : State) (src inst : Nat) : (State.clearPermanence s src inst).fr = s.fr := by
  unfold State.clearPermanence
  simp only [↓fr_mk, ↓fr_mk_clock, ↓fr_mk_sec, ↓foldl_fr, ↓ite_fr, ↓State.putFaultInst_fr, ite_self, implies_true]

theorem State.eccCorrected_fr (s : State) (x inst : Nat) (addr : BitVec 64) : (State.eccCorrected s x inst addr).fr = s.fr := by
  unfold State.eccCorrected
  simp only [↓fr_mk, ↓fr_mk_clock, ↓fr_mk_sec, ↓foldl_fr, ↓ite_fr, ↓State.bump_fr, ↓State.raise_fr, ite_self, implies_true]

theorem State.eccUncorrected_fr (s : State) (x inst : Nat) (addr : BitVec 64) : (State.eccUncorrected s x inst addr).fr = s.fr := by
  unfold State.eccUncorrected
  simp only [↓fr_mk, ↓fr_mk_clock, ↓fr_mk_sec, ↓foldl_fr, ↓ite_fr, ↓State.bump_fr, ↓State.raise_fr, ite_self, implies_true]

end Sys2Proof.Machine
end

