-- ==== Sys2Proof/Laws/FrameBuffer.lean ====
section
/-! SUPPORT. Frames of the buffer, the Trellis and the lookups. -/

namespace Sys2Proof.Machine
theorem State.raisePeak_fr (s : State) (gauge i v : Nat) : (State.raisePeak s gauge i v).fr = s.fr := by
  unfold State.raisePeak
  simp only [↓fr_mk, ↓fr_mk_clock, ↓fr_mk_sec, ↓foldl_fr, ↓ite_fr, ↓State.modPeak_fr, ite_self, implies_true]

theorem State.setNow_fr (s : State) (c : Counts) : (State.setNow s c).fr = s.fr := by
  unfold State.setNow
  simp only [↓fr_mk, ↓fr_mk_clock, ↓fr_mk_sec, ↓foldl_fr, ↓ite_fr, ite_self, implies_true]

theorem State.putCq_fr (s : State) (q v : Nat) : (State.putCq s q v).fr = s.fr := by
  unfold State.putCq
  simp only [↓fr_mk, ↓fr_mk_clock, ↓fr_mk_sec, ↓foldl_fr, ↓ite_fr, ↓State.raisePeak_fr, ↓State.setNow_fr, ite_self, implies_true]

theorem State.putPoolUsed_fr (s : State) (o v : Nat) : (State.putPoolUsed s o v).fr = s.fr := by
  unfold State.putPoolUsed
  simp only [↓fr_mk, ↓fr_mk_clock, ↓fr_mk_sec, ↓foldl_fr, ↓ite_fr, ↓State.raisePeak_fr, ↓State.setNow_fr, ite_self, implies_true]

theorem State.putPgCells_fr (s : State) (k v : Nat) : (State.putPgCells s k v).fr = s.fr := by
  unfold State.putPgCells
  simp only [↓fr_mk, ↓fr_mk_clock, ↓fr_mk_sec, ↓foldl_fr, ↓ite_fr, ↓State.raisePeak_fr, ↓State.setNow_fr, ite_self, implies_true]

theorem State.putHeadCells_fr (s : State) (k v : Nat) : (State.putHeadCells s k v).fr = s.fr := by
  unfold State.putHeadCells
  simp only [↓fr_mk, ↓fr_mk_clock, ↓fr_mk_sec, ↓foldl_fr, ↓ite_fr, ↓State.raisePeak_fr, ↓State.setNow_fr, ite_self, implies_true]

theorem State.modPktD_fr (s : State) (pid : Nat) (f : Pkt → Pkt) : (State.modPktD s pid f).fr = s.fr := by
  unfold State.modPktD
  repeat' first
  | with_reducible rfl
  | simp only [↓fr_mk, ↓fr_mk_clock, ↓fr_mk_sec, ↓foldl_fr, ↓ite_fr, ↓State.putPkt_fr, ite_self, implies_true]
  | split
  | refine (foldl_fr _ (fun _ _ => ?_) _ _).trans ?_
  | refine (fold_fst_fr _ (fun _ _ => ?_) _ _).trans ?_
  | refine pair_fr (by assumption) ?_
  | exact rfl

theorem State.modCopyD_fr (s : State) (cid : Nat) (f : Copy → Copy) : (State.modCopyD s cid f).fr = s.fr := by
  unfold State.modCopyD
  repeat' first
  | with_reducible rfl
  | simp only [↓fr_mk, ↓fr_mk_clock, ↓fr_mk_sec, ↓foldl_fr, ↓ite_fr, ↓State.putCopy_fr, ite_self, implies_true]
  | split
  | refine (foldl_fr _ (fun _ _ => ?_) _ _).trans ?_
  | refine (fold_fst_fr _ (fun _ _ => ?_) _ _).trans ?_
  | refine pair_fr (by assumption) ?_
  | exact rfl

theorem State.putCellData_fr (s : State) (n : Nat) (v : List Byte) : (State.putCellData s n v).fr = s.fr := by
  unfold State.putCellData
  simp only [↓fr_mk, ↓fr_mk_clock, ↓fr_mk_sec, ↓foldl_fr, ↓ite_fr, ite_self, implies_true]

theorem State.useCycle_fr (s : State) (part bank : Nat) : (State.useCycle s part bank).fr = s.fr := by
  unfold State.useCycle
  simp only [↓fr_mk, ↓fr_mk_clock, ↓fr_mk_sec, ↓foldl_fr, ↓ite_fr, ↓State.putPartCycles_fr, ite_self, implies_true]

theorem State.useCellCycle_fr (s : State) (n : Nat) : (State.useCellCycle s n).fr = s.fr := by
  unfold State.useCellCycle
  simp only [↓fr_mk, ↓fr_mk_clock, ↓fr_mk_sec, ↓foldl_fr, ↓ite_fr, ↓State.useCycle_fr, ite_self, implies_true]

theorem State.startRebuild_fr (s : State) (p b : Nat) : (State.startRebuild s p b).fr = s.fr := by
  unfold State.startRebuild
  simp only [↓fr_mk, ↓fr_mk_clock, ↓fr_mk_sec, ↓foldl_fr, ↓ite_fr, ↓State.modPart_fr, ite_self, implies_true]

theorem State.refillBank_fr (s : State) (p : Nat) (fuel b : Nat) : (State.refillBank s p fuel b).fr = s.fr := by
  induction fuel generalizing s with
  | zero => rfl
  | succ k ih =>
    unfold State.refillBank
    repeat' first
    | with_reducible rfl
    | simp only [↓fr_mk, ↓fr_mk_clock, ↓fr_mk_sec, ↓foldl_fr, ↓ite_fr, ↓State.putPart_fr, ↓State.raise_fr, ↓State.useCycle_fr, ↓State.startRebuild_fr, ih, ite_self, implies_true]
    | split
    | refine (foldl_fr _ (fun _ _ => ?_) _ _).trans ?_
    | refine pair_fr (by assumption) ?_

theorem State.refillHeads_fr (s : State) (p : Nat) : (State.refillHeads s p).fr = s.fr := by
  unfold State.refillHeads
  repeat' first
  | with_reducible rfl
  | simp only [↓fr_mk, ↓fr_mk_clock, ↓fr_mk_sec, ↓foldl_fr, ↓ite_fr, ↓State.refillBank_fr, ite_self, implies_true]
  | split
  | refine (foldl_fr _ (fun _ _ => ?_) _ _).trans ?_
  | refine (fold_fst_fr _ (fun _ _ => ?_) _ _).trans ?_
  | refine pair_fr (by assumption) ?_
  | exact rfl

theorem State.chargeCell_fr (s : State) (part cls : Nat) (pg : Option Nat) : (State.chargeCell s part cls pg).fr = s.fr := by
  unfold State.chargeCell
  repeat' first
  | with_reducible rfl
  | simp only [↓fr_mk, ↓fr_mk_clock, ↓fr_mk_sec, ↓foldl_fr, ↓ite_fr, ↓State.modPart_fr, ↓State.putPoolUsed_fr, ↓State.putPgCells_fr, ↓State.putHeadCells_fr, ite_self, implies_true]
  | split
  | refine (foldl_fr _ (fun _ _ => ?_) _ _).trans ?_
  | refine (fold_fst_fr _ (fun _ _ => ?_) _ _).trans ?_
  | refine pair_fr (by assumption) ?_
  | exact rfl

theorem State.dischargeCell_fr (s : State) (part cls : Nat) (pg : Option Nat) : (State.dischargeCell s part cls pg).fr = s.fr := by
  unfold State.dischargeCell
  repeat' first
  | with_reducible rfl
  | simp only [↓fr_mk, ↓fr_mk_clock, ↓fr_mk_sec, ↓foldl_fr, ↓ite_fr, ↓State.modPart_fr, ↓State.putPoolUsed_fr, ↓State.putPgCells_fr, ↓State.putHeadCells_fr, ite_self, implies_true]
  | split
  | refine (foldl_fr _ (fun _ _ => ?_) _ _).trans ?_
  | refine (fold_fst_fr _ (fun _ _ => ?_) _ _).trans ?_
  | refine pair_fr (by assumption) ?_
  | exact rfl

theorem State.queueFree_fr (s : State) (cell owner source slice : Nat) (pg : Option Nat) : (State.queueFree s cell owner source slice pg).fr = s.fr := by
  unfold State.queueFree
  simp only [↓fr_mk, ↓fr_mk_clock, ↓fr_mk_sec, ↓foldl_fr, ↓ite_fr, ↓State.modPart_fr, ↓State.raisePeak_fr, ite_self, implies_true]

theorem State.foreignFree_fr (s : State) (f : FreeReq) : (State.foreignFree s f).fr = s.fr := by
  unfold State.foreignFree
  simp only [↓fr_mk, ↓fr_mk_clock, ↓fr_mk_sec, ↓foldl_fr, ↓ite_fr, ↓State.bump_fr, ↓State.raise_fr, ite_self, implies_true]

theorem State.releaseCell_fr (s : State) (cell owner source slice : Nat) (pg : Option Nat) : (State.releaseCell s cell owner source slice pg).fr = s.fr := by
  unfold State.releaseCell
  simp only [↓fr_mk, ↓fr_mk_clock, ↓fr_mk_sec, ↓foldl_fr, ↓ite_fr, ↓State.putCellAt_fr, ↓State.queueFree_fr, ↓State.foreignFree_fr, ite_self, implies_true]

theorem State.linkCell_fr (s : State) (n : Nat) : (State.linkCell s n).fr = s.fr := by
  unfold State.linkCell
  repeat' first
  | with_reducible rfl
  | simp only [↓fr_mk, ↓fr_mk_clock, ↓fr_mk_sec, ↓foldl_fr, ↓ite_fr, ↓State.putCellData_fr, ite_self, implies_true]
  | split
  | refine (foldl_fr _ (fun _ _ => ?_) _ _).trans ?_
  | refine (fold_fst_fr _ (fun _ _ => ?_) _ _).trans ?_
  | refine pair_fr (by assumption) ?_
  | exact rfl

theorem State.noteLanded_fr (s : State) (cell : Nat) : (State.noteLanded s cell).fr = s.fr := by
  unfold State.noteLanded
  repeat' first
  | with_reducible rfl
  | simp only [↓fr_mk, ↓fr_mk_clock, ↓fr_mk_sec, ↓foldl_fr, ↓ite_fr, ↓State.modPkt_fr, ite_self, implies_true]
  | split
  | refine (foldl_fr _ (fun _ _ => ?_) _ _).trans ?_
  | refine (fold_fst_fr _ (fun _ _ => ?_) _ _).trans ?_
  | refine pair_fr (by assumption) ?_
  | exact rfl

theorem State.landFree_fr (s : State) (f : FreeReq) : (State.landFree s f).fr = s.fr := by
  unfold State.landFree
  simp only [↓fr_mk, ↓fr_mk_clock, ↓fr_mk_sec, ↓foldl_fr, ↓ite_fr, ↓State.putCellAt_fr, ↓State.modPart_fr, ↓State.bump_fr, ↓State.raise_fr, ↓State.raisePeak_fr, ↓State.useCellCycle_fr, ↓State.dischargeCell_fr, ↓State.foreignFree_fr, ↓State.linkCell_fr, ↓State.noteLanded_fr, ite_self, implies_true]

theorem State.uncharge_fr (s : State) (cid n : Nat) : (State.uncharge s cid n).fr = s.fr := by
  unfold State.uncharge
  repeat' first
  | with_reducible rfl
  | simp only [↓fr_mk, ↓fr_mk_clock, ↓fr_mk_sec, ↓foldl_fr, ↓ite_fr, ↓State.putCopy_fr, ↓State.putCq_fr, ite_self, implies_true]
  | split
  | refine (foldl_fr _ (fun _ _ => ?_) _ _).trans ?_
  | refine (fold_fst_fr _ (fun _ _ => ?_) _ _).trans ?_
  | refine pair_fr (by assumption) ?_
  | exact rfl

theorem State.releaseCells_fr (s : State) (cid source : Nat) (idxs : List Nat) : (State.releaseCells s cid source idxs).fr = s.fr := by
  unfold State.releaseCells
  repeat' first
  | with_reducible rfl
  | simp only [↓fr_mk, ↓fr_mk_clock, ↓fr_mk_sec, ↓foldl_fr, ↓ite_fr, ↓State.putCopy_fr, ↓State.releaseCell_fr, ite_self, implies_true]
  | split
  | refine (foldl_fr _ (fun _ _ => ?_) _ _).trans ?_
  | refine (fold_fst_fr _ (fun _ _ => ?_) _ _).trans ?_
  | refine pair_fr (by assumption) ?_
  | exact rfl

theorem State.unlinkCopy_fr (s : State) (cid : Nat) (c : Copy) : (State.unlinkCopy s cid c).fr = s.fr := by
  unfold State.unlinkCopy
  simp only [↓fr_mk, ↓fr_mk_clock, ↓fr_mk_sec, ↓foldl_fr, ↓ite_fr, ↓State.putQList_fr, ↓State.putOpenList_fr, ↓State.putReleased_fr, ↓State.putMacFifo_fr, ↓State.putSending_fr, ↓State.modSlice_fr, ite_self, implies_true]

theorem State.unqueuePkt_fr (s : State) (pid : Nat) : (State.unqueuePkt s pid).fr = s.fr := by
  unfold State.unqueuePkt
  repeat' first
  | with_reducible rfl
  | simp only [↓fr_mk, ↓fr_mk_clock, ↓fr_mk_sec, ↓foldl_fr, ↓ite_fr, ↓ite_fst, ↓fold_fst_fr, ↓State.modPktD_fr, ite_self, implies_true]
  | split
  | refine (foldl_fr _ (fun _ _ => ?_) _ _).trans ?_
  | refine (fold_fst_fr _ (fun _ _ => ?_) _ _).trans ?_
  | refine pair_fr (by assumption) ?_
  | exact rfl

theorem State.uncount_fr (s : State) (pid : Nat) : (State.uncount s pid).fr = s.fr := by
  unfold State.uncount
  repeat' first
  | with_reducible rfl
  | simp only [↓fr_mk, ↓fr_mk_clock, ↓fr_mk_sec, ↓foldl_fr, ↓ite_fr, ↓State.modInFlight_fr, ↓State.putPkt_fr, ↓State.modPktD_fr, ite_self, implies_true]
  | split
  | refine (foldl_fr _ (fun _ _ => ?_) _ _).trans ?_
  | refine (fold_fst_fr _ (fun _ _ => ?_) _ _).trans ?_
  | refine pair_fr (by assumption) ?_
  | exact rfl

theorem State.settlePkt_fr (s : State) (pid : Nat) : (State.settlePkt s pid).fr = s.fr := by
  unfold State.settlePkt
  repeat' first
  | with_reducible rfl
  | simp only [↓fr_mk, ↓fr_mk_clock, ↓fr_mk_sec, ↓foldl_fr, ↓ite_fr, ↓State.putPkt_fr, ↓State.advanceRing_fr, ↓State.unqueuePkt_fr, ↓State.uncount_fr, ite_self, implies_true]
  | split
  | refine (foldl_fr _ (fun _ _ => ?_) _ _).trans ?_
  | refine (fold_fst_fr _ (fun _ _ => ?_) _ _).trans ?_
  | refine pair_fr (by assumption) ?_
  | exact rfl

theorem State.moveShapers_fr (s : State) (q port : Nat) (n : Int) : (State.moveShapers s q port n).fr = s.fr := by
  unfold State.moveShapers
  simp only [↓fr_mk, ↓fr_mk_clock, ↓fr_mk_sec, ↓foldl_fr, ↓ite_fr, ↓State.modEqueue_fr, ↓State.modEport_fr, ite_self, implies_true]

theorem State.credit_fr (s : State) (cid sent : Nat) : (State.credit s cid sent).fr = s.fr := by
  unfold State.credit
  repeat' first
  | with_reducible rfl
  | simp only [↓fr_mk, ↓fr_mk_clock, ↓fr_mk_sec, ↓foldl_fr, ↓ite_fr, ↓State.putCopy_fr, ↓State.moveShapers_fr, ite_self, implies_true]
  | split
  | refine (foldl_fr _ (fun _ _ => ?_) _ _).trans ?_
  | refine (fold_fst_fr _ (fun _ _ => ?_) _ _).trans ?_
  | refine pair_fr (by assumption) ?_
  | exact rfl

theorem State.txDone_fr (s : State) (r : Nat) (x : TsRecord) : (State.txDone s r x).fr = s.fr := by
  unfold State.txDone
  simp only [↓fr_mk, ↓fr_mk_clock, ↓fr_mk_sec, ↓foldl_fr, ↓ite_fr, ↓State.signalGap_fr, ↓State.advanceRing_fr, ite_self, implies_true]

theorem State.txRecord_fr (s : State) (p : Pkt) (port kind ts : Nat) (at_ : Nat × Nat × Nat) : (State.txRecord s p port kind ts at_).fr = s.fr := by
  unfold State.txRecord
  repeat' first
  | with_reducible rfl
  | simp only [↓fr_mk, ↓fr_mk_clock, ↓fr_mk_sec, ↓foldl_fr, ↓ite_fr, ↓State.txDone_fr, ite_self, implies_true]
  | split
  | refine (foldl_fr _ (fun _ _ => ?_) _ _).trans ?_
  | refine (fold_fst_fr _ (fun _ _ => ?_) _ _).trans ?_
  | refine pair_fr (by assumption) ?_
  | exact rfl

theorem State.txDropped_fr (s : State) (cid : Nat) : (State.txDropped s cid).fr = s.fr := by
  unfold State.txDropped
  repeat' first
  | with_reducible rfl
  | simp only [↓fr_mk, ↓fr_mk_clock, ↓fr_mk_sec, ↓foldl_fr, ↓ite_fr, ↓State.txRecord_fr, ite_self, implies_true]
  | split
  | refine (foldl_fr _ (fun _ _ => ?_) _ _).trans ?_
  | refine (fold_fst_fr _ (fun _ _ => ?_) _ _).trans ?_
  | refine pair_fr (by assumption) ?_
  | exact rfl

theorem State.endCopy_fr (s : State) (cid source : Nat) : (State.endCopy s cid source).fr = s.fr := by
  unfold State.endCopy
  repeat' first
  | with_reducible rfl
  | simp only [↓fr_mk, ↓fr_mk_clock, ↓fr_mk_sec, ↓foldl_fr, ↓ite_fr, ↓State.putCopy_fr, ↓State.uncharge_fr, ↓State.releaseCells_fr, ↓State.unlinkCopy_fr, ↓State.settlePkt_fr, ↓State.credit_fr, ite_self, implies_true]
  | split
  | refine (foldl_fr _ (fun _ _ => ?_) _ _).trans ?_
  | refine (fold_fst_fr _ (fun _ _ => ?_) _ _).trans ?_
  | refine pair_fr (by assumption) ?_
  | exact rfl

theorem State.leaveMac_fr (s : State) (cid : Nat) : (State.leaveMac s cid).fr = s.fr := by
  unfold State.leaveMac
  repeat' first
  | with_reducible rfl
  | simp only [↓fr_mk, ↓fr_mk_clock, ↓fr_mk_sec, ↓foldl_fr, ↓ite_fr, ↓State.modCopyD_fr, ↓State.uncharge_fr, ↓State.unlinkCopy_fr, ↓State.credit_fr, ↓State.endCopy_fr, ite_self, implies_true]
  | split
  | refine (foldl_fr _ (fun _ _ => ?_) _ _).trans ?_
  | refine (fold_fst_fr _ (fun _ _ => ?_) _ _).trans ?_
  | refine pair_fr (by assumption) ?_
  | exact rfl

theorem State.dropCopy_fr (s : State) (cid source : Nat) : (State.dropCopy s cid source).fr = s.fr := by
  unfold State.dropCopy
  simp only [↓fr_mk, ↓fr_mk_clock, ↓fr_mk_sec, ↓foldl_fr, ↓ite_fr, ↓State.txDropped_fr, ↓State.endCopy_fr, ite_self, implies_true]

theorem State.finishCopy_fr (s : State) (cid : Nat) : (State.finishCopy s cid).fr = s.fr := by
  unfold State.finishCopy
  simp only [↓fr_mk, ↓fr_mk_clock, ↓fr_mk_sec, ↓foldl_fr, ↓ite_fr, ↓State.endCopy_fr, ite_self, implies_true]

theorem State.dropPkt_fr (s : State) (pid source : Nat) : (State.dropPkt s pid source).fr = s.fr := by
  unfold State.dropPkt
  repeat' first
  | with_reducible rfl
  | simp only [↓fr_mk, ↓fr_mk_clock, ↓fr_mk_sec, ↓foldl_fr, ↓ite_fr, ↓State.putPkt_fr, ↓State.queueFree_fr, ↓State.unqueuePkt_fr, ↓State.settlePkt_fr, ↓State.txRecord_fr, ↓State.dropCopy_fr, ite_self, implies_true]
  | split
  | refine (foldl_fr _ (fun _ _ => ?_) _ _).trans ?_
  | refine (fold_fst_fr _ (fun _ _ => ?_) _ _).trans ?_
  | refine pair_fr (by assumption) ?_
  | exact rfl

theorem State.countFlush_fr (s : State) (c : Copy) (extra : Ctr) : (State.countFlush s c extra).fr = s.fr := by
  unfold State.countFlush
  simp only [↓fr_mk, ↓fr_mk_clock, ↓fr_mk_sec, ↓foldl_fr, ↓ite_fr, ↓State.bump_fr, ite_self, implies_true]

theorem State.flushQueue_fr (s : State) (port q : Nat) (extra : Ctr) : (State.flushQueue s port q extra).fr = s.fr := by
  unfold State.flushQueue
  repeat' first
  | with_reducible rfl
  | simp only [↓fr_mk, ↓fr_mk_clock, ↓fr_mk_sec, ↓foldl_fr, ↓ite_fr, ↓State.dropCopy_fr, ↓State.countFlush_fr, ite_self, implies_true]
  | split
  | refine (foldl_fr _ (fun _ _ => ?_) _ _).trans ?_
  | refine (fold_fst_fr _ (fun _ _ => ?_) _ _).trans ?_
  | refine pair_fr (by assumption) ?_
  | exact rfl

theorem State.pushOut_fr (s : State) (pid pool : Nat) (v : Nat × Nat) : (State.pushOut s pid pool v).fr = s.fr := by
  unfold State.pushOut
  repeat' first
  | with_reducible rfl
  | simp only [↓fr_mk, ↓fr_mk_clock, ↓fr_mk_sec, ↓foldl_fr, ↓ite_fr, ↓State.perfCount_fr, ↓State.bump_fr, ↓State.modPktD_fr, ↓State.dropCopy_fr, ite_self, implies_true]
  | split
  | refine (foldl_fr _ (fun _ _ => ?_) _ _).trans ?_
  | refine (fold_fst_fr _ (fun _ _ => ?_) _ _).trans ?_
  | refine pair_fr (by assumption) ?_
  | exact rfl

theorem State.countRefusal_fr (s : State) (p : Pkt) (t : Target) (a : Admit) : (State.countRefusal s p t a).fr = s.fr := by
  unfold State.countRefusal
  repeat' first
  | with_reducible rfl
  | simp only [↓fr_mk, ↓fr_mk_clock, ↓fr_mk_sec, ↓foldl_fr, ↓ite_fr, ↓State.perfCount_fr, ↓State.bump_fr, ↓State.raiseOnce_fr, ite_self, implies_true]
  | split
  | refine (foldl_fr _ (fun _ _ => ?_) _ _).trans ?_
  | refine (fold_fst_fr _ (fun _ _ => ?_) _ _).trans ?_
  | refine pair_fr (by assumption) ?_
  | exact rfl

theorem State.addCopy_fr (s : State) (pid : Nat) (p : Pkt) (t : Target) : (State.addCopy s pid p t).fr = s.fr := by
  unfold State.addCopy
  simp only [↓fr_mk, ↓fr_mk_clock, ↓fr_mk_sec, ↓foldl_fr, ↓ite_fr, ↓State.putCopy_fr, ↓State.bump_fr, ↓State.modPktD_fr, ite_self, implies_true]

theorem State.admitCopy_fr (s : State) (pid : Nat) (t : Target) : (State.admitCopy s pid t).fr = s.fr := by
  unfold State.admitCopy
  repeat' first
  | with_reducible rfl
  | simp only [↓fr_mk, ↓fr_mk_clock, ↓fr_mk_sec, ↓foldl_fr, ↓ite_fr, ↓State.raiseOnce_fr, ↓State.pushOut_fr, ↓State.countRefusal_fr, ↓State.addCopy_fr, ite_self, implies_true]
  | split
  | refine (foldl_fr _ (fun _ _ => ?_) _ _).trans ?_
  | refine (fold_fst_fr _ (fun _ _ => ?_) _ _).trans ?_
  | refine pair_fr (by assumption) ?_
  | exact rfl

theorem State.recountCells_fr (s : State) (pid : Nat) : (State.recountCells s pid).fr = s.fr := by
  unfold State.recountCells
  repeat' first
  | with_reducible rfl
  | simp only [↓fr_mk, ↓fr_mk_clock, ↓fr_mk_sec, ↓foldl_fr, ↓ite_fr, ↓State.modCellAt_fr, ite_self, implies_true]
  | split
  | refine (foldl_fr _ (fun _ _ => ?_) _ _).trans ?_
  | refine (fold_fst_fr _ (fun _ _ => ?_) _ _).trans ?_
  | refine pair_fr (by assumption) ?_
  | exact rfl

theorem State.admitAll_fr (s : State) (pid : Nat) (ts : List Target) : (State.admitAll s pid ts).fr = s.fr := by
  unfold State.admitAll
  repeat' first
  | with_reducible rfl
  | simp only [↓fr_mk, ↓fr_mk_clock, ↓fr_mk_sec, ↓foldl_fr, ↓ite_fr, ↓State.modPktD_fr, ↓State.dropPkt_fr, ↓State.admitCopy_fr, ↓State.recountCells_fr, ite_self, implies_true]
  | split
  | refine (foldl_fr _ (fun _ _ => ?_) _ _).trans ?_
  | refine (fold_fst_fr _ (fun _ _ => ?_) _ _).trans ?_
  | refine pair_fr (by assumption) ?_
  | exact rfl

theorem State.enqueue_fr (s : State) (cid : Nat) : (State.enqueue s cid).fr = s.fr := by
  unfold State.enqueue
  repeat' first
  | with_reducible rfl
  | simp only [↓fr_mk, ↓fr_mk_clock, ↓fr_mk_sec, ↓foldl_fr, ↓ite_fr, ↓State.putCopy_fr, ↓State.putQList_fr, ite_self, implies_true]
  | split
  | refine (foldl_fr _ (fun _ _ => ?_) _ _).trans ?_
  | refine (fold_fst_fr _ (fun _ _ => ?_) _ _).trans ?_
  | refine pair_fr (by assumption) ?_
  | exact rfl

theorem State.xferError_fr (s : State) (chan : Nat) (e : XferErr) : (State.xferError s chan e).fr = s.fr := by
  unfold State.xferError
  repeat' first
  | with_reducible rfl
  | simp only [↓fr_mk, ↓fr_mk_clock, ↓fr_mk_sec, ↓foldl_fr, ↓ite_fr, ↓State.bump_fr, ↓State.raise_fr, ite_self, implies_true]
  | split
  | refine (foldl_fr _ (fun _ _ => ?_) _ _).trans ?_
  | refine (fold_fst_fr _ (fun _ _ => ?_) _ _).trans ?_
  | refine pair_fr (by assumption) ?_
  | exact rfl

theorem State.unqueueCell_fr (s : State) (sl pid idx : Nat) : (State.unqueueCell s sl pid idx).fr = s.fr := by
  unfold State.unqueueCell
  simp only [↓fr_mk, ↓fr_mk_clock, ↓fr_mk_sec, ↓foldl_fr, ↓ite_fr, ↓State.modSlice_fr, ite_self, implies_true]

theorem State.keepCell_fr (s : State) (sl pid idx j : Nat) : (State.keepCell s sl pid idx j).fr = s.fr := by
  unfold State.keepCell
  simp only [↓fr_mk, ↓fr_mk_clock, ↓fr_mk_sec, ↓foldl_fr, ↓ite_fr, ↓State.modSlice_fr, ite_self, implies_true]

theorem State.exportRefused_fr (s : State) (made : Option (Nat × Nat)) : (State.exportRefused s made).fr = s.fr := by
  unfold State.exportRefused
  repeat' first
  | with_reducible rfl
  | simp only [↓fr_mk, ↓fr_mk_clock, ↓fr_mk_sec, ↓foldl_fr, ↓ite_fr, ↓State.bump_fr, ite_self, implies_true]
  | split
  | refine (foldl_fr _ (fun _ _ => ?_) _ _).trans ?_
  | refine (fold_fst_fr _ (fun _ _ => ?_) _ _).trans ?_
  | refine pair_fr (by assumption) ?_
  | exact rfl

theorem State.refusePhys_fr (s : State) (pid : Nat) (p : Pkt) : (State.refusePhys s pid p).fr = s.fr := by
  unfold State.refusePhys
  repeat' first
  | with_reducible rfl
  | simp only [↓fr_mk, ↓fr_mk_clock, ↓fr_mk_sec, ↓foldl_fr, ↓ite_fr, ↓State.bump_fr, ↓State.dropPkt_fr, ↓State.exportRefused_fr, ite_self, implies_true]
  | split
  | refine (foldl_fr _ (fun _ _ => ?_) _ _).trans ?_
  | refine (fold_fst_fr _ (fun _ _ => ?_) _ _).trans ?_
  | refine pair_fr (by assumption) ?_
  | exact rfl

theorem State.endHeld_fr (s : State) (pid : Nat) (c : Ctr) (pipe : Nat) : (State.endHeld s pid c pipe).fr = s.fr := by
  unfold State.endHeld
  simp only [↓fr_mk, ↓fr_mk_clock, ↓fr_mk_sec, ↓foldl_fr, ↓ite_fr, ↓State.bump_fr, ↓State.modPktD_fr, ↓State.dropPkt_fr, ite_self, implies_true]

theorem State.dropRelayed_fr (s : State) (pid : Nat) : (State.dropRelayed s pid).fr = s.fr := by
  unfold State.dropRelayed
  simp only [↓fr_mk, ↓fr_mk_clock, ↓fr_mk_sec, ↓foldl_fr, ↓ite_fr, ↓State.modPktD_fr, ↓State.dropPkt_fr, ite_self, implies_true]

theorem State.allocFailed_fr (s : State) (sl pid idx j part : Nat) (p : Pkt) : (State.allocFailed s sl pid idx j part p).fr = s.fr := by
  unfold State.allocFailed
  repeat' first
  | with_reducible rfl
  | simp only [↓fr_mk, ↓fr_mk_clock, ↓fr_mk_sec, ↓foldl_fr, ↓ite_fr, ↓State.bump_fr, ↓State.raiseOnce_fr, ↓State.keepCell_fr, ↓State.refusePhys_fr, ↓State.endHeld_fr, ↓State.dropRelayed_fr, ite_self, implies_true]
  | split
  | refine (foldl_fr _ (fun _ _ => ?_) _ _).trans ?_
  | refine (fold_fst_fr _ (fun _ _ => ?_) _ _).trans ?_
  | refine pair_fr (by assumption) ?_
  | exact rfl

theorem State.pushDueNow_fr (s : State) (pid : Nat) : (State.pushDueNow s pid).fr = s.fr := by
  unfold State.pushDueNow
  repeat' first
  | with_reducible rfl
  | simp only [↓fr_mk, ↓fr_mk_clock, ↓fr_mk_sec, ↓foldl_fr, ↓ite_fr, ↓State.pushOut_fr, ↓State.refusePhys_fr, ite_self, implies_true]
  | split
  | refine (foldl_fr _ (fun _ _ => ?_) _ _).trans ?_
  | refine (fold_fst_fr _ (fun _ _ => ?_) _ _).trans ?_
  | refine pair_fr (by assumption) ?_
  | exact rfl

theorem State.runPushDue_fr (s : State) (turn : Nat) : (State.runPushDue s turn).fr = s.fr := by
  unfold State.runPushDue
  repeat' first
  | with_reducible rfl
  | simp only [↓fr_mk, ↓fr_mk_clock, ↓fr_mk_sec, ↓foldl_fr, ↓ite_fr, ↓State.due_fr, ↓State.pushDueNow_fr, ite_self, implies_true]
  | split
  | refine (foldl_fr _ (fun _ _ => ?_) _ _).trans ?_
  | refine (fold_fst_fr _ (fun _ _ => ?_) _ _).trans ?_
  | refine pair_fr (by assumption) ?_
  | exact rfl

theorem State.afterWrite_fr (s : State) (pid idx : Nat) : (State.afterWrite s pid idx).fr = s.fr := by
  unfold State.afterWrite
  repeat' first
  | with_reducible rfl
  | simp only [↓fr_mk, ↓fr_mk_clock, ↓fr_mk_sec, ↓foldl_fr, ↓ite_fr, ↓State.advanceRing_fr, ↓State.modCopyD_fr, ↓State.enqueue_fr, ite_self, implies_true]
  | split
  | refine (foldl_fr _ (fun _ _ => ?_) _ _).trans ?_
  | refine (fold_fst_fr _ (fun _ _ => ?_) _ _).trans ?_
  | refine pair_fr (by assumption) ?_
  | exact rfl

theorem State.freshCell_fr (s : State) (n : Nat) : (State.freshCell s n).fr = s.fr := by
  unfold State.freshCell
  simp only [↓fr_mk, ↓fr_mk_clock, ↓fr_mk_sec, ↓foldl_fr, ↓ite_fr, ite_self, implies_true]

theorem State.writeCell_fr (s : State) (pid idx part n : Nat) (p : Pkt) (poison : Bool) : (State.writeCell s pid idx part n p poison).fr = s.fr := by
  unfold State.writeCell
  repeat' first
  | with_reducible rfl
  | simp only [↓fr_mk, ↓fr_mk_clock, ↓fr_mk_sec, ↓foldl_fr, ↓ite_fr, ↓State.putCopy_fr, ↓State.putCellAt_fr, ↓State.putCq_fr, ↓State.modPktD_fr, ↓State.putCellData_fr, ↓State.useCellCycle_fr, ↓State.chargeCell_fr, ↓State.freshCell_fr, ite_self, implies_true]
  | split
  | refine (foldl_fr _ (fun _ _ => ?_) _ _).trans ?_
  | refine (fold_fst_fr _ (fun _ _ => ?_) _ _).trans ?_
  | refine pair_fr (by assumption) ?_
  | exact rfl

theorem State.popCell_fr {s : State} {p n : Nat} {t : State} (h : s.popCell p = some (n, t)) : t.fr = s.fr := by
  unfold State.popCell at h
  split at h
  · contradiction
  · dsimp only at h
    split at h <;> (injection h with h; injection h with _ h; subst h; rfl)

theorem State.stageACell_fr (s : State) (sl : Nat) (errs : List (Nat × XferErr)) (a : Nat × (Nat × Nat)) : (State.stageACell s sl errs a).fr = s.fr := by
  unfold State.stageACell
  repeat' first
  | with_reducible rfl
  | simp only [↓fr_mk, ↓fr_mk_clock, ↓fr_mk_sec, ↓foldl_fr, ↓ite_fr, ↓State.putCellAt_fr, ↓State.bump_fr, ↓State.modPktD_fr, ↓State.chargeCell_fr, ↓State.queueFree_fr, ↓State.xferError_fr, ↓State.unqueueCell_fr, ↓State.keepCell_fr, ↓State.allocFailed_fr, ↓State.afterWrite_fr, ↓State.writeCell_fr, ite_self, implies_true]
  | split
  | refine (foldl_fr _ (fun _ _ => ?_) _ _).trans ?_
  | refine (fold_fst_fr _ (fun _ _ => ?_) _ _).trans ?_
  | refine pair_fr (by assumption) ?_
  | exact rfl
  | exact State.popCell_fr ‹_›

theorem State.useReadCycle_fr (s : State) (cid idx : Nat) : (State.useReadCycle s cid idx).fr = s.fr := by
  unfold State.useReadCycle
  repeat' first
  | with_reducible rfl
  | simp only [↓fr_mk, ↓fr_mk_clock, ↓fr_mk_sec, ↓foldl_fr, ↓ite_fr, ↓State.useCellCycle_fr, ite_self, implies_true]
  | split
  | refine (foldl_fr _ (fun _ _ => ?_) _ _).trans ?_
  | refine (fold_fst_fr _ (fun _ _ => ?_) _ _).trans ?_
  | refine pair_fr (by assumption) ?_
  | exact rfl

theorem State.streamCells_fr (s : State) (pid : Nat) : (State.streamCells s pid).fr = s.fr := by
  unfold State.streamCells
  repeat' first
  | with_reducible rfl
  | simp only [↓fr_mk, ↓fr_mk_clock, ↓fr_mk_sec, ↓foldl_fr, ↓ite_fr, ↓State.modSlice_fr, ↓State.modPktD_fr, ite_self, implies_true]
  | split
  | refine (foldl_fr _ (fun _ _ => ?_) _ _).trans ?_
  | refine (fold_fst_fr _ (fun _ _ => ?_) _ _).trans ?_
  | refine pair_fr (by assumption) ?_
  | exact rfl

theorem State.startCells_fr (s : State) (pid len : Nat) : (State.startCells s pid len).fr = s.fr := by
  unfold State.startCells
  simp only [↓fr_mk, ↓fr_mk_clock, ↓fr_mk_sec, ↓foldl_fr, ↓ite_fr, ↓State.modPktD_fr, ↓State.streamCells_fr, ite_self, implies_true]

theorem State.stageATick_fr (s : State) (sl : Nat) (errs : List (Nat × XferErr)) : (State.stageATick s sl errs).fr = s.fr := by
  unfold State.stageATick
  repeat' first
  | with_reducible rfl
  | simp only [↓fr_mk, ↓fr_mk_clock, ↓fr_mk_sec, ↓foldl_fr, ↓ite_fr, ↓State.modSlice_fr, ↓State.stageACell_fr, ite_self, implies_true]
  | split
  | refine (foldl_fr _ (fun _ _ => ?_) _ _).trans ?_
  | refine (fold_fst_fr _ (fun _ _ => ?_) _ _).trans ?_
  | refine pair_fr (by assumption) ?_
  | exact rfl

theorem execStageATransfer_fr (slice : Nat) (errs : List (Nat × XferErr)) (s : State) : outFr (execStageATransfer slice errs s) s = s.fr := by
  unfold execStageATransfer
  simp only [↓outFr_next, ↓outFr_fault, ↓outFr_onUnit, ↓outFr_ite, ↓fr_mk, ↓fr_mk_clock, ↓fr_mk_sec, ↓foldl_fr, ↓ite_fr, ↓ite_fst, ↓fold_fst_fr, ↓onUnit_fr, ↓State.stageATick_fr, ite_self, implies_true]

theorem State.relinkRow_fr (s : State) (p b : Nat) : (State.relinkRow s p b).fr = s.fr := by
  unfold State.relinkRow
  repeat' first
  | with_reducible rfl
  | simp only [↓fr_mk, ↓fr_mk_clock, ↓fr_mk_sec, ↓foldl_fr, ↓ite_fr, ↓State.putPart_fr, ↓State.useCycle_fr, ite_self, implies_true]
  | split
  | refine (foldl_fr _ (fun _ _ => ?_) _ _).trans ?_
  | refine (fold_fst_fr _ (fun _ _ => ?_) _ _).trans ?_
  | refine pair_fr (by assumption) ?_
  | exact rfl

theorem State.relinkBanks_fr (s : State) (p : Nat) : (State.relinkBanks s p).fr = s.fr := by
  unfold State.relinkBanks
  repeat' first
  | with_reducible rfl
  | simp only [↓fr_mk, ↓fr_mk_clock, ↓fr_mk_sec, ↓foldl_fr, ↓ite_fr, ↓State.relinkRow_fr, ite_self, implies_true]
  | split
  | refine (foldl_fr _ (fun _ _ => ?_) _ _).trans ?_
  | refine (fold_fst_fr _ (fun _ _ => ?_) _ _).trans ?_
  | refine pair_fr (by assumption) ?_
  | exact rfl

theorem State.landTick_fr (s : State) (p : Nat) : (State.landTick s p).fr = s.fr := by
  unfold State.landTick
  repeat' first
  | with_reducible rfl
  | simp only [↓fr_mk, ↓fr_mk_clock, ↓fr_mk_sec, ↓foldl_fr, ↓ite_fr, ↓State.modPart_fr, ↓State.bumpBy_fr, ↓State.raisePeak_fr, ↓State.refillHeads_fr, ↓State.landFree_fr, ↓State.relinkBanks_fr, ite_self, implies_true]
  | split
  | refine (foldl_fr _ (fun _ _ => ?_) _ _).trans ?_
  | refine (fold_fst_fr _ (fun _ _ => ?_) _ _).trans ?_
  | refine pair_fr (by assumption) ?_
  | exact rfl

theorem execFreeLand_fr (part : Nat) (s : State) : outFr (execFreeLand part s) s = s.fr := by
  unfold execFreeLand
  simp only [↓outFr_next, ↓outFr_fault, ↓outFr_onUnit, ↓outFr_ite, ↓fr_mk, ↓fr_mk_clock, ↓fr_mk_sec, ↓foldl_fr, ↓ite_fr, ↓ite_fst, ↓fold_fst_fr, ↓onUnit_fr, ↓State.landTick_fr, ite_self, implies_true]

theorem State.rebuildBank_fr (s : State) (p b : Nat) : (State.rebuildBank s p b).fr = s.fr := by
  unfold State.rebuildBank
  simp only [↓fr_mk, ↓fr_mk_clock, ↓fr_mk_sec, ↓foldl_fr, ↓ite_fr, ↓State.modPart_fr, ite_self, implies_true]

theorem execFreeListRebuildDone_fr (part bank : Nat) (s : State) : outFr (execFreeListRebuildDone part bank s) s = s.fr := by
  unfold execFreeListRebuildDone
  simp only [↓outFr_next, ↓outFr_fault, ↓outFr_onUnit, ↓outFr_ite, ↓fr_mk, ↓fr_mk_clock, ↓fr_mk_sec, ↓foldl_fr, ↓ite_fr, ↓ite_fst, ↓fold_fst_fr, ↓onUnit_fr, ↓State.rebuildBank_fr, ite_self, implies_true]

theorem State.quarantine_fr (s : State) (cell : Nat) : (State.quarantine s cell).fr = s.fr := by
  unfold State.quarantine
  simp only [↓fr_mk, ↓fr_mk_clock, ↓fr_mk_sec, ↓foldl_fr, ↓ite_fr, ↓State.modCellAt_fr, ↓State.modPart_fr, ↓State.raisePeak_fr, ite_self, implies_true]

theorem State.applyPools_fr (s : State) (sizes : List (Option Nat)) (push : List (Option Bool)) : (State.applyPools s sizes push).fr = s.fr := by
  unfold State.applyPools
  repeat' first
  | with_reducible rfl
  | simp only [↓fr_mk, ↓fr_mk_clock, ↓fr_mk_sec, ↓foldl_fr, ↓ite_fr, ↓State.modPool_fr, ite_self, implies_true]
  | split
  | refine (foldl_fr _ (fun _ _ => ?_) _ _).trans ?_
  | refine (fold_fst_fr _ (fun _ _ => ?_) _ _).trans ?_
  | refine pair_fr (by assumption) ?_
  | exact rfl

theorem State.applyAdmit_fr (s : State) (q : Nat) (record fields : BitVec 64) : (State.applyAdmit s q record fields).fr = s.fr := by
  unfold State.applyAdmit
  simp only [↓fr_mk, ↓fr_mk_clock, ↓fr_mk_sec, ↓foldl_fr, ↓ite_fr, ↓State.modEqueue_fr, ↓State.record_fr, ite_self, implies_true]

theorem State.applyPg_fr (s : State) (port prio : Nat) (xoff xon headroom : Option Nat) : (State.applyPg s port prio xoff xon headroom).fr = s.fr := by
  unfold State.applyPg
  simp only [↓fr_mk, ↓fr_mk_clock, ↓fr_mk_sec, ↓foldl_fr, ↓ite_fr, ↓State.putPg_fr, ite_self, implies_true]

theorem State.clearPeaks_fr (s : State) (l : List Nat) : (State.clearPeaks s l).fr = s.fr := by
  unfold State.clearPeaks
  repeat' first
  | with_reducible rfl
  | simp only [↓fr_mk, ↓fr_mk_clock, ↓fr_mk_sec, ↓foldl_fr, ↓ite_fr, ↓State.putPeak_fr, ite_self, implies_true]
  | split
  | refine (foldl_fr _ (fun _ _ => ?_) _ _).trans ?_
  | refine (fold_fst_fr _ (fun _ _ => ?_) _ _).trans ?_
  | refine pair_fr (by assumption) ?_
  | exact rfl

theorem State.matchTick_fr (s : State) (sl : Nat) : (State.matchTick s sl).fr = s.fr := by
  unfold State.matchTick
  repeat' first
  | with_reducible rfl
  | simp only [↓fr_mk, ↓fr_mk_clock, ↓fr_mk_sec, ↓foldl_fr, ↓ite_fr, ↓State.modSlice_fr, ↓State.bumpBy_fr, ite_self, implies_true]
  | split
  | refine (foldl_fr _ (fun _ _ => ?_) _ _).trans ?_
  | refine (fold_fst_fr _ (fun _ _ => ?_) _ _).trans ?_
  | refine pair_fr (by assumption) ?_
  | exact rfl

theorem State.markWindow_fr (s : State) (sl : Nat) : (State.markWindow s sl).fr = s.fr := by
  unfold State.markWindow
  repeat' first
  | with_reducible rfl
  | simp only [↓fr_mk, ↓fr_mk_clock, ↓fr_mk_sec, ↓foldl_fr, ↓ite_fr, ↓State.modCopyD_fr, ite_self, implies_true]
  | split
  | refine (foldl_fr _ (fun _ _ => ?_) _ _).trans ?_
  | refine (fold_fst_fr _ (fun _ _ => ?_) _ _).trans ?_
  | refine pair_fr (by assumption) ?_
  | exact rfl

theorem execPortMatch_fr (slice : Nat) (s : State) : outFr (execPortMatch slice s) s = s.fr := by
  unfold execPortMatch
  simp only [↓outFr_next, ↓outFr_fault, ↓outFr_onUnit, ↓outFr_ite, ↓fr_mk, ↓fr_mk_clock, ↓fr_mk_sec, ↓foldl_fr, ↓ite_fr, ↓ite_fst, ↓fold_fst_fr, ↓onUnit_fr, ↓State.matchTick_fr, ↓State.markWindow_fr, ite_self, implies_true]

theorem State.deliver_fr (s : State) (cid idx : Nat) (poison : Bool) : (State.deliver s cid idx poison).fr = s.fr := by
  unfold State.deliver
  repeat' first
  | with_reducible rfl
  | simp only [↓fr_mk, ↓fr_mk_clock, ↓fr_mk_sec, ↓foldl_fr, ↓ite_fr, ↓State.modCopyD_fr, ↓State.uncharge_fr, ↓State.releaseCells_fr, ite_self, implies_true]
  | split
  | refine (foldl_fr _ (fun _ _ => ?_) _ _).trans ?_
  | refine (fold_fst_fr _ (fun _ _ => ?_) _ _).trans ?_
  | refine pair_fr (by assumption) ?_
  | exact rfl

theorem State.issueOnly_fr (s : State) (cid idx : Nat) (again : Bool) : (State.issueOnly s cid idx again).fr = s.fr := by
  unfold State.issueOnly
  repeat' first
  | with_reducible rfl
  | simp only [↓fr_mk, ↓fr_mk_clock, ↓fr_mk_sec, ↓foldl_fr, ↓ite_fr, ↓State.modCopyD_fr, ↓State.uncharge_fr, ite_self, implies_true]
  | split
  | refine (foldl_fr _ (fun _ _ => ?_) _ _).trans ?_
  | refine (fold_fst_fr _ (fun _ _ => ?_) _ _).trans ?_
  | refine pair_fr (by assumption) ?_
  | exact rfl

theorem State.stageBTransfer_fr (s : State) (sl p port cid idx : Nat) (err : XferErr) : (State.stageBTransfer s sl p port cid idx err).fr = s.fr := by
  unfold State.stageBTransfer
  repeat' first
  | with_reducible rfl
  | simp only [↓fr_mk, ↓fr_mk_clock, ↓fr_mk_sec, ↓foldl_fr, ↓ite_fr, ↓State.modSlice_fr, ↓State.bump_fr, ↓State.xferError_fr, ↓State.deliver_fr, ↓State.issueOnly_fr, ite_self, implies_true]
  | split
  | refine (foldl_fr _ (fun _ _ => ?_) _ _).trans ?_
  | refine (fold_fst_fr _ (fun _ _ => ?_) _ _).trans ?_
  | refine pair_fr (by assumption) ?_
  | exact rfl

theorem execStageBRead_fr (slice part : Nat) (err : XferErr) (s : State) : outFr (execStageBRead slice part err s) s = s.fr := by
  unfold execStageBRead
  repeat' first
  | with_reducible rfl
  | simp only [↓outFr_next, ↓outFr_fault, ↓outFr_onUnit, ↓outFr_ite, ↓fr_mk, ↓fr_mk_clock, ↓fr_mk_sec, ↓foldl_fr, ↓ite_fr, ↓ite_fst, ↓fold_fst_fr, ↓onUnit_fr, ↓State.useReadCycle_fr, ↓State.stageBTransfer_fr, ite_self, implies_true]
  | split
  | refine (foldl_fr _ (fun _ _ => ?_) _ _).trans ?_
  | refine (fold_fst_fr _ (fun _ _ => ?_) _ _).trans ?_
  | refine pair_fr (by assumption) ?_
  | exact rfl

theorem State.releasePort_fr (s : State) (fuel port budget : Nat) : (State.releasePort s fuel port budget).1.fr = s.fr := by
  induction fuel generalizing s budget with
  | zero => rfl
  | succ k ih =>
    unfold State.releasePort
    repeat' first
    | with_reducible rfl
    | simp only [↓fr_mk, ↓fr_mk_clock, ↓fr_mk_sec, ↓foldl_fr, ↓ite_fr, ↓ite_fst, ↓fold_fst_fr, ↓State.putCopy_fr, ↓State.putOpenList_fr, ↓State.putReleased_fr, ih, ite_self, implies_true]
    | split
    | refine (foldl_fr _ (fun _ _ => ?_) _ _).trans ?_
    | refine pair_fr (by assumption) ?_

theorem State.releaseTick_fr (s : State) (sl : Nat) : (State.releaseTick s sl).fr = s.fr := by
  unfold State.releaseTick
  repeat' first
  | with_reducible rfl
  | simp only [↓fr_mk, ↓fr_mk_clock, ↓fr_mk_sec, ↓foldl_fr, ↓ite_fr, ↓ite_fst, ↓fold_fst_fr, ↓State.modSlice_fr, ↓State.releasePort_fr, ite_self, implies_true]
  | split
  | refine (foldl_fr _ (fun _ _ => ?_) _ _).trans ?_
  | refine (fold_fst_fr _ (fun _ _ => ?_) _ _).trans ?_
  | refine pair_fr (by assumption) ?_
  | exact rfl

theorem execReseqRelease_fr (slice : Nat) (s : State) : outFr (execReseqRelease slice s) s = s.fr := by
  unfold execReseqRelease
  simp only [↓outFr_next, ↓outFr_fault, ↓outFr_onUnit, ↓outFr_ite, ↓fr_mk, ↓fr_mk_clock, ↓fr_mk_sec, ↓foldl_fr, ↓ite_fr, ↓ite_fst, ↓fold_fst_fr, ↓onUnit_fr, ↓State.releaseTick_fr, ite_self, implies_true]

theorem State.orphanCells_fr (s : State) (sl : Nat) (c : Copy) (p : Pkt) : (State.orphanCells s sl c p).fr = s.fr := by
  unfold State.orphanCells
  simp only [↓fr_mk, ↓fr_mk_clock, ↓fr_mk_sec, ↓foldl_fr, ↓ite_fr, ↓State.putOrphans_fr, ite_self, implies_true]

theorem State.reseqExpire_fr (s : State) (cid idx : Nat) (c : Copy) (p : Pkt) : (State.reseqExpire s cid idx c p).fr = s.fr := by
  unfold State.reseqExpire
  repeat' first
  | with_reducible rfl
  | simp only [↓fr_mk, ↓fr_mk_clock, ↓fr_mk_sec, ↓foldl_fr, ↓ite_fr, ↓State.putOpenList_fr, ↓State.modSlice_fr, ↓State.bump_fr, ↓State.raise_fr, ↓State.modCopyD_fr, ↓State.uncharge_fr, ↓State.releaseCells_fr, ↓State.dropCopy_fr, ↓State.orphanCells_fr, ite_self, implies_true]
  | split
  | refine (foldl_fr _ (fun _ _ => ?_) _ _).trans ?_
  | refine (fold_fst_fr _ (fun _ _ => ?_) _ _).trans ?_
  | refine pair_fr (by assumption) ?_
  | exact rfl

theorem execReseqTimeout_fr (cid : Nat) (s : State) : outFr (execReseqTimeout cid s) s = s.fr := by
  unfold execReseqTimeout
  repeat' first
  | with_reducible rfl
  | simp only [↓outFr_next, ↓outFr_fault, ↓outFr_onUnit, ↓outFr_ite, ↓fr_mk, ↓fr_mk_clock, ↓fr_mk_sec, ↓foldl_fr, ↓ite_fr, ↓ite_fst, ↓fold_fst_fr, ↓State.reseqExpire_fr, ite_self, implies_true]
  | split
  | refine (foldl_fr _ (fun _ _ => ?_) _ _).trans ?_
  | refine (fold_fst_fr _ (fun _ _ => ?_) _ _).trans ?_
  | refine pair_fr (by assumption) ?_
  | exact rfl

theorem State.applyElemStop_fr (s : State) (e : Element) (limit : Nat) : (State.applyElemStop s e limit).fr = s.fr := by
  unfold State.applyElemStop
  repeat' first
  | with_reducible rfl
  | simp only [↓fr_mk, ↓fr_mk_clock, ↓fr_mk_sec, ↓foldl_fr, ↓ite_fr, ↓State.modPart_fr, ↓State.putChan_fr, ite_self, implies_true]
  | split
  | refine (foldl_fr _ (fun _ _ => ?_) _ _).trans ?_
  | refine (fold_fst_fr _ (fun _ _ => ?_) _ _).trans ?_
  | refine pair_fr (by assumption) ?_
  | exact rfl

theorem State.applyElemRestore_fr (s : State) (e : Element) : (State.applyElemRestore s e).fr = s.fr := by
  unfold State.applyElemRestore
  repeat' first
  | with_reducible rfl
  | simp only [↓fr_mk, ↓fr_mk_clock, ↓fr_mk_sec, ↓foldl_fr, ↓ite_fr, ↓State.modPart_fr, ↓State.putChan_fr, ↓State.note_fr, ↓State.clearPermanence_fr, ite_self, implies_true]
  | split
  | refine (foldl_fr _ (fun _ _ => ?_) _ _).trans ?_
  | refine (fold_fst_fr _ (fun _ _ => ?_) _ _).trans ?_
  | refine pair_fr (by assumption) ?_
  | exact rfl

theorem State.endCharges_fr (s : State) (p : Nat) : (State.endCharges s p).fr = s.fr := by
  unfold State.endCharges
  repeat' first
  | with_reducible rfl
  | simp only [↓fr_mk, ↓fr_mk_clock, ↓fr_mk_sec, ↓foldl_fr, ↓ite_fr, ↓State.modPart_fr, ↓State.putPoolUsed_fr, ite_self, implies_true]
  | split
  | refine (foldl_fr _ (fun _ _ => ?_) _ _).trans ?_
  | refine (fold_fst_fr _ (fun _ _ => ?_) _ _).trans ?_
  | refine pair_fr (by assumption) ?_
  | exact rfl

theorem State.elemBoundary_fr (s : State) : (State.elemBoundary s).fr = s.fr := by
  unfold State.elemBoundary
  repeat' first
  | with_reducible rfl
  | simp only [↓fr_mk, ↓fr_mk_clock, ↓fr_mk_sec, ↓foldl_fr, ↓ite_fr, ↓State.putPart_fr, ↓State.modPart_fr, ↓State.putChan_fr, ↓State.note_fr, ↓State.raisePeak_fr, ↓State.endCharges_fr, ite_self, implies_true]
  | split
  | refine (foldl_fr _ (fun _ _ => ?_) _ _).trans ?_
  | refine (fold_fst_fr _ (fun _ _ => ?_) _ _).trans ?_
  | refine pair_fr (by assumption) ?_
  | exact rfl

theorem execPartitionDrainEnd_fr (part : Nat) (s : State) : outFr (execPartitionDrainEnd part s) s = s.fr := by
  unfold execPartitionDrainEnd
  simp only [↓outFr_next, ↓outFr_fault, ↓outFr_onUnit, ↓outFr_ite, ↓fr_mk, ↓fr_mk_clock, ↓fr_mk_sec, ↓foldl_fr, ↓ite_fr, ↓ite_fst, ↓fold_fst_fr, ↓State.modPart_fr, ↓onUnit_fr, ite_self, implies_true]

theorem State.forceDrain_fr (s : State) (p : Nat) : (State.forceDrain s p).fr = s.fr := by
  unfold State.forceDrain
  repeat' first
  | with_reducible rfl
  | simp only [↓fr_mk, ↓fr_mk_clock, ↓fr_mk_sec, ↓foldl_fr, ↓ite_fr, ↓State.modPart_fr, ↓State.bump_fr, ↓State.note_fr, ↓State.dropCopy_fr, ite_self, implies_true]
  | split
  | refine (foldl_fr _ (fun _ _ => ?_) _ _).trans ?_
  | refine (fold_fst_fr _ (fun _ _ => ?_) _ _).trans ?_
  | refine pair_fr (by assumption) ?_
  | exact rfl

theorem execDrainLimitExpiry_fr (part : Nat) (s : State) : outFr (execDrainLimitExpiry part s) s = s.fr := by
  unfold execDrainLimitExpiry
  simp only [↓outFr_next, ↓outFr_fault, ↓outFr_onUnit, ↓outFr_ite, ↓fr_mk, ↓fr_mk_clock, ↓fr_mk_sec, ↓foldl_fr, ↓ite_fr, ↓ite_fst, ↓fold_fst_fr, ↓onUnit_fr, ↓State.forceDrain_fr, ite_self, implies_true]

theorem State.clearPartition_fr (s : State) (p : Nat) : (State.clearPartition s p).fr = s.fr := by
  unfold State.clearPartition
  repeat' first
  | with_reducible rfl
  | simp only [↓fr_mk, ↓fr_mk_clock, ↓fr_mk_sec, ↓foldl_fr, ↓ite_fr, ↓ite_fst, ↓fold_fst_fr, ↓State.modPart_fr, ↓State.endCharges_fr, ite_self, implies_true]
  | split
  | refine (foldl_fr _ (fun _ _ => ?_) _ _).trans ?_
  | refine (fold_fst_fr _ (fun _ _ => ?_) _ _).trans ?_
  | refine pair_fr (by assumption) ?_
  | exact rfl

theorem execPartitionRebuildDone_fr (part : Nat) (s : State) : outFr (execPartitionRebuildDone part s) s = s.fr := by
  unfold execPartitionRebuildDone
  simp only [↓outFr_next, ↓outFr_fault, ↓outFr_onUnit, ↓outFr_ite, ↓fr_mk, ↓fr_mk_clock, ↓fr_mk_sec, ↓foldl_fr, ↓ite_fr, ↓ite_fst, ↓fold_fst_fr, ↓onUnit_fr, ↓State.clearPartition_fr, ite_self, implies_true]

theorem State.applyCutThrough_fr (s : State) (port : Nat) (en : Option Bool) (start : Option Nat) : (State.applyCutThrough s port en start).fr = s.fr := by
  unfold State.applyCutThrough
  simp only [↓fr_mk, ↓fr_mk_clock, ↓fr_mk_sec, ↓foldl_fr, ↓ite_fr, ↓State.modCutThrough_fr, ite_self, implies_true]

theorem State.setHit_fr (s : State) (req : Nat) (l : Loc) : (State.setHit s req l).fr = s.fr := by
  unfold State.setHit
  repeat' first
  | with_reducible rfl
  | simp only [↓fr_mk, ↓fr_mk_clock, ↓fr_mk_sec, ↓foldl_fr, ↓ite_fr, ↓State.putEmHit_fr, ↓State.putStashHit_fr, ite_self, implies_true]
  | split
  | refine (foldl_fr _ (fun _ _ => ?_) _ _).trans ?_
  | refine (fold_fst_fr _ (fun _ _ => ?_) _ _).trans ?_
  | refine pair_fr (by assumption) ?_
  | exact rfl

theorem State.tablePoison_fr (s : State) (addr : BitVec 64) : (State.tablePoison s addr).fr = s.fr := by
  unfold State.tablePoison
  simp only [↓State.consumed_fr, ↓State.raise_fr]

theorem State.poisonTrap_fr (s : State) (inst : Nat) (addr : BitVec 64) : (State.poisonTrap s inst addr).fr = s.fr := by
  unfold State.poisonTrap
  simp only [↓State.tablePoison_fr, ↓fr_mk, ↓fr_mk_clock, ↓fr_mk_sec, ↓foldl_fr, ↓ite_fr, ↓State.bump_fr, ↓State.raise_fr, ite_self, implies_true]

theorem State.searchServe_fr (s : State) (req table : Nat) (key : BitVec 320) (v : BitVec 16) : (State.searchServe s req table key v).1.fr = s.fr := by
  unfold State.searchServe
  repeat' first
  | with_reducible rfl
  | simp only [↓fr_mk, ↓fr_mk_clock, ↓fr_mk_sec, ↓foldl_fr, ↓ite_fr, ↓ite_fst, ↓fold_fst_fr, ↓State.bumpBy_fr, ↓State.bump_fr, ↓State.setHit_fr, ↓State.poisonTrap_fr, ite_self, implies_true]
  | split
  | refine (foldl_fr _ (fun _ _ => ?_) _ _).trans ?_
  | refine (fold_fst_fr _ (fun _ _ => ?_) _ _).trans ?_
  | refine pair_fr (by assumption) ?_
  | exact rfl

theorem State.directServe_fr (s : State) (table i : Nat) (v : BitVec 16) : (State.directServe s table i v).1.fr = s.fr := by
  unfold State.directServe
  repeat' first
  | with_reducible rfl
  | simp only [↓fr_mk, ↓fr_mk_clock, ↓fr_mk_sec, ↓foldl_fr, ↓ite_fr, ↓ite_fst, ↓fold_fst_fr, ↓State.putEmHit_fr, ↓State.bump_fr, ↓State.poisonTrap_fr, ite_self, implies_true]
  | split
  | refine (foldl_fr _ (fun _ _ => ?_) _ _).trans ?_
  | refine (fold_fst_fr _ (fun _ _ => ?_) _ _).trans ?_
  | refine pair_fr (by assumption) ?_
  | exact rfl

theorem State.useClock_fr (s : State) (store bank k : Nat) : (State.useClock s store bank k).fr = s.fr := by
  unfold State.useClock
  simp only [↓fr_mk, ↓fr_mk_clock, ↓fr_mk_sec, ↓foldl_fr, ↓ite_fr, ↓State.putBankUsed_fr, ite_self, implies_true]

theorem State.modReq_fr (s : State) (id : Nat) (f : LookReq → LookReq) : (State.modReq s id f).fr = s.fr := by
  unfold State.modReq
  simp only [↓fr_mk, ↓fr_mk_clock, ↓fr_mk_sec, ↓foldl_fr, ↓ite_fr, ite_self, implies_true]

theorem State.dropReq_fr (s : State) (id : Nat) : (State.dropReq s id).fr = s.fr := by
  unfold State.dropReq
  simp only [↓fr_mk, ↓fr_mk_clock, ↓fr_mk_sec, ↓foldl_fr, ↓ite_fr, ite_self, implies_true]

theorem State.countDefer_fr (s : State) (store bank : Nat) : (State.countDefer s store bank).fr = s.fr := by
  unfold State.countDefer
  repeat' first
  | with_reducible rfl
  | simp only [↓fr_mk, ↓fr_mk_clock, ↓fr_mk_sec, ↓foldl_fr, ↓ite_fr, ↓State.modDeferEpoch_fr, ↓State.bump_fr, ite_self, implies_true]
  | split
  | refine (foldl_fr _ (fun _ _ => ?_) _ _).trans ?_
  | refine (fold_fst_fr _ (fun _ _ => ?_) _ _).trans ?_
  | refine pair_fr (by assumption) ?_
  | exact rfl

theorem State.readBucket_fr (s : State) (done : Reads) (k : Nat) (r : Nat × Nat) : (State.readBucket s done k r).fr = s.fr := by
  unfold State.readBucket
  simp only [↓fr_mk, ↓fr_mk_clock, ↓fr_mk_sec, ↓foldl_fr, ↓ite_fr, ↓State.bump_fr, ↓State.useClock_fr, ite_self, implies_true]

theorem State.serveEm_fr (s : State) (q : LookReq) (k : Nat) : (State.serveEm s q k).fr = s.fr := by
  unfold State.serveEm
  repeat' first
  | with_reducible rfl
  | simp only [↓fr_mk, ↓fr_mk_clock, ↓fr_mk_sec, ↓foldl_fr, ↓ite_fr, ↓ite_fst, ↓fold_fst_fr, ↓State.bump_fr, ↓State.searchServe_fr, ↓State.directServe_fr, ↓State.modReq_fr, ↓State.readBucket_fr, ite_self, implies_true]
  | split
  | refine (foldl_fr _ (fun _ _ => ?_) _ _).trans ?_
  | refine (fold_fst_fr _ (fun _ _ => ?_) _ _).trans ?_
  | refine pair_fr (by assumption) ?_
  | exact rfl

theorem State.dropSuperseded_fr (s : State) : (State.dropSuperseded s).fr = s.fr := by
  unfold State.dropSuperseded
  simp only [↓fr_mk, ↓fr_mk_clock, ↓fr_mk_sec, ↓foldl_fr, ↓ite_fr, ite_self, implies_true]

theorem State.deferReq_fr (s : State) (r : LookReq) : (State.deferReq s r).fr = s.fr := by
  unfold State.deferReq
  simp only [↓fr_mk, ↓fr_mk_clock, ↓fr_mk_sec, ↓foldl_fr, ↓ite_fr, ↓State.perfCount_fr, ↓State.modReq_fr, ite_self, implies_true]

theorem State.serveEmBank_fr (s : State) (bank : Nat) : (State.serveEmBank s bank).fr = s.fr := by
  unfold State.serveEmBank
  repeat' first
  | with_reducible rfl
  | simp only [↓fr_mk, ↓fr_mk_clock, ↓fr_mk_sec, ↓foldl_fr, ↓ite_fr, ↓State.countDefer_fr, ↓State.serveEm_fr, ↓State.dropSuperseded_fr, ↓State.deferReq_fr, ite_self, implies_true]
  | split
  | refine (foldl_fr _ (fun _ _ => ?_) _ _).trans ?_
  | refine (fold_fst_fr _ (fun _ _ => ?_) _ _).trans ?_
  | refine pair_fr (by assumption) ?_
  | exact rfl

theorem State.finishLpm_fr (s : State) (q : LookReq) (f r : Nat) (a : BitVec 128) (bad : Option (BitVec 64)) : (State.finishLpm s q f r a bad).fr = s.fr := by
  unfold State.finishLpm
  repeat' first
  | with_reducible rfl
  | simp only [↓fr_mk, ↓fr_mk_clock, ↓fr_mk_sec, ↓foldl_fr, ↓ite_fr, ↓State.bump_fr, ↓State.poisonTrap_fr, ↓State.modReq_fr, ite_self, implies_true]
  | split
  | refine (foldl_fr _ (fun _ _ => ?_) _ _).trans ?_
  | refine (fold_fst_fr _ (fun _ _ => ?_) _ _).trans ?_
  | refine pair_fr (by assumption) ?_
  | exact rfl

theorem State.serveLpm_fr (s : State) (q : LookReq) (level bank word : Nat) (merged : Bool) (k : Nat) : (State.serveLpm s q level bank word merged k).fr = s.fr := by
  unfold State.serveLpm
  repeat' first
  | with_reducible rfl
  | simp only [↓fr_mk, ↓fr_mk_clock, ↓fr_mk_sec, ↓foldl_fr, ↓ite_fr, ↓State.bump_fr, ↓State.useClock_fr, ↓State.modReq_fr, ↓State.finishLpm_fr, ite_self, implies_true]
  | split
  | refine (foldl_fr _ (fun _ _ => ?_) _ _).trans ?_
  | refine (fold_fst_fr _ (fun _ _ => ?_) _ _).trans ?_
  | refine pair_fr (by assumption) ?_
  | exact rfl

theorem State.serveLpmBank_fr (s : State) (g : Nat) : (State.serveLpmBank s g).fr = s.fr := by
  unfold State.serveLpmBank
  repeat' first
  | with_reducible rfl
  | simp only [↓fr_mk, ↓fr_mk_clock, ↓fr_mk_sec, ↓foldl_fr, ↓ite_fr, ↓ite_fst, ↓fold_fst_fr, ↓State.countDefer_fr, ↓State.dropSuperseded_fr, ↓State.deferReq_fr, ↓State.serveLpm_fr, ite_self, implies_true]
  | split
  | refine (foldl_fr _ (fun _ _ => ?_) _ _).trans ?_
  | refine (fold_fst_fr _ (fun _ _ => ?_) _ _).trans ?_
  | refine pair_fr (by assumption) ?_
  | exact rfl

theorem State.addPair_fr (s : State) (pair bytes : Nat) : (State.addPair s pair bytes).fr = s.fr := by
  unfold State.addPair
  simp only [↓State.consumed_fr, ↓fr_mk, ↓fr_mk_clock, ↓fr_mk_sec, ↓foldl_fr, ↓ite_fr, ↓State.modWriteTag_fr, ↓State.putPair_fr, ↓State.bump_fr, ite_self, implies_true]

theorem State.serveCounterBank_fr (s : State) (bank : Nat) : (State.serveCounterBank s bank).fr = s.fr := by
  unfold State.serveCounterBank
  repeat' first
  | with_reducible rfl
  | simp only [↓fr_mk, ↓fr_mk_clock, ↓fr_mk_sec, ↓foldl_fr, ↓ite_fr, ↓State.bumpBy_fr, ↓State.useClock_fr, ↓State.modReq_fr, ↓State.dropReq_fr, ↓State.countDefer_fr, ↓State.addPair_fr, ite_self, implies_true]
  | split
  | refine (foldl_fr _ (fun _ _ => ?_) _ _).trans ?_
  | refine (fold_fst_fr _ (fun _ _ => ?_) _ _).trans ?_
  | refine pair_fr (by assumption) ?_
  | exact rfl

theorem execBankCycleServe_fr (store bank : Nat) (s : State) : outFr (execBankCycleServe store bank s) s = s.fr := by
  unfold execBankCycleServe
  simp only [↓outFr_next, ↓outFr_fault, ↓outFr_onUnit, ↓outFr_ite, ↓fr_mk, ↓fr_mk_clock, ↓fr_mk_sec, ↓foldl_fr, ↓ite_fr, ↓ite_fst, ↓fold_fst_fr, ↓State.serveEmBank_fr, ↓State.serveLpmBank_fr, ↓State.serveCounterBank_fr, ite_self, implies_true]

theorem State.addReq_fr (s : State) (q : LookReq) : (State.addReq s q).fr = s.fr := by
  unfold State.addReq
  simp only [↓fr_mk, ↓fr_mk_clock, ↓fr_mk_sec, ↓foldl_fr, ↓ite_fr, ↓State.perfCount_fr, ite_self, implies_true]

theorem State.issueCount_fr (s : State) (requester : Nat) (c : Nat × Nat) : (State.issueCount s requester c).fr = s.fr := by
  unfold State.issueCount
  simp only [↓fr_mk, ↓fr_mk_clock, ↓fr_mk_sec, ↓foldl_fr, ↓ite_fr, ↓State.addReq_fr, ite_self, implies_true]

theorem State.queueLearn_fr (s : State) (r : LearnReq) : (State.queueLearn s r).fr = s.fr := by
  unfold State.queueLearn
  simp only [↓fr_mk, ↓fr_mk_clock, ↓fr_mk_sec, ↓foldl_fr, ↓ite_fr, ↓State.bump_fr, ↓State.raise_fr, ite_self, implies_true]

theorem State.countFor_fr (s : State) (pid : Nat) (p : Pkt) (c : Nat × Nat) : (State.countFor s pid p c).fr = s.fr := by
  unfold State.countFor
  simp only [↓fr_mk, ↓fr_mk_clock, ↓fr_mk_sec, ↓foldl_fr, ↓ite_fr, ↓State.modPktD_fr, ↓State.issueCount_fr, ite_self, implies_true]

theorem State.learnFor_fr (s : State) (pid : Nat) (p : Pkt) (r : LearnReq) : (State.learnFor s pid p r).fr = s.fr := by
  unfold State.learnFor
  simp only [↓fr_mk, ↓fr_mk_clock, ↓fr_mk_sec, ↓foldl_fr, ↓ite_fr, ↓State.modPktD_fr, ↓State.queueLearn_fr, ite_self, implies_true]

theorem State.takeResult_fr (s : State) (q : LookReq) (p : Pkt) : (State.takeResult s q p).fr = s.fr := by
  unfold State.takeResult
  repeat' first
  | with_reducible rfl
  | simp only [↓fr_mk, ↓fr_mk_clock, ↓fr_mk_sec, ↓foldl_fr, ↓ite_fr, ↓State.modPktD_fr, ↓State.poisonTrap_fr, ↓State.countFor_fr, ↓State.learnFor_fr, ite_self, implies_true]
  | split
  | refine (foldl_fr _ (fun _ _ => ?_) _ _).trans ?_
  | refine (fold_fst_fr _ (fun _ _ => ?_) _ _).trans ?_
  | refine pair_fr (by assumption) ?_
  | exact rfl

theorem State.takeHop_fr (s : State) (q : LookReq) : (State.takeHop s q).fr = s.fr := by
  unfold State.takeHop
  simp only [↓fr_mk, ↓fr_mk_clock, ↓fr_mk_sec, ↓foldl_fr, ↓ite_fr, ↓State.modCopyD_fr, ↓State.dropCopy_fr, ite_self, implies_true]

theorem execLookupResult_fr (req : Nat) (s : State) : outFr (execLookupResult req s) s = s.fr := by
  unfold execLookupResult
  repeat' first
  | with_reducible rfl
  | simp only [↓outFr_next, ↓outFr_fault, ↓outFr_onUnit, ↓outFr_ite, ↓fr_mk, ↓fr_mk_clock, ↓fr_mk_sec, ↓foldl_fr, ↓ite_fr, ↓ite_fst, ↓fold_fst_fr, ↓State.dropReq_fr, ↓State.takeResult_fr, ↓State.takeHop_fr, ite_self, implies_true]
  | split
  | refine (foldl_fr _ (fun _ _ => ?_) _ _).trans ?_
  | refine (fold_fst_fr _ (fun _ _ => ?_) _ _).trans ?_
  | refine pair_fr (by assumption) ?_
  | exact rfl

theorem State.cancelReqs_fr (s : State) (pid : Nat) (copies : List Nat) : (State.cancelReqs s pid copies).fr = s.fr := by
  unfold State.cancelReqs
  simp only [↓fr_mk, ↓fr_mk_clock, ↓fr_mk_sec, ↓foldl_fr, ↓ite_fr, ite_self, implies_true]

end Sys2Proof.Machine
end

