-- ==== Sys2Proof/Laws/FrameRules.lean ====
section
/-! SUPPORT. Frames of packets, the rule plane, the tables and the Armature. -/

namespace Sys2Proof.Machine
theorem State.ledgerAdd_fr (s : State) (pipe row : Nat) : (State.ledgerAdd s pipe row).fr = s.fr := by
  unfold State.ledgerAdd
  simp only [↓fr_mk, ↓fr_mk_clock, ↓fr_mk_sec, ↓foldl_fr, ↓ite_fr, ↓State.modLedger_fr, ↓State.perfCount_fr, ite_self, implies_true]

theorem State.ledgerVoid_fr (s : State) (pipe : Nat) : (State.ledgerVoid s pipe).fr = s.fr := by
  unfold State.ledgerVoid
  simp only [↓fr_mk, ↓fr_mk_clock, ↓fr_mk_sec, ↓foldl_fr, ↓ite_fr, ↓State.modLedger_fr, ↓State.ledgerAdd_fr, ite_self, implies_true]

theorem State.confirmMacsec_fr (s : State) (p : Pkt) : (State.confirmMacsec s p).fr = s.fr := by
  unfold State.confirmMacsec
  repeat' first
  | with_reducible rfl
  | simp only [↓fr_mk, ↓fr_mk_clock, ↓fr_mk_sec, ↓foldl_fr, ↓ite_fr, ↓State.modRxSa_fr, ↓State.bumpBy_fr, ↓State.bump_fr, ite_self, implies_true]
  | split
  | refine (foldl_fr _ (fun _ _ => ?_) _ _).trans ?_
  | refine (fold_fst_fr _ (fun _ _ => ?_) _ _).trans ?_
  | refine pair_fr (by assumption) ?_
  | exact rfl

theorem State.cloisterRest_fr (s : State) (pid : Nat) : (State.cloisterRest s pid).fr = s.fr := by
  unfold State.cloisterRest
  simp only [↓fr_mk, ↓fr_mk_clock, ↓fr_mk_sec, ↓foldl_fr, ↓ite_fr, ↓State.modPktD_fr, ↓State.settlePkt_fr, ite_self, implies_true]

theorem State.enterCloister_fr (s : State) (pid : Nat) : (State.enterCloister s pid).fr = s.fr := by
  unfold State.enterCloister
  repeat' first
  | with_reducible rfl
  | simp only [↓fr_mk, ↓fr_mk_clock, ↓fr_mk_sec, ↓foldl_fr, ↓ite_fr, ↓State.putPkt_fr, ↓State.bump_fr, ↓State.raiseOnce_fr, ↓State.modPktD_fr, ↓State.dropPkt_fr, ↓State.startCells_fr, ↓State.cloisterRest_fr, ite_self, implies_true]
  | split
  | refine (foldl_fr _ (fun _ _ => ?_) _ _).trans ?_
  | refine (fold_fst_fr _ (fun _ _ => ?_) _ _).trans ?_
  | refine pair_fr (by assumption) ?_
  | exact rfl

theorem State.clearPending_fr (s : State) (p : Pkt) : (State.clearPending s p).fr = s.fr := by
  unfold State.clearPending
  repeat' first
  | with_reducible rfl
  | simp only [↓fr_mk, ↓fr_mk_clock, ↓fr_mk_sec, ↓foldl_fr, ↓ite_fr, ↓State.modCopyD_fr, ite_self, implies_true]
  | split
  | refine (foldl_fr _ (fun _ _ => ?_) _ _).trans ?_
  | refine (fold_fst_fr _ (fun _ _ => ?_) _ _).trans ?_
  | refine pair_fr (by assumption) ?_
  | exact rfl

theorem State.confirmBound_fr (s : State) (t : Nat) : (State.confirmBound s t).fr = s.fr := by
  unfold State.confirmBound
  repeat' first
  | with_reducible rfl
  | simp only [↓fr_mk, ↓fr_mk_clock, ↓fr_mk_sec, ↓foldl_fr, ↓ite_fr, ↓State.putPkt_fr, ↓State.settlePkt_fr, ↓State.clearPending_fr, ite_self, implies_true]
  | split
  | refine (foldl_fr _ (fun _ _ => ?_) _ _).trans ?_
  | refine (fold_fst_fr _ (fun _ _ => ?_) _ _).trans ?_
  | refine pair_fr (by assumption) ?_
  | exact rfl

theorem State.earlyStomps_fr (s : State) (p : Pkt) : (State.earlyStomps s p).fr = s.fr := by
  unfold State.earlyStomps
  repeat' first
  | with_reducible rfl
  | simp only [↓fr_mk, ↓fr_mk_clock, ↓fr_mk_sec, ↓foldl_fr, ↓ite_fr, ↓State.putCopy_fr, ite_self, implies_true]
  | split
  | refine (foldl_fr _ (fun _ _ => ?_) _ _).trans ?_
  | refine (fold_fst_fr _ (fun _ _ => ?_) _ _).trans ?_
  | refine pair_fr (by assumption) ?_
  | exact rfl

theorem State.confirm_fr (s : State) (pid : Nat) (p : Pkt) : (State.confirm s pid p).fr = s.fr := by
  unfold State.confirm
  repeat' first
  | with_reducible rfl
  | simp only [↓fr_mk, ↓fr_mk_clock, ↓fr_mk_sec, ↓foldl_fr, ↓ite_fr, ↓State.putPkt_fr, ↓State.bump_fr, ↓State.issueCount_fr, ↓State.queueLearn_fr, ↓State.confirmMacsec_fr, ↓State.enterCloister_fr, ↓State.clearPending_fr, ↓State.confirmBound_fr, ↓State.earlyStomps_fr, ite_self, implies_true]
  | split
  | refine (foldl_fr _ (fun _ _ => ?_) _ _).trans ?_
  | refine (fold_fst_fr _ (fun _ _ => ?_) _ _).trans ?_
  | refine pair_fr (by assumption) ?_
  | exact rfl

theorem State.voidRecords_fr (s : State) (port cid : Nat) : (State.voidRecords s port cid).fr = s.fr := by
  unfold State.voidRecords
  simp only [↓fr_mk, ↓fr_mk_clock, ↓fr_mk_sec, ↓foldl_fr, ↓ite_fr, ↓State.modVoided_fr, ite_self, implies_true]

theorem State.keepRecords_fr (s : State) (port cid : Nat) : (State.keepRecords s port cid).fr = s.fr := by
  unfold State.keepRecords
  simp only [↓fr_mk, ↓fr_mk_clock, ↓fr_mk_sec, ↓foldl_fr, ↓ite_fr, ↓State.putVoidRec_fr, ite_self, implies_true]

theorem State.voidCopy_fr (s : State) (cid : Nat) : (State.voidCopy s cid).fr = s.fr := by
  unfold State.voidCopy
  repeat' first
  | with_reducible rfl
  | simp only [↓fr_mk, ↓fr_mk_clock, ↓fr_mk_sec, ↓foldl_fr, ↓ite_fr, ↓State.putOpenList_fr, ↓State.modSlice_fr, ↓State.modCopyD_fr, ↓State.uncharge_fr, ↓State.unlinkCopy_fr, ↓State.credit_fr, ↓State.voidRecords_fr, ↓State.keepRecords_fr, ite_self, implies_true]
  | split
  | refine (foldl_fr _ (fun _ _ => ?_) _ _).trans ?_
  | refine (fold_fst_fr _ (fun _ _ => ?_) _ _).trans ?_
  | refine pair_fr (by assumption) ?_
  | exact rfl

theorem State.voidSlots_fr (s : State) (p : Pkt) : (State.voidSlots s p).fr = s.fr := by
  unfold State.voidSlots
  repeat' first
  | with_reducible rfl
  | simp only [↓fr_mk, ↓fr_mk_clock, ↓fr_mk_sec, ↓foldl_fr, ↓ite_fr, ↓State.ledgerVoid_fr, ite_self, implies_true]
  | split
  | refine (foldl_fr _ (fun _ _ => ?_) _ _).trans ?_
  | refine (fold_fst_fr _ (fun _ _ => ?_) _ _).trans ?_
  | refine pair_fr (by assumption) ?_
  | exact rfl

theorem State.fence_fr (s : State) (pid : Nat) (zero : Bool) (p : Pkt) : (State.fence s pid zero p).fr = s.fr := by
  unfold State.fence
  repeat' first
  | with_reducible rfl
  | simp only [↓fr_mk, ↓fr_mk_clock, ↓fr_mk_sec, ↓foldl_fr, ↓ite_fr, ↓State.modPktD_fr, ↓State.unqueuePkt_fr, ↓State.cancelReqs_fr, ↓State.earlyStomps_fr, ↓State.voidCopy_fr, ↓State.voidSlots_fr, ite_self, implies_true]
  | split
  | refine (foldl_fr _ (fun _ _ => ?_) _ _).trans ?_
  | refine (fold_fst_fr _ (fun _ _ => ?_) _ _).trans ?_
  | refine pair_fr (by assumption) ?_
  | exact rfl

theorem State.countRollback_fr (s : State) (p : Pkt) : (State.countRollback s p).fr = s.fr := by
  unfold State.countRollback
  repeat' first
  | with_reducible rfl
  | simp only [↓fr_mk, ↓fr_mk_clock, ↓fr_mk_sec, ↓foldl_fr, ↓ite_fr, ↓State.bump_fr, ite_self, implies_true]
  | split
  | refine (foldl_fr _ (fun _ _ => ?_) _ _).trans ?_
  | refine (fold_fst_fr _ (fun _ _ => ?_) _ _).trans ?_
  | refine pair_fr (by assumption) ?_
  | exact rfl

theorem State.rollback_fr (s : State) (pid : Nat) (p : Pkt) : (State.rollback s pid p).fr = s.fr := by
  unfold State.rollback
  repeat' first
  | with_reducible rfl
  | simp only [↓fr_mk, ↓fr_mk_clock, ↓fr_mk_sec, ↓foldl_fr, ↓ite_fr, ↓State.fence_fr, ↓State.countRollback_fr, ite_self, implies_true]
  | split
  | refine (foldl_fr _ (fun _ _ => ?_) _ _).trans ?_
  | refine (fold_fst_fr _ (fun _ _ => ?_) _ _).trans ?_
  | refine pair_fr (by assumption) ?_
  | exact rfl

theorem State.zeroCell_fr (s : State) (pid i : Nat) : (State.zeroCell s pid i).fr = s.fr := by
  unfold State.zeroCell
  repeat' first
  | with_reducible rfl
  | simp only [↓fr_mk, ↓fr_mk_clock, ↓fr_mk_sec, ↓foldl_fr, ↓ite_fr, ↓State.modPktD_fr, ↓State.putCellData_fr, ↓State.useCellCycle_fr, ite_self, implies_true]
  | split
  | refine (foldl_fr _ (fun _ _ => ?_) _ _).trans ?_
  | refine (fold_fst_fr _ (fun _ _ => ?_) _ _).trans ?_
  | refine pair_fr (by assumption) ?_
  | exact rfl

theorem State.zeroPkt_fr (s : State) (pid : Nat) : (State.zeroPkt s pid).fr = s.fr := by
  unfold State.zeroPkt
  repeat' first
  | with_reducible rfl
  | simp only [↓fr_mk, ↓fr_mk_clock, ↓fr_mk_sec, ↓foldl_fr, ↓ite_fr, ↓State.zeroCell_fr, ite_self, implies_true]
  | split
  | refine (foldl_fr _ (fun _ _ => ?_) _ _).trans ?_
  | refine (fold_fst_fr _ (fun _ _ => ?_) _ _).trans ?_
  | refine pair_fr (by assumption) ?_
  | exact rfl

theorem State.zeroTag_fr (s : State) (pid : Nat) (p : Pkt) : (State.zeroTag s pid p).fr = s.fr := by
  unfold State.zeroTag
  repeat' first
  | with_reducible rfl
  | simp only [↓fr_mk, ↓fr_mk_clock, ↓fr_mk_sec, ↓foldl_fr, ↓ite_fr, ↓State.modPktD_fr, ↓State.zeroPkt_fr, ite_self, implies_true]
  | split
  | refine (foldl_fr _ (fun _ _ => ?_) _ _).trans ?_
  | refine (fold_fst_fr _ (fun _ _ => ?_) _ _).trans ?_
  | refine pair_fr (by assumption) ?_
  | exact rfl

theorem State.rollFree_fr (s : State) (pid : Nat) : (State.rollFree s pid).fr = s.fr := by
  unfold State.rollFree
  repeat' first
  | with_reducible rfl
  | simp only [↓fr_mk, ↓fr_mk_clock, ↓fr_mk_sec, ↓foldl_fr, ↓ite_fr, ↓State.putPkt_fr, ↓State.modCopyD_fr, ↓State.releaseCells_fr, ↓State.uncount_fr, ↓State.settlePkt_fr, ↓State.endCopy_fr, ↓State.dropCopy_fr, ite_self, implies_true]
  | split
  | refine (foldl_fr _ (fun _ _ => ?_) _ _).trans ?_
  | refine (fold_fst_fr _ (fun _ _ => ?_) _ _).trans ?_
  | refine pair_fr (by assumption) ?_
  | exact rfl

theorem State.resolveUntagged_fr (s : State) (pid : Nat) : (State.resolveUntagged s pid).fr = s.fr := by
  unfold State.resolveUntagged
  repeat' first
  | with_reducible rfl
  | simp only [↓fr_mk, ↓fr_mk_clock, ↓fr_mk_sec, ↓foldl_fr, ↓ite_fr, ↓State.settlePkt_fr, ↓State.confirm_fr, ↓State.rollback_fr, ↓State.rollFree_fr, ite_self, implies_true]
  | split
  | refine (foldl_fr _ (fun _ _ => ?_) _ _).trans ?_
  | refine (fold_fst_fr _ (fun _ _ => ?_) _ _).trans ?_
  | refine pair_fr (by assumption) ?_
  | exact rfl

theorem execIcvVerdict_fr (pid : Nat) (ok : Bool) (s : State) : outFr (execIcvVerdict pid ok s) s = s.fr := by
  unfold execIcvVerdict
  repeat' first
  | with_reducible rfl
  | simp only [↓outFr_next, ↓outFr_fault, ↓outFr_onUnit, ↓outFr_ite, ↓fr_mk, ↓fr_mk_clock, ↓fr_mk_sec, ↓foldl_fr, ↓ite_fr, ↓ite_fst, ↓fold_fst_fr, ↓State.putPkt_fr, ite_self, implies_true]
  | split
  | refine (foldl_fr _ (fun _ _ => ?_) _ _).trans ?_
  | refine (fold_fst_fr _ (fun _ _ => ?_) _ _).trans ?_
  | refine pair_fr (by assumption) ?_
  | exact rfl

theorem execTagResolve_fr (tag : Nat) (s : State) : outFr (execTagResolve tag s) s = s.fr := by
  unfold execTagResolve
  repeat' first
  | with_reducible rfl
  | simp only [↓outFr_next, ↓outFr_fault, ↓outFr_onUnit, ↓outFr_ite, ↓fr_mk, ↓fr_mk_clock, ↓fr_mk_sec, ↓foldl_fr, ↓ite_fr, ↓ite_fst, ↓fold_fst_fr, ↓onUnit_fr, ↓State.confirm_fr, ↓State.rollback_fr, ite_self, implies_true]
  | split
  | refine (foldl_fr _ (fun _ _ => ?_) _ _).trans ?_
  | refine (fold_fst_fr _ (fun _ _ => ?_) _ _).trans ?_
  | refine pair_fr (by assumption) ?_
  | exact rfl

theorem execRollbackZeroWrite_fr (tag : Nat) (s : State) : outFr (execRollbackZeroWrite tag s) s = s.fr := by
  unfold execRollbackZeroWrite
  repeat' first
  | with_reducible rfl
  | simp only [↓outFr_next, ↓outFr_fault, ↓outFr_onUnit, ↓outFr_ite, ↓fr_mk, ↓fr_mk_clock, ↓fr_mk_sec, ↓foldl_fr, ↓ite_fr, ↓ite_fst, ↓fold_fst_fr, ↓onUnit_fr, ↓State.zeroTag_fr, ite_self, implies_true]
  | split
  | refine (foldl_fr _ (fun _ _ => ?_) _ _).trans ?_
  | refine (fold_fst_fr _ (fun _ _ => ?_) _ _).trans ?_
  | refine pair_fr (by assumption) ?_
  | exact rfl

theorem execRollbackFree_fr (tag : Nat) (s : State) : outFr (execRollbackFree tag s) s = s.fr := by
  unfold execRollbackFree
  repeat' first
  | with_reducible rfl
  | simp only [↓outFr_next, ↓outFr_fault, ↓outFr_onUnit, ↓outFr_ite, ↓fr_mk, ↓fr_mk_clock, ↓fr_mk_sec, ↓foldl_fr, ↓ite_fr, ↓ite_fst, ↓fold_fst_fr, ↓onUnit_fr, ↓State.modPktD_fr, ↓State.rollFree_fr, ite_self, implies_true]
  | split
  | refine (foldl_fr _ (fun _ _ => ?_) _ _).trans ?_
  | refine (fold_fst_fr _ (fun _ _ => ?_) _ _).trans ?_
  | refine pair_fr (by assumption) ?_
  | exact rfl

theorem State.returnTag_fr (s : State) (tag pid : Nat) : (State.returnTag s tag pid).fr = s.fr := by
  unfold State.returnTag
  simp only [↓fr_mk, ↓fr_mk_clock, ↓fr_mk_sec, ↓foldl_fr, ↓ite_fr, ↓State.putSpecTag_fr, ↓State.modPktD_fr, ↓State.settlePkt_fr, ite_self, implies_true]

theorem State.closePipe_fr (s : State) (g : Nat) : (State.closePipe s g).fr = s.fr := by
  unfold State.closePipe
  simp only [↓fr_mk, ↓fr_mk_clock, ↓fr_mk_sec, ↓foldl_fr, ↓ite_fr, ↓State.note_fr, ite_self, implies_true]

theorem execSpecTagReturn_fr (tag : Nat) (s : State) : outFr (execSpecTagReturn tag s) s = s.fr := by
  unfold execSpecTagReturn
  repeat' first
  | with_reducible rfl
  | simp only [↓outFr_next, ↓outFr_fault, ↓outFr_onUnit, ↓outFr_ite, ↓fr_mk, ↓fr_mk_clock, ↓fr_mk_sec, ↓foldl_fr, ↓ite_fr, ↓ite_fst, ↓fold_fst_fr, ↓onUnit_fr, ↓State.confirm_fr, ↓State.returnTag_fr, ↓State.closePipe_fr, ite_self, implies_true]
  | split
  | refine (foldl_fr _ (fun _ _ => ?_) _ _).trans ?_
  | refine (fold_fst_fr _ (fun _ _ => ?_) _ _).trans ?_
  | refine pair_fr (by assumption) ?_
  | exact rfl

theorem State.asBegun_fr (s : State) (port t : Nat) : (State.asBegun s port t).fr = s.fr := by
  unfold State.asBegun
  repeat' first
  | with_reducible rfl
  | simp only [↓fr_mk, ↓fr_mk_clock, ↓fr_mk_sec, ↓foldl_fr, ↓ite_fr, ↓ite_fst, ↓fold_fst_fr, ↓State.putCipherPort_fr, ite_self, implies_true]
  | split
  | refine (foldl_fr _ (fun _ _ => ?_) _ _).trans ?_
  | refine (fold_fst_fr _ (fun _ _ => ?_) _ _).trans ?_
  | refine pair_fr (by assumption) ?_
  | exact rfl

theorem State.countClass_fr (s : State) (c : RxClass) : (State.countClass s c).fr = s.fr := by
  unfold State.countClass
  repeat' first
  | with_reducible rfl
  | simp only [↓State.consumed_fr, ↓fr_mk, ↓fr_mk_clock, ↓fr_mk_sec, ↓foldl_fr, ↓ite_fr, ↓State.bump_fr, ite_self, implies_true]
  | split
  | refine (foldl_fr _ (fun _ _ => ?_) _ _).trans ?_
  | refine (fold_fst_fr _ (fun _ _ => ?_) _ _).trans ?_
  | refine pair_fr (by assumption) ?_
  | exact rfl

theorem State.countRxOk_fr (s : State) (port len cast : Nat) : (State.countRxOk s port len cast).fr = s.fr := by
  unfold State.countRxOk
  simp only [↓fr_mk, ↓fr_mk_clock, ↓fr_mk_sec, ↓foldl_fr, ↓ite_fr, ↓State.bumpBy_fr, ↓State.bump_fr, ite_self, implies_true]

theorem State.countMac_fr (s : State) (port : Nat) (f : RxFrame) : (State.countMac s port f).fr = s.fr := by
  unfold State.countMac
  repeat' first
  | with_reducible rfl
  | simp only [↓fr_mk, ↓fr_mk_clock, ↓fr_mk_sec, ↓foldl_fr, ↓ite_fr, ↓State.bumpBy_fr, ↓State.bump_fr, ↓State.countRxOk_fr, ite_self, implies_true]
  | split
  | refine (foldl_fr _ (fun _ _ => ?_) _ _).trans ?_
  | refine (fold_fst_fr _ (fun _ _ => ?_) _ _).trans ?_
  | refine pair_fr (by assumption) ?_
  | exact rfl

theorem State.setRefused_fr (s : State) (port fid : Nat) : (State.setRefused s port fid).fr = s.fr := by
  unfold State.setRefused
  simp only [↓fr_mk, ↓fr_mk_clock, ↓fr_mk_sec, ↓foldl_fr, ↓ite_fr, ite_self, implies_true]

theorem State.clearRefused_fr (s : State) (port fid : Nat) : (State.clearRefused s port fid).fr = s.fr := by
  unfold State.clearRefused
  simp only [↓fr_mk, ↓fr_mk_clock, ↓fr_mk_sec, ↓foldl_fr, ↓ite_fr, ite_self, implies_true]

theorem State.forgetArrived_fr (s : State) (port fid : Nat) : (State.forgetArrived s port fid).fr = s.fr := by
  unfold State.forgetArrived
  simp only [↓fr_mk, ↓fr_mk_clock, ↓fr_mk_sec, ↓foldl_fr, ↓ite_fr, ite_self, implies_true]

theorem State.arrive_fr (s : State) (port fid first : Nat) (f : RxFrame) : (State.arrive s port fid first f).fr = s.fr := by
  unfold State.arrive
  repeat' first
  | with_reducible rfl
  | simp only [↓fr_mk, ↓fr_mk_clock, ↓fr_mk_sec, ↓foldl_fr, ↓ite_fr, ↓State.asBegun_fr, ↓State.countClass_fr, ↓State.setRefused_fr, ite_self, implies_true]
  | split
  | refine (foldl_fr _ (fun _ _ => ?_) _ _).trans ?_
  | refine (fold_fst_fr _ (fun _ _ => ?_) _ _).trans ?_
  | refine pair_fr (by assumption) ?_
  | exact rfl

theorem execMacRxFrameEnd_fr (port fid : Nat) (f : RxFrame) (s : State) : outFr (execMacRxFrameEnd port fid f s) s = s.fr := by
  unfold execMacRxFrameEnd
  repeat' first
  | with_reducible rfl
  | simp only [↓outFr_next, ↓outFr_fault, ↓outFr_onUnit, ↓outFr_ite, ↓fr_mk, ↓fr_mk_clock, ↓fr_mk_sec, ↓foldl_fr, ↓ite_fr, ↓ite_fst, ↓fold_fst_fr, ↓onUnit_fr, ↓State.modPktD_fr, ↓State.countMac_fr, ↓State.clearRefused_fr, ↓State.arrive_fr, ite_self, implies_true]
  | split
  | refine (foldl_fr _ (fun _ _ => ?_) _ _).trans ?_
  | refine (fold_fst_fr _ (fun _ _ => ?_) _ _).trans ?_
  | refine pair_fr (by assumption) ?_
  | exact rfl

theorem State.useSlot_fr (s : State) (pipe : Nat) : (State.useSlot s pipe).fr = s.fr := by
  unfold State.useSlot
  simp only [↓fr_mk, ↓fr_mk_clock, ↓fr_mk_sec, ↓foldl_fr, ↓ite_fr, ↓State.putSlotsAt_fr, ↓State.putSlotNo_fr, ite_self, implies_true]

theorem State.launch_fr (s : State) (pid : Nat) (p : Pkt) (l : Launch) : (State.launch s pid p l).fr = s.fr := by
  unfold State.launch
  repeat' first
  | with_reducible rfl
  | simp only [↓fr_mk, ↓fr_mk_clock, ↓fr_mk_sec, ↓foldl_fr, ↓ite_fr, ↓State.bump_fr, ↓State.addReq_fr, ite_self, implies_true]
  | split
  | refine (foldl_fr _ (fun _ _ => ?_) _ _).trans ?_
  | refine (fold_fst_fr _ (fun _ _ => ?_) _ _).trans ?_
  | refine pair_fr (by assumption) ?_
  | exact rfl

theorem State.ingressSearch_fr (s : State) (pid : Nat) : (State.ingressSearch s pid).fr = s.fr := by
  unfold State.ingressSearch
  repeat' first
  | with_reducible rfl
  | simp only [↓State.tablePoison_fr, ↓fr_mk, ↓fr_mk_clock, ↓fr_mk_sec, ↓foldl_fr, ↓ite_fr, ↓State.putPkt_fr, ↓State.bump_fr, ↓State.raise_fr, ↓State.poisonTrap_fr, ↓State.countFor_fr, ite_self, implies_true]
  | split
  | refine (foldl_fr _ (fun _ _ => ?_) _ _).trans ?_
  | refine (fold_fst_fr _ (fun _ _ => ?_) _ _).trans ?_
  | refine pair_fr (by assumption) ?_
  | exact rfl

theorem State.parsePkt_fr (s : State) (pid : Nat) : (State.parsePkt s pid).fr = s.fr := by
  unfold State.parsePkt
  repeat' first
  | with_reducible rfl
  | simp only [↓fr_mk, ↓fr_mk_clock, ↓fr_mk_sec, ↓foldl_fr, ↓ite_fr, ↓State.putPkt_fr, ↓State.bump_fr, ↓State.launch_fr, ↓State.ingressSearch_fr, ite_self, implies_true]
  | split
  | refine (foldl_fr _ (fun _ _ => ?_) _ _).trans ?_
  | refine (fold_fst_fr _ (fun _ _ => ?_) _ _).trans ?_
  | refine pair_fr (by assumption) ?_
  | exact rfl

theorem State.addPkt_fr (s : State) (p : Pkt) (counts : Bool) : (State.addPkt s p counts).1.fr = s.fr := by
  unfold State.addPkt
  repeat' first
  | with_reducible rfl
  | simp only [↓fr_mk, ↓fr_mk_clock, ↓fr_mk_sec, ↓foldl_fr, ↓ite_fr, ↓ite_fst, ↓fold_fst_fr, ↓State.modInFlight_fr, ↓State.putPkt_fr, ite_self, implies_true]
  | split
  | refine (foldl_fr _ (fun _ _ => ?_) _ _).trans ?_
  | refine (fold_fst_fr _ (fun _ _ => ?_) _ _).trans ?_
  | refine pair_fr (by assumption) ?_
  | exact rfl

theorem State.giveTag_fr (s : State) (pid : Nat) : (State.giveTag s pid).fr = s.fr := by
  unfold State.giveTag
  repeat' first
  | with_reducible rfl
  | simp only [↓fr_mk, ↓fr_mk_clock, ↓fr_mk_sec, ↓foldl_fr, ↓ite_fr, ↓State.putPkt_fr, ↓State.putSpecTag_fr, ↓State.putTagNext_fr, ↓State.bump_fr, ↓State.raise_fr, ite_self, implies_true]
  | split
  | refine (foldl_fr _ (fun _ _ => ?_) _ _).trans ?_
  | refine (fold_fst_fr _ (fun _ _ => ?_) _ _).trans ?_
  | refine pair_fr (by assumption) ?_
  | exact rfl

theorem State.carry_fr (s : State) (pipe : Nat) : (State.carry s pipe).fr = s.fr := by
  unfold State.carry
  simp only [↓fr_mk, ↓fr_mk_clock, ↓fr_mk_sec, ↓foldl_fr, ↓ite_fr, ↓State.ledgerAdd_fr, ↓State.useSlot_fr, ite_self, implies_true]

theorem State.enter_fr (s : State) (a : Arrived) : (State.enter s a).fr = s.fr := by
  unfold State.enter
  repeat' first
  | with_reducible rfl
  | simp only [↓fr_mk, ↓fr_mk_clock, ↓fr_mk_sec, ↓foldl_fr, ↓ite_fr, ↓ite_fst, ↓fold_fst_fr, ↓State.putTurn_fr, ↓State.confirm_fr, ↓State.forgetArrived_fr, ↓State.parsePkt_fr, ↓State.addPkt_fr, ↓State.giveTag_fr, ↓State.carry_fr, ite_self, implies_true]
  | split
  | refine (foldl_fr _ (fun _ _ => ?_) _ _).trans ?_
  | refine (fold_fst_fr _ (fun _ _ => ?_) _ _).trans ?_
  | refine pair_fr (by assumption) ?_
  | exact rfl

theorem State.turnAway_fr (s : State) (a : Arrived) : (State.turnAway s a).fr = s.fr := by
  unfold State.turnAway
  simp only [↓fr_mk, ↓fr_mk_clock, ↓fr_mk_sec, ↓foldl_fr, ↓ite_fr, ↓State.setRefused_fr, ↓State.forgetArrived_fr, ite_self, implies_true]

theorem State.lineWaits_fr (s : State) (pipe port fid : Nat) : (State.lineWaits s pipe port fid).fr = s.fr := by
  unfold State.lineWaits
  simp only [↓fr_mk, ↓fr_mk_clock, ↓fr_mk_sec, ↓foldl_fr, ↓ite_fr, ↓State.modLineWait_fr, ite_self, implies_true]

theorem execPacketEntry_fr (port fid : Nat) (f : RxFrame) (s : State) : outFr (execPacketEntry port fid f s) s = s.fr := by
  unfold execPacketEntry
  repeat' first
  | with_reducible rfl
  | simp only [↓outFr_next, ↓outFr_fault, ↓outFr_onUnit, ↓outFr_ite, ↓fr_mk, ↓fr_mk_clock, ↓fr_mk_sec, ↓foldl_fr, ↓ite_fr, ↓ite_fst, ↓fold_fst_fr, ↓State.modLineWait_fr, ↓State.bump_fr, ↓onUnit_fr, ↓State.clearRefused_fr, ↓State.forgetArrived_fr, ↓State.arrive_fr, ↓State.enter_fr, ↓State.turnAway_fr, ↓State.lineWaits_fr, ite_self, implies_true]
  | split
  | refine (foldl_fr _ (fun _ _ => ?_) _ _).trans ?_
  | refine (fold_fst_fr _ (fun _ _ => ?_) _ _).trans ?_
  | refine pair_fr (by assumption) ?_
  | exact rfl

theorem State.accountSlot_fr (s : State) (pipe : Nat) (ready tableWait outWait : Bool) : (State.accountSlot s pipe ready tableWait outWait).fr = s.fr := by
  unfold State.accountSlot
  simp only [↓fr_mk, ↓fr_mk_clock, ↓fr_mk_sec, ↓foldl_fr, ↓ite_fr, ↓State.putSlotNo_fr, ↓State.ledgerAdd_fr, ite_self, implies_true]

theorem State.accountRest_fr (s : State) (g : Nat) (ready0 ready1 tableWait outWait : Bool) : (State.accountRest s g ready0 ready1 tableWait outWait).fr = s.fr := by
  unfold State.accountRest
  simp only [↓fr_mk, ↓fr_mk_clock, ↓fr_mk_sec, ↓foldl_fr, ↓ite_fr, ↓State.putSlotsAt_fr, ↓State.accountSlot_fr, ite_self, implies_true]

theorem State.accountIngress_fr (s : State) (pipe : Nat) : (State.accountIngress s pipe).fr = s.fr := by
  unfold State.accountIngress
  simp only [↓fr_mk, ↓fr_mk_clock, ↓fr_mk_sec, ↓foldl_fr, ↓ite_fr, ↓State.accountRest_fr, ite_self, implies_true]

theorem execIngressPipeSlot_fr (pipe : Nat) (ready0 ready1 : Bool) (s : State) : outFr (execIngressPipeSlot pipe ready0 ready1 s) s = s.fr := by
  unfold execIngressPipeSlot
  simp only [↓outFr_next, ↓outFr_fault, ↓outFr_onUnit, ↓outFr_ite, ↓fr_mk, ↓fr_mk_clock, ↓fr_mk_sec, ↓foldl_fr, ↓ite_fr, ↓ite_fst, ↓fold_fst_fr, ↓onUnit_fr, ↓State.accountRest_fr, ite_self, implies_true]

theorem State.decided_fr (s : State) (pid : Nat) (d : Decision) : (State.decided s pid d).fr = s.fr := by
  unfold State.decided
  repeat' first
  | with_reducible rfl
  | simp only [↓fr_mk, ↓fr_mk_clock, ↓fr_mk_sec, ↓foldl_fr, ↓ite_fr, ↓State.putPkt_fr, ↓State.dropPkt_fr, ite_self, implies_true]
  | split
  | refine (foldl_fr _ (fun _ _ => ?_) _ _).trans ?_
  | refine (fold_fst_fr _ (fun _ _ => ?_) _ _).trans ?_
  | refine pair_fr (by assumption) ?_
  | exact rfl

theorem State.setClass_fr (s : State) (pid : Nat) (p : Pkt) (res : Option (BitVec 80)) : (State.setClass s pid p res).fr = s.fr := by
  unfold State.setClass
  repeat' first
  | with_reducible rfl
  | simp only [↓fr_mk, ↓fr_mk_clock, ↓fr_mk_sec, ↓foldl_fr, ↓ite_fr, ↓State.putPkt_fr, ite_self, implies_true]
  | split
  | refine (foldl_fr _ (fun _ _ => ?_) _ _).trans ?_
  | refine (fold_fst_fr _ (fun _ _ => ?_) _ _).trans ?_
  | refine pair_fr (by assumption) ?_
  | exact rfl

theorem State.toDest_fr (s : State) (pid pipe op arg : Nat) : (State.toDest s pid pipe op arg).fr = s.fr := by
  unfold State.toDest
  repeat' first
  | with_reducible rfl
  | simp only [↓fr_mk, ↓fr_mk_clock, ↓fr_mk_sec, ↓foldl_fr, ↓ite_fr, ↓State.bump_fr, ↓State.decided_fr, ite_self, implies_true]
  | split
  | refine (foldl_fr _ (fun _ _ => ?_) _ _).trans ?_
  | refine (fold_fst_fr _ (fun _ _ => ?_) _ _).trans ?_
  | refine pair_fr (by assumption) ?_
  | exact rfl

theorem State.decideResult_fr (s : State) (pid : Nat) (p : Pkt) (h : Option Hit) : (State.decideResult s pid p h).fr = s.fr := by
  unfold State.decideResult
  repeat' first
  | with_reducible rfl
  | simp only [↓fr_mk, ↓fr_mk_clock, ↓fr_mk_sec, ↓foldl_fr, ↓ite_fr, ↓State.bump_fr, ↓State.modPktD_fr, ↓State.decided_fr, ↓State.toDest_fr, ite_self, implies_true]
  | split
  | refine (foldl_fr _ (fun _ _ => ?_) _ _).trans ?_
  | refine (fold_fst_fr _ (fun _ _ => ?_) _ _).trans ?_
  | refine pair_fr (by assumption) ?_
  | exact rfl

theorem State.decideCloister_fr (s : State) (pid : Nat) (p : Pkt) : (State.decideCloister s pid p).fr = s.fr := by
  unfold State.decideCloister
  simp only [↓fr_mk, ↓fr_mk_clock, ↓fr_mk_sec, ↓foldl_fr, ↓ite_fr, ↓State.putPkt_fr, ↓State.bump_fr, ↓State.enterCloister_fr, ↓State.confirm_fr, ↓State.decided_fr, ite_self, implies_true]

theorem State.decideRows_fr (s : State) (pid : Nat) : (State.decideRows s pid).fr = s.fr := by
  unfold State.decideRows
  repeat' first
  | with_reducible rfl
  | simp only [↓fr_mk, ↓fr_mk_clock, ↓fr_mk_sec, ↓foldl_fr, ↓ite_fr, ↓State.putPkt_fr, ↓State.bump_fr, ↓State.dropPkt_fr, ↓State.poisonTrap_fr, ↓State.decided_fr, ↓State.setClass_fr, ↓State.toDest_fr, ↓State.decideResult_fr, ↓State.decideCloister_fr, ite_self, implies_true]
  | split
  | refine (foldl_fr _ (fun _ _ => ?_) _ _).trans ?_
  | refine (fold_fst_fr _ (fun _ _ => ?_) _ _).trans ?_
  | refine pair_fr (by assumption) ?_
  | exact rfl

theorem execIngressDecision_fr (pid : Nat) (s : State) : outFr (execIngressDecision pid s) s = s.fr := by
  unfold execIngressDecision
  repeat' first
  | with_reducible rfl
  | simp only [↓outFr_next, ↓outFr_fault, ↓outFr_onUnit, ↓outFr_ite, ↓fr_mk, ↓fr_mk_clock, ↓fr_mk_sec, ↓foldl_fr, ↓ite_fr, ↓ite_fst, ↓fold_fst_fr, ↓State.rollback_fr, ↓State.decideRows_fr, ite_self, implies_true]
  | split
  | refine (foldl_fr _ (fun _ _ => ?_) _ _).trans ?_
  | refine (fold_fst_fr _ (fun _ _ => ?_) _ _).trans ?_
  | refine pair_fr (by assumption) ?_
  | exact rfl

theorem State.portTarget_fr (s : State) (port tc trunc : Nat) (kind : CopyKind) : (State.portTarget s port tc trunc kind).1.fr = s.fr := by
  unfold State.portTarget
  repeat' first
  | with_reducible rfl
  | simp only [↓fr_mk, ↓fr_mk_clock, ↓fr_mk_sec, ↓foldl_fr, ↓ite_fr, ↓ite_fst, ↓fold_fst_fr, ↓State.bump_fr, ite_self, implies_true]
  | split
  | refine (foldl_fr _ (fun _ _ => ?_) _ _).trans ?_
  | refine (fold_fst_fr _ (fun _ _ => ?_) _ _).trans ?_
  | refine pair_fr (by assumption) ?_
  | exact rfl

theorem State.memberTarget_fr (s : State) (ingress : Nat) (self : Bool) (m : Nat) : (State.memberTarget s ingress self m).1.fr = s.fr := by
  unfold State.memberTarget
  repeat' first
  | with_reducible rfl
  | simp only [↓fr_mk, ↓fr_mk_clock, ↓fr_mk_sec, ↓foldl_fr, ↓ite_fr, ↓ite_fst, ↓fold_fst_fr, ↓State.bump_fr, ite_self, implies_true]
  | split
  | refine (foldl_fr _ (fun _ _ => ?_) _ _).trans ?_
  | refine (fold_fst_fr _ (fun _ _ => ?_) _ _).trans ?_
  | refine pair_fr (by assumption) ?_
  | exact rfl

theorem State.mainTargets_fr (s : State) (p : Pkt) : (State.mainTargets s p).1.fr = s.fr := by
  unfold State.mainTargets
  repeat' first
  | with_reducible rfl
  | simp only [↓fr_mk, ↓fr_mk_clock, ↓fr_mk_sec, ↓foldl_fr, ↓ite_fr, ↓ite_fst, ↓fold_fst_fr, ↓State.portTarget_fr, ↓State.memberTarget_fr, ite_self, implies_true]
  | split
  | refine (foldl_fr _ (fun _ _ => ?_) _ _).trans ?_
  | refine (fold_fst_fr _ (fun _ _ => ?_) _ _).trans ?_
  | refine pair_fr (by assumption) ?_
  | exact rfl

theorem State.mirrorTarget_fr (s : State) (session pipe tc : Nat) (v : BitVec 16) : (State.mirrorTarget s session pipe tc v).1.fr = s.fr := by
  unfold State.mirrorTarget
  repeat' first
  | with_reducible rfl
  | simp only [↓fr_mk, ↓fr_mk_clock, ↓fr_mk_sec, ↓foldl_fr, ↓ite_fr, ↓ite_fst, ↓fold_fst_fr, ↓State.bump_fr, ↓State.portTarget_fr, ite_self, implies_true]
  | split
  | refine (foldl_fr _ (fun _ _ => ?_) _ _).trans ?_
  | refine (fold_fst_fr _ (fun _ _ => ?_) _ _).trans ?_
  | refine pair_fr (by assumption) ?_
  | exact rfl

theorem State.sideTargets_fr (s : State) (p : Pkt) : (State.sideTargets s p).1.fr = s.fr := by
  unfold State.sideTargets
  repeat' first
  | with_reducible rfl
  | simp only [↓fr_mk, ↓fr_mk_clock, ↓fr_mk_sec, ↓foldl_fr, ↓ite_fr, ↓ite_fst, ↓fold_fst_fr, ↓State.mirrorTarget_fr, ite_self, implies_true]
  | split
  | refine (foldl_fr _ (fun _ _ => ?_) _ _).trans ?_
  | refine (fold_fst_fr _ (fun _ _ => ?_) _ _).trans ?_
  | refine pair_fr (by assumption) ?_
  | exact rfl

theorem State.queueCells_fr (s : State) (pid : Nat) : (State.queueCells s pid).fr = s.fr := by
  unfold State.queueCells
  repeat' first
  | with_reducible rfl
  | simp only [↓fr_mk, ↓fr_mk_clock, ↓fr_mk_sec, ↓foldl_fr, ↓ite_fr, ↓State.startCells_fr, ite_self, implies_true]
  | split
  | refine (foldl_fr _ (fun _ _ => ?_) _ _).trans ?_
  | refine (fold_fst_fr _ (fun _ _ => ?_) _ _).trans ?_
  | refine pair_fr (by assumption) ?_
  | exact rfl

theorem State.countInject_fr (s : State) (pid : Nat) (p : Pkt) : (State.countInject s pid p).fr = s.fr := by
  unfold State.countInject
  repeat' first
  | with_reducible rfl
  | simp only [↓fr_mk, ↓fr_mk_clock, ↓fr_mk_sec, ↓foldl_fr, ↓ite_fr, ↓State.bump_fr, ite_self, implies_true]
  | split
  | refine (foldl_fr _ (fun _ _ => ?_) _ _).trans ?_
  | refine (fold_fst_fr _ (fun _ _ => ?_) _ _).trans ?_
  | refine pair_fr (by assumption) ?_
  | exact rfl

theorem execAdmitHead_fr (pid : Nat) (s : State) : outFr (execAdmitHead pid s) s = s.fr := by
  unfold execAdmitHead
  repeat' first
  | with_reducible rfl
  | simp only [↓outFr_next, ↓outFr_fault, ↓outFr_onUnit, ↓outFr_ite, ↓fr_mk, ↓fr_mk_clock, ↓fr_mk_sec, ↓foldl_fr, ↓ite_fr, ↓ite_fst, ↓fold_fst_fr, ↓State.admitAll_fr, ↓State.runPushDue_fr, ↓State.mainTargets_fr, ↓State.sideTargets_fr, ↓State.queueCells_fr, ↓State.countInject_fr, ite_self, implies_true]
  | split
  | refine (foldl_fr _ (fun _ _ => ?_) _ _).trans ?_
  | refine (fold_fst_fr _ (fun _ _ => ?_) _ _).trans ?_
  | refine pair_fr (by assumption) ?_
  | exact rfl

theorem State.releaseHeld_fr (s : State) (pid : Nat) : (State.releaseHeld s pid).fr = s.fr := by
  unfold State.releaseHeld
  simp only [↓fr_mk, ↓fr_mk_clock, ↓fr_mk_sec, ↓foldl_fr, ↓ite_fr, ↓State.modPktD_fr, ↓State.dropPkt_fr, ite_self, implies_true]

theorem State.secondPass_fr (s : State) (pid pipe : Nat) (p : Pkt) (f : List Byte) : (State.secondPass s pid pipe p f).fr = s.fr := by
  unfold State.secondPass
  simp only [↓fr_mk, ↓fr_mk_clock, ↓fr_mk_sec, ↓foldl_fr, ↓ite_fr, ↓ite_fst, ↓fold_fst_fr, ↓State.putTurn_fr, ↓State.modPktD_fr, ↓State.confirm_fr, ↓State.launch_fr, ↓State.parsePkt_fr, ↓State.addPkt_fr, ↓State.giveTag_fr, ↓State.carry_fr, ↓State.releaseHeld_fr, ite_self, implies_true]

theorem State.leaveCloister_fr (s : State) (pid pipe : Nat) (p : Pkt) : (State.leaveCloister s pid pipe p).fr = s.fr := by
  unfold State.leaveCloister
  simp only [↓fr_mk, ↓fr_mk_clock, ↓fr_mk_sec, ↓foldl_fr, ↓ite_fr, ↓State.endHeld_fr, ↓State.secondPass_fr, ite_self, implies_true]

theorem execCloisterReturn_fr (pid : Nat) (s : State) : outFr (execCloisterReturn pid s) s = s.fr := by
  unfold execCloisterReturn
  repeat' first
  | with_reducible rfl
  | simp only [↓outFr_next, ↓outFr_fault, ↓outFr_onUnit, ↓outFr_ite, ↓fr_mk, ↓fr_mk_clock, ↓fr_mk_sec, ↓foldl_fr, ↓ite_fr, ↓ite_fst, ↓fold_fst_fr, ↓State.leaveCloister_fr, ite_self, implies_true]
  | split
  | refine (foldl_fr _ (fun _ _ => ?_) _ _).trans ?_
  | refine (fold_fst_fr _ (fun _ _ => ?_) _ _).trans ?_
  | refine pair_fr (by assumption) ?_
  | exact rfl

theorem execPipeInjectSlot_fr (pipe : Nat) (s : State) : outFr (execPipeInjectSlot pipe s) s = s.fr := by
  unfold execPipeInjectSlot
  repeat' first
  | with_reducible rfl
  | simp only [↓outFr_next, ↓outFr_fault, ↓outFr_onUnit, ↓outFr_ite, ↓fr_mk, ↓fr_mk_clock, ↓fr_mk_sec, ↓foldl_fr, ↓ite_fr, ↓ite_fst, ↓fold_fst_fr, ↓State.modInFlight_fr, ↓State.putSlotNo_fr, ↓onUnit_fr, ↓State.modPktD_fr, ↓State.parsePkt_fr, ↓State.carry_fr, ite_self, implies_true]
  | split
  | refine (foldl_fr _ (fun _ _ => ?_) _ _).trans ?_
  | refine (fold_fst_fr _ (fun _ _ => ?_) _ _).trans ?_
  | refine pair_fr (by assumption) ?_
  | exact rfl

theorem State.colPut_fr (s : State) (l : List ColFrame) (again : Bool) : (State.colPut s l again).fr = s.fr := by
  unfold State.colPut
  simp only [↓fr_mk, ↓fr_mk_clock, ↓fr_mk_sec, ↓foldl_fr, ↓ite_fr, ite_self, implies_true]

theorem State.colSend_fr (s : State) (m : LinkMsg) : (State.colSend s m).fr = s.fr := by
  unfold State.colSend
  simp only [↓fr_mk, ↓fr_mk_clock, ↓fr_mk_sec, ↓foldl_fr, ↓ite_fr, ↓State.bump_fr, ↓State.colPut_fr, ite_self, implies_true]

theorem State.extend_fr (s : State) (dg : Option (List Byte)) : (State.extend s dg).fr = s.fr := by
  unfold State.extend
  repeat' first
  | with_reducible rfl
  | simp only [↓fr_mk, ↓fr_mk_clock, ↓fr_mk_sec, ↓foldl_fr, ↓ite_fr, ite_self, implies_true]
  | split
  | refine (foldl_fr _ (fun _ _ => ?_) _ _).trans ?_
  | refine (fold_fst_fr _ (fun _ _ => ?_) _ _).trans ?_
  | refine pair_fr (by assumption) ?_
  | exact rfl

theorem State.replyHost_fr (s : State) (h : Hdr) (r : Nat) (p : Reply) : (State.replyHost s h r p).fr = s.fr := by
  unfold State.replyHost
  repeat' first
  | with_reducible rfl
  | simp only [↓fr_mk, ↓fr_mk_clock, ↓fr_mk_sec, ↓foldl_fr, ↓ite_fr, ↓State.putTakenAt_fr, ↓State.bump_fr, ↓State.signal_fr, ↓State.advanceRing_fr, ite_self, implies_true]
  | split
  | refine (foldl_fr _ (fun _ _ => ?_) _ _).trans ?_
  | refine (fold_fst_fr _ (fun _ _ => ?_) _ _).trans ?_
  | refine pair_fr (by assumption) ?_
  | exact rfl

theorem State.sendReply_fr (s : State) (h : Hdr) (p : Reply) : (State.sendReply s h p).fr = s.fr := by
  unfold State.sendReply
  repeat' first
  | with_reducible rfl
  | simp only [↓fr_mk, ↓fr_mk_clock, ↓fr_mk_sec, ↓foldl_fr, ↓ite_fr, ↓State.ringSend_fr, ↓State.colSend_fr, ↓State.replyHost_fr, ite_self, implies_true]
  | split
  | refine (foldl_fr _ (fun _ _ => ?_) _ _).trans ?_
  | refine (fold_fst_fr _ (fun _ _ => ?_) _ _).trans ?_
  | refine pair_fr (by assumption) ?_
  | exact rfl

theorem State.answer_fr (s : State) (h : Hdr) (op : Nat) (dg : Option (List Byte)) (status detail : Nat)
    (result logged : BitVec 64) (payload : List Nat) : (State.answer s h op dg status detail result logged payload).fr = s.fr := by
  unfold State.answer
  simp only [↓State.consumed_fr, ↓fr_mk, ↓fr_mk_clock, ↓fr_mk_sec, ↓foldl_fr, ↓ite_fr, ↓State.note_fr, ↓State.extend_fr, ↓State.sendReply_fr, ite_self, implies_true]

theorem State.hold_fr (s : State) (h : Hdr) (op : Nat) (dg : Option (List Byte)) : (State.hold s h op dg).fr = s.fr := by
  unfold State.hold
  simp only [↓fr_mk, ↓fr_mk_clock, ↓fr_mk_sec, ↓foldl_fr, ↓ite_fr, ite_self, implies_true]

theorem State.reply_fr (s : State) (h : Hdr) (op status detail : Nat) (result logged : BitVec 64) (payload : List Nat) : (State.reply s h op status detail result logged payload).fr = s.fr := by
  unfold State.reply
  simp only [↓fr_mk, ↓fr_mk_clock, ↓fr_mk_sec, ↓foldl_fr, ↓ite_fr, ↓State.answer_fr, ite_self, implies_true]

theorem State.refuseHeld_fr (s : State) (h : Hdr) (op status detail : Nat) : (State.refuseHeld s h op status detail).fr = s.fr := by
  unfold State.refuseHeld
  simp only [↓fr_mk, ↓fr_mk_clock, ↓fr_mk_sec, ↓foldl_fr, ↓ite_fr, ↓State.reply_fr, ite_self, implies_true]

theorem State.sendTxn_fr (s : State) (h : Hdr) (op : Nat) (value : Option Nat) (cmd : Mirrored) (prep : Bool) (target : Nat)
    (objs : List (Nat × Nat)) (changes : List Change) : (State.sendTxn s h op value cmd prep target objs changes).fr = s.fr := by
  unfold State.sendTxn
  simp only [↓fr_mk, ↓fr_mk_clock, ↓fr_mk_sec, ↓foldl_fr, ↓ite_fr, ↓State.colSend_fr, ite_self, implies_true]

theorem State.prepareTxn_fr (s : State) (h : Hdr) (op txn : Nat) (cmd : Mirrored) (target : Nat) (objs : List (Nat × Nat))
    (changes : List Change) (dg : Option (List Byte)) : (State.prepareTxn s h op txn cmd target objs changes dg).fr = s.fr := by
  unfold State.prepareTxn
  simp only [↓fr_mk, ↓fr_mk_clock, ↓fr_mk_sec, ↓foldl_fr, ↓ite_fr, ↓State.answer_fr, ite_self, implies_true]

theorem State.dueAll_fr (s : State) (e : Nat) (objs : List (Nat × Nat)) (l : List Change) : (State.dueAll s e objs l).fr = s.fr := by
  unfold State.dueAll
  repeat' first
  | with_reducible rfl
  | simp only [↓fr_mk, ↓fr_mk_clock, ↓fr_mk_sec, ↓foldl_fr, ↓ite_fr, ↓State.due_fr, ite_self, implies_true]
  | split
  | refine (foldl_fr _ (fun _ _ => ?_) _ _).trans ?_
  | refine (fold_fst_fr _ (fun _ _ => ?_) _ _).trans ?_
  | refine pair_fr (by assumption) ?_
  | exact rfl

theorem State.countOp_fr (s : State) : (State.countOp s).fr = s.fr := by
  unfold State.countOp
  simp only [↓fr_mk, ↓fr_mk_clock, ↓fr_mk_sec, ↓foldl_fr, ↓ite_fr, ite_self, implies_true]

theorem State.stageWrite_fr (s : State) (c : WriteClass) (w : PlaneWrite) : (State.stageWrite s c w).fr = s.fr := by
  unfold State.stageWrite
  simp only [↓fr_mk, ↓fr_mk_clock, ↓fr_mk_sec, ↓foldl_fr, ↓ite_fr, ite_self, implies_true]

theorem State.withdraw_fr (s : State) (c : WriteClass) (kind slot : Nat) : (State.withdraw s c kind slot).fr = s.fr := by
  unfold State.withdraw
  simp only [↓fr_mk, ↓fr_mk_clock, ↓fr_mk_sec, ↓foldl_fr, ↓ite_fr, ite_self, implies_true]

theorem State.addObj_fr (s : State) (kind slot id : Nat) (v : BitVec 16) (val : ObjVal) : (State.addObj s kind slot id v val).fr = s.fr := by
  unfold State.addObj
  simp only [↓fr_mk, ↓fr_mk_clock, ↓fr_mk_sec, ↓foldl_fr, ↓ite_fr, ↓State.stageWrite_fr, ↓State.withdraw_fr, ite_self, implies_true]

theorem State.killObj_fr (s : State) (kind slot : Nat) (v : BitVec 16) : (State.killObj s kind slot v).fr = s.fr := by
  unfold State.killObj
  simp only [↓fr_mk, ↓fr_mk_clock, ↓fr_mk_sec, ↓foldl_fr, ↓ite_fr, ↓State.putObjAt_fr, ↓State.stageWrite_fr, ↓State.withdraw_fr, ite_self, implies_true]

theorem State.clearRowPoison_fr (s : State) (parts : List (Nat × Nat)) : (State.clearRowPoison s parts).fr = s.fr := by
  unfold State.clearRowPoison
  simp only [↓fr_mk, ↓fr_mk_clock, ↓fr_mk_sec, ↓foldl_fr, ↓ite_fr, ite_self, implies_true]

theorem State.landWrite_fr (s : State) (w : PlaneWrite) : (State.landWrite s w).fr = s.fr := by
  unfold State.landWrite
  repeat' first
  | with_reducible rfl
  | simp only [↓fr_mk, ↓fr_mk_clock, ↓fr_mk_sec, ↓foldl_fr, ↓ite_fr, ↓State.putObjAt_fr, ↓State.modObjAt_fr, ↓State.putRange_fr, ↓State.clearRowPoison_fr, ite_self, implies_true]
  | split
  | refine (foldl_fr _ (fun _ _ => ?_) _ _).trans ?_
  | refine (fold_fst_fr _ (fun _ _ => ?_) _ _).trans ?_
  | refine pair_fr (by assumption) ?_
  | exact rfl

theorem execRuleWriteLand_fr (s : State) : outFr (execRuleWriteLand s) s = s.fr := by
  unfold execRuleWriteLand
  repeat' first
  | with_reducible rfl
  | simp only [↓outFr_next, ↓outFr_fault, ↓outFr_onUnit, ↓outFr_ite, ↓fr_mk, ↓fr_mk_clock, ↓fr_mk_sec, ↓foldl_fr, ↓ite_fr, ↓ite_fst, ↓fold_fst_fr, ↓State.landWrite_fr, ite_self, implies_true]
  | split
  | refine (foldl_fr _ (fun _ _ => ?_) _ _).trans ?_
  | refine (fold_fst_fr _ (fun _ _ => ?_) _ _).trans ?_
  | refine pair_fr (by assumption) ?_
  | exact rfl

theorem State.closeMaquette_fr (s : State) (v : BitVec 16) (e : Nat) : (State.closeMaquette s v e).fr = s.fr := by
  unfold State.closeMaquette
  simp only [↓fr_mk, ↓fr_mk_clock, ↓fr_mk_sec, ↓foldl_fr, ↓ite_fr, ite_self, implies_true]

theorem State.acceptCommit_fr (s : State) (c : HeldCommit) (v : BitVec 16) : (State.acceptCommit s c v).fr = s.fr := by
  unfold State.acceptCommit
  simp only [↓fr_mk, ↓fr_mk_clock, ↓fr_mk_sec, ↓foldl_fr, ↓ite_fr, ↓State.reply_fr, ↓State.refuseHeld_fr, ↓State.dueAll_fr, ↓State.closeMaquette_fr, ite_self, implies_true]

theorem execMaquetteCommitAccept_fr (s : State) : outFr (execMaquetteCommitAccept s) s = s.fr := by
  unfold execMaquetteCommitAccept
  repeat' first
  | with_reducible rfl
  | simp only [↓outFr_next, ↓outFr_fault, ↓outFr_onUnit, ↓outFr_ite, ↓fr_mk, ↓fr_mk_clock, ↓fr_mk_sec, ↓foldl_fr, ↓ite_fr, ↓ite_fst, ↓fold_fst_fr, ↓State.sendTxn_fr, ↓State.prepareTxn_fr, ↓State.acceptCommit_fr, ite_self, implies_true]
  | split
  | refine (foldl_fr _ (fun _ _ => ?_) _ _).trans ?_
  | refine (fold_fst_fr _ (fun _ _ => ?_) _ _).trans ?_
  | refine pair_fr (by assumption) ?_
  | exact rfl

theorem State.discardPlane_fr (s : State) (v : BitVec 16) : (State.discardPlane s v).fr = s.fr := by
  unfold State.discardPlane
  repeat' first
  | with_reducible rfl
  | simp only [↓fr_mk, ↓fr_mk_clock, ↓fr_mk_sec, ↓foldl_fr, ↓ite_fr, ↓State.stageWrite_fr, ite_self, implies_true]
  | split
  | refine (foldl_fr _ (fun _ _ => ?_) _ _).trans ?_
  | refine (fold_fst_fr _ (fun _ _ => ?_) _ _).trans ?_
  | refine pair_fr (by assumption) ?_
  | exact rfl

theorem State.settlePlane_fr (s : State) (o : BitVec 16) : (State.settlePlane s o).fr = s.fr := by
  unfold State.settlePlane
  repeat' first
  | with_reducible rfl
  | simp only [↓fr_mk, ↓fr_mk_clock, ↓fr_mk_sec, ↓foldl_fr, ↓ite_fr, ↓State.stageWrite_fr, ite_self, implies_true]
  | split
  | refine (foldl_fr _ (fun _ _ => ?_) _ _).trans ?_
  | refine (fold_fst_fr _ (fun _ _ => ?_) _ _).trans ?_
  | refine pair_fr (by assumption) ?_
  | exact rfl

theorem State.putStashHits_fr (s : State) (i : Nat) (v : Bool) : (State.putStashHits s i v).fr = s.fr := by
  unfold State.putStashHits
  repeat' first
  | with_reducible rfl
  | simp only [↓fr_mk, ↓fr_mk_clock, ↓fr_mk_sec, ↓foldl_fr, ↓ite_fr, ↓State.putStashHit_fr, ite_self, implies_true]
  | split
  | refine (foldl_fr _ (fun _ _ => ?_) _ _).trans ?_
  | refine (fold_fst_fr _ (fun _ _ => ?_) _ _).trans ?_
  | refine pair_fr (by assumption) ?_
  | exact rfl

theorem State.poisonCell_fr (s : State) (cell : Nat) (b : Bool) : (State.poisonCell s cell b).fr = s.fr := by
  unfold State.poisonCell
  repeat' first
  | with_reducible rfl
  | simp only [↓fr_mk, ↓fr_mk_clock, ↓fr_mk_sec, ↓foldl_fr, ↓ite_fr, ↓ite_fst, ↓fold_fst_fr, ite_self, implies_true]
  | split
  | refine (foldl_fr _ (fun _ _ => ?_) _ _).trans ?_
  | refine (fold_fst_fr _ (fun _ _ => ?_) _ _).trans ?_
  | refine pair_fr (by assumption) ?_
  | exact rfl

theorem State.setPoison_fr (s : State) (a : BitVec 64) (b : Bool) : (State.setPoison s a b).fr = s.fr := by
  unfold State.setPoison
  repeat' first
  | with_reducible rfl
  | simp only [↓fr_mk, ↓fr_mk_clock, ↓fr_mk_sec, ↓foldl_fr, ↓ite_fr, ↓State.modEmSlot_fr, ↓State.modStashSlot_fr, ↓State.modPair_fr, ↓State.putLpmPoison_fr, ↓State.poisonCell_fr, ite_self, implies_true]
  | split
  | refine (foldl_fr _ (fun _ _ => ?_) _ _).trans ?_
  | refine (fold_fst_fr _ (fun _ _ => ?_) _ _).trans ?_
  | refine pair_fr (by assumption) ?_
  | exact rfl

theorem State.wordWritten_fr (s : State) (a : BitVec 64) : (State.wordWritten s a).fr = s.fr := by
  unfold State.wordWritten
  simp only [↓fr_mk, ↓fr_mk_clock, ↓fr_mk_sec, ↓foldl_fr, ↓ite_fr, ↓State.setPoison_fr, ite_self, implies_true]

theorem State.eccRead_fr (s : State) (cls inst : Nat) (a : BitVec 64) (found : EccErr) : (State.eccRead s cls inst a found).fr = s.fr := by
  unfold State.eccRead
  repeat' first
  | with_reducible rfl
  | simp only [↓fr_mk, ↓fr_mk_clock, ↓fr_mk_sec, ↓foldl_fr, ↓ite_fr, ↓State.eccCorrected_fr, ↓State.eccUncorrected_fr, ↓State.setPoison_fr, ite_self, implies_true]
  | split
  | refine (foldl_fr _ (fun _ _ => ?_) _ _).trans ?_
  | refine (fold_fst_fr _ (fun _ _ => ?_) _ _).trans ?_
  | refine pair_fr (by assumption) ?_
  | exact rfl

theorem State.writeBack_fr (s : State) (a : BitVec 64) : (State.writeBack s a).fr = s.fr := by
  unfold State.writeBack
  simp only [↓fr_mk, ↓fr_mk_clock, ↓fr_mk_sec, ↓foldl_fr, ↓ite_fr, ↓State.bump_fr, ite_self, implies_true]

theorem State.generate_fr (s : State) (p : Pkt) (t : Target) : (State.generate s p t).1.fr = s.fr := by
  unfold State.generate
  repeat' first
  | with_reducible rfl
  | simp only [↓fr_mk, ↓fr_mk_clock, ↓fr_mk_sec, ↓foldl_fr, ↓ite_fr, ↓ite_fst, ↓fold_fst_fr, ↓State.putPkt_fr, ↓State.admitAll_fr, ↓State.queueCells_fr, ite_self, implies_true]
  | split
  | refine (foldl_fr _ (fun _ _ => ?_) _ _).trans ?_
  | refine (fold_fst_fr _ (fun _ _ => ?_) _ _).trans ?_
  | refine pair_fr (by assumption) ?_
  | exact rfl

theorem State.sendCpu_fr (s : State) (queue reason : Nat) (bytes : List Byte) : (State.sendCpu s queue reason bytes).1.fr = s.fr := by
  unfold State.sendCpu
  repeat' first
  | with_reducible rfl
  | simp only [↓fr_mk, ↓fr_mk_clock, ↓fr_mk_sec, ↓foldl_fr, ↓ite_fr, ↓ite_fst, ↓fold_fst_fr, ↓State.generate_fr, ite_self, implies_true]
  | split
  | refine (foldl_fr _ (fun _ _ => ?_) _ _).trans ?_
  | refine (fold_fst_fr _ (fun _ _ => ?_) _ _).trans ?_
  | refine pair_fr (by assumption) ?_
  | exact rfl

theorem State.bucketStep_fr (s : State) (bank bucket : Nat) (upd : List (Nat × BitVec 256 × HitRule)) (merge : List (Nat × Nat))
    (kind : Nat) : (State.bucketStep s bank bucket upd merge kind).1.fr = s.fr := by
  unfold State.bucketStep
  repeat' first
  | with_reducible rfl
  | simp only [↓fr_mk, ↓fr_mk_clock, ↓fr_mk_sec, ↓foldl_fr, ↓ite_fr, ↓ite_fst, ↓fold_fst_fr, ↓State.putEmSlot_fr, ↓State.putWriteTag_fr, ite_self, implies_true]
  | split
  | refine (foldl_fr _ (fun _ _ => ?_) _ _).trans ?_
  | refine (fold_fst_fr _ (fun _ _ => ?_) _ _).trans ?_
  | refine pair_fr (by assumption) ?_
  | exact rfl

theorem State.placeJob_fr (s : State) (w : ArmWork) (reply : Option (Hdr × Nat)) : (State.placeJob s w reply).fr = s.fr := by
  unfold State.placeJob
  simp only [↓fr_mk, ↓fr_mk_clock, ↓fr_mk_sec, ↓foldl_fr, ↓ite_fr, ↓State.placeOne_fr, ↓State.reply_fr, ite_self, implies_true]

theorem State.refill_fr (s : State) : (State.refill s).fr = s.fr := by
  unfold State.refill
  repeat' first
  | with_reducible rfl
  | simp only [↓fr_mk, ↓fr_mk_clock, ↓fr_mk_sec, ↓foldl_fr, ↓ite_fr, ↓State.modEngine_fr, ite_self, implies_true]
  | split
  | refine (foldl_fr _ (fun _ _ => ?_) _ _).trans ?_
  | refine (fold_fst_fr _ (fun _ _ => ?_) _ _).trans ?_
  | refine pair_fr (by assumption) ?_
  | exact rfl

theorem State.request_fr (s : State) (store bank cls : Nat) (op : MaintOp) : (State.request s store bank cls op).fr = s.fr := by
  unfold State.request
  simp only [↓fr_mk, ↓fr_mk_clock, ↓fr_mk_sec, ↓foldl_fr, ↓ite_fr, ite_self, implies_true]

theorem State.passOver_fr (s : State) (store bank : Nat) (w : MaintReq) (heads : List MaintReq) : (State.passOver s store bank w heads).fr = s.fr := by
  unfold State.passOver
  simp only [↓fr_mk, ↓fr_mk_clock, ↓fr_mk_sec, ↓foldl_fr, ↓ite_fr, ite_self, implies_true]

theorem State.starve_fr (s : State) (store bank : Nat) : (State.starve s store bank).fr = s.fr := by
  unfold State.starve
  repeat' first
  | with_reducible rfl
  | simp only [↓fr_mk, ↓fr_mk_clock, ↓fr_mk_sec, ↓foldl_fr, ↓ite_fr, ↓State.bump_fr, ↓State.note_fr, ite_self, implies_true]
  | split
  | refine (foldl_fr _ (fun _ _ => ?_) _ _).trans ?_
  | refine (fold_fst_fr _ (fun _ _ => ?_) _ _).trans ?_
  | refine pair_fr (by assumption) ?_
  | exact rfl

theorem State.landSlot_fr (s base : State) (i : Nat) (bits : BitVec 256) (h : HitRule) (merge : List (Nat × Nat)) : (State.landSlot s base i bits h merge).fr = s.fr := by
  unfold State.landSlot
  repeat' first
  | with_reducible rfl
  | simp only [↓fr_mk, ↓fr_mk_clock, ↓fr_mk_sec, ↓foldl_fr, ↓ite_fr, ↓State.putEmSlot_fr, ↓State.putEmHit_fr, ↓State.wordWritten_fr, ite_self, implies_true]
  | split
  | refine (foldl_fr _ (fun _ _ => ?_) _ _).trans ?_
  | refine (fold_fst_fr _ (fun _ _ => ?_) _ _).trans ?_
  | refine pair_fr (by assumption) ?_
  | exact rfl

theorem State.landBucket_fr (s : State) (bank bucket : Nat) (slots : List (BitVec 256)) (hits : List HitRule)
    (merge : List (Nat × Nat)) : (State.landBucket s bank bucket slots hits merge).fr = s.fr := by
  unfold State.landBucket
  repeat' first
  | with_reducible rfl
  | simp only [↓fr_mk, ↓fr_mk_clock, ↓fr_mk_sec, ↓foldl_fr, ↓ite_fr, ↓State.putEmHit_fr, ↓State.modWriteTag_fr, ↓State.landSlot_fr, ite_self, implies_true]
  | split
  | refine (foldl_fr _ (fun _ _ => ?_) _ _).trans ?_
  | refine (fold_fst_fr _ (fun _ _ => ?_) _ _).trans ?_
  | refine pair_fr (by assumption) ?_
  | exact rfl

theorem State.landStash_fr (s base : State) (table k : Nat) (bits : BitVec 256) (h : HitRule) : (State.landStash s base table k bits h).fr = s.fr := by
  unfold State.landStash
  repeat' first
  | with_reducible rfl
  | simp only [↓fr_mk, ↓fr_mk_clock, ↓fr_mk_sec, ↓foldl_fr, ↓ite_fr, ↓State.putStashSlot_fr, ↓State.putStashHits_fr, ↓State.wordWritten_fr, ite_self, implies_true]
  | split
  | refine (foldl_fr _ (fun _ _ => ?_) _ _).trans ?_
  | refine (fold_fst_fr _ (fun _ _ => ?_) _ _).trans ?_
  | refine pair_fr (by assumption) ?_
  | exact rfl

theorem State.stashLevel_fr (s : State) (table : Nat) : (State.stashLevel s table).fr = s.fr := by
  unfold State.stashLevel
  simp only [↓fr_mk, ↓fr_mk_clock, ↓fr_mk_sec, ↓foldl_fr, ↓ite_fr, ↓State.modTable_fr, ↓State.note_fr, ite_self, implies_true]

theorem State.freePrefix_fr (s : State) (n : Nat) : (State.freePrefix s n).fr = s.fr := by
  unfold State.freePrefix
  simp only [↓fr_mk, ↓fr_mk_clock, ↓fr_mk_sec, ↓foldl_fr, ↓ite_fr, ↓State.putPrefixAt_fr, ite_self, implies_true]

theorem State.landPrefix_fr (s : State) (step : PlanStep) (bank word : Nat) : (State.landPrefix s step bank word).fr = s.fr := by
  unfold State.landPrefix
  repeat' first
  | with_reducible rfl
  | simp only [↓fr_mk, ↓fr_mk_clock, ↓fr_mk_sec, ↓foldl_fr, ↓ite_fr, ↓State.putPrefixAt_fr, ↓State.modWriteTag_fr, ↓State.wordWritten_fr, ↓State.freePrefix_fr, ite_self, implies_true]
  | split
  | refine (foldl_fr _ (fun _ _ => ?_) _ _).trans ?_
  | refine (fold_fst_fr _ (fun _ _ => ?_) _ _).trans ?_
  | refine pair_fr (by assumption) ?_
  | exact rfl

theorem State.commitEngine_fr (s : State) (e : Nat) : (State.commitEngine s e).fr = s.fr := by
  unfold State.commitEngine
  repeat' first
  | with_reducible rfl
  | simp only [↓fr_mk, ↓fr_mk_clock, ↓fr_mk_sec, ↓foldl_fr, ↓ite_fr, ↓State.modEngine_fr, ↓State.bump_fr, ite_self, implies_true]
  | split
  | refine (foldl_fr _ (fun _ _ => ?_) _ _).trans ?_
  | refine (fold_fst_fr _ (fun _ _ => ?_) _ _).trans ?_
  | refine pair_fr (by assumption) ?_
  | exact rfl

theorem State.memDone_fr (s : State) (e : Nat) (refused commit : Bool) : (State.memDone s e refused commit).fr = s.fr := by
  unfold State.memDone
  simp only [↓fr_mk, ↓fr_mk_clock, ↓fr_mk_sec, ↓foldl_fr, ↓ite_fr, ↓State.modEngine_fr, ↓State.commitEngine_fr, ite_self, implies_true]

theorem State.countKind_fr (s : State) (e kind dups : Nat) : (State.countKind s e kind dups).fr = s.fr := by
  unfold State.countKind
  repeat' first
  | with_reducible rfl
  | simp only [↓fr_mk, ↓fr_mk_clock, ↓fr_mk_sec, ↓foldl_fr, ↓ite_fr, ↓State.bumpBy_fr, ↓State.bump_fr, ite_self, implies_true]
  | split
  | refine (foldl_fr _ (fun _ _ => ?_) _ _).trans ?_
  | refine (fold_fst_fr _ (fun _ _ => ?_) _ _).trans ?_
  | refine pair_fr (by assumption) ?_
  | exact rfl

theorem State.refusedAt_fr (s : State) (store bank : Nat) : (State.refusedAt s store bank).fr = s.fr := by
  unfold State.refusedAt
  simp only [↓fr_mk, ↓fr_mk_clock, ↓fr_mk_sec, ↓foldl_fr, ↓ite_fr, ↓State.bump_fr, ite_self, implies_true]

theorem State.landArm_fr (s : State) (store bank e : Nat) (step : PlanStep) (commit : Bool) : (State.landArm s store bank e step commit).fr = s.fr := by
  unfold State.landArm
  repeat' first
  | with_reducible rfl
  | simp only [↓fr_mk, ↓fr_mk_clock, ↓fr_mk_sec, ↓foldl_fr, ↓ite_fr, ↓State.landBucket_fr, ↓State.landPrefix_fr, ↓State.memDone_fr, ↓State.countKind_fr, ↓State.refusedAt_fr, ite_self, implies_true]
  | split
  | refine (foldl_fr _ (fun _ _ => ?_) _ _).trans ?_
  | refine (fold_fst_fr _ (fun _ _ => ?_) _ _).trans ?_
  | refine pair_fr (by assumption) ?_
  | exact rfl

theorem State.readArm_fr (s : State) (store bank e unit buffer : Nat) : (State.readArm s store bank e unit buffer).fr = s.fr := by
  unfold State.readArm
  simp only [↓fr_mk, ↓fr_mk_clock, ↓fr_mk_sec, ↓foldl_fr, ↓ite_fr, ↓State.modEngine_fr, ↓State.draw_fr, ↓State.memDone_fr, ite_self, implies_true]

theorem State.rmwArm_fr (s : State) (e pair : Nat) (commit : Bool) : (State.rmwArm s e pair commit).fr = s.fr := by
  unfold State.rmwArm
  simp only [↓fr_mk, ↓fr_mk_clock, ↓fr_mk_sec, ↓foldl_fr, ↓ite_fr, ↓State.modWriteTag_fr, ↓State.putPair_fr, ↓State.draw_fr, ↓State.wordWritten_fr, ↓State.memDone_fr, ite_self, implies_true]

theorem State.sendNotice_fr (s : State) (n : Notice) : (State.sendNotice s n).fr = s.fr := by
  unfold State.sendNotice
  simp only [↓fr_mk, ↓fr_mk_clock, ↓fr_mk_sec, ↓foldl_fr, ↓ite_fr, ↓ite_fst, ↓fold_fst_fr, ↓State.bump_fr, ↓State.sendCpu_fr, ite_self, implies_true]

theorem State.aged_fr (s : State) (table : Nat) (b odd : BitVec 256) (slots : Nat) : (State.aged s table b odd slots).fr = s.fr := by
  unfold State.aged
  simp only [↓fr_mk, ↓fr_mk_clock, ↓fr_mk_sec, ↓foldl_fr, ↓ite_fr, ↓State.bumpBy_fr, ↓State.sendNotice_fr, ite_self, implies_true]

theorem State.patinaNext_fr (s : State) (table bank bucket : Nat) : (State.patinaNext s table bank bucket).fr = s.fr := by
  unfold State.patinaNext
  simp only [↓fr_mk, ↓fr_mk_clock, ↓fr_mk_sec, ↓foldl_fr, ↓ite_fr, ↓State.request_fr, ite_self, implies_true]

theorem State.patinaReadAt_fr (s : State) (table bank bucket : Nat) : (State.patinaReadAt s table bank bucket).fr = s.fr := by
  unfold State.patinaReadAt
  repeat' first
  | with_reducible rfl
  | simp only [↓fr_mk, ↓fr_mk_clock, ↓fr_mk_sec, ↓foldl_fr, ↓ite_fr, ↓State.putEmHit_fr, ↓State.bump_fr, ↓State.request_fr, ↓State.patinaNext_fr, ite_self, implies_true]
  | split
  | refine (foldl_fr _ (fun _ _ => ?_) _ _).trans ?_
  | refine (fold_fst_fr _ (fun _ _ => ?_) _ _).trans ?_
  | refine pair_fr (by assumption) ?_
  | exact rfl

theorem State.patinaClearAt_fr (s : State) (table bank bucket : Nat) (cands : List Nat) (tag readAt : Nat) : (State.patinaClearAt s table bank bucket cands tag readAt).fr = s.fr := by
  unfold State.patinaClearAt
  repeat' first
  | with_reducible rfl
  | simp only [↓fr_mk, ↓fr_mk_clock, ↓fr_mk_sec, ↓foldl_fr, ↓ite_fr, ↓State.bump_fr, ↓State.request_fr, ↓State.landBucket_fr, ↓State.refusedAt_fr, ↓State.aged_fr, ↓State.patinaNext_fr, ite_self, implies_true]
  | split
  | refine (foldl_fr _ (fun _ _ => ?_) _ _).trans ?_
  | refine (fold_fst_fr _ (fun _ _ => ?_) _ _).trans ?_
  | refine pair_fr (by assumption) ?_
  | exact rfl

theorem State.startPass_fr (s : State) (table : Nat) : (State.startPass s table).fr = s.fr := by
  unfold State.startPass
  repeat' first
  | with_reducible rfl
  | simp only [↓fr_mk, ↓fr_mk_clock, ↓fr_mk_sec, ↓foldl_fr, ↓ite_fr, ↓State.modTable_fr, ↓State.putStashHits_fr, ↓State.request_fr, ite_self, implies_true]
  | split
  | refine (foldl_fr _ (fun _ _ => ?_) _ _).trans ?_
  | refine (fold_fst_fr _ (fun _ _ => ?_) _ _).trans ?_
  | refine pair_fr (by assumption) ?_
  | exact rfl

theorem State.passEnd_fr (s : State) (table : Nat) : (State.passEnd s table).fr = s.fr := by
  unfold State.passEnd
  simp only [↓fr_mk, ↓fr_mk_clock, ↓fr_mk_sec, ↓foldl_fr, ↓ite_fr, ↓State.startPass_fr, ite_self, implies_true]

theorem State.modJob_fr (s : State) (id : Nat) (f : TableJob → TableJob) : (State.modJob s id f).fr = s.fr := by
  unfold State.modJob
  simp only [↓fr_mk, ↓fr_mk_clock, ↓fr_mk_sec, ↓foldl_fr, ↓ite_fr, ite_self, implies_true]

theorem State.endJob_fr (s : State) (id : Nat) : (State.endJob s id).fr = s.fr := by
  unfold State.endJob
  repeat' first
  | with_reducible rfl
  | simp only [↓fr_mk, ↓fr_mk_clock, ↓fr_mk_sec, ↓foldl_fr, ↓ite_fr, ite_self, implies_true]
  | split
  | refine (foldl_fr _ (fun _ _ => ?_) _ _).trans ?_
  | refine (fold_fst_fr _ (fun _ _ => ?_) _ _).trans ?_
  | refine pair_fr (by assumption) ?_
  | exact rfl

theorem State.answerRead_fr (s : State) (j : TableJob) : (State.answerRead s j).fr = s.fr := by
  unfold State.answerRead
  repeat' first
  | with_reducible rfl
  | simp only [↓fr_mk, ↓fr_mk_clock, ↓fr_mk_sec, ↓foldl_fr, ↓ite_fr, ↓ite_fst, ↓fold_fst_fr, ↓State.reply_fr, ↓State.refuseHeld_fr, ite_self, implies_true]
  | split
  | refine (foldl_fr _ (fun _ _ => ?_) _ _).trans ?_
  | refine (fold_fst_fr _ (fun _ _ => ?_) _ _).trans ?_
  | refine pair_fr (by assumption) ?_
  | exact rfl

theorem State.answerPrefix_fr (s : State) (j : TableJob) : (State.answerPrefix s j).fr = s.fr := by
  unfold State.answerPrefix
  repeat' first
  | with_reducible rfl
  | simp only [↓fr_mk, ↓fr_mk_clock, ↓fr_mk_sec, ↓foldl_fr, ↓ite_fr, ↓State.reply_fr, ↓State.refuseHeld_fr, ite_self, implies_true]
  | split
  | refine (foldl_fr _ (fun _ _ => ?_) _ _).trans ?_
  | refine (fold_fst_fr _ (fun _ _ => ?_) _ _).trans ?_
  | refine pair_fr (by assumption) ?_
  | exact rfl

theorem State.finishJob_fr (s : State) (j : TableJob) : (State.finishJob s j).fr = s.fr := by
  unfold State.finishJob
  repeat' first
  | with_reducible rfl
  | simp only [↓fr_mk, ↓fr_mk_clock, ↓fr_mk_sec, ↓foldl_fr, ↓ite_fr, ↓ite_fst, ↓fold_fst_fr, ↓State.reply_fr, ↓State.endJob_fr, ↓State.answerRead_fr, ↓State.answerPrefix_fr, ite_self, implies_true]
  | split
  | refine (foldl_fr _ (fun _ _ => ?_) _ _).trans ?_
  | refine (fold_fst_fr _ (fun _ _ => ?_) _ _).trans ?_
  | refine pair_fr (by assumption) ?_
  | exact rfl

theorem State.jobStep_fr (s : State) (id : Nat) (f : TableJob → TableJob) : (State.jobStep s id f).fr = s.fr := by
  unfold State.jobStep
  repeat' first
  | with_reducible rfl
  | simp only [↓fr_mk, ↓fr_mk_clock, ↓fr_mk_sec, ↓foldl_fr, ↓ite_fr, ↓State.modJob_fr, ↓State.finishJob_fr, ite_self, implies_true]
  | split
  | refine (foldl_fr _ (fun _ _ => ?_) _ _).trans ?_
  | refine (fold_fst_fr _ (fun _ _ => ?_) _ _).trans ?_
  | refine pair_fr (by assumption) ?_
  | exact rfl

theorem State.landDma_fr (s : State) (bank id lock bucket : Nat) (image : List (BitVec 256)) : (State.landDma s bank id lock bucket image).fr = s.fr := by
  unfold State.landDma
  repeat' first
  | with_reducible rfl
  | simp only [↓fr_mk, ↓fr_mk_clock, ↓fr_mk_sec, ↓foldl_fr, ↓ite_fr, ↓State.reply_fr, ↓State.wordWritten_fr, ↓State.landBucket_fr, ↓State.endJob_fr, ↓State.jobStep_fr, ite_self, implies_true]
  | split
  | refine (foldl_fr _ (fun _ _ => ?_) _ _).trans ?_
  | refine (fold_fst_fr _ (fun _ _ => ?_) _ _).trans ?_
  | refine pair_fr (by assumption) ?_
  | exact rfl

theorem State.landDirect_fr (s : State) (bank id bucket slot : Nat) (image : BitVec 256) : (State.landDirect s bank id bucket slot image).fr = s.fr := by
  unfold State.landDirect
  repeat' first
  | with_reducible rfl
  | simp only [↓fr_mk, ↓fr_mk_clock, ↓fr_mk_sec, ↓foldl_fr, ↓ite_fr, ↓State.refuseHeld_fr, ↓State.wordWritten_fr, ↓State.landBucket_fr, ↓State.refusedAt_fr, ↓State.endJob_fr, ↓State.jobStep_fr, ite_self, implies_true]
  | split
  | refine (foldl_fr _ (fun _ _ => ?_) _ _).trans ?_
  | refine (fold_fst_fr _ (fun _ _ => ?_) _ _).trans ?_
  | refine pair_fr (by assumption) ?_
  | exact rfl

theorem State.landPair_fr (s : State) (id pair : Nat) : (State.landPair s id pair).fr = s.fr := by
  unfold State.landPair
  repeat' first
  | with_reducible rfl
  | simp only [↓fr_mk, ↓fr_mk_clock, ↓fr_mk_sec, ↓foldl_fr, ↓ite_fr, ↓State.modWriteTag_fr, ↓State.putPair_fr, ↓State.wordWritten_fr, ↓State.jobStep_fr, ite_self, implies_true]
  | split
  | refine (foldl_fr _ (fun _ _ => ?_) _ _).trans ?_
  | refine (fold_fst_fr _ (fun _ _ => ?_) _ _).trans ?_
  | refine pair_fr (by assumption) ?_
  | exact rfl

theorem State.compareStash_fr (s : State) (table : Nat) (found : EccErr) : (State.compareStash s table found).fr = s.fr := by
  unfold State.compareStash
  simp only [↓fr_mk, ↓fr_mk_clock, ↓fr_mk_sec, ↓foldl_fr, ↓ite_fr, ↓State.putScrubPos_fr, ↓State.modScrubPos_fr, ↓State.modScrubFrom_fr, ↓State.draw_fr, ↓State.eccRead_fr, ite_self, implies_true]

theorem State.scrubAt_fr (s : State) (store bank : Nat) (found : EccErr) : (State.scrubAt s store bank found).fr = s.fr := by
  unfold State.scrubAt
  simp only [↓fr_mk, ↓fr_mk_clock, ↓fr_mk_sec, ↓foldl_fr, ↓ite_fr, ↓State.putScrubPos_fr, ↓State.modScrubPos_fr, ↓State.modScrubFrom_fr, ↓State.bump_fr, ↓State.draw_fr, ↓State.eccRead_fr, ite_self, implies_true]

theorem State.runMaint_fr (s : State) (r : MaintReq) : (State.runMaint s r).fr = s.fr := by
  unfold State.runMaint
  repeat' first
  | with_reducible rfl
  | simp only [↓fr_mk, ↓fr_mk_clock, ↓fr_mk_sec, ↓foldl_fr, ↓ite_fr, ↓State.perfCount_fr, ↓State.landArm_fr, ↓State.readArm_fr, ↓State.rmwArm_fr, ↓State.patinaReadAt_fr, ↓State.patinaClearAt_fr, ↓State.passEnd_fr, ↓State.jobStep_fr, ↓State.landDma_fr, ↓State.landDirect_fr, ↓State.landPair_fr, ↓State.scrubAt_fr, ite_self, implies_true]
  | split
  | refine (foldl_fr _ (fun _ _ => ?_) _ _).trans ?_
  | refine (fold_fst_fr _ (fun _ _ => ?_) _ _).trans ?_
  | refine pair_fr (by assumption) ?_
  | exact rfl

theorem State.grant_fr (s : State) (store bank : Nat) : (State.grant s store bank).fr = s.fr := by
  unfold State.grant
  repeat' first
  | with_reducible rfl
  | simp only [↓fr_mk, ↓fr_mk_clock, ↓fr_mk_sec, ↓foldl_fr, ↓ite_fr, ↓State.bump_fr, ↓State.draw_fr, ↓State.passOver_fr, ↓State.starve_fr, ↓State.runMaint_fr, ite_self, implies_true]
  | split
  | refine (foldl_fr _ (fun _ _ => ?_) _ _).trans ?_
  | refine (fold_fst_fr _ (fun _ _ => ?_) _ _).trans ?_
  | refine pair_fr (by assumption) ?_
  | exact rfl

theorem execTurnstileGrant_fr (store bank : Nat) (writeBack : Bool) (s : State) : outFr (execTurnstileGrant store bank writeBack s) s = s.fr := by
  unfold execTurnstileGrant
  repeat' first
  | with_reducible rfl
  | simp only [↓outFr_next, ↓outFr_fault, ↓outFr_onUnit, ↓outFr_ite, ↓fr_mk, ↓fr_mk_clock, ↓fr_mk_sec, ↓foldl_fr, ↓ite_fr, ↓ite_fst, ↓fold_fst_fr, ↓State.putGrantedAt_fr, ↓onUnit_fr, ↓State.writeBack_fr, ↓State.grant_fr, ite_self, implies_true]
  | split
  | refine (foldl_fr _ (fun _ _ => ?_) _ _).trans ?_
  | refine (fold_fst_fr _ (fun _ _ => ?_) _ _).trans ?_
  | refine pair_fr (by assumption) ?_
  | exact rfl

theorem State.stashPatina_fr (s : State) (table : Nat) (cands : List Nat) : (State.stashPatina s table cands).fr = s.fr := by
  unfold State.stashPatina
  repeat' first
  | with_reducible rfl
  | simp only [↓fr_mk, ↓fr_mk_clock, ↓fr_mk_sec, ↓foldl_fr, ↓ite_fr, ↓State.landStash_fr, ↓State.aged_fr, ite_self, implies_true]
  | split
  | refine (foldl_fr _ (fun _ _ => ?_) _ _).trans ?_
  | refine (fold_fst_fr _ (fun _ _ => ?_) _ _).trans ?_
  | refine pair_fr (by assumption) ?_
  | exact rfl

theorem State.mergeStash_fr (s base : State) (table k : Nat) (new : BitVec 256) : (State.mergeStash s base table k new).fr = s.fr := by
  unfold State.mergeStash
  repeat' first
  | with_reducible rfl
  | simp only [↓fr_mk, ↓fr_mk_clock, ↓fr_mk_sec, ↓foldl_fr, ↓ite_fr, ↓State.putEmHit_fr, ite_self, implies_true]
  | split
  | refine (foldl_fr _ (fun _ _ => ?_) _ _).trans ?_
  | refine (fold_fst_fr _ (fun _ _ => ?_) _ _).trans ?_
  | refine pair_fr (by assumption) ?_
  | exact rfl

theorem State.landStashOp_fr (s : State) (w : StashWrite) : (State.landStashOp s w).fr = s.fr := by
  unfold State.landStashOp
  repeat' first
  | with_reducible rfl
  | simp only [↓fr_mk, ↓fr_mk_clock, ↓fr_mk_sec, ↓foldl_fr, ↓ite_fr, ↓State.landStash_fr, ↓State.memDone_fr, ↓State.passEnd_fr, ↓State.stashPatina_fr, ↓State.mergeStash_fr, ite_self, implies_true]
  | split
  | refine (foldl_fr _ (fun _ _ => ?_) _ _).trans ?_
  | refine (fold_fst_fr _ (fun _ _ => ?_) _ _).trans ?_
  | refine pair_fr (by assumption) ?_
  | exact rfl

theorem execStashWrite_fr (table : Nat) (s : State) : outFr (execStashWrite table s) s = s.fr := by
  unfold execStashWrite
  repeat' first
  | with_reducible rfl
  | simp only [↓outFr_next, ↓outFr_fault, ↓outFr_onUnit, ↓outFr_ite, ↓fr_mk, ↓fr_mk_clock, ↓fr_mk_sec, ↓foldl_fr, ↓ite_fr, ↓ite_fst, ↓fold_fst_fr, ↓onUnit_fr, ↓State.stashLevel_fr, ↓State.landStashOp_fr, ite_self, implies_true]
  | split
  | refine (foldl_fr _ (fun _ _ => ?_) _ _).trans ?_
  | refine (fold_fst_fr _ (fun _ _ => ?_) _ _).trans ?_
  | refine pair_fr (by assumption) ?_
  | exact rfl

theorem execStashReinsertPeriod_fr (table : Nat) (s : State) : outFr (execStashReinsertPeriod table s) s = s.fr := by
  unfold execStashReinsertPeriod
  simp only [↓outFr_next, ↓outFr_fault, ↓outFr_onUnit, ↓outFr_ite, ↓fr_mk, ↓fr_mk_clock, ↓fr_mk_sec, ↓foldl_fr, ↓ite_fr, ↓ite_fst, ↓fold_fst_fr, ↓State.modTable_fr, ↓onUnit_fr, ↓State.placeJob_fr, ite_self, implies_true]

theorem execPatinaPassStart_fr (table : Nat) (s : State) : outFr (execPatinaPassStart table s) s = s.fr := by
  unfold execPatinaPassStart
  simp only [↓outFr_next, ↓outFr_fault, ↓outFr_onUnit, ↓outFr_ite, ↓fr_mk, ↓fr_mk_clock, ↓fr_mk_sec, ↓foldl_fr, ↓ite_fr, ↓ite_fst, ↓fold_fst_fr, ↓State.modTable_fr, ↓onUnit_fr, ↓State.note_fr, ↓State.startPass_fr, ite_self, implies_true]

theorem State.serveLearn_fr (s : State) (r : LearnReq) : (State.serveLearn s r).fr = s.fr := by
  unfold State.serveLearn
  simp only [↓fr_mk, ↓fr_mk_clock, ↓fr_mk_sec, ↓foldl_fr, ↓ite_fr, ↓State.placeJob_fr, ite_self, implies_true]

theorem execLearnService_fr (s : State) : outFr (execLearnService s) s = s.fr := by
  unfold execLearnService
  repeat' first
  | with_reducible rfl
  | simp only [↓outFr_next, ↓outFr_fault, ↓outFr_onUnit, ↓outFr_ite, ↓fr_mk, ↓fr_mk_clock, ↓fr_mk_sec, ↓foldl_fr, ↓ite_fr, ↓ite_fst, ↓fold_fst_fr, ↓State.serveLearn_fr, ite_self, implies_true]
  | split
  | refine (foldl_fr _ (fun _ _ => ?_) _ _).trans ?_
  | refine (fold_fst_fr _ (fun _ _ => ?_) _ _).trans ?_
  | refine pair_fr (by assumption) ?_
  | exact rfl

theorem State.scrubLate_fr (s : State) (store bank : Nat) : (State.scrubLate s store bank).fr = s.fr := by
  unfold State.scrubLate
  simp only [↓fr_mk, ↓fr_mk_clock, ↓fr_mk_sec, ↓foldl_fr, ↓ite_fr, ↓State.modScrubPos_fr, ↓State.note_fr, ite_self, implies_true]

theorem execScrubRead_fr (store bank : Nat) (found : EccErr) (s : State) : outFr (execScrubRead store bank found s) s = s.fr := by
  unfold execScrubRead
  simp only [↓outFr_next, ↓outFr_fault, ↓outFr_onUnit, ↓outFr_ite, ↓fr_mk, ↓fr_mk_clock, ↓fr_mk_sec, ↓foldl_fr, ↓ite_fr, ↓ite_fst, ↓fold_fst_fr, ↓onUnit_fr, ↓State.request_fr, ↓State.compareStash_fr, ↓State.scrubLate_fr, ite_self, implies_true]

theorem State.freeLock_fr (s : State) (n : Nat) : (State.freeLock s n).fr = s.fr := by
  unfold State.freeLock
  repeat' first
  | with_reducible rfl
  | simp only [↓fr_mk, ↓fr_mk_clock, ↓fr_mk_sec, ↓foldl_fr, ↓ite_fr, ↓State.putLock_fr, ↓State.reply_fr, ↓State.endJob_fr, ite_self, implies_true]
  | split
  | refine (foldl_fr _ (fun _ _ => ?_) _ _).trans ?_
  | refine (fold_fst_fr _ (fun _ _ => ?_) _ _).trans ?_
  | refine pair_fr (by assumption) ?_
  | exact rfl

theorem State.endLocks_fr (s : State) : (State.endLocks s).fr = s.fr := by
  unfold State.endLocks
  repeat' first
  | with_reducible rfl
  | simp only [↓fr_mk, ↓fr_mk_clock, ↓fr_mk_sec, ↓foldl_fr, ↓ite_fr, ↓State.note_fr, ↓State.freeLock_fr, ite_self, implies_true]
  | split
  | refine (foldl_fr _ (fun _ _ => ?_) _ _).trans ?_
  | refine (fold_fst_fr _ (fun _ _ => ?_) _ _).trans ?_
  | refine pair_fr (by assumption) ?_
  | exact rfl

theorem State.loseOwner_fr (s : State) (func : Option Nat) (ring : Option Nat) : (State.loseOwner s func ring).fr = s.fr := by
  unfold State.loseOwner
  repeat' first
  | with_reducible rfl
  | simp only [↓fr_mk, ↓fr_mk_clock, ↓fr_mk_sec, ↓foldl_fr, ↓ite_fr, ↓State.putLock_fr, ite_self, implies_true]
  | split
  | refine (foldl_fr _ (fun _ _ => ?_) _ _).trans ?_
  | refine (fold_fst_fr _ (fun _ _ => ?_) _ _).trans ?_
  | refine pair_fr (by assumption) ?_
  | exact rfl

theorem execLockExpired_fr (lock : Nat) (s : State) : outFr (execLockExpired lock s) s = s.fr := by
  unfold execLockExpired
  simp only [↓outFr_next, ↓outFr_fault, ↓outFr_onUnit, ↓outFr_ite, ↓fr_mk, ↓fr_mk_clock, ↓fr_mk_sec, ↓foldl_fr, ↓ite_fr, ↓ite_fst, ↓fold_fst_fr, ↓onUnit_fr, ↓State.note_fr, ↓State.freeLock_fr, ite_self, implies_true]

theorem State.startJob_fr (s : State) (j : TableJob) (l : List (Nat × Nat × MaintOp)) (cls : Nat) : (State.startJob s j l cls).fr = s.fr := by
  unfold State.startJob
  repeat' first
  | with_reducible rfl
  | simp only [↓fr_mk, ↓fr_mk_clock, ↓fr_mk_sec, ↓foldl_fr, ↓ite_fr, ↓State.request_fr, ite_self, implies_true]
  | split
  | refine (foldl_fr _ (fun _ _ => ?_) _ _).trans ?_
  | refine (fold_fst_fr _ (fun _ _ => ?_) _ _).trans ?_
  | refine pair_fr (by assumption) ?_
  | exact rfl

theorem State.applyUpkeep_fr (s : State) (table : Nat) (r : UpkeepRec) (fields : BitVec 8) : (State.applyUpkeep s table r fields).fr = s.fr := by
  unfold State.applyUpkeep
  simp only [↓fr_mk, ↓fr_mk_clock, ↓fr_mk_sec, ↓foldl_fr, ↓ite_fr, ↓State.modTable_fr, ite_self, implies_true]

theorem State.withSeeds_fr (s : State) (r : TableRec) : (State.withSeeds s r).1.fr = s.fr := by
  unfold State.withSeeds
  repeat' first
  | with_reducible rfl
  | simp only [↓fr_mk, ↓fr_mk_clock, ↓fr_mk_sec, ↓foldl_fr, ↓ite_fr, ↓ite_fst, ↓fold_fst_fr, ↓State.draw_fr, ite_self, implies_true]
  | split
  | refine (foldl_fr _ (fun _ _ => ?_) _ _).trans ?_
  | refine (fold_fst_fr _ (fun _ _ => ?_) _ _).trans ?_
  | refine pair_fr (by assumption) ?_
  | exact rfl

theorem State.applyTableCreate_fr (s : State) (table : Nat) (r : TableRec) : (State.applyTableCreate s table r).fr = s.fr := by
  unfold State.applyTableCreate
  simp only [↓fr_mk, ↓fr_mk_clock, ↓fr_mk_sec, ↓foldl_fr, ↓ite_fr, ↓State.putTable_fr, ite_self, implies_true]

theorem State.applyTableDelete_fr (s : State) (table : Nat) : (State.applyTableDelete s table).fr = s.fr := by
  unfold State.applyTableDelete
  simp only [↓fr_mk, ↓fr_mk_clock, ↓fr_mk_sec, ↓foldl_fr, ↓ite_fr, ↓State.putTable_fr, ite_self, implies_true]

theorem State.applyEmProfile_fr (s : State) (prof : Nat) (r : EmProf) : (State.applyEmProfile s prof r).fr = s.fr := by
  unfold State.applyEmProfile
  simp only [↓fr_mk, ↓fr_mk_clock, ↓fr_mk_sec, ↓foldl_fr, ↓ite_fr, ↓State.putEmProfile_fr, ite_self, implies_true]

theorem State.applyLpmProfile_fr (s : State) (prof : Nat) (r : List LpmLookup) : (State.applyLpmProfile s prof r).fr = s.fr := by
  unfold State.applyLpmProfile
  simp only [↓fr_mk, ↓fr_mk_clock, ↓fr_mk_sec, ↓foldl_fr, ↓ite_fr, ↓State.putLpmProfile_fr, ite_self, implies_true]

theorem State.applyNextHop_fr (s : State) (table : Option Nat) : (State.applyNextHop s table).fr = s.fr := by
  unfold State.applyNextHop
  simp only [↓fr_mk, ↓fr_mk_clock, ↓fr_mk_sec, ↓foldl_fr, ↓ite_fr, ite_self, implies_true]

theorem State.placeAll_fr (s : State) (l : List ArmWork) : (State.placeAll s l).fr = s.fr := by
  unfold State.placeAll
  repeat' first
  | with_reducible rfl
  | simp only [↓fr_mk, ↓fr_mk_clock, ↓fr_mk_sec, ↓foldl_fr, ↓ite_fr, ↓State.placeJob_fr, ite_self, implies_true]
  | split
  | refine (foldl_fr _ (fun _ _ => ?_) _ _).trans ?_
  | refine (fold_fst_fr _ (fun _ _ => ?_) _ _).trans ?_
  | refine pair_fr (by assumption) ?_
  | exact rfl

theorem State.settleAll_fr (s : State) (o : BitVec 16) : (State.settleAll s o).fr = s.fr := by
  unfold State.settleAll
  simp only [↓fr_mk, ↓fr_mk_clock, ↓fr_mk_sec, ↓foldl_fr, ↓ite_fr, ↓State.settlePlane_fr, ↓State.placeAll_fr, ite_self, implies_true]

theorem State.discardAll_fr (s : State) (v : BitVec 16) : (State.discardAll s v).fr = s.fr := by
  unfold State.discardAll
  simp only [↓fr_mk, ↓fr_mk_clock, ↓fr_mk_sec, ↓foldl_fr, ↓ite_fr, ↓State.discardPlane_fr, ↓State.placeAll_fr, ite_self, implies_true]

theorem State.enterRoutine_fr (s : State) (e : Nat) : (State.enterRoutine s e).fr = s.fr := by
  unfold State.enterRoutine
  repeat' first
  | with_reducible rfl
  | simp only [↓fr_mk, ↓fr_mk_clock, ↓fr_mk_sec, ↓foldl_fr, ↓ite_fr, ↓State.modEngine_fr, ↓State.carry_fr, ite_self, implies_true]
  | split
  | refine (foldl_fr _ (fun _ _ => ?_) _ _).trans ?_
  | refine (fold_fst_fr _ (fun _ _ => ?_) _ _).trans ?_
  | refine pair_fr (by assumption) ?_
  | exact rfl

theorem execArmJobStart_fr (engine : Nat) (s : State) : outFr (execArmJobStart engine s) s = s.fr := by
  unfold execArmJobStart
  repeat' first
  | with_reducible rfl
  | simp only [↓outFr_next, ↓outFr_fault, ↓outFr_onUnit, ↓outFr_ite, ↓fr_mk, ↓fr_mk_clock, ↓fr_mk_sec, ↓foldl_fr, ↓ite_fr, ↓ite_fst, ↓fold_fst_fr, ↓State.modEngine_fr, ↓State.bump_fr, ↓onUnit_fr, ↓State.refill_fr, ↓State.enterRoutine_fr, ite_self, implies_true]
  | split
  | refine (foldl_fr _ (fun _ _ => ?_) _ _).trans ?_
  | refine (fold_fst_fr _ (fun _ _ => ?_) _ _).trans ?_
  | refine pair_fr (by assumption) ?_
  | exact rfl

theorem State.withdrawEngine_fr (s : State) (e : Nat) : (State.withdrawEngine s e).fr = s.fr := by
  unfold State.withdrawEngine
  repeat' first
  | with_reducible rfl
  | simp only [↓fr_mk, ↓fr_mk_clock, ↓fr_mk_sec, ↓foldl_fr, ↓ite_fr, ite_self, implies_true]
  | split
  | refine (foldl_fr _ (fun _ _ => ?_) _ _).trans ?_
  | refine (fold_fst_fr _ (fun _ _ => ?_) _ _).trans ?_
  | refine pair_fr (by assumption) ?_
  | exact rfl

theorem State.idleEngine_fr (s : State) (e : Nat) : (State.idleEngine s e).fr = s.fr := by
  unfold State.idleEngine
  simp only [↓fr_mk, ↓fr_mk_clock, ↓fr_mk_sec, ↓foldl_fr, ↓ite_fr, ↓State.modEngine_fr, ↓State.due_fr, ↓State.fenceEngine_fr, ite_self, implies_true]

theorem State.giveUp_fr (s : State) (e : Nat) (j : ArmJob) : (State.giveUp s e j).fr = s.fr := by
  unfold State.giveUp
  repeat' first
  | with_reducible rfl
  | simp only [↓fr_mk, ↓fr_mk_clock, ↓fr_mk_sec, ↓foldl_fr, ↓ite_fr, ↓State.modEngine_fr, ↓State.bump_fr, ↓State.note_fr, ↓State.reply_fr, ↓State.idleEngine_fr, ite_self, implies_true]
  | split
  | refine (foldl_fr _ (fun _ _ => ?_) _ _).trans ?_
  | refine (fold_fst_fr _ (fun _ _ => ?_) _ _).trans ?_
  | refine pair_fr (by assumption) ?_
  | exact rfl

theorem State.abandon_fr (s : State) (e cause : Nat) : (State.abandon s e cause).fr = s.fr := by
  unfold State.abandon
  repeat' first
  | with_reducible rfl
  | simp only [↓fr_mk, ↓fr_mk_clock, ↓fr_mk_sec, ↓foldl_fr, ↓ite_fr, ↓State.modEngine_fr, ↓State.bump_fr, ↓State.enterRoutine_fr, ↓State.withdrawEngine_fr, ↓State.giveUp_fr, ite_self, implies_true]
  | split
  | refine (foldl_fr _ (fun _ _ => ?_) _ _).trans ?_
  | refine (fold_fst_fr _ (fun _ _ => ?_) _ _).trans ?_
  | refine pair_fr (by assumption) ?_
  | exact rfl

theorem State.abandonReaders_fr (s : State) (store bank : Nat) : (State.abandonReaders s store bank).fr = s.fr := by
  unfold State.abandonReaders
  repeat' first
  | with_reducible rfl
  | simp only [↓fr_mk, ↓fr_mk_clock, ↓fr_mk_sec, ↓foldl_fr, ↓ite_fr, ↓State.abandon_fr, ite_self, implies_true]
  | split
  | refine (foldl_fr _ (fun _ _ => ?_) _ _).trans ?_
  | refine (fold_fst_fr _ (fun _ _ => ?_) _ _).trans ?_
  | refine pair_fr (by assumption) ?_
  | exact rfl

theorem State.engineError_fr (s : State) (e src : Nat) (detail : BitVec 64) : (State.engineError s e src detail).fr = s.fr := by
  unfold State.engineError
  simp only [↓fr_mk, ↓fr_mk_clock, ↓fr_mk_sec, ↓foldl_fr, ↓ite_fr, ↓State.modEngine_fr, ↓State.raise_fr, ↓State.abandon_fr, ite_self, implies_true]

theorem State.unplanned_fr (s : State) (e : Nat) : (State.unplanned s e).fr = s.fr := by
  unfold State.unplanned
  simp only [↓fr_mk, ↓fr_mk_clock, ↓fr_mk_sec, ↓foldl_fr, ↓ite_fr, ↓State.modEngine_fr, ite_self, implies_true]

theorem State.needPlan_fr (s : State) (e : Nat) : (State.needPlan s e).fr = s.fr := by
  unfold State.needPlan
  repeat' first
  | with_reducible rfl
  | simp only [↓fr_mk, ↓fr_mk_clock, ↓fr_mk_sec, ↓foldl_fr, ↓ite_fr, ↓State.putEngine_fr, ite_self, implies_true]
  | split
  | refine (foldl_fr _ (fun _ _ => ?_) _ _).trans ?_
  | refine (fold_fst_fr _ (fun _ _ => ?_) _ _).trans ?_
  | refine pair_fr (by assumption) ?_
  | exact rfl

theorem State.planAfresh_fr (s : State) (e : Nat) (x : ArmEngine) (j : ArmJob) (p : ArmPlan) : (State.planAfresh s e x j p).fr = s.fr := by
  unfold State.planAfresh
  simp only [↓fr_mk, ↓fr_mk_clock, ↓fr_mk_sec, ↓foldl_fr, ↓ite_fr, ↓State.putEngine_fr, ↓State.unplanned_fr, ite_self, implies_true]

theorem State.freshPlan_fr (s : State) (e : Nat) : (State.freshPlan s e).fr = s.fr := by
  unfold State.freshPlan
  repeat' first
  | with_reducible rfl
  | simp only [↓fr_mk, ↓fr_mk_clock, ↓fr_mk_sec, ↓foldl_fr, ↓ite_fr, ↓State.needPlan_fr, ↓State.planAfresh_fr, ite_self, implies_true]
  | split
  | refine (foldl_fr _ (fun _ _ => ?_) _ _).trans ?_
  | refine (fold_fst_fr _ (fun _ _ => ?_) _ _).trans ?_
  | refine pair_fr (by assumption) ?_
  | exact rfl

theorem State.issue_fr (s : State) (e : Nat) (l : List (Nat × Nat × MaintOp)) : (State.issue s e l).fr = s.fr := by
  unfold State.issue
  repeat' first
  | with_reducible rfl
  | simp only [↓fr_mk, ↓fr_mk_clock, ↓fr_mk_sec, ↓foldl_fr, ↓ite_fr, ↓State.modEngine_fr, ↓State.request_fr, ite_self, implies_true]
  | split
  | refine (foldl_fr _ (fun _ _ => ?_) _ _).trans ?_
  | refine (fold_fst_fr _ (fun _ _ => ?_) _ _).trans ?_
  | refine pair_fr (by assumption) ?_
  | exact rfl

theorem State.issueReads_fr (s : State) (e store : Nat) (w : Microword) : (State.issueReads s e store w).fr = s.fr := by
  unfold State.issueReads
  simp only [↓fr_mk, ↓fr_mk_clock, ↓fr_mk_sec, ↓foldl_fr, ↓ite_fr, ↓State.issue_fr, ite_self, implies_true]

theorem State.takePlan_fr (s : State) (e n : Nat) (p : PlanStep → Bool) : (State.takePlan s e n p).1.fr = s.fr := by
  unfold State.takePlan
  repeat' first
  | with_reducible rfl
  | simp only [↓fr_mk, ↓fr_mk_clock, ↓fr_mk_sec, ↓foldl_fr, ↓ite_fr, ↓ite_fst, ↓fold_fst_fr, ↓State.modEngine_fr, ↓State.freshPlan_fr, ite_self, implies_true]
  | split
  | refine (foldl_fr _ (fun _ _ => ?_) _ _).trans ?_
  | refine (fold_fst_fr _ (fun _ _ => ?_) _ _).trans ?_
  | refine pair_fr (by assumption) ?_
  | exact rfl

theorem State.commitIf_fr (s : State) (e : Nat) (commit : Bool) : (State.commitIf s e commit).fr = s.fr := by
  unfold State.commitIf
  simp only [↓fr_mk, ↓fr_mk_clock, ↓fr_mk_sec, ↓foldl_fr, ↓ite_fr, ↓State.commitEngine_fr, ite_self, implies_true]

theorem State.issueWrites_fr (s : State) (e : Nat) (w : Microword) (p : PlanStep → Bool) : (State.issueWrites s e w p).fr = s.fr := by
  unfold State.issueWrites
  repeat' first
  | with_reducible rfl
  | simp only [↓fr_mk, ↓fr_mk_clock, ↓fr_mk_sec, ↓foldl_fr, ↓ite_fr, ↓ite_fst, ↓fold_fst_fr, ↓State.issue_fr, ↓State.takePlan_fr, ↓State.commitIf_fr, ite_self, implies_true]
  | split
  | refine (foldl_fr _ (fun _ _ => ?_) _ _).trans ?_
  | refine (fold_fst_fr _ (fun _ _ => ?_) _ _).trans ?_
  | refine pair_fr (by assumption) ?_
  | exact rfl

theorem State.issueStash_fr (s : State) (e : Nat) (w : Microword) : (State.issueStash s e w).fr = s.fr := by
  unfold State.issueStash
  repeat' first
  | with_reducible rfl
  | simp only [↓fr_mk, ↓fr_mk_clock, ↓fr_mk_sec, ↓foldl_fr, ↓ite_fr, ↓ite_fst, ↓fold_fst_fr, ↓State.modEngine_fr, ↓State.takePlan_fr, ↓State.commitIf_fr, ite_self, implies_true]
  | split
  | refine (foldl_fr _ (fun _ _ => ?_) _ _).trans ?_
  | refine (fold_fst_fr _ (fun _ _ => ?_) _ _).trans ?_
  | refine pair_fr (by assumption) ?_
  | exact rfl

theorem State.readStashBuf_fr (s : State) (e : Nat) (w : Microword) : (State.readStashBuf s e w).fr = s.fr := by
  unfold State.readStashBuf
  repeat' first
  | with_reducible rfl
  | simp only [↓fr_mk, ↓fr_mk_clock, ↓fr_mk_sec, ↓foldl_fr, ↓ite_fr, ↓State.modEngine_fr, ite_self, implies_true]
  | split
  | refine (foldl_fr _ (fun _ _ => ?_) _ _).trans ?_
  | refine (fold_fst_fr _ (fun _ _ => ?_) _ _).trans ?_
  | refine pair_fr (by assumption) ?_
  | exact rfl

theorem State.hashWord_fr (s : State) (e : Nat) (j : ArmJob) (w : Microword) : (State.hashWord s e j w).fr = s.fr := by
  unfold State.hashWord
  repeat' first
  | with_reducible rfl
  | simp only [↓fr_mk, ↓fr_mk_clock, ↓fr_mk_sec, ↓foldl_fr, ↓ite_fr, ↓State.modEngine_fr, ite_self, implies_true]
  | split
  | refine (foldl_fr _ (fun _ _ => ?_) _ _).trans ?_
  | refine (fold_fst_fr _ (fun _ _ => ?_) _ _).trans ?_
  | refine pair_fr (by assumption) ?_
  | exact rfl

theorem State.replyJob_fr (s : State) (e : Nat) : (State.replyJob s e).fr = s.fr := by
  unfold State.replyJob
  repeat' first
  | with_reducible rfl
  | simp only [↓fr_mk, ↓fr_mk_clock, ↓fr_mk_sec, ↓foldl_fr, ↓ite_fr, ↓State.modEngine_fr, ↓State.reply_fr, ↓State.needPlan_fr, ite_self, implies_true]
  | split
  | refine (foldl_fr _ (fun _ _ => ?_) _ _).trans ?_
  | refine (fold_fst_fr _ (fun _ _ => ?_) _ _).trans ?_
  | refine pair_fr (by assumption) ?_
  | exact rfl

theorem State.noticeJob_fr (s : State) (e : Nat) : (State.noticeJob s e).fr = s.fr := by
  unfold State.noticeJob
  repeat' first
  | with_reducible rfl
  | simp only [↓fr_mk, ↓fr_mk_clock, ↓fr_mk_sec, ↓foldl_fr, ↓ite_fr, ↓State.modEngine_fr, ↓State.sendNotice_fr, ↓State.needPlan_fr, ite_self, implies_true]
  | split
  | refine (foldl_fr _ (fun _ _ => ?_) _ _).trans ?_
  | refine (fold_fst_fr _ (fun _ _ => ?_) _ _).trans ?_
  | refine pair_fr (by assumption) ?_
  | exact rfl

theorem State.memOp_fr (s : State) (e : Nat) (j : ArmJob) (w : Microword) : (State.memOp s e j w).fr = s.fr := by
  unfold State.memOp
  repeat' first
  | with_reducible rfl
  | simp only [↓fr_mk, ↓fr_mk_clock, ↓fr_mk_sec, ↓foldl_fr, ↓ite_fr, ↓State.modEngine_fr, ↓State.needPlan_fr, ↓State.issue_fr, ↓State.issueReads_fr, ↓State.issueWrites_fr, ↓State.issueStash_fr, ↓State.readStashBuf_fr, ↓State.hashWord_fr, ↓State.replyJob_fr, ↓State.noticeJob_fr, ite_self, implies_true]
  | split
  | refine (foldl_fr _ (fun _ _ => ?_) _ _).trans ?_
  | refine (fold_fst_fr _ (fun _ _ => ?_) _ _).trans ?_
  | refine pair_fr (by assumption) ?_
  | exact rfl

theorem State.liveCheck_fr (s : State) (e : Nat) (j : ArmJob) : (State.liveCheck s e j).fr = s.fr := by
  unfold State.liveCheck
  simp only [↓fr_mk, ↓fr_mk_clock, ↓fr_mk_sec, ↓foldl_fr, ↓ite_fr, ↓State.note_fr, ↓State.abandon_fr, ite_self, implies_true]

theorem State.runWord_fr (s : State) (e : Nat) (j : ArmJob) (w : Microword) : (State.runWord s e j w).fr = s.fr := by
  unfold State.runWord
  repeat' first
  | with_reducible rfl
  | simp only [↓fr_mk, ↓fr_mk_clock, ↓fr_mk_sec, ↓foldl_fr, ↓ite_fr, ↓State.modEngine_fr, ↓State.bump_fr, ↓State.commitEngine_fr, ↓State.unplanned_fr, ↓State.memOp_fr, ↓State.liveCheck_fr, ite_self, implies_true]
  | split
  | refine (foldl_fr _ (fun _ _ => ?_) _ _).trans ?_
  | refine (fold_fst_fr _ (fun _ _ => ?_) _ _).trans ?_
  | refine pair_fr (by assumption) ?_
  | exact rfl

theorem State.fetchWord_fr (s : State) (e : Nat) (j : ArmJob) (found : EccErr) : (State.fetchWord s e j found).fr = s.fr := by
  unfold State.fetchWord
  repeat' first
  | with_reducible rfl
  | simp only [↓State.abandon_fr, ↓fr_mk, ↓fr_mk_clock, ↓fr_mk_sec, ↓foldl_fr, ↓ite_fr, ↓State.raise_fr, ↓State.engineError_fr, ↓State.runWord_fr, ite_self, implies_true]
  | split
  | refine (foldl_fr _ (fun _ _ => ?_) _ _).trans ?_
  | refine (fold_fst_fr _ (fun _ _ => ?_) _ _).trans ?_
  | refine pair_fr (by assumption) ?_
  | exact rfl

theorem execMicrowordExecute_fr (engine : Nat) (found : EccErr) (s : State) : outFr (execMicrowordExecute engine found s) s = s.fr := by
  unfold execMicrowordExecute
  repeat' first
  | with_reducible rfl
  | simp only [↓outFr_next, ↓outFr_fault, ↓outFr_onUnit, ↓outFr_ite, ↓fr_mk, ↓fr_mk_clock, ↓fr_mk_sec, ↓foldl_fr, ↓ite_fr, ↓ite_fst, ↓fold_fst_fr, ↓onUnit_fr, ↓State.fetchWord_fr, ite_self, implies_true]
  | split
  | refine (foldl_fr _ (fun _ _ => ?_) _ _).trans ?_
  | refine (fold_fst_fr _ (fun _ _ => ?_) _ _).trans ?_
  | refine pair_fr (by assumption) ?_
  | exact rfl

theorem execArmMemComplete_fr (engine : Nat) (s : State) : outFr (execArmMemComplete engine s) s = s.fr := by
  unfold execArmMemComplete
  simp only [↓outFr_next, ↓outFr_fault, ↓outFr_onUnit, ↓outFr_ite, ↓fr_mk, ↓fr_mk_clock, ↓fr_mk_sec, ↓foldl_fr, ↓ite_fr, ↓ite_fst, ↓fold_fst_fr, ↓State.modEngine_fr, ↓onUnit_fr, ↓State.abandon_fr, ite_self, implies_true]

theorem State.lateError_fr (s : State) (e : Nat) (late : List Nat) : (State.lateError s e late).fr = s.fr := by
  unfold State.lateError
  repeat' first
  | with_reducible rfl
  | simp only [↓fr_mk, ↓fr_mk_clock, ↓fr_mk_sec, ↓foldl_fr, ↓ite_fr, ↓State.raise_fr, ite_self, implies_true]
  | split
  | refine (foldl_fr _ (fun _ _ => ?_) _ _).trans ?_
  | refine (fold_fst_fr _ (fun _ _ => ?_) _ _).trans ?_
  | refine pair_fr (by assumption) ?_
  | exact rfl

theorem execRoutineEnd_fr (engine : Nat) (s : State) : outFr (execRoutineEnd engine s) s = s.fr := by
  unfold execRoutineEnd
  simp only [↓outFr_next, ↓outFr_fault, ↓outFr_onUnit, ↓outFr_ite, ↓fr_mk, ↓fr_mk_clock, ↓fr_mk_sec, ↓foldl_fr, ↓ite_fr, ↓ite_fst, ↓fold_fst_fr, ↓onUnit_fr, ↓State.refill_fr, ↓State.idleEngine_fr, ↓State.lateError_fr, ite_self, implies_true]

theorem State.refuseJob_fr (s : State) (j : ArmJob) : (State.refuseJob s j).fr = s.fr := by
  unfold State.refuseJob
  repeat' first
  | with_reducible rfl
  | simp only [↓fr_mk, ↓fr_mk_clock, ↓fr_mk_sec, ↓foldl_fr, ↓ite_fr, ↓State.reply_fr, ↓State.refuseHeld_fr, ite_self, implies_true]
  | split
  | refine (foldl_fr _ (fun _ _ => ?_) _ _).trans ?_
  | refine (fold_fst_fr _ (fun _ _ => ?_) _ _).trans ?_
  | refine pair_fr (by assumption) ?_
  | exact rfl

theorem State.stopStaging_fr (s : State) (e : Nat) : (State.stopStaging s e).fr = s.fr := by
  unfold State.stopStaging
  repeat' first
  | with_reducible rfl
  | simp only [↓fr_mk, ↓fr_mk_clock, ↓fr_mk_sec, ↓foldl_fr, ↓ite_fr, ↓State.modEngine_fr, ↓State.withdrawEngine_fr, ↓State.idleEngine_fr, ↓State.refuseJob_fr, ite_self, implies_true]
  | split
  | refine (foldl_fr _ (fun _ _ => ?_) _ _).trans ?_
  | refine (fold_fst_fr _ (fun _ _ => ?_) _ _).trans ?_
  | refine pair_fr (by assumption) ?_
  | exact rfl

theorem State.dropStaging_fr (s : State) : (State.dropStaging s).fr = s.fr := by
  unfold State.dropStaging
  repeat' first
  | with_reducible rfl
  | simp only [↓fr_mk, ↓fr_mk_clock, ↓fr_mk_sec, ↓foldl_fr, ↓ite_fr, ↓State.modEngine_fr, ↓State.refuseJob_fr, ite_self, implies_true]
  | split
  | refine (foldl_fr _ (fun _ _ => ?_) _ _).trans ?_
  | refine (fold_fst_fr _ (fun _ _ => ?_) _ _).trans ?_
  | refine pair_fr (by assumption) ?_
  | exact rfl

theorem State.dropDirect_fr (s : State) : (State.dropDirect s).fr = s.fr := by
  unfold State.dropDirect
  repeat' first
  | with_reducible rfl
  | simp only [↓fr_mk, ↓fr_mk_clock, ↓fr_mk_sec, ↓foldl_fr, ↓ite_fr, ↓State.refuseHeld_fr, ↓State.endJob_fr, ite_self, implies_true]
  | split
  | refine (foldl_fr _ (fun _ _ => ?_) _ _).trans ?_
  | refine (fold_fst_fr _ (fun _ _ => ?_) _ _).trans ?_
  | refine pair_fr (by assumption) ?_
  | exact rfl

theorem State.discardMaquette_fr (s : State) (v : BitVec 16) : (State.discardMaquette s v).fr = s.fr := by
  unfold State.discardMaquette
  repeat' first
  | with_reducible rfl
  | simp only [↓fr_mk, ↓fr_mk_clock, ↓fr_mk_sec, ↓foldl_fr, ↓ite_fr, ↓State.discardAll_fr, ↓State.stopStaging_fr, ↓State.dropStaging_fr, ↓State.dropDirect_fr, ite_self, implies_true]
  | split
  | refine (foldl_fr _ (fun _ _ => ?_) _ _).trans ?_
  | refine (fold_fst_fr _ (fun _ _ => ?_) _ _).trans ?_
  | refine pair_fr (by assumption) ?_
  | exact rfl

theorem State.applyPatch_fr (s : State) (p : Patch) : (State.applyPatch s p).fr = s.fr := by
  unfold State.applyPatch
  first
  | (simp only [↓fr_mk, ↓fr_mk_clock, ↓fr_mk_sec, ↓foldl_fr, ↓ite_fr, ite_self, implies_true]; done)
  | exact rfl

theorem execArmPatchQuiesced_fr (s : State) : outFr (execArmPatchQuiesced s) s = s.fr := by
  unfold execArmPatchQuiesced
  repeat' first
  | with_reducible rfl
  | simp only [↓outFr_next, ↓outFr_fault, ↓outFr_onUnit, ↓outFr_ite, ↓fr_mk, ↓fr_mk_clock, ↓fr_mk_sec, ↓foldl_fr, ↓ite_fr, ↓ite_fst, ↓fold_fst_fr, ↓State.note_fr, ↓State.reply_fr, ↓State.applyPatch_fr, ite_self, implies_true]
  | split
  | refine (foldl_fr _ (fun _ _ => ?_) _ _).trans ?_
  | refine (fold_fst_fr _ (fun _ _ => ?_) _ _).trans ?_
  | refine pair_fr (by assumption) ?_
  | exact rfl

theorem execArmPatchActivateTimeout_fr (s : State) : outFr (execArmPatchActivateTimeout s) s = s.fr := by
  unfold execArmPatchActivateTimeout
  repeat' first
  | with_reducible rfl
  | simp only [↓outFr_next, ↓outFr_fault, ↓outFr_onUnit, ↓outFr_ite, ↓fr_mk, ↓fr_mk_clock, ↓fr_mk_sec, ↓foldl_fr, ↓ite_fr, ↓ite_fst, ↓fold_fst_fr, ↓State.refuseHeld_fr, ite_self, implies_true]
  | split
  | refine (foldl_fr _ (fun _ _ => ?_) _ _).trans ?_
  | refine (fold_fst_fr _ (fun _ _ => ?_) _ _).trans ?_
  | refine pair_fr (by assumption) ?_
  | exact rfl

theorem State.restoreEngine_fr (s : State) (e : Nat) : (State.restoreEngine s e).fr = s.fr := by
  unfold State.restoreEngine
  simp only [↓fr_mk, ↓fr_mk_clock, ↓fr_mk_sec, ↓foldl_fr, ↓ite_fr, ↓State.modEngine_fr, ↓State.clearPermanence_fr, ↓State.refill_fr, ite_self, implies_true]

end Sys2Proof.Machine
end

