-- ==== Sys2Proof/Laws/FramePorts.lean ====
section
/-! SUPPORT. Frames of lanes, ports, ciphers, time, gates and telemetry. -/

namespace Sys2Proof.Machine
theorem State.sentFlow_fr (s : State) (p prio quanta : Nat) : (State.sentFlow s p prio quanta).fr = s.fr := by
  unfold State.sentFlow
  simp only [↓fr_mk, ↓fr_mk_clock, ↓fr_mk_sec, ↓foldl_fr, ↓ite_fr, ↓State.bumpBy_fr, ↓State.bump_fr, ite_self, implies_true]

theorem State.endFlows_fr (s : State) (p : Nat) : (State.endFlows s p).fr = s.fr := by
  unfold State.endFlows
  repeat' first
  | with_reducible rfl
  | simp only [↓fr_mk, ↓fr_mk_clock, ↓fr_mk_sec, ↓foldl_fr, ↓ite_fr, ↓ite_fst, ↓fold_fst_fr, ↓State.modPort_fr, ↓State.sentFlow_fr, ite_self, implies_true]
  | split
  | refine (foldl_fr _ (fun _ _ => ?_) _ _).trans ?_
  | refine (fold_fst_fr _ (fun _ _ => ?_) _ _).trans ?_
  | refine pair_fr (by assumption) ?_
  | exact rfl

theorem State.loseFlow_fr (s : State) (p : Nat) : (State.loseFlow s p).fr = s.fr := by
  unfold State.loseFlow
  simp only [↓fr_mk, ↓fr_mk_clock, ↓fr_mk_sec, ↓foldl_fr, ↓ite_fr, ↓State.modPort_fr, ↓State.bump_fr, ↓State.endFlows_fr, ite_self, implies_true]

theorem State.loseFrame_fr (s : State) (p : Nat) : (State.loseFrame s p).fr = s.fr := by
  unfold State.loseFrame
  repeat' first
  | with_reducible rfl
  | simp only [↓fr_mk, ↓fr_mk_clock, ↓fr_mk_sec, ↓foldl_fr, ↓ite_fr, ↓State.bump_fr, ↓State.txDropped_fr, ↓State.leaveMac_fr, ite_self, implies_true]
  | split
  | refine (foldl_fr _ (fun _ _ => ?_) _ _).trans ?_
  | refine (fold_fst_fr _ (fun _ _ => ?_) _ _).trans ?_
  | refine pair_fr (by assumption) ?_
  | exact rfl

theorem State.linkDown_fr (s : State) (p : Nat) : (State.linkDown s p).fr = s.fr := by
  unfold State.linkDown
  simp only [↓fr_mk, ↓fr_mk_clock, ↓fr_mk_sec, ↓foldl_fr, ↓ite_fr, ↓State.modPort_fr, ↓State.modEport_fr, ↓State.bump_fr, ↓State.note_fr, ite_self, implies_true]

theorem State.reraw_fr (s : State) (p : Nat) : (State.reraw s p).fr = s.fr := by
  unfold State.reraw
  simp only [↓fr_mk, ↓fr_mk_clock, ↓fr_mk_sec, ↓foldl_fr, ↓ite_fr, ↓State.modPort_fr, ↓State.bump_fr, ↓State.loseFlow_fr, ↓State.loseFrame_fr, ↓State.linkDown_fr, ite_self, implies_true]

theorem State.rerawLane_fr (s : State) (l : Nat) : (State.rerawLane s l).fr = s.fr := by
  unfold State.rerawLane
  repeat' first
  | with_reducible rfl
  | simp only [↓fr_mk, ↓fr_mk_clock, ↓fr_mk_sec, ↓foldl_fr, ↓ite_fr, ↓State.reraw_fr, ite_self, implies_true]
  | split
  | refine (foldl_fr _ (fun _ _ => ?_) _ _).trans ?_
  | refine (fold_fst_fr _ (fun _ _ => ?_) _ _).trans ?_
  | refine pair_fr (by assumption) ?_
  | exact rfl

theorem State.endScan_fr (s : State) (l status : Nat) : (State.endScan s l status).fr = s.fr := by
  unfold State.endScan
  simp only [↓fr_mk, ↓fr_mk_clock, ↓fr_mk_sec, ↓foldl_fr, ↓ite_fr, ↓State.modLane_fr, ite_self, implies_true]

theorem State.leaveTaps_fr (s : State) (l : Nat) : (State.leaveTaps s l).fr = s.fr := by
  unfold State.leaveTaps
  simp only [↓fr_mk, ↓fr_mk_clock, ↓fr_mk_sec, ↓foldl_fr, ↓ite_fr, ↓State.modLane_fr, ↓State.draw_fr, ite_self, implies_true]

theorem State.enterLane_fr (s : State) (l : Nat) (st : LaneState) (trained : Bool) : (State.enterLane s l st trained).fr = s.fr := by
  unfold State.enterLane
  simp only [↓fr_mk, ↓fr_mk_clock, ↓fr_mk_sec, ↓foldl_fr, ↓ite_fr, ↓State.modLane_fr, ↓State.bump_fr, ↓State.rerawLane_fr, ↓State.endScan_fr, ↓State.leaveTaps_fr, ite_self, implies_true]

theorem State.restartLane_fr (s : State) (l : Nat) : (State.restartLane s l).fr = s.fr := by
  unfold State.restartLane
  simp only [↓fr_mk, ↓fr_mk_clock, ↓fr_mk_sec, ↓foldl_fr, ↓ite_fr, ↓State.modLane_fr, ↓State.enterLane_fr, ite_self, implies_true]

theorem State.idleLane_fr (s : State) (l : Nat) : (State.idleLane s l).fr = s.fr := by
  unfold State.idleLane
  simp only [↓fr_mk, ↓fr_mk_clock, ↓fr_mk_sec, ↓foldl_fr, ↓ite_fr, ↓State.enterLane_fr, ite_self, implies_true]

theorem State.retireLane_fr (s : State) (l : Nat) : (State.retireLane s l).fr = s.fr := by
  unfold State.retireLane
  repeat' first
  | with_reducible rfl
  | simp only [↓fr_mk, ↓fr_mk_clock, ↓fr_mk_sec, ↓foldl_fr, ↓ite_fr, ↓State.modLane_fr, ↓State.schedule_fr, ↓State.note_fr, ↓State.enterLane_fr, ite_self, implies_true]
  | split
  | refine (foldl_fr _ (fun _ _ => ?_) _ _).trans ?_
  | refine (fold_fst_fr _ (fun _ _ => ?_) _ _).trans ?_
  | refine pair_fr (by assumption) ?_
  | exact rfl

theorem State.declareLane_fr (s : State) (l : Nat) : (State.declareLane s l).fr = s.fr := by
  unfold State.declareLane
  simp only [↓fr_mk, ↓fr_mk_clock, ↓fr_mk_sec, ↓foldl_fr, ↓ite_fr, ↓State.modLane_fr, ↓State.raiseBase_fr, ↓State.decided_fr, ↓State.retireLane_fr, ite_self, implies_true]

theorem State.holdRestart_fr (s : State) (l : Nat) : (State.holdRestart s l).fr = s.fr := by
  unfold State.holdRestart
  repeat' first
  | with_reducible rfl
  | simp only [↓fr_mk, ↓fr_mk_clock, ↓fr_mk_sec, ↓foldl_fr, ↓ite_fr, ↓State.modLane_fr, ↓State.hold_fr, ↓State.enterLane_fr, ↓State.restartLane_fr, ite_self, implies_true]
  | split
  | refine (foldl_fr _ (fun _ _ => ?_) _ _).trans ?_
  | refine (fold_fst_fr _ (fun _ _ => ?_) _ _).trans ?_
  | refine pair_fr (by assumption) ?_
  | exact rfl

theorem State.laneErrorAs_fr (s : State) (l src : Nat) (detail : BitVec 64) : (State.laneErrorAs s l src detail).fr = s.fr := by
  unfold State.laneErrorAs
  simp only [↓fr_mk, ↓fr_mk_clock, ↓fr_mk_sec, ↓foldl_fr, ↓ite_fr, ↓State.modLane_fr, ↓State.raiseBase_fr, ↓State.restartLane_fr, ↓State.declareLane_fr, ↓State.holdRestart_fr, ite_self, implies_true]

theorem State.laneError_fr (s : State) (l src : Nat) : (State.laneError s l src).fr = s.fr := by
  unfold State.laneError
  simp only [↓fr_mk, ↓fr_mk_clock, ↓fr_mk_sec, ↓foldl_fr, ↓ite_fr, ↓State.laneErrorAs_fr, ite_self, implies_true]

theorem State.nextClock_fr (s u t : State) (hu : u.fr = s.fr) (h : t.fr = u.nextClock.fr) :
    State.fr { t with clock := s.clock } = s.fr := by
  have h1 : (t.pending, t.sec.svn, t.sec.revoked, t.sec.hssLeaf) = (u.pending, u.sec.svn, u.sec.revoked, u.sec.hssLeaf) :=
    congrArg (fun f => (f.1, f.2.2.2.2.2)) h
  have h2 : (u.pending, u.sec.svn, u.sec.revoked, u.sec.hssLeaf) = (s.pending, s.sec.svn, s.sec.revoked, s.sec.hssLeaf) :=
    congrArg (fun f => (f.1, f.2.2.2.2.2)) hu
  exact congrArg (fun f => (f.1, s.clock.epoch, s.clock.tick, s.clock.k, s.clock.tallyClock, f.2.1, f.2.2.1, f.2.2.2)) (h1.trans h2)

theorem State.calFail_fr (s : State) (l : Nat) : (State.calFail s l).fr = s.fr := by
  unfold State.calFail
  refine State.nextClock_fr s _ _ ?_ (State.declareLane_fr ..)
  simp only [↓State.note_fr, ↓State.enterLane_fr]

theorem execLaneCalibrationDone_fr (tile : Nat) (failed : List Nat) (s : State) : outFr (execLaneCalibrationDone tile failed s) s = s.fr := by
  unfold execLaneCalibrationDone
  repeat' first
  | with_reducible rfl
  | simp only [↓outFr_next, ↓outFr_fault, ↓outFr_onUnit, ↓outFr_ite, ↓fr_mk, ↓fr_mk_clock, ↓fr_mk_sec, ↓foldl_fr, ↓ite_fr, ↓ite_fst, ↓fold_fst_fr, ↓onUnit_fr, ↓State.idleLane_fr, ↓State.calFail_fr, ite_self, implies_true]
  | split
  | refine (foldl_fr _ (fun _ _ => ?_) _ _).trans ?_
  | refine (fold_fst_fr _ (fun _ _ => ?_) _ _).trans ?_
  | refine pair_fr (by assumption) ?_
  | exact rfl

theorem State.laneExit_fr (s : State) (l : Nat) (inverted : Bool) (fir : BitVec 64) : (State.laneExit s l inverted fir).fr = s.fr := by
  unfold State.laneExit
  repeat' first
  | with_reducible rfl
  | simp only [↓fr_mk, ↓fr_mk_clock, ↓fr_mk_sec, ↓foldl_fr, ↓ite_fr, ↓State.putLane_fr, ite_self, implies_true]
  | split
  | refine (foldl_fr _ (fun _ _ => ?_) _ _).trans ?_
  | refine (fold_fst_fr _ (fun _ _ => ?_) _ _).trans ?_
  | refine pair_fr (by assumption) ?_
  | exact rfl

theorem State.laneEntry_fr (s : State) (l : Nat) (st : LaneState) : (State.laneEntry s l st).fr = s.fr := by
  unfold State.laneEntry
  repeat' first
  | with_reducible rfl
  | simp only [↓fr_mk, ↓fr_mk_clock, ↓fr_mk_sec, ↓foldl_fr, ↓ite_fr, ↓State.modOctet_fr, ↓State.bump_fr, ite_self, implies_true]
  | split
  | refine (foldl_fr _ (fun _ _ => ?_) _ _).trans ?_
  | refine (fold_fst_fr _ (fun _ _ => ?_) _ _).trans ?_
  | refine pair_fr (by assumption) ?_
  | exact rfl

theorem execLaneStateAdvance_fr (lane : Nat) (inverted : Bool) (fir : BitVec 64) (s : State) : outFr (execLaneStateAdvance lane inverted fir s) s = s.fr := by
  unfold execLaneStateAdvance
  repeat' first
  | with_reducible rfl
  | simp only [↓outFr_next, ↓outFr_fault, ↓outFr_onUnit, ↓outFr_ite, ↓fr_mk, ↓fr_mk_clock, ↓fr_mk_sec, ↓foldl_fr, ↓ite_fr, ↓ite_fst, ↓fold_fst_fr, ↓onUnit_fr, ↓State.enterLane_fr, ↓State.laneExit_fr, ↓State.laneEntry_fr, ite_self, implies_true]
  | split
  | refine (foldl_fr _ (fun _ _ => ?_) _ _).trans ?_
  | refine (fold_fst_fr _ (fun _ _ => ?_) _ _).trans ?_
  | refine pair_fr (by assumption) ?_
  | exact rfl

theorem execLaneBringupTimeout_fr (lane : Nat) (s : State) : outFr (execLaneBringupTimeout lane s) s = s.fr := by
  unfold execLaneBringupTimeout
  simp only [↓outFr_next, ↓outFr_fault, ↓outFr_onUnit, ↓outFr_ite, ↓fr_mk, ↓fr_mk_clock, ↓fr_mk_sec, ↓foldl_fr, ↓ite_fr, ↓ite_fst, ↓fold_fst_fr, ↓State.bump_fr, ↓onUnit_fr, ↓State.laneError_fr, ite_self, implies_true]

theorem execLaneLos_fr (lane : Nat) (s : State) : outFr (execLaneLos lane s) s = s.fr := by
  unfold execLaneLos
  simp only [↓outFr_next, ↓outFr_fault, ↓outFr_onUnit, ↓outFr_ite, ↓fr_mk, ↓fr_mk_clock, ↓fr_mk_sec, ↓foldl_fr, ↓ite_fr, ↓ite_fst, ↓fold_fst_fr, ↓State.bump_fr, ↓onUnit_fr, ↓State.enterLane_fr, ite_self, implies_true]

theorem execLaneCdrUnlock_fr (lane : Nat) (s : State) : outFr (execLaneCdrUnlock lane s) s = s.fr := by
  unfold execLaneCdrUnlock
  simp only [↓outFr_next, ↓outFr_fault, ↓outFr_onUnit, ↓outFr_ite, ↓fr_mk, ↓fr_mk_clock, ↓fr_mk_sec, ↓foldl_fr, ↓ite_fr, ↓ite_fst, ↓fold_fst_fr, ↓State.bump_fr, ↓onUnit_fr, ↓State.laneError_fr, ite_self, implies_true]

theorem execLaneAmLoss_fr (lane : Nat) (s : State) : outFr (execLaneAmLoss lane s) s = s.fr := by
  unfold execLaneAmLoss
  simp only [↓outFr_next, ↓outFr_fault, ↓outFr_onUnit, ↓outFr_ite, ↓fr_mk, ↓fr_mk_clock, ↓fr_mk_sec, ↓foldl_fr, ↓ite_fr, ↓ite_fst, ↓fold_fst_fr, ↓State.bump_fr, ↓onUnit_fr, ↓State.laneError_fr, ite_self, implies_true]

theorem execLaneRestartHoldoff_fr (lane : Nat) (s : State) : outFr (execLaneRestartHoldoff lane s) s = s.fr := by
  unfold execLaneRestartHoldoff
  simp only [↓outFr_next, ↓outFr_fault, ↓outFr_onUnit, ↓outFr_ite, ↓fr_mk, ↓fr_mk_clock, ↓fr_mk_sec, ↓foldl_fr, ↓ite_fr, ↓ite_fst, ↓fold_fst_fr, ↓onUnit_fr, ↓State.restartLane_fr, ite_self, implies_true]

theorem execLaneRecovered_fr (lane : Nat) (s : State) : outFr (execLaneRecovered lane s) s = s.fr := by
  unfold execLaneRecovered
  simp only [↓outFr_next, ↓outFr_fault, ↓outFr_onUnit, ↓outFr_ite, ↓fr_mk, ↓fr_mk_clock, ↓fr_mk_sec, ↓foldl_fr, ↓ite_fr, ↓ite_fst, ↓fold_fst_fr, ↓State.putLane_fr, ↓onUnit_fr, ↓State.note_fr, ite_self, implies_true]

theorem State.decideOrder_fr (s : State) (o : Nat) (ev : List (Nat × Bool)) : (State.decideOrder s o ev).fr = s.fr := by
  unfold State.decideOrder
  simp only [↓fr_mk, ↓fr_mk_clock, ↓fr_mk_sec, ↓foldl_fr, ↓ite_fr, ↓State.modOctet_fr, ↓State.note_fr, ↓State.decided_fr, ite_self, implies_true]

theorem State.lateEvidence_fr (s : State) (o : Nat) (ev : List (Nat × Bool)) : (State.lateEvidence s o ev).fr = s.fr := by
  unfold State.lateEvidence
  repeat' first
  | with_reducible rfl
  | simp only [↓fr_mk, ↓fr_mk_clock, ↓fr_mk_sec, ↓foldl_fr, ↓ite_fr, ↓ite_fst, ↓fold_fst_fr, ↓State.modOctet_fr, ↓State.note_fr, ite_self, implies_true]
  | split
  | refine (foldl_fr _ (fun _ _ => ?_) _ _).trans ?_
  | refine (fold_fst_fr _ (fun _ _ => ?_) _ _).trans ?_
  | refine pair_fr (by assumption) ?_
  | exact rfl

theorem execLaneOrderWindowEnd_fr (octet : Nat) (evidence : List (Nat × Bool)) (s : State) : outFr (execLaneOrderWindowEnd octet evidence s) s = s.fr := by
  unfold execLaneOrderWindowEnd
  repeat' first
  | with_reducible rfl
  | simp only [↓outFr_next, ↓outFr_fault, ↓outFr_onUnit, ↓outFr_ite, ↓fr_mk, ↓fr_mk_clock, ↓fr_mk_sec, ↓foldl_fr, ↓ite_fr, ↓ite_fst, ↓fold_fst_fr, ↓onUnit_fr, ↓State.decided_fr, ↓State.decideOrder_fr, ↓State.lateEvidence_fr, ite_self, implies_true]
  | split
  | refine (foldl_fr _ (fun _ _ => ?_) _ _).trans ?_
  | refine (fold_fst_fr _ (fun _ _ => ?_) _ _).trans ?_
  | refine pair_fr (by assumption) ?_
  | exact rfl

theorem execLaneSerIntervalEnd_fr (lane symErr : Nat) (s : State) : outFr (execLaneSerIntervalEnd lane symErr s) s = s.fr := by
  unfold execLaneSerIntervalEnd
  simp only [↓outFr_next, ↓outFr_fault, ↓outFr_onUnit, ↓outFr_ite, ↓fr_mk, ↓fr_mk_clock, ↓fr_mk_sec, ↓foldl_fr, ↓ite_fr, ↓ite_fst, ↓fold_fst_fr, ↓State.modLane_fr, ↓State.putCount_fr, ↓State.bumpBy_fr, ↓onUnit_fr, ↓State.note_fr, ite_self, implies_true]

theorem execLaneSnrUpdate_fr (lane snr : Nat) (s : State) : outFr (execLaneSnrUpdate lane snr s) s = s.fr := by
  unfold execLaneSnrUpdate
  simp only [↓outFr_next, ↓outFr_fault, ↓outFr_onUnit, ↓outFr_ite, ↓fr_mk, ↓fr_mk_clock, ↓fr_mk_sec, ↓foldl_fr, ↓ite_fr, ↓ite_fst, ↓fold_fst_fr, ↓State.modLane_fr, ↓onUnit_fr, ite_self, implies_true]

theorem execEyeScanPointDone_fr (lane count : Nat) (s : State) : outFr (execEyeScanPointDone lane count s) s = s.fr := by
  unfold execEyeScanPointDone
  simp only [↓outFr_next, ↓outFr_fault, ↓outFr_onUnit, ↓outFr_ite, ↓fr_mk, ↓fr_mk_clock, ↓fr_mk_sec, ↓foldl_fr, ↓ite_fr, ↓ite_fst, ↓fold_fst_fr, ↓State.modLane_fr, ↓onUnit_fr, ite_self, implies_true]

theorem startScan_fr (lane : Nat) (c : Scan) (s : State) : (startScan lane c s).fr = s.fr := by
  unfold startScan
  simp only [↓fr_mk, ↓fr_mk_clock, ↓fr_mk_sec, ↓foldl_fr, ↓ite_fr, ↓State.modLane_fr, ite_self, implies_true]

theorem State.restoreLane_fr (s : State) (lane : Nat) (passes : Bool) : (State.restoreLane s lane passes).fr = s.fr := by
  unfold State.restoreLane
  simp only [↓fr_mk, ↓fr_mk_clock, ↓fr_mk_sec, ↓foldl_fr, ↓ite_fr, ↓State.modLane_fr, ↓State.idleLane_fr, ↓State.calFail_fr, ite_self, implies_true]

theorem State.retest_fr (s : State) (l : Nat) : (State.retest s l).fr = s.fr := by
  unfold State.retest
  simp only [↓fr_mk, ↓fr_mk_clock, ↓fr_mk_sec, ↓foldl_fr, ↓ite_fr, ↓State.enterLane_fr, ite_self, implies_true]

theorem State.restartOrder_fr (s : State) (o mode : Nat) : (State.restartOrder s o mode).fr = s.fr := by
  unfold State.restartOrder
  repeat' first
  | with_reducible rfl
  | simp only [↓fr_mk, ↓fr_mk_clock, ↓fr_mk_sec, ↓foldl_fr, ↓ite_fr, ↓State.modLane_fr, ↓State.modOctet_fr, ite_self, implies_true]
  | split
  | refine (foldl_fr _ (fun _ _ => ?_) _ _).trans ?_
  | refine (fold_fst_fr _ (fun _ _ => ?_) _ _).trans ?_
  | refine pair_fr (by assumption) ?_
  | exact rfl

theorem State.loadTimer_fr (s : State) (p timer q : Nat) : (State.loadTimer s p timer q).fr = s.fr := by
  unfold State.loadTimer
  repeat' first
  | with_reducible rfl
  | simp only [↓fr_mk, ↓fr_mk_clock, ↓fr_mk_sec, ↓foldl_fr, ↓ite_fr, ↓ite_fst, ↓fold_fst_fr, ↓State.modPort_fr, ite_self, implies_true]
  | split
  | refine (foldl_fr _ (fun _ _ => ?_) _ _).trans ?_
  | refine (fold_fst_fr _ (fun _ _ => ?_) _ _).trans ?_
  | refine pair_fr (by assumption) ?_
  | exact rfl

theorem State.takePause_fr (s : State) (p : Nat) (c : MacCtl) : (State.takePause s p c).fr = s.fr := by
  unfold State.takePause
  simp only [↓fr_mk, ↓fr_mk_clock, ↓fr_mk_sec, ↓foldl_fr, ↓ite_fr, ↓State.bump_fr, ↓State.loadTimer_fr, ite_self, implies_true]

theorem State.takePfc_fr (s : State) (p : Nat) (c : MacCtl) : (State.takePfc s p c).fr = s.fr := by
  unfold State.takePfc
  repeat' first
  | with_reducible rfl
  | simp only [↓fr_mk, ↓fr_mk_clock, ↓fr_mk_sec, ↓foldl_fr, ↓ite_fr, ↓State.bump_fr, ↓State.loadTimer_fr, ite_self, implies_true]
  | split
  | refine (foldl_fr _ (fun _ _ => ?_) _ _).trans ?_
  | refine (fold_fst_fr _ (fun _ _ => ?_) _ _).trans ?_
  | refine pair_fr (by assumption) ?_
  | exact rfl

theorem State.takeControl_fr (s : State) (p : Nat) (c : MacCtl) : (State.takeControl s p c).fr = s.fr := by
  unfold State.takeControl
  simp only [↓fr_mk, ↓fr_mk_clock, ↓fr_mk_sec, ↓foldl_fr, ↓ite_fr, ↓State.bump_fr, ↓State.countRxOk_fr, ↓State.takePause_fr, ↓State.takePfc_fr, ite_self, implies_true]

theorem execMacControlFrameRx_fr (port : Nat) (c : MacCtl) (s : State) : outFr (execMacControlFrameRx port c s) s = s.fr := by
  unfold execMacControlFrameRx
  simp only [↓outFr_next, ↓outFr_fault, ↓outFr_onUnit, ↓outFr_ite, ↓fr_mk, ↓fr_mk_clock, ↓fr_mk_sec, ↓foldl_fr, ↓ite_fr, ↓ite_fst, ↓fold_fst_fr, ↓State.bumpBy_fr, ↓onUnit_fr, ↓State.takeControl_fr, ite_self, implies_true]

theorem execPauseTimerExpiry_fr (port timer : Nat) (s : State) : outFr (execPauseTimerExpiry port timer s) s = s.fr := by
  unfold execPauseTimerExpiry
  repeat' first
  | with_reducible rfl
  | simp only [↓outFr_next, ↓outFr_fault, ↓outFr_onUnit, ↓outFr_ite, ↓fr_mk, ↓fr_mk_clock, ↓fr_mk_sec, ↓foldl_fr, ↓ite_fr, ↓ite_fst, ↓fold_fst_fr, ↓State.modPort_fr, ↓onUnit_fr, ite_self, implies_true]
  | split
  | refine (foldl_fr _ (fun _ _ => ?_) _ _).trans ?_
  | refine (fold_fst_fr _ (fun _ _ => ?_) _ _).trans ?_
  | refine pair_fr (by assumption) ?_
  | exact rfl

theorem State.putFlow_fr (s : State) (p prio quanta : Nat) : (State.putFlow s p prio quanta).fr = s.fr := by
  unfold State.putFlow
  simp only [↓fr_mk, ↓fr_mk_clock, ↓fr_mk_sec, ↓foldl_fr, ↓ite_fr, ↓State.modPort_fr, ite_self, implies_true]

theorem State.endAllFlows_fr (s : State) : (State.endAllFlows s).fr = s.fr := by
  unfold State.endAllFlows
  repeat' first
  | with_reducible rfl
  | simp only [↓fr_mk, ↓fr_mk_clock, ↓fr_mk_sec, ↓foldl_fr, ↓ite_fr, ↓State.endFlows_fr, ite_self, implies_true]
  | split
  | refine (foldl_fr _ (fun _ _ => ?_) _ _).trans ?_
  | refine (fold_fst_fr _ (fun _ _ => ?_) _ _).trans ?_
  | refine pair_fr (by assumption) ?_
  | exact rfl

theorem State.sendFlow_fr (s : State) (p prio quanta : Nat) : (State.sendFlow s p prio quanta).fr = s.fr := by
  unfold State.sendFlow
  simp only [↓fr_mk, ↓fr_mk_clock, ↓fr_mk_sec, ↓foldl_fr, ↓ite_fr, ↓State.modPort_fr, ↓State.putFlow_fr, ite_self, implies_true]

theorem State.sendDueFlow_fr (s : State) (p : Nat) : (State.sendDueFlow s p).fr = s.fr := by
  unfold State.sendDueFlow
  repeat' first
  | with_reducible rfl
  | simp only [↓fr_mk, ↓fr_mk_clock, ↓fr_mk_sec, ↓foldl_fr, ↓ite_fr, ↓State.modPort_fr, ↓State.putFlow_fr, ite_self, implies_true]
  | split
  | refine (foldl_fr _ (fun _ _ => ?_) _ _).trans ?_
  | refine (fold_fst_fr _ (fun _ _ => ?_) _ _).trans ?_
  | refine pair_fr (by assumption) ?_
  | exact rfl

theorem State.putXoff_fr (s : State) (p prio : Nat) (t : Option Nat) : (State.putXoff s p prio t).fr = s.fr := by
  unfold State.putXoff
  simp only [↓fr_mk, ↓fr_mk_clock, ↓fr_mk_sec, ↓foldl_fr, ↓ite_fr, ↓State.modPort_fr, ite_self, implies_true]

theorem execXoffRequest_fr (port prio : Nat) (s : State) : outFr (execXoffRequest port prio s) s = s.fr := by
  unfold execXoffRequest
  repeat' first
  | with_reducible rfl
  | simp only [↓outFr_next, ↓outFr_fault, ↓outFr_onUnit, ↓outFr_ite, ↓fr_mk, ↓fr_mk_clock, ↓fr_mk_sec, ↓foldl_fr, ↓ite_fr, ↓ite_fst, ↓fold_fst_fr, ↓State.bump_fr, ↓onUnit_fr, ↓State.sendFlow_fr, ↓State.putXoff_fr, ite_self, implies_true]
  | split
  | refine (foldl_fr _ (fun _ _ => ?_) _ _).trans ?_
  | refine (fold_fst_fr _ (fun _ _ => ?_) _ _).trans ?_
  | refine pair_fr (by assumption) ?_
  | exact rfl

theorem execXoffResend_fr (port prio : Nat) (s : State) : outFr (execXoffResend port prio s) s = s.fr := by
  unfold execXoffResend
  repeat' first
  | with_reducible rfl
  | simp only [↓outFr_next, ↓outFr_fault, ↓outFr_onUnit, ↓outFr_ite, ↓fr_mk, ↓fr_mk_clock, ↓fr_mk_sec, ↓foldl_fr, ↓ite_fr, ↓ite_fst, ↓fold_fst_fr, ↓onUnit_fr, ↓State.sendFlow_fr, ↓State.putXoff_fr, ite_self, implies_true]
  | split
  | refine (foldl_fr _ (fun _ _ => ?_) _ _).trans ?_
  | refine (fold_fst_fr _ (fun _ _ => ?_) _ _).trans ?_
  | refine pair_fr (by assumption) ?_
  | exact rfl

theorem execAnResolve_fr (port : Nat) (partner : List Nat) (s : State) : outFr (execAnResolve port partner s) s = s.fr := by
  unfold execAnResolve
  repeat' first
  | with_reducible rfl
  | simp only [↓outFr_next, ↓outFr_fault, ↓outFr_onUnit, ↓outFr_ite, ↓fr_mk, ↓fr_mk_clock, ↓fr_mk_sec, ↓foldl_fr, ↓ite_fr, ↓ite_fst, ↓fold_fst_fr, ↓State.modPort_fr, ↓onUnit_fr, ↓State.note_fr, ite_self, implies_true]
  | split
  | refine (foldl_fr _ (fun _ _ => ?_) _ _).trans ?_
  | refine (fold_fst_fr _ (fun _ _ => ?_) _ _).trans ?_
  | refine pair_fr (by assumption) ?_
  | exact rfl

theorem State.setRemoteFault_fr (s : State) (p : Nat) (on : Bool) : (State.setRemoteFault s p on).fr = s.fr := by
  unfold State.setRemoteFault
  simp only [↓fr_mk, ↓fr_mk_clock, ↓fr_mk_sec, ↓foldl_fr, ↓ite_fr, ite_self, implies_true]

theorem execRawLinkChange_fr (port : Nat) (aligned localFault remoteFault : Bool) (s : State) : outFr (execRawLinkChange port aligned localFault remoteFault s) s = s.fr := by
  unfold execRawLinkChange
  simp only [↓outFr_next, ↓outFr_fault, ↓outFr_onUnit, ↓outFr_ite, ↓fr_mk, ↓fr_mk_clock, ↓fr_mk_sec, ↓foldl_fr, ↓ite_fr, ↓ite_fst, ↓fold_fst_fr, ↓State.modPort_fr, ↓onUnit_fr, ↓State.note_fr, ↓State.reraw_fr, ↓State.setRemoteFault_fr, ite_self, implies_true]

theorem execLinkDownDebounceExpiry_fr (port : Nat) (s : State) : outFr (execLinkDownDebounceExpiry port s) s = s.fr := by
  unfold execLinkDownDebounceExpiry
  simp only [↓outFr_next, ↓outFr_fault, ↓outFr_onUnit, ↓outFr_ite, ↓fr_mk, ↓fr_mk_clock, ↓fr_mk_sec, ↓foldl_fr, ↓ite_fr, ↓ite_fst, ↓fold_fst_fr, ↓onUnit_fr, ↓State.linkDown_fr, ite_self, implies_true]

theorem State.sendLanes_fr (s : State) (ls : List Nat) (st : LaneState) : (State.sendLanes s ls st).fr = s.fr := by
  unfold State.sendLanes
  repeat' first
  | with_reducible rfl
  | simp only [↓fr_mk, ↓fr_mk_clock, ↓fr_mk_sec, ↓foldl_fr, ↓ite_fr, ↓State.enterLane_fr, ite_self, implies_true]
  | split
  | refine (foldl_fr _ (fun _ _ => ?_) _ _).trans ?_
  | refine (fold_fst_fr _ (fun _ _ => ?_) _ _).trans ?_
  | refine pair_fr (by assumption) ?_
  | exact rfl

theorem State.flushPort_fr (s : State) (p : Nat) : (State.flushPort s p).fr = s.fr := by
  unfold State.flushPort
  repeat' first
  | with_reducible rfl
  | simp only [↓fr_mk, ↓fr_mk_clock, ↓fr_mk_sec, ↓foldl_fr, ↓ite_fr, ↓State.flushQueue_fr, ite_self, implies_true]
  | split
  | refine (foldl_fr _ (fun _ _ => ?_) _ _).trans ?_
  | refine (fold_fst_fr _ (fun _ _ => ?_) _ _).trans ?_
  | refine pair_fr (by assumption) ?_
  | exact rfl

theorem State.stopPort_fr (s : State) (p : Nat) : (State.stopPort s p).fr = s.fr := by
  unfold State.stopPort
  simp only [↓fr_mk, ↓fr_mk_clock, ↓fr_mk_sec, ↓foldl_fr, ↓ite_fr, ↓State.modPort_fr, ↓State.modEport_fr, ↓State.note_fr, ↓State.reraw_fr, ↓State.setRemoteFault_fr, ↓State.sendLanes_fr, ↓State.flushPort_fr, ite_self, implies_true]

theorem State.startPort_fr (s : State) (p : Nat) : (State.startPort s p).fr = s.fr := by
  unfold State.startPort
  simp only [↓fr_mk, ↓fr_mk_clock, ↓fr_mk_sec, ↓foldl_fr, ↓ite_fr, ↓State.modPort_fr, ↓State.sendLanes_fr, ite_self, implies_true]

theorem State.applyPortEnable_fr (s : State) (p : Nat) (on : Bool) : (State.applyPortEnable s p on).fr = s.fr := by
  unfold State.applyPortEnable
  simp only [↓fr_mk, ↓fr_mk_clock, ↓fr_mk_sec, ↓foldl_fr, ↓ite_fr, ↓State.stopPort_fr, ↓State.startPort_fr, ite_self, implies_true]

theorem State.applyPortConfig_fr (s : State) (p : Nat) (record fields : BitVec 64) : (State.applyPortConfig s p record fields).fr = s.fr := by
  unfold State.applyPortConfig
  simp only [↓fr_mk, ↓fr_mk_clock, ↓fr_mk_sec, ↓foldl_fr, ↓ite_fr, ↓State.modPort_fr, ↓State.record_fr, ite_self, implies_true]

theorem State.applyNarrow_fr (s : State) (p : Nat) : (State.applyNarrow s p).fr = s.fr := by
  unfold State.applyNarrow
  repeat' first
  | with_reducible rfl
  | simp only [↓fr_mk, ↓fr_mk_clock, ↓fr_mk_sec, ↓foldl_fr, ↓ite_fr, ↓State.modPort_fr, ↓State.note_fr, ↓State.reraw_fr, ↓State.sendLanes_fr, ite_self, implies_true]
  | split
  | refine (foldl_fr _ (fun _ _ => ?_) _ _).trans ?_
  | refine (fold_fst_fr _ (fun _ _ => ?_) _ _).trans ?_
  | refine pair_fr (by assumption) ?_
  | exact rfl

theorem State.resetQueues_fr (s : State) (p : Nat) : (State.resetQueues s p).fr = s.fr := by
  unfold State.resetQueues
  repeat' first
  | with_reducible rfl
  | simp only [↓fr_mk, ↓fr_mk_clock, ↓fr_mk_sec, ↓foldl_fr, ↓ite_fr, ↓State.modEqueue_fr, ↓State.modEport_fr, ite_self, implies_true]
  | split
  | refine (foldl_fr _ (fun _ _ => ?_) _ _).trans ?_
  | refine (fold_fst_fr _ (fun _ _ => ?_) _ _).trans ?_
  | refine pair_fr (by assumption) ?_
  | exact rfl

theorem State.applyPortMode_fr (s : State) (o rate : Nat) (mask : BitVec 8) : (State.applyPortMode s o rate mask).fr = s.fr := by
  unfold State.applyPortMode
  repeat' first
  | with_reducible rfl
  | simp only [↓fr_mk, ↓fr_mk_clock, ↓fr_mk_sec, ↓foldl_fr, ↓ite_fr, ↓State.modOctet_fr, ↓State.putPort_fr, ↓State.modPort_fr, ↓State.endScan_fr, ↓State.restartOrder_fr, ↓State.resetQueues_fr, ite_self, implies_true]
  | split
  | refine (foldl_fr _ (fun _ _ => ?_) _ _).trans ?_
  | refine (fold_fst_fr _ (fun _ _ => ?_) _ _).trans ?_
  | refine pair_fr (by assumption) ?_
  | exact rfl

theorem State.putSc_fr (s : State) (dir n : Nat) (x : Sc) : (State.putSc s dir n x).fr = s.fr := by
  unfold State.putSc
  simp only [↓fr_mk, ↓fr_mk_clock, ↓fr_mk_sec, ↓foldl_fr, ↓ite_fr, ↓State.putRxSc_fr, ↓State.putTxSc_fr, ite_self, implies_true]

theorem State.putSa_fr (s : State) (dir n : Nat) (x : Sa) : (State.putSa s dir n x).fr = s.fr := by
  unfold State.putSa
  simp only [↓fr_mk, ↓fr_mk_clock, ↓fr_mk_sec, ↓foldl_fr, ↓ite_fr, ↓State.putRxSa_fr, ↓State.putTxSa_fr, ite_self, implies_true]

theorem State.unpoison_fr (s : State) (a : BitVec 64) : (State.unpoison s a).fr = s.fr := by
  unfold State.unpoison
  simp only [↓fr_mk, ↓fr_mk_clock, ↓fr_mk_sec, ↓foldl_fr, ↓ite_fr, ite_self, implies_true]

theorem State.takePn_fr (s : State) (sa : Nat) : (State.takePn s sa).fr = s.fr := by
  unfold State.takePn
  simp only [↓fr_mk, ↓fr_mk_clock, ↓fr_mk_sec, ↓foldl_fr, ↓ite_fr, ↓State.putTxSa_fr, ↓State.note_fr, ite_self, implies_true]

theorem State.applyCipherPort_fr (s : State) (p : Nat) (record fields : BitVec 64) : (State.applyCipherPort s p record fields).fr = s.fr := by
  unfold State.applyCipherPort
  simp only [↓fr_mk, ↓fr_mk_clock, ↓fr_mk_sec, ↓foldl_fr, ↓ite_fr, ↓State.modCipherPort_fr, ↓State.putCipherPast_fr, ↓State.record_fr, ite_self, implies_true]

theorem State.applyScSet_fr (s : State) (sc dir : Nat) (rp : Option Bool) (win thr : Option Nat) : (State.applyScSet s sc dir rp win thr).fr = s.fr := by
  unfold State.applyScSet
  simp only [↓fr_mk, ↓fr_mk_clock, ↓fr_mk_sec, ↓foldl_fr, ↓ite_fr, ↓State.putSc_fr, ite_self, implies_true]

theorem State.applyScDelete_fr (s : State) (sc dir : Nat) : (State.applyScDelete s sc dir).fr = s.fr := by
  unfold State.applyScDelete
  simp only [↓fr_mk, ↓fr_mk_clock, ↓fr_mk_sec, ↓foldl_fr, ↓ite_fr, ↓State.putSc_fr, ite_self, implies_true]

theorem State.applySaInstall_fr (s : State) (p : SaParams) (key : BitVec 256) : (State.applySaInstall s p key).fr = s.fr := by
  unfold State.applySaInstall
  simp only [↓fr_mk, ↓fr_mk_clock, ↓fr_mk_sec, ↓foldl_fr, ↓ite_fr, ↓State.putSa_fr, ↓State.unpoison_fr, ite_self, implies_true]

theorem State.applySaDelete_fr (s : State) (sc dir an : Nat) : (State.applySaDelete s sc dir an).fr = s.fr := by
  unfold State.applySaDelete
  simp only [↓fr_mk, ↓fr_mk_clock, ↓fr_mk_sec, ↓foldl_fr, ↓ite_fr, ↓State.putSa_fr, ↓State.unpoison_fr, ite_self, implies_true]

theorem State.applySaSelect_fr (s : State) (sc an : Nat) : (State.applySaSelect s sc an).fr = s.fr := by
  unfold State.applySaSelect
  simp only [↓fr_mk, ↓fr_mk_clock, ↓fr_mk_sec, ↓foldl_fr, ↓ite_fr, ↓State.modTxSc_fr, ite_self, implies_true]

theorem State.laAnswer_fr (s : State) (id status : Nat) (payload : List Nat) : (State.laAnswer s id status payload).fr = s.fr := by
  unfold State.laAnswer
  repeat' first
  | with_reducible rfl
  | simp only [↓fr_mk, ↓fr_mk_clock, ↓fr_mk_sec, ↓foldl_fr, ↓ite_fr, ↓State.reply_fr, ite_self, implies_true]
  | split
  | refine (foldl_fr _ (fun _ _ => ?_) _ _).trans ?_
  | refine (fold_fst_fr _ (fun _ _ => ?_) _ _).trans ?_
  | refine pair_fr (by assumption) ?_
  | exact rfl

theorem State.laStart_fr (s : State) (j : LaJob) : (State.laStart s j).fr = s.fr := by
  unfold State.laStart
  repeat' first
  | with_reducible rfl
  | simp only [↓fr_mk, ↓fr_mk_clock, ↓fr_mk_sec, ↓foldl_fr, ↓ite_fr, ↓State.modLaCtx_fr, ite_self, implies_true]
  | split
  | refine (foldl_fr _ (fun _ _ => ?_) _ _).trans ?_
  | refine (fold_fst_fr _ (fun _ _ => ?_) _ _).trans ?_
  | refine pair_fr (by assumption) ?_
  | exact rfl

theorem State.laSuspend_fr (s : State) (j : LaJob) : (State.laSuspend s j).fr = s.fr := by
  unfold State.laSuspend
  repeat' first
  | with_reducible rfl
  | simp only [↓fr_mk, ↓fr_mk_clock, ↓fr_mk_sec, ↓foldl_fr, ↓ite_fr, ↓State.modLaCtx_fr, ↓State.draw_fr, ite_self, implies_true]
  | split
  | refine (foldl_fr _ (fun _ _ => ?_) _ _).trans ?_
  | refine (fold_fst_fr _ (fun _ _ => ?_) _ _).trans ?_
  | refine pair_fr (by assumption) ?_
  | exact rfl

theorem State.laSchedule_fr (s : State) : (State.laSchedule s).fr = s.fr := by
  unfold State.laSchedule
  repeat' first
  | with_reducible rfl
  | simp only [↓fr_mk, ↓fr_mk_clock, ↓fr_mk_sec, ↓foldl_fr, ↓ite_fr, ↓State.laStart_fr, ↓State.laSuspend_fr, ite_self, implies_true]
  | split
  | refine (foldl_fr _ (fun _ _ => ?_) _ _).trans ?_
  | refine (fold_fst_fr _ (fun _ _ => ?_) _ _).trans ?_
  | refine pair_fr (by assumption) ?_
  | exact rfl

theorem State.laRequest_fr (s : State) (m : LaMsg) : (State.laRequest s m).fr = s.fr := by
  unfold State.laRequest
  simp only [↓fr_mk, ↓fr_mk_clock, ↓fr_mk_sec, ↓foldl_fr, ↓ite_fr, ↓State.laSchedule_fr, ite_self, implies_true]

theorem execLaMessageRequest_fr (m : LaMsg) (s : State) : outFr (execLaMessageRequest m s) s = s.fr := by
  unfold execLaMessageRequest
  simp only [↓outFr_next, ↓outFr_fault, ↓outFr_onUnit, ↓outFr_ite, ↓fr_mk, ↓fr_mk_clock, ↓fr_mk_sec, ↓foldl_fr, ↓ite_fr, ↓ite_fst, ↓fold_fst_fr, ↓onUnit_fr, ↓State.laRequest_fr, ite_self, implies_true]

theorem State.laResult_fr (s : State) (w : LaWork) : (State.laResult s w).fr = s.fr := by
  unfold State.laResult
  repeat' first
  | with_reducible rfl
  | simp only [↓fr_mk, ↓fr_mk_clock, ↓fr_mk_sec, ↓foldl_fr, ↓ite_fr, ↓State.laAnswer_fr, ite_self, implies_true]
  | split
  | refine (foldl_fr _ (fun _ _ => ?_) _ _).trans ?_
  | refine (fold_fst_fr _ (fun _ _ => ?_) _ _).trans ?_
  | refine pair_fr (by assumption) ?_
  | exact rfl

theorem execLaMessageComplete_fr (s : State) : outFr (execLaMessageComplete s) s = s.fr := by
  unfold execLaMessageComplete
  repeat' first
  | with_reducible rfl
  | simp only [↓outFr_next, ↓outFr_fault, ↓outFr_onUnit, ↓outFr_ite, ↓fr_mk, ↓fr_mk_clock, ↓fr_mk_sec, ↓foldl_fr, ↓ite_fr, ↓ite_fst, ↓fold_fst_fr, ↓State.laSchedule_fr, ↓State.laResult_fr, ite_self, implies_true]
  | split
  | refine (foldl_fr _ (fun _ _ => ?_) _ _).trans ?_
  | refine (fold_fst_fr _ (fun _ _ => ?_) _ _).trans ?_
  | refine pair_fr (by assumption) ?_
  | exact rfl

theorem execLaPriorityAge_fr (id : Nat) (s : State) : outFr (execLaPriorityAge id s) s = s.fr := by
  unfold execLaPriorityAge
  repeat' first
  | with_reducible rfl
  | simp only [↓outFr_next, ↓outFr_fault, ↓outFr_onUnit, ↓outFr_ite, ↓fr_mk, ↓fr_mk_clock, ↓fr_mk_sec, ↓foldl_fr, ↓ite_fr, ↓ite_fst, ↓fold_fst_fr, ↓State.modLaCtx_fr, ↓State.laSchedule_fr, ite_self, implies_true]
  | split
  | refine (foldl_fr _ (fun _ _ => ?_) _ _).trans ?_
  | refine (fold_fst_fr _ (fun _ _ => ?_) _ _).trans ?_
  | refine pair_fr (by assumption) ?_
  | exact rfl

theorem State.laFlush_fr (s : State) : (State.laFlush s).fr = s.fr := by
  unfold State.laFlush
  repeat' first
  | with_reducible rfl
  | simp only [↓fr_mk, ↓fr_mk_clock, ↓fr_mk_sec, ↓foldl_fr, ↓ite_fr, ↓State.laAnswer_fr, ite_self, implies_true]
  | split
  | refine (foldl_fr _ (fun _ _ => ?_) _ _).trans ?_
  | refine (fold_fst_fr _ (fun _ _ => ?_) _ _).trans ?_
  | refine pair_fr (by assumption) ?_
  | exact rfl

theorem State.eraseSas_fr (s : State) (e : Nat) : (State.eraseSas s e).fr = s.fr := by
  unfold State.eraseSas
  repeat' first
  | with_reducible rfl
  | simp only [↓fr_mk, ↓fr_mk_clock, ↓fr_mk_sec, ↓foldl_fr, ↓ite_fr, ↓State.putSa_fr, ite_self, implies_true]
  | split
  | refine (foldl_fr _ (fun _ _ => ?_) _ _).trans ?_
  | refine (fold_fst_fr _ (fun _ _ => ?_) _ _).trans ?_
  | refine pair_fr (by assumption) ?_
  | exact rfl

theorem State.alarm_fr (s : State) (e : Nat) : (State.alarm s e).fr = s.fr := by
  unfold State.alarm
  simp only [↓fr_mk, ↓fr_mk_clock, ↓fr_mk_sec, ↓foldl_fr, ↓ite_fr, ↓State.modCengine_fr, ↓State.note_fr, ↓State.keyLost_fr, ↓State.laFlush_fr, ↓State.eraseSas_fr, ite_self, implies_true]

theorem State.checkTamper_fr (s : State) (e : Nat) : (State.checkTamper s e).fr = s.fr := by
  unfold State.checkTamper
  simp only [↓fr_mk, ↓fr_mk_clock, ↓fr_mk_sec, ↓foldl_fr, ↓ite_fr, ↓State.alarm_fr, ite_self, implies_true]

theorem State.discardFor_fr (s : State) (e : Nat) (obj : Option Nat) : (State.discardFor s e obj).fr = s.fr := by
  unfold State.discardFor
  repeat' first
  | with_reducible rfl
  | simp only [↓fr_mk, ↓fr_mk_clock, ↓fr_mk_sec, ↓foldl_fr, ↓ite_fr, ↓State.putCopy_fr, ↓State.modPktD_fr, ↓State.dropCopy_fr, ↓State.laAnswer_fr, ↓State.laSchedule_fr, ite_self, implies_true]
  | split
  | refine (foldl_fr _ (fun _ _ => ?_) _ _).trans ?_
  | refine (fold_fst_fr _ (fun _ _ => ?_) _ _).trans ?_
  | refine pair_fr (by assumption) ?_
  | exact rfl

theorem State.countMismatch_fr (s : State) (e n : Nat) : (State.countMismatch s e n).fr = s.fr := by
  unfold State.countMismatch
  simp only [↓fr_mk, ↓fr_mk_clock, ↓fr_mk_sec, ↓foldl_fr, ↓ite_fr, ↓State.modCengine_fr, ↓State.bumpBy_fr, ite_self, implies_true]

theorem execCipherBlockMismatch_fr (engine : Nat) (agree : Bool) (obj : Option Nat) (s : State) : outFr (execCipherBlockMismatch engine agree obj s) s = s.fr := by
  unfold execCipherBlockMismatch
  simp only [↓outFr_next, ↓outFr_fault, ↓outFr_onUnit, ↓outFr_ite, ↓fr_mk, ↓fr_mk_clock, ↓fr_mk_sec, ↓foldl_fr, ↓ite_fr, ↓ite_fst, ↓fold_fst_fr, ↓onUnit_fr, ↓State.note_fr, ↓State.raise_fr, ↓State.checkTamper_fr, ↓State.discardFor_fr, ↓State.countMismatch_fr, ite_self, implies_true]

theorem State.unwrapMsg_fr (s : State) (wrap : Option Nat) : (State.unwrapMsg s wrap).fr = s.fr := by
  unfold State.unwrapMsg
  repeat' first
  | with_reducible rfl
  | simp only [↓fr_mk, ↓fr_mk_clock, ↓fr_mk_sec, ↓foldl_fr, ↓ite_fr, ↓State.laRequest_fr, ite_self, implies_true]
  | split
  | refine (foldl_fr _ (fun _ _ => ?_) _ _).trans ?_
  | refine (fold_fst_fr _ (fun _ _ => ?_) _ _).trans ?_
  | refine pair_fr (by assumption) ?_
  | exact rfl

theorem State.loadBootKeys_fr (s : State) : (State.loadBootKeys s).fr = s.fr := by
  unfold State.loadBootKeys
  repeat' first
  | with_reducible rfl
  | simp only [↓fr_mk, ↓fr_mk_clock, ↓fr_mk_sec, ↓foldl_fr, ↓ite_fr, ↓State.putLaCtx_fr, ite_self, implies_true]
  | split
  | refine (foldl_fr _ (fun _ _ => ?_) _ _).trans ?_
  | refine (fold_fst_fr _ (fun _ _ => ?_) _ _).trans ?_
  | refine pair_fr (by assumption) ?_
  | exact rfl

theorem execHostWdExpiry_fr (domain : Nat) (s : State) : outFr (execHostWdExpiry domain s) s = s.fr := by
  unfold execHostWdExpiry
  simp only [↓outFr_next, ↓outFr_fault, ↓outFr_onUnit, ↓outFr_ite, ↓fr_mk, ↓fr_mk_clock, ↓fr_mk_sec, ↓foldl_fr, ↓ite_fr, ↓ite_fst, ↓fold_fst_fr, ↓State.modDomain_fr, ↓onUnit_fr, ite_self, implies_true]

theorem State.settleWd_fr (s : State) (n : Nat) : (State.settleWd s n).fr = s.fr := by
  unfold State.settleWd
  simp only [↓fr_mk, ↓fr_mk_clock, ↓fr_mk_sec, ↓foldl_fr, ↓ite_fr, ↓State.modDomain_fr, ↓State.enterHoldover_fr, ite_self, implies_true]

theorem execHoldMaxExpiry_fr (domain : Nat) (s : State) : outFr (execHoldMaxExpiry domain s) s = s.fr := by
  unfold execHoldMaxExpiry
  simp only [↓outFr_next, ↓outFr_fault, ↓outFr_onUnit, ↓outFr_ite, ↓fr_mk, ↓fr_mk_clock, ↓fr_mk_sec, ↓foldl_fr, ↓ite_fr, ↓ite_fst, ↓fold_fst_fr, ↓State.putDomain_fr, ↓onUnit_fr, ↓State.note_fr, ite_self, implies_true]

theorem execPpsOutEdge_fr (pin : Nat) (s : State) : outFr (execPpsOutEdge pin s) s = s.fr := by
  unfold execPpsOutEdge
  simp only [↓outFr_next, ↓outFr_fault, ↓outFr_onUnit, ↓outFr_ite, ↓fr_mk, ↓fr_mk_clock, ↓fr_mk_sec, ↓foldl_fr, ↓ite_fr, ↓ite_fst, ↓fold_fst_fr, ↓State.putPps_fr, ↓onUnit_fr, ite_self, implies_true]

theorem execPpsOutEdgeEnd_fr (pin : Nat) (s : State) : outFr (execPpsOutEdgeEnd pin s) s = s.fr := by
  unfold execPpsOutEdgeEnd
  simp only [↓outFr_next, ↓outFr_fault, ↓outFr_onUnit, ↓outFr_ite, ↓fr_mk, ↓fr_mk_clock, ↓fr_mk_sec, ↓foldl_fr, ↓ite_fr, ↓ite_fst, ↓fold_fst_fr, ↓State.putPps_fr, ↓onUnit_fr, ite_self, implies_true]

theorem State.setsAtPps_fr (s : State) (pin : Nat) : (State.setsAtPps s pin).fr = s.fr := by
  unfold State.setsAtPps
  repeat' first
  | with_reducible rfl
  | simp only [↓fr_mk, ↓fr_mk_clock, ↓fr_mk_sec, ↓foldl_fr, ↓ite_fr, ↓State.modDomain_fr, ↓State.stepTo_fr, ite_self, implies_true]
  | split
  | refine (foldl_fr _ (fun _ _ => ?_) _ _).trans ?_
  | refine (fold_fst_fr _ (fun _ _ => ?_) _ _).trans ?_
  | refine pair_fr (by assumption) ?_
  | exact rfl

theorem State.queuePps_fr (s : State) (pin : Nat) : (State.queuePps s pin).fr = s.fr := by
  unfold State.queuePps
  simp only [↓fr_mk, ↓fr_mk_clock, ↓fr_mk_sec, ↓foldl_fr, ↓ite_fr, ↓State.putPps_fr, ↓State.bump_fr, ite_self, implies_true]

theorem execPpsInEdge_fr (pin widthNs : Nat) (s : State) : outFr (execPpsInEdge pin widthNs s) s = s.fr := by
  unfold execPpsInEdge
  simp only [↓outFr_next, ↓outFr_fault, ↓outFr_onUnit, ↓outFr_ite, ↓fr_mk, ↓fr_mk_clock, ↓fr_mk_sec, ↓foldl_fr, ↓ite_fr, ↓ite_fst, ↓fold_fst_fr, ↓State.modPps_fr, ↓State.bump_fr, ↓onUnit_fr, ↓State.setsAtPps_fr, ↓State.queuePps_fr, ite_self, implies_true]

theorem execPpsInLost_fr (pin : Nat) (s : State) : outFr (execPpsInLost pin s) s = s.fr := by
  unfold execPpsInLost
  repeat' first
  | with_reducible rfl
  | simp only [↓outFr_next, ↓outFr_fault, ↓outFr_onUnit, ↓outFr_ite, ↓fr_mk, ↓fr_mk_clock, ↓fr_mk_sec, ↓foldl_fr, ↓ite_fr, ↓ite_fst, ↓fold_fst_fr, ↓State.putPps_fr, ↓onUnit_fr, ↓State.due_fr, ↓State.note_fr, ite_self, implies_true]
  | split
  | refine (foldl_fr _ (fun _ _ => ?_) _ _).trans ?_
  | refine (fold_fst_fr _ (fun _ _ => ?_) _ _).trans ?_
  | refine pair_fr (by assumption) ?_
  | exact rfl

theorem execRef10mGateEnd_fr (offset : BitVec 32) (s : State) : outFr (execRef10mGateEnd offset s) s = s.fr := by
  unfold execRef10mGateEnd
  simp only [↓outFr_next, ↓outFr_fault, ↓outFr_onUnit, ↓outFr_ite, ↓fr_mk, ↓fr_mk_clock, ↓fr_mk_sec, ↓foldl_fr, ↓ite_fr, ↓ite_fst, ↓fold_fst_fr, ite_self, implies_true]

theorem execRef10mLost_fr (s : State) : outFr (execRef10mLost s) s = s.fr := by
  unfold execRef10mLost
  simp only [↓outFr_next, ↓outFr_fault, ↓outFr_onUnit, ↓outFr_ite, ↓fr_mk, ↓fr_mk_clock, ↓fr_mk_sec, ↓foldl_fr, ↓ite_fr, ↓ite_fst, ↓fold_fst_fr, ↓State.note_fr, ite_self, implies_true]

theorem State.capture_fr (s : State) (c : Clock) : (State.capture s c).fr = s.fr := by
  unfold State.capture
  simp only [↓fr_mk, ↓fr_mk_clock, ↓fr_mk_sec, ↓foldl_fr, ↓ite_fr, ite_self, implies_true]

theorem execSnapTrigger_fr (value : BitVec 32) (s : State) : outFr (execSnapTrigger value s) s = s.fr := by
  unfold execSnapTrigger
  simp only [↓outFr_next, ↓outFr_fault, ↓outFr_onUnit, ↓outFr_ite, ↓fr_mk, ↓fr_mk_clock, ↓fr_mk_sec, ↓foldl_fr, ↓ite_fr, ↓ite_fst, ↓fold_fst_fr, ↓State.capture_fr, ite_self, implies_true]

theorem execTimeSnapshotCapture_fr (byWrite byPps : Bool) (s : State) : outFr (execTimeSnapshotCapture byWrite byPps s) s = s.fr := by
  unfold execTimeSnapshotCapture
  repeat' first
  | with_reducible rfl
  | simp only [↓outFr_next, ↓outFr_fault, ↓outFr_onUnit, ↓outFr_ite, ↓fr_mk, ↓fr_mk_clock, ↓fr_mk_sec, ↓foldl_fr, ↓ite_fr, ↓ite_fst, ↓fold_fst_fr, ite_self, implies_true]
  | split
  | refine (foldl_fr _ (fun _ _ => ?_) _ _).trans ?_
  | refine (fold_fst_fr _ (fun _ _ => ?_) _ _).trans ?_
  | refine pair_fr (by assumption) ?_
  | exact rfl

theorem State.landStep_fr (s : State) (domain : Nat) (e : Hdr × Int) : (State.landStep s domain e).fr = s.fr := by
  unfold State.landStep
  simp only [↓fr_mk, ↓fr_mk_clock, ↓fr_mk_sec, ↓foldl_fr, ↓ite_fr, ↓State.modDomain_fr, ↓State.stepTo_fr, ↓State.reply_fr, ↓State.refuseHeld_fr, ite_self, implies_true]

theorem State.advanceDomain_fr (s : State) (k i : Nat) : (State.advanceDomain s k i).fr = s.fr := by
  unfold State.advanceDomain
  repeat' first
  | with_reducible rfl
  | simp only [↓fr_mk, ↓fr_mk_clock, ↓fr_mk_sec, ↓foldl_fr, ↓ite_fr, ↓State.putDomain_fr, ↓State.modDomain_fr, ↓State.ppsBack_fr, ↓State.settleWd_fr, ↓State.landStep_fr, ite_self, implies_true]
  | split
  | refine (foldl_fr _ (fun _ _ => ?_) _ _).trans ?_
  | refine (fold_fst_fr _ (fun _ _ => ?_) _ _).trans ?_
  | refine pair_fr (by assumption) ?_
  | exact rfl

theorem State.advanceTime_fr (s : State) (n : Nat) : (State.advanceTime s n).fr = s.fr := by
  unfold State.advanceTime
  repeat' first
  | with_reducible rfl
  | simp only [↓fr_mk, ↓fr_mk_clock, ↓fr_mk_sec, ↓foldl_fr, ↓ite_fr, ↓State.capture_fr, ↓State.advanceDomain_fr, ite_self, implies_true]
  | split
  | refine (foldl_fr _ (fun _ _ => ?_) _ _).trans ?_
  | refine (fold_fst_fr _ (fun _ _ => ?_) _ _).trans ?_
  | refine pair_fr (by assumption) ?_
  | exact rfl

theorem State.applyTimePort_fr (s : State) (p : Nat) (record fields : BitVec 64) : (State.applyTimePort s p record fields).fr = s.fr := by
  unfold State.applyTimePort
  simp only [↓fr_mk, ↓fr_mk_clock, ↓fr_mk_sec, ↓foldl_fr, ↓ite_fr, ↓State.modTimePort_fr, ↓State.record_fr, ite_self, implies_true]

theorem State.lateFrame_fr (s : State) (cid : Nat) (c : Copy) : (State.lateFrame s cid c).fr = s.fr := by
  unfold State.lateFrame
  simp only [↓fr_mk, ↓fr_mk_clock, ↓fr_mk_sec, ↓foldl_fr, ↓ite_fr, ↓State.putCopy_fr, ↓State.bump_fr, ↓State.noteOnce_fr, ↓State.dropCopy_fr, ↓State.launch_fr, ite_self, implies_true]

theorem State.reportTrigger_fr (s : State) (c : Copy) (p : Pkt) : (State.reportTrigger s c p).fr = s.fr := by
  unfold State.reportTrigger
  repeat' first
  | with_reducible rfl
  | simp only [↓fr_mk, ↓fr_mk_clock, ↓fr_mk_sec, ↓foldl_fr, ↓ite_fr, ↓State.putEqueue_fr, ↓State.bump_fr, ↓State.confirm_fr, ite_self, implies_true]
  | split
  | refine (foldl_fr _ (fun _ _ => ?_) _ _).trans ?_
  | refine (fold_fst_fr _ (fun _ _ => ?_) _ _).trans ?_
  | refine pair_fr (by assumption) ?_
  | exact rfl

theorem State.takeSeq_fr (s : State) (q n : Nat) : (State.takeSeq s q n).fr = s.fr := by
  unfold State.takeSeq
  simp only [↓fr_mk, ↓fr_mk_clock, ↓fr_mk_sec, ↓foldl_fr, ↓ite_fr, ↓State.modSlice_fr, ite_self, implies_true]

theorem State.releaseSurplus_fr (s : State) (cid : Nat) (c : Copy) (p : Pkt) : (State.releaseSurplus s cid c p).fr = s.fr := by
  unfold State.releaseSurplus
  simp only [↓fr_mk, ↓fr_mk_clock, ↓fr_mk_sec, ↓foldl_fr, ↓ite_fr, ↓State.releaseCells_fr, ite_self, implies_true]

theorem State.storePlan_fr (s : State) (port len : Nat) (start : Option Nat) : (State.storePlan s port len start).fr = s.fr := by
  unfold State.storePlan
  repeat' first
  | with_reducible rfl
  | simp only [↓fr_mk, ↓fr_mk_clock, ↓fr_mk_sec, ↓foldl_fr, ↓ite_fr, ↓State.modEport_fr, ite_self, implies_true]
  | split
  | refine (foldl_fr _ (fun _ _ => ?_) _ _).trans ?_
  | refine (fold_fst_fr _ (fun _ _ => ?_) _ _).trans ?_
  | refine pair_fr (by assumption) ?_
  | exact rfl

theorem State.handOver_fr (s : State) (port q cid : Nat) (c : Copy) (p : Pkt) (lt start : Option Nat) : (State.handOver s port q cid c p lt start).fr = s.fr := by
  unfold State.handOver
  simp only [↓fr_mk, ↓fr_mk_clock, ↓fr_mk_sec, ↓foldl_fr, ↓ite_fr, ↓State.putCopy_fr, ↓State.putQList_fr, ↓State.putOpenList_fr, ↓State.bump_fr, ↓State.moveShapers_fr, ↓State.launch_fr, ↓State.reportTrigger_fr, ↓State.takeSeq_fr, ↓State.releaseSurplus_fr, ↓State.storePlan_fr, ite_self, implies_true]

theorem State.dropNoFit_fr (s : State) (port cid : Nat) (c : Copy) : (State.dropNoFit s port cid c).fr = s.fr := by
  unfold State.dropNoFit
  simp only [↓fr_mk, ↓fr_mk_clock, ↓fr_mk_sec, ↓foldl_fr, ↓ite_fr, ↓State.bump_fr, ↓State.noteOnce_fr, ↓State.dropCopy_fr, ite_self, implies_true]

theorem State.select_fr (s : State) (port : Nat) (qs : List Nat) : (State.select s port qs).fr = s.fr := by
  induction qs generalizing s with
  | nil => rfl
  | cons q rest ih =>
    unfold State.select
    repeat' first
    | with_reducible rfl
    | simp only [↓fr_mk, ↓fr_mk_clock, ↓fr_mk_sec, ↓foldl_fr, ↓ite_fr, ↓State.launch_fr, ↓State.lateFrame_fr, ↓State.handOver_fr, ↓State.dropNoFit_fr, ih, ite_self, implies_true]
    | split
    | refine (foldl_fr _ (fun _ _ => ?_) _ _).trans ?_
    | refine pair_fr (by assumption) ?_

theorem execHandOver_fr (port : Nat) (s : State) : outFr (execHandOver port s) s = s.fr := by
  unfold execHandOver
  simp only [↓outFr_next, ↓outFr_fault, ↓outFr_onUnit, ↓outFr_ite, ↓fr_mk, ↓fr_mk_clock, ↓fr_mk_sec, ↓foldl_fr, ↓ite_fr, ↓ite_fst, ↓fold_fst_fr, ↓State.modEport_fr, ↓onUnit_fr, ↓State.select_fr, ite_self, implies_true]

theorem State.refillShapers_fr (s : State) : (State.refillShapers s).fr = s.fr := by
  unfold State.refillShapers
  repeat' first
  | with_reducible rfl
  | simp only [↓fr_mk, ↓fr_mk_clock, ↓fr_mk_sec, ↓foldl_fr, ↓ite_fr, ↓ite_fst, ↓fold_fst_fr, ↓State.refill_fr, ite_self, implies_true]
  | split
  | refine (foldl_fr _ (fun _ _ => ?_) _ _).trans ?_
  | refine (fold_fst_fr _ (fun _ _ => ?_) _ _).trans ?_
  | refine pair_fr (by assumption) ?_
  | exact rfl

theorem execShaperRefill_fr (s : State) : outFr (execShaperRefill s) s = s.fr := by
  unfold execShaperRefill
  simp only [↓outFr_next, ↓outFr_fault, ↓outFr_onUnit, ↓outFr_ite, ↓fr_mk, ↓fr_mk_clock, ↓fr_mk_sec, ↓foldl_fr, ↓ite_fr, ↓ite_fst, ↓fold_fst_fr, ↓State.refillShapers_fr, ite_self, implies_true]

theorem State.applyShaper_fr (s : State) (isPort : Bool) (i : Nat) (record : BitVec 64) : (State.applyShaper s isPort i record).fr = s.fr := by
  unfold State.applyShaper
  simp only [↓fr_mk, ↓fr_mk_clock, ↓fr_mk_sec, ↓foldl_fr, ↓ite_fr, ↓State.modEqueue_fr, ↓State.modEport_fr, ↓State.record_fr, ↓State.refillShapers_fr, ite_self, implies_true]

theorem State.watchQueue_fr (s : State) (q : Nat) : (State.watchQueue s q).fr = s.fr := by
  unfold State.watchQueue
  simp only [↓fr_mk, ↓fr_mk_clock, ↓fr_mk_sec, ↓foldl_fr, ↓ite_fr, ↓State.putEqueue_fr, ite_self, implies_true]

theorem State.drainQueue_fr (s : State) (port q : Nat) : (State.drainQueue s port q).fr = s.fr := by
  unfold State.drainQueue
  repeat' first
  | with_reducible rfl
  | simp only [↓fr_mk, ↓fr_mk_clock, ↓fr_mk_sec, ↓foldl_fr, ↓ite_fr, ↓State.bump_fr, ↓State.dropCopy_fr, ite_self, implies_true]
  | split
  | refine (foldl_fr _ (fun _ _ => ?_) _ _).trans ?_
  | refine (fold_fst_fr _ (fun _ _ => ?_) _ _).trans ?_
  | refine pair_fr (by assumption) ?_
  | exact rfl

theorem execPfcWatchdog_fr (queue : Nat) (s : State) : outFr (execPfcWatchdog queue s) s = s.fr := by
  unfold execPfcWatchdog
  repeat' first
  | with_reducible rfl
  | simp only [↓outFr_next, ↓outFr_fault, ↓outFr_onUnit, ↓outFr_ite, ↓fr_mk, ↓fr_mk_clock, ↓fr_mk_sec, ↓foldl_fr, ↓ite_fr, ↓ite_fst, ↓fold_fst_fr, ↓State.modEqueue_fr, ↓State.bump_fr, ↓onUnit_fr, ↓State.note_fr, ↓State.drainQueue_fr, ite_self, implies_true]
  | split
  | refine (foldl_fr _ (fun _ _ => ?_) _ _).trans ?_
  | refine (fold_fst_fr _ (fun _ _ => ?_) _ _).trans ?_
  | refine pair_fr (by assumption) ?_
  | exact rfl

theorem execPfcWdRestored_fr (queue : Nat) (s : State) : outFr (execPfcWdRestored queue s) s = s.fr := by
  unfold execPfcWdRestored
  repeat' first
  | with_reducible rfl
  | simp only [↓outFr_next, ↓outFr_fault, ↓outFr_onUnit, ↓outFr_ite, ↓fr_mk, ↓fr_mk_clock, ↓fr_mk_sec, ↓foldl_fr, ↓ite_fr, ↓ite_fst, ↓fold_fst_fr, ↓State.modEqueue_fr, ↓onUnit_fr, ↓State.note_fr, ite_self, implies_true]
  | split
  | refine (foldl_fr _ (fun _ _ => ?_) _ _).trans ?_
  | refine (fold_fst_fr _ (fun _ _ => ?_) _ _).trans ?_
  | refine pair_fr (by assumption) ?_
  | exact rfl

theorem State.replan_fr (s : State) (port x : Nat) : (State.replan s port x).fr = s.fr := by
  unfold State.replan
  repeat' first
  | with_reducible rfl
  | simp only [↓fr_mk, ↓fr_mk_clock, ↓fr_mk_sec, ↓foldl_fr, ↓ite_fr, ↓State.modEport_fr, ↓State.modCopyD_fr, ite_self, implies_true]
  | split
  | refine (foldl_fr _ (fun _ _ => ?_) _ _).trans ?_
  | refine (fold_fst_fr _ (fun _ _ => ?_) _ _).trans ?_
  | refine pair_fr (by assumption) ?_
  | exact rfl

theorem execLinkUpDebounceExpiry_fr (port : Nat) (s : State) : outFr (execLinkUpDebounceExpiry port s) s = s.fr := by
  unfold execLinkUpDebounceExpiry
  repeat' first
  | with_reducible rfl
  | simp only [↓outFr_next, ↓outFr_fault, ↓outFr_onUnit, ↓outFr_ite, ↓fr_mk, ↓fr_mk_clock, ↓fr_mk_sec, ↓foldl_fr, ↓ite_fr, ↓ite_fst, ↓fold_fst_fr, ↓State.modPort_fr, ↓State.modEport_fr, ↓onUnit_fr, ↓State.note_fr, ↓State.replan_fr, ite_self, implies_true]
  | split
  | refine (foldl_fr _ (fun _ _ => ?_) _ _).trans ?_
  | refine (fold_fst_fr _ (fun _ _ => ?_) _ _).trans ?_
  | refine pair_fr (by assumption) ?_
  | exact rfl

theorem execPortDownPolicy_fr (port : Nat) (s : State) : outFr (execPortDownPolicy port s) s = s.fr := by
  unfold execPortDownPolicy
  simp only [↓outFr_next, ↓outFr_fault, ↓outFr_onUnit, ↓outFr_ite, ↓fr_mk, ↓fr_mk_clock, ↓fr_mk_sec, ↓foldl_fr, ↓ite_fr, ↓ite_fst, ↓fold_fst_fr, ↓State.modEport_fr, ↓onUnit_fr, ↓State.hold_fr, ↓State.flushPort_fr, ite_self, implies_true]

theorem execPortHoldExpired_fr (port : Nat) (s : State) : outFr (execPortHoldExpired port s) s = s.fr := by
  unfold execPortHoldExpired
  repeat' first
  | with_reducible rfl
  | simp only [↓outFr_next, ↓outFr_fault, ↓outFr_onUnit, ↓outFr_ite, ↓fr_mk, ↓fr_mk_clock, ↓fr_mk_sec, ↓foldl_fr, ↓ite_fr, ↓ite_fst, ↓fold_fst_fr, ↓State.modEport_fr, ↓onUnit_fr, ↓State.note_fr, ↓State.flushQueue_fr, ite_self, implies_true]
  | split
  | refine (foldl_fr _ (fun _ _ => ?_) _ _).trans ?_
  | refine (fold_fst_fr _ (fun _ _ => ?_) _ _).trans ?_
  | refine pair_fr (by assumption) ?_
  | exact rfl

theorem State.countCycle_fr (s : State) (port : Nat) (l : GateList) (x : Nat) : (State.countCycle s port l x).fr = s.fr := by
  unfold State.countCycle
  repeat' first
  | with_reducible rfl
  | simp only [↓fr_mk, ↓fr_mk_clock, ↓fr_mk_sec, ↓foldl_fr, ↓ite_fr, ↓State.modCopyD_fr, ite_self, implies_true]
  | split
  | refine (foldl_fr _ (fun _ _ => ?_) _ _).trans ?_
  | refine (fold_fst_fr _ (fun _ _ => ?_) _ _).trans ?_
  | refine pair_fr (by assumption) ?_
  | exact rfl

theorem State.transit_fr (s : State) (port fuel now : Nat) : (State.transit s port fuel now).fr = s.fr := by
  induction fuel generalizing s with
  | zero => rfl
  | succ k ih =>
    unfold State.transit
    repeat' first
    | with_reducible rfl
    | simp only [↓fr_mk, ↓fr_mk_clock, ↓fr_mk_sec, ↓foldl_fr, ↓ite_fr, ↓State.putEport_fr, ↓State.countCycle_fr, ih, ite_self, implies_true]
    | split
    | refine (foldl_fr _ (fun _ _ => ?_) _ _).trans ?_
    | refine pair_fr (by assumption) ?_

theorem State.applyTransitions_fr (s : State) (port : Nat) : (State.applyTransitions s port).fr = s.fr := by
  unfold State.applyTransitions
  repeat' first
  | with_reducible rfl
  | simp only [↓fr_mk, ↓fr_mk_clock, ↓fr_mk_sec, ↓foldl_fr, ↓ite_fr, ↓State.putEport_fr, ↓State.transit_fr, ite_self, implies_true]
  | split
  | refine (foldl_fr _ (fun _ _ => ?_) _ _).trans ?_
  | refine (fold_fst_fr _ (fun _ _ => ?_) _ _).trans ?_
  | refine pair_fr (by assumption) ?_
  | exact rfl

theorem execGateTransition_fr (port : Nat) (s : State) : outFr (execGateTransition port s) s = s.fr := by
  unfold execGateTransition
  simp only [↓outFr_next, ↓outFr_fault, ↓outFr_onUnit, ↓outFr_ite, ↓fr_mk, ↓fr_mk_clock, ↓fr_mk_sec, ↓foldl_fr, ↓ite_fr, ↓ite_fst, ↓fold_fst_fr, ↓onUnit_fr, ↓State.applyTransitions_fr, ite_self, implies_true]

theorem State.takeover_fr (s : State) (port : Nat) : (State.takeover s port).fr = s.fr := by
  unfold State.takeover
  repeat' first
  | with_reducible rfl
  | simp only [↓fr_mk, ↓fr_mk_clock, ↓fr_mk_sec, ↓foldl_fr, ↓ite_fr, ↓State.putEport_fr, ↓State.bump_fr, ↓State.note_fr, ↓State.modCopyD_fr, ↓State.countCycle_fr, ite_self, implies_true]
  | split
  | refine (foldl_fr _ (fun _ _ => ?_) _ _).trans ?_
  | refine (fold_fst_fr _ (fun _ _ => ?_) _ _).trans ?_
  | refine pair_fr (by assumption) ?_
  | exact rfl

theorem execGateTakeover_fr (port : Nat) (s : State) : outFr (execGateTakeover port s) s = s.fr := by
  unfold execGateTakeover
  simp only [↓outFr_next, ↓outFr_fault, ↓outFr_onUnit, ↓outFr_ite, ↓fr_mk, ↓fr_mk_clock, ↓fr_mk_sec, ↓foldl_fr, ↓ite_fr, ↓ite_fst, ↓fold_fst_fr, ↓onUnit_fr, ↓State.takeover_fr, ite_self, implies_true]

theorem State.guardBack_fr (s : State) (port : Nat) : (State.guardBack s port).fr = s.fr := by
  unfold State.guardBack
  simp only [↓fr_mk, ↓fr_mk_clock, ↓fr_mk_sec, ↓foldl_fr, ↓ite_fr, ↓State.modEport_fr, ↓State.bump_fr, ↓State.note_fr, ite_self, implies_true]

theorem State.eventAtPort_fr (s : State) (domain : Nat) (step : Bool) (port : Nat) : (State.eventAtPort s domain step port).fr = s.fr := by
  unfold State.eventAtPort
  simp only [↓fr_mk, ↓fr_mk_clock, ↓fr_mk_sec, ↓foldl_fr, ↓ite_fr, ↓State.replan_fr, ↓State.applyTransitions_fr, ↓State.takeover_fr, ↓State.guardBack_fr, ite_self, implies_true]

theorem execTimeEventReach_fr (domain : Nat) (s : State) : outFr (execTimeEventReach domain s) s = s.fr := by
  unfold execTimeEventReach
  repeat' first
  | with_reducible rfl
  | simp only [↓outFr_next, ↓outFr_fault, ↓outFr_onUnit, ↓outFr_ite, ↓fr_mk, ↓fr_mk_clock, ↓fr_mk_sec, ↓foldl_fr, ↓ite_fr, ↓ite_fst, ↓fold_fst_fr, ↓State.putDomain_fr, ↓onUnit_fr, ↓State.eventAtPort_fr, ite_self, implies_true]
  | split
  | refine (foldl_fr _ (fun _ _ => ?_) _ _).trans ?_
  | refine (fold_fst_fr _ (fun _ _ => ?_) _ _).trans ?_
  | refine pair_fr (by assumption) ?_
  | exact rfl

theorem State.applyGateList_fr (s : State) (port : Nat) (l : GateList) : (State.applyGateList s port l).fr = s.fr := by
  unfold State.applyGateList
  simp only [↓fr_mk, ↓fr_mk_clock, ↓fr_mk_sec, ↓foldl_fr, ↓ite_fr, ↓State.modEport_fr, ↓State.note_fr, ↓State.takeover_fr, ite_self, implies_true]

theorem State.applyGateClear_fr (s : State) (port : Nat) : (State.applyGateClear s port).fr = s.fr := by
  unfold State.applyGateClear
  simp only [↓fr_mk, ↓fr_mk_clock, ↓fr_mk_sec, ↓foldl_fr, ↓ite_fr, ↓State.modEport_fr, ite_self, implies_true]

theorem State.applyQueueMode_fr (s : State) (o : Nat) (q16 : Bool) : (State.applyQueueMode s o q16).fr = s.fr := by
  unfold State.applyQueueMode
  repeat' first
  | with_reducible rfl
  | simp only [↓fr_mk, ↓fr_mk_clock, ↓fr_mk_sec, ↓foldl_fr, ↓ite_fr, ↓State.modOctet_fr, ↓State.resetQueues_fr, ite_self, implies_true]
  | split
  | refine (foldl_fr _ (fun _ _ => ?_) _ _).trans ?_
  | refine (fold_fst_fr _ (fun _ _ => ?_) _ _).trans ?_
  | refine pair_fr (by assumption) ?_
  | exact rfl

theorem State.applyQueueSched_fr (s : State) (q : Nat) (record fields : BitVec 64) : (State.applyQueueSched s q record fields).fr = s.fr := by
  unfold State.applyQueueSched
  simp only [↓fr_mk, ↓fr_mk_clock, ↓fr_mk_sec, ↓foldl_fr, ↓ite_fr, ↓State.modEqueue_fr, ↓State.record_fr, ite_self, implies_true]

theorem State.applyPortSched_fr (s : State) (p : Nat) (record fields : BitVec 64) : (State.applyPortSched s p record fields).fr = s.fr := by
  unfold State.applyPortSched
  simp only [↓fr_mk, ↓fr_mk_clock, ↓fr_mk_sec, ↓foldl_fr, ↓ite_fr, ↓State.modEport_fr, ↓State.record_fr, ite_self, implies_true]

theorem State.applyTcMap_fr (s : State) (p : Nat) (map : BitVec 32) : (State.applyTcMap s p map).fr = s.fr := by
  unfold State.applyTcMap
  simp only [↓fr_mk, ↓fr_mk_clock, ↓fr_mk_sec, ↓foldl_fr, ↓ite_fr, ↓State.modEport_fr, ite_self, implies_true]

theorem State.ioamWrite_fr (s : State) (c : Copy) (p : Pkt) (e : Editing) (off : Nat) : (State.ioamWrite s c p e off).1.fr = s.fr := by
  unfold State.ioamWrite
  repeat' first
  | with_reducible rfl
  | simp only [↓fr_mk, ↓fr_mk_clock, ↓fr_mk_sec, ↓foldl_fr, ↓ite_fr, ↓ite_fst, ↓fold_fst_fr, ↓State.bump_fr, ite_self, implies_true]
  | split
  | refine (foldl_fr _ (fun _ _ => ?_) _ _).trans ?_
  | refine (fold_fst_fr _ (fun _ _ => ?_) _ _).trans ?_
  | refine pair_fr (by assumption) ?_
  | exact rfl

theorem State.ioamTrace_fr (s : State) (c : Copy) (p : Pkt) (e : Editing) : (State.ioamTrace s c p e).1.fr = s.fr := by
  unfold State.ioamTrace
  repeat' first
  | with_reducible rfl
  | simp only [↓fr_mk, ↓fr_mk_clock, ↓fr_mk_sec, ↓foldl_fr, ↓ite_fr, ↓ite_fst, ↓fold_fst_fr, ↓State.ioamWrite_fr, ite_self, implies_true]
  | split
  | refine (foldl_fr _ (fun _ _ => ?_) _ _).trans ?_
  | refine (fold_fst_fr _ (fun _ _ => ?_) _ _).trans ?_
  | refine pair_fr (by assumption) ?_
  | exact rfl

theorem State.makeEgress_fr (s : State) (c : Copy) (p : Pkt) (pipe : Nat) (e : Editing) (t : Target) (ctr : Ctr) : (State.makeEgress s c p pipe e t ctr).fr = s.fr := by
  unfold State.makeEgress
  simp only [↓fr_mk, ↓fr_mk_clock, ↓fr_mk_sec, ↓foldl_fr, ↓ite_fr, ↓ite_fst, ↓fold_fst_fr, ↓State.bump_fr, ↓State.modPktD_fr, ↓State.admitAll_fr, ↓State.addPkt_fr, ↓State.queueCells_fr, ite_self, implies_true]

theorem State.egressCopies_fr (s : State) (c : Copy) (p : Pkt) (pipe : Nat) (act : Option (BitVec 128)) (e : Editing) : (State.egressCopies s c p pipe act e).fr = s.fr := by
  unfold State.egressCopies
  repeat' first
  | with_reducible rfl
  | simp only [↓fr_mk, ↓fr_mk_clock, ↓fr_mk_sec, ↓foldl_fr, ↓ite_fr, ↓ite_fst, ↓fold_fst_fr, ↓State.mirrorTarget_fr, ↓State.makeEgress_fr, ite_self, implies_true]
  | split
  | refine (foldl_fr _ (fun _ _ => ?_) _ _).trans ?_
  | refine (fold_fst_fr _ (fun _ _ => ?_) _ _).trans ?_
  | refine pair_fr (by assumption) ?_
  | exact rfl

theorem State.consumePoison_fr (s : State) (port : Nat) (p : Pkt) (i : Nat) : (State.consumePoison s port p i).fr = s.fr := by
  unfold State.consumePoison
  simp only [↓State.consumed_fr, ↓fr_mk, ↓fr_mk_clock, ↓fr_mk_sec, ↓foldl_fr, ↓ite_fr, ↓State.bump_fr, ↓State.raise_fr, ite_self, implies_true]

theorem State.editDrop_fr (s : State) (cid : Nat) : (State.editDrop s cid).fr = s.fr := by
  unfold State.editDrop
  simp only [↓fr_mk, ↓fr_mk_clock, ↓fr_mk_sec, ↓foldl_fr, ↓ite_fr, ↓State.dropCopy_fr, ite_self, implies_true]

theorem State.egressUpdate_fr (s : State) (c : Copy) (p : Pkt) (pipe pair len : Nat) : (State.egressUpdate s c p pipe pair len).fr = s.fr := by
  unfold State.egressUpdate
  simp only [↓fr_mk, ↓fr_mk_clock, ↓fr_mk_sec, ↓foldl_fr, ↓ite_fr, ↓State.modPktD_fr, ↓State.issueCount_fr, ite_self, implies_true]

theorem State.egressCount_fr (s : State) (c : Copy) (p : Pkt) (pipe : Nat) (act : Option (BitVec 128)) (len : Nat) : (State.egressCount s c p pipe act len).fr = s.fr := by
  unfold State.egressCount
  repeat' first
  | with_reducible rfl
  | simp only [↓fr_mk, ↓fr_mk_clock, ↓fr_mk_sec, ↓foldl_fr, ↓ite_fr, ↓State.egressUpdate_fr, ite_self, implies_true]
  | split
  | refine (foldl_fr _ (fun _ _ => ?_) _ _).trans ?_
  | refine (fold_fst_fr _ (fun _ _ => ?_) _ _).trans ?_
  | refine pair_fr (by assumption) ?_
  | exact rfl

theorem State.toMac_fr (s : State) (cid : Nat) (c : Copy) : (State.toMac s cid c).fr = s.fr := by
  unfold State.toMac
  simp only [↓fr_mk, ↓fr_mk_clock, ↓fr_mk_sec, ↓foldl_fr, ↓ite_fr, ↓State.putCopy_fr, ↓State.putReleased_fr, ↓State.putMacFifo_fr, ↓State.modPktD_fr, ite_self, implies_true]

theorem State.dropByRule_fr (s : State) (cid pipe : Nat) (c : Copy) (p : Pkt) (act : Option (BitVec 128)) (e : Editing) : (State.dropByRule s cid pipe c p act e).fr = s.fr := by
  unfold State.dropByRule
  simp only [↓fr_mk, ↓fr_mk_clock, ↓fr_mk_sec, ↓foldl_fr, ↓ite_fr, ↓State.bump_fr, ↓State.egressCopies_fr, ↓State.editDrop_fr, ↓State.egressCount_fr, ite_self, implies_true]

theorem State.editCopy_fr (s : State) (cid pipe : Nat) (c : Copy) (p : Pkt) (act : Option (BitVec 128)) (ops : List EditOp) : (State.editCopy s cid pipe c p act ops).fr = s.fr := by
  unfold State.editCopy
  repeat' first
  | with_reducible rfl
  | simp only [↓fr_mk, ↓fr_mk_clock, ↓fr_mk_sec, ↓foldl_fr, ↓ite_fr, ↓ite_fst, ↓fold_fst_fr, ↓State.bump_fr, ↓State.ioamTrace_fr, ↓State.egressCopies_fr, ↓State.editDrop_fr, ↓State.egressCount_fr, ↓State.toMac_fr, ↓State.dropByRule_fr, ite_self, implies_true]
  | split
  | refine (foldl_fr _ (fun _ _ => ?_) _ _).trans ?_
  | refine (fold_fst_fr _ (fun _ _ => ?_) _ _).trans ?_
  | refine pair_fr (by assumption) ?_
  | exact rfl

theorem State.editFound_fr (s : State) (cid pipe : Nat) (c : Copy) (p : Pkt) (f : Found) : (State.editFound s cid pipe c p f).fr = s.fr := by
  unfold State.editFound
  repeat' first
  | with_reducible rfl
  | simp only [↓State.tablePoison_fr, ↓fr_mk, ↓fr_mk_clock, ↓fr_mk_sec, ↓foldl_fr, ↓ite_fr, ↓State.raise_fr, ↓State.editDrop_fr, ↓State.editCopy_fr, ite_self, implies_true]
  | split
  | refine (foldl_fr _ (fun _ _ => ?_) _ _).trans ?_
  | refine (fold_fst_fr _ (fun _ _ => ?_) _ _).trans ?_
  | refine pair_fr (by assumption) ?_
  | exact rfl

theorem State.carryEdit_fr (s : State) (pipe port : Nat) : (State.carryEdit s pipe port).fr = s.fr := by
  unfold State.carryEdit
  simp only [↓fr_mk, ↓fr_mk_clock, ↓fr_mk_sec, ↓foldl_fr, ↓ite_fr, ↓State.carry_fr, ↓State.putTurn_fr, ite_self, implies_true]

theorem execEgressEdit_fr (cid : Nat) (s : State) : outFr (execEgressEdit cid s) s = s.fr := by
  unfold execEgressEdit
  repeat' first
  | with_reducible rfl
  | simp only [↓outFr_next, ↓outFr_fault, ↓outFr_onUnit, ↓outFr_ite, ↓fr_mk, ↓fr_mk_clock, ↓fr_mk_sec, ↓foldl_fr, ↓ite_fr, ↓ite_fst, ↓fold_fst_fr, ↓State.bump_fr, ↓State.addReq_fr, ↓State.carryEdit_fr, ↓State.consumePoison_fr, ↓State.editDrop_fr, ↓State.editFound_fr, ite_self, implies_true]
  | split
  | refine (foldl_fr _ (fun _ _ => ?_) _ _).trans ?_
  | refine (fold_fst_fr _ (fun _ _ => ?_) _ _).trans ?_
  | refine pair_fr (by assumption) ?_
  | exact rfl

theorem State.accountEgress_fr (s : State) (pipe : Nat) : (State.accountEgress s pipe).fr = s.fr := by
  unfold State.accountEgress
  simp only [↓fr_mk, ↓fr_mk_clock, ↓fr_mk_sec, ↓foldl_fr, ↓ite_fr, ↓State.accountRest_fr, ite_self, implies_true]

theorem State.accountIdle_fr (s : State) : (State.accountIdle s).fr = s.fr := by
  unfold State.accountIdle
  repeat' first
  | with_reducible rfl
  | simp only [↓fr_mk, ↓fr_mk_clock, ↓fr_mk_sec, ↓foldl_fr, ↓ite_fr, ↓State.accountIngress_fr, ↓State.accountEgress_fr, ite_self, implies_true]
  | split
  | refine (foldl_fr _ (fun _ _ => ?_) _ _).trans ?_
  | refine (fold_fst_fr _ (fun _ _ => ?_) _ _).trans ?_
  | refine pair_fr (by assumption) ?_
  | exact rfl

theorem execEgressPipeSlot_fr (pipe : Nat) (ready0 ready1 : Bool) (s : State) : outFr (execEgressPipeSlot pipe ready0 ready1 s) s = s.fr := by
  unfold execEgressPipeSlot
  simp only [↓outFr_next, ↓outFr_fault, ↓outFr_onUnit, ↓outFr_ite, ↓fr_mk, ↓fr_mk_clock, ↓fr_mk_sec, ↓foldl_fr, ↓ite_fr, ↓ite_fst, ↓fold_fst_fr, ↓onUnit_fr, ↓State.accountRest_fr, ite_self, implies_true]

theorem State.ptpCorrect_fr (s : State) (c : Copy) (p : Pkt) (ts : Nat) : (State.ptpCorrect s c p ts).1.fr = s.fr := by
  unfold State.ptpCorrect
  repeat' first
  | with_reducible rfl
  | simp only [↓fr_mk, ↓fr_mk_clock, ↓fr_mk_sec, ↓foldl_fr, ↓ite_fr, ↓ite_fst, ↓fold_fst_fr, ↓State.bump_fr, ite_self, implies_true]
  | split
  | refine (foldl_fr _ (fun _ _ => ?_) _ _).trans ?_
  | refine (fold_fst_fr _ (fun _ _ => ?_) _ _).trans ?_
  | refine pair_fr (by assumption) ?_
  | exact rfl

theorem State.stampFrame_fr (s : State) (c : Copy) (p : Pkt) (ts : Nat) : (State.stampFrame s c p ts).1.fr = s.fr := by
  unfold State.stampFrame
  repeat' first
  | with_reducible rfl
  | simp only [↓fr_mk, ↓fr_mk_clock, ↓fr_mk_sec, ↓foldl_fr, ↓ite_fr, ↓ite_fst, ↓fold_fst_fr, ↓State.draw_fr, ↓State.ptpCorrect_fr, ite_self, implies_true]
  | split
  | refine (foldl_fr _ (fun _ _ => ?_) _ _).trans ?_
  | refine (fold_fst_fr _ (fun _ _ => ?_) _ _).trans ?_
  | refine pair_fr (by assumption) ?_
  | exact rfl

theorem State.dropOversize_fr (s : State) (port cid : Nat) (k : TxClass) : (State.dropOversize s port cid k).fr = s.fr := by
  unfold State.dropOversize
  repeat' first
  | with_reducible rfl
  | simp only [↓fr_mk, ↓fr_mk_clock, ↓fr_mk_sec, ↓foldl_fr, ↓ite_fr, ↓State.bump_fr, ↓State.dropCopy_fr, ite_self, implies_true]
  | split
  | refine (foldl_fr _ (fun _ _ => ?_) _ _).trans ?_
  | refine (fold_fst_fr _ (fun _ _ => ?_) _ _).trans ?_
  | refine pair_fr (by assumption) ?_
  | exact rfl

theorem State.slipFrame_fr (s : State) (port : Nat) (c : Copy) : (State.slipFrame s port c).fr = s.fr := by
  unfold State.slipFrame
  repeat' first
  | with_reducible rfl
  | simp only [↓fr_mk, ↓fr_mk_clock, ↓fr_mk_sec, ↓foldl_fr, ↓ite_fr, ↓State.modEport_fr, ↓State.bump_fr, ite_self, implies_true]
  | split
  | refine (foldl_fr _ (fun _ _ => ?_) _ _).trans ?_
  | refine (fold_fst_fr _ (fun _ _ => ?_) _ _).trans ?_
  | refine pair_fr (by assumption) ?_
  | exact rfl

theorem State.beginFrame_fr (s : State) (port cid : Nat) (c : Copy) (p : Pkt) (k : TxClass) (pcsPs : Nat) : (State.beginFrame s port cid c p k pcsPs).fr = s.fr := by
  unfold State.beginFrame
  repeat' first
  | with_reducible rfl
  | simp only [↓fr_mk, ↓fr_mk_clock, ↓fr_mk_sec, ↓foldl_fr, ↓ite_fr, ↓ite_fst, ↓fold_fst_fr, ↓State.putCopy_fr, ↓State.putMacFifo_fr, ↓State.putSending_fr, ↓State.perfCount_fr, ↓State.bump_fr, ↓State.takePn_fr, ↓State.stampFrame_fr, ite_self, implies_true]
  | split
  | refine (foldl_fr _ (fun _ _ => ?_) _ _).trans ?_
  | refine (fold_fst_fr _ (fun _ _ => ?_) _ _).trans ?_
  | refine pair_fr (by assumption) ?_
  | exact rfl

theorem State.startFrame_fr (s : State) (port cid : Nat) (c : Copy) (p : Pkt) (pcsPs : Nat) (slipped : Bool) : (State.startFrame s port cid c p pcsPs slipped).fr = s.fr := by
  unfold State.startFrame
  repeat' first
  | with_reducible rfl
  | simp only [↓State.consumed_fr, ↓fr_mk, ↓fr_mk_clock, ↓fr_mk_sec, ↓foldl_fr, ↓ite_fr, ↓State.bump_fr, ↓State.dropCopy_fr, ↓State.dropOversize_fr, ↓State.slipFrame_fr, ↓State.beginFrame_fr, ite_self, implies_true]
  | split
  | refine (foldl_fr _ (fun _ _ => ?_) _ _).trans ?_
  | refine (fold_fst_fr _ (fun _ _ => ?_) _ _).trans ?_
  | refine pair_fr (by assumption) ?_
  | exact rfl

theorem execMacFrameStart_fr (port : Nat) (pcsPs : Nat) (s : State) : outFr (execMacFrameStart port pcsPs s) s = s.fr := by
  unfold execMacFrameStart
  repeat' first
  | with_reducible rfl
  | simp only [↓outFr_next, ↓outFr_fault, ↓outFr_onUnit, ↓outFr_ite, ↓fr_mk, ↓fr_mk_clock, ↓fr_mk_sec, ↓foldl_fr, ↓ite_fr, ↓ite_fst, ↓fold_fst_fr, ↓State.putCopy_fr, ↓State.bump_fr, ↓onUnit_fr, ↓State.launch_fr, ↓State.lateFrame_fr, ↓State.startFrame_fr, ite_self, implies_true]
  | split
  | refine (foldl_fr _ (fun _ _ => ?_) _ _).trans ?_
  | refine (fold_fst_fr _ (fun _ _ => ?_) _ _).trans ?_
  | refine pair_fr (by assumption) ?_
  | exact rfl

theorem State.countStomp_fr (s : State) (port cause : Nat) (c : Copy) (p : Pkt) : (State.countStomp s port cause c p).fr = s.fr := by
  unfold State.countStomp
  simp only [↓fr_mk, ↓fr_mk_clock, ↓fr_mk_sec, ↓foldl_fr, ↓ite_fr, ↓State.bump_fr, ↓State.poisonCell_fr, ↓State.consumePoison_fr, ite_self, implies_true]

theorem State.countSent_fr (s : State) (port len : Nat) (c : Copy) : (State.countSent s port len c).fr = s.fr := by
  unfold State.countSent
  repeat' first
  | with_reducible rfl
  | simp only [↓fr_mk, ↓fr_mk_clock, ↓fr_mk_sec, ↓foldl_fr, ↓ite_fr, ↓State.bumpBy_fr, ↓State.bump_fr, ite_self, implies_true]
  | split
  | refine (foldl_fr _ (fun _ _ => ?_) _ _).trans ?_
  | refine (fold_fst_fr _ (fun _ _ => ?_) _ _).trans ?_
  | refine pair_fr (by assumption) ?_
  | exact rfl

theorem State.endFrame_fr (s : State) (port cid sent : Nat) (c : Copy) (p : Pkt) : (State.endFrame s port cid sent c p).fr = s.fr := by
  unfold State.endFrame
  repeat' first
  | with_reducible rfl
  | simp only [↓fr_mk, ↓fr_mk_clock, ↓fr_mk_sec, ↓foldl_fr, ↓ite_fr, ↓State.putSending_fr, ↓State.credit_fr, ↓State.txRecord_fr, ↓State.leaveMac_fr, ↓State.sendDueFlow_fr, ↓State.countStomp_fr, ↓State.countSent_fr, ite_self, implies_true]
  | split
  | refine (foldl_fr _ (fun _ _ => ?_) _ _).trans ?_
  | refine (fold_fst_fr _ (fun _ _ => ?_) _ _).trans ?_
  | refine pair_fr (by assumption) ?_
  | exact rfl

theorem execTxFrameEnd_fr (port : Nat) (sent : Nat) (s : State) : outFr (execTxFrameEnd port sent s) s = s.fr := by
  unfold execTxFrameEnd
  repeat' first
  | with_reducible rfl
  | simp only [↓outFr_next, ↓outFr_fault, ↓outFr_onUnit, ↓outFr_ite, ↓fr_mk, ↓fr_mk_clock, ↓fr_mk_sec, ↓foldl_fr, ↓ite_fr, ↓ite_fst, ↓fold_fst_fr, ↓State.putSending_fr, ↓onUnit_fr, ↓State.endFrame_fr, ite_self, implies_true]
  | split
  | refine (foldl_fr _ (fun _ _ => ?_) _ _).trans ?_
  | refine (fold_fst_fr _ (fun _ _ => ?_) _ _).trans ?_
  | refine pair_fr (by assumption) ?_
  | exact rfl

theorem State.sampleQueue_fr (s : State) (q : Nat) : (State.sampleQueue s q).fr = s.fr := by
  unfold State.sampleQueue
  repeat' first
  | with_reducible rfl
  | simp only [↓fr_mk, ↓fr_mk_clock, ↓fr_mk_sec, ↓foldl_fr, ↓ite_fr, ↓State.putEqueue_fr, ite_self, implies_true]
  | split
  | refine (foldl_fr _ (fun _ _ => ?_) _ _).trans ?_
  | refine (fold_fst_fr _ (fun _ _ => ?_) _ _).trans ?_
  | refine pair_fr (by assumption) ?_
  | exact rfl

theorem State.sampleQueues_fr (s : State) : (State.sampleQueues s).fr = s.fr := by
  unfold State.sampleQueues
  repeat' first
  | with_reducible rfl
  | simp only [↓fr_mk, ↓fr_mk_clock, ↓fr_mk_sec, ↓foldl_fr, ↓ite_fr, ↓State.sampleQueue_fr, ite_self, implies_true]
  | split
  | refine (foldl_fr _ (fun _ _ => ?_) _ _).trans ?_
  | refine (fold_fst_fr _ (fun _ _ => ?_) _ _).trans ?_
  | refine pair_fr (by assumption) ?_
  | exact rfl

theorem State.dropPeaks_fr (s : State) (k : Nat) (p : Nat → Bool) : (State.dropPeaks s k p).fr = s.fr := by
  unfold State.dropPeaks
  repeat' first
  | with_reducible rfl
  | simp only [↓fr_mk, ↓fr_mk_clock, ↓fr_mk_sec, ↓foldl_fr, ↓ite_fr, ↓ite_fst, ↓fold_fst_fr, ite_self, implies_true]
  | split
  | refine (foldl_fr _ (fun _ _ => ?_) _ _).trans ?_
  | refine (fold_fst_fr _ (fun _ _ => ?_) _ _).trans ?_
  | refine pair_fr (by assumption) ?_
  | exact rfl

theorem State.applyStream_fr (s : State) (k : Nat) (r : StreamRec) (fields : BitVec 16) (format : Nat) : (State.applyStream s k r fields format).fr = s.fr := by
  unfold State.applyStream
  simp only [↓fr_mk, ↓fr_mk_clock, ↓fr_mk_sec, ↓foldl_fr, ↓ite_fr, ↓State.putStream_fr, ↓State.due_fr, ↓State.dropPeaks_fr, ite_self, implies_true]

theorem State.discardDue_fr (s : State) (k : Nat) : (State.discardDue s k).fr = s.fr := by
  unfold State.discardDue
  simp only [↓fr_mk, ↓fr_mk_clock, ↓fr_mk_sec, ↓foldl_fr, ↓ite_fr, ↓State.putStream_fr, ↓State.bump_fr, ↓State.due_fr, ↓State.noteOnceAs_fr, ↓State.dropPeaks_fr, ite_self, implies_true]

theorem State.closeInterval_fr (s : State) (k : Nat) : (State.closeInterval s k).fr = s.fr := by
  unfold State.closeInterval
  simp only [↓fr_mk, ↓fr_mk_clock, ↓fr_mk_sec, ↓foldl_fr, ↓ite_fr, ↓State.putStream_fr, ↓State.due_fr, ↓State.dropPeaks_fr, ↓State.discardDue_fr, ite_self, implies_true]

theorem execStreamIntervalClose_fr (stream : Nat) (s : State) : outFr (execStreamIntervalClose stream s) s = s.fr := by
  unfold execStreamIntervalClose
  simp only [↓outFr_next, ↓outFr_fault, ↓outFr_onUnit, ↓outFr_ite, ↓fr_mk, ↓fr_mk_clock, ↓fr_mk_sec, ↓foldl_fr, ↓ite_fr, ↓ite_fst, ↓fold_fst_fr, ↓onUnit_fr, ↓State.closeInterval_fr, ite_self, implies_true]

theorem State.exportPacket_fr (s : State) (k kind epoch count : Nat) (body : List Byte) : (State.exportPacket s k kind epoch count body).1.fr = s.fr := by
  unfold State.exportPacket
  repeat' first
  | with_reducible rfl
  | simp only [↓fr_mk, ↓fr_mk_clock, ↓fr_mk_sec, ↓foldl_fr, ↓ite_fr, ↓ite_fst, ↓fold_fst_fr, ↓State.modStream_fr, ↓State.bump_fr, ↓State.exportRefused_fr, ↓State.portTarget_fr, ↓State.generate_fr, ite_self, implies_true]
  | split
  | refine (foldl_fr _ (fun _ _ => ?_) _ _).trans ?_
  | refine (fold_fst_fr _ (fun _ _ => ?_) _ _).trans ?_
  | refine pair_fr (by assumption) ?_
  | exact rfl

theorem State.exportSamples_fr (s : State) (k : Nat) : (State.exportSamples s k).fr = s.fr := by
  unfold State.exportSamples
  simp only [↓fr_mk, ↓fr_mk_clock, ↓fr_mk_sec, ↓foldl_fr, ↓ite_fr, ↓ite_fst, ↓fold_fst_fr, ↓State.modStream_fr, ↓State.bumpBy_fr, ↓State.due_fr, ↓State.dropPeaks_fr, ↓State.exportPacket_fr, ite_self, implies_true]

theorem execExportPacketGenerate_fr (stream : Nat) (s : State) : outFr (execExportPacketGenerate stream s) s = s.fr := by
  unfold execExportPacketGenerate
  simp only [↓outFr_next, ↓outFr_fault, ↓outFr_onUnit, ↓outFr_ite, ↓fr_mk, ↓fr_mk_clock, ↓fr_mk_sec, ↓foldl_fr, ↓ite_fr, ↓ite_fst, ↓fold_fst_fr, ↓onUnit_fr, ↓State.due_fr, ↓State.exportSamples_fr, ite_self, implies_true]

theorem State.generateReport_fr (s : State) (q stamp : Nat) (body : List Byte) : (State.generateReport s q stamp body).fr = s.fr := by
  unfold State.generateReport
  simp only [↓fr_mk, ↓fr_mk_clock, ↓fr_mk_sec, ↓foldl_fr, ↓ite_fr, ↓ite_fst, ↓fold_fst_fr, ↓State.exportPacket_fr, ite_self, implies_true]

theorem execQueueReportGenerate_fr (queue : Nat) (s : State) : outFr (execQueueReportGenerate queue s) s = s.fr := by
  unfold execQueueReportGenerate
  repeat' first
  | with_reducible rfl
  | simp only [↓outFr_next, ↓outFr_fault, ↓outFr_onUnit, ↓outFr_ite, ↓fr_mk, ↓fr_mk_clock, ↓fr_mk_sec, ↓foldl_fr, ↓ite_fr, ↓ite_fst, ↓fold_fst_fr, ↓State.modEqueue_fr, ↓onUnit_fr, ↓State.generateReport_fr, ite_self, implies_true]
  | split
  | refine (foldl_fr _ (fun _ _ => ?_) _ _).trans ?_
  | refine (fold_fst_fr _ (fun _ _ => ?_) _ _).trans ?_
  | refine pair_fr (by assumption) ?_
  | exact rfl

theorem State.throttleNotices_fr (s : State) (new old cause measured : Nat) : (State.throttleNotices s new old cause measured).fr = s.fr := by
  unfold State.throttleNotices
  repeat' first
  | with_reducible rfl
  | simp only [↓fr_mk, ↓fr_mk_clock, ↓fr_mk_sec, ↓foldl_fr, ↓ite_fr, ↓ite_fst, ↓fold_fst_fr, ↓State.bump_fr, ↓State.exportPacket_fr, ite_self, implies_true]
  | split
  | refine (foldl_fr _ (fun _ _ => ?_) _ _).trans ?_
  | refine (fold_fst_fr _ (fun _ _ => ?_) _ _).trans ?_
  | refine pair_fr (by assumption) ?_
  | exact rfl

theorem State.applyReport_fr (s : State) (q : Nat) (r : ReportRec) (fields : BitVec 8) : (State.applyReport s q r fields).fr = s.fr := by
  unfold State.applyReport
  simp only [↓fr_mk, ↓fr_mk_clock, ↓fr_mk_sec, ↓foldl_fr, ↓ite_fr, ↓State.modEqueue_fr, ite_self, implies_true]

theorem State.applyIoam_fr (s : State) (nodeId : BitVec 56) (td : Nat) (namespaces : List (Nat × BitVec 64)) : (State.applyIoam s nodeId td namespaces).fr = s.fr := by
  unfold State.applyIoam
  simp only [↓fr_mk, ↓fr_mk_clock, ↓fr_mk_sec, ↓foldl_fr, ↓ite_fr, ite_self, implies_true]

theorem State.settlePerf_fr (s : State) : (State.settlePerf s).fr = s.fr := by
  unfold State.settlePerf
  repeat' first
  | with_reducible rfl
  | simp only [↓fr_mk, ↓fr_mk_clock, ↓fr_mk_sec, ↓foldl_fr, ↓ite_fr, ↓ite_fst, ↓fold_fst_fr, ite_self, implies_true]
  | split
  | refine (foldl_fr _ (fun _ _ => ?_) _ _).trans ?_
  | refine (fold_fst_fr _ (fun _ _ => ?_) _ _).trans ?_
  | refine pair_fr (by assumption) ?_
  | exact rfl

theorem State.perfClocks_fr (s : State) (elapsed clocks worked skipped : Nat) : (State.perfClocks s elapsed clocks worked skipped).fr = s.fr := by
  unfold State.perfClocks
  repeat' first
  | with_reducible rfl
  | simp only [↓fr_mk, ↓fr_mk_clock, ↓fr_mk_sec, ↓foldl_fr, ↓ite_fr, ↓ite_fst, ↓fold_fst_fr, ↓State.modCycles_fr, ite_self, implies_true]
  | split
  | refine (foldl_fr _ (fun _ _ => ?_) _ _).trans ?_
  | refine (fold_fst_fr _ (fun _ _ => ?_) _ _).trans ?_
  | refine pair_fr (by assumption) ?_
  | exact rfl

theorem execPerfFreezeWrite_fr (value : BitVec 32) (s : State) : outFr (execPerfFreezeWrite value s) s = s.fr := by
  unfold execPerfFreezeWrite
  simp only [↓outFr_next, ↓outFr_fault, ↓outFr_onUnit, ↓outFr_ite, ↓fr_mk, ↓fr_mk_clock, ↓fr_mk_sec, ↓foldl_fr, ↓ite_fr, ↓ite_fst, ↓fold_fst_fr, ite_self, implies_true]

theorem execMsixSignal_fr (rid : Nat) (s : State) : outFr (execMsixSignal rid s) s = s.fr := by
  unfold execMsixSignal
  simp only [↓outFr_next, ↓outFr_fault, ↓outFr_onUnit, ↓outFr_ite, ↓fr_mk, ↓fr_mk_clock, ↓fr_mk_sec, ↓foldl_fr, ↓ite_fr, ↓ite_fst, ↓fold_fst_fr, ↓onUnit_fr, ↓State.signal_fr, ite_self, implies_true]

theorem State.deliverCpu_fr (s : State) (ring c capacity cid : Nat) (x : Copy) (p : Pkt) : (State.deliverCpu s ring c capacity cid x p).fr = s.fr := by
  unfold State.deliverCpu
  simp only [↓fr_mk, ↓fr_mk_clock, ↓fr_mk_sec, ↓foldl_fr, ↓ite_fr, ↓State.modEqueue_fr, ↓State.draw_fr, ↓State.signalGap_fr, ↓State.advanceRing_fr, ↓State.finishCopy_fr, ite_self, implies_true]

theorem execCpuQueueDeliver_fr (ring capacity : Nat) (s : State) : outFr (execCpuQueueDeliver ring capacity s) s = s.fr := by
  unfold execCpuQueueDeliver
  repeat' first
  | with_reducible rfl
  | simp only [↓outFr_next, ↓outFr_fault, ↓outFr_onUnit, ↓outFr_ite, ↓fr_mk, ↓fr_mk_clock, ↓fr_mk_sec, ↓foldl_fr, ↓ite_fr, ↓ite_fst, ↓fold_fst_fr, ↓onUnit_fr, ↓State.deliverCpu_fr, ite_self, implies_true]
  | split
  | refine (foldl_fr _ (fun _ _ => ?_) _ _).trans ?_
  | refine (fold_fst_fr _ (fun _ _ => ?_) _ _).trans ?_
  | refine pair_fr (by assumption) ?_
  | exact rfl

theorem State.injectDirect_fr (s : State) (ring : Nat) (d : TxDesc) : (State.injectDirect s ring d).fr = s.fr := by
  unfold State.injectDirect
  simp only [↓fr_mk, ↓fr_mk_clock, ↓fr_mk_sec, ↓foldl_fr, ↓ite_fr, ite_self, implies_true]

theorem State.admitDirect_fr (s : State) (ring : Nat) (d : TxDesc) : (State.admitDirect s ring d).fr = s.fr := by
  unfold State.admitDirect
  simp only [↓fr_mk, ↓fr_mk_clock, ↓fr_mk_sec, ↓foldl_fr, ↓ite_fr, ↓ite_fst, ↓fold_fst_fr, ↓State.bump_fr, ↓State.advanceRing_fr, ↓State.txRecord_fr, ↓State.generate_fr, ite_self, implies_true]

theorem State.admitDirects_fr (s : State) : (State.admitDirects s).fr = s.fr := by
  unfold State.admitDirects
  repeat' first
  | with_reducible rfl
  | simp only [↓fr_mk, ↓fr_mk_clock, ↓fr_mk_sec, ↓foldl_fr, ↓ite_fr, ↓State.due_fr, ↓State.admitDirect_fr, ite_self, implies_true]
  | split
  | refine (foldl_fr _ (fun _ _ => ?_) _ _).trans ?_
  | refine (fold_fst_fr _ (fun _ _ => ?_) _ _).trans ?_
  | refine pair_fr (by assumption) ?_
  | exact rfl

theorem State.injectPipe_fr (s : State) (ring : Nat) (d : TxDesc) : (State.injectPipe s ring d).fr = s.fr := by
  unfold State.injectPipe
  simp only [↓fr_mk, ↓fr_mk_clock, ↓fr_mk_sec, ↓foldl_fr, ↓ite_fr, ↓State.putPkt_fr, ite_self, implies_true]

theorem State.badDesc_fr (s : State) (ring : Nat) (d : TxDesc) : (State.badDesc s ring d).fr = s.fr := by
  unfold State.badDesc
  simp only [↓fr_mk, ↓fr_mk_clock, ↓fr_mk_sec, ↓foldl_fr, ↓ite_fr, ↓State.bump_fr, ↓State.advanceRing_fr, ↓State.txDone_fr, ite_self, implies_true]

theorem execTxDescriptorFetch_fr (ring : Nat) (d : TxDesc) (s : State) : outFr (execTxDescriptorFetch ring d s) s = s.fr := by
  unfold execTxDescriptorFetch
  simp only [↓outFr_next, ↓outFr_fault, ↓outFr_onUnit, ↓outFr_ite, ↓fr_mk, ↓fr_mk_clock, ↓fr_mk_sec, ↓foldl_fr, ↓ite_fr, ↓ite_fst, ↓fold_fst_fr, ↓onUnit_fr, ↓State.injectDirect_fr, ↓State.injectPipe_fr, ↓State.badDesc_fr, ite_self, implies_true]

theorem State.clearStatus_fr (s : State) (g : Nat) (mask keep : BitVec 32) : (State.clearStatus s g mask keep).fr = s.fr := by
  unfold State.clearStatus
  simp only [↓fr_mk, ↓fr_mk_clock, ↓fr_mk_sec, ↓foldl_fr, ↓ite_fr, ↓State.putEvStatus_fr, ite_self, implies_true]

theorem execEventStatusW1c_fr (group : Nat) (mask raisedSameClock : BitVec 32) (s : State) : outFr (execEventStatusW1c group mask raisedSameClock s) s = s.fr := by
  unfold execEventStatusW1c
  simp only [↓outFr_next, ↓outFr_fault, ↓outFr_onUnit, ↓outFr_ite, ↓fr_mk, ↓fr_mk_clock, ↓fr_mk_sec, ↓foldl_fr, ↓ite_fr, ↓ite_fst, ↓fold_fst_fr, ↓onUnit_fr, ↓State.clearStatus_fr, ite_self, implies_true]

theorem State.dropSession_fr (s : State) (h : Hdr) : (State.dropSession s h).fr = s.fr := by
  unfold State.dropSession
  simp only [↓fr_mk, ↓fr_mk_clock, ↓fr_mk_sec, ↓foldl_fr, ↓ite_fr, ite_self, implies_true]

theorem State.applyCpuMap_fr (s : State) (queue ring : Nat) : (State.applyCpuMap s queue ring).fr = s.fr := by
  unfold State.applyCpuMap
  simp only [↓fr_mk, ↓fr_mk_clock, ↓fr_mk_sec, ↓foldl_fr, ↓ite_fr, ↓State.putCpuRing_fr, ite_self, implies_true]

end Sys2Proof.Machine
end

