-- ==== Sys2Proof/Laws/FrameCore.lean ====
section
/-! SUPPORT. Frames of faults, resets, power, twin, ring, boot, registers and changes. -/

namespace Sys2Proof.Machine
theorem State.loseRecord_fr (s : State) (slice : Nat) : (State.loseRecord s slice).fr = s.fr := by
  unfold State.loseRecord
  repeat' first
  | with_reducible rfl
  | simp only [↓fr_mk, ↓fr_mk_clock, ↓fr_mk_sec, ↓foldl_fr, ↓ite_fr, ↓State.draw_fr, ↓State.modCopyD_fr, ite_self, implies_true]
  | split
  | refine (foldl_fr _ (fun _ _ => ?_) _ _).trans ?_
  | refine (fold_fst_fr _ (fun _ _ => ?_) _ _).trans ?_
  | refine pair_fr (by assumption) ?_
  | exact rfl

theorem State.hitLost_fr (s : State) (a : BitVec 64) : (State.hitLost s a).fr = s.fr := by
  unfold State.hitLost
  repeat' first
  | with_reducible rfl
  | simp only [↓fr_mk, ↓fr_mk_clock, ↓fr_mk_sec, ↓foldl_fr, ↓ite_fr, ↓State.putEmHit_fr, ↓State.modWriteTag_fr, ite_self, implies_true]
  | split
  | refine (foldl_fr _ (fun _ _ => ?_) _ _).trans ?_
  | refine (fold_fst_fr _ (fun _ _ => ?_) _ _).trans ?_
  | refine pair_fr (by assumption) ?_
  | exact rfl

theorem State.queueLost_fr (s : State) (q : Nat) : (State.queueLost s q).fr = s.fr := by
  unfold State.queueLost
  simp only [↓State.consumed_fr, ↓fr_mk, ↓fr_mk_clock, ↓fr_mk_sec, ↓foldl_fr, ↓ite_fr, ↓State.flushQueue_fr, ite_self, implies_true]

theorem State.pipePoison_fr (s : State) (g : Nat) : (State.pipePoison s g).fr = s.fr := by
  unfold State.pipePoison
  repeat' first
  | with_reducible rfl
  | simp only [↓fr_mk, ↓fr_mk_clock, ↓fr_mk_sec, ↓foldl_fr, ↓ite_fr, ↓ite_fst, ↓fold_fst_fr, ↓State.draw_fr, ↓State.putPkt_fr, ↓State.modCopyD_fr, ite_self, implies_true]
  | split
  | exact rfl

theorem State.pipeControl_fr (s : State) (g : Nat) : (State.pipeControl s g).fr = s.fr := by
  unfold State.pipeControl
  repeat' first
  | with_reducible rfl
  | simp only [↓fr_mk, ↓fr_mk_clock, ↓fr_mk_sec, ↓foldl_fr, ↓ite_fr, ↓ite_fst, ↓fold_fst_fr, ↓State.bump_fr, ↓State.dropCopy_fr, ↓State.decided_fr, ite_self, implies_true]
  | split
  | refine (foldl_fr _ (fun _ _ => ?_) _ _).trans ?_
  | refine (fold_fst_fr _ (fun _ _ => ?_) _ _).trans ?_
  | refine pair_fr (by assumption) ?_
  | exact rfl

theorem State.pipeLost_fr (s : State) (g : Nat) : (State.pipeLost s g).fr = s.fr := by
  unfold State.pipeLost
  simp only [↓ite_fr, ↓State.pipePoison_fr, ↓State.pipeControl_fr, ↓State.draw_fr, ite_self]

theorem State.belvedereLost_fr (s : State) : (State.belvedereLost s).fr = s.fr := by
  unfold State.belvedereLost
  simp only [↓fr_mk, ↓ite_fr, ↓State.draw_fr, ite_self]

theorem State.uncorrectable_fr (s : State) (x inst : Nat) (a : BitVec 64) : (State.uncorrectable s x inst a).fr = s.fr := by
  unfold State.uncorrectable
  simp only [↓fr_mk, ↓fr_mk_clock, ↓fr_mk_sec, ↓foldl_fr, ↓ite_fr, ↓State.eccUncorrected_fr, ↓State.eccRead_fr, ↓State.loseRecord_fr, ↓State.hitLost_fr, ↓State.queueLost_fr, ↓State.pipeLost_fr, ↓State.belvedereLost_fr, ite_self, implies_true]

theorem execFaultRaise_fr (source inst : Nat) (detail : BitVec 64) (s : State) : outFr (execFaultRaise source inst detail s) s = s.fr := by
  unfold execFaultRaise
  simp only [↓outFr_next, ↓outFr_fault, ↓outFr_onUnit, ↓outFr_ite, ↓fr_mk, ↓fr_mk_clock, ↓fr_mk_sec, ↓foldl_fr, ↓ite_fr, ↓ite_fst, ↓fold_fst_fr, ↓onUnit_fr, ↓State.raise_fr, ↓State.startRebuild_fr, ↓State.quarantine_fr, ↓State.eccRead_fr, ↓State.engineError_fr, ↓State.laneErrorAs_fr, ↓State.uncorrectable_fr, ite_self, implies_true]

theorem execPermanenceClear_fr (source inst : Nat) (s : State) : outFr (execPermanenceClear source inst s) s = s.fr := by
  unfold execPermanenceClear
  simp only [↓outFr_next, ↓outFr_fault, ↓outFr_onUnit, ↓outFr_ite, ↓fr_mk, ↓fr_mk_clock, ↓fr_mk_sec, ↓foldl_fr, ↓ite_fr, ↓ite_fst, ↓fold_fst_fr, ↓onUnit_fr, ↓State.clearPermanence_fr, ite_self, implies_true]

theorem execWireFault_fr (source inst : Nat) (s : State) : outFr (execWireFault source inst s) s = s.fr := by
  unfold execWireFault
  simp only [↓outFr_next, ↓outFr_fault, ↓outFr_onUnit, ↓outFr_ite, ↓fr_mk, ↓fr_mk_clock, ↓fr_mk_sec, ↓foldl_fr, ↓ite_fr, ↓ite_fst, ↓fold_fst_fr, ↓State.putMasked_fr, ↓State.putMaskedAt_fr, ↓State.bump_fr, ↓onUnit_fr, ↓State.raiseBase_fr, ite_self, implies_true]

theorem execWireUnmask_fr (source : Nat) (s : State) : outFr (execWireUnmask source s) s = s.fr := by
  unfold execWireUnmask
  simp only [↓outFr_next, ↓outFr_fault, ↓outFr_onUnit, ↓outFr_ite, ↓fr_mk, ↓fr_mk_clock, ↓fr_mk_sec, ↓foldl_fr, ↓ite_fr, ↓ite_fst, ↓fold_fst_fr, ↓State.putMasked_fr, ↓State.putMaskedAt_fr, ↓onUnit_fr, ite_self, implies_true]

theorem execEccWriteBack_fr (addr : BitVec 64) (s : State) : outFr (execEccWriteBack addr s) s = s.fr := by
  unfold execEccWriteBack
  repeat' first
  | with_reducible rfl
  | simp only [↓outFr_next, ↓outFr_fault, ↓outFr_onUnit, ↓outFr_ite, ↓fr_mk, ↓fr_mk_clock, ↓fr_mk_sec, ↓foldl_fr, ↓ite_fr, ↓ite_fst, ↓fold_fst_fr, ↓State.useCellCycle_fr, ↓State.useClock_fr, ↓State.writeBack_fr, ite_self, implies_true]
  | split
  | refine (foldl_fr _ (fun _ _ => ?_) _ _).trans ?_
  | refine (fold_fst_fr _ (fun _ _ => ?_) _ _).trans ?_
  | refine pair_fr (by assumption) ?_
  | exact rfl

theorem execBackgroundPortRead_fr (replica index : Nat) (found : EccErr) (s : State) : outFr (execBackgroundPortRead replica index found s) s = s.fr := by
  unfold execBackgroundPortRead
  simp only [↓outFr_next, ↓outFr_fault, ↓outFr_onUnit, ↓outFr_ite, ↓fr_mk, ↓fr_mk_clock, ↓fr_mk_sec, ↓foldl_fr, ↓ite_fr, ↓ite_fst, ↓fold_fst_fr, ↓State.putBgPos_fr, ↓onUnit_fr, ↓State.eccRead_fr, ite_self, implies_true]

theorem State.copyUnit_fr (s : State) (j : SpareJob) (found : EccErr) : (State.copyUnit s j found).fr = s.fr := by
  unfold State.copyUnit
  simp only [↓fr_mk, ↓fr_mk_clock, ↓fr_mk_sec, ↓foldl_fr, ↓ite_fr, ↓State.putGrantedAt_fr, ↓State.draw_fr, ↓State.due_fr, ↓State.eccRead_fr, ite_self, implies_true]

theorem execBankSpareCopy_fr (store bank : Nat) (found : EccErr) (s : State) : outFr (execBankSpareCopy store bank found s) s = s.fr := by
  unfold execBankSpareCopy
  repeat' first
  | with_reducible rfl
  | simp only [↓outFr_next, ↓outFr_fault, ↓outFr_onUnit, ↓outFr_ite, ↓fr_mk, ↓fr_mk_clock, ↓fr_mk_sec, ↓foldl_fr, ↓ite_fr, ↓ite_fst, ↓fold_fst_fr, ↓onUnit_fr, ↓State.copyUnit_fr, ite_self, implies_true]
  | split
  | refine (foldl_fr _ (fun _ _ => ?_) _ _).trans ?_
  | refine (fold_fst_fr _ (fun _ _ => ?_) _ _).trans ?_
  | refine pair_fr (by assumption) ?_
  | exact rfl

theorem State.applySpareSwitch_fr (s : State) (store group bank : Nat) (back : Bool) : (State.applySpareSwitch s store group bank back).fr = s.fr := by
  unfold State.applySpareSwitch
  simp only [↓fr_mk, ↓fr_mk_clock, ↓fr_mk_sec, ↓foldl_fr, ↓ite_fr, ↓State.putSpareOf_fr, ↓State.note_fr, ↓State.clearPermanence_fr, ↓State.abandonReaders_fr, ite_self, implies_true]

theorem State.applyBankDetach_fr (s : State) (p b : Nat) : (State.applyBankDetach s p b).fr = s.fr := by
  unfold State.applyBankDetach
  simp only [↓fr_mk, ↓fr_mk_clock, ↓fr_mk_sec, ↓foldl_fr, ↓ite_fr, ↓State.putPartBank_fr, ite_self, implies_true]

theorem State.applyBankRestore_fr (s : State) (p b : Nat) : (State.applyBankRestore s p b).fr = s.fr := by
  unfold State.applyBankRestore
  simp only [↓fr_mk, ↓fr_mk_clock, ↓fr_mk_sec, ↓foldl_fr, ↓ite_fr, ↓State.putPartBank_fr, ↓State.clearPermanence_fr, ↓State.rebuildBank_fr, ite_self, implies_true]

theorem execPartitionBankDrained_fr (part bank : Nat) (s : State) : outFr (execPartitionBankDrained part bank s) s = s.fr := by
  unfold execPartitionBankDrained
  repeat' first
  | with_reducible rfl
  | simp only [↓outFr_next, ↓outFr_fault, ↓outFr_onUnit, ↓outFr_ite, ↓fr_mk, ↓fr_mk_clock, ↓fr_mk_sec, ↓foldl_fr, ↓ite_fr, ↓ite_fst, ↓fold_fst_fr, ↓State.putPartBank_fr, ↓onUnit_fr, ↓State.note_fr, ite_self, implies_true]
  | split
  | refine (foldl_fr _ (fun _ _ => ?_) _ _).trans ?_
  | refine (fold_fst_fr _ (fun _ _ => ?_) _ _).trans ?_
  | refine pair_fr (by assumption) ?_
  | exact rfl

theorem State.applyPipeRetire_fr (s : State) (g : Nat) : (State.applyPipeRetire s g).fr = s.fr := by
  unfold State.applyPipeRetire
  simp only [↓fr_mk, ↓fr_mk_clock, ↓fr_mk_sec, ↓foldl_fr, ↓ite_fr, ↓State.putPipeRetired_fr, ↓State.closePipe_fr, ite_self, implies_true]

theorem State.applyPipeRestore_fr (s : State) (g : Nat) : (State.applyPipeRestore s g).fr = s.fr := by
  unfold State.applyPipeRestore
  simp only [↓fr_mk, ↓fr_mk_clock, ↓fr_mk_sec, ↓foldl_fr, ↓ite_fr, ↓State.putPipeRetired_fr, ↓State.note_fr, ↓State.clearPermanence_fr, ite_self, implies_true]

theorem State.stopSlice_fr (s : State) (sl : Nat) : (State.stopSlice s sl).fr = s.fr := by
  unfold State.stopSlice
  repeat' first
  | with_reducible rfl
  | simp only [↓fr_mk, ↓fr_mk_clock, ↓fr_mk_sec, ↓foldl_fr, ↓ite_fr, ↓State.stopPort_fr, ite_self, implies_true]
  | split
  | refine (foldl_fr _ (fun _ _ => ?_) _ _).trans ?_
  | refine (fold_fst_fr _ (fun _ _ => ?_) _ _).trans ?_
  | refine pair_fr (by assumption) ?_
  | exact rfl

theorem State.applySliceFence_fr (s : State) (sl : Nat) : (State.applySliceFence s sl).fr = s.fr := by
  unfold State.applySliceFence
  simp only [↓fr_mk, ↓fr_mk_clock, ↓fr_mk_sec, ↓foldl_fr, ↓ite_fr, ↓State.putSliceFenced_fr, ↓State.note_fr, ↓State.stopSlice_fr, ite_self, implies_true]

theorem State.applyReplicaFence_fr (s : State) (k : Nat) : (State.applyReplicaFence s k).fr = s.fr := by
  unfold State.applyReplicaFence
  simp only [↓fr_mk, ↓fr_mk_clock, ↓fr_mk_sec, ↓foldl_fr, ↓ite_fr, ↓State.putReplicaFenced_fr, ↓State.note_fr, ↓State.stopSlice_fr, ite_self, implies_true]

theorem State.applyUnfence_fr (s : State) (u : UnitRef) : (State.applyUnfence s u).fr = s.fr := by
  unfold State.applyUnfence
  repeat' first
  | with_reducible rfl
  | simp only [↓fr_mk, ↓fr_mk_clock, ↓fr_mk_sec, ↓foldl_fr, ↓ite_fr, ↓State.putSliceFenced_fr, ↓State.putReplicaFenced_fr, ↓State.modCengine_fr, ↓State.note_fr, ↓State.clearPermanence_fr, ↓State.restoreEngine_fr, ite_self, implies_true]
  | split
  | refine (foldl_fr _ (fun _ _ => ?_) _ _).trans ?_
  | refine (fold_fst_fr _ (fun _ _ => ?_) _ _).trans ?_
  | refine pair_fr (by assumption) ?_
  | exact rfl

theorem State.applyIsolate_fr (s : State) : (State.applyIsolate s).fr = s.fr := by
  unfold State.applyIsolate
  repeat' first
  | with_reducible rfl
  | simp only [↓fr_mk, ↓fr_mk_clock, ↓fr_mk_sec, ↓foldl_fr, ↓ite_fr, ↓State.stopSlice_fr, ite_self, implies_true]
  | split
  | refine (foldl_fr _ (fun _ _ => ?_) _ _).trans ?_
  | refine (fold_fst_fr _ (fun _ _ => ?_) _ _).trans ?_
  | refine pair_fr (by assumption) ?_
  | exact rfl

theorem State.clearFirst_fr (s : State) : (State.clearFirst s).fr = s.fr := by
  unfold State.clearFirst
  repeat' first
  | with_reducible rfl
  | simp only [↓fr_mk, ↓fr_mk_clock, ↓fr_mk_sec, ↓foldl_fr, ↓ite_fr, ite_self, implies_true]
  | split
  | refine (foldl_fr _ (fun _ _ => ?_) _ _).trans ?_
  | refine (fold_fst_fr _ (fun _ _ => ?_) _ _).trans ?_
  | refine pair_fr (by assumption) ?_
  | exact rfl

theorem execFirstErrorValidW1c_fr (value : BitVec 64) (s : State) : outFr (execFirstErrorValidW1c value s) s = s.fr := by
  unfold execFirstErrorValidW1c
  simp only [↓outFr_next, ↓outFr_fault, ↓outFr_onUnit, ↓outFr_ite, ↓fr_mk, ↓fr_mk_clock, ↓fr_mk_sec, ↓foldl_fr, ↓ite_fr, ↓ite_fst, ↓fold_fst_fr, ↓State.clearFirst_fr, ite_self, implies_true]

theorem State.applySpareStart_fr (s : State) (store bank : Nat) (back : Bool) : (State.applySpareStart s store bank back).fr = s.fr := by
  unfold State.applySpareStart
  simp only [↓fr_mk, ↓fr_mk_clock, ↓fr_mk_sec, ↓foldl_fr, ↓ite_fr, ↓State.startSpare_fr, ite_self, implies_true]

theorem State.coolPin_fr (s : State) (tj : Nat) : (State.coolPin s tj).fr = s.fr := by
  unfold State.coolPin
  simp only [↓fr_mk, ↓fr_mk_clock, ↓fr_mk_sec, ↓foldl_fr, ↓ite_fr, ite_self, implies_true]

theorem State.wake_fr (s : State) (bit : Nat) : (State.wake s bit).fr = s.fr := by
  unfold State.wake
  simp only [↓fr_mk, ↓fr_mk_clock, ↓fr_mk_sec, ↓foldl_fr, ↓ite_fr, ite_self, implies_true]

theorem execWakeNLow_fr (s : State) : outFr (execWakeNLow s) s = s.fr := by
  unfold execWakeNLow
  simp only [↓outFr_next, ↓outFr_fault, ↓outFr_onUnit, ↓outFr_ite, ↓fr_mk, ↓fr_mk_clock, ↓fr_mk_sec, ↓foldl_fr, ↓ite_fr, ↓ite_fst, ↓fold_fst_fr, ↓State.wake_fr, ite_self, implies_true]

theorem execRingWakeDetect_fr (s : State) : outFr (execRingWakeDetect s) s = s.fr := by
  unfold execRingWakeDetect
  simp only [↓outFr_next, ↓outFr_fault, ↓outFr_onUnit, ↓outFr_ite, ↓fr_mk, ↓fr_mk_clock, ↓fr_mk_sec, ↓foldl_fr, ↓ite_fr, ↓ite_fst, ↓fold_fst_fr, ↓State.wake_fr, ite_self, implies_true]

theorem State.avsStart_fr (s : State) (code : Nat) (point : Option (Nat × Nat)) : (State.avsStart s code point).fr = s.fr := by
  unfold State.avsStart
  simp only [↓fr_mk, ↓fr_mk_clock, ↓fr_mk_sec, ↓foldl_fr, ↓ite_fr, ite_self, implies_true]

theorem State.dropPlans_fr (s : State) : (State.dropPlans s).fr = s.fr := by
  unfold State.dropPlans
  simp only [↓fr_mk, ↓fr_mk_clock, ↓fr_mk_sec, ↓foldl_fr, ↓ite_fr, ite_self, implies_true]

theorem State.pointNotices_fr (s : State) (n : ThrottleNote) : (State.pointNotices s n).fr = s.fr := by
  unfold State.pointNotices
  simp only [↓fr_mk, ↓fr_mk_clock, ↓fr_mk_sec, ↓foldl_fr, ↓ite_fr, ↓State.ringSend_fr, ↓State.note_fr, ↓State.colSend_fr, ↓State.throttleNotices_fr, ite_self, implies_true]

theorem State.applyPoint_fr (s : State) (new cause : Nat) : (State.applyPoint s new cause).fr = s.fr := by
  unfold State.applyPoint
  simp only [↓fr_mk, ↓fr_mk_clock, ↓fr_mk_sec, ↓foldl_fr, ↓ite_fr, ite_self, implies_true]

theorem State.planFaster_fr (s : State) (p : Nat × Nat) : (State.planFaster s p).fr = s.fr := by
  unfold State.planFaster
  repeat' first
  | with_reducible rfl
  | simp only [↓fr_mk, ↓fr_mk_clock, ↓fr_mk_sec, ↓foldl_fr, ↓ite_fr, ↓State.schedule_fr, ↓State.avsStart_fr, ite_self, implies_true]
  | split
  | refine (foldl_fr _ (fun _ _ => ?_) _ _).trans ?_
  | refine (fold_fst_fr _ (fun _ _ => ?_) _ _).trans ?_
  | refine pair_fr (by assumption) ?_
  | exact rfl

theorem State.planPoint_fr (s : State) (atBoundary : Bool) : (State.planPoint s atBoundary).fr = s.fr := by
  unfold State.planPoint
  simp only [↓fr_mk, ↓fr_mk_clock, ↓fr_mk_sec, ↓foldl_fr, ↓ite_fr, ↓State.draw_fr, ↓State.schedule_fr, ↓State.dropPlans_fr, ↓State.applyPoint_fr, ↓State.planFaster_fr, ite_self, implies_true]

theorem State.settleVoltage_fr (s : State) : (State.settleVoltage s).fr = s.fr := by
  unfold State.settleVoltage
  simp only [↓fr_mk, ↓fr_mk_clock, ↓fr_mk_sec, ↓foldl_fr, ↓ite_fr, ↓State.avsStart_fr, ite_self, implies_true]

theorem State.takeReadings_fr (s : State) (r : Readings) (ended : Nat) : (State.takeReadings s r ended).fr = s.fr := by
  unfold State.takeReadings
  simp only [↓fr_mk, ↓fr_mk_clock, ↓fr_mk_sec, ↓foldl_fr, ↓ite_fr, ↓State.coolPin_fr, ite_self, implies_true]

theorem State.setGovernor_fr (s : State) (g : Nat) (unattainable : Bool) : (State.setGovernor s g unattainable).fr = s.fr := by
  unfold State.setGovernor
  simp only [↓fr_mk, ↓fr_mk_clock, ↓fr_mk_sec, ↓foldl_fr, ↓ite_fr, ite_self, implies_true]

theorem State.govern_fr (s : State) (sum n : Nat) : (State.govern s sum n).fr = s.fr := by
  unfold State.govern
  repeat' first
  | with_reducible rfl
  | simp only [↓fr_mk, ↓fr_mk_clock, ↓fr_mk_sec, ↓foldl_fr, ↓ite_fr, ↓State.note_fr, ↓State.planPoint_fr, ↓State.setGovernor_fr, ite_self, implies_true]
  | split
  | refine (foldl_fr _ (fun _ _ => ?_) _ _).trans ?_
  | refine (fold_fst_fr _ (fun _ _ => ?_) _ _).trans ?_
  | refine pair_fr (by assumption) ?_
  | exact rfl

theorem execGovernorDecision_fr (s : State) : outFr (execGovernorDecision s) s = s.fr := by
  unfold execGovernorDecision
  simp only [↓outFr_next, ↓outFr_fault, ↓outFr_onUnit, ↓outFr_ite, ↓fr_mk, ↓fr_mk_clock, ↓fr_mk_sec, ↓foldl_fr, ↓ite_fr, ↓ite_fst, ↓fold_fst_fr, ↓State.govern_fr, ite_self, implies_true]

theorem execAvsAck_fr (s : State) : outFr (execAvsAck s) s = s.fr := by
  unfold execAvsAck
  repeat' first
  | with_reducible rfl
  | simp only [↓outFr_next, ↓outFr_fault, ↓outFr_onUnit, ↓outFr_ite, ↓fr_mk, ↓fr_mk_clock, ↓fr_mk_sec, ↓foldl_fr, ↓ite_fr, ↓ite_fst, ↓fold_fst_fr, ite_self, implies_true]
  | split
  | refine (foldl_fr _ (fun _ _ => ?_) _ _).trans ?_
  | refine (fold_fst_fr _ (fun _ _ => ?_) _ _).trans ?_
  | refine pair_fr (by assumption) ?_
  | exact rfl

theorem State.avsSettled_fr (s : State) (w : AvsWrite) : (State.avsSettled s w).fr = s.fr := by
  unfold State.avsSettled
  repeat' first
  | with_reducible rfl
  | simp only [↓fr_mk, ↓fr_mk_clock, ↓fr_mk_sec, ↓foldl_fr, ↓ite_fr, ↓State.schedule_fr, ↓State.planPoint_fr, ite_self, implies_true]
  | split
  | refine (foldl_fr _ (fun _ _ => ?_) _ _).trans ?_
  | refine (fold_fst_fr _ (fun _ _ => ?_) _ _).trans ?_
  | refine pair_fr (by assumption) ?_
  | exact rfl

theorem execAvsSettle_fr (s : State) : outFr (execAvsSettle s) s = s.fr := by
  unfold execAvsSettle
  repeat' first
  | with_reducible rfl
  | simp only [↓outFr_next, ↓outFr_fault, ↓outFr_onUnit, ↓outFr_ite, ↓fr_mk, ↓fr_mk_clock, ↓fr_mk_sec, ↓foldl_fr, ↓ite_fr, ↓ite_fst, ↓fold_fst_fr, ↓State.avsSettled_fr, ite_self, implies_true]
  | split
  | refine (foldl_fr _ (fun _ _ => ?_) _ _).trans ?_
  | refine (fold_fst_fr _ (fun _ _ => ?_) _ _).trans ?_
  | refine pair_fr (by assumption) ?_
  | exact rfl

theorem execAvsWriteFail_fr (s : State) : outFr (execAvsWriteFail s) s = s.fr := by
  unfold execAvsWriteFail
  repeat' first
  | with_reducible rfl
  | simp only [↓outFr_next, ↓outFr_fault, ↓outFr_onUnit, ↓outFr_ite, ↓fr_mk, ↓fr_mk_clock, ↓fr_mk_sec, ↓foldl_fr, ↓ite_fr, ↓ite_fst, ↓fold_fst_fr, ↓State.note_fr, ite_self, implies_true]
  | split
  | refine (foldl_fr _ (fun _ _ => ?_) _ _).trans ?_
  | refine (fold_fst_fr _ (fun _ _ => ?_) _ _).trans ?_
  | refine pair_fr (by assumption) ?_
  | exact rfl

theorem State.avsRetry_fr (s : State) : (State.avsRetry s).fr = s.fr := by
  unfold State.avsRetry
  simp only [↓fr_mk, ↓fr_mk_clock, ↓fr_mk_sec, ↓foldl_fr, ↓ite_fr, ↓State.avsStart_fr, ite_self, implies_true]

theorem execAvsRetryPeriod_fr (s : State) : outFr (execAvsRetryPeriod s) s = s.fr := by
  unfold execAvsRetryPeriod
  repeat' first
  | with_reducible rfl
  | simp only [↓outFr_next, ↓outFr_fault, ↓outFr_onUnit, ↓outFr_ite, ↓fr_mk, ↓fr_mk_clock, ↓fr_mk_sec, ↓foldl_fr, ↓ite_fr, ↓ite_fst, ↓fold_fst_fr, ↓State.avsRetry_fr, ite_self, implies_true]
  | split
  | refine (foldl_fr _ (fun _ _ => ?_) _ _).trans ?_
  | refine (fold_fst_fr _ (fun _ _ => ?_) _ _).trans ?_
  | refine pair_fr (by assumption) ?_
  | exact rfl

theorem State.cmpTrip_fr (s : State) (c src : Nat) (raises : Bool) : (State.cmpTrip s c src raises).fr = s.fr := by
  unfold State.cmpTrip
  simp only [↓fr_mk, ↓fr_mk_clock, ↓fr_mk_sec, ↓foldl_fr, ↓ite_fr, ↓State.putCmp_fr, ↓State.note_fr, ↓State.wake_fr, ite_self, implies_true]

theorem State.thermalTrip_fr (s : State) : (State.thermalTrip s).fr = s.fr := by
  unfold State.thermalTrip
  simp only [↓fr_mk, ↓fr_mk_clock, ↓fr_mk_sec, ↓foldl_fr, ↓ite_fr, ↓State.schedule_fr, ite_self, implies_true]

theorem State.thermalClear_fr (s : State) : (State.thermalClear s).fr = s.fr := by
  unfold State.thermalClear
  simp only [↓fr_mk, ↓fr_mk_clock, ↓fr_mk_sec, ↓foldl_fr, ↓ite_fr, ↓State.planPoint_fr, ite_self, implies_true]

theorem State.tcTrip_fr (s : State) (tc : Nat) : (State.tcTrip s tc).fr = s.fr := by
  unfold State.tcTrip
  repeat' first
  | with_reducible rfl
  | simp only [↓fr_mk, ↓fr_mk_clock, ↓fr_mk_sec, ↓foldl_fr, ↓ite_fr, ↓State.cmpTrip_fr, ↓State.thermalTrip_fr, ite_self, implies_true]
  | split
  | refine (foldl_fr _ (fun _ _ => ?_) _ _).trans ?_
  | refine (fold_fst_fr _ (fun _ _ => ?_) _ _).trans ?_
  | refine pair_fr (by assumption) ?_
  | exact rfl

theorem State.tcClear_fr (s : State) (tc : Nat) : (State.tcClear s tc).fr = s.fr := by
  unfold State.tcClear
  simp only [↓fr_mk, ↓fr_mk_clock, ↓fr_mk_sec, ↓foldl_fr, ↓ite_fr, ↓State.putCmp_fr, ↓State.note_fr, ↓State.thermalClear_fr, ite_self, implies_true]

theorem execThermalComparatorTrip_fr (tc tj : Nat) (s : State) : outFr (execThermalComparatorTrip tc tj s) s = s.fr := by
  unfold execThermalComparatorTrip
  repeat' first
  | with_reducible rfl
  | simp only [↓outFr_next, ↓outFr_fault, ↓outFr_onUnit, ↓outFr_ite, ↓fr_mk, ↓fr_mk_clock, ↓fr_mk_sec, ↓foldl_fr, ↓ite_fr, ↓ite_fst, ↓fold_fst_fr, ↓onUnit_fr, ↓State.coolPin_fr, ↓State.tcTrip_fr, ↓State.tcClear_fr, ite_self, implies_true]
  | split
  | refine (foldl_fr _ (fun _ _ => ?_) _ _).trans ?_
  | refine (fold_fst_fr _ (fun _ _ => ?_) _ _).trans ?_
  | refine pair_fr (by assumption) ?_
  | exact rfl

theorem execTimeCompareTrip_fr (cmp : Nat) (s : State) : outFr (execTimeCompareTrip cmp s) s = s.fr := by
  unfold execTimeCompareTrip
  repeat' first
  | with_reducible rfl
  | simp only [↓outFr_next, ↓outFr_fault, ↓outFr_onUnit, ↓outFr_ite, ↓fr_mk, ↓fr_mk_clock, ↓fr_mk_sec, ↓foldl_fr, ↓ite_fr, ↓ite_fst, ↓fold_fst_fr, ↓State.modCmp_fr, ↓onUnit_fr, ↓State.cmpTrip_fr, ite_self, implies_true]
  | split
  | refine (foldl_fr _ (fun _ _ => ?_) _ _).trans ?_
  | refine (fold_fst_fr _ (fun _ _ => ?_) _ _).trans ?_
  | refine pair_fr (by assumption) ?_
  | exact rfl

theorem execSupplyLow_fr (cmp mv : Nat) (s : State) : outFr (execSupplyLow cmp mv s) s = s.fr := by
  unfold execSupplyLow
  simp only [↓outFr_next, ↓outFr_fault, ↓outFr_onUnit, ↓outFr_ite, ↓fr_mk, ↓fr_mk_clock, ↓fr_mk_sec, ↓foldl_fr, ↓ite_fr, ↓ite_fst, ↓fold_fst_fr, ↓State.modCmp_fr, ↓onUnit_fr, ↓State.cmpTrip_fr, ite_self, implies_true]

theorem execExtLevelTrip_fr (cmp mv : Nat) (s : State) : outFr (execExtLevelTrip cmp mv s) s = s.fr := by
  unfold execExtLevelTrip
  simp only [↓outFr_next, ↓outFr_fault, ↓outFr_onUnit, ↓outFr_ite, ↓fr_mk, ↓fr_mk_clock, ↓fr_mk_sec, ↓foldl_fr, ↓ite_fr, ↓ite_fst, ↓fold_fst_fr, ↓State.modCmp_fr, ↓onUnit_fr, ↓State.cmpTrip_fr, ite_self, implies_true]

theorem execThermtrip_fr (s : State) : outFr (execThermtrip s) s = s.fr := by
  unfold execThermtrip
  simp only [↓outFr_next, ↓outFr_fault, ↓outFr_onUnit, ↓outFr_ite, ↓fr_mk, ↓fr_mk_clock, ↓fr_mk_sec, ↓foldl_fr, ↓ite_fr, ↓ite_fst, ↓fold_fst_fr, ↓State.note_fr, ite_self, implies_true]

theorem execGatehouseClockLost_fr (s : State) : outFr (execGatehouseClockLost s) s = s.fr := by
  unfold execGatehouseClockLost
  simp only [↓outFr_next, ↓outFr_fault, ↓outFr_onUnit, ↓outFr_ite, ↓fr_mk, ↓fr_mk_clock, ↓fr_mk_sec, ↓foldl_fr, ↓ite_fr, ↓ite_fst, ↓fold_fst_fr, ↓State.raise_fr, ite_self, implies_true]

theorem execWakeWaveEnd_fr (west : Bool) (s : State) : outFr (execWakeWaveEnd west s) s = s.fr := by
  unfold execWakeWaveEnd
  repeat' first
  | with_reducible rfl
  | simp only [↓outFr_next, ↓outFr_fault, ↓outFr_onUnit, ↓outFr_ite, ↓fr_mk, ↓fr_mk_clock, ↓fr_mk_sec, ↓foldl_fr, ↓ite_fr, ↓ite_fst, ↓fold_fst_fr, ite_self, implies_true]
  | split
  | refine (foldl_fr _ (fun _ _ => ?_) _ _).trans ?_
  | refine (fold_fst_fr _ (fun _ _ => ?_) _ _).trans ?_
  | refine pair_fr (by assumption) ?_
  | exact rfl

theorem State.applyHost_fr (s : State) (op : Nat) : (State.applyHost s op).fr = s.fr := by
  unfold State.applyHost
  simp only [↓fr_mk, ↓fr_mk_clock, ↓fr_mk_sec, ↓foldl_fr, ↓ite_fr, ite_self, implies_true]

theorem State.applyThermal_fr (s : State) : (State.applyThermal s).fr = s.fr := by
  unfold State.applyThermal
  simp only [↓fr_mk, ↓fr_mk_clock, ↓fr_mk_sec, ↓foldl_fr, ↓ite_fr, ite_self, implies_true]

theorem State.settlePoint_fr (s : State) (old : Nat) (demands : Bool) : (State.settlePoint s old demands).fr = s.fr := by
  unfold State.settlePoint
  simp only [↓fr_mk, ↓fr_mk_clock, ↓fr_mk_sec, ↓foldl_fr, ↓ite_fr, ↓State.pointNotices_fr, ↓State.planPoint_fr, ite_self, implies_true]

theorem State.applyCompat_fr (s : State) (freqs : Option (List Nat)) : (State.applyCompat s freqs).fr = s.fr := by
  unfold State.applyCompat
  simp only [↓fr_mk, ↓fr_mk_clock, ↓fr_mk_sec, ↓foldl_fr, ↓ite_fr, ite_self, implies_true]

theorem State.setCap_fr (s : State) (cap window margin : Option Nat) : (State.setCap s cap window margin).fr = s.fr := by
  unfold State.setCap
  simp only [↓fr_mk, ↓fr_mk_clock, ↓fr_mk_sec, ↓foldl_fr, ↓ite_fr, ite_self, implies_true]

theorem State.ackAgain_fr (s : State) : (State.ackAgain s).fr = s.fr := by
  unfold State.ackAgain
  simp only [↓fr_mk, ↓fr_mk_clock, ↓fr_mk_sec, ↓foldl_fr, ↓ite_fr, ite_self, implies_true]

theorem State.colonnadeDown_fr (s : State) (src : Nat) : (State.colonnadeDown s src).fr = s.fr := by
  unfold State.colonnadeDown
  simp only [↓fr_mk, ↓fr_mk_clock, ↓fr_mk_sec, ↓foldl_fr, ↓ite_fr, ↓State.note_fr, ↓State.disconnect_fr, ite_self, implies_true]

theorem State.takeAck_fr (s : State) (ack : Nat) : (State.takeAck s ack).fr = s.fr := by
  unfold State.takeAck
  simp only [↓fr_mk, ↓fr_mk_clock, ↓fr_mk_sec, ↓foldl_fr, ↓ite_fr, ↓State.colPut_fr, ite_self, implies_true]

theorem State.resendAll_fr (s : State) : (State.resendAll s).fr = s.fr := by
  unfold State.resendAll
  simp only [↓fr_mk, ↓fr_mk_clock, ↓fr_mk_sec, ↓foldl_fr, ↓ite_fr, ↓State.bumpBy_fr, ↓State.note_fr, ↓State.colPut_fr, ite_self, implies_true]

theorem State.resend_fr (s : State) : (State.resend s).fr = s.fr := by
  unfold State.resend
  repeat' first
  | with_reducible rfl
  | simp only [↓fr_mk, ↓fr_mk_clock, ↓fr_mk_sec, ↓foldl_fr, ↓ite_fr, ↓State.colonnadeDown_fr, ↓State.resendAll_fr, ite_self, implies_true]
  | split
  | refine (foldl_fr _ (fun _ _ => ?_) _ _).trans ?_
  | refine (fold_fst_fr _ (fun _ _ => ?_) _ _).trans ?_
  | refine pair_fr (by assumption) ?_
  | exact rfl

theorem State.tagFailed_fr (s : State) : (State.tagFailed s).fr = s.fr := by
  unfold State.tagFailed
  simp only [↓fr_mk, ↓fr_mk_clock, ↓fr_mk_sec, ↓foldl_fr, ↓ite_fr, ↓State.ackAgain_fr, ↓State.colonnadeDown_fr, ite_self, implies_true]

theorem State.loadLinkKey_fr (s : State) (n : Nat) : (State.loadLinkKey s n).fr = s.fr := by
  unfold State.loadLinkKey
  simp only [↓fr_mk, ↓fr_mk_clock, ↓fr_mk_sec, ↓foldl_fr, ↓ite_fr, ↓State.putLaCtx_fr, ↓State.draw_fr, ite_self, implies_true]

theorem State.moveKey_fr (s : State) (ctx k moves : Nat) : (State.moveKey s ctx k moves).fr = s.fr := by
  unfold State.moveKey
  simp only [↓fr_mk, ↓fr_mk_clock, ↓fr_mk_sec, ↓foldl_fr, ↓ite_fr, ↓State.loadLinkKey_fr, ite_self, implies_true]

theorem State.rxKey_fr (s : State) (k : Nat) : (State.rxKey s k).fr = s.fr := by
  unfold State.rxKey
  simp only [↓fr_mk, ↓fr_mk_clock, ↓fr_mk_sec, ↓foldl_fr, ↓ite_fr, ↓State.moveKey_fr, ite_self, implies_true]

theorem State.ackAlone_fr (s : State) (ack : Nat) : (State.ackAlone s ack).fr = s.fr := by
  unfold State.ackAlone
  simp only [↓fr_mk, ↓fr_mk_clock, ↓fr_mk_sec, ↓foldl_fr, ↓ite_fr, ↓State.takeAck_fr, ↓State.resend_fr, ite_self, implies_true]

theorem execColonnadeFrameRx_fr (f : ColHdr) (tagOk cwOk : Bool) (s : State) : outFr (execColonnadeFrameRx f tagOk cwOk s) s = s.fr := by
  unfold execColonnadeFrameRx
  simp only [↓outFr_next, ↓outFr_fault, ↓outFr_onUnit, ↓outFr_ite, ↓fr_mk, ↓fr_mk_clock, ↓fr_mk_sec, ↓foldl_fr, ↓ite_fr, ↓ite_fst, ↓fold_fst_fr, ↓State.bump_fr, ↓State.ackAgain_fr, ↓State.takeAck_fr, ↓State.tagFailed_fr, ↓State.rxKey_fr, ↓State.ackAlone_fr, ite_self, implies_true]

theorem execColonnadeResend_fr (s : State) : outFr (execColonnadeResend s) s = s.fr := by
  unfold execColonnadeResend
  repeat' first
  | with_reducible rfl
  | simp only [↓outFr_next, ↓outFr_fault, ↓outFr_onUnit, ↓outFr_ite, ↓fr_mk, ↓fr_mk_clock, ↓fr_mk_sec, ↓foldl_fr, ↓ite_fr, ↓ite_fst, ↓fold_fst_fr, ↓State.resend_fr, ite_self, implies_true]
  | split
  | refine (foldl_fr _ (fun _ _ => ?_) _ _).trans ?_
  | refine (fold_fst_fr _ (fun _ _ => ?_) _ _).trans ?_
  | refine pair_fr (by assumption) ?_
  | exact rfl

theorem execColonnadeKeyRollover_fr (s : State) : outFr (execColonnadeKeyRollover s) s = s.fr := by
  unfold execColonnadeKeyRollover
  simp only [↓outFr_next, ↓outFr_fault, ↓outFr_onUnit, ↓outFr_ite, ↓fr_mk, ↓fr_mk_clock, ↓fr_mk_sec, ↓foldl_fr, ↓ite_fr, ↓ite_fst, ↓fold_fst_fr, ↓State.moveKey_fr, ite_self, implies_true]

theorem State.sendHello_fr (s : State) : (State.sendHello s).fr = s.fr := by
  unfold State.sendHello
  simp only [↓fr_mk, ↓fr_mk_clock, ↓fr_mk_sec, ↓foldl_fr, ↓ite_fr, ↓State.colSend_fr, ite_self, implies_true]

theorem State.connect_fr (s : State) (version : Nat) : (State.connect s version).fr = s.fr := by
  unfold State.connect
  repeat' first
  | with_reducible rfl
  | simp only [↓fr_mk, ↓fr_mk_clock, ↓fr_mk_sec, ↓foldl_fr, ↓ite_fr, ↓State.enterTwin_fr, ↓State.loadLinkKey_fr, ↓State.sendHello_fr, ite_self, implies_true]
  | split
  | refine (foldl_fr _ (fun _ _ => ?_) _ _).trans ?_
  | refine (fold_fst_fr _ (fun _ _ => ?_) _ _).trans ?_
  | refine pair_fr (by assumption) ?_
  | exact rfl

theorem execColonnadeHelloRx_fr (m : ColHello) (s : State) : outFr (execColonnadeHelloRx m s) s = s.fr := by
  unfold execColonnadeHelloRx
  simp only [↓outFr_next, ↓outFr_fault, ↓outFr_onUnit, ↓outFr_ite, ↓fr_mk, ↓fr_mk_clock, ↓fr_mk_sec, ↓foldl_fr, ↓ite_fr, ↓ite_fst, ↓fold_fst_fr, ↓State.note_fr, ↓State.connect_fr, ite_self, implies_true]

theorem State.sendBeat_fr (s : State) : (State.sendBeat s).fr = s.fr := by
  unfold State.sendBeat
  simp only [↓fr_mk, ↓fr_mk_clock, ↓fr_mk_sec, ↓foldl_fr, ↓ite_fr, ↓State.colSend_fr, ite_self, implies_true]

theorem execHeartbeatRx_fr (role state : Nat) (version : BitVec 48) (lastTxn : Nat) (s : State) : outFr (execHeartbeatRx role state version lastTxn s) s = s.fr := by
  unfold execHeartbeatRx
  simp only [↓outFr_next, ↓outFr_fault, ↓outFr_onUnit, ↓outFr_ite, ↓fr_mk, ↓fr_mk_clock, ↓fr_mk_sec, ↓foldl_fr, ↓ite_fr, ↓ite_fst, ↓fold_fst_fr, ite_self, implies_true]

theorem State.startPlaneDown_fr (s : State) : (State.startPlaneDown s).fr = s.fr := by
  unfold State.startPlaneDown
  simp only [↓fr_mk, ↓fr_mk_clock, ↓fr_mk_sec, ↓foldl_fr, ↓ite_fr, ite_self, implies_true]

theorem State.twinLost_fr (s : State) : (State.twinLost s).fr = s.fr := by
  unfold State.twinLost
  simp only [↓fr_mk, ↓fr_mk_clock, ↓fr_mk_sec, ↓foldl_fr, ↓ite_fr, ↓State.note_fr, ↓State.disconnect_fr, ↓State.startPlaneDown_fr, ite_self, implies_true]

theorem execHeartbeatIntervalMissed_fr (s : State) : outFr (execHeartbeatIntervalMissed s) s = s.fr := by
  unfold execHeartbeatIntervalMissed
  simp only [↓outFr_next, ↓outFr_fault, ↓outFr_onUnit, ↓outFr_ite, ↓fr_mk, ↓fr_mk_clock, ↓fr_mk_sec, ↓foldl_fr, ↓ite_fr, ↓ite_fst, ↓fold_fst_fr, ↓State.bump_fr, ↓State.twinLost_fr, ite_self, implies_true]

theorem State.planeDownFrame_fr (s : State) (port : Nat) : (State.planeDownFrame s port).fr = s.fr := by
  unfold State.planeDownFrame
  simp only [↓fr_mk, ↓fr_mk_clock, ↓fr_mk_sec, ↓foldl_fr, ↓ite_fr, ↓ite_fst, ↓fold_fst_fr, ↓State.bump_fr, ↓State.generate_fr, ite_self, implies_true]

theorem State.planeDownNext_fr (s : State) (e : Nat × Nat × Nat) (rest : List (Nat × Nat × Nat)) : (State.planeDownNext s e rest).fr = s.fr := by
  unfold State.planeDownNext
  simp only [↓fr_mk, ↓fr_mk_clock, ↓fr_mk_sec, ↓foldl_fr, ↓ite_fr, ↓State.note_fr, ↓State.planeDownFrame_fr, ite_self, implies_true]

theorem execPlaneDownFrameSend_fr (s : State) : outFr (execPlaneDownFrameSend s) s = s.fr := by
  unfold execPlaneDownFrameSend
  repeat' first
  | with_reducible rfl
  | simp only [↓outFr_next, ↓outFr_fault, ↓outFr_onUnit, ↓outFr_ite, ↓fr_mk, ↓fr_mk_clock, ↓fr_mk_sec, ↓foldl_fr, ↓ite_fr, ↓ite_fst, ↓fold_fst_fr, ↓State.planeDownNext_fr, ite_self, implies_true]
  | split
  | refine (foldl_fr _ (fun _ _ => ?_) _ _).trans ?_
  | refine (fold_fst_fr _ (fun _ _ => ?_) _ _).trans ?_
  | refine pair_fr (by assumption) ?_
  | exact rfl

theorem State.steer_fr (s : State) : (State.steer s).fr = s.fr := by
  unfold State.steer
  simp only [↓fr_mk, ↓fr_mk_clock, ↓fr_mk_sec, ↓foldl_fr, ↓ite_fr, ↓State.modDomain_fr, ↓State.draw_fr, ite_self, implies_true]

theorem State.steerBy_fr (s : State) (off : Int) : (State.steerBy s off).fr = s.fr := by
  unfold State.steerBy
  simp only [↓fr_mk, ↓fr_mk_clock, ↓fr_mk_sec, ↓foldl_fr, ↓ite_fr, ↓State.stepTo_fr, ↓State.steer_fr, ite_self, implies_true]

theorem execTwinTimeRx_fr (t : TimePair) (m : EpochMark) (s : State) : outFr (execTwinTimeRx t m s) s = s.fr := by
  unfold execTwinTimeRx
  repeat' first
  | with_reducible rfl
  | simp only [↓outFr_next, ↓outFr_fault, ↓outFr_onUnit, ↓outFr_ite, ↓fr_mk, ↓fr_mk_clock, ↓fr_mk_sec, ↓foldl_fr, ↓ite_fr, ↓ite_fst, ↓fold_fst_fr, ↓State.note_fr, ↓State.steerBy_fr, ite_self, implies_true]
  | split
  | refine (foldl_fr _ (fun _ _ => ?_) _ _).trans ?_
  | refine (fold_fst_fr _ (fun _ _ => ?_) _ _).trans ?_
  | refine pair_fr (by assumption) ?_
  | exact rfl

theorem State.joinFailed_fr (s : State) : (State.joinFailed s).fr = s.fr := by
  unfold State.joinFailed
  simp only [↓fr_mk, ↓fr_mk_clock, ↓fr_mk_sec, ↓foldl_fr, ↓ite_fr, ↓State.resyncFailed_fr, ite_self, implies_true]

theorem State.sweepJoin_fr (s : State) : (State.sweepJoin s).fr = s.fr := by
  unfold State.sweepJoin
  repeat' first
  | with_reducible rfl
  | simp only [↓fr_mk, ↓fr_mk_clock, ↓fr_mk_sec, ↓foldl_fr, ↓ite_fr, ↓State.refuseHeld_fr, ite_self, implies_true]
  | split
  | refine (foldl_fr _ (fun _ _ => ?_) _ _).trans ?_
  | refine (fold_fst_fr _ (fun _ _ => ?_) _ _).trans ?_
  | refine pair_fr (by assumption) ?_
  | exact rfl

theorem execEpochAlign_fr (m : EpochMark) (extra : Nat) (s : State) : outFr (execEpochAlign m extra s) s = s.fr := by
  unfold execEpochAlign
  simp only [↓outFr_next, ↓outFr_fault, ↓outFr_onUnit, ↓outFr_ite, ↓fr_mk, ↓fr_mk_clock, ↓fr_mk_sec, ↓foldl_fr, ↓ite_fr, ↓ite_fst, ↓fold_fst_fr, ↓State.note_fr, ↓State.joinFailed_fr, ite_self, implies_true]

theorem State.discardForwarding_fr (s : State) : (State.discardForwarding s).fr = s.fr := by
  unfold State.discardForwarding
  repeat' first
  | with_reducible rfl
  | simp only [↓fr_mk, ↓fr_mk_clock, ↓fr_mk_sec, ↓foldl_fr, ↓ite_fr, ↓ite_fst, ↓fold_fst_fr, ite_self, implies_true]
  | split
  | refine (foldl_fr _ (fun _ _ => ?_) _ _).trans ?_
  | refine (fold_fst_fr _ (fun _ _ => ?_) _ _).trans ?_
  | refine pair_fr (by assumption) ?_
  | exact rfl

theorem State.sendState_fr (s : State) : (State.sendState s).fr = s.fr := by
  unfold State.sendState
  repeat' first
  | with_reducible rfl
  | simp only [↓fr_mk, ↓fr_mk_clock, ↓fr_mk_sec, ↓foldl_fr, ↓ite_fr, ↓State.colSend_fr, ite_self, implies_true]
  | split
  | refine (foldl_fr _ (fun _ _ => ?_) _ _).trans ?_
  | refine (fold_fst_fr _ (fun _ _ => ?_) _ _).trans ?_
  | refine pair_fr (by assumption) ?_
  | exact rfl

theorem execResyncStart_fr (s : State) : outFr (execResyncStart s) s = s.fr := by
  unfold execResyncStart
  repeat' first
  | with_reducible rfl
  | simp only [↓outFr_next, ↓outFr_fault, ↓outFr_onUnit, ↓outFr_ite, ↓fr_mk, ↓fr_mk_clock, ↓fr_mk_sec, ↓foldl_fr, ↓ite_fr, ↓ite_fst, ↓fold_fst_fr, ↓State.reply_fr, ↓State.discardForwarding_fr, ↓State.sendState_fr, ite_self, implies_true]
  | split
  | refine (foldl_fr _ (fun _ _ => ?_) _ _).trans ?_
  | refine (fold_fst_fr _ (fun _ _ => ?_) _ _).trans ?_
  | refine pair_fr (by assumption) ?_
  | exact rfl

theorem State.tagWrite_fr (s : State) (slot : Nat) : (State.tagWrite s slot).fr = s.fr := by
  unfold State.tagWrite
  simp only [↓fr_mk, ↓fr_mk_clock, ↓fr_mk_sec, ↓foldl_fr, ↓ite_fr, ↓State.modWriteTag_fr, ite_self, implies_true]

theorem State.placeStep_fr (s : State) (p : PlanStep) : (State.placeStep s p).fr = s.fr := by
  unfold State.placeStep
  repeat' first
  | with_reducible rfl
  | simp only [↓fr_mk, ↓fr_mk_clock, ↓fr_mk_sec, ↓foldl_fr, ↓ite_fr, ↓ite_fst, ↓fold_fst_fr, ↓State.landBucket_fr, ↓State.landStash_fr, ite_self, implies_true]
  | split
  | refine (foldl_fr _ (fun _ _ => ?_) _ _).trans ?_
  | refine (fold_fst_fr _ (fun _ _ => ?_) _ _).trans ?_
  | refine pair_fr (by assumption) ?_
  | exact rfl

theorem State.placeEntry_fr (s : State) (table : Nat) (key : BitVec 320) (slots : List (BitVec 256)) : (State.placeEntry s table key slots).fr = s.fr := by
  unfold State.placeEntry
  repeat' first
  | with_reducible rfl
  | simp only [↓fr_mk, ↓fr_mk_clock, ↓fr_mk_sec, ↓foldl_fr, ↓ite_fr, ↓State.placeStep_fr, ite_self, implies_true]
  | split
  | refine (foldl_fr _ (fun _ _ => ?_) _ _).trans ?_
  | refine (fold_fst_fr _ (fun _ _ => ?_) _ _).trans ?_
  | refine pair_fr (by assumption) ?_
  | exact rfl

theorem State.putItem_fr (s : State) (i : ResyncItem) : (State.putItem s i).fr = s.fr := by
  unfold State.putItem
  repeat' first
  | with_reducible rfl
  | simp only [↓fr_mk, ↓fr_mk_clock, ↓fr_mk_sec, ↓foldl_fr, ↓ite_fr, ↓ite_fst, ↓fold_fst_fr, ↓State.putObjAt_fr, ↓State.putPrefixAt_fr, ↓State.putRange_fr, ↓State.modTable_fr, ↓State.putEmSlot_fr, ↓State.putEmProfile_fr, ↓State.putLpmProfile_fr, ↓State.putPool_fr, ↓State.putMgroup_fr, ↓State.modEqueue_fr, ↓State.modEport_fr, ↓State.withSeeds_fr, ↓State.applyTableCreate_fr, ↓State.tagWrite_fr, ↓State.placeEntry_fr, ite_self, implies_true]
  | split
  | refine (foldl_fr _ (fun _ _ => ?_) _ _).trans ?_
  | refine (fold_fst_fr _ (fun _ _ => ?_) _ _).trans ?_
  | refine pair_fr (by assumption) ?_
  | exact rfl

theorem execResyncRx_fr (id : Nat) (payload : List Byte) (s : State) : outFr (execResyncRx id payload s) s = s.fr := by
  unfold execResyncRx
  repeat' first
  | with_reducible rfl
  | simp only [↓outFr_next, ↓outFr_fault, ↓outFr_onUnit, ↓outFr_ite, ↓fr_mk, ↓fr_mk_clock, ↓fr_mk_sec, ↓foldl_fr, ↓ite_fr, ↓ite_fst, ↓fold_fst_fr, ↓State.putItem_fr, ite_self, implies_true]
  | split
  | refine (foldl_fr _ (fun _ _ => ?_) _ _).trans ?_
  | refine (fold_fst_fr _ (fun _ _ => ?_) _ _).trans ?_
  | refine pair_fr (by assumption) ?_
  | exact rfl

theorem execResyncDigestCompare_fr (peer peerConfig : BitVec 384) (peerCount : Nat) (s : State) : outFr (execResyncDigestCompare peer peerConfig peerCount s) s = s.fr := by
  unfold execResyncDigestCompare
  simp only [↓outFr_next, ↓outFr_fault, ↓outFr_onUnit, ↓outFr_ite, ↓fr_mk, ↓fr_mk_clock, ↓fr_mk_sec, ↓foldl_fr, ↓ite_fr, ↓ite_fst, ↓fold_fst_fr, ↓State.due_fr, ↓State.joinFailed_fr, ite_self, implies_true]

theorem State.applyResyncEnd_fr (s : State) (config : BitVec 384) (count : Nat) : (State.applyResyncEnd s config count).fr = s.fr := by
  unfold State.applyResyncEnd
  first
  | (simp only [↓fr_mk, ↓fr_mk_clock, ↓fr_mk_sec, ↓foldl_fr, ↓ite_fr, ↓State.note_fr, ↓State.joinFailed_fr, ite_self, implies_true]; done)
  | exact rfl

theorem execTwinThrottleRx_fr (n : ThrottleNote) (s : State) : outFr (execTwinThrottleRx n s) s = s.fr := by
  unfold execTwinThrottleRx
  simp only [↓outFr_next, ↓outFr_fault, ↓outFr_onUnit, ↓outFr_ite, ↓fr_mk, ↓fr_mk_clock, ↓fr_mk_sec, ↓foldl_fr, ↓ite_fr, ↓ite_fst, ↓fold_fst_fr, ↓State.note_fr, ite_self, implies_true]

theorem State.detached_fr (s : State) : (State.detached s).fr = s.fr := by
  unfold State.detached
  simp only [↓State.note_fr, ↓State.disconnect_fr]

theorem State.applyDetach_fr (s : State) : (State.applyDetach s).fr = s.fr := by
  unfold State.applyDetach
  simp only [↓ite_fr, ↓State.detached_fr, ↓State.colSend_fr, ite_self]

theorem State.applyRoleSwap_fr (s : State) : (State.applyRoleSwap s).fr = s.fr := by
  unfold State.applyRoleSwap
  repeat' first
  | with_reducible rfl
  | simp only [↓fr_mk, ↓fr_mk_clock, ↓fr_mk_sec, ↓foldl_fr, ↓ite_fr, ↓State.leaveTwin_fr, ↓State.enterTwin_fr, ite_self, implies_true]
  | split
  | refine (foldl_fr _ (fun _ _ => ?_) _ _).trans ?_
  | refine (fold_fst_fr _ (fun _ _ => ?_) _ _).trans ?_
  | refine pair_fr (by assumption) ?_
  | exact rfl

theorem State.applyDrain_fr (s : State) (on : Bool) : (State.applyDrain s on).fr = s.fr := by
  unfold State.applyDrain
  simp only [↓fr_mk, ↓fr_mk_clock, ↓fr_mk_sec, ↓foldl_fr, ↓ite_fr, ite_self, implies_true]

theorem State.ringOutHeld_fr (s : State) (west : Bool) (f : RingFrame) (held : Option Nat) : (State.ringOutHeld s west f held).fr = s.fr := by
  unfold State.ringOutHeld
  simp only [↓fr_mk, ↓fr_mk_clock, ↓fr_mk_sec, ↓foldl_fr, ↓ite_fr, ↓State.ringRoom_fr, ite_self, implies_true]

theorem State.ringOut_fr (s : State) (west : Bool) (f : RingFrame) : (State.ringOut s west f).fr = s.fr := by
  unfold State.ringOut
  simp only [↓fr_mk, ↓fr_mk_clock, ↓fr_mk_sec, ↓foldl_fr, ↓ite_fr, ↓State.ringOutHeld_fr, ite_self, implies_true]

theorem State.relayFrame_fr (s : State) (west : Bool) (f : RingFrame) : (State.relayFrame s west f).fr = s.fr := by
  unfold State.relayFrame
  simp only [↓fr_mk, ↓fr_mk_clock, ↓fr_mk_sec, ↓foldl_fr, ↓ite_fr, ↓State.putPkt_fr, ↓State.bump_fr, ↓State.raiseOnce_fr, ↓State.startCells_fr, ↓State.ringOutHeld_fr, ite_self, implies_true]

theorem State.hopAcked_fr (s : State) (west : Bool) : (State.hopAcked s west).fr = s.fr := by
  unfold State.hopAcked
  repeat' first
  | with_reducible rfl
  | simp only [↓fr_mk, ↓fr_mk_clock, ↓fr_mk_sec, ↓foldl_fr, ↓ite_fr, ↓State.ringRoom_fr, ↓State.releaseHeld_fr, ite_self, implies_true]
  | split
  | refine (foldl_fr _ (fun _ _ => ?_) _ _).trans ?_
  | refine (fold_fst_fr _ (fun _ _ => ?_) _ _).trans ?_
  | refine pair_fr (by assumption) ?_
  | exact rfl

theorem State.joinSegment_fr (s : State) (f : RingFrame) : (State.joinSegment s f).fr = s.fr := by
  unfold State.joinSegment
  simp only [↓fr_mk, ↓fr_mk_clock, ↓fr_mk_sec, ↓foldl_fr, ↓ite_fr, ite_self, implies_true]

theorem execRingFrameRx_fr (west : Bool) (f : RingFrame) (s : State) : outFr (execRingFrameRx west f s) s = s.fr := by
  unfold execRingFrameRx
  first
  | (simp only [↓outFr_next, ↓outFr_fault, ↓outFr_onUnit, ↓outFr_ite, ↓fr_mk, ↓fr_mk_clock, ↓fr_mk_sec, ↓foldl_fr, ↓ite_fr, ↓ite_fst, ↓fold_fst_fr, ↓State.bump_fr, ↓State.relayFrame_fr, ↓State.hopAcked_fr, ↓State.joinSegment_fr, ite_self, implies_true]; done)
  | exact rfl

theorem execRingHopResend_fr (west : Bool) (s : State) : outFr (execRingHopResend west s) s = s.fr := by
  unfold execRingHopResend
  simp only [↓outFr_next, ↓outFr_fault, ↓outFr_onUnit, ↓outFr_ite, ↓fr_mk, ↓fr_mk_clock, ↓fr_mk_sec, ↓foldl_fr, ↓ite_fr, ↓ite_fst, ↓fold_fst_fr, ↓State.bumpBy_fr, ↓State.note_fr, ite_self, implies_true]

theorem execRingReplyRx_fr (id status : Nat) (rest : ReplyRest) (result addr : BitVec 64) (s : State) : outFr (execRingReplyRx id status rest result addr s) s = s.fr := by
  unfold execRingReplyRx
  repeat' first
  | with_reducible rfl
  | simp only [↓outFr_next, ↓outFr_fault, ↓outFr_onUnit, ↓outFr_ite, ↓fr_mk, ↓fr_mk_clock, ↓fr_mk_sec, ↓foldl_fr, ↓ite_fr, ↓ite_fst, ↓fold_fst_fr, ↓State.sendReply_fr, ite_self, implies_true]
  | split
  | refine (foldl_fr _ (fun _ _ => ?_) _ _).trans ?_
  | refine (fold_fst_fr _ (fun _ _ => ?_) _ _).trans ?_
  | refine pair_fr (by assumption) ?_
  | exact rfl

theorem State.enumSoon_fr (s : State) : (State.enumSoon s).fr = s.fr := by
  unfold State.enumSoon
  simp only [↓fr_mk, ↓fr_mk_clock, ↓fr_mk_sec, ↓foldl_fr, ↓ite_fr, ite_self, implies_true]

theorem State.remoteBreak_fr (s : State) (dev source port : Nat) : (State.remoteBreak s dev source port).fr = s.fr := by
  unfold State.remoteBreak
  simp only [↓fr_mk, ↓fr_mk_clock, ↓fr_mk_sec, ↓foldl_fr, ↓ite_fr, ↓State.enumSoon_fr, ite_self, implies_true]

theorem execRingEventRx_fr (dev ring : Nat) (record : BitVec 256) (s : State) : outFr (execRingEventRx dev ring record s) s = s.fr := by
  unfold execRingEventRx
  first
  | (simp only [↓outFr_next, ↓outFr_fault, ↓outFr_onUnit, ↓outFr_ite, ↓fr_mk, ↓fr_mk_clock, ↓fr_mk_sec, ↓foldl_fr, ↓ite_fr, ↓ite_fst, ↓fold_fst_fr, ↓onUnit_fr, ↓State.record_fr, ↓State.writeEvent_fr, ↓State.remoteBreak_fr, ite_self, implies_true]; done)
  | exact rfl

theorem execRingThrottleRx_fr (src : Nat) (n : ThrottleNote) (s : State) : outFr (execRingThrottleRx src n s) s = s.fr := by
  unfold execRingThrottleRx
  repeat' first
  | with_reducible rfl
  | simp only [↓outFr_next, ↓outFr_fault, ↓outFr_onUnit, ↓outFr_ite, ↓fr_mk, ↓fr_mk_clock, ↓fr_mk_sec, ↓foldl_fr, ↓ite_fr, ↓ite_fst, ↓fold_fst_fr, ↓State.note_fr, ite_self, implies_true]
  | split
  | refine (foldl_fr _ (fun _ _ => ?_) _ _).trans ?_
  | refine (fold_fst_fr _ (fun _ _ => ?_) _ _).trans ?_
  | refine pair_fr (by assumption) ?_
  | exact rfl

theorem execRingEnumRx_fr (src : Nat) (west : Bool) (hops : Nat) (s : State) : outFr (execRingEnumRx src west hops s) s = s.fr := by
  unfold execRingEnumRx
  first
  | (simp only [↓outFr_next, ↓outFr_fault, ↓outFr_onUnit, ↓outFr_ite, ↓fr_mk, ↓fr_mk_clock, ↓fr_mk_sec, ↓foldl_fr, ↓ite_fr, ↓ite_fst, ↓fold_fst_fr, ↓State.draw_fr, ↓State.ringSend_fr, ↓State.note_fr, ite_self, implies_true]; done)
  | exact rfl

theorem State.newMap_fr (s : State) (replies : List EnumReply) : (State.newMap s replies).fr = s.fr := by
  unfold State.newMap
  repeat' first
  | with_reducible rfl
  | simp only [↓fr_mk, ↓fr_mk_clock, ↓fr_mk_sec, ↓foldl_fr, ↓ite_fr, ↓State.note_fr, ite_self, implies_true]
  | split
  | refine (foldl_fr _ (fun _ _ => ?_) _ _).trans ?_
  | refine (fold_fst_fr _ (fun _ _ => ?_) _ _).trans ?_
  | refine pair_fr (by assumption) ?_
  | exact rfl

theorem State.answerEnumerate_fr (s : State) : (State.answerEnumerate s).fr = s.fr := by
  unfold State.answerEnumerate
  repeat' first
  | with_reducible rfl
  | simp only [↓fr_mk, ↓fr_mk_clock, ↓fr_mk_sec, ↓foldl_fr, ↓ite_fr, ↓State.reply_fr, ite_self, implies_true]
  | split
  | refine (foldl_fr _ (fun _ _ => ?_) _ _).trans ?_
  | refine (fold_fst_fr _ (fun _ _ => ?_) _ _).trans ?_
  | refine pair_fr (by assumption) ?_
  | exact rfl

theorem execRingEnumReplyRx_fr (replies : List EnumReply) (s : State) : outFr (execRingEnumReplyRx replies s) s = s.fr := by
  unfold execRingEnumReplyRx
  repeat' first
  | with_reducible rfl
  | simp only [↓outFr_next, ↓outFr_fault, ↓outFr_onUnit, ↓outFr_ite, ↓fr_mk, ↓fr_mk_clock, ↓fr_mk_sec, ↓foldl_fr, ↓ite_fr, ↓ite_fst, ↓fold_fst_fr, ↓State.note_fr, ↓State.newMap_fr, ↓State.answerEnumerate_fr, ite_self, implies_true]
  | split
  | refine (foldl_fr _ (fun _ _ => ?_) _ _).trans ?_
  | refine (fold_fst_fr _ (fun _ _ => ?_) _ _).trans ?_
  | refine pair_fr (by assumption) ?_
  | exact rfl

theorem execRingJoinRx_fr (_src : Nat) (s : State) : outFr (execRingJoinRx _src s) s = s.fr := by
  unfold execRingJoinRx
  simp only [↓outFr_next, ↓outFr_fault, ↓outFr_onUnit, ↓outFr_ite, ↓fr_mk, ↓fr_mk_clock, ↓fr_mk_sec, ↓foldl_fr, ↓ite_fr, ↓ite_fst, ↓fold_fst_fr, ↓State.enumSoon_fr, ite_self, implies_true]

theorem State.enumerate_fr (s : State) : (State.enumerate s).fr = s.fr := by
  unfold State.enumerate
  first
  | (simp only [↓fr_mk, ↓fr_mk_clock, ↓fr_mk_sec, ↓foldl_fr, ↓ite_fr, ↓State.ringOut_fr, ite_self, implies_true]; done)
  | exact rfl

theorem execRingEnumeratePeriod_fr (s : State) : outFr (execRingEnumeratePeriod s) s = s.fr := by
  unfold execRingEnumeratePeriod
  simp only [↓outFr_next, ↓outFr_fault, ↓outFr_onUnit, ↓outFr_ite, ↓fr_mk, ↓fr_mk_clock, ↓fr_mk_sec, ↓foldl_fr, ↓ite_fr, ↓ite_fst, ↓fold_fst_fr, ↓State.enumerate_fr, ite_self, implies_true]

theorem execRingBreak_fr (west : Bool) (s : State) : outFr (execRingBreak west s) s = s.fr := by
  unfold execRingBreak
  repeat' first
  | with_reducible rfl
  | simp only [↓outFr_next, ↓outFr_fault, ↓outFr_onUnit, ↓outFr_ite, ↓fr_mk, ↓fr_mk_clock, ↓fr_mk_sec, ↓foldl_fr, ↓ite_fr, ↓ite_fst, ↓fold_fst_fr, ↓State.note_fr, ↓State.ringOutHeld_fr, ↓State.enumSoon_fr, ite_self, implies_true]
  | split
  | refine (foldl_fr _ (fun _ _ => ?_) _ _).trans ?_
  | refine (fold_fst_fr _ (fun _ _ => ?_) _ _).trans ?_
  | refine pair_fr (by assumption) ?_
  | exact rfl

theorem execRingRestored_fr (west : Bool) (s : State) : outFr (execRingRestored west s) s = s.fr := by
  unfold execRingRestored
  simp only [↓outFr_next, ↓outFr_fault, ↓outFr_onUnit, ↓outFr_ite, ↓fr_mk, ↓fr_mk_clock, ↓fr_mk_sec, ↓foldl_fr, ↓ite_fr, ↓ite_fst, ↓fold_fst_fr, ↓State.note_fr, ↓State.enumSoon_fr, ite_self, implies_true]

theorem State.leafLow_fr (s : State) : (State.leafLow s).fr = s.fr := by
  unfold State.leafLow
  first
  | (simp only [↓fr_mk, ↓fr_mk_clock, ↓fr_mk_sec, ↓foldl_fr, ↓ite_fr, ↓State.note_fr, ite_self, implies_true]; done)
  | exact rfl

theorem execHssTreeReady_fr (s : State) : outFr (execHssTreeReady s) s = s.fr := by
  unfold execHssTreeReady
  first
  | (simp only [↓outFr_next, ↓outFr_fault, ↓outFr_onUnit, ↓outFr_ite, ↓fr_mk, ↓fr_mk_clock, ↓fr_mk_sec, ↓foldl_fr, ↓ite_fr, ↓ite_fst, ↓fold_fst_fr, ite_self, implies_true]; done)
  | exact rfl

theorem State.captureReports_fr (s : State) : (State.captureReports s).fr = s.fr := by
  unfold State.captureReports
  repeat' first
  | with_reducible rfl
  | simp only [↓fr_mk, ↓fr_mk_clock, ↓fr_mk_sec, ↓foldl_fr, ↓ite_fr, ↓State.reply_fr, ite_self, implies_true]
  | split
  | refine (foldl_fr _ (fun _ _ => ?_) _ _).trans ?_
  | refine (fold_fst_fr _ (fun _ _ => ?_) _ _).trans ?_
  | refine pair_fr (by assumption) ?_
  | exact rfl

theorem Security.dropPins_fr (s : State) : State.fr { s with sec := s.sec.dropPins } = s.fr := by
  unfold Security.dropPins
  split <;> rfl

theorem State.perstRise_fr (s : State) : s.perstRise.fr = s.fr := by
  unfold State.perstRise
  simp only [↓ite_fr, ↓State.wake_fr, Security.dropPins_fr, ite_self]

theorem execArrayInitDone_fr (s : State) : outFr (execArrayInitDone s) s = s.fr := by
  unfold execArrayInitDone
  first
  | (simp only [↓outFr_next, ↓outFr_fault, ↓outFr_onUnit, ↓outFr_ite, ↓fr_mk, ↓fr_mk_clock, ↓fr_mk_sec, ↓foldl_fr, ↓ite_fr, ↓ite_fst, ↓fold_fst_fr, ite_self, implies_true]; done)
  | exact rfl

theorem State.haltRom_fr (s : State) (fusesOk : Bool) : (State.haltRom s fusesOk).fr = s.fr := by
  unfold State.haltRom
  first
  | (simp only [↓fr_mk, ↓fr_mk_clock, ↓fr_mk_sec, ↓foldl_fr, ↓ite_fr, ite_self, implies_true]; done)
  | exact rfl

theorem State.romReads_fr (s : State) (romHash : BitVec 384) : (State.romReads s romHash).fr = s.fr := by
  unfold State.romReads
  first
  | (simp only [↓fr_mk, ↓fr_mk_clock, ↓fr_mk_sec, ↓foldl_fr, ↓ite_fr, ↓State.avsStart_fr, ite_self, implies_true]; done)
  | exact rfl

theorem State.romFlash_fr (s : State) (boardA boardB : List Byte) : (State.romFlash s boardA boardB).fr = s.fr := by
  unfold State.romFlash
  repeat' first
  | with_reducible rfl
  | simp only [↓fr_mk, ↓fr_mk_clock, ↓fr_mk_sec, ↓foldl_fr, ↓ite_fr, ite_self, implies_true]
  | split
  | refine (foldl_fr _ (fun _ _ => ?_) _ _).trans ?_
  | refine (fold_fst_fr _ (fun _ _ => ?_) _ _).trans ?_
  | refine pair_fr (by assumption) ?_
  | exact rfl

theorem State.loadFirmware_fr (s : State) (h : ImageHdr) : (State.loadFirmware s h).fr = s.fr := by
  unfold State.loadFirmware
  first
  | (simp only [↓fr_mk, ↓fr_mk_clock, ↓fr_mk_sec, ↓foldl_fr, ↓ite_fr, ↓State.loadBootKeys_fr, ite_self, implies_true]; done)
  | exact rfl

theorem State.firmwareEvents_fr (s : State) : (State.firmwareEvents s).fr = s.fr := by
  unfold State.firmwareEvents
  repeat' first
  | with_reducible rfl
  | simp only [↓fr_mk, ↓fr_mk_clock, ↓fr_mk_sec, ↓foldl_fr, ↓ite_fr, ↓State.note_fr, ↓State.leafLow_fr, ite_self, implies_true]
  | split
  | refine (foldl_fr _ (fun _ _ => ?_) _ _).trans ?_
  | refine (fold_fst_fr _ (fun _ _ => ?_) _ _).trans ?_
  | refine pair_fr (by assumption) ?_
  | exact rfl

theorem execFirmwareStart_fr (s : State) : outFr (execFirmwareStart s) s = s.fr := by
  unfold execFirmwareStart
  repeat' first
  | with_reducible rfl
  | simp only [↓outFr_next, ↓outFr_fault, ↓outFr_onUnit, ↓outFr_ite, ↓fr_mk, ↓fr_mk_clock, ↓fr_mk_sec, ↓foldl_fr, ↓ite_fr, ↓ite_fst, ↓fold_fst_fr, ↓State.loadFirmware_fr, ↓State.firmwareEvents_fr, ite_self, implies_true]
  | split
  | refine (foldl_fr _ (fun _ _ => ?_) _ _).trans ?_
  | refine (fold_fst_fr _ (fun _ _ => ?_) _ _).trans ?_
  | refine pair_fr (by assumption) ?_
  | exact rfl

theorem State.loadParse_fr (s : State) (program : List (BitVec 128)) : (State.loadParse s program).fr = s.fr := by
  unfold State.loadParse
  repeat' first
  | with_reducible rfl
  | simp only [↓fr_mk, ↓fr_mk_clock, ↓fr_mk_sec, ↓foldl_fr, ↓ite_fr, ↓State.putObjAt_fr, ite_self, implies_true]
  | split
  | refine (foldl_fr _ (fun _ _ => ?_) _ _).trans ?_
  | refine (fold_fst_fr _ (fun _ _ => ?_) _ _).trans ?_
  | refine pair_fr (by assumption) ?_
  | exact rfl

theorem State.joinRing_fr (s : State) : (State.joinRing s).fr = s.fr := by
  unfold State.joinRing
  first
  | (simp only [↓fr_mk, ↓fr_mk_clock, ↓fr_mk_sec, ↓foldl_fr, ↓ite_fr, ↓State.ringOut_fr, ↓State.enumerate_fr, ite_self, implies_true]; done)
  | exact rfl

theorem execFirmwareInitDone_fr (seedHigh seedLow : BitVec 64) (s : State) : outFr (execFirmwareInitDone seedHigh seedLow s) s = s.fr := by
  have h (u : State) : State.fr { u with sec.fwInit := true, tables.lpmSeed := seedHigh ++ seedLow } = u.fr := rfl
  unfold execFirmwareInitDone
  simp only [↓outFr_next, ↓ite_fr, ↓State.joinRing_fr]
  rw [h, State.loadParse_fr, ite_self]

theorem State.disableRing_fr (s : State) (rid : Nat) : (State.disableRing s rid).fr = s.fr := by
  unfold State.disableRing
  simp only [↓fr_mk, ↓fr_mk_clock, ↓fr_mk_sec, ↓foldl_fr, ↓ite_fr, ↓State.modHring_fr, ↓State.modTakenAt_fr, ↓State.loseOwner_fr, ite_self, implies_true]

theorem State.doorbell_fr (s : State) (rid value : Nat) : (State.doorbell s rid value).fr = s.fr := by
  unfold State.doorbell
  simp only [↓fr_mk, ↓fr_mk_clock, ↓fr_mk_sec, ↓foldl_fr, ↓ite_fr, ↓State.putHring_fr, ↓State.modHring_fr, ↓State.note_fr, ↓State.disableRing_fr, ite_self, implies_true]

theorem State.keptDoorbells_fr (s : State) : (State.keptDoorbells s).fr = s.fr := by
  unfold State.keptDoorbells
  repeat' first
  | with_reducible rfl
  | simp only [↓fr_mk, ↓fr_mk_clock, ↓fr_mk_sec, ↓foldl_fr, ↓ite_fr, ↓ite_fst, ↓fold_fst_fr, ↓State.modHring_fr, ↓State.doorbell_fr, ite_self, implies_true]
  | split
  | refine (foldl_fr _ (fun _ _ => ?_) _ _).trans ?_
  | refine (fold_fst_fr _ (fun _ _ => ?_) _ _).trans ?_
  | refine pair_fr (by assumption) ?_
  | exact rfl

theorem State.enterConfigure_fr (s : State) : (State.enterConfigure s).fr = s.fr := by
  unfold State.enterConfigure
  first
  | (simp only [↓fr_mk, ↓fr_mk_clock, ↓fr_mk_sec, ↓foldl_fr, ↓ite_fr, ↓State.note_fr, ↓State.keptDoorbells_fr, ite_self, implies_true]; done)
  | exact rfl

theorem State.resetFunction_fr (s : State) (func : Nat) : (State.resetFunction s func).fr = s.fr := by
  unfold State.resetFunction
  repeat' first
  | with_reducible rfl
  | simp only [↓fr_mk, ↓fr_mk_clock, ↓fr_mk_sec, ↓foldl_fr, ↓ite_fr, ↓State.putHring_fr, ↓State.putLatch_fr, ↓State.loseOwner_fr, ↓State.disableRing_fr, ite_self, implies_true]
  | split
  | refine (foldl_fr _ (fun _ _ => ?_) _ _).trans ?_
  | refine (fold_fst_fr _ (fun _ _ => ?_) _ _).trans ?_
  | refine pair_fr (by assumption) ?_
  | exact rfl

theorem execPcieFunctionReset_fr (func : Nat) (linkDown : Bool) (s : State) : outFr (execPcieFunctionReset func linkDown s) s = s.fr := by
  unfold execPcieFunctionReset
  repeat' first
  | with_reducible rfl
  | simp only [↓outFr_next, ↓outFr_fault, ↓outFr_onUnit, ↓outFr_ite, ↓fr_mk, ↓fr_mk_clock, ↓fr_mk_sec, ↓foldl_fr, ↓ite_fr, ↓ite_fst, ↓fold_fst_fr, ↓onUnit_fr, ↓State.linkDown_fr, ↓State.resetFunction_fr, ite_self, implies_true]
  | split
  | refine (foldl_fr _ (fun _ _ => ?_) _ _).trans ?_
  | refine (fold_fst_fr _ (fun _ _ => ?_) _ _).trans ?_
  | refine pair_fr (by assumption) ?_
  | exact rfl

theorem execSmbusBlockRead_fr (code : Nat) (s : State) : outFr (execSmbusBlockRead code s) s = s.fr := by
  unfold execSmbusBlockRead
  simp only [↓outFr_next, ↓outFr_fault, ↓outFr_onUnit, ↓outFr_ite, ↓fr_mk, ↓fr_mk_clock, ↓fr_mk_sec, ↓foldl_fr, ↓ite_fr, ↓ite_fst, ↓fold_fst_fr, ↓State.draw_fr, ite_self, implies_true]

theorem execJtagInstruction_fr (instr : Nat) (s : State) : outFr (execJtagInstruction instr s) s = s.fr := by
  unfold execJtagInstruction
  first
  | (simp only [↓outFr_next, ↓outFr_fault, ↓outFr_onUnit, ↓outFr_ite, ↓fr_mk, ↓fr_mk_clock, ↓fr_mk_sec, ↓foldl_fr, ↓ite_fr, ↓ite_fst, ↓fold_fst_fr, ite_self, implies_true]; done)
  | exact rfl

/-! ## Resets, fuses and changes -/

theorem State.coreReset_keeps (s : State) (dev : DevState) : s.Keeps (s.coreReset dev) := by
  refine ⟨rfl, Nat.le_refl _, BitVec.and_self, Nat.le_refl _, fun h => ?_⟩
  obtain ⟨h1, h2, h3⟩ := h
  refine ⟨Nat.zero_lt_succ _, Nat.zero_lt_succ _, ?_⟩
  show (if s.clock.running then s.clock.tick * 2 + s.clock.k else s.clock.tallyClock) < 2048
  split <;> omega

theorem State.powerUp_keeps (s : State) : s.Keeps s.powerUp :=
  ⟨rfl, Nat.le_refl _, BitVec.and_self, Nat.le_refl _, fun _ => ⟨Nat.zero_lt_succ _, Nat.zero_lt_succ _, Nat.zero_lt_succ _⟩⟩

theorem State.applyDormant_keeps (s : State) (w : Bool) : s.Keeps (s.applyDormant w) :=
  (s.coreReset_keeps .dormant).after rfl

theorem State.release_keeps (s : State) (straps : BitVec 8) : s.Keeps (s.release straps) := by
  refine ⟨rfl, Nat.le_refl _, BitVec.and_self, Nat.le_refl _, fun h => ?_⟩
  obtain ⟨h1, h2, h3⟩ := h
  refine ⟨?_, ?_, h3⟩
  · show (if s.clock.released then s.clock.tallyClock / 2 else 0) < 1024
    split <;> omega
  · show (if s.clock.released then s.clock.tallyClock % 2 else 0) < 2
    split <;> omega

theorem State.burnLeaf_keeps (s : State) (burnOk : Bool) : s.Keeps (s.burnLeaf burnOk) := by
  unfold State.burnLeaf
  refine State.Keeps.ite (State.Keeps.ofFr (by simp only [↓State.note_fr, ↓fr_mk_sec])) ?_
  split
  · refine State.Keeps.after ?_ (State.leafLow_fr _)
    exact ⟨rfl, Nat.le_refl _, BitVec.and_self, Nat.le_succ _, id⟩
  · exact State.Keeps.ofFr (by simp only [↓State.note_fr, ↓fr_mk_sec])

theorem State.romLeaf_keeps (s : State) (burnOk : Bool) : s.Keeps (s.romLeaf burnOk) := by
  unfold State.romLeaf
  split
  · exact ⟨rfl, Nat.le_refl _, BitVec.and_self, Nat.le_succ _, id⟩
  · exact State.Keeps.ofFr rfl

/-- The same for what a command answers. -/
theorem State.Keeps.out {o : Host.Outcome State Fault Refusal} {s t : State} (e : outFr o s = s.fr) (h : o = .next t) :
    s.Keeps t := State.Keeps.ofFr (outFr_out e h)

theorem State.Keeps.next {s t u : State} (k : s.Keeps u) (h : (Host.Outcome.next u : Host.Outcome State Fault Refusal) = .next t) :
    s.Keeps t := by
  injection h with h
  exact h ▸ k

theorem execGatehousePowerUp_keeps (s t : State) (h : execGatehousePowerUp s = .next t) : s.Keeps t :=
  State.Keeps.next s.powerUp_keeps h

theorem execPowerDown_keeps (s t : State) (h : execPowerDown s = .next t) : s.Keeps t := by
  refine State.Keeps.next ?_ h
  exact (s.coreReset_keeps .reset).after (State.coolPin_fr _ _)

theorem execPerstAssert_keeps (s t : State) (h : execPerstAssert s = .next t) : s.Keeps t := by
  refine State.Keeps.next ?_ h
  refine State.Keeps.after (t := if s.cmd.dev = .dormant then s else s.coreReset .reset) ?_ rfl
  exact State.Keeps.ite (State.Keeps.refl s) (s.coreReset_keeps .reset)

theorem execCoreResetRelease_keeps (straps : BitVec 8) (railsMv : List Nat) (clockStable : Bool) (s t : State)
    (h : execCoreResetRelease straps railsMv clockStable s = .next t) : s.Keeps t := by
  refine State.Keeps.next ?_ h
  have k := State.Keeps.ofFr s.perstRise_fr
  exact State.Keeps.ite (k.trans (State.release_keeps _ _)) k

theorem execBootRomStart_keeps (romOk fusesOk leafBurnOk : Bool) (romHash : BitVec 384)
    (slotA slotB : List Byte) (s t : State) (h : execBootRomStart romOk fusesOk leafBurnOk romHash slotA slotB s = .next t) : s.Keeps t := by
  refine State.Keeps.next ?_ h
  refine State.Keeps.ite (State.Keeps.refl s) (State.Keeps.ite (State.Keeps.ofFr (State.haltRom_fr ..)) ?_)
  refine State.Keeps.before (t := s.romReads romHash) ?_ (State.romReads_fr ..)
  refine (State.romLeaf_keeps _ leafBurnOk).trans ?_
  exact State.Keeps.ite (State.Keeps.ofFr rfl) (State.Keeps.ofFr (State.romFlash_fr ..))

theorem State.violate_fr (s : State) (kind func width offset : Nat) (write : Bool) : (State.violate s kind func width offset write).fr = s.fr := by
  unfold State.violate
  simp only [↓fr_mk, ↓fr_mk_clock, ↓fr_mk_sec, ↓foldl_fr, ↓ite_fr, ↓State.raise_fr, ite_self, implies_true]

theorem State.accessBy_fr (s : State) (func : Nat) : (State.accessBy s func).fr = s.fr := by
  unfold State.accessBy
  first
  | (simp only [↓fr_mk, ↓fr_mk_clock, ↓fr_mk_sec, ↓foldl_fr, ↓ite_fr, ↓State.putLatch_fr, ite_self, implies_true]; done)
  | exact rfl

theorem execBar0Violation_fr (kind func width offset : Nat) (write : Bool) (s : State) : outFr (execBar0Violation kind func width offset write s) s = s.fr := by
  unfold execBar0Violation
  simp only [↓outFr_next, ↓outFr_fault, ↓outFr_onUnit, ↓outFr_ite, ↓fr_mk, ↓fr_mk_clock, ↓fr_mk_sec, ↓foldl_fr, ↓ite_fr, ↓ite_fst, ↓fold_fst_fr, ↓onUnit_fr, ↓State.violate_fr, ↓State.accessBy_fr, ite_self, implies_true]

theorem State.ringDoorbell_fr (s : State) (rid value : Nat) : (State.ringDoorbell s rid value).fr = s.fr := by
  unfold State.ringDoorbell
  simp only [↓fr_mk, ↓fr_mk_clock, ↓fr_mk_sec, ↓foldl_fr, ↓ite_fr, ↓State.modHring_fr, ↓State.doorbell_fr, ite_self, implies_true]

theorem execRingDoorbellWrite_fr (func rid value : Nat) (s : State) : outFr (execRingDoorbellWrite func rid value s) s = s.fr := by
  unfold execRingDoorbellWrite
  simp only [↓outFr_next, ↓outFr_fault, ↓outFr_onUnit, ↓outFr_ite, ↓fr_mk, ↓fr_mk_clock, ↓fr_mk_sec, ↓foldl_fr, ↓ite_fr, ↓ite_fst, ↓fold_fst_fr, ↓onUnit_fr, ↓State.violate_fr, ↓State.accessBy_fr, ↓State.ringDoorbell_fr, ite_self, implies_true]

theorem State.storeControl_fr (s : State) (rid : Nat) (v : BitVec 64) : (State.storeControl s rid v).fr = s.fr := by
  unfold State.storeControl
  simp only [↓fr_mk, ↓fr_mk_clock, ↓fr_mk_sec, ↓foldl_fr, ↓ite_fr, ↓State.putHring_fr, ↓State.modHring_fr, ↓State.disableRing_fr, ite_self, implies_true]

theorem State.ringControl_fr (s : State) (func rid : Nat) (v : BitVec 64) (width : Nat) : (State.ringControl s func rid v width).fr = s.fr := by
  unfold State.ringControl
  simp only [↓fr_mk, ↓fr_mk_clock, ↓fr_mk_sec, ↓foldl_fr, ↓ite_fr, ↓State.violate_fr, ↓State.accessBy_fr, ↓State.storeControl_fr, ite_self, implies_true]

theorem execRingControlWrite_fr (func rid : Nat) (value : BitVec 64) (s : State) : outFr (execRingControlWrite func rid value s) s = s.fr := by
  unfold execRingControlWrite
  simp only [↓outFr_next, ↓outFr_fault, ↓outFr_onUnit, ↓outFr_ite, ↓fr_mk, ↓fr_mk_clock, ↓fr_mk_sec, ↓foldl_fr, ↓ite_fr, ↓ite_fst, ↓fold_fst_fr, ↓onUnit_fr, ↓State.ringControl_fr, ite_self, implies_true]

theorem State.releaseLocks_fr (s : State) (func : Nat) (mask : BitVec 16) : (State.releaseLocks s func mask).fr = s.fr := by
  unfold State.releaseLocks
  repeat' first
  | with_reducible rfl
  | simp only [↓fr_mk, ↓fr_mk_clock, ↓fr_mk_sec, ↓foldl_fr, ↓ite_fr, ↓State.modLock_fr, ↓State.violate_fr, ite_self, implies_true]
  | split
  | refine (foldl_fr _ (fun _ _ => ?_) _ _).trans ?_
  | refine (fold_fst_fr _ (fun _ _ => ?_) _ _).trans ?_
  | refine pair_fr (by assumption) ?_
  | exact rfl

theorem execTableLockReleaseWrite_fr (func : Nat) (mask : BitVec 16) (s : State) : outFr (execTableLockReleaseWrite func mask s) s = s.fr := by
  unfold execTableLockReleaseWrite
  simp only [↓outFr_next, ↓outFr_fault, ↓outFr_onUnit, ↓outFr_ite, ↓fr_mk, ↓fr_mk_clock, ↓fr_mk_sec, ↓foldl_fr, ↓ite_fr, ↓ite_fst, ↓fold_fst_fr, ↓onUnit_fr, ↓State.accessBy_fr, ↓State.releaseLocks_fr, ite_self, implies_true]

theorem execTurnstileTicketsWrite_fr (value : BitVec 64) (s : State) : outFr (execTurnstileTicketsWrite value s) s = s.fr := by
  unfold execTurnstileTicketsWrite
  simp only [↓outFr_next, ↓outFr_fault, ↓outFr_onUnit, ↓outFr_ite, ↓fr_mk, ↓fr_mk_clock, ↓fr_mk_sec, ↓foldl_fr, ↓ite_fr, ↓ite_fst, ↓fold_fst_fr, ite_self, implies_true]

theorem State.clearStarved_fr (s : State) (mask : BitVec 8) : (State.clearStarved s mask).fr = s.fr := by
  unfold State.clearStarved
  simp only [↓fr_mk, ↓fr_mk_clock, ↓fr_mk_sec, ↓foldl_fr, ↓ite_fr, ite_self, implies_true]

theorem execTurnstileStarvedW1c_fr (mask : BitVec 8) (s : State) : outFr (execTurnstileStarvedW1c mask s) s = s.fr := by
  unfold execTurnstileStarvedW1c
  simp only [↓outFr_next, ↓outFr_fault, ↓outFr_onUnit, ↓outFr_ite, ↓fr_mk, ↓fr_mk_clock, ↓fr_mk_sec, ↓foldl_fr, ↓ite_fr, ↓ite_fst, ↓fold_fst_fr, ↓State.clearStarved_fr, ite_self, implies_true]

theorem State.ringAddr_fr (s : State) (func rid offset width : Nat) (f : Ring → Ring) : (State.ringAddr s func rid offset width f).fr = s.fr := by
  unfold State.ringAddr
  simp only [↓fr_mk, ↓fr_mk_clock, ↓fr_mk_sec, ↓foldl_fr, ↓ite_fr, ↓State.modHring_fr, ↓State.violate_fr, ite_self, implies_true]

theorem lowHalf_fr (offset : Nat) (s t : State) (h : t.fr = s.fr) : (lowHalf offset s t).fr = s.fr := by
  unfold lowHalf
  split
  · exact h
  · rfl

theorem State.unmasked_fr (s : State) (v : Nat) : (State.unmasked s v).fr = s.fr := by
  unfold State.unmasked
  simp only [↓fr_mk, ↓fr_mk_clock, ↓fr_mk_sec, ↓foldl_fr, ↓ite_fr, ↓State.sendMsix_fr, ite_self, implies_true]

theorem State.storeReg_fr (s : State) (func offset width : Nat) (v : BitVec 64) (r : Reg) : (State.storeReg s func offset width v r).fr = s.fr := by
  unfold State.storeReg
  repeat' first
  | with_reducible rfl
  | simp only [↓fr_mk, ↓fr_mk_clock, ↓fr_mk_sec, ↓foldl_fr, ↓ite_fr, ↓State.putEvEnable_fr, ↓State.putEvRoute_fr, ↓State.putMsixWord_fr, ↓State.writeBack_fr, ↓execSnapTrigger_fr, ↓State.clearStatus_fr, ↓State.clearFirst_fr, ↓State.doorbell_fr, ↓State.violate_fr, ↓State.ringDoorbell_fr, ↓State.ringControl_fr, ↓State.releaseLocks_fr, ↓State.clearStarved_fr, ↓State.ringAddr_fr, ↓lowHalf_fr, ↓State.unmasked_fr, ite_self, implies_true]
  | split
  | refine (foldl_fr _ (fun _ _ => ?_) _ _).trans ?_
  | refine (fold_fst_fr _ (fun _ _ => ?_) _ _).trans ?_
  | refine pair_fr (by assumption) ?_
  | exact rfl\n  | exact outFr_out (execSnapTrigger_fr ..) ‹_›
  | refine lowHalf_fr _ _ _ ?_

theorem execRegisterWrite_fr (func offset width : Nat) (value : BitVec 64) (s : State) : outFr (execRegisterWrite func offset width value s) s = s.fr := by
  unfold execRegisterWrite
  repeat' first
  | with_reducible rfl
  | simp only [↓outFr_next, ↓outFr_fault, ↓outFr_onUnit, ↓outFr_ite, ↓fr_mk, ↓fr_mk_clock, ↓fr_mk_sec, ↓foldl_fr, ↓ite_fr, ↓ite_fst, ↓fold_fst_fr, ↓onUnit_fr, ↓State.wordWritten_fr, ↓State.violate_fr, ↓State.accessBy_fr, ↓State.storeReg_fr, ite_self, implies_true]
  | split
  | refine (foldl_fr _ (fun _ _ => ?_) _ _).trans ?_
  | refine (fold_fst_fr _ (fun _ _ => ?_) _ _).trans ?_
  | refine pair_fr (by assumption) ?_
  | exact rfl

theorem State.readDone_fr (s : State) (offset width : Nat) (v : Nat) : (State.readDone s offset width v).fr = s.fr := by
  unfold State.readDone
  repeat' first
  | with_reducible rfl
  | simp only [↓State.consumed_fr, ↓fr_mk, ↓fr_mk_clock, ↓fr_mk_sec, ↓foldl_fr, ↓ite_fr, ↓State.record_fr, ite_self, implies_true]
  | split
  | refine (foldl_fr _ (fun _ _ => ?_) _ _).trans ?_
  | refine (fold_fst_fr _ (fun _ _ => ?_) _ _).trans ?_
  | refine pair_fr (by assumption) ?_
  | exact rfl

theorem execCounterLowHalfRead_fr (func : Nat) (r : BarRead) (s : State) : outFr (execCounterLowHalfRead func r s) s = s.fr := by
  unfold execCounterLowHalfRead
  repeat' first
  | with_reducible rfl
  | simp only [↓outFr_next, ↓outFr_fault, ↓outFr_onUnit, ↓outFr_ite, ↓fr_mk, ↓fr_mk_clock, ↓fr_mk_sec, ↓foldl_fr, ↓ite_fr, ↓ite_fst, ↓fold_fst_fr, ↓State.putLatch_fr, ↓onUnit_fr, ↓State.violate_fr, ↓State.accessBy_fr, ↓State.readDone_fr, ite_self, implies_true]
  | split
  | refine (foldl_fr _ (fun _ _ => ?_) _ _).trans ?_
  | refine (fold_fst_fr _ (fun _ _ => ?_) _ _).trans ?_
  | refine pair_fr (by assumption) ?_
  | exact rfl

theorem State.applyVersion_fr (s : State) (v : BitVec 16) : (State.applyVersion s v).fr = s.fr := by
  unfold State.applyVersion
  repeat' first
  | with_reducible rfl
  | simp only [↓fr_mk, ↓fr_mk_clock, ↓fr_mk_sec, ↓foldl_fr, ↓ite_fr, ↓ite_fst, ↓fold_fst_fr, ite_self, implies_true]
  | split
  | refine (foldl_fr _ (fun _ _ => ?_) _ _).trans ?_
  | refine (fold_fst_fr _ (fun _ _ => ?_) _ _).trans ?_
  | refine pair_fr (by assumption) ?_
  | exact rfl

theorem State.applyMcast_fr (s : State) (group : Nat) (self : Bool) (members : List Nat) : (State.applyMcast s group self members).fr = s.fr := by
  unfold State.applyMcast
  simp only [↓fr_mk, ↓fr_mk_clock, ↓fr_mk_sec, ↓foldl_fr, ↓ite_fr, ↓State.putMgroup_fr, ite_self, implies_true]

theorem State.leave_keeps {s t : State} (k : s.Keeps t) : s.Keeps (s.leave t) := by
  unfold State.leave
  split
  · exact State.Keeps.ofFr rfl
  · exact k

theorem State.applyChange_keeps (s : State) (c : Change) : s.Keeps (s.applyChange c) := by
  cases c with
  | dormant w => exact State.leave_keeps (s.applyDormant_keeps w)
  | devState st => exact State.leave_keeps (State.Keeps.ofFr rfl)
  | _ =>
    refine State.Keeps.ofFr ?_
    simp only [State.applyChange, ↓State.applyReaction_fr, ↓State.applyPools_fr, ↓State.applyAdmit_fr, ↓State.applyPg_fr, ↓State.applyElemStop_fr, ↓State.applyElemRestore_fr, ↓State.applyCutThrough_fr, ↓State.applyUpkeep_fr, ↓State.applyTableCreate_fr, ↓State.applyTableDelete_fr, ↓State.applyEmProfile_fr, ↓State.applyLpmProfile_fr, ↓State.applyNextHop_fr, ↓State.applyPatch_fr, ↓State.applyPortEnable_fr, ↓State.applyPortConfig_fr, ↓State.applyNarrow_fr, ↓State.applyPortMode_fr, ↓State.applyCipherPort_fr, ↓State.applyScSet_fr, ↓State.applyScDelete_fr, ↓State.applySaInstall_fr, ↓State.applySaDelete_fr, ↓State.applySaSelect_fr, ↓State.applyTimePort_fr, ↓State.applyShaper_fr, ↓State.applyTransitions_fr, ↓State.applyGateList_fr, ↓State.applyGateClear_fr, ↓State.applyQueueMode_fr, ↓State.applyQueueSched_fr, ↓State.applyPortSched_fr, ↓State.applyTcMap_fr, ↓State.applyStream_fr, ↓State.applyReport_fr, ↓State.applyIoam_fr, ↓State.applyCpuMap_fr, ↓State.applySpareSwitch_fr, ↓State.applyBankDetach_fr, ↓State.applyBankRestore_fr, ↓State.applyPipeRetire_fr, ↓State.applyPipeRestore_fr, ↓State.applySliceFence_fr, ↓State.applyReplicaFence_fr, ↓State.applyUnfence_fr, ↓State.applyIsolate_fr, ↓State.applySpareStart_fr, ↓State.applyPoint_fr, ↓State.applyHost_fr, ↓State.applyThermal_fr, ↓State.applyCompat_fr, ↓State.applyResyncEnd_fr, ↓State.applyDetach_fr, ↓State.applyRoleSwap_fr, ↓State.applyDrain_fr, ↓State.applyVersion_fr, ↓State.applyMcast_fr, ↓State.putMgroup_fr, ↓State.fenceCipher_fr, ↓State.restoreLane_fr]

theorem State.applyAll_keeps (s : State) (l : List Change) : s.Keeps (s.applyAll l) :=
  State.Keeps.foldl _ State.applyChange_keeps l s

end Sys2Proof.Machine
end

