-- ==== Sys2Proof/Laws/FrameCommands.lean ====
section
/-! SUPPORT. Frames of the rules of the commands of buffers, tables, rules and the Armature. -/

namespace Sys2Proof.Machine
theorem statsRule_fr (s t : State) (l : List (Ctr × Nat)) (gauges : List Nat) (clear : Bool) :
    ruleFr (statsRule t l gauges clear) s = t.fr := by
  unfold statsRule
  split
  · exact (ruleFr_done ..).trans (State.clearCtrs_fr ..)
  · rfl

theorem bufferStatsRule_fr (sel : StatsSel) (clear : Bool) (s : State) : ruleFr (bufferStatsRule sel clear s) s = s.fr := by
  unfold bufferStatsRule
  repeat' first
  | with_reducible rfl
  | simp only [↓fr_mk, ↓fr_mk_clock, ↓fr_mk_sec, ↓foldl_fr, ↓ite_fr, ↓State.clearPeaks_fr, ↓ruleFr_ite, ↓ruleFr_need, ↓ruleFr_needRange, ↓ruleFr_access, ↓ruleFr_param, ↓ruleFr_missing, ↓ruleFr_done, ↓ruleFr_change, ↓ruleFr_held, ↓ruleFr_refuse, ↓statsRule_fr, ↓id_eq, ite_self, implies_true]
  | split
  | refine (foldl_fr _ (fun _ _ => ?_) _ _).trans ?_
  | refine rule_done_fr (s := s) (by assumption) ?_
  | refine rule_change_fr (s := s) (by assumption) ?_

theorem cmdBufferPoolSet_fr (sizes : List (Option Nat)) (pushout : List (Option Bool)) (h : Hdr) (s : State) : ruleFr ((cmdBufferPoolSet sizes pushout).rule h s) s = s.fr := by
  unfold cmdBufferPoolSet
  repeat' first
  | with_reducible rfl
  | simp only [↓fr_mk, ↓fr_mk_clock, ↓fr_mk_sec, ↓foldl_fr, ↓ite_fr, ↓ruleFr_ite, ↓ruleFr_need, ↓ruleFr_needRange, ↓ruleFr_at, ↓ruleFr_param, ↓ruleFr_done, ↓ruleFr_change, ↓ruleFr_held, ↓ruleFr_refuse, ↓Cmd_get_rule, ↓Cmd_set_rule, ↓Cmd_stats_rule, ↓Cmd_mirrored_rule, ↓Cmd_fence_rule, ↓Cmd_carry_rule, ↓Cmd_upTo_rule, ↓id_eq, ite_self, implies_true]
  | split
  | refine (foldl_fr _ (fun _ _ => ?_) _ _).trans ?_
  | refine rule_done_fr (s := s) (by assumption) ?_
  | refine rule_change_fr (s := s) (by assumption) ?_

theorem cmdBufferPoolGet_fr (h : Hdr) (s : State) : ruleFr ((cmdBufferPoolGet).rule h s) s = s.fr := by
  unfold cmdBufferPoolGet
  repeat' first
  | with_reducible rfl
  | simp only [↓fr_mk, ↓fr_mk_clock, ↓fr_mk_sec, ↓foldl_fr, ↓ite_fr, ↓State.reply_fr, ↓ruleFr_ite, ↓ruleFr_need, ↓ruleFr_needRange, ↓ruleFr_reply, ↓ruleFr_done, ↓ruleFr_change, ↓ruleFr_held, ↓ruleFr_refuse, ↓Cmd_get_rule, ↓Cmd_set_rule, ↓Cmd_stats_rule, ↓Cmd_mirrored_rule, ↓Cmd_fence_rule, ↓Cmd_carry_rule, ↓Cmd_upTo_rule, ↓id_eq, ite_self, implies_true]
  | split
  | refine (foldl_fr _ (fun _ _ => ?_) _ _).trans ?_
  | refine rule_done_fr (s := s) (by assumption) ?_
  | refine rule_change_fr (s := s) (by assumption) ?_

theorem cmdQueueAdmitSet_fr (queue : Nat) (record fields : BitVec 64) (h : Hdr) (s : State) : ruleFr ((cmdQueueAdmitSet queue record fields).rule h s) s = s.fr := by
  unfold cmdQueueAdmitSet
  repeat' first
  | with_reducible rfl
  | simp only [↓fr_mk, ↓fr_mk_clock, ↓fr_mk_sec, ↓foldl_fr, ↓ite_fr, ↓State.record_fr, ↓ruleFr_ite, ↓ruleFr_need, ↓ruleFr_needRange, ↓ruleFr_at, ↓ruleFr_access, ↓ruleFr_param, ↓ruleFr_missing, ↓ruleFr_full, ↓ruleFr_done, ↓ruleFr_change, ↓ruleFr_held, ↓ruleFr_refuse, ↓Cmd_get_rule, ↓Cmd_set_rule, ↓Cmd_stats_rule, ↓Cmd_mirrored_rule, ↓Cmd_fence_rule, ↓Cmd_carry_rule, ↓Cmd_upTo_rule, ↓id_eq, ite_self, implies_true]
  | split
  | refine (foldl_fr _ (fun _ _ => ?_) _ _).trans ?_
  | refine rule_done_fr (s := s) (by assumption) ?_
  | refine rule_change_fr (s := s) (by assumption) ?_

theorem cmdQueueAdmitGet_fr (queue : Nat) (h : Hdr) (s : State) : ruleFr ((cmdQueueAdmitGet queue).rule h s) s = s.fr := by
  unfold cmdQueueAdmitGet
  repeat' first
  | with_reducible rfl
  | simp only [↓fr_mk, ↓fr_mk_clock, ↓fr_mk_sec, ↓foldl_fr, ↓ite_fr, ↓State.reply_fr, ↓ruleFr_ite, ↓ruleFr_need, ↓ruleFr_needRange, ↓ruleFr_reply, ↓ruleFr_access, ↓ruleFr_missing, ↓ruleFr_done, ↓ruleFr_change, ↓ruleFr_held, ↓ruleFr_refuse, ↓Cmd_get_rule, ↓Cmd_set_rule, ↓Cmd_stats_rule, ↓Cmd_mirrored_rule, ↓Cmd_fence_rule, ↓Cmd_carry_rule, ↓Cmd_upTo_rule, ↓id_eq, ite_self, implies_true]
  | split
  | refine (foldl_fr _ (fun _ _ => ?_) _ _).trans ?_
  | refine rule_done_fr (s := s) (by assumption) ?_
  | refine rule_change_fr (s := s) (by assumption) ?_

theorem cmdPgSet_fr (port prio : Nat) (xoff xon headroom : Option Nat) (h : Hdr) (s : State) : ruleFr ((cmdPgSet port prio xoff xon headroom).rule h s) s = s.fr := by
  unfold cmdPgSet
  repeat' first
  | with_reducible rfl
  | simp only [↓fr_mk, ↓fr_mk_clock, ↓fr_mk_sec, ↓foldl_fr, ↓ite_fr, ↓ruleFr_ite, ↓ruleFr_need, ↓ruleFr_needRange, ↓ruleFr_at, ↓ruleFr_access, ↓ruleFr_param, ↓ruleFr_missing, ↓ruleFr_done, ↓ruleFr_change, ↓ruleFr_held, ↓ruleFr_refuse, ↓Cmd_get_rule, ↓Cmd_set_rule, ↓Cmd_stats_rule, ↓Cmd_mirrored_rule, ↓Cmd_fence_rule, ↓Cmd_carry_rule, ↓Cmd_upTo_rule, ↓id_eq, ite_self, implies_true]
  | split
  | refine (foldl_fr _ (fun _ _ => ?_) _ _).trans ?_
  | refine rule_done_fr (s := s) (by assumption) ?_
  | refine rule_change_fr (s := s) (by assumption) ?_

theorem cmdBufferStatsGet_fr (sel : StatsSel) (clear : Bool) (h : Hdr) (s : State) : ruleFr ((cmdBufferStatsGet sel clear).rule h s) s = s.fr := by
  unfold cmdBufferStatsGet
  repeat' first
  | with_reducible rfl
  | simp only [↓fr_mk, ↓fr_mk_clock, ↓fr_mk_sec, ↓foldl_fr, ↓ite_fr, ↓ruleFr_ite, ↓ruleFr_need, ↓ruleFr_needRange, ↓ruleFr_done, ↓ruleFr_change, ↓ruleFr_held, ↓ruleFr_refuse, ↓bufferStatsRule_fr, ↓Cmd_get_rule, ↓Cmd_set_rule, ↓Cmd_stats_rule, ↓Cmd_mirrored_rule, ↓Cmd_fence_rule, ↓Cmd_carry_rule, ↓Cmd_upTo_rule, ↓id_eq, ite_self, implies_true]
  | split
  | refine (foldl_fr _ (fun _ _ => ?_) _ _).trans ?_
  | refine rule_done_fr (s := s) (by assumption) ?_
  | refine rule_change_fr (s := s) (by assumption) ?_

theorem cmdBufferCellRead_fr (first count : Nat) (h : Hdr) (s : State) : ruleFr ((cmdBufferCellRead first count).rule h s) s = s.fr := by
  unfold cmdBufferCellRead
  repeat' first
  | with_reducible rfl
  | simp only [↓fr_mk, ↓fr_mk_clock, ↓fr_mk_sec, ↓foldl_fr, ↓ite_fr, ↓State.reply_fr, ↓ruleFr_ite, ↓ruleFr_need, ↓ruleFr_needRange, ↓ruleFr_reply, ↓ruleFr_access, ↓ruleFr_param, ↓ruleFr_poisoned, ↓ruleFr_done, ↓ruleFr_change, ↓ruleFr_held, ↓ruleFr_refuse, ↓Cmd_get_rule, ↓Cmd_set_rule, ↓Cmd_stats_rule, ↓Cmd_mirrored_rule, ↓Cmd_fence_rule, ↓Cmd_carry_rule, ↓Cmd_upTo_rule, ↓id_eq, ite_self, implies_true]
  | split
  | refine (foldl_fr _ (fun _ _ => ?_) _ _).trans ?_
  | refine rule_done_fr (s := s) (by assumption) ?_
  | refine rule_change_fr (s := s) (by assumption) ?_

theorem State.restoreElem_fr (s : State) (e : Element) (op : Nat) (h : Hdr) : ruleFr (State.restoreElem s e op h) s = s.fr := by
  unfold State.restoreElem
  repeat' first
  | with_reducible rfl
  | simp only [↓fr_mk, ↓fr_mk_clock, ↓fr_mk_sec, ↓foldl_fr, ↓ite_fr, ↓State.noteUnit_fr, ↓ruleFr_ite, ↓ruleFr_need, ↓ruleFr_needRange, ↓ruleFr_at, ↓ruleFr_conflict, ↓ruleFr_done, ↓ruleFr_change, ↓ruleFr_held, ↓ruleFr_refuse, ↓id_eq, ite_self, implies_true]
  | split
  | refine (foldl_fr _ (fun _ _ => ?_) _ _).trans ?_
  | refine rule_done_fr (s := s) (by assumption) ?_
  | refine rule_change_fr (s := s) (by assumption) ?_

theorem trellisStatsRule_fr (sel : StatsSel) (clear : Bool) (s : State) : ruleFr (trellisStatsRule sel clear s) s = s.fr := by
  unfold trellisStatsRule
  repeat' first
  | with_reducible rfl
  | simp only [↓fr_mk, ↓fr_mk_clock, ↓fr_mk_sec, ↓foldl_fr, ↓ite_fr, ↓ruleFr_ite, ↓ruleFr_need, ↓ruleFr_needRange, ↓ruleFr_access, ↓ruleFr_param, ↓ruleFr_missing, ↓ruleFr_done, ↓ruleFr_change, ↓ruleFr_held, ↓ruleFr_refuse, ↓statsRule_fr, ↓id_eq, ite_self, implies_true]
  | split
  | refine (foldl_fr _ (fun _ _ => ?_) _ _).trans ?_
  | refine rule_done_fr (s := s) (by assumption) ?_
  | refine rule_change_fr (s := s) (by assumption) ?_

theorem cmdTrellisRetire_fr (e : Element) (drainLimit : Nat) (h : Hdr) (s : State) : ruleFr ((cmdTrellisRetire e drainLimit).rule h s) s = s.fr := by
  unfold cmdTrellisRetire
  repeat' first
  | with_reducible rfl
  | simp only [↓fr_mk, ↓fr_mk_clock, ↓fr_mk_sec, ↓foldl_fr, ↓ite_fr, ↓State.noteUnit_fr, ↓State.fence_fr, ↓ruleFr_ite, ↓ruleFr_need, ↓ruleFr_needRange, ↓ruleFr_at, ↓ruleFr_param, ↓ruleFr_conflict, ↓ruleFr_done, ↓ruleFr_change, ↓ruleFr_held, ↓ruleFr_refuse, ↓Cmd_get_rule, ↓Cmd_set_rule, ↓Cmd_stats_rule, ↓Cmd_mirrored_rule, ↓Cmd_fence_rule, ↓Cmd_carry_rule, ↓Cmd_upTo_rule, ↓id_eq, ite_self, implies_true]
  | split
  | refine (foldl_fr _ (fun _ _ => ?_) _ _).trans ?_
  | refine rule_done_fr (s := s) (by assumption) ?_
  | refine rule_change_fr (s := s) (by assumption) ?_

theorem cmdTrellisRestore_fr (e : Element) (h : Hdr) (s : State) : ruleFr ((cmdTrellisRestore e).rule h s) s = s.fr := by
  unfold cmdTrellisRestore
  repeat' first
  | with_reducible rfl
  | simp only [↓fr_mk, ↓fr_mk_clock, ↓fr_mk_sec, ↓foldl_fr, ↓ite_fr, ↓State.fence_fr, ↓ruleFr_ite, ↓ruleFr_need, ↓ruleFr_needRange, ↓ruleFr_done, ↓ruleFr_change, ↓ruleFr_held, ↓ruleFr_refuse, ↓State.restoreElem_fr, ↓Cmd_get_rule, ↓Cmd_set_rule, ↓Cmd_stats_rule, ↓Cmd_mirrored_rule, ↓Cmd_fence_rule, ↓Cmd_carry_rule, ↓Cmd_upTo_rule, ↓id_eq, ite_self, implies_true]
  | split
  | refine (foldl_fr _ (fun _ _ => ?_) _ _).trans ?_
  | refine rule_done_fr (s := s) (by assumption) ?_
  | refine rule_change_fr (s := s) (by assumption) ?_

theorem cmdTrellisStatusGet_fr (e : Element) (h : Hdr) (s : State) : ruleFr ((cmdTrellisStatusGet e).rule h s) s = s.fr := by
  unfold cmdTrellisStatusGet
  repeat' first
  | with_reducible rfl
  | simp only [↓fr_mk, ↓fr_mk_clock, ↓fr_mk_sec, ↓foldl_fr, ↓ite_fr, ↓State.reply_fr, ↓ruleFr_ite, ↓ruleFr_need, ↓ruleFr_needRange, ↓ruleFr_reply, ↓ruleFr_done, ↓ruleFr_change, ↓ruleFr_held, ↓ruleFr_refuse, ↓Cmd_get_rule, ↓Cmd_set_rule, ↓Cmd_stats_rule, ↓Cmd_mirrored_rule, ↓Cmd_fence_rule, ↓Cmd_carry_rule, ↓Cmd_upTo_rule, ↓id_eq, ite_self, implies_true]
  | split
  | refine (foldl_fr _ (fun _ _ => ?_) _ _).trans ?_
  | refine rule_done_fr (s := s) (by assumption) ?_
  | refine rule_change_fr (s := s) (by assumption) ?_

theorem cmdMcastGroupSet_fr (group : Nat) (self : Bool) (members : List Nat) (h : Hdr) (s : State) : ruleFr ((cmdMcastGroupSet group self members).rule h s) s = s.fr := by
  unfold cmdMcastGroupSet
  repeat' first
  | with_reducible rfl
  | simp only [↓fr_mk, ↓fr_mk_clock, ↓fr_mk_sec, ↓foldl_fr, ↓ite_fr, ↓ruleFr_ite, ↓ruleFr_need, ↓ruleFr_needRange, ↓ruleFr_at, ↓ruleFr_access, ↓ruleFr_param, ↓ruleFr_missing, ↓ruleFr_full, ↓ruleFr_done, ↓ruleFr_change, ↓ruleFr_held, ↓ruleFr_refuse, ↓Cmd_get_rule, ↓Cmd_set_rule, ↓Cmd_stats_rule, ↓Cmd_mirrored_rule, ↓Cmd_fence_rule, ↓Cmd_carry_rule, ↓Cmd_upTo_rule, ↓id_eq, ite_self, implies_true]
  | split
  | refine (foldl_fr _ (fun _ _ => ?_) _ _).trans ?_
  | refine rule_done_fr (s := s) (by assumption) ?_
  | refine rule_change_fr (s := s) (by assumption) ?_

theorem cmdMcastGroupGet_fr (group : Nat) (h : Hdr) (s : State) : ruleFr ((cmdMcastGroupGet group).rule h s) s = s.fr := by
  unfold cmdMcastGroupGet
  repeat' first
  | with_reducible rfl
  | simp only [↓fr_mk, ↓fr_mk_clock, ↓fr_mk_sec, ↓foldl_fr, ↓ite_fr, ↓State.reply_fr, ↓ruleFr_ite, ↓ruleFr_need, ↓ruleFr_needRange, ↓ruleFr_reply, ↓ruleFr_access, ↓ruleFr_missing, ↓ruleFr_done, ↓ruleFr_change, ↓ruleFr_held, ↓ruleFr_refuse, ↓Cmd_get_rule, ↓Cmd_set_rule, ↓Cmd_stats_rule, ↓Cmd_mirrored_rule, ↓Cmd_fence_rule, ↓Cmd_carry_rule, ↓Cmd_upTo_rule, ↓id_eq, ite_self, implies_true]
  | split
  | refine (foldl_fr _ (fun _ _ => ?_) _ _).trans ?_
  | refine rule_done_fr (s := s) (by assumption) ?_
  | refine rule_change_fr (s := s) (by assumption) ?_

theorem cmdMcastGroupDelete_fr (group : Nat) (h : Hdr) (s : State) : ruleFr ((cmdMcastGroupDelete group).rule h s) s = s.fr := by
  unfold cmdMcastGroupDelete
  repeat' first
  | with_reducible rfl
  | simp only [↓fr_mk, ↓fr_mk_clock, ↓fr_mk_sec, ↓foldl_fr, ↓ite_fr, ↓ruleFr_ite, ↓ruleFr_need, ↓ruleFr_needRange, ↓ruleFr_at, ↓ruleFr_access, ↓ruleFr_missing, ↓ruleFr_done, ↓ruleFr_change, ↓ruleFr_held, ↓ruleFr_refuse, ↓Cmd_get_rule, ↓Cmd_set_rule, ↓Cmd_stats_rule, ↓Cmd_mirrored_rule, ↓Cmd_fence_rule, ↓Cmd_carry_rule, ↓Cmd_upTo_rule, ↓id_eq, ite_self, implies_true]
  | split
  | refine (foldl_fr _ (fun _ _ => ?_) _ _).trans ?_
  | refine rule_done_fr (s := s) (by assumption) ?_
  | refine rule_change_fr (s := s) (by assumption) ?_

theorem cmdCutThroughSet_fr (port : Nat) (en : Option Bool) (start : Option Nat) (h : Hdr) (s : State) : ruleFr ((cmdCutThroughSet port en start).rule h s) s = s.fr := by
  unfold cmdCutThroughSet
  repeat' first
  | with_reducible rfl
  | simp only [↓fr_mk, ↓fr_mk_clock, ↓fr_mk_sec, ↓foldl_fr, ↓ite_fr, ↓ruleFr_ite, ↓ruleFr_need, ↓ruleFr_needRange, ↓ruleFr_at, ↓ruleFr_access, ↓ruleFr_param, ↓ruleFr_missing, ↓ruleFr_done, ↓ruleFr_change, ↓ruleFr_held, ↓ruleFr_refuse, ↓Cmd_get_rule, ↓Cmd_set_rule, ↓Cmd_stats_rule, ↓Cmd_mirrored_rule, ↓Cmd_fence_rule, ↓Cmd_carry_rule, ↓Cmd_upTo_rule, ↓id_eq, ite_self, implies_true]
  | split
  | refine (foldl_fr _ (fun _ _ => ?_) _ _).trans ?_
  | refine rule_done_fr (s := s) (by assumption) ?_
  | refine rule_change_fr (s := s) (by assumption) ?_

theorem cmdTrellisStatsGet_fr (sel : StatsSel) (clear : Bool) (h : Hdr) (s : State) : ruleFr ((cmdTrellisStatsGet sel clear).rule h s) s = s.fr := by
  unfold cmdTrellisStatsGet
  repeat' first
  | with_reducible rfl
  | simp only [↓fr_mk, ↓fr_mk_clock, ↓fr_mk_sec, ↓foldl_fr, ↓ite_fr, ↓ruleFr_ite, ↓ruleFr_need, ↓ruleFr_needRange, ↓ruleFr_done, ↓ruleFr_change, ↓ruleFr_held, ↓ruleFr_refuse, ↓trellisStatsRule_fr, ↓Cmd_get_rule, ↓Cmd_set_rule, ↓Cmd_stats_rule, ↓Cmd_mirrored_rule, ↓Cmd_fence_rule, ↓Cmd_carry_rule, ↓Cmd_upTo_rule, ↓id_eq, ite_self, implies_true]
  | split
  | refine (foldl_fr _ (fun _ _ => ?_) _ _).trans ?_
  | refine rule_done_fr (s := s) (by assumption) ?_
  | refine rule_change_fr (s := s) (by assumption) ?_

theorem State.putBySlot_fr (s : State) (kind slot : Nat) (mk : Nat → ObjVal) : ruleFr (State.putBySlot s kind slot mk) s = s.fr := by
  unfold State.putBySlot
  repeat' first
  | with_reducible rfl
  | simp only [↓fr_mk, ↓fr_mk_clock, ↓fr_mk_sec, ↓foldl_fr, ↓ite_fr, ↓State.draw_fr, ↓State.countOp_fr, ↓State.addObj_fr, ↓ruleFr_ite, ↓ruleFr_need, ↓ruleFr_needRange, ↓ruleFr_val, ↓ruleFr_conflict, ↓ruleFr_busy, ↓ruleFr_full, ↓ruleFr_done, ↓ruleFr_change, ↓ruleFr_held, ↓ruleFr_refuse, ↓ruleFr_access, ↓ruleFr_param, ↓ruleFr_missing, ↓ruleFr_auth, ↓ruleFr_lockedR, ↓State.inMaquette, ↓id_eq, ite_self, implies_true]
  | split
  | refine (foldl_fr _ (fun _ _ => ?_) _ _).trans ?_
  | refine rule_done_fr (s := s) (by assumption) ?_
  | refine rule_change_fr (s := s) (by assumption) ?_

theorem State.putById_fr (s : State) (kind id : Nat) (val : ObjVal) : ruleFr (State.putById s kind id val) s = s.fr := by
  unfold State.putById
  repeat' first
  | with_reducible rfl
  | simp only [↓fr_mk, ↓fr_mk_clock, ↓fr_mk_sec, ↓foldl_fr, ↓ite_fr, ↓State.countOp_fr, ↓State.addObj_fr, ↓State.killObj_fr, ↓ruleFr_ite, ↓ruleFr_need, ↓ruleFr_needRange, ↓ruleFr_ok, ↓ruleFr_val, ↓ruleFr_conflict, ↓ruleFr_busy, ↓ruleFr_full, ↓ruleFr_done, ↓ruleFr_change, ↓ruleFr_held, ↓ruleFr_refuse, ↓ruleFr_access, ↓ruleFr_param, ↓ruleFr_missing, ↓ruleFr_auth, ↓ruleFr_lockedR, ↓State.inMaquette, ↓id_eq, ite_self, implies_true]
  | split
  | refine (foldl_fr _ (fun _ _ => ?_) _ _).trans ?_
  | refine rule_done_fr (s := s) (by assumption) ?_
  | refine rule_change_fr (s := s) (by assumption) ?_

theorem State.deleteObj_fr (s : State) (kind index : Nat) : ruleFr (State.deleteObj s kind index) s = s.fr := by
  unfold State.deleteObj
  repeat' first
  | with_reducible rfl
  | simp only [↓fr_mk, ↓fr_mk_clock, ↓fr_mk_sec, ↓foldl_fr, ↓ite_fr, ↓State.countOp_fr, ↓State.killObj_fr, ↓ruleFr_ite, ↓ruleFr_need, ↓ruleFr_needRange, ↓ruleFr_ok, ↓ruleFr_conflict, ↓ruleFr_missing, ↓ruleFr_busy, ↓ruleFr_full, ↓ruleFr_done, ↓ruleFr_change, ↓ruleFr_held, ↓ruleFr_refuse, ↓ruleFr_access, ↓ruleFr_param, ↓ruleFr_auth, ↓ruleFr_lockedR, ↓State.inMaquette, ↓id_eq, ite_self, implies_true]
  | split
  | refine (foldl_fr _ (fun _ _ => ?_) _ _).trans ?_
  | refine rule_done_fr (s := s) (by assumption) ?_
  | refine rule_change_fr (s := s) (by assumption) ?_

theorem cmdRuleAdd_fr (r : RuleRec) (h : Hdr) (s : State) : ruleFr ((cmdRuleAdd r).rule h s) s = s.fr := by
  unfold cmdRuleAdd
  repeat' first
  | with_reducible rfl
  | simp only [↓fr_mk, ↓fr_mk_clock, ↓fr_mk_sec, ↓foldl_fr, ↓ite_fr, ↓ruleFr_ite, ↓ruleFr_need, ↓ruleFr_needRange, ↓ruleFr_access, ↓ruleFr_param, ↓ruleFr_done, ↓ruleFr_change, ↓ruleFr_held, ↓ruleFr_refuse, ↓ruleFr_missing, ↓ruleFr_conflict, ↓ruleFr_auth, ↓ruleFr_lockedR, ↓ruleFr_busy, ↓ruleRule, ↓State.putBySlot_fr, ↓Cmd_get_rule, ↓Cmd_set_rule, ↓Cmd_stats_rule, ↓Cmd_mirrored_rule, ↓Cmd_fence_rule, ↓Cmd_carry_rule, ↓Cmd_upTo_rule, ↓id_eq, ite_self, implies_true]
  | split
  | refine (foldl_fr _ (fun _ _ => ?_) _ _).trans ?_
  | refine rule_done_fr (s := s) (by assumption) ?_
  | refine rule_change_fr (s := s) (by assumption) ?_

theorem cmdRangeSet_fr (cmp : Nat) (extract : BitVec 32) (low high : Nat) (h : Hdr) (s : State) : ruleFr ((cmdRangeSet cmp extract low high).rule h s) s = s.fr := by
  unfold cmdRangeSet
  repeat' first
  | with_reducible rfl
  | simp only [↓fr_mk, ↓fr_mk_clock, ↓fr_mk_sec, ↓foldl_fr, ↓ite_fr, ↓State.stageWrite_fr, ↓ruleFr_ite, ↓ruleFr_need, ↓ruleFr_needRange, ↓ruleFr_ok, ↓ruleFr_access, ↓ruleFr_param, ↓ruleFr_conflict, ↓ruleFr_done, ↓ruleFr_change, ↓ruleFr_held, ↓ruleFr_refuse, ↓Cmd_get_rule, ↓Cmd_set_rule, ↓Cmd_stats_rule, ↓Cmd_mirrored_rule, ↓Cmd_fence_rule, ↓Cmd_carry_rule, ↓Cmd_upTo_rule, ↓id_eq, ite_self, implies_true]
  | split
  | refine (foldl_fr _ (fun _ _ => ?_) _ _).trans ?_
  | refine rule_done_fr (s := s) (by assumption) ?_
  | refine rule_change_fr (s := s) (by assumption) ?_

theorem cmdParseEntrySet_fr (slot : Nat) (record : BitVec 128) (h : Hdr) (s : State) : ruleFr ((cmdParseEntrySet slot record).rule h s) s = s.fr := by
  unfold cmdParseEntrySet
  repeat' first
  | with_reducible rfl
  | simp only [↓fr_mk, ↓fr_mk_clock, ↓fr_mk_sec, ↓foldl_fr, ↓ite_fr, ↓State.record_fr, ↓ruleFr_ite, ↓ruleFr_need, ↓ruleFr_needRange, ↓ruleFr_access, ↓ruleFr_param, ↓ruleFr_done, ↓ruleFr_change, ↓ruleFr_held, ↓ruleFr_refuse, ↓State.putBySlot_fr, ↓Cmd_get_rule, ↓Cmd_set_rule, ↓Cmd_stats_rule, ↓Cmd_mirrored_rule, ↓Cmd_fence_rule, ↓Cmd_carry_rule, ↓Cmd_upTo_rule, ↓id_eq, ite_self, implies_true]
  | split
  | refine (foldl_fr _ (fun _ _ => ?_) _ _).trans ?_
  | refine rule_done_fr (s := s) (by assumption) ?_
  | refine rule_change_fr (s := s) (by assumption) ?_

theorem cmdKeyProfileSet_fr (dir id : Nat) (extracts : List (BitVec 32)) (rangeGroup : Nat) (h : Hdr) (s : State) : ruleFr ((cmdKeyProfileSet dir id extracts rangeGroup).rule h s) s = s.fr := by
  unfold cmdKeyProfileSet
  repeat' first
  | with_reducible rfl
  | simp only [↓fr_mk, ↓fr_mk_clock, ↓fr_mk_sec, ↓foldl_fr, ↓ite_fr, ↓ruleFr_ite, ↓ruleFr_need, ↓ruleFr_needRange, ↓ruleFr_access, ↓ruleFr_param, ↓ruleFr_done, ↓ruleFr_change, ↓ruleFr_held, ↓ruleFr_refuse, ↓State.putById_fr, ↓Cmd_get_rule, ↓Cmd_set_rule, ↓Cmd_stats_rule, ↓Cmd_mirrored_rule, ↓Cmd_fence_rule, ↓Cmd_carry_rule, ↓Cmd_upTo_rule, ↓id_eq, ite_self, implies_true]
  | split
  | refine (foldl_fr _ (fun _ _ => ?_) _ _).trans ?_
  | refine rule_done_fr (s := s) (by assumption) ?_
  | refine rule_change_fr (s := s) (by assumption) ?_

theorem cmdEditProfileSet_fr (id : Nat) (ops : List EditOp) (h : Hdr) (s : State) : ruleFr ((cmdEditProfileSet id ops).rule h s) s = s.fr := by
  unfold cmdEditProfileSet
  repeat' first
  | with_reducible rfl
  | simp only [↓fr_mk, ↓fr_mk_clock, ↓fr_mk_sec, ↓foldl_fr, ↓ite_fr, ↓ruleFr_ite, ↓ruleFr_need, ↓ruleFr_needRange, ↓ruleFr_access, ↓ruleFr_param, ↓ruleFr_done, ↓ruleFr_change, ↓ruleFr_held, ↓ruleFr_refuse, ↓State.putById_fr, ↓Cmd_get_rule, ↓Cmd_set_rule, ↓Cmd_stats_rule, ↓Cmd_mirrored_rule, ↓Cmd_fence_rule, ↓Cmd_carry_rule, ↓Cmd_upTo_rule, ↓id_eq, ite_self, implies_true]
  | split
  | refine (foldl_fr _ (fun _ _ => ?_) _ _).trans ?_
  | refine rule_done_fr (s := s) (by assumption) ?_
  | refine rule_change_fr (s := s) (by assumption) ?_

theorem cmdTemplateSet_fr (id : Nat) (bytes : List Byte) (h : Hdr) (s : State) : ruleFr ((cmdTemplateSet id bytes).rule h s) s = s.fr := by
  unfold cmdTemplateSet
  repeat' first
  | with_reducible rfl
  | simp only [↓fr_mk, ↓fr_mk_clock, ↓fr_mk_sec, ↓foldl_fr, ↓ite_fr, ↓ruleFr_ite, ↓ruleFr_need, ↓ruleFr_needRange, ↓ruleFr_access, ↓ruleFr_param, ↓ruleFr_done, ↓ruleFr_change, ↓ruleFr_held, ↓ruleFr_refuse, ↓State.putById_fr, ↓Cmd_get_rule, ↓Cmd_set_rule, ↓Cmd_stats_rule, ↓Cmd_mirrored_rule, ↓Cmd_fence_rule, ↓Cmd_carry_rule, ↓Cmd_upTo_rule, ↓id_eq, ite_self, implies_true]
  | split
  | refine (foldl_fr _ (fun _ _ => ?_) _ _).trans ?_
  | refine rule_done_fr (s := s) (by assumption) ?_
  | refine rule_change_fr (s := s) (by assumption) ?_

theorem cmdMirrorSessionSet_fr (session : Nat) (toCpu : Bool) (dest trunc : Nat) (h : Hdr) (s : State) : ruleFr ((cmdMirrorSessionSet session toCpu dest trunc).rule h s) s = s.fr := by
  unfold cmdMirrorSessionSet
  repeat' first
  | with_reducible rfl
  | simp only [↓fr_mk, ↓fr_mk_clock, ↓fr_mk_sec, ↓foldl_fr, ↓ite_fr, ↓ruleFr_ite, ↓ruleFr_need, ↓ruleFr_needRange, ↓ruleFr_access, ↓ruleFr_param, ↓ruleFr_done, ↓ruleFr_change, ↓ruleFr_held, ↓ruleFr_refuse, ↓State.putById_fr, ↓Cmd_get_rule, ↓Cmd_set_rule, ↓Cmd_stats_rule, ↓Cmd_mirrored_rule, ↓Cmd_fence_rule, ↓Cmd_carry_rule, ↓Cmd_upTo_rule, ↓id_eq, ite_self, implies_true]
  | split
  | refine (foldl_fr _ (fun _ _ => ?_) _ _).trans ?_
  | refine rule_done_fr (s := s) (by assumption) ?_
  | refine rule_change_fr (s := s) (by assumption) ?_

theorem cmdEgressBind_fr (port profile : Nat) (h : Hdr) (s : State) : ruleFr ((cmdEgressBind port profile).rule h s) s = s.fr := by
  unfold cmdEgressBind
  repeat' first
  | with_reducible rfl
  | simp only [↓fr_mk, ↓fr_mk_clock, ↓fr_mk_sec, ↓foldl_fr, ↓ite_fr, ↓ruleFr_ite, ↓ruleFr_need, ↓ruleFr_needRange, ↓ruleFr_access, ↓ruleFr_done, ↓ruleFr_change, ↓ruleFr_held, ↓ruleFr_refuse, ↓State.putById_fr, ↓Cmd_get_rule, ↓Cmd_set_rule, ↓Cmd_stats_rule, ↓Cmd_mirrored_rule, ↓Cmd_fence_rule, ↓Cmd_carry_rule, ↓Cmd_upTo_rule, ↓id_eq, ite_self, implies_true]
  | split
  | refine (foldl_fr _ (fun _ _ => ?_) _ _).trans ?_
  | refine rule_done_fr (s := s) (by assumption) ?_
  | refine rule_change_fr (s := s) (by assumption) ?_

theorem cmdObjectDelete_fr (kind index : Nat) (h : Hdr) (s : State) : ruleFr ((cmdObjectDelete kind index).rule h s) s = s.fr := by
  unfold cmdObjectDelete
  repeat' first
  | with_reducible rfl
  | simp only [↓fr_mk, ↓fr_mk_clock, ↓fr_mk_sec, ↓foldl_fr, ↓ite_fr, ↓ruleFr_ite, ↓ruleFr_need, ↓ruleFr_needRange, ↓ruleFr_access, ↓ruleFr_param, ↓ruleFr_done, ↓ruleFr_change, ↓ruleFr_held, ↓ruleFr_refuse, ↓State.deleteObj_fr, ↓Cmd_get_rule, ↓Cmd_set_rule, ↓Cmd_stats_rule, ↓Cmd_mirrored_rule, ↓Cmd_fence_rule, ↓Cmd_carry_rule, ↓Cmd_upTo_rule, ↓id_eq, ite_self, implies_true]
  | split
  | refine (foldl_fr _ (fun _ _ => ?_) _ _).trans ?_
  | refine rule_done_fr (s := s) (by assumption) ?_
  | refine rule_change_fr (s := s) (by assumption) ?_

theorem cmdMaquetteOpen_fr (h : Hdr) (s : State) : ruleFr ((cmdMaquetteOpen).rule h s) s = s.fr := by
  unfold cmdMaquetteOpen
  repeat' first
  | with_reducible rfl
  | simp only [↓fr_mk, ↓fr_mk_clock, ↓fr_mk_sec, ↓foldl_fr, ↓ite_fr, ↓ruleFr_ite, ↓ruleFr_need, ↓ruleFr_needRange, ↓ruleFr_val, ↓ruleFr_conflict, ↓ruleFr_busy, ↓ruleFr_done, ↓ruleFr_change, ↓ruleFr_held, ↓ruleFr_refuse, ↓Cmd_get_rule, ↓Cmd_set_rule, ↓Cmd_stats_rule, ↓Cmd_mirrored_rule, ↓Cmd_fence_rule, ↓Cmd_carry_rule, ↓Cmd_upTo_rule, ↓id_eq, ite_self, implies_true]
  | split
  | refine (foldl_fr _ (fun _ _ => ?_) _ _).trans ?_
  | refine rule_done_fr (s := s) (by assumption) ?_
  | refine rule_change_fr (s := s) (by assumption) ?_

theorem cmdMaquetteCommit_fr (target : EpochName) (h : Hdr) (s : State) : ruleFr ((cmdMaquetteCommit target).rule h s) s = s.fr := by
  unfold cmdMaquetteCommit
  repeat' first
  | with_reducible rfl
  | simp only [↓fr_mk, ↓fr_mk_clock, ↓fr_mk_sec, ↓foldl_fr, ↓ite_fr, ↓ruleFr_ite, ↓ruleFr_need, ↓ruleFr_needRange, ↓ruleFr_conflict, ↓ruleFr_busy, ↓ruleFr_done, ↓ruleFr_change, ↓ruleFr_held, ↓ruleFr_refuse, ↓ruleFr_access, ↓ruleFr_param, ↓ruleFr_missing, ↓ruleFr_auth, ↓ruleFr_lockedR, ↓State.versionsFull, ↓ImageCheck.refuse, ↓Cmd_get_rule, ↓Cmd_set_rule, ↓Cmd_stats_rule, ↓Cmd_mirrored_rule, ↓Cmd_fence_rule, ↓Cmd_carry_rule, ↓Cmd_upTo_rule, ↓id_eq, ite_self, implies_true]
  | split
  | refine (foldl_fr _ (fun _ _ => ?_) _ _).trans ?_
  | refine rule_done_fr (s := s) (by assumption) ?_
  | refine rule_change_fr (s := s) (by assumption) ?_

theorem cmdRuleRead_fr (kind slot : Nat) (h : Hdr) (s : State) : ruleFr ((cmdRuleRead kind slot).rule h s) s = s.fr := by
  unfold cmdRuleRead
  repeat' first
  | with_reducible rfl
  | simp only [↓fr_mk, ↓fr_mk_clock, ↓fr_mk_sec, ↓foldl_fr, ↓ite_fr, ↓State.reply_fr, ↓ruleFr_ite, ↓ruleFr_need, ↓ruleFr_needRange, ↓ruleFr_val, ↓ruleFr_reply, ↓ruleFr_access, ↓ruleFr_param, ↓ruleFr_missing, ↓ruleFr_poisoned, ↓ruleFr_done, ↓ruleFr_change, ↓ruleFr_held, ↓ruleFr_refuse, ↓Cmd_get_rule, ↓Cmd_set_rule, ↓Cmd_stats_rule, ↓Cmd_mirrored_rule, ↓Cmd_fence_rule, ↓Cmd_carry_rule, ↓Cmd_upTo_rule, ↓id_eq, ite_self, implies_true]
  | split
  | refine (foldl_fr _ (fun _ _ => ?_) _ _).trans ?_
  | refine rule_done_fr (s := s) (by assumption) ?_
  | refine rule_change_fr (s := s) (by assumption) ?_

theorem cmdVersionStatusGet_fr (h : Hdr) (s : State) : ruleFr ((cmdVersionStatusGet).rule h s) s = s.fr := by
  unfold cmdVersionStatusGet
  repeat' first
  | with_reducible rfl
  | simp only [↓fr_mk, ↓fr_mk_clock, ↓fr_mk_sec, ↓foldl_fr, ↓ite_fr, ↓ruleFr_ite, ↓ruleFr_need, ↓ruleFr_needRange, ↓ruleFr_done, ↓ruleFr_change, ↓ruleFr_held, ↓ruleFr_refuse, ↓Cmd_get_rule, ↓Cmd_set_rule, ↓Cmd_stats_rule, ↓Cmd_mirrored_rule, ↓Cmd_fence_rule, ↓Cmd_carry_rule, ↓Cmd_upTo_rule, ↓id_eq, ite_self, implies_true]
  | split
  | refine (foldl_fr _ (fun _ _ => ?_) _ _).trans ?_
  | refine rule_done_fr (s := s) (by assumption) ?_
  | refine rule_change_fr (s := s) (by assumption) ?_

theorem cmdParseStatsGet_fr (pipe : Nat) (clear : Bool) (h : Hdr) (s : State) : ruleFr ((cmdParseStatsGet pipe clear).rule h s) s = s.fr := by
  unfold cmdParseStatsGet
  repeat' first
  | with_reducible rfl
  | simp only [↓fr_mk, ↓fr_mk_clock, ↓fr_mk_sec, ↓foldl_fr, ↓ite_fr, ↓ruleFr_ite, ↓ruleFr_need, ↓ruleFr_needRange, ↓ruleFr_access, ↓ruleFr_done, ↓ruleFr_change, ↓ruleFr_held, ↓ruleFr_refuse, ↓statsRule_fr, ↓Cmd_get_rule, ↓Cmd_set_rule, ↓Cmd_stats_rule, ↓Cmd_mirrored_rule, ↓Cmd_fence_rule, ↓Cmd_carry_rule, ↓Cmd_upTo_rule, ↓id_eq, ite_self, implies_true]
  | split
  | refine (foldl_fr _ (fun _ _ => ?_) _ _).trans ?_
  | refine rule_done_fr (s := s) (by assumption) ?_
  | refine rule_change_fr (s := s) (by assumption) ?_

theorem upkeepStatsRule_fr (sel : StatsSel) (clear : Bool) (s : State) : ruleFr (upkeepStatsRule sel clear s) s = s.fr := by
  unfold upkeepStatsRule
  repeat' first
  | with_reducible rfl
  | simp only [↓fr_mk, ↓fr_mk_clock, ↓fr_mk_sec, ↓foldl_fr, ↓ite_fr, ↓ruleFr_ite, ↓ruleFr_need, ↓ruleFr_needRange, ↓ruleFr_access, ↓ruleFr_param, ↓ruleFr_done, ↓ruleFr_change, ↓ruleFr_held, ↓ruleFr_refuse, ↓statsRule_fr, ↓id_eq, ite_self, implies_true]
  | split
  | refine (foldl_fr _ (fun _ _ => ?_) _ _).trans ?_
  | refine rule_done_fr (s := s) (by assumption) ?_
  | refine rule_change_fr (s := s) (by assumption) ?_

theorem cmdScrubSet_fr (period : Nat) (h : Hdr) (s : State) : ruleFr ((cmdScrubSet period).rule h s) s = s.fr := by
  unfold cmdScrubSet
  repeat' first
  | with_reducible rfl
  | simp only [↓fr_mk, ↓fr_mk_clock, ↓fr_mk_sec, ↓foldl_fr, ↓ite_fr, ↓State.scrubLate_fr, ↓ruleFr_ite, ↓ruleFr_need, ↓ruleFr_needRange, ↓ruleFr_ok, ↓ruleFr_param, ↓ruleFr_done, ↓ruleFr_change, ↓ruleFr_held, ↓ruleFr_refuse, ↓Cmd_get_rule, ↓Cmd_set_rule, ↓Cmd_stats_rule, ↓Cmd_mirrored_rule, ↓Cmd_fence_rule, ↓Cmd_carry_rule, ↓Cmd_upTo_rule, ↓id_eq, ite_self, implies_true]
  | split
  | refine (foldl_fr _ (fun _ _ => ?_) _ _).trans ?_
  | refine rule_done_fr (s := s) (by assumption) ?_
  | refine rule_change_fr (s := s) (by assumption) ?_

theorem cmdLockAcquire_fr (firstBank bankCount firstBucket bucketCount lease : Nat) (h : Hdr) (s : State) : ruleFr ((cmdLockAcquire firstBank bankCount firstBucket bucketCount lease).rule h s) s = s.fr := by
  unfold cmdLockAcquire
  repeat' first
  | with_reducible rfl
  | simp only [↓fr_mk, ↓fr_mk_clock, ↓fr_mk_sec, ↓foldl_fr, ↓ite_fr, ↓State.putLock_fr, ↓State.reply_fr, ↓ruleFr_ite, ↓ruleFr_need, ↓ruleFr_needRange, ↓ruleFr_reply, ↓ruleFr_param, ↓ruleFr_conflict, ↓ruleFr_lockedR, ↓ruleFr_full, ↓ruleFr_done, ↓ruleFr_change, ↓ruleFr_held, ↓ruleFr_refuse, ↓ruleFr_access, ↓ruleFr_missing, ↓ruleFr_auth, ↓ruleFr_busy, ↓fromHost, ↓Cmd_get_rule, ↓Cmd_set_rule, ↓Cmd_stats_rule, ↓Cmd_mirrored_rule, ↓Cmd_fence_rule, ↓Cmd_carry_rule, ↓Cmd_upTo_rule, ↓id_eq, ite_self, implies_true]
  | split
  | refine (foldl_fr _ (fun _ _ => ?_) _ _).trans ?_
  | refine rule_done_fr (s := s) (by assumption) ?_
  | refine rule_change_fr (s := s) (by assumption) ?_

theorem cmdLockRenew_fr (lock lease : Nat) (h : Hdr) (s : State) : ruleFr ((cmdLockRenew lock lease).rule h s) s = s.fr := by
  unfold cmdLockRenew
  repeat' first
  | with_reducible rfl
  | simp only [↓fr_mk, ↓fr_mk_clock, ↓fr_mk_sec, ↓foldl_fr, ↓ite_fr, ↓State.putLock_fr, ↓ruleFr_ite, ↓ruleFr_need, ↓ruleFr_needRange, ↓ruleFr_val, ↓ruleFr_access, ↓ruleFr_param, ↓ruleFr_conflict, ↓ruleFr_missing, ↓ruleFr_lockedR, ↓ruleFr_done, ↓ruleFr_change, ↓ruleFr_held, ↓ruleFr_refuse, ↓ruleFr_auth, ↓ruleFr_busy, ↓fromHost, ↓State.lockRule, ↓Cmd_get_rule, ↓Cmd_set_rule, ↓Cmd_stats_rule, ↓Cmd_mirrored_rule, ↓Cmd_fence_rule, ↓Cmd_carry_rule, ↓Cmd_upTo_rule, ↓id_eq, ite_self, implies_true]
  | split
  | refine (foldl_fr _ (fun _ _ => ?_) _ _).trans ?_
  | refine rule_done_fr (s := s) (by assumption) ?_
  | refine rule_change_fr (s := s) (by assumption) ?_

theorem cmdLockRelease_fr (lock : Nat) (h : Hdr) (s : State) : ruleFr ((cmdLockRelease lock).rule h s) s = s.fr := by
  unfold cmdLockRelease
  repeat' first
  | with_reducible rfl
  | simp only [↓fr_mk, ↓fr_mk_clock, ↓fr_mk_sec, ↓foldl_fr, ↓ite_fr, ↓State.putLock_fr, ↓ruleFr_ite, ↓ruleFr_need, ↓ruleFr_needRange, ↓ruleFr_ok, ↓ruleFr_access, ↓ruleFr_conflict, ↓ruleFr_missing, ↓ruleFr_lockedR, ↓ruleFr_done, ↓ruleFr_change, ↓ruleFr_held, ↓ruleFr_refuse, ↓ruleFr_param, ↓ruleFr_auth, ↓ruleFr_busy, ↓fromHost, ↓State.lockRule, ↓Cmd_get_rule, ↓Cmd_set_rule, ↓Cmd_stats_rule, ↓Cmd_mirrored_rule, ↓Cmd_fence_rule, ↓Cmd_carry_rule, ↓Cmd_upTo_rule, ↓id_eq, ite_self, implies_true]
  | split
  | refine (foldl_fr _ (fun _ _ => ?_) _ _).trans ?_
  | refine rule_done_fr (s := s) (by assumption) ?_
  | refine rule_change_fr (s := s) (by assumption) ?_

theorem cmdLockStatusGet_fr (lock : Nat) (h : Hdr) (s : State) : ruleFr ((cmdLockStatusGet lock).rule h s) s = s.fr := by
  unfold cmdLockStatusGet
  repeat' first
  | with_reducible rfl
  | simp only [↓fr_mk, ↓fr_mk_clock, ↓fr_mk_sec, ↓foldl_fr, ↓ite_fr, ↓State.reply_fr, ↓ruleFr_ite, ↓ruleFr_need, ↓ruleFr_needRange, ↓ruleFr_reply, ↓ruleFr_access, ↓ruleFr_done, ↓ruleFr_change, ↓ruleFr_held, ↓ruleFr_refuse, ↓Cmd_get_rule, ↓Cmd_set_rule, ↓Cmd_stats_rule, ↓Cmd_mirrored_rule, ↓Cmd_fence_rule, ↓Cmd_carry_rule, ↓Cmd_upTo_rule, ↓id_eq, ite_self, implies_true]
  | split
  | refine (foldl_fr _ (fun _ _ => ?_) _ _).trans ?_
  | refine rule_done_fr (s := s) (by assumption) ?_
  | refine rule_change_fr (s := s) (by assumption) ?_

theorem cmdTableDmaWrite_fr (lock bank firstBucket count : Nat) (images : List (List (BitVec 256))) (h : Hdr) (s : State) : ruleFr ((cmdTableDmaWrite lock bank firstBucket count images).rule h s) s = s.fr := by
  unfold cmdTableDmaWrite
  repeat' first
  | with_reducible rfl
  | simp only [↓fr_mk, ↓fr_mk_clock, ↓fr_mk_sec, ↓foldl_fr, ↓ite_fr, ↓State.startJob_fr, ↓ruleFr_ite, ↓ruleFr_need, ↓ruleFr_needRange, ↓ruleFr_access, ↓ruleFr_param, ↓ruleFr_conflict, ↓ruleFr_missing, ↓ruleFr_lockedR, ↓ruleFr_done, ↓ruleFr_change, ↓ruleFr_held, ↓ruleFr_refuse, ↓ruleFr_auth, ↓ruleFr_busy, ↓fromHost, ↓State.lockRule, ↓Cmd_get_rule, ↓Cmd_set_rule, ↓Cmd_stats_rule, ↓Cmd_mirrored_rule, ↓Cmd_fence_rule, ↓Cmd_carry_rule, ↓Cmd_upTo_rule, ↓id_eq, ite_self, implies_true]
  | split
  | refine (foldl_fr _ (fun _ _ => ?_) _ _).trans ?_
  | refine rule_done_fr (s := s) (by assumption) ?_
  | refine rule_change_fr (s := s) (by assumption) ?_

theorem cmdTableDmaRead_fr (bank firstBucket count hostAddr : Nat) (h : Hdr) (s : State) : ruleFr ((cmdTableDmaRead bank firstBucket count hostAddr).rule h s) s = s.fr := by
  unfold cmdTableDmaRead
  repeat' first
  | with_reducible rfl
  | simp only [↓fr_mk, ↓fr_mk_clock, ↓fr_mk_sec, ↓foldl_fr, ↓ite_fr, ↓State.startJob_fr, ↓ruleFr_ite, ↓ruleFr_need, ↓ruleFr_needRange, ↓ruleFr_param, ↓ruleFr_done, ↓ruleFr_change, ↓ruleFr_held, ↓ruleFr_refuse, ↓Cmd_get_rule, ↓Cmd_set_rule, ↓Cmd_stats_rule, ↓Cmd_mirrored_rule, ↓Cmd_fence_rule, ↓Cmd_carry_rule, ↓Cmd_upTo_rule, ↓id_eq, ite_self, implies_true]
  | split
  | refine (foldl_fr _ (fun _ _ => ?_) _ _).trans ?_
  | refine rule_done_fr (s := s) (by assumption) ?_
  | refine rule_change_fr (s := s) (by assumption) ?_

theorem cmdTableUpkeepSet_fr (table : Nat) (r : UpkeepRec) (fields : BitVec 8) (h : Hdr) (s : State) : ruleFr ((cmdTableUpkeepSet table r fields).rule h s) s = s.fr := by
  unfold cmdTableUpkeepSet
  repeat' first
  | with_reducible rfl
  | simp only [↓fr_mk, ↓fr_mk_clock, ↓fr_mk_sec, ↓foldl_fr, ↓ite_fr, ↓ruleFr_ite, ↓ruleFr_need, ↓ruleFr_needRange, ↓ruleFr_at, ↓ruleFr_access, ↓ruleFr_param, ↓ruleFr_missing, ↓ruleFr_done, ↓ruleFr_change, ↓ruleFr_held, ↓ruleFr_refuse, ↓Cmd_get_rule, ↓Cmd_set_rule, ↓Cmd_stats_rule, ↓Cmd_mirrored_rule, ↓Cmd_fence_rule, ↓Cmd_carry_rule, ↓Cmd_upTo_rule, ↓id_eq, ite_self, implies_true]
  | split
  | refine (foldl_fr _ (fun _ _ => ?_) _ _).trans ?_
  | refine rule_done_fr (s := s) (by assumption) ?_
  | refine rule_change_fr (s := s) (by assumption) ?_

theorem cmdUpkeepStatsGet_fr (sel : StatsSel) (clear : Bool) (h : Hdr) (s : State) : ruleFr ((cmdUpkeepStatsGet sel clear).rule h s) s = s.fr := by
  unfold cmdUpkeepStatsGet
  repeat' first
  | with_reducible rfl
  | simp only [↓fr_mk, ↓fr_mk_clock, ↓fr_mk_sec, ↓foldl_fr, ↓ite_fr, ↓ruleFr_ite, ↓ruleFr_need, ↓ruleFr_needRange, ↓ruleFr_done, ↓ruleFr_change, ↓ruleFr_held, ↓ruleFr_refuse, ↓upkeepStatsRule_fr, ↓Cmd_get_rule, ↓Cmd_set_rule, ↓Cmd_stats_rule, ↓Cmd_mirrored_rule, ↓Cmd_fence_rule, ↓Cmd_carry_rule, ↓Cmd_upTo_rule, ↓id_eq, ite_self, implies_true]
  | split
  | refine (foldl_fr _ (fun _ _ => ?_) _ _).trans ?_
  | refine rule_done_fr (s := s) (by assumption) ?_
  | refine rule_change_fr (s := s) (by assumption) ?_

theorem State.readStash_fr (s : State) (table : Nat) (addr : BitVec 64) : ruleFr (State.readStash s table addr) s = s.fr := by
  unfold State.readStash
  repeat' first
  | with_reducible rfl
  | simp only [↓fr_mk, ↓fr_mk_clock, ↓fr_mk_sec, ↓foldl_fr, ↓ite_fr, ↓State.reply_fr, ↓ruleFr_ite, ↓ruleFr_need, ↓ruleFr_needRange, ↓ruleFr_reply, ↓ruleFr_missing, ↓ruleFr_poisoned, ↓ruleFr_done, ↓ruleFr_change, ↓ruleFr_held, ↓ruleFr_refuse, ↓id_eq, ite_self, implies_true]
  | split
  | refine (foldl_fr _ (fun _ _ => ?_) _ _).trans ?_
  | refine rule_done_fr (s := s) (by assumption) ?_
  | refine rule_change_fr (s := s) (by assumption) ?_

theorem State.pairJob_fr (s : State) (h : Hdr) (op first count limit : Nat) (clear : Bool) : ruleFr (State.pairJob s h op first count limit clear) s = s.fr := by
  unfold State.pairJob
  repeat' first
  | with_reducible rfl
  | simp only [↓fr_mk, ↓fr_mk_clock, ↓fr_mk_sec, ↓foldl_fr, ↓ite_fr, ↓State.startJob_fr, ↓ruleFr_ite, ↓ruleFr_need, ↓ruleFr_needRange, ↓ruleFr_access, ↓ruleFr_param, ↓ruleFr_done, ↓ruleFr_change, ↓ruleFr_held, ↓ruleFr_refuse, ↓id_eq, ite_self, implies_true]
  | split
  | refine (foldl_fr _ (fun _ _ => ?_) _ _).trans ?_
  | refine rule_done_fr (s := s) (by assumption) ?_
  | refine rule_change_fr (s := s) (by assumption) ?_

theorem lookupStatsRule_fr (sel : StatsSel) (clear : Bool) (s : State) : ruleFr (lookupStatsRule sel clear s) s = s.fr := by
  unfold lookupStatsRule
  repeat' first
  | with_reducible rfl
  | simp only [↓fr_mk, ↓fr_mk_clock, ↓fr_mk_sec, ↓foldl_fr, ↓ite_fr, ↓State.poisonTrap_fr, ↓ruleFr_ite, ↓ruleFr_need, ↓ruleFr_needRange, ↓ruleFr_access, ↓ruleFr_param, ↓ruleFr_done, ↓ruleFr_change, ↓ruleFr_held, ↓ruleFr_refuse, ↓statsRule_fr, ↓id_eq, ite_self, implies_true]
  | split
  | refine (foldl_fr _ (fun _ _ => ?_) _ _).trans ?_
  | refine rule_done_fr (s := s) (by assumption) ?_
  | refine rule_change_fr (s := s) (by assumption) ?_

theorem cmdTableCreate_fr (table : Nat) (r : TableRec) (h : Hdr) (s : State) : ruleFr ((cmdTableCreate table r).rule h s) s = s.fr := by
  unfold cmdTableCreate
  repeat' first
  | with_reducible rfl
  | simp only [↓fr_mk, ↓fr_mk_clock, ↓fr_mk_sec, ↓foldl_fr, ↓ite_fr, ↓ite_fst, ↓fold_fst_fr, ↓State.withSeeds_fr, ↓ruleFr_ite, ↓ruleFr_need, ↓ruleFr_needRange, ↓ruleFr_at, ↓ruleFr_access, ↓ruleFr_param, ↓ruleFr_conflict, ↓ruleFr_done, ↓ruleFr_change, ↓ruleFr_held, ↓ruleFr_refuse, ↓Cmd_get_rule, ↓Cmd_set_rule, ↓Cmd_stats_rule, ↓Cmd_mirrored_rule, ↓Cmd_fence_rule, ↓Cmd_carry_rule, ↓Cmd_upTo_rule, ↓id_eq, ite_self, implies_true]
  | split
  | refine (foldl_fr _ (fun _ _ => ?_) _ _).trans ?_
  | refine rule_done_fr (s := s) (by assumption) ?_
  | refine rule_change_fr (s := s) (by assumption) ?_

theorem cmdTableDelete_fr (table : Nat) (h : Hdr) (s : State) : ruleFr ((cmdTableDelete table).rule h s) s = s.fr := by
  unfold cmdTableDelete
  repeat' first
  | with_reducible rfl
  | simp only [↓fr_mk, ↓fr_mk_clock, ↓fr_mk_sec, ↓foldl_fr, ↓ite_fr, ↓ruleFr_ite, ↓ruleFr_need, ↓ruleFr_needRange, ↓ruleFr_at, ↓ruleFr_access, ↓ruleFr_conflict, ↓ruleFr_missing, ↓ruleFr_done, ↓ruleFr_change, ↓ruleFr_held, ↓ruleFr_refuse, ↓Cmd_get_rule, ↓Cmd_set_rule, ↓Cmd_stats_rule, ↓Cmd_mirrored_rule, ↓Cmd_fence_rule, ↓Cmd_carry_rule, ↓Cmd_upTo_rule, ↓id_eq, ite_self, implies_true]
  | split
  | refine (foldl_fr _ (fun _ _ => ?_) _ _).trans ?_
  | refine rule_done_fr (s := s) (by assumption) ?_
  | refine rule_change_fr (s := s) (by assumption) ?_

theorem cmdTableStatusGet_fr (table : Nat) (h : Hdr) (s : State) : ruleFr ((cmdTableStatusGet table).rule h s) s = s.fr := by
  unfold cmdTableStatusGet
  repeat' first
  | with_reducible rfl
  | simp only [↓fr_mk, ↓fr_mk_clock, ↓fr_mk_sec, ↓foldl_fr, ↓ite_fr, ↓State.reply_fr, ↓ruleFr_ite, ↓ruleFr_need, ↓ruleFr_needRange, ↓ruleFr_reply, ↓ruleFr_access, ↓ruleFr_missing, ↓ruleFr_done, ↓ruleFr_change, ↓ruleFr_held, ↓ruleFr_refuse, ↓Cmd_get_rule, ↓Cmd_set_rule, ↓Cmd_stats_rule, ↓Cmd_mirrored_rule, ↓Cmd_fence_rule, ↓Cmd_carry_rule, ↓Cmd_upTo_rule, ↓id_eq, ite_self, implies_true]
  | split
  | refine (foldl_fr _ (fun _ _ => ?_) _ _).trans ?_
  | refine rule_done_fr (s := s) (by assumption) ?_
  | refine rule_change_fr (s := s) (by assumption) ?_

theorem cmdTableSeedSet_fr (table : Nat) (seed0 seed1 : BitVec 128) (h : Hdr) (s : State) : ruleFr ((cmdTableSeedSet table seed0 seed1).rule h s) s = s.fr := by
  unfold cmdTableSeedSet
  repeat' first
  | with_reducible rfl
  | simp only [↓fr_mk, ↓fr_mk_clock, ↓fr_mk_sec, ↓foldl_fr, ↓ite_fr, ↓State.modTable_fr, ↓ruleFr_ite, ↓ruleFr_need, ↓ruleFr_needRange, ↓ruleFr_ok, ↓ruleFr_access, ↓ruleFr_conflict, ↓ruleFr_missing, ↓ruleFr_done, ↓ruleFr_change, ↓ruleFr_held, ↓ruleFr_refuse, ↓Cmd_get_rule, ↓Cmd_set_rule, ↓Cmd_stats_rule, ↓Cmd_mirrored_rule, ↓Cmd_fence_rule, ↓Cmd_carry_rule, ↓Cmd_upTo_rule, ↓id_eq, ite_self, implies_true]
  | split
  | refine (foldl_fr _ (fun _ _ => ?_) _ _).trans ?_
  | refine rule_done_fr (s := s) (by assumption) ?_
  | refine rule_change_fr (s := s) (by assumption) ?_

theorem cmdLpmSeedSet_fr (seed : BitVec 128) (h : Hdr) (s : State) : ruleFr ((cmdLpmSeedSet seed).rule h s) s = s.fr := by
  unfold cmdLpmSeedSet
  repeat' first
  | with_reducible rfl
  | simp only [↓fr_mk, ↓fr_mk_clock, ↓fr_mk_sec, ↓foldl_fr, ↓ite_fr, ↓ite_fst, ↓fold_fst_fr, ↓ruleFr_ite, ↓ruleFr_need, ↓ruleFr_needRange, ↓ruleFr_ok, ↓ruleFr_conflict, ↓ruleFr_done, ↓ruleFr_change, ↓ruleFr_held, ↓ruleFr_refuse, ↓Cmd_get_rule, ↓Cmd_set_rule, ↓Cmd_stats_rule, ↓Cmd_mirrored_rule, ↓Cmd_fence_rule, ↓Cmd_carry_rule, ↓Cmd_upTo_rule, ↓id_eq, ite_self, implies_true]
  | split
  | refine (foldl_fr _ (fun _ _ => ?_) _ _).trans ?_
  | refine rule_done_fr (s := s) (by assumption) ?_
  | refine rule_change_fr (s := s) (by assumption) ?_

theorem cmdEmEntryAdd_fr (table : Nat) (key : BitVec 320) (data : BitVec 80) (static : Bool) (h : Hdr) (s : State) : ruleFr ((cmdEmEntryAdd table key data static).rule h s) s = s.fr := by
  unfold cmdEmEntryAdd
  repeat' first
  | with_reducible rfl
  | simp only [↓fr_mk, ↓fr_mk_clock, ↓fr_mk_sec, ↓foldl_fr, ↓ite_fr, ↓State.fence_fr, ↓State.countOp_fr, ↓State.placeJob_fr, ↓ruleFr_ite, ↓ruleFr_need, ↓ruleFr_needRange, ↓ruleFr_access, ↓ruleFr_param, ↓ruleFr_conflict, ↓ruleFr_missing, ↓ruleFr_busy, ↓ruleFr_full, ↓ruleFr_done, ↓ruleFr_change, ↓ruleFr_held, ↓ruleFr_refuse, ↓ruleFr_auth, ↓ruleFr_lockedR, ↓State.hashTable, ↓State.inMaquette, ↓Cmd_get_rule, ↓Cmd_set_rule, ↓Cmd_stats_rule, ↓Cmd_mirrored_rule, ↓Cmd_fence_rule, ↓Cmd_carry_rule, ↓Cmd_upTo_rule, ↓id_eq, ite_self, implies_true]
  | split
  | refine (foldl_fr _ (fun _ _ => ?_) _ _).trans ?_
  | refine rule_done_fr (s := s) (by assumption) ?_
  | refine rule_change_fr (s := s) (by assumption) ?_

theorem cmdEmEntryDelete_fr (table : Nat) (key : BitVec 320) (h : Hdr) (s : State) : ruleFr ((cmdEmEntryDelete table key).rule h s) s = s.fr := by
  unfold cmdEmEntryDelete
  repeat' first
  | with_reducible rfl
  | simp only [↓fr_mk, ↓fr_mk_clock, ↓fr_mk_sec, ↓foldl_fr, ↓ite_fr, ↓State.fence_fr, ↓State.countOp_fr, ↓State.placeJob_fr, ↓ruleFr_ite, ↓ruleFr_need, ↓ruleFr_needRange, ↓ruleFr_access, ↓ruleFr_param, ↓ruleFr_conflict, ↓ruleFr_missing, ↓ruleFr_busy, ↓ruleFr_full, ↓ruleFr_done, ↓ruleFr_change, ↓ruleFr_held, ↓ruleFr_refuse, ↓ruleFr_auth, ↓ruleFr_lockedR, ↓State.hashTable, ↓State.inMaquette, ↓Cmd_get_rule, ↓Cmd_set_rule, ↓Cmd_stats_rule, ↓Cmd_mirrored_rule, ↓Cmd_fence_rule, ↓Cmd_carry_rule, ↓Cmd_upTo_rule, ↓id_eq, ite_self, implies_true]
  | split
  | refine (foldl_fr _ (fun _ _ => ?_) _ _).trans ?_
  | refine rule_done_fr (s := s) (by assumption) ?_
  | refine rule_change_fr (s := s) (by assumption) ?_

theorem cmdEmEntryRead_fr (table : Nat) (key : Option (BitVec 320)) (addr : BitVec 64) (h : Hdr) (s : State) : ruleFr ((cmdEmEntryRead table key addr).rule h s) s = s.fr := by
  unfold cmdEmEntryRead
  repeat' first
  | with_reducible rfl
  | simp only [↓fr_mk, ↓fr_mk_clock, ↓fr_mk_sec, ↓foldl_fr, ↓ite_fr, ↓State.startJob_fr, ↓ruleFr_ite, ↓ruleFr_need, ↓ruleFr_needRange, ↓ruleFr_access, ↓ruleFr_param, ↓ruleFr_missing, ↓ruleFr_done, ↓ruleFr_change, ↓ruleFr_held, ↓ruleFr_refuse, ↓ruleFr_conflict, ↓ruleFr_auth, ↓ruleFr_lockedR, ↓ruleFr_busy, ↓State.hashTable, ↓State.readStash_fr, ↓Cmd_get_rule, ↓Cmd_set_rule, ↓Cmd_stats_rule, ↓Cmd_mirrored_rule, ↓Cmd_fence_rule, ↓Cmd_carry_rule, ↓Cmd_upTo_rule, ↓id_eq, ite_self, implies_true]
  | split
  | refine (foldl_fr _ (fun _ _ => ?_) _ _).trans ?_
  | refine rule_done_fr (s := s) (by assumption) ?_
  | refine rule_change_fr (s := s) (by assumption) ?_

theorem cmdDirectWrite_fr (table index : Nat) (slot : BitVec 256) (h : Hdr) (s : State) : ruleFr ((cmdDirectWrite table index slot).rule h s) s = s.fr := by
  unfold cmdDirectWrite
  repeat' first
  | with_reducible rfl
  | simp only [↓fr_mk, ↓fr_mk_clock, ↓fr_mk_sec, ↓foldl_fr, ↓ite_fr, ↓State.countOp_fr, ↓State.startJob_fr, ↓ruleFr_ite, ↓ruleFr_need, ↓ruleFr_needRange, ↓ruleFr_access, ↓ruleFr_param, ↓ruleFr_conflict, ↓ruleFr_missing, ↓ruleFr_busy, ↓ruleFr_full, ↓ruleFr_done, ↓ruleFr_change, ↓ruleFr_held, ↓ruleFr_refuse, ↓ruleFr_auth, ↓ruleFr_lockedR, ↓State.inMaquette, ↓Cmd_get_rule, ↓Cmd_set_rule, ↓Cmd_stats_rule, ↓Cmd_mirrored_rule, ↓Cmd_fence_rule, ↓Cmd_carry_rule, ↓Cmd_upTo_rule, ↓id_eq, ite_self, implies_true]
  | split
  | refine (foldl_fr _ (fun _ _ => ?_) _ _).trans ?_
  | refine rule_done_fr (s := s) (by assumption) ?_
  | refine rule_change_fr (s := s) (by assumption) ?_

theorem cmdPrefixAdd_fr (family vrf length : Nat) (addr : BitVec 128) (result : BitVec 64) (h : Hdr) (s : State) : ruleFr ((cmdPrefixAdd family vrf length addr result).rule h s) s = s.fr := by
  unfold cmdPrefixAdd
  repeat' first
  | with_reducible rfl
  | simp only [↓fr_mk, ↓fr_mk_clock, ↓fr_mk_sec, ↓foldl_fr, ↓ite_fr, ↓State.putPrefixAt_fr, ↓State.fence_fr, ↓State.countOp_fr, ↓State.placeJob_fr, ↓ruleFr_ite, ↓ruleFr_need, ↓ruleFr_needRange, ↓ruleFr_ok, ↓ruleFr_val, ↓ruleFr_param, ↓ruleFr_conflict, ↓ruleFr_busy, ↓ruleFr_full, ↓ruleFr_done, ↓ruleFr_change, ↓ruleFr_held, ↓ruleFr_refuse, ↓ruleFr_access, ↓ruleFr_missing, ↓ruleFr_auth, ↓ruleFr_lockedR, ↓State.inMaquette, ↓Cmd_get_rule, ↓Cmd_set_rule, ↓Cmd_stats_rule, ↓Cmd_mirrored_rule, ↓Cmd_fence_rule, ↓Cmd_carry_rule, ↓Cmd_upTo_rule, ↓id_eq, ite_self, implies_true]
  | split
  | refine (foldl_fr _ (fun _ _ => ?_) _ _).trans ?_
  | refine rule_done_fr (s := s) (by assumption) ?_
  | refine rule_change_fr (s := s) (by assumption) ?_

theorem cmdPrefixDelete_fr (family vrf length : Nat) (addr : BitVec 128) (h : Hdr) (s : State) : ruleFr ((cmdPrefixDelete family vrf length addr).rule h s) s = s.fr := by
  unfold cmdPrefixDelete
  repeat' first
  | with_reducible rfl
  | simp only [↓fr_mk, ↓fr_mk_clock, ↓fr_mk_sec, ↓foldl_fr, ↓ite_fr, ↓State.putPrefixAt_fr, ↓State.fence_fr, ↓State.countOp_fr, ↓State.placeJob_fr, ↓State.freePrefix_fr, ↓ruleFr_ite, ↓ruleFr_need, ↓ruleFr_needRange, ↓ruleFr_ok, ↓ruleFr_param, ↓ruleFr_conflict, ↓ruleFr_missing, ↓ruleFr_busy, ↓ruleFr_full, ↓ruleFr_done, ↓ruleFr_change, ↓ruleFr_held, ↓ruleFr_refuse, ↓ruleFr_access, ↓ruleFr_auth, ↓ruleFr_lockedR, ↓State.inMaquette, ↓Cmd_get_rule, ↓Cmd_set_rule, ↓Cmd_stats_rule, ↓Cmd_mirrored_rule, ↓Cmd_fence_rule, ↓Cmd_carry_rule, ↓Cmd_upTo_rule, ↓id_eq, ite_self, implies_true]
  | split
  | refine (foldl_fr _ (fun _ _ => ?_) _ _).trans ?_
  | refine rule_done_fr (s := s) (by assumption) ?_
  | refine rule_change_fr (s := s) (by assumption) ?_

theorem cmdPrefixRead_fr (family vrf length : Nat) (addr : BitVec 128) (version : Nat) (h : Hdr) (s : State) : ruleFr ((cmdPrefixRead family vrf length addr version).rule h s) s = s.fr := by
  unfold cmdPrefixRead
  repeat' first
  | with_reducible rfl
  | simp only [↓fr_mk, ↓fr_mk_clock, ↓fr_mk_sec, ↓foldl_fr, ↓ite_fr, ↓ite_fst, ↓fold_fst_fr, ↓State.startJob_fr, ↓ruleFr_ite, ↓ruleFr_need, ↓ruleFr_needRange, ↓ruleFr_param, ↓ruleFr_done, ↓ruleFr_change, ↓ruleFr_held, ↓ruleFr_refuse, ↓Cmd_get_rule, ↓Cmd_set_rule, ↓Cmd_stats_rule, ↓Cmd_mirrored_rule, ↓Cmd_fence_rule, ↓Cmd_carry_rule, ↓Cmd_upTo_rule, ↓id_eq, ite_self, implies_true]
  | split
  | refine (foldl_fr _ (fun _ _ => ?_) _ _).trans ?_
  | refine rule_done_fr (s := s) (by assumption) ?_
  | refine rule_change_fr (s := s) (by assumption) ?_

theorem cmdEmProfileSet_fr (prof : Nat) (r : EmProf) (h : Hdr) (s : State) : ruleFr ((cmdEmProfileSet prof r).rule h s) s = s.fr := by
  unfold cmdEmProfileSet
  repeat' first
  | with_reducible rfl
  | simp only [↓fr_mk, ↓fr_mk_clock, ↓fr_mk_sec, ↓foldl_fr, ↓ite_fr, ↓ruleFr_ite, ↓ruleFr_need, ↓ruleFr_needRange, ↓ruleFr_at, ↓ruleFr_access, ↓ruleFr_param, ↓ruleFr_done, ↓ruleFr_change, ↓ruleFr_held, ↓ruleFr_refuse, ↓Cmd_get_rule, ↓Cmd_set_rule, ↓Cmd_stats_rule, ↓Cmd_mirrored_rule, ↓Cmd_fence_rule, ↓Cmd_carry_rule, ↓Cmd_upTo_rule, ↓id_eq, ite_self, implies_true]
  | split
  | refine (foldl_fr _ (fun _ _ => ?_) _ _).trans ?_
  | refine rule_done_fr (s := s) (by assumption) ?_
  | refine rule_change_fr (s := s) (by assumption) ?_

theorem cmdLpmProfileSet_fr (prof : Nat) (r : List LpmLookup) (h : Hdr) (s : State) : ruleFr ((cmdLpmProfileSet prof r).rule h s) s = s.fr := by
  unfold cmdLpmProfileSet
  repeat' first
  | with_reducible rfl
  | simp only [↓fr_mk, ↓fr_mk_clock, ↓fr_mk_sec, ↓foldl_fr, ↓ite_fr, ↓ruleFr_ite, ↓ruleFr_need, ↓ruleFr_needRange, ↓ruleFr_at, ↓ruleFr_access, ↓ruleFr_param, ↓ruleFr_done, ↓ruleFr_change, ↓ruleFr_held, ↓ruleFr_refuse, ↓Cmd_get_rule, ↓Cmd_set_rule, ↓Cmd_stats_rule, ↓Cmd_mirrored_rule, ↓Cmd_fence_rule, ↓Cmd_carry_rule, ↓Cmd_upTo_rule, ↓id_eq, ite_self, implies_true]
  | split
  | refine (foldl_fr _ (fun _ _ => ?_) _ _).trans ?_
  | refine rule_done_fr (s := s) (by assumption) ?_
  | refine rule_change_fr (s := s) (by assumption) ?_

theorem cmdNexthopTableSet_fr (table : Option Nat) (h : Hdr) (s : State) : ruleFr ((cmdNexthopTableSet table).rule h s) s = s.fr := by
  unfold cmdNexthopTableSet
  repeat' first
  | with_reducible rfl
  | simp only [↓fr_mk, ↓fr_mk_clock, ↓fr_mk_sec, ↓foldl_fr, ↓ite_fr, ↓ruleFr_ite, ↓ruleFr_need, ↓ruleFr_needRange, ↓ruleFr_at, ↓ruleFr_param, ↓ruleFr_missing, ↓ruleFr_done, ↓ruleFr_change, ↓ruleFr_held, ↓ruleFr_refuse, ↓Cmd_get_rule, ↓Cmd_set_rule, ↓Cmd_stats_rule, ↓Cmd_mirrored_rule, ↓Cmd_fence_rule, ↓Cmd_carry_rule, ↓Cmd_upTo_rule, ↓id_eq, ite_self, implies_true]
  | split
  | refine (foldl_fr _ (fun _ _ => ?_) _ _).trans ?_
  | refine rule_done_fr (s := s) (by assumption) ?_
  | refine rule_change_fr (s := s) (by assumption) ?_

theorem cmdCounterRead_fr (first count : Nat) (clear : Bool) (h : Hdr) (s : State) : ruleFr ((cmdCounterRead first count clear).rule h s) s = s.fr := by
  unfold cmdCounterRead
  repeat' first
  | with_reducible rfl
  | simp only [↓fr_mk, ↓fr_mk_clock, ↓fr_mk_sec, ↓foldl_fr, ↓ite_fr, ↓ruleFr_ite, ↓ruleFr_need, ↓ruleFr_needRange, ↓ruleFr_done, ↓ruleFr_change, ↓ruleFr_held, ↓ruleFr_refuse, ↓State.pairJob_fr, ↓Cmd_get_rule, ↓Cmd_set_rule, ↓Cmd_stats_rule, ↓Cmd_mirrored_rule, ↓Cmd_fence_rule, ↓Cmd_carry_rule, ↓Cmd_upTo_rule, ↓id_eq, ite_self, implies_true]
  | split
  | refine (foldl_fr _ (fun _ _ => ?_) _ _).trans ?_
  | refine rule_done_fr (s := s) (by assumption) ?_
  | refine rule_change_fr (s := s) (by assumption) ?_

theorem cmdCounterClear_fr (first count : Nat) (h : Hdr) (s : State) : ruleFr ((cmdCounterClear first count).rule h s) s = s.fr := by
  unfold cmdCounterClear
  repeat' first
  | with_reducible rfl
  | simp only [↓fr_mk, ↓fr_mk_clock, ↓fr_mk_sec, ↓foldl_fr, ↓ite_fr, ↓ruleFr_ite, ↓ruleFr_need, ↓ruleFr_needRange, ↓ruleFr_done, ↓ruleFr_change, ↓ruleFr_held, ↓ruleFr_refuse, ↓State.pairJob_fr, ↓Cmd_get_rule, ↓Cmd_set_rule, ↓Cmd_stats_rule, ↓Cmd_mirrored_rule, ↓Cmd_fence_rule, ↓Cmd_carry_rule, ↓Cmd_upTo_rule, ↓id_eq, ite_self, implies_true]
  | split
  | refine (foldl_fr _ (fun _ _ => ?_) _ _).trans ?_
  | refine rule_done_fr (s := s) (by assumption) ?_
  | refine rule_change_fr (s := s) (by assumption) ?_

theorem cmdLookupStatsGet_fr (sel : StatsSel) (clear : Bool) (h : Hdr) (s : State) : ruleFr ((cmdLookupStatsGet sel clear).rule h s) s = s.fr := by
  unfold cmdLookupStatsGet
  repeat' first
  | with_reducible rfl
  | simp only [↓fr_mk, ↓fr_mk_clock, ↓fr_mk_sec, ↓foldl_fr, ↓ite_fr, ↓ruleFr_ite, ↓ruleFr_need, ↓ruleFr_needRange, ↓ruleFr_done, ↓ruleFr_change, ↓ruleFr_held, ↓ruleFr_refuse, ↓lookupStatsRule_fr, ↓Cmd_get_rule, ↓Cmd_set_rule, ↓Cmd_stats_rule, ↓Cmd_mirrored_rule, ↓Cmd_fence_rule, ↓Cmd_carry_rule, ↓Cmd_upTo_rule, ↓id_eq, ite_self, implies_true]
  | split
  | refine (foldl_fr _ (fun _ _ => ?_) _ _).trans ?_
  | refine rule_done_fr (s := s) (by assumption) ?_
  | refine rule_change_fr (s := s) (by assumption) ?_

theorem cmdMaquetteDiscard_fr (h : Hdr) (s : State) : ruleFr ((cmdMaquetteDiscard).rule h s) s = s.fr := by
  unfold cmdMaquetteDiscard
  repeat' first
  | with_reducible rfl
  | simp only [↓fr_mk, ↓fr_mk_clock, ↓fr_mk_sec, ↓foldl_fr, ↓ite_fr, ↓State.discardMaquette_fr, ↓ruleFr_ite, ↓ruleFr_need, ↓ruleFr_needRange, ↓ruleFr_ok, ↓ruleFr_conflict, ↓ruleFr_busy, ↓ruleFr_done, ↓ruleFr_change, ↓ruleFr_held, ↓ruleFr_refuse, ↓ruleFr_access, ↓ruleFr_param, ↓ruleFr_missing, ↓ruleFr_auth, ↓ruleFr_lockedR, ↓State.inMaquette, ↓Cmd_get_rule, ↓Cmd_set_rule, ↓Cmd_stats_rule, ↓Cmd_mirrored_rule, ↓Cmd_fence_rule, ↓Cmd_carry_rule, ↓Cmd_upTo_rule, ↓id_eq, ite_self, implies_true]
  | split
  | refine (foldl_fr _ (fun _ _ => ?_) _ _).trans ?_
  | refine rule_done_fr (s := s) (by assumption) ?_
  | refine rule_change_fr (s := s) (by assumption) ?_

theorem cmdArmPatchActivate_fr (h : Hdr) (s : State) : ruleFr ((cmdArmPatchActivate).rule h s) s = s.fr := by
  unfold cmdArmPatchActivate
  repeat' first
  | with_reducible rfl
  | simp only [↓fr_mk, ↓fr_mk_clock, ↓fr_mk_sec, ↓foldl_fr, ↓ite_fr, ↓ruleFr_ite, ↓ruleFr_need, ↓ruleFr_needRange, ↓ruleFr_missing, ↓ruleFr_busy, ↓ruleFr_done, ↓ruleFr_change, ↓ruleFr_held, ↓ruleFr_refuse, ↓Cmd_get_rule, ↓Cmd_set_rule, ↓Cmd_stats_rule, ↓Cmd_mirrored_rule, ↓Cmd_fence_rule, ↓Cmd_carry_rule, ↓Cmd_upTo_rule, ↓id_eq, ite_self, implies_true]
  | split
  | refine (foldl_fr _ (fun _ _ => ?_) _ _).trans ?_
  | refine rule_done_fr (s := s) (by assumption) ?_
  | refine rule_change_fr (s := s) (by assumption) ?_

theorem cmdArmPatchRevert_fr (h : Hdr) (s : State) : ruleFr ((cmdArmPatchRevert).rule h s) s = s.fr := by
  unfold cmdArmPatchRevert
  repeat' first
  | with_reducible rfl
  | simp only [↓fr_mk, ↓fr_mk_clock, ↓fr_mk_sec, ↓foldl_fr, ↓ite_fr, ↓ruleFr_ite, ↓ruleFr_need, ↓ruleFr_needRange, ↓ruleFr_ok, ↓ruleFr_busy, ↓ruleFr_done, ↓ruleFr_change, ↓ruleFr_held, ↓ruleFr_refuse, ↓ruleFr_access, ↓ruleFr_param, ↓ruleFr_missing, ↓ruleFr_conflict, ↓ruleFr_auth, ↓ruleFr_lockedR, ↓ImageCheck.refuse, ↓Cmd_get_rule, ↓Cmd_set_rule, ↓Cmd_stats_rule, ↓Cmd_mirrored_rule, ↓Cmd_fence_rule, ↓Cmd_carry_rule, ↓Cmd_upTo_rule, ↓id_eq, ite_self, implies_true]
  | split
  | refine (foldl_fr _ (fun _ _ => ?_) _ _).trans ?_
  | refine rule_done_fr (s := s) (by assumption) ?_
  | refine rule_change_fr (s := s) (by assumption) ?_

theorem cmdArmPatchStatusGet_fr (h : Hdr) (s : State) : ruleFr ((cmdArmPatchStatusGet).rule h s) s = s.fr := by
  unfold cmdArmPatchStatusGet
  repeat' first
  | with_reducible rfl
  | simp only [↓fr_mk, ↓fr_mk_clock, ↓fr_mk_sec, ↓foldl_fr, ↓ite_fr, ↓State.reply_fr, ↓ruleFr_ite, ↓ruleFr_need, ↓ruleFr_needRange, ↓ruleFr_reply, ↓ruleFr_done, ↓ruleFr_change, ↓ruleFr_held, ↓ruleFr_refuse, ↓Cmd_get_rule, ↓Cmd_set_rule, ↓Cmd_stats_rule, ↓Cmd_mirrored_rule, ↓Cmd_fence_rule, ↓Cmd_carry_rule, ↓Cmd_upTo_rule, ↓id_eq, ite_self, implies_true]
  | split
  | refine (foldl_fr _ (fun _ _ => ?_) _ _).trans ?_
  | refine rule_done_fr (s := s) (by assumption) ?_
  | refine rule_change_fr (s := s) (by assumption) ?_

theorem cmdArmEngineSet_fr (restart live : Option Nat) (h : Hdr) (s : State) : ruleFr ((cmdArmEngineSet restart live).rule h s) s = s.fr := by
  unfold cmdArmEngineSet
  repeat' first
  | with_reducible rfl
  | simp only [↓fr_mk, ↓fr_mk_clock, ↓fr_mk_sec, ↓foldl_fr, ↓ite_fr, ↓ruleFr_ite, ↓ruleFr_need, ↓ruleFr_needRange, ↓ruleFr_ok, ↓ruleFr_param, ↓ruleFr_done, ↓ruleFr_change, ↓ruleFr_held, ↓ruleFr_refuse, ↓Cmd_get_rule, ↓Cmd_set_rule, ↓Cmd_stats_rule, ↓Cmd_mirrored_rule, ↓Cmd_fence_rule, ↓Cmd_carry_rule, ↓Cmd_upTo_rule, ↓id_eq, ite_self, implies_true]
  | split
  | refine (foldl_fr _ (fun _ _ => ?_) _ _).trans ?_
  | refine rule_done_fr (s := s) (by assumption) ?_
  | refine rule_change_fr (s := s) (by assumption) ?_

theorem cmdArmEngineStatusGet_fr (engine : Nat) (h : Hdr) (s : State) : ruleFr ((cmdArmEngineStatusGet engine).rule h s) s = s.fr := by
  unfold cmdArmEngineStatusGet
  repeat' first
  | with_reducible rfl
  | simp only [↓fr_mk, ↓fr_mk_clock, ↓fr_mk_sec, ↓foldl_fr, ↓ite_fr, ↓State.reply_fr, ↓ruleFr_ite, ↓ruleFr_need, ↓ruleFr_needRange, ↓ruleFr_reply, ↓ruleFr_access, ↓ruleFr_done, ↓ruleFr_change, ↓ruleFr_held, ↓ruleFr_refuse, ↓Cmd_get_rule, ↓Cmd_set_rule, ↓Cmd_stats_rule, ↓Cmd_mirrored_rule, ↓Cmd_fence_rule, ↓Cmd_carry_rule, ↓Cmd_upTo_rule, ↓id_eq, ite_self, implies_true]
  | split
  | refine (foldl_fr _ (fun _ _ => ?_) _ _).trans ?_
  | refine rule_done_fr (s := s) (by assumption) ?_
  | refine rule_change_fr (s := s) (by assumption) ?_

theorem cmdArmEngineRestore_fr (engine : Nat) (h : Hdr) (s : State) : ruleFr ((cmdArmEngineRestore engine).rule h s) s = s.fr := by
  unfold cmdArmEngineRestore
  repeat' first
  | with_reducible rfl
  | simp only [↓fr_mk, ↓fr_mk_clock, ↓fr_mk_sec, ↓foldl_fr, ↓ite_fr, ↓State.noteUnit_fr, ↓State.restoreEngine_fr, ↓ruleFr_ite, ↓ruleFr_need, ↓ruleFr_needRange, ↓ruleFr_ok, ↓ruleFr_access, ↓ruleFr_conflict, ↓ruleFr_done, ↓ruleFr_change, ↓ruleFr_held, ↓ruleFr_refuse, ↓Cmd_get_rule, ↓Cmd_set_rule, ↓Cmd_stats_rule, ↓Cmd_mirrored_rule, ↓Cmd_fence_rule, ↓Cmd_carry_rule, ↓Cmd_upTo_rule, ↓id_eq, ite_self, implies_true]
  | split
  | refine (foldl_fr _ (fun _ _ => ?_) _ _).trans ?_
  | refine rule_done_fr (s := s) (by assumption) ?_
  | refine rule_change_fr (s := s) (by assumption) ?_

theorem cmdArmStatsGet_fr (engine : Nat) (clear : Bool) (h : Hdr) (s : State) : ruleFr ((cmdArmStatsGet engine clear).rule h s) s = s.fr := by
  unfold cmdArmStatsGet
  repeat' first
  | with_reducible rfl
  | simp only [↓fr_mk, ↓fr_mk_clock, ↓fr_mk_sec, ↓foldl_fr, ↓ite_fr, ↓ruleFr_ite, ↓ruleFr_need, ↓ruleFr_needRange, ↓ruleFr_access, ↓ruleFr_done, ↓ruleFr_change, ↓ruleFr_held, ↓ruleFr_refuse, ↓statsRule_fr, ↓Cmd_get_rule, ↓Cmd_set_rule, ↓Cmd_stats_rule, ↓Cmd_mirrored_rule, ↓Cmd_fence_rule, ↓Cmd_carry_rule, ↓Cmd_upTo_rule, ↓id_eq, ite_self, implies_true]
  | split
  | refine (foldl_fr _ (fun _ _ => ?_) _ _).trans ?_
  | refine rule_done_fr (s := s) (by assumption) ?_
  | refine rule_change_fr (s := s) (by assumption) ?_

end Sys2Proof.Machine
end

