-- ==== Sys2Proof/Laws/FrameUnits.lean ====
section
/-! SUPPORT. Frames of the rules of the commands of ports, ciphers, time, egress, faults, power, twin and security. -/

namespace Sys2Proof.Machine
theorem cmdLaneConfigSet_fr (lane : Nat) (record fields : BitVec 64) (trainMs serExp holdoffMs : Option Nat) (h : Hdr) (s : State) : ruleFr ((cmdLaneConfigSet lane record fields trainMs serExp holdoffMs).rule h s) s = s.fr := by
  unfold cmdLaneConfigSet
  repeat' first
  | with_reducible rfl
  | simp only [↓fr_mk, ↓fr_mk_clock, ↓fr_mk_sec, ↓foldl_fr, ↓ite_fr, ↓State.modLane_fr, ↓State.modOctet_fr, ↓State.record_fr, ↓ruleFr_ite, ↓ruleFr_need, ↓ruleFr_needRange, ↓ruleFr_ok, ↓ruleFr_access, ↓ruleFr_param, ↓ruleFr_conflict, ↓ruleFr_done, ↓ruleFr_change, ↓ruleFr_held, ↓ruleFr_refuse, ↓ruleFr_missing, ↓ruleFr_auth, ↓ruleFr_lockedR, ↓ruleFr_busy, ↓laneRange, ↓Cmd_get_rule, ↓Cmd_set_rule, ↓Cmd_stats_rule, ↓Cmd_mirrored_rule, ↓Cmd_fence_rule, ↓Cmd_carry_rule, ↓Cmd_upTo_rule, ↓id_eq, ite_self, implies_true]
  | split
  | refine (foldl_fr _ (fun _ _ => ?_) _ _).trans ?_
  | refine rule_done_fr (s := s) (by assumption) ?_
  | refine rule_change_fr (s := s) (by assumption) ?_

theorem cmdLaneStatusGet_fr (lane : Nat) (h : Hdr) (s : State) : ruleFr ((cmdLaneStatusGet lane).rule h s) s = s.fr := by
  unfold cmdLaneStatusGet
  repeat' first
  | with_reducible rfl
  | simp only [↓fr_mk, ↓fr_mk_clock, ↓fr_mk_sec, ↓foldl_fr, ↓ite_fr, ↓State.reply_fr, ↓ruleFr_ite, ↓ruleFr_need, ↓ruleFr_needRange, ↓ruleFr_reply, ↓ruleFr_access, ↓ruleFr_done, ↓ruleFr_change, ↓ruleFr_held, ↓ruleFr_refuse, ↓ruleFr_param, ↓ruleFr_missing, ↓ruleFr_conflict, ↓ruleFr_auth, ↓ruleFr_lockedR, ↓ruleFr_busy, ↓laneRange, ↓Cmd_get_rule, ↓Cmd_set_rule, ↓Cmd_stats_rule, ↓Cmd_mirrored_rule, ↓Cmd_fence_rule, ↓Cmd_carry_rule, ↓Cmd_upTo_rule, ↓id_eq, ite_self, implies_true]
  | split
  | refine (foldl_fr _ (fun _ _ => ?_) _ _).trans ?_
  | refine rule_done_fr (s := s) (by assumption) ?_
  | refine rule_change_fr (s := s) (by assumption) ?_

theorem cmdLaneStatsGet_fr (lane : Nat) (clear : Bool) (h : Hdr) (s : State) : ruleFr ((cmdLaneStatsGet lane clear).rule h s) s = s.fr := by
  unfold cmdLaneStatsGet
  repeat' first
  | with_reducible rfl
  | simp only [↓fr_mk, ↓fr_mk_clock, ↓fr_mk_sec, ↓foldl_fr, ↓ite_fr, ↓ruleFr_ite, ↓ruleFr_need, ↓ruleFr_needRange, ↓ruleFr_access, ↓ruleFr_done, ↓ruleFr_change, ↓ruleFr_held, ↓ruleFr_refuse, ↓ruleFr_param, ↓ruleFr_missing, ↓ruleFr_conflict, ↓ruleFr_auth, ↓ruleFr_lockedR, ↓ruleFr_busy, ↓laneRange, ↓statsRule_fr, ↓Cmd_get_rule, ↓Cmd_set_rule, ↓Cmd_stats_rule, ↓Cmd_mirrored_rule, ↓Cmd_fence_rule, ↓Cmd_carry_rule, ↓Cmd_upTo_rule, ↓id_eq, ite_self, implies_true]
  | split
  | refine (foldl_fr _ (fun _ _ => ?_) _ _).trans ?_
  | refine rule_done_fr (s := s) (by assumption) ?_
  | refine rule_change_fr (s := s) (by assumption) ?_

theorem cmdEyeScanStart_fr (lane eye : Nat) (phaseStart : Int) (phaseStep phaseCount : Nat) (voltStart : Int)
    (voltStep voltCount dwellExp : Nat) (h : Hdr) (s : State) : ruleFr ((cmdEyeScanStart lane eye phaseStart phaseStep phaseCount voltStart voltStep voltCount dwellExp).rule h s) s = s.fr := by
  unfold cmdEyeScanStart
  repeat' first
  | with_reducible rfl
  | simp only [↓fr_mk, ↓fr_mk_clock, ↓fr_mk_sec, ↓foldl_fr, ↓ite_fr, ↓startScan_fr, ↓ruleFr_ite, ↓ruleFr_need, ↓ruleFr_needRange, ↓ruleFr_val, ↓ruleFr_access, ↓ruleFr_param, ↓ruleFr_conflict, ↓ruleFr_busy, ↓ruleFr_done, ↓ruleFr_change, ↓ruleFr_held, ↓ruleFr_refuse, ↓ruleFr_missing, ↓ruleFr_auth, ↓ruleFr_lockedR, ↓laneRange, ↓Cmd_get_rule, ↓Cmd_set_rule, ↓Cmd_stats_rule, ↓Cmd_mirrored_rule, ↓Cmd_fence_rule, ↓Cmd_carry_rule, ↓Cmd_upTo_rule, ↓id_eq, ite_self, implies_true]
  | split
  | refine (foldl_fr _ (fun _ _ => ?_) _ _).trans ?_
  | refine rule_done_fr (s := s) (by assumption) ?_
  | refine rule_change_fr (s := s) (by assumption) ?_

theorem cmdEyeScanRead_fr (scan first count : Nat) (h : Hdr) (s : State) : ruleFr ((cmdEyeScanRead scan first count).rule h s) s = s.fr := by
  unfold cmdEyeScanRead
  repeat' first
  | with_reducible rfl
  | simp only [↓fr_mk, ↓fr_mk_clock, ↓fr_mk_sec, ↓foldl_fr, ↓ite_fr, ↓State.reply_fr, ↓ruleFr_ite, ↓ruleFr_need, ↓ruleFr_needRange, ↓ruleFr_reply, ↓ruleFr_param, ↓ruleFr_missing, ↓ruleFr_done, ↓ruleFr_change, ↓ruleFr_held, ↓ruleFr_refuse, ↓Cmd_get_rule, ↓Cmd_set_rule, ↓Cmd_stats_rule, ↓Cmd_mirrored_rule, ↓Cmd_fence_rule, ↓Cmd_carry_rule, ↓Cmd_upTo_rule, ↓id_eq, ite_self, implies_true]
  | split
  | refine (foldl_fr _ (fun _ _ => ?_) _ _).trans ?_
  | refine rule_done_fr (s := s) (by assumption) ?_
  | refine rule_change_fr (s := s) (by assumption) ?_

theorem cmdEyeScanAbort_fr (scan : Nat) (h : Hdr) (s : State) : ruleFr ((cmdEyeScanAbort scan).rule h s) s = s.fr := by
  unfold cmdEyeScanAbort
  repeat' first
  | with_reducible rfl
  | simp only [↓fr_mk, ↓fr_mk_clock, ↓fr_mk_sec, ↓foldl_fr, ↓ite_fr, ↓State.endScan_fr, ↓ruleFr_ite, ↓ruleFr_need, ↓ruleFr_needRange, ↓ruleFr_ok, ↓ruleFr_conflict, ↓ruleFr_missing, ↓ruleFr_done, ↓ruleFr_change, ↓ruleFr_held, ↓ruleFr_refuse, ↓Cmd_get_rule, ↓Cmd_set_rule, ↓Cmd_stats_rule, ↓Cmd_mirrored_rule, ↓Cmd_fence_rule, ↓Cmd_carry_rule, ↓Cmd_upTo_rule, ↓id_eq, ite_self, implies_true]
  | split
  | refine (foldl_fr _ (fun _ _ => ?_) _ _).trans ?_
  | refine rule_done_fr (s := s) (by assumption) ?_
  | refine rule_change_fr (s := s) (by assumption) ?_

theorem cmdLaneRetire_fr (lane : Nat) (h : Hdr) (s : State) : ruleFr ((cmdLaneRetire lane).rule h s) s = s.fr := by
  unfold cmdLaneRetire
  repeat' first
  | with_reducible rfl
  | simp only [↓fr_mk, ↓fr_mk_clock, ↓fr_mk_sec, ↓foldl_fr, ↓ite_fr, ↓State.retireLane_fr, ↓ruleFr_ite, ↓ruleFr_need, ↓ruleFr_needRange, ↓ruleFr_ok, ↓ruleFr_access, ↓ruleFr_conflict, ↓ruleFr_done, ↓ruleFr_change, ↓ruleFr_held, ↓ruleFr_refuse, ↓ruleFr_param, ↓ruleFr_missing, ↓ruleFr_auth, ↓ruleFr_lockedR, ↓ruleFr_busy, ↓laneRange, ↓Cmd_get_rule, ↓Cmd_set_rule, ↓Cmd_stats_rule, ↓Cmd_mirrored_rule, ↓Cmd_fence_rule, ↓Cmd_carry_rule, ↓Cmd_upTo_rule, ↓id_eq, ite_self, implies_true]
  | split
  | refine (foldl_fr _ (fun _ _ => ?_) _ _).trans ?_
  | refine rule_done_fr (s := s) (by assumption) ?_
  | refine rule_change_fr (s := s) (by assumption) ?_

theorem cmdLaneRestore_fr (lane : Nat) (passes : Bool) (h : Hdr) (s : State) : ruleFr ((cmdLaneRestore lane passes).rule h s) s = s.fr := by
  unfold cmdLaneRestore
  repeat' first
  | with_reducible rfl
  | simp only [↓fr_mk, ↓fr_mk_clock, ↓fr_mk_sec, ↓foldl_fr, ↓ite_fr, ↓State.restoreLane_fr, ↓ruleFr_ite, ↓ruleFr_need, ↓ruleFr_needRange, ↓ruleFr_val, ↓ruleFr_access, ↓ruleFr_conflict, ↓ruleFr_done, ↓ruleFr_change, ↓ruleFr_held, ↓ruleFr_refuse, ↓ruleFr_param, ↓ruleFr_missing, ↓ruleFr_auth, ↓ruleFr_lockedR, ↓ruleFr_busy, ↓laneRange, ↓Cmd_get_rule, ↓Cmd_set_rule, ↓Cmd_stats_rule, ↓Cmd_mirrored_rule, ↓Cmd_fence_rule, ↓Cmd_carry_rule, ↓Cmd_upTo_rule, ↓id_eq, ite_self, implies_true]
  | split
  | refine (foldl_fr _ (fun _ _ => ?_) _ _).trans ?_
  | refine rule_done_fr (s := s) (by assumption) ?_
  | refine rule_change_fr (s := s) (by assumption) ?_

theorem cmdLanePrbsSet_fr (lane gen chk : Nat) (h : Hdr) (s : State) : ruleFr ((cmdLanePrbsSet lane gen chk).rule h s) s = s.fr := by
  unfold cmdLanePrbsSet
  repeat' first
  | with_reducible rfl
  | simp only [↓fr_mk, ↓fr_mk_clock, ↓fr_mk_sec, ↓foldl_fr, ↓ite_fr, ↓State.modLane_fr, ↓State.retest_fr, ↓ruleFr_ite, ↓ruleFr_need, ↓ruleFr_needRange, ↓ruleFr_ok, ↓ruleFr_access, ↓ruleFr_param, ↓ruleFr_conflict, ↓ruleFr_done, ↓ruleFr_change, ↓ruleFr_held, ↓ruleFr_refuse, ↓ruleFr_missing, ↓ruleFr_auth, ↓ruleFr_lockedR, ↓ruleFr_busy, ↓laneRange, ↓Cmd_get_rule, ↓Cmd_set_rule, ↓Cmd_stats_rule, ↓Cmd_mirrored_rule, ↓Cmd_fence_rule, ↓Cmd_carry_rule, ↓Cmd_upTo_rule, ↓id_eq, ite_self, implies_true]
  | split
  | refine (foldl_fr _ (fun _ _ => ?_) _ _).trans ?_
  | refine rule_done_fr (s := s) (by assumption) ?_
  | refine rule_change_fr (s := s) (by assumption) ?_

theorem cmdLaneLoopbackSet_fr (lane mode : Nat) (h : Hdr) (s : State) : ruleFr ((cmdLaneLoopbackSet lane mode).rule h s) s = s.fr := by
  unfold cmdLaneLoopbackSet
  repeat' first
  | with_reducible rfl
  | simp only [↓fr_mk, ↓fr_mk_clock, ↓fr_mk_sec, ↓foldl_fr, ↓ite_fr, ↓State.modLane_fr, ↓State.retest_fr, ↓ruleFr_ite, ↓ruleFr_need, ↓ruleFr_needRange, ↓ruleFr_ok, ↓ruleFr_access, ↓ruleFr_param, ↓ruleFr_conflict, ↓ruleFr_done, ↓ruleFr_change, ↓ruleFr_held, ↓ruleFr_refuse, ↓ruleFr_missing, ↓ruleFr_auth, ↓ruleFr_lockedR, ↓ruleFr_busy, ↓laneRange, ↓Cmd_get_rule, ↓Cmd_set_rule, ↓Cmd_stats_rule, ↓Cmd_mirrored_rule, ↓Cmd_fence_rule, ↓Cmd_carry_rule, ↓Cmd_upTo_rule, ↓id_eq, ite_self, implies_true]
  | split
  | refine (foldl_fr _ (fun _ _ => ?_) _ _).trans ?_
  | refine rule_done_fr (s := s) (by assumption) ?_
  | refine rule_change_fr (s := s) (by assumption) ?_

theorem cmdOctetOrderSet_fr (octet mode : Nat) (h : Hdr) (s : State) : ruleFr ((cmdOctetOrderSet octet mode).rule h s) s = s.fr := by
  unfold cmdOctetOrderSet
  repeat' first
  | with_reducible rfl
  | simp only [↓fr_mk, ↓fr_mk_clock, ↓fr_mk_sec, ↓foldl_fr, ↓ite_fr, ↓State.restartOrder_fr, ↓ruleFr_ite, ↓ruleFr_need, ↓ruleFr_needRange, ↓ruleFr_ok, ↓ruleFr_access, ↓ruleFr_param, ↓ruleFr_conflict, ↓ruleFr_done, ↓ruleFr_change, ↓ruleFr_held, ↓ruleFr_refuse, ↓ruleFr_missing, ↓ruleFr_auth, ↓ruleFr_lockedR, ↓ruleFr_busy, ↓octetRange, ↓Cmd_get_rule, ↓Cmd_set_rule, ↓Cmd_stats_rule, ↓Cmd_mirrored_rule, ↓Cmd_fence_rule, ↓Cmd_carry_rule, ↓Cmd_upTo_rule, ↓id_eq, ite_self, implies_true]
  | split
  | refine (foldl_fr _ (fun _ _ => ?_) _ _).trans ?_
  | refine rule_done_fr (s := s) (by assumption) ?_
  | refine rule_change_fr (s := s) (by assumption) ?_

theorem cmdPortModeSet_fr (octet rate : Nat) (mask : BitVec 8) (h : Hdr) (s : State) : ruleFr ((cmdPortModeSet octet rate mask).rule h s) s = s.fr := by
  unfold cmdPortModeSet
  repeat' first
  | with_reducible rfl
  | simp only [↓fr_mk, ↓fr_mk_clock, ↓fr_mk_sec, ↓foldl_fr, ↓ite_fr, ↓ruleFr_ite, ↓ruleFr_need, ↓ruleFr_needRange, ↓ruleFr_at, ↓ruleFr_access, ↓ruleFr_param, ↓ruleFr_conflict, ↓ruleFr_done, ↓ruleFr_change, ↓ruleFr_held, ↓ruleFr_refuse, ↓ruleFr_missing, ↓ruleFr_auth, ↓ruleFr_lockedR, ↓ruleFr_busy, ↓octetRange, ↓Cmd_get_rule, ↓Cmd_set_rule, ↓Cmd_stats_rule, ↓Cmd_mirrored_rule, ↓Cmd_fence_rule, ↓Cmd_carry_rule, ↓Cmd_upTo_rule, ↓id_eq, ite_self, implies_true]
  | split
  | refine (foldl_fr _ (fun _ _ => ?_) _ _).trans ?_
  | refine rule_done_fr (s := s) (by assumption) ?_
  | refine rule_change_fr (s := s) (by assumption) ?_

theorem cmdPortConfigSet_fr (port : Nat) (record fields : BitVec 64) (h : Hdr) (s : State) : ruleFr ((cmdPortConfigSet port record fields).rule h s) s = s.fr := by
  unfold cmdPortConfigSet
  repeat' first
  | with_reducible rfl
  | simp only [↓fr_mk, ↓fr_mk_clock, ↓fr_mk_sec, ↓foldl_fr, ↓ite_fr, ↓State.record_fr, ↓ruleFr_ite, ↓ruleFr_need, ↓ruleFr_needRange, ↓ruleFr_at, ↓ruleFr_access, ↓ruleFr_param, ↓ruleFr_conflict, ↓ruleFr_missing, ↓ruleFr_done, ↓ruleFr_change, ↓ruleFr_held, ↓ruleFr_refuse, ↓Cmd_get_rule, ↓Cmd_set_rule, ↓Cmd_stats_rule, ↓Cmd_mirrored_rule, ↓Cmd_fence_rule, ↓Cmd_carry_rule, ↓Cmd_upTo_rule, ↓id_eq, ite_self, implies_true]
  | split
  | refine (foldl_fr _ (fun _ _ => ?_) _ _).trans ?_
  | refine rule_done_fr (s := s) (by assumption) ?_
  | refine rule_change_fr (s := s) (by assumption) ?_

theorem cmdPortEnable_fr (port : Nat) (on : Bool) (h : Hdr) (s : State) : ruleFr ((cmdPortEnable port on).rule h s) s = s.fr := by
  unfold cmdPortEnable
  repeat' first
  | with_reducible rfl
  | simp only [↓fr_mk, ↓fr_mk_clock, ↓fr_mk_sec, ↓foldl_fr, ↓ite_fr, ↓ruleFr_ite, ↓ruleFr_need, ↓ruleFr_needRange, ↓ruleFr_at, ↓ruleFr_access, ↓ruleFr_missing, ↓ruleFr_done, ↓ruleFr_change, ↓ruleFr_held, ↓ruleFr_refuse, ↓ruleFr_param, ↓ruleFr_conflict, ↓ruleFr_auth, ↓ruleFr_lockedR, ↓ruleFr_busy, ↓portRange, ↓Cmd_get_rule, ↓Cmd_set_rule, ↓Cmd_stats_rule, ↓Cmd_mirrored_rule, ↓Cmd_fence_rule, ↓Cmd_carry_rule, ↓Cmd_upTo_rule, ↓id_eq, ite_self, implies_true]
  | split
  | refine (foldl_fr _ (fun _ _ => ?_) _ _).trans ?_
  | refine rule_done_fr (s := s) (by assumption) ?_
  | refine rule_change_fr (s := s) (by assumption) ?_

theorem cmdPortStatusGet_fr (port : Nat) (h : Hdr) (s : State) : ruleFr ((cmdPortStatusGet port).rule h s) s = s.fr := by
  unfold cmdPortStatusGet
  repeat' first
  | with_reducible rfl
  | simp only [↓fr_mk, ↓fr_mk_clock, ↓fr_mk_sec, ↓foldl_fr, ↓ite_fr, ↓State.reply_fr, ↓ruleFr_ite, ↓ruleFr_need, ↓ruleFr_needRange, ↓ruleFr_reply, ↓ruleFr_access, ↓ruleFr_missing, ↓ruleFr_done, ↓ruleFr_change, ↓ruleFr_held, ↓ruleFr_refuse, ↓ruleFr_param, ↓ruleFr_conflict, ↓ruleFr_auth, ↓ruleFr_lockedR, ↓ruleFr_busy, ↓portRange, ↓Cmd_get_rule, ↓Cmd_set_rule, ↓Cmd_stats_rule, ↓Cmd_mirrored_rule, ↓Cmd_fence_rule, ↓Cmd_carry_rule, ↓Cmd_upTo_rule, ↓id_eq, ite_self, implies_true]
  | split
  | refine (foldl_fr _ (fun _ _ => ?_) _ _).trans ?_
  | refine rule_done_fr (s := s) (by assumption) ?_
  | refine rule_change_fr (s := s) (by assumption) ?_

theorem cmdPortStatsGet_fr (port : Nat) (clear : Bool) (h : Hdr) (s : State) : ruleFr ((cmdPortStatsGet port clear).rule h s) s = s.fr := by
  unfold cmdPortStatsGet
  repeat' first
  | with_reducible rfl
  | simp only [↓fr_mk, ↓fr_mk_clock, ↓fr_mk_sec, ↓foldl_fr, ↓ite_fr, ↓ruleFr_ite, ↓ruleFr_need, ↓ruleFr_needRange, ↓ruleFr_access, ↓ruleFr_missing, ↓ruleFr_done, ↓ruleFr_change, ↓ruleFr_held, ↓ruleFr_refuse, ↓ruleFr_param, ↓ruleFr_conflict, ↓ruleFr_auth, ↓ruleFr_lockedR, ↓ruleFr_busy, ↓portRange, ↓statsRule_fr, ↓Cmd_get_rule, ↓Cmd_set_rule, ↓Cmd_stats_rule, ↓Cmd_mirrored_rule, ↓Cmd_fence_rule, ↓Cmd_carry_rule, ↓Cmd_upTo_rule, ↓id_eq, ite_self, implies_true]
  | split
  | refine (foldl_fr _ (fun _ _ => ?_) _ _).trans ?_
  | refine rule_done_fr (s := s) (by assumption) ?_
  | refine rule_change_fr (s := s) (by assumption) ?_

theorem cmdOctetLayoutGet_fr (octet : Nat) (h : Hdr) (s : State) : ruleFr ((cmdOctetLayoutGet octet).rule h s) s = s.fr := by
  unfold cmdOctetLayoutGet
  repeat' first
  | with_reducible rfl
  | simp only [↓fr_mk, ↓fr_mk_clock, ↓fr_mk_sec, ↓foldl_fr, ↓ite_fr, ↓State.reply_fr, ↓ruleFr_ite, ↓ruleFr_need, ↓ruleFr_needRange, ↓ruleFr_reply, ↓ruleFr_access, ↓ruleFr_done, ↓ruleFr_change, ↓ruleFr_held, ↓ruleFr_refuse, ↓ruleFr_param, ↓ruleFr_missing, ↓ruleFr_conflict, ↓ruleFr_auth, ↓ruleFr_lockedR, ↓ruleFr_busy, ↓octetRange, ↓Cmd_get_rule, ↓Cmd_set_rule, ↓Cmd_stats_rule, ↓Cmd_mirrored_rule, ↓Cmd_fence_rule, ↓Cmd_carry_rule, ↓Cmd_upTo_rule, ↓id_eq, ite_self, implies_true]
  | split
  | refine (foldl_fr _ (fun _ _ => ?_) _ _).trans ?_
  | refine rule_done_fr (s := s) (by assumption) ?_
  | refine rule_change_fr (s := s) (by assumption) ?_

theorem cmdCipherPortSet_fr (port : Nat) (record fields : BitVec 64) (h : Hdr) (s : State) : ruleFr ((cmdCipherPortSet port record fields).rule h s) s = s.fr := by
  unfold cmdCipherPortSet
  repeat' first
  | with_reducible rfl
  | simp only [↓fr_mk, ↓fr_mk_clock, ↓fr_mk_sec, ↓foldl_fr, ↓ite_fr, ↓State.record_fr, ↓ruleFr_ite, ↓ruleFr_need, ↓ruleFr_needRange, ↓ruleFr_at, ↓ruleFr_access, ↓ruleFr_param, ↓ruleFr_conflict, ↓ruleFr_missing, ↓ruleFr_done, ↓ruleFr_change, ↓ruleFr_held, ↓ruleFr_refuse, ↓Cmd_get_rule, ↓Cmd_set_rule, ↓Cmd_stats_rule, ↓Cmd_mirrored_rule, ↓Cmd_fence_rule, ↓Cmd_carry_rule, ↓Cmd_upTo_rule, ↓id_eq, ite_self, implies_true]
  | split
  | refine (foldl_fr _ (fun _ _ => ?_) _ _).trans ?_
  | refine rule_done_fr (s := s) (by assumption) ?_
  | refine rule_change_fr (s := s) (by assumption) ?_

theorem cmdCipherPortGet_fr (port : Nat) (h : Hdr) (s : State) : ruleFr ((cmdCipherPortGet port).rule h s) s = s.fr := by
  unfold cmdCipherPortGet
  repeat' first
  | with_reducible rfl
  | simp only [↓fr_mk, ↓fr_mk_clock, ↓fr_mk_sec, ↓foldl_fr, ↓ite_fr, ↓ruleFr_ite, ↓ruleFr_need, ↓ruleFr_needRange, ↓ruleFr_val, ↓ruleFr_access, ↓ruleFr_missing, ↓ruleFr_done, ↓ruleFr_change, ↓ruleFr_held, ↓ruleFr_refuse, ↓ruleFr_param, ↓ruleFr_conflict, ↓ruleFr_auth, ↓ruleFr_lockedR, ↓ruleFr_busy, ↓portRange, ↓Cmd_get_rule, ↓Cmd_set_rule, ↓Cmd_stats_rule, ↓Cmd_mirrored_rule, ↓Cmd_fence_rule, ↓Cmd_carry_rule, ↓Cmd_upTo_rule, ↓id_eq, ite_self, implies_true]
  | split
  | refine (foldl_fr _ (fun _ _ => ?_) _ _).trans ?_
  | refine rule_done_fr (s := s) (by assumption) ?_
  | refine rule_change_fr (s := s) (by assumption) ?_

theorem cmdScCreate_fr (port dir : Nat) (sci : BitVec 64) (replayProtect : Bool) (replayWindow pnThreshold : Option Nat) (h : Hdr) (s : State) : ruleFr ((cmdScCreate port dir sci replayProtect replayWindow pnThreshold).rule h s) s = s.fr := by
  unfold cmdScCreate
  repeat' first
  | with_reducible rfl
  | simp only [↓fr_mk, ↓fr_mk_clock, ↓fr_mk_sec, ↓foldl_fr, ↓ite_fr, ↓State.putSc_fr, ↓ruleFr_ite, ↓ruleFr_need, ↓ruleFr_needRange, ↓ruleFr_val, ↓ruleFr_access, ↓ruleFr_param, ↓ruleFr_missing, ↓ruleFr_full, ↓ruleFr_done, ↓ruleFr_change, ↓ruleFr_held, ↓ruleFr_refuse, ↓Cmd_get_rule, ↓Cmd_set_rule, ↓Cmd_stats_rule, ↓Cmd_mirrored_rule, ↓Cmd_fence_rule, ↓Cmd_carry_rule, ↓Cmd_upTo_rule, ↓id_eq, ite_self, implies_true]
  | split
  | refine (foldl_fr _ (fun _ _ => ?_) _ _).trans ?_
  | refine rule_done_fr (s := s) (by assumption) ?_
  | refine rule_change_fr (s := s) (by assumption) ?_

theorem cmdScSet_fr (sc dir : Nat) (replayProtect : Option Bool) (replayWindow pnThreshold : Option Nat) (h : Hdr) (s : State) : ruleFr ((cmdScSet sc dir replayProtect replayWindow pnThreshold).rule h s) s = s.fr := by
  unfold cmdScSet
  repeat' first
  | with_reducible rfl
  | simp only [↓fr_mk, ↓fr_mk_clock, ↓fr_mk_sec, ↓foldl_fr, ↓ite_fr, ↓ruleFr_ite, ↓ruleFr_need, ↓ruleFr_needRange, ↓ruleFr_at, ↓ruleFr_access, ↓ruleFr_param, ↓ruleFr_missing, ↓ruleFr_done, ↓ruleFr_change, ↓ruleFr_held, ↓ruleFr_refuse, ↓ruleFr_conflict, ↓ruleFr_auth, ↓ruleFr_lockedR, ↓ruleFr_busy, ↓scRange, ↓Cmd_get_rule, ↓Cmd_set_rule, ↓Cmd_stats_rule, ↓Cmd_mirrored_rule, ↓Cmd_fence_rule, ↓Cmd_carry_rule, ↓Cmd_upTo_rule, ↓id_eq, ite_self, implies_true]
  | split
  | refine (foldl_fr _ (fun _ _ => ?_) _ _).trans ?_
  | refine rule_done_fr (s := s) (by assumption) ?_
  | refine rule_change_fr (s := s) (by assumption) ?_

theorem cmdScDelete_fr (sc dir : Nat) (h : Hdr) (s : State) : ruleFr ((cmdScDelete sc dir).rule h s) s = s.fr := by
  unfold cmdScDelete
  repeat' first
  | with_reducible rfl
  | simp only [↓fr_mk, ↓fr_mk_clock, ↓fr_mk_sec, ↓foldl_fr, ↓ite_fr, ↓ruleFr_ite, ↓ruleFr_need, ↓ruleFr_needRange, ↓ruleFr_at, ↓ruleFr_access, ↓ruleFr_param, ↓ruleFr_conflict, ↓ruleFr_missing, ↓ruleFr_done, ↓ruleFr_change, ↓ruleFr_held, ↓ruleFr_refuse, ↓ruleFr_auth, ↓ruleFr_lockedR, ↓ruleFr_busy, ↓scRange, ↓Cmd_get_rule, ↓Cmd_set_rule, ↓Cmd_stats_rule, ↓Cmd_mirrored_rule, ↓Cmd_fence_rule, ↓Cmd_carry_rule, ↓Cmd_upTo_rule, ↓id_eq, ite_self, implies_true]
  | split
  | refine (foldl_fr _ (fun _ _ => ?_) _ _).trans ?_
  | refine rule_done_fr (s := s) (by assumption) ?_
  | refine rule_change_fr (s := s) (by assumption) ?_

theorem cmdSaInstall_fr (p : SaParams) (h : Hdr) (s : State) : ruleFr ((cmdSaInstall p).rule h s) s = s.fr := by
  unfold cmdSaInstall
  repeat' first
  | with_reducible rfl
  | simp only [↓fr_mk, ↓fr_mk_clock, ↓fr_mk_sec, ↓foldl_fr, ↓ite_fr, ↓State.carry_fr, ↓State.unwrapMsg_fr, ↓ruleFr_ite, ↓ruleFr_need, ↓ruleFr_needRange, ↓ruleFr_ok, ↓ruleFr_at, ↓ruleFr_access, ↓ruleFr_param, ↓ruleFr_conflict, ↓ruleFr_missing, ↓ruleFr_auth, ↓ruleFr_done, ↓ruleFr_change, ↓ruleFr_held, ↓ruleFr_refuse, ↓ruleFr_lockedR, ↓ruleFr_busy, ↓needAuth, ↓Cmd_get_rule, ↓Cmd_set_rule, ↓Cmd_stats_rule, ↓Cmd_mirrored_rule, ↓Cmd_fence_rule, ↓Cmd_carry_rule, ↓Cmd_upTo_rule, ↓id_eq, ite_self, implies_true]
  | split
  | refine (foldl_fr _ (fun _ _ => ?_) _ _).trans ?_
  | refine rule_done_fr (s := s) (by assumption) ?_
  | refine rule_change_fr (s := s) (by assumption) ?_

theorem cmdSaDelete_fr (sc dir an : Nat) (h : Hdr) (s : State) : ruleFr ((cmdSaDelete sc dir an).rule h s) s = s.fr := by
  unfold cmdSaDelete
  repeat' first
  | with_reducible rfl
  | simp only [↓fr_mk, ↓fr_mk_clock, ↓fr_mk_sec, ↓foldl_fr, ↓ite_fr, ↓ruleFr_ite, ↓ruleFr_need, ↓ruleFr_needRange, ↓ruleFr_at, ↓ruleFr_access, ↓ruleFr_param, ↓ruleFr_conflict, ↓ruleFr_missing, ↓ruleFr_done, ↓ruleFr_change, ↓ruleFr_held, ↓ruleFr_refuse, ↓ruleFr_auth, ↓ruleFr_lockedR, ↓ruleFr_busy, ↓scRange, ↓Cmd_get_rule, ↓Cmd_set_rule, ↓Cmd_stats_rule, ↓Cmd_mirrored_rule, ↓Cmd_fence_rule, ↓Cmd_carry_rule, ↓Cmd_upTo_rule, ↓id_eq, ite_self, implies_true]
  | split
  | refine (foldl_fr _ (fun _ _ => ?_) _ _).trans ?_
  | refine rule_done_fr (s := s) (by assumption) ?_
  | refine rule_change_fr (s := s) (by assumption) ?_

theorem cmdTxSaSelect_fr (sc an : Nat) (h : Hdr) (s : State) : ruleFr ((cmdTxSaSelect sc an).rule h s) s = s.fr := by
  unfold cmdTxSaSelect
  repeat' first
  | with_reducible rfl
  | simp only [↓fr_mk, ↓fr_mk_clock, ↓fr_mk_sec, ↓foldl_fr, ↓ite_fr, ↓ruleFr_ite, ↓ruleFr_need, ↓ruleFr_needRange, ↓ruleFr_at, ↓ruleFr_access, ↓ruleFr_param, ↓ruleFr_missing, ↓ruleFr_done, ↓ruleFr_change, ↓ruleFr_held, ↓ruleFr_refuse, ↓ruleFr_conflict, ↓ruleFr_auth, ↓ruleFr_lockedR, ↓ruleFr_busy, ↓scRange, ↓Cmd_get_rule, ↓Cmd_set_rule, ↓Cmd_stats_rule, ↓Cmd_mirrored_rule, ↓Cmd_fence_rule, ↓Cmd_carry_rule, ↓Cmd_upTo_rule, ↓id_eq, ite_self, implies_true]
  | split
  | refine (foldl_fr _ (fun _ _ => ?_) _ _).trans ?_
  | refine rule_done_fr (s := s) (by assumption) ?_
  | refine rule_change_fr (s := s) (by assumption) ?_

theorem cmdSaStatusGet_fr (sc dir an : Nat) (h : Hdr) (s : State) : ruleFr ((cmdSaStatusGet sc dir an).rule h s) s = s.fr := by
  unfold cmdSaStatusGet
  repeat' first
  | with_reducible rfl
  | simp only [↓fr_mk, ↓fr_mk_clock, ↓fr_mk_sec, ↓foldl_fr, ↓ite_fr, ↓State.reply_fr, ↓ruleFr_ite, ↓ruleFr_need, ↓ruleFr_needRange, ↓ruleFr_reply, ↓ruleFr_access, ↓ruleFr_param, ↓ruleFr_missing, ↓ruleFr_done, ↓ruleFr_change, ↓ruleFr_held, ↓ruleFr_refuse, ↓ruleFr_conflict, ↓ruleFr_auth, ↓ruleFr_lockedR, ↓ruleFr_busy, ↓scRange, ↓Cmd_get_rule, ↓Cmd_set_rule, ↓Cmd_stats_rule, ↓Cmd_mirrored_rule, ↓Cmd_fence_rule, ↓Cmd_carry_rule, ↓Cmd_upTo_rule, ↓id_eq, ite_self, implies_true]
  | split
  | refine (foldl_fr _ (fun _ _ => ?_) _ _).trans ?_
  | refine rule_done_fr (s := s) (by assumption) ?_
  | refine rule_change_fr (s := s) (by assumption) ?_

theorem cmdCipherStatsGet_fr (sel : StatsSel) (clear : Bool) (h : Hdr) (s : State) : ruleFr ((cmdCipherStatsGet sel clear).rule h s) s = s.fr := by
  unfold cmdCipherStatsGet
  repeat' first
  | with_reducible rfl
  | simp only [↓fr_mk, ↓fr_mk_clock, ↓fr_mk_sec, ↓foldl_fr, ↓ite_fr, ↓ruleFr_ite, ↓ruleFr_need, ↓ruleFr_needRange, ↓ruleFr_access, ↓ruleFr_param, ↓ruleFr_missing, ↓ruleFr_done, ↓ruleFr_change, ↓ruleFr_held, ↓ruleFr_refuse, ↓statsRule_fr, ↓Cmd_get_rule, ↓Cmd_set_rule, ↓Cmd_stats_rule, ↓Cmd_mirrored_rule, ↓Cmd_fence_rule, ↓Cmd_carry_rule, ↓Cmd_upTo_rule, ↓id_eq, ite_self, implies_true]
  | split
  | refine (foldl_fr _ (fun _ _ => ?_) _ _).trans ?_
  | refine rule_done_fr (s := s) (by assumption) ?_
  | refine rule_change_fr (s := s) (by assumption) ?_

theorem cmdCipherEngineSet_fr (engine count windowNs : Nat) (h : Hdr) (s : State) : ruleFr ((cmdCipherEngineSet engine count windowNs).rule h s) s = s.fr := by
  unfold cmdCipherEngineSet
  repeat' first
  | with_reducible rfl
  | simp only [↓fr_mk, ↓fr_mk_clock, ↓fr_mk_sec, ↓foldl_fr, ↓ite_fr, ↓State.modCengine_fr, ↓State.fence_fr, ↓ruleFr_ite, ↓ruleFr_need, ↓ruleFr_needRange, ↓ruleFr_ok, ↓ruleFr_access, ↓ruleFr_param, ↓ruleFr_done, ↓ruleFr_change, ↓ruleFr_held, ↓ruleFr_refuse, ↓ruleFr_missing, ↓ruleFr_conflict, ↓ruleFr_auth, ↓ruleFr_lockedR, ↓ruleFr_busy, ↓engineRange, ↓Cmd_get_rule, ↓Cmd_set_rule, ↓Cmd_stats_rule, ↓Cmd_mirrored_rule, ↓Cmd_fence_rule, ↓Cmd_carry_rule, ↓Cmd_upTo_rule, ↓id_eq, ite_self, implies_true]
  | split
  | refine (foldl_fr _ (fun _ _ => ?_) _ _).trans ?_
  | refine rule_done_fr (s := s) (by assumption) ?_
  | refine rule_change_fr (s := s) (by assumption) ?_

theorem cmdCipherEngineRestore_fr (engine : Nat) (h : Hdr) (s : State) : ruleFr ((cmdCipherEngineRestore engine).rule h s) s = s.fr := by
  unfold cmdCipherEngineRestore
  repeat' first
  | with_reducible rfl
  | simp only [↓fr_mk, ↓fr_mk_clock, ↓fr_mk_sec, ↓foldl_fr, ↓ite_fr, ↓State.putCengine_fr, ↓State.noteUnit_fr, ↓State.fence_fr, ↓State.laSchedule_fr, ↓State.loadBootKeys_fr, ↓ruleFr_ite, ↓ruleFr_need, ↓ruleFr_needRange, ↓ruleFr_ok, ↓ruleFr_access, ↓ruleFr_conflict, ↓ruleFr_done, ↓ruleFr_change, ↓ruleFr_held, ↓ruleFr_refuse, ↓ruleFr_param, ↓ruleFr_missing, ↓ruleFr_auth, ↓ruleFr_lockedR, ↓ruleFr_busy, ↓engineRange, ↓Cmd_get_rule, ↓Cmd_set_rule, ↓Cmd_stats_rule, ↓Cmd_mirrored_rule, ↓Cmd_fence_rule, ↓Cmd_carry_rule, ↓Cmd_upTo_rule, ↓id_eq, ite_self, implies_true]
  | split
  | refine (foldl_fr _ (fun _ _ => ?_) _ _).trans ?_
  | refine rule_done_fr (s := s) (by assumption) ?_
  | refine rule_change_fr (s := s) (by assumption) ?_

theorem Cmd_la_rule {α : Type} (op : Nat) (p : α) (r : Hdr → State → Rule) : (Cmd.la op p r).rule = r := rfl

theorem cmdLaContextLoad_fr (ctx kind : Nat) (wrapCtx : Option Nat) (key : BitVec 320) (h : Hdr) (s : State) : ruleFr ((cmdLaContextLoad ctx kind wrapCtx key).rule h s) s = s.fr := by
  unfold cmdLaContextLoad
  repeat' first
  | with_reducible rfl
  | simp only [↓fr_mk, ↓fr_mk_clock, ↓fr_mk_sec, ↓foldl_fr, ↓ite_fr, ↓State.modLaCtx_fr, ↓State.carry_fr, ↓ruleFr_ite, ↓ruleFr_need, ↓ruleFr_needRange, ↓ruleFr_ok, ↓ruleFr_access, ↓ruleFr_param, ↓ruleFr_conflict, ↓ruleFr_auth, ↓ruleFr_done, ↓ruleFr_change, ↓ruleFr_held, ↓ruleFr_refuse, ↓ruleFr_missing, ↓ruleFr_lockedR, ↓ruleFr_busy, ↓needAuth, ↓ctxRange, ↓Cmd_get_rule, ↓Cmd_set_rule, ↓Cmd_stats_rule, ↓Cmd_mirrored_rule, ↓Cmd_fence_rule, ↓Cmd_carry_rule, ↓Cmd_upTo_rule, ↓Cmd_la_rule, ↓id_eq, ite_self, implies_true]
  | split
  | refine (foldl_fr _ (fun _ _ => ?_) _ _).trans ?_
  | refine rule_done_fr (s := s) (by assumption) ?_
  | refine rule_change_fr (s := s) (by assumption) ?_

theorem cmdLaContextExport_fr (ctx : Nat) (h : Hdr) (s : State) : ruleFr ((cmdLaContextExport ctx).rule h s) s = s.fr := by
  unfold cmdLaContextExport
  repeat' first
  | with_reducible rfl
  | simp only [↓fr_mk, ↓fr_mk_clock, ↓fr_mk_sec, ↓foldl_fr, ↓ite_fr, ↓State.draw_fr, ↓State.reply_fr, ↓ruleFr_ite, ↓ruleFr_need, ↓ruleFr_needRange, ↓ruleFr_reply, ↓ruleFr_access, ↓ruleFr_done, ↓ruleFr_change, ↓ruleFr_held, ↓ruleFr_refuse, ↓ruleFr_param, ↓ruleFr_missing, ↓ruleFr_conflict, ↓ruleFr_auth, ↓ruleFr_lockedR, ↓ruleFr_busy, ↓ctxRange, ↓Cmd_get_rule, ↓Cmd_set_rule, ↓Cmd_stats_rule, ↓Cmd_mirrored_rule, ↓Cmd_fence_rule, ↓Cmd_carry_rule, ↓Cmd_upTo_rule, ↓Cmd_la_rule, ↓id_eq, ite_self, implies_true]
  | split
  | refine (foldl_fr _ (fun _ _ => ?_) _ _).trans ?_
  | refine rule_done_fr (s := s) (by assumption) ?_
  | refine rule_change_fr (s := s) (by assumption) ?_

theorem cmdLaContextImport_fr (ctx : Nat) (b : Blob) (h : Hdr) (s : State) : ruleFr ((cmdLaContextImport ctx b).rule h s) s = s.fr := by
  unfold cmdLaContextImport
  repeat' first
  | with_reducible rfl
  | simp only [↓fr_mk, ↓fr_mk_clock, ↓fr_mk_sec, ↓foldl_fr, ↓ite_fr, ↓State.putLaCtx_fr, ↓ruleFr_ite, ↓ruleFr_need, ↓ruleFr_needRange, ↓ruleFr_ok, ↓ruleFr_access, ↓ruleFr_param, ↓ruleFr_conflict, ↓ruleFr_busy, ↓ruleFr_auth, ↓ruleFr_done, ↓ruleFr_change, ↓ruleFr_held, ↓ruleFr_refuse, ↓ruleFr_missing, ↓ruleFr_lockedR, ↓needAuth, ↓ctxRange, ↓ImageCheck.refuse, ↓Cmd_get_rule, ↓Cmd_set_rule, ↓Cmd_stats_rule, ↓Cmd_mirrored_rule, ↓Cmd_fence_rule, ↓Cmd_carry_rule, ↓Cmd_upTo_rule, ↓Cmd_la_rule, ↓id_eq, ite_self, implies_true]
  | split
  | refine (foldl_fr _ (fun _ _ => ?_) _ _).trans ?_
  | refine rule_done_fr (s := s) (by assumption) ?_
  | refine rule_change_fr (s := s) (by assumption) ?_

theorem cmdLaContextClear_fr (ctx : Nat) (h : Hdr) (s : State) : ruleFr ((cmdLaContextClear ctx).rule h s) s = s.fr := by
  unfold cmdLaContextClear
  repeat' first
  | with_reducible rfl
  | simp only [↓fr_mk, ↓fr_mk_clock, ↓fr_mk_sec, ↓foldl_fr, ↓ite_fr, ↓State.putLaCtx_fr, ↓State.laAnswer_fr, ↓State.laSchedule_fr, ↓ruleFr_ite, ↓ruleFr_need, ↓ruleFr_needRange, ↓ruleFr_ok, ↓ruleFr_access, ↓ruleFr_done, ↓ruleFr_change, ↓ruleFr_held, ↓ruleFr_refuse, ↓ruleFr_param, ↓ruleFr_missing, ↓ruleFr_conflict, ↓ruleFr_auth, ↓ruleFr_lockedR, ↓ruleFr_busy, ↓ctxRange, ↓Cmd_get_rule, ↓Cmd_set_rule, ↓Cmd_stats_rule, ↓Cmd_mirrored_rule, ↓Cmd_fence_rule, ↓Cmd_carry_rule, ↓Cmd_upTo_rule, ↓Cmd_la_rule, ↓id_eq, ite_self, implies_true]
  | split
  | refine (foldl_fr _ (fun _ _ => ?_) _ _).trans ?_
  | refine rule_done_fr (s := s) (by assumption) ?_
  | refine rule_change_fr (s := s) (by assumption) ?_

theorem cmdLaCrypt_fr (ctx op : Nat) (iv : BitVec 96) (aad data : List Byte) (h : Hdr) (s : State) : ruleFr ((cmdLaCrypt ctx op iv aad data).rule h s) s = s.fr := by
  unfold cmdLaCrypt
  repeat' first
  | with_reducible rfl
  | simp only [↓fr_mk, ↓fr_mk_clock, ↓fr_mk_sec, ↓foldl_fr, ↓ite_fr, ↓State.laRequest_fr, ↓ruleFr_ite, ↓ruleFr_need, ↓ruleFr_needRange, ↓ruleFr_access, ↓ruleFr_param, ↓ruleFr_conflict, ↓ruleFr_done, ↓ruleFr_change, ↓ruleFr_held, ↓ruleFr_refuse, ↓ruleFr_missing, ↓ruleFr_auth, ↓ruleFr_lockedR, ↓ruleFr_busy, ↓ctxRange, ↓Cmd_get_rule, ↓Cmd_set_rule, ↓Cmd_stats_rule, ↓Cmd_mirrored_rule, ↓Cmd_fence_rule, ↓Cmd_carry_rule, ↓Cmd_upTo_rule, ↓Cmd_la_rule, ↓id_eq, ite_self, implies_true]
  | split
  | refine (foldl_fr _ (fun _ _ => ?_) _ _).trans ?_
  | refine rule_done_fr (s := s) (by assumption) ?_
  | refine rule_change_fr (s := s) (by assumption) ?_

theorem cmdTimeDomainSet_fr (domain : Nat) (adj : Option Int) (hostWd holdMax : Option Nat) (h : Hdr) (s : State) : ruleFr ((cmdTimeDomainSet domain adj hostWd holdMax).rule h s) s = s.fr := by
  unfold cmdTimeDomainSet
  repeat' first
  | with_reducible rfl
  | simp only [↓fr_mk, ↓fr_mk_clock, ↓fr_mk_sec, ↓foldl_fr, ↓ite_fr, ↓State.putDomain_fr, ↓ruleFr_ite, ↓ruleFr_need, ↓ruleFr_needRange, ↓ruleFr_ok, ↓ruleFr_access, ↓ruleFr_param, ↓ruleFr_conflict, ↓ruleFr_done, ↓ruleFr_change, ↓ruleFr_held, ↓ruleFr_refuse, ↓ruleFr_missing, ↓ruleFr_auth, ↓ruleFr_lockedR, ↓ruleFr_busy, ↓tdRange, ↓Cmd_get_rule, ↓Cmd_set_rule, ↓Cmd_stats_rule, ↓Cmd_mirrored_rule, ↓Cmd_fence_rule, ↓Cmd_carry_rule, ↓Cmd_upTo_rule, ↓id_eq, ite_self, implies_true]
  | split
  | refine (foldl_fr _ (fun _ _ => ?_) _ _).trans ?_
  | refine rule_done_fr (s := s) (by assumption) ?_
  | refine rule_change_fr (s := s) (by assumption) ?_

theorem cmdTimeGet_fr (domain : Nat) (h : Hdr) (s : State) : ruleFr ((cmdTimeGet domain).rule h s) s = s.fr := by
  unfold cmdTimeGet
  repeat' first
  | with_reducible rfl
  | simp only [↓fr_mk, ↓fr_mk_clock, ↓fr_mk_sec, ↓foldl_fr, ↓ite_fr, ↓State.reply_fr, ↓ruleFr_ite, ↓ruleFr_need, ↓ruleFr_needRange, ↓ruleFr_reply, ↓ruleFr_access, ↓ruleFr_done, ↓ruleFr_change, ↓ruleFr_held, ↓ruleFr_refuse, ↓ruleFr_param, ↓ruleFr_missing, ↓ruleFr_conflict, ↓ruleFr_auth, ↓ruleFr_lockedR, ↓ruleFr_busy, ↓tdRange, ↓Cmd_get_rule, ↓Cmd_set_rule, ↓Cmd_stats_rule, ↓Cmd_mirrored_rule, ↓Cmd_fence_rule, ↓Cmd_carry_rule, ↓Cmd_upTo_rule, ↓id_eq, ite_self, implies_true]
  | split
  | refine (foldl_fr _ (fun _ _ => ?_) _ _).trans ?_
  | refine rule_done_fr (s := s) (by assumption) ?_
  | refine rule_change_fr (s := s) (by assumption) ?_

theorem cmdTimeSet_fr (domain sec ns frac : Nat) (atPps : Option Nat) (h : Hdr) (s : State) : ruleFr ((cmdTimeSet domain sec ns frac atPps).rule h s) s = s.fr := by
  unfold cmdTimeSet
  repeat' first
  | with_reducible rfl
  | simp only [↓fr_mk, ↓fr_mk_clock, ↓fr_mk_sec, ↓foldl_fr, ↓ite_fr, ↓State.modDomain_fr, ↓State.stepTo_fr, ↓ruleFr_ite, ↓ruleFr_need, ↓ruleFr_needRange, ↓ruleFr_ok, ↓ruleFr_access, ↓ruleFr_param, ↓ruleFr_conflict, ↓ruleFr_done, ↓ruleFr_change, ↓ruleFr_held, ↓ruleFr_refuse, ↓ruleFr_missing, ↓ruleFr_auth, ↓ruleFr_lockedR, ↓ruleFr_busy, ↓tdRange, ↓pinRange, ↓Cmd_get_rule, ↓Cmd_set_rule, ↓Cmd_stats_rule, ↓Cmd_mirrored_rule, ↓Cmd_fence_rule, ↓Cmd_carry_rule, ↓Cmd_upTo_rule, ↓id_eq, ite_self, implies_true]
  | split
  | refine (foldl_fr _ (fun _ _ => ?_) _ _).trans ?_
  | refine rule_done_fr (s := s) (by assumption) ?_
  | refine rule_change_fr (s := s) (by assumption) ?_

theorem cmdTimeStep_fr (domain : Nat) (backward : Bool) (sec ns frac : Nat) (h : Hdr) (s : State) : ruleFr ((cmdTimeStep domain backward sec ns frac).rule h s) s = s.fr := by
  unfold cmdTimeStep
  repeat' first
  | with_reducible rfl
  | simp only [↓fr_mk, ↓fr_mk_clock, ↓fr_mk_sec, ↓foldl_fr, ↓ite_fr, ↓State.modDomain_fr, ↓ruleFr_ite, ↓ruleFr_need, ↓ruleFr_needRange, ↓ruleFr_access, ↓ruleFr_param, ↓ruleFr_conflict, ↓ruleFr_done, ↓ruleFr_change, ↓ruleFr_held, ↓ruleFr_refuse, ↓ruleFr_missing, ↓ruleFr_auth, ↓ruleFr_lockedR, ↓ruleFr_busy, ↓tdRange, ↓Cmd_get_rule, ↓Cmd_set_rule, ↓Cmd_stats_rule, ↓Cmd_mirrored_rule, ↓Cmd_fence_rule, ↓Cmd_carry_rule, ↓Cmd_upTo_rule, ↓id_eq, ite_self, implies_true]
  | split
  | refine (foldl_fr _ (fun _ _ => ?_) _ _).trans ?_
  | refine rule_done_fr (s := s) (by assumption) ?_
  | refine rule_change_fr (s := s) (by assumption) ?_

theorem cmdTimeAdjust_fr (domain : Nat) (adj : Int) (h : Hdr) (s : State) : ruleFr ((cmdTimeAdjust domain adj).rule h s) s = s.fr := by
  unfold cmdTimeAdjust
  repeat' first
  | with_reducible rfl
  | simp only [↓fr_mk, ↓fr_mk_clock, ↓fr_mk_sec, ↓foldl_fr, ↓ite_fr, ↓State.modDomain_fr, ↓State.recover_fr, ↓ruleFr_ite, ↓ruleFr_need, ↓ruleFr_needRange, ↓ruleFr_ok, ↓ruleFr_access, ↓ruleFr_param, ↓ruleFr_conflict, ↓ruleFr_done, ↓ruleFr_change, ↓ruleFr_held, ↓ruleFr_refuse, ↓ruleFr_missing, ↓ruleFr_auth, ↓ruleFr_lockedR, ↓ruleFr_busy, ↓tdRange, ↓Cmd_get_rule, ↓Cmd_set_rule, ↓Cmd_stats_rule, ↓Cmd_mirrored_rule, ↓Cmd_fence_rule, ↓Cmd_carry_rule, ↓Cmd_upTo_rule, ↓id_eq, ite_self, implies_true]
  | split
  | refine (foldl_fr _ (fun _ _ => ?_) _ _).trans ?_
  | refine rule_done_fr (s := s) (by assumption) ?_
  | refine rule_change_fr (s := s) (by assumption) ?_

theorem cmdTimeHoldover_fr (domain : Nat) (enter : Bool) (h : Hdr) (s : State) : ruleFr ((cmdTimeHoldover domain enter).rule h s) s = s.fr := by
  unfold cmdTimeHoldover
  repeat' first
  | with_reducible rfl
  | simp only [↓fr_mk, ↓fr_mk_clock, ↓fr_mk_sec, ↓foldl_fr, ↓ite_fr, ↓State.enterHoldover_fr, ↓State.recover_fr, ↓State.enter_fr, ↓ruleFr_ite, ↓ruleFr_need, ↓ruleFr_needRange, ↓ruleFr_val, ↓ruleFr_access, ↓ruleFr_conflict, ↓ruleFr_done, ↓ruleFr_change, ↓ruleFr_held, ↓ruleFr_refuse, ↓ruleFr_param, ↓ruleFr_missing, ↓ruleFr_auth, ↓ruleFr_lockedR, ↓ruleFr_busy, ↓tdRange, ↓Cmd_get_rule, ↓Cmd_set_rule, ↓Cmd_stats_rule, ↓Cmd_mirrored_rule, ↓Cmd_fence_rule, ↓Cmd_carry_rule, ↓Cmd_upTo_rule, ↓id_eq, ite_self, implies_true]
  | split
  | refine (foldl_fr _ (fun _ _ => ?_) _ _).trans ?_
  | refine rule_done_fr (s := s) (by assumption) ?_
  | refine rule_change_fr (s := s) (by assumption) ?_

theorem cmdTimeStatusGet_fr (domain : Nat) (h : Hdr) (s : State) : ruleFr ((cmdTimeStatusGet domain).rule h s) s = s.fr := by
  unfold cmdTimeStatusGet
  repeat' first
  | with_reducible rfl
  | simp only [↓fr_mk, ↓fr_mk_clock, ↓fr_mk_sec, ↓foldl_fr, ↓ite_fr, ↓State.record_fr, ↓State.reply_fr, ↓ruleFr_ite, ↓ruleFr_need, ↓ruleFr_needRange, ↓ruleFr_reply, ↓ruleFr_access, ↓ruleFr_done, ↓ruleFr_change, ↓ruleFr_held, ↓ruleFr_refuse, ↓ruleFr_param, ↓ruleFr_missing, ↓ruleFr_conflict, ↓ruleFr_auth, ↓ruleFr_lockedR, ↓ruleFr_busy, ↓tdRange, ↓Cmd_get_rule, ↓Cmd_set_rule, ↓Cmd_stats_rule, ↓Cmd_mirrored_rule, ↓Cmd_fence_rule, ↓Cmd_carry_rule, ↓Cmd_upTo_rule, ↓id_eq, ite_self, implies_true]
  | split
  | refine (foldl_fr _ (fun _ _ => ?_) _ _).trans ?_
  | refine rule_done_fr (s := s) (by assumption) ?_
  | refine rule_change_fr (s := s) (by assumption) ?_

theorem cmdTimePortSet_fr (port : Nat) (record fields : BitVec 64) (h : Hdr) (s : State) : ruleFr ((cmdTimePortSet port record fields).rule h s) s = s.fr := by
  unfold cmdTimePortSet
  repeat' first
  | with_reducible rfl
  | simp only [↓fr_mk, ↓fr_mk_clock, ↓fr_mk_sec, ↓foldl_fr, ↓ite_fr, ↓State.record_fr, ↓ruleFr_ite, ↓ruleFr_need, ↓ruleFr_needRange, ↓ruleFr_at, ↓ruleFr_access, ↓ruleFr_missing, ↓ruleFr_done, ↓ruleFr_change, ↓ruleFr_held, ↓ruleFr_refuse, ↓ruleFr_param, ↓ruleFr_conflict, ↓ruleFr_auth, ↓ruleFr_lockedR, ↓ruleFr_busy, ↓portRange, ↓Cmd_get_rule, ↓Cmd_set_rule, ↓Cmd_stats_rule, ↓Cmd_mirrored_rule, ↓Cmd_fence_rule, ↓Cmd_carry_rule, ↓Cmd_upTo_rule, ↓id_eq, ite_self, implies_true]
  | split
  | refine (foldl_fr _ (fun _ _ => ?_) _ _).trans ?_
  | refine rule_done_fr (s := s) (by assumption) ?_
  | refine rule_change_fr (s := s) (by assumption) ?_

theorem cmdTimePortGet_fr (port : Nat) (h : Hdr) (s : State) : ruleFr ((cmdTimePortGet port).rule h s) s = s.fr := by
  unfold cmdTimePortGet
  repeat' first
  | with_reducible rfl
  | simp only [↓fr_mk, ↓fr_mk_clock, ↓fr_mk_sec, ↓foldl_fr, ↓ite_fr, ↓State.reply_fr, ↓ruleFr_ite, ↓ruleFr_need, ↓ruleFr_needRange, ↓ruleFr_reply, ↓ruleFr_access, ↓ruleFr_missing, ↓ruleFr_done, ↓ruleFr_change, ↓ruleFr_held, ↓ruleFr_refuse, ↓ruleFr_param, ↓ruleFr_conflict, ↓ruleFr_auth, ↓ruleFr_lockedR, ↓ruleFr_busy, ↓portRange, ↓Cmd_get_rule, ↓Cmd_set_rule, ↓Cmd_stats_rule, ↓Cmd_mirrored_rule, ↓Cmd_fence_rule, ↓Cmd_carry_rule, ↓Cmd_upTo_rule, ↓id_eq, ite_self, implies_true]
  | split
  | refine (foldl_fr _ (fun _ _ => ?_) _ _).trans ?_
  | refine rule_done_fr (s := s) (by assumption) ?_
  | refine rule_change_fr (s := s) (by assumption) ?_

theorem cmdPpsSet_fr (pin dir domain : Nat) (activeLow : Bool) (offsetNs widthNs : Nat) (h : Hdr) (s : State) : ruleFr ((cmdPpsSet pin dir domain activeLow offsetNs widthNs).rule h s) s = s.fr := by
  unfold cmdPpsSet
  repeat' first
  | with_reducible rfl
  | simp only [↓fr_mk, ↓fr_mk_clock, ↓fr_mk_sec, ↓foldl_fr, ↓ite_fr, ↓State.modPps_fr, ↓ruleFr_ite, ↓ruleFr_need, ↓ruleFr_needRange, ↓ruleFr_ok, ↓ruleFr_access, ↓ruleFr_param, ↓ruleFr_done, ↓ruleFr_change, ↓ruleFr_held, ↓ruleFr_refuse, ↓ruleFr_missing, ↓ruleFr_conflict, ↓ruleFr_auth, ↓ruleFr_lockedR, ↓ruleFr_busy, ↓tdRange, ↓pinRange, ↓Cmd_get_rule, ↓Cmd_set_rule, ↓Cmd_stats_rule, ↓Cmd_mirrored_rule, ↓Cmd_fence_rule, ↓Cmd_carry_rule, ↓Cmd_upTo_rule, ↓id_eq, ite_self, implies_true]
  | split
  | refine (foldl_fr _ (fun _ _ => ?_) _ _).trans ?_
  | refine rule_done_fr (s := s) (by assumption) ?_
  | refine rule_change_fr (s := s) (by assumption) ?_

theorem cmdPpsRead_fr (pin count : Nat) (h : Hdr) (s : State) : ruleFr ((cmdPpsRead pin count).rule h s) s = s.fr := by
  unfold cmdPpsRead
  repeat' first
  | with_reducible rfl
  | simp only [↓fr_mk, ↓fr_mk_clock, ↓fr_mk_sec, ↓foldl_fr, ↓ite_fr, ↓State.modPps_fr, ↓State.reply_fr, ↓ruleFr_ite, ↓ruleFr_need, ↓ruleFr_needRange, ↓ruleFr_reply, ↓ruleFr_access, ↓ruleFr_param, ↓ruleFr_done, ↓ruleFr_change, ↓ruleFr_held, ↓ruleFr_refuse, ↓ruleFr_missing, ↓ruleFr_conflict, ↓ruleFr_auth, ↓ruleFr_lockedR, ↓ruleFr_busy, ↓pinRange, ↓Cmd_get_rule, ↓Cmd_set_rule, ↓Cmd_stats_rule, ↓Cmd_mirrored_rule, ↓Cmd_fence_rule, ↓Cmd_carry_rule, ↓Cmd_upTo_rule, ↓id_eq, ite_self, implies_true]
  | split
  | refine (foldl_fr _ (fun _ _ => ?_) _ _).trans ?_
  | refine rule_done_fr (s := s) (by assumption) ?_
  | refine rule_change_fr (s := s) (by assumption) ?_

theorem cmdTimeStatsGet_fr (isPort : Bool) (index : Nat) (clear : Bool) (h : Hdr) (s : State) : ruleFr ((cmdTimeStatsGet isPort index clear).rule h s) s = s.fr := by
  unfold cmdTimeStatsGet
  repeat' first
  | with_reducible rfl
  | simp only [↓fr_mk, ↓fr_mk_clock, ↓fr_mk_sec, ↓foldl_fr, ↓ite_fr, ↓ruleFr_ite, ↓ruleFr_need, ↓ruleFr_needRange, ↓ruleFr_access, ↓ruleFr_missing, ↓ruleFr_done, ↓ruleFr_change, ↓ruleFr_held, ↓ruleFr_refuse, ↓ruleFr_param, ↓ruleFr_conflict, ↓ruleFr_auth, ↓ruleFr_lockedR, ↓ruleFr_busy, ↓portRange, ↓pinRange, ↓statsRule_fr, ↓Cmd_get_rule, ↓Cmd_set_rule, ↓Cmd_stats_rule, ↓Cmd_mirrored_rule, ↓Cmd_fence_rule, ↓Cmd_carry_rule, ↓Cmd_upTo_rule, ↓id_eq, ite_self, implies_true]
  | split
  | refine (foldl_fr _ (fun _ _ => ?_) _ _).trans ?_
  | refine rule_done_fr (s := s) (by assumption) ?_
  | refine rule_change_fr (s := s) (by assumption) ?_

theorem cmdQueueModeSet_fr (octet : Nat) (q16 : Bool) (h : Hdr) (s : State) : ruleFr ((cmdQueueModeSet octet q16).rule h s) s = s.fr := by
  unfold cmdQueueModeSet
  repeat' first
  | with_reducible rfl
  | simp only [↓fr_mk, ↓fr_mk_clock, ↓fr_mk_sec, ↓foldl_fr, ↓ite_fr, ↓ruleFr_ite, ↓ruleFr_need, ↓ruleFr_needRange, ↓ruleFr_at, ↓ruleFr_access, ↓ruleFr_conflict, ↓ruleFr_done, ↓ruleFr_change, ↓ruleFr_held, ↓ruleFr_refuse, ↓Cmd_get_rule, ↓Cmd_set_rule, ↓Cmd_stats_rule, ↓Cmd_mirrored_rule, ↓Cmd_fence_rule, ↓Cmd_carry_rule, ↓Cmd_upTo_rule, ↓id_eq, ite_self, implies_true]
  | split
  | refine (foldl_fr _ (fun _ _ => ?_) _ _).trans ?_
  | refine rule_done_fr (s := s) (by assumption) ?_
  | refine rule_change_fr (s := s) (by assumption) ?_

theorem cmdQueueSchedSet_fr (queue : Nat) (record fields : BitVec 64) (h : Hdr) (s : State) : ruleFr ((cmdQueueSchedSet queue record fields).rule h s) s = s.fr := by
  unfold cmdQueueSchedSet
  repeat' first
  | with_reducible rfl
  | simp only [↓fr_mk, ↓fr_mk_clock, ↓fr_mk_sec, ↓foldl_fr, ↓ite_fr, ↓State.record_fr, ↓ruleFr_ite, ↓ruleFr_need, ↓ruleFr_needRange, ↓ruleFr_at, ↓ruleFr_access, ↓ruleFr_param, ↓ruleFr_conflict, ↓ruleFr_missing, ↓ruleFr_done, ↓ruleFr_change, ↓ruleFr_held, ↓ruleFr_refuse, ↓Cmd_get_rule, ↓Cmd_set_rule, ↓Cmd_stats_rule, ↓Cmd_mirrored_rule, ↓Cmd_fence_rule, ↓Cmd_carry_rule, ↓Cmd_upTo_rule, ↓id_eq, ite_self, implies_true]
  | split
  | refine (foldl_fr _ (fun _ _ => ?_) _ _).trans ?_
  | refine rule_done_fr (s := s) (by assumption) ?_
  | refine rule_change_fr (s := s) (by assumption) ?_

theorem cmdQueueSchedGet_fr (queue : Nat) (h : Hdr) (s : State) : ruleFr ((cmdQueueSchedGet queue).rule h s) s = s.fr := by
  unfold cmdQueueSchedGet
  repeat' first
  | with_reducible rfl
  | simp only [↓fr_mk, ↓fr_mk_clock, ↓fr_mk_sec, ↓foldl_fr, ↓ite_fr, ↓State.reply_fr, ↓ruleFr_ite, ↓ruleFr_need, ↓ruleFr_needRange, ↓ruleFr_reply, ↓ruleFr_access, ↓ruleFr_missing, ↓ruleFr_done, ↓ruleFr_change, ↓ruleFr_held, ↓ruleFr_refuse, ↓ruleFr_param, ↓ruleFr_conflict, ↓ruleFr_auth, ↓ruleFr_lockedR, ↓ruleFr_busy, ↓queueRange, ↓Cmd_get_rule, ↓Cmd_set_rule, ↓Cmd_stats_rule, ↓Cmd_mirrored_rule, ↓Cmd_fence_rule, ↓Cmd_carry_rule, ↓Cmd_upTo_rule, ↓id_eq, ite_self, implies_true]
  | split
  | refine (foldl_fr _ (fun _ _ => ?_) _ _).trans ?_
  | refine rule_done_fr (s := s) (by assumption) ?_
  | refine rule_change_fr (s := s) (by assumption) ?_

theorem cmdShaperSet_fr (isPort : Bool) (index : Nat) (record : BitVec 64) (h : Hdr) (s : State) : ruleFr ((cmdShaperSet isPort index record).rule h s) s = s.fr := by
  unfold cmdShaperSet
  repeat' first
  | with_reducible rfl
  | simp only [↓fr_mk, ↓fr_mk_clock, ↓fr_mk_sec, ↓foldl_fr, ↓ite_fr, ↓State.record_fr, ↓ruleFr_ite, ↓ruleFr_need, ↓ruleFr_needRange, ↓ruleFr_at, ↓ruleFr_access, ↓ruleFr_param, ↓ruleFr_missing, ↓ruleFr_done, ↓ruleFr_change, ↓ruleFr_held, ↓ruleFr_refuse, ↓ruleFr_conflict, ↓ruleFr_auth, ↓ruleFr_lockedR, ↓ruleFr_busy, ↓portRange, ↓queueRange, ↓shaperRange, ↓Cmd_get_rule, ↓Cmd_set_rule, ↓Cmd_stats_rule, ↓Cmd_mirrored_rule, ↓Cmd_fence_rule, ↓Cmd_carry_rule, ↓Cmd_upTo_rule, ↓id_eq, ite_self, implies_true]
  | split
  | refine (foldl_fr _ (fun _ _ => ?_) _ _).trans ?_
  | refine rule_done_fr (s := s) (by assumption) ?_
  | refine rule_change_fr (s := s) (by assumption) ?_

theorem cmdShaperGet_fr (isPort : Bool) (index : Nat) (h : Hdr) (s : State) : ruleFr ((cmdShaperGet isPort index).rule h s) s = s.fr := by
  unfold cmdShaperGet
  repeat' first
  | with_reducible rfl
  | simp only [↓fr_mk, ↓fr_mk_clock, ↓fr_mk_sec, ↓foldl_fr, ↓ite_fr, ↓State.reply_fr, ↓ruleFr_ite, ↓ruleFr_need, ↓ruleFr_needRange, ↓ruleFr_reply, ↓ruleFr_access, ↓ruleFr_missing, ↓ruleFr_done, ↓ruleFr_change, ↓ruleFr_held, ↓ruleFr_refuse, ↓ruleFr_param, ↓ruleFr_conflict, ↓ruleFr_auth, ↓ruleFr_lockedR, ↓ruleFr_busy, ↓portRange, ↓queueRange, ↓shaperRange, ↓Cmd_get_rule, ↓Cmd_set_rule, ↓Cmd_stats_rule, ↓Cmd_mirrored_rule, ↓Cmd_fence_rule, ↓Cmd_carry_rule, ↓Cmd_upTo_rule, ↓id_eq, ite_self, implies_true]
  | split
  | refine (foldl_fr _ (fun _ _ => ?_) _ _).trans ?_
  | refine rule_done_fr (s := s) (by assumption) ?_
  | refine rule_change_fr (s := s) (by assumption) ?_

theorem cmdPortSchedSet_fr (port : Nat) (record fields : BitVec 64) (h : Hdr) (s : State) : ruleFr ((cmdPortSchedSet port record fields).rule h s) s = s.fr := by
  unfold cmdPortSchedSet
  repeat' first
  | with_reducible rfl
  | simp only [↓fr_mk, ↓fr_mk_clock, ↓fr_mk_sec, ↓foldl_fr, ↓ite_fr, ↓State.record_fr, ↓ruleFr_ite, ↓ruleFr_need, ↓ruleFr_needRange, ↓ruleFr_at, ↓ruleFr_access, ↓ruleFr_param, ↓ruleFr_missing, ↓ruleFr_done, ↓ruleFr_change, ↓ruleFr_held, ↓ruleFr_refuse, ↓ruleFr_conflict, ↓ruleFr_auth, ↓ruleFr_lockedR, ↓ruleFr_busy, ↓portRange, ↓Cmd_get_rule, ↓Cmd_set_rule, ↓Cmd_stats_rule, ↓Cmd_mirrored_rule, ↓Cmd_fence_rule, ↓Cmd_carry_rule, ↓Cmd_upTo_rule, ↓id_eq, ite_self, implies_true]
  | split
  | refine (foldl_fr _ (fun _ _ => ?_) _ _).trans ?_
  | refine rule_done_fr (s := s) (by assumption) ?_
  | refine rule_change_fr (s := s) (by assumption) ?_

theorem cmdTcMapSet_fr (port : Nat) (map : BitVec 32) (h : Hdr) (s : State) : ruleFr ((cmdTcMapSet port map).rule h s) s = s.fr := by
  unfold cmdTcMapSet
  repeat' first
  | with_reducible rfl
  | simp only [↓fr_mk, ↓fr_mk_clock, ↓fr_mk_sec, ↓foldl_fr, ↓ite_fr, ↓ruleFr_ite, ↓ruleFr_need, ↓ruleFr_needRange, ↓ruleFr_at, ↓ruleFr_access, ↓ruleFr_param, ↓ruleFr_missing, ↓ruleFr_done, ↓ruleFr_change, ↓ruleFr_held, ↓ruleFr_refuse, ↓ruleFr_conflict, ↓ruleFr_auth, ↓ruleFr_lockedR, ↓ruleFr_busy, ↓portRange, ↓Cmd_get_rule, ↓Cmd_set_rule, ↓Cmd_stats_rule, ↓Cmd_mirrored_rule, ↓Cmd_fence_rule, ↓Cmd_carry_rule, ↓Cmd_upTo_rule, ↓id_eq, ite_self, implies_true]
  | split
  | refine (foldl_fr _ (fun _ _ => ?_) _ _).trans ?_
  | refine rule_done_fr (s := s) (by assumption) ?_
  | refine rule_change_fr (s := s) (by assumption) ?_

theorem cmdPortSchedGet_fr (port : Nat) (h : Hdr) (s : State) : ruleFr ((cmdPortSchedGet port).rule h s) s = s.fr := by
  unfold cmdPortSchedGet
  repeat' first
  | with_reducible rfl
  | simp only [↓fr_mk, ↓fr_mk_clock, ↓fr_mk_sec, ↓foldl_fr, ↓ite_fr, ↓State.reply_fr, ↓ruleFr_ite, ↓ruleFr_need, ↓ruleFr_needRange, ↓ruleFr_reply, ↓ruleFr_access, ↓ruleFr_missing, ↓ruleFr_done, ↓ruleFr_change, ↓ruleFr_held, ↓ruleFr_refuse, ↓ruleFr_param, ↓ruleFr_conflict, ↓ruleFr_auth, ↓ruleFr_lockedR, ↓ruleFr_busy, ↓portRange, ↓Cmd_get_rule, ↓Cmd_set_rule, ↓Cmd_stats_rule, ↓Cmd_mirrored_rule, ↓Cmd_fence_rule, ↓Cmd_carry_rule, ↓Cmd_upTo_rule, ↓id_eq, ite_self, implies_true]
  | split
  | refine (foldl_fr _ (fun _ _ => ?_) _ _).trans ?_
  | refine rule_done_fr (s := s) (by assumption) ?_
  | refine rule_change_fr (s := s) (by assumption) ?_

theorem cmdGateListSet_fr (port : Nat) (g : GateSpec) (h : Hdr) (s : State) : ruleFr ((cmdGateListSet port g).rule h s) s = s.fr := by
  unfold cmdGateListSet
  repeat' first
  | with_reducible rfl
  | simp only [↓fr_mk, ↓fr_mk_clock, ↓fr_mk_sec, ↓foldl_fr, ↓ite_fr, ↓State.takeover_fr, ↓ruleFr_ite, ↓ruleFr_need, ↓ruleFr_needRange, ↓ruleFr_at, ↓ruleFr_access, ↓ruleFr_param, ↓ruleFr_conflict, ↓ruleFr_missing, ↓ruleFr_done, ↓ruleFr_change, ↓ruleFr_held, ↓ruleFr_refuse, ↓ruleFr_auth, ↓ruleFr_lockedR, ↓ruleFr_busy, ↓portRange, ↓Cmd_get_rule, ↓Cmd_set_rule, ↓Cmd_stats_rule, ↓Cmd_mirrored_rule, ↓Cmd_fence_rule, ↓Cmd_carry_rule, ↓Cmd_upTo_rule, ↓id_eq, ite_self, implies_true]
  | split
  | refine (foldl_fr _ (fun _ _ => ?_) _ _).trans ?_
  | refine rule_done_fr (s := s) (by assumption) ?_
  | refine rule_change_fr (s := s) (by assumption) ?_

theorem cmdGateListClear_fr (port : Nat) (h : Hdr) (s : State) : ruleFr ((cmdGateListClear port).rule h s) s = s.fr := by
  unfold cmdGateListClear
  repeat' first
  | with_reducible rfl
  | simp only [↓fr_mk, ↓fr_mk_clock, ↓fr_mk_sec, ↓foldl_fr, ↓ite_fr, ↓ruleFr_ite, ↓ruleFr_need, ↓ruleFr_needRange, ↓ruleFr_at, ↓ruleFr_access, ↓ruleFr_missing, ↓ruleFr_done, ↓ruleFr_change, ↓ruleFr_held, ↓ruleFr_refuse, ↓ruleFr_param, ↓ruleFr_conflict, ↓ruleFr_auth, ↓ruleFr_lockedR, ↓ruleFr_busy, ↓portRange, ↓Cmd_get_rule, ↓Cmd_set_rule, ↓Cmd_stats_rule, ↓Cmd_mirrored_rule, ↓Cmd_fence_rule, ↓Cmd_carry_rule, ↓Cmd_upTo_rule, ↓id_eq, ite_self, implies_true]
  | split
  | refine (foldl_fr _ (fun _ _ => ?_) _ _).trans ?_
  | refine rule_done_fr (s := s) (by assumption) ?_
  | refine rule_change_fr (s := s) (by assumption) ?_

theorem cmdGateStatusGet_fr (port : Nat) (h : Hdr) (s : State) : ruleFr ((cmdGateStatusGet port).rule h s) s = s.fr := by
  unfold cmdGateStatusGet
  repeat' first
  | with_reducible rfl
  | simp only [↓fr_mk, ↓fr_mk_clock, ↓fr_mk_sec, ↓foldl_fr, ↓ite_fr, ↓State.reply_fr, ↓ruleFr_ite, ↓ruleFr_need, ↓ruleFr_needRange, ↓ruleFr_reply, ↓ruleFr_access, ↓ruleFr_missing, ↓ruleFr_done, ↓ruleFr_change, ↓ruleFr_held, ↓ruleFr_refuse, ↓ruleFr_param, ↓ruleFr_conflict, ↓ruleFr_auth, ↓ruleFr_lockedR, ↓ruleFr_busy, ↓portRange, ↓Cmd_get_rule, ↓Cmd_set_rule, ↓Cmd_stats_rule, ↓Cmd_mirrored_rule, ↓Cmd_fence_rule, ↓Cmd_carry_rule, ↓Cmd_upTo_rule, ↓id_eq, ite_self, implies_true]
  | split
  | refine (foldl_fr _ (fun _ _ => ?_) _ _).trans ?_
  | refine rule_done_fr (s := s) (by assumption) ?_
  | refine rule_change_fr (s := s) (by assumption) ?_

theorem cmdEgressStatsGet_fr (isPort : Bool) (index : Nat) (clear : Bool) (h : Hdr) (s : State) : ruleFr ((cmdEgressStatsGet isPort index clear).rule h s) s = s.fr := by
  unfold cmdEgressStatsGet
  repeat' first
  | with_reducible rfl
  | simp only [↓fr_mk, ↓fr_mk_clock, ↓fr_mk_sec, ↓foldl_fr, ↓ite_fr, ↓ruleFr_ite, ↓ruleFr_need, ↓ruleFr_needRange, ↓ruleFr_access, ↓ruleFr_missing, ↓ruleFr_done, ↓ruleFr_change, ↓ruleFr_held, ↓ruleFr_refuse, ↓ruleFr_param, ↓ruleFr_conflict, ↓ruleFr_auth, ↓ruleFr_lockedR, ↓ruleFr_busy, ↓portRange, ↓queueRange, ↓shaperRange, ↓statsRule_fr, ↓Cmd_get_rule, ↓Cmd_set_rule, ↓Cmd_stats_rule, ↓Cmd_mirrored_rule, ↓Cmd_fence_rule, ↓Cmd_carry_rule, ↓Cmd_upTo_rule, ↓id_eq, ite_self, implies_true]
  | split
  | refine (foldl_fr _ (fun _ _ => ?_) _ _).trans ?_
  | refine rule_done_fr (s := s) (by assumption) ?_
  | refine rule_change_fr (s := s) (by assumption) ?_

theorem cmdTelemetryStreamSet_fr (stream : Nat) (r : StreamRec) (fields : BitVec 16) (h : Hdr) (s : State) : ruleFr ((cmdTelemetryStreamSet stream r fields).rule h s) s = s.fr := by
  unfold cmdTelemetryStreamSet
  repeat' first
  | with_reducible rfl
  | simp only [↓fr_mk, ↓fr_mk_clock, ↓fr_mk_sec, ↓foldl_fr, ↓ite_fr, ↓ruleFr_ite, ↓ruleFr_need, ↓ruleFr_needRange, ↓ruleFr_at, ↓ruleFr_access, ↓ruleFr_param, ↓ruleFr_missing, ↓ruleFr_done, ↓ruleFr_change, ↓ruleFr_held, ↓ruleFr_refuse, ↓ruleFr_conflict, ↓ruleFr_auth, ↓ruleFr_lockedR, ↓ruleFr_busy, ↓streamRange, ↓Cmd_get_rule, ↓Cmd_set_rule, ↓Cmd_stats_rule, ↓Cmd_mirrored_rule, ↓Cmd_fence_rule, ↓Cmd_carry_rule, ↓Cmd_upTo_rule, ↓id_eq, ite_self, implies_true]
  | split
  | refine (foldl_fr _ (fun _ _ => ?_) _ _).trans ?_
  | refine rule_done_fr (s := s) (by assumption) ?_
  | refine rule_change_fr (s := s) (by assumption) ?_

theorem cmdTelemetryStreamGet_fr (stream : Nat) (h : Hdr) (s : State) : ruleFr ((cmdTelemetryStreamGet stream).rule h s) s = s.fr := by
  unfold cmdTelemetryStreamGet
  repeat' first
  | with_reducible rfl
  | simp only [↓fr_mk, ↓fr_mk_clock, ↓fr_mk_sec, ↓foldl_fr, ↓ite_fr, ↓State.reply_fr, ↓ruleFr_ite, ↓ruleFr_need, ↓ruleFr_needRange, ↓ruleFr_reply, ↓ruleFr_access, ↓ruleFr_done, ↓ruleFr_change, ↓ruleFr_held, ↓ruleFr_refuse, ↓ruleFr_param, ↓ruleFr_missing, ↓ruleFr_conflict, ↓ruleFr_auth, ↓ruleFr_lockedR, ↓ruleFr_busy, ↓streamRange, ↓Cmd_get_rule, ↓Cmd_set_rule, ↓Cmd_stats_rule, ↓Cmd_mirrored_rule, ↓Cmd_fence_rule, ↓Cmd_carry_rule, ↓Cmd_upTo_rule, ↓id_eq, ite_self, implies_true]
  | split
  | refine (foldl_fr _ (fun _ _ => ?_) _ _).trans ?_
  | refine rule_done_fr (s := s) (by assumption) ?_
  | refine rule_change_fr (s := s) (by assumption) ?_

theorem cmdQueueReportSet_fr (queue : Nat) (r : ReportRec) (fields : BitVec 8) (h : Hdr) (s : State) : ruleFr ((cmdQueueReportSet queue r fields).rule h s) s = s.fr := by
  unfold cmdQueueReportSet
  repeat' first
  | with_reducible rfl
  | simp only [↓fr_mk, ↓fr_mk_clock, ↓fr_mk_sec, ↓foldl_fr, ↓ite_fr, ↓ruleFr_ite, ↓ruleFr_need, ↓ruleFr_needRange, ↓ruleFr_at, ↓ruleFr_access, ↓ruleFr_param, ↓ruleFr_missing, ↓ruleFr_done, ↓ruleFr_change, ↓ruleFr_held, ↓ruleFr_refuse, ↓Cmd_get_rule, ↓Cmd_set_rule, ↓Cmd_stats_rule, ↓Cmd_mirrored_rule, ↓Cmd_fence_rule, ↓Cmd_carry_rule, ↓Cmd_upTo_rule, ↓id_eq, ite_self, implies_true]
  | split
  | refine (foldl_fr _ (fun _ _ => ?_) _ _).trans ?_
  | refine rule_done_fr (s := s) (by assumption) ?_
  | refine rule_change_fr (s := s) (by assumption) ?_

theorem cmdIoamSet_fr (nodeId : BitVec 56) (td : Nat) (namespaces : List (Nat × BitVec 64)) (h : Hdr) (s : State) : ruleFr ((cmdIoamSet nodeId td namespaces).rule h s) s = s.fr := by
  unfold cmdIoamSet
  repeat' first
  | with_reducible rfl
  | simp only [↓fr_mk, ↓fr_mk_clock, ↓fr_mk_sec, ↓foldl_fr, ↓ite_fr, ↓ruleFr_ite, ↓ruleFr_need, ↓ruleFr_needRange, ↓ruleFr_at, ↓ruleFr_param, ↓ruleFr_done, ↓ruleFr_change, ↓ruleFr_held, ↓ruleFr_refuse, ↓Cmd_get_rule, ↓Cmd_set_rule, ↓Cmd_stats_rule, ↓Cmd_mirrored_rule, ↓Cmd_fence_rule, ↓Cmd_carry_rule, ↓Cmd_upTo_rule, ↓id_eq, ite_self, implies_true]
  | split
  | refine (foldl_fr _ (fun _ _ => ?_) _ _).trans ?_
  | refine rule_done_fr (s := s) (by assumption) ?_
  | refine rule_change_fr (s := s) (by assumption) ?_

theorem cmdQueueSampleGet_fr (first count : Nat) (h : Hdr) (s : State) : ruleFr ((cmdQueueSampleGet first count).rule h s) s = s.fr := by
  unfold cmdQueueSampleGet
  repeat' first
  | with_reducible rfl
  | simp only [↓fr_mk, ↓fr_mk_clock, ↓fr_mk_sec, ↓foldl_fr, ↓ite_fr, ↓State.reply_fr, ↓ruleFr_ite, ↓ruleFr_need, ↓ruleFr_needRange, ↓ruleFr_reply, ↓ruleFr_access, ↓ruleFr_param, ↓ruleFr_done, ↓ruleFr_change, ↓ruleFr_held, ↓ruleFr_refuse, ↓Cmd_get_rule, ↓Cmd_set_rule, ↓Cmd_stats_rule, ↓Cmd_mirrored_rule, ↓Cmd_fence_rule, ↓Cmd_carry_rule, ↓Cmd_upTo_rule, ↓id_eq, ite_self, implies_true]
  | split
  | refine (foldl_fr _ (fun _ _ => ?_) _ _).trans ?_
  | refine rule_done_fr (s := s) (by assumption) ?_
  | refine rule_change_fr (s := s) (by assumption) ?_

theorem cmdPerfCounterSet_fr (scope counter : Nat) (record : BitVec 64) (h : Hdr) (s : State) : ruleFr ((cmdPerfCounterSet scope counter record).rule h s) s = s.fr := by
  unfold cmdPerfCounterSet
  repeat' first
  | with_reducible rfl
  | simp only [↓fr_mk, ↓fr_mk_clock, ↓fr_mk_sec, ↓foldl_fr, ↓ite_fr, ↓State.modPerf_fr, ↓State.record_fr, ↓ruleFr_ite, ↓ruleFr_need, ↓ruleFr_needRange, ↓ruleFr_ok, ↓ruleFr_access, ↓ruleFr_param, ↓ruleFr_done, ↓ruleFr_change, ↓ruleFr_held, ↓ruleFr_refuse, ↓Cmd_get_rule, ↓Cmd_set_rule, ↓Cmd_stats_rule, ↓Cmd_mirrored_rule, ↓Cmd_fence_rule, ↓Cmd_carry_rule, ↓Cmd_upTo_rule, ↓id_eq, ite_self, implies_true]
  | split
  | refine (foldl_fr _ (fun _ _ => ?_) _ _).trans ?_
  | refine rule_done_fr (s := s) (by assumption) ?_
  | refine rule_change_fr (s := s) (by assumption) ?_

theorem cmdTelemetryStatsGet_fr (sel : StatsSel) (clear : Bool) (h : Hdr) (s : State) : ruleFr ((cmdTelemetryStatsGet sel clear).rule h s) s = s.fr := by
  unfold cmdTelemetryStatsGet
  repeat' first
  | with_reducible rfl
  | simp only [↓fr_mk, ↓fr_mk_clock, ↓fr_mk_sec, ↓foldl_fr, ↓ite_fr, ↓ruleFr_ite, ↓ruleFr_need, ↓ruleFr_needRange, ↓ruleFr_access, ↓ruleFr_param, ↓ruleFr_missing, ↓ruleFr_done, ↓ruleFr_change, ↓ruleFr_held, ↓ruleFr_refuse, ↓statsRule_fr, ↓Cmd_get_rule, ↓Cmd_set_rule, ↓Cmd_stats_rule, ↓Cmd_mirrored_rule, ↓Cmd_fence_rule, ↓Cmd_carry_rule, ↓Cmd_upTo_rule, ↓id_eq, ite_self, implies_true]
  | split
  | refine (foldl_fr _ (fun _ _ => ?_) _ _).trans ?_
  | refine rule_done_fr (s := s) (by assumption) ?_
  | refine rule_change_fr (s := s) (by assumption) ?_

theorem cmdHello_fr (lowMaj lowMin highMaj highMin : Nat) (telemetry : Option Nat) (h : Hdr) (s : State) : ruleFr ((cmdHello lowMaj lowMin highMaj highMin telemetry).rule h s) s = s.fr := by
  unfold cmdHello
  repeat' first
  | with_reducible rfl
  | simp only [↓fr_mk, ↓fr_mk_clock, ↓fr_mk_sec, ↓foldl_fr, ↓ite_fr, ↓State.dropSession_fr, ↓ruleFr_ite, ↓ruleFr_need, ↓ruleFr_needRange, ↓ruleFr_done, ↓ruleFr_change, ↓ruleFr_held, ↓ruleFr_refuse, ↓ruleFr_access, ↓ruleFr_param, ↓ruleFr_missing, ↓ruleFr_conflict, ↓ruleFr_auth, ↓ruleFr_lockedR, ↓ruleFr_busy, ↓ImageCheck.refuse, ↓Cmd_get_rule, ↓Cmd_set_rule, ↓Cmd_stats_rule, ↓Cmd_mirrored_rule, ↓Cmd_fence_rule, ↓Cmd_carry_rule, ↓Cmd_upTo_rule, ↓id_eq, ite_self, implies_true]
  | split
  | refine (foldl_fr _ (fun _ _ => ?_) _ _).trans ?_
  | refine rule_done_fr (s := s) (by assumption) ?_
  | refine rule_change_fr (s := s) (by assumption) ?_

theorem cmdGoodbye_fr (h : Hdr) (s : State) : ruleFr ((cmdGoodbye).rule h s) s = s.fr := by
  unfold cmdGoodbye
  repeat' first
  | with_reducible rfl
  | simp only [↓fr_mk, ↓fr_mk_clock, ↓fr_mk_sec, ↓foldl_fr, ↓ite_fr, ↓State.dropSession_fr, ↓ruleFr_ite, ↓ruleFr_need, ↓ruleFr_needRange, ↓ruleFr_ok, ↓ruleFr_done, ↓ruleFr_change, ↓ruleFr_held, ↓ruleFr_refuse, ↓Cmd_get_rule, ↓Cmd_set_rule, ↓Cmd_stats_rule, ↓Cmd_mirrored_rule, ↓Cmd_fence_rule, ↓Cmd_carry_rule, ↓Cmd_upTo_rule, ↓id_eq, ite_self, implies_true]
  | split
  | refine (foldl_fr _ (fun _ _ => ?_) _ _).trans ?_
  | refine rule_done_fr (s := s) (by assumption) ?_
  | refine rule_change_fr (s := s) (by assumption) ?_

theorem cmdDeviceStateGet_fr (h : Hdr) (s : State) : ruleFr ((cmdDeviceStateGet).rule h s) s = s.fr := by
  unfold cmdDeviceStateGet
  repeat' first
  | with_reducible rfl
  | simp only [↓fr_mk, ↓fr_mk_clock, ↓fr_mk_sec, ↓foldl_fr, ↓ite_fr, ↓State.reply_fr, ↓ruleFr_ite, ↓ruleFr_need, ↓ruleFr_needRange, ↓ruleFr_reply, ↓ruleFr_done, ↓ruleFr_change, ↓ruleFr_held, ↓ruleFr_refuse, ↓Cmd_get_rule, ↓Cmd_set_rule, ↓Cmd_stats_rule, ↓Cmd_mirrored_rule, ↓Cmd_fence_rule, ↓Cmd_carry_rule, ↓Cmd_upTo_rule, ↓id_eq, ite_self, implies_true]
  | split
  | refine (foldl_fr _ (fun _ _ => ?_) _ _).trans ?_
  | refine rule_done_fr (s := s) (by assumption) ?_
  | refine rule_change_fr (s := s) (by assumption) ?_

theorem cmdDeviceStateSet_fr (target : Nat) (h : Hdr) (s : State) : ruleFr ((cmdDeviceStateSet target).rule h s) s = s.fr := by
  unfold cmdDeviceStateSet
  repeat' first
  | with_reducible rfl
  | simp only [↓fr_mk, ↓fr_mk_clock, ↓fr_mk_sec, ↓foldl_fr, ↓ite_fr, ↓ruleFr_ite, ↓ruleFr_need, ↓ruleFr_needRange, ↓ruleFr_at, ↓ruleFr_param, ↓ruleFr_conflict, ↓ruleFr_done, ↓ruleFr_change, ↓ruleFr_held, ↓ruleFr_refuse, ↓Cmd_get_rule, ↓Cmd_set_rule, ↓Cmd_stats_rule, ↓Cmd_mirrored_rule, ↓Cmd_fence_rule, ↓Cmd_carry_rule, ↓Cmd_upTo_rule, ↓id_eq, ite_self, implies_true]
  | split
  | refine (foldl_fr _ (fun _ _ => ?_) _ _).trans ?_
  | refine rule_done_fr (s := s) (by assumption) ?_
  | refine rule_change_fr (s := s) (by assumption) ?_

theorem cmdCpuQueueMapSet_fr (queue ring : Nat) (h : Hdr) (s : State) : ruleFr ((cmdCpuQueueMapSet queue ring).rule h s) s = s.fr := by
  unfold cmdCpuQueueMapSet
  repeat' first
  | with_reducible rfl
  | simp only [↓fr_mk, ↓fr_mk_clock, ↓fr_mk_sec, ↓foldl_fr, ↓ite_fr, ↓ruleFr_ite, ↓ruleFr_need, ↓ruleFr_needRange, ↓ruleFr_at, ↓ruleFr_access, ↓ruleFr_done, ↓ruleFr_change, ↓ruleFr_held, ↓ruleFr_refuse, ↓Cmd_get_rule, ↓Cmd_set_rule, ↓Cmd_stats_rule, ↓Cmd_mirrored_rule, ↓Cmd_fence_rule, ↓Cmd_carry_rule, ↓Cmd_upTo_rule, ↓id_eq, ite_self, implies_true]
  | split
  | refine (foldl_fr _ (fun _ _ => ?_) _ _).trans ?_
  | refine rule_done_fr (s := s) (by assumption) ?_
  | refine rule_change_fr (s := s) (by assumption) ?_

theorem cmdEventRouteSet_fr (group : Nat) (enable : BitVec 32) (ring : Nat) (h : Hdr) (s : State) : ruleFr ((cmdEventRouteSet group enable ring).rule h s) s = s.fr := by
  unfold cmdEventRouteSet
  repeat' first
  | with_reducible rfl
  | simp only [↓fr_mk, ↓fr_mk_clock, ↓fr_mk_sec, ↓foldl_fr, ↓ite_fr, ↓State.putEvEnable_fr, ↓State.putEvRoute_fr, ↓ruleFr_ite, ↓ruleFr_need, ↓ruleFr_needRange, ↓ruleFr_ok, ↓ruleFr_access, ↓ruleFr_done, ↓ruleFr_change, ↓ruleFr_held, ↓ruleFr_refuse, ↓ruleFr_param, ↓ruleFr_missing, ↓ruleFr_conflict, ↓ruleFr_auth, ↓ruleFr_lockedR, ↓ruleFr_busy, ↓groupRange, ↓Cmd_get_rule, ↓Cmd_set_rule, ↓Cmd_stats_rule, ↓Cmd_mirrored_rule, ↓Cmd_fence_rule, ↓Cmd_carry_rule, ↓Cmd_upTo_rule, ↓id_eq, ite_self, implies_true]
  | split
  | refine (foldl_fr _ (fun _ _ => ?_) _ _).trans ?_
  | refine rule_done_fr (s := s) (by assumption) ?_
  | refine rule_change_fr (s := s) (by assumption) ?_

theorem cmdEventStatusGet_fr (group : Nat) (h : Hdr) (s : State) : ruleFr ((cmdEventStatusGet group).rule h s) s = s.fr := by
  unfold cmdEventStatusGet
  repeat' first
  | with_reducible rfl
  | simp only [↓fr_mk, ↓fr_mk_clock, ↓fr_mk_sec, ↓foldl_fr, ↓ite_fr, ↓State.reply_fr, ↓ruleFr_ite, ↓ruleFr_need, ↓ruleFr_needRange, ↓ruleFr_reply, ↓ruleFr_access, ↓ruleFr_done, ↓ruleFr_change, ↓ruleFr_held, ↓ruleFr_refuse, ↓ruleFr_param, ↓ruleFr_missing, ↓ruleFr_conflict, ↓ruleFr_auth, ↓ruleFr_lockedR, ↓ruleFr_busy, ↓groupRange, ↓Cmd_get_rule, ↓Cmd_set_rule, ↓Cmd_stats_rule, ↓Cmd_mirrored_rule, ↓Cmd_fence_rule, ↓Cmd_carry_rule, ↓Cmd_upTo_rule, ↓id_eq, ite_self, implies_true]
  | split
  | refine (foldl_fr _ (fun _ _ => ?_) _ _).trans ?_
  | refine rule_done_fr (s := s) (by assumption) ?_
  | refine rule_change_fr (s := s) (by assumption) ?_

theorem cmdEventStatusClear_fr (group : Nat) (mask : BitVec 32) (h : Hdr) (s : State) : ruleFr ((cmdEventStatusClear group mask).rule h s) s = s.fr := by
  unfold cmdEventStatusClear
  repeat' first
  | with_reducible rfl
  | simp only [↓fr_mk, ↓fr_mk_clock, ↓fr_mk_sec, ↓foldl_fr, ↓ite_fr, ↓State.clearStatus_fr, ↓ruleFr_ite, ↓ruleFr_need, ↓ruleFr_needRange, ↓ruleFr_ok, ↓ruleFr_access, ↓ruleFr_done, ↓ruleFr_change, ↓ruleFr_held, ↓ruleFr_refuse, ↓ruleFr_param, ↓ruleFr_missing, ↓ruleFr_conflict, ↓ruleFr_auth, ↓ruleFr_lockedR, ↓ruleFr_busy, ↓groupRange, ↓Cmd_get_rule, ↓Cmd_set_rule, ↓Cmd_stats_rule, ↓Cmd_mirrored_rule, ↓Cmd_fence_rule, ↓Cmd_carry_rule, ↓Cmd_upTo_rule, ↓id_eq, ite_self, implies_true]
  | split
  | refine (foldl_fr _ (fun _ _ => ?_) _ _).trans ?_
  | refine rule_done_fr (s := s) (by assumption) ?_
  | refine rule_change_fr (s := s) (by assumption) ?_

theorem cmdSessionStatsGet_fr (sel : StatsSel) (clear : Bool) (h : Hdr) (s : State) : ruleFr ((cmdSessionStatsGet sel clear).rule h s) s = s.fr := by
  unfold cmdSessionStatsGet
  repeat' first
  | with_reducible rfl
  | simp only [↓fr_mk, ↓fr_mk_clock, ↓fr_mk_sec, ↓foldl_fr, ↓ite_fr, ↓ruleFr_ite, ↓ruleFr_need, ↓ruleFr_needRange, ↓ruleFr_access, ↓ruleFr_param, ↓ruleFr_done, ↓ruleFr_change, ↓ruleFr_held, ↓ruleFr_refuse, ↓statsRule_fr, ↓Cmd_get_rule, ↓Cmd_set_rule, ↓Cmd_stats_rule, ↓Cmd_mirrored_rule, ↓Cmd_fence_rule, ↓Cmd_carry_rule, ↓Cmd_upTo_rule, ↓id_eq, ite_self, implies_true]
  | split
  | refine (foldl_fr _ (fun _ _ => ?_) _ _).trans ?_
  | refine rule_done_fr (s := s) (by assumption) ?_
  | refine rule_change_fr (s := s) (by assumption) ?_

theorem cmdEcho_fr (data : List Byte) (h : Hdr) (s : State) : ruleFr ((cmdEcho data).rule h s) s = s.fr := by
  unfold cmdEcho
  repeat' first
  | with_reducible rfl
  | simp only [↓fr_mk, ↓fr_mk_clock, ↓fr_mk_sec, ↓foldl_fr, ↓ite_fr, ↓State.reply_fr, ↓ruleFr_ite, ↓ruleFr_need, ↓ruleFr_needRange, ↓ruleFr_reply, ↓ruleFr_done, ↓ruleFr_change, ↓ruleFr_held, ↓ruleFr_refuse, ↓Cmd_get_rule, ↓Cmd_set_rule, ↓Cmd_stats_rule, ↓Cmd_mirrored_rule, ↓Cmd_fence_rule, ↓Cmd_carry_rule, ↓Cmd_upTo_rule, ↓id_eq, ite_self, implies_true]
  | split
  | refine (foldl_fr _ (fun _ _ => ?_) _ _).trans ?_
  | refine rule_done_fr (s := s) (by assumption) ?_
  | refine rule_change_fr (s := s) (by assumption) ?_

theorem cmdFaultReactionSet_fr (source : Nat) (f : ReactFields) (h : Hdr) (s : State) : ruleFr ((cmdFaultReactionSet source f).rule h s) s = s.fr := by
  unfold cmdFaultReactionSet
  repeat' first
  | with_reducible rfl
  | simp only [↓fr_mk, ↓fr_mk_clock, ↓fr_mk_sec, ↓foldl_fr, ↓ite_fr, ↓State.modReact_fr, ↓ruleFr_ite, ↓ruleFr_need, ↓ruleFr_needRange, ↓ruleFr_ok, ↓ruleFr_access, ↓ruleFr_param, ↓ruleFr_done, ↓ruleFr_change, ↓ruleFr_held, ↓ruleFr_refuse, ↓ruleFr_missing, ↓ruleFr_conflict, ↓ruleFr_auth, ↓ruleFr_lockedR, ↓ruleFr_busy, ↓sourceRange, ↓Cmd_get_rule, ↓Cmd_set_rule, ↓Cmd_stats_rule, ↓Cmd_mirrored_rule, ↓Cmd_fence_rule, ↓Cmd_carry_rule, ↓Cmd_upTo_rule, ↓id_eq, ite_self, implies_true]
  | split
  | refine (foldl_fr _ (fun _ _ => ?_) _ _).trans ?_
  | refine rule_done_fr (s := s) (by assumption) ?_
  | refine rule_change_fr (s := s) (by assumption) ?_

theorem cmdFaultReactionGet_fr (source : Nat) (h : Hdr) (s : State) : ruleFr ((cmdFaultReactionGet source).rule h s) s = s.fr := by
  unfold cmdFaultReactionGet
  repeat' first
  | with_reducible rfl
  | simp only [↓fr_mk, ↓fr_mk_clock, ↓fr_mk_sec, ↓foldl_fr, ↓ite_fr, ↓ruleFr_ite, ↓ruleFr_need, ↓ruleFr_needRange, ↓ruleFr_val, ↓ruleFr_access, ↓ruleFr_done, ↓ruleFr_change, ↓ruleFr_held, ↓ruleFr_refuse, ↓ruleFr_param, ↓ruleFr_missing, ↓ruleFr_conflict, ↓ruleFr_auth, ↓ruleFr_lockedR, ↓ruleFr_busy, ↓sourceRange, ↓Cmd_get_rule, ↓Cmd_set_rule, ↓Cmd_stats_rule, ↓Cmd_mirrored_rule, ↓Cmd_fence_rule, ↓Cmd_carry_rule, ↓Cmd_upTo_rule, ↓id_eq, ite_self, implies_true]
  | split
  | refine (foldl_fr _ (fun _ _ => ?_) _ _).trans ?_
  | refine rule_done_fr (s := s) (by assumption) ?_
  | refine rule_change_fr (s := s) (by assumption) ?_

theorem cmdFaultConfigSet_fr (logMin firstMin isolatePorts : Option Nat) (h : Hdr) (s : State) : ruleFr ((cmdFaultConfigSet logMin firstMin isolatePorts).rule h s) s = s.fr := by
  unfold cmdFaultConfigSet
  repeat' first
  | with_reducible rfl
  | simp only [↓fr_mk, ↓fr_mk_clock, ↓fr_mk_sec, ↓foldl_fr, ↓ite_fr, ↓ruleFr_ite, ↓ruleFr_need, ↓ruleFr_needRange, ↓ruleFr_ok, ↓ruleFr_param, ↓ruleFr_done, ↓ruleFr_change, ↓ruleFr_held, ↓ruleFr_refuse, ↓Cmd_get_rule, ↓Cmd_set_rule, ↓Cmd_stats_rule, ↓Cmd_mirrored_rule, ↓Cmd_fence_rule, ↓Cmd_carry_rule, ↓Cmd_upTo_rule, ↓id_eq, ite_self, implies_true]
  | split
  | refine (foldl_fr _ (fun _ _ => ?_) _ _).trans ?_
  | refine rule_done_fr (s := s) (by assumption) ?_
  | refine rule_change_fr (s := s) (by assumption) ?_

theorem cmdFaultLogRead_fr (first count : Nat) (h : Hdr) (s : State) : ruleFr ((cmdFaultLogRead first count).rule h s) s = s.fr := by
  unfold cmdFaultLogRead
  repeat' first
  | with_reducible rfl
  | simp only [↓ruleFr_poisoned, ↓fr_mk, ↓fr_mk_clock, ↓fr_mk_sec, ↓foldl_fr, ↓ite_fr, ↓ruleFr_ite, ↓ruleFr_need, ↓ruleFr_needRange, ↓ruleFr_param, ↓ruleFr_done, ↓ruleFr_change, ↓ruleFr_held, ↓ruleFr_refuse, ↓Cmd_get_rule, ↓Cmd_set_rule, ↓Cmd_stats_rule, ↓Cmd_mirrored_rule, ↓Cmd_fence_rule, ↓Cmd_carry_rule, ↓Cmd_upTo_rule, ↓id_eq, ite_self, implies_true]
  | split
  | refine (foldl_fr _ (fun _ _ => ?_) _ _).trans ?_
  | refine rule_done_fr (s := s) (by assumption) ?_
  | refine rule_change_fr (s := s) (by assumption) ?_

theorem cmdFaultFirstGet_fr (h : Hdr) (s : State) : ruleFr ((cmdFaultFirstGet).rule h s) s = s.fr := by
  unfold cmdFaultFirstGet
  repeat' first
  | with_reducible rfl
  | simp only [↓fr_mk, ↓fr_mk_clock, ↓fr_mk_sec, ↓foldl_fr, ↓ite_fr, ↓State.reply_fr, ↓ruleFr_ite, ↓ruleFr_need, ↓ruleFr_needRange, ↓ruleFr_reply, ↓ruleFr_done, ↓ruleFr_change, ↓ruleFr_held, ↓ruleFr_refuse, ↓Cmd_get_rule, ↓Cmd_set_rule, ↓Cmd_stats_rule, ↓Cmd_mirrored_rule, ↓Cmd_fence_rule, ↓Cmd_carry_rule, ↓Cmd_upTo_rule, ↓id_eq, ite_self, implies_true]
  | split
  | refine (foldl_fr _ (fun _ _ => ?_) _ _).trans ?_
  | refine rule_done_fr (s := s) (by assumption) ?_
  | refine rule_change_fr (s := s) (by assumption) ?_

theorem cmdFaultFirstClear_fr (h : Hdr) (s : State) : ruleFr ((cmdFaultFirstClear).rule h s) s = s.fr := by
  unfold cmdFaultFirstClear
  repeat' first
  | with_reducible rfl
  | simp only [↓fr_mk, ↓fr_mk_clock, ↓fr_mk_sec, ↓foldl_fr, ↓ite_fr, ↓State.clearFirst_fr, ↓ruleFr_ite, ↓ruleFr_need, ↓ruleFr_needRange, ↓ruleFr_ok, ↓ruleFr_done, ↓ruleFr_change, ↓ruleFr_held, ↓ruleFr_refuse, ↓Cmd_get_rule, ↓Cmd_set_rule, ↓Cmd_stats_rule, ↓Cmd_mirrored_rule, ↓Cmd_fence_rule, ↓Cmd_carry_rule, ↓Cmd_upTo_rule, ↓id_eq, ite_self, implies_true]
  | split
  | refine (foldl_fr _ (fun _ _ => ?_) _ _).trans ?_
  | refine rule_done_fr (s := s) (by assumption) ?_
  | refine rule_change_fr (s := s) (by assumption) ?_

theorem cmdFaultStatusGet_fr (source inst : Nat) (h : Hdr) (s : State) : ruleFr ((cmdFaultStatusGet source inst).rule h s) s = s.fr := by
  unfold cmdFaultStatusGet
  repeat' first
  | with_reducible rfl
  | simp only [↓fr_mk, ↓fr_mk_clock, ↓fr_mk_sec, ↓foldl_fr, ↓ite_fr, ↓State.reply_fr, ↓ruleFr_ite, ↓ruleFr_need, ↓ruleFr_needRange, ↓ruleFr_reply, ↓ruleFr_access, ↓ruleFr_done, ↓ruleFr_change, ↓ruleFr_held, ↓ruleFr_refuse, ↓ruleFr_param, ↓ruleFr_missing, ↓ruleFr_conflict, ↓ruleFr_auth, ↓ruleFr_lockedR, ↓ruleFr_busy, ↓sourceRange, ↓Cmd_get_rule, ↓Cmd_set_rule, ↓Cmd_stats_rule, ↓Cmd_mirrored_rule, ↓Cmd_fence_rule, ↓Cmd_carry_rule, ↓Cmd_upTo_rule, ↓id_eq, ite_self, implies_true]
  | split
  | refine (foldl_fr _ (fun _ _ => ?_) _ _).trans ?_
  | refine rule_done_fr (s := s) (by assumption) ?_
  | refine rule_change_fr (s := s) (by assumption) ?_

theorem cmdUnitRetire_fr (u : UnitRef) (h : Hdr) (s : State) : ruleFr ((cmdUnitRetire u).rule h s) s = s.fr := by
  unfold cmdUnitRetire
  repeat' first
  | with_reducible rfl
  | simp only [↓fr_mk, ↓fr_mk_clock, ↓fr_mk_sec, ↓foldl_fr, ↓ite_fr, ↓State.startSpare_fr, ↓State.noteUnit_fr, ↓ruleFr_ite, ↓ruleFr_need, ↓ruleFr_needRange, ↓ruleFr_val, ↓ruleFr_at, ↓ruleFr_param, ↓ruleFr_conflict, ↓ruleFr_done, ↓ruleFr_change, ↓ruleFr_held, ↓ruleFr_refuse, ↓Cmd_get_rule, ↓Cmd_set_rule, ↓Cmd_stats_rule, ↓Cmd_mirrored_rule, ↓Cmd_fence_rule, ↓Cmd_carry_rule, ↓Cmd_upTo_rule, ↓id_eq, ite_self, implies_true]
  | split
  | refine (foldl_fr _ (fun _ _ => ?_) _ _).trans ?_
  | refine rule_done_fr (s := s) (by assumption) ?_
  | refine rule_change_fr (s := s) (by assumption) ?_

theorem cmdUnitFence_fr (u : UnitRef) (h : Hdr) (s : State) : ruleFr ((cmdUnitFence u).rule h s) s = s.fr := by
  unfold cmdUnitFence
  repeat' first
  | with_reducible rfl
  | simp only [↓fr_mk, ↓fr_mk_clock, ↓fr_mk_sec, ↓foldl_fr, ↓ite_fr, ↓State.fenceCipher_fr, ↓State.noteUnit_fr, ↓State.fence_fr, ↓ruleFr_ite, ↓ruleFr_need, ↓ruleFr_needRange, ↓ruleFr_val, ↓ruleFr_at, ↓ruleFr_param, ↓ruleFr_conflict, ↓ruleFr_done, ↓ruleFr_change, ↓ruleFr_held, ↓ruleFr_refuse, ↓Cmd_get_rule, ↓Cmd_set_rule, ↓Cmd_stats_rule, ↓Cmd_mirrored_rule, ↓Cmd_fence_rule, ↓Cmd_carry_rule, ↓Cmd_upTo_rule, ↓id_eq, ite_self, implies_true]
  | split
  | refine (foldl_fr _ (fun _ _ => ?_) _ _).trans ?_
  | refine rule_done_fr (s := s) (by assumption) ?_
  | refine rule_change_fr (s := s) (by assumption) ?_

theorem cmdUnitRestore_fr (u : UnitRef) (h : Hdr) (s : State) : ruleFr ((cmdUnitRestore u).rule h s) s = s.fr := by
  unfold cmdUnitRestore
  repeat' first
  | with_reducible rfl
  | simp only [↓fr_mk, ↓fr_mk_clock, ↓fr_mk_sec, ↓foldl_fr, ↓ite_fr, ↓State.draw_fr, ↓State.startSpare_fr, ↓State.noteUnit_fr, ↓ruleFr_ite, ↓ruleFr_need, ↓ruleFr_needRange, ↓ruleFr_val, ↓ruleFr_at, ↓ruleFr_conflict, ↓ruleFr_done, ↓ruleFr_change, ↓ruleFr_held, ↓ruleFr_refuse, ↓State.restoreElem_fr, ↓cmdLaneRestore_fr, ↓Cmd_get_rule, ↓Cmd_set_rule, ↓Cmd_stats_rule, ↓Cmd_mirrored_rule, ↓Cmd_fence_rule, ↓Cmd_carry_rule, ↓Cmd_upTo_rule, ↓id_eq, ite_self, implies_true]
  | split
  | refine (foldl_fr _ (fun _ _ => ?_) _ _).trans ?_
  | refine rule_done_fr (s := s) (by assumption) ?_
  | refine rule_change_fr (s := s) (by assumption) ?_
  | exact (ruleFr_base _ (State.noteUnit_fr s _ _ _)).trans ((State.restoreElem_fr ..).trans (State.noteUnit_fr ..))
  | exact (ruleFr_base _ ((State.draw_fr _).trans (State.noteUnit_fr s _ _ _))).trans ((cmdLaneRestore_fr ..).trans ((State.draw_fr _).trans (State.noteUnit_fr ..)))

theorem cmdFaultStatsGet_fr (sel : StatsSel) (clear : Bool) (h : Hdr) (s : State) : ruleFr ((cmdFaultStatsGet sel clear).rule h s) s = s.fr := by
  unfold cmdFaultStatsGet
  repeat' first
  | with_reducible rfl
  | simp only [↓fr_mk, ↓fr_mk_clock, ↓fr_mk_sec, ↓foldl_fr, ↓ite_fr, ↓ruleFr_ite, ↓ruleFr_need, ↓ruleFr_needRange, ↓ruleFr_access, ↓ruleFr_param, ↓ruleFr_done, ↓ruleFr_change, ↓ruleFr_held, ↓ruleFr_refuse, ↓statsRule_fr, ↓Cmd_get_rule, ↓Cmd_set_rule, ↓Cmd_stats_rule, ↓Cmd_mirrored_rule, ↓Cmd_fence_rule, ↓Cmd_carry_rule, ↓Cmd_upTo_rule, ↓id_eq, ite_self, implies_true]
  | split
  | refine (foldl_fr _ (fun _ _ => ?_) _ _).trans ?_
  | refine rule_done_fr (s := s) (by assumption) ?_
  | refine rule_change_fr (s := s) (by assumption) ?_

theorem cmdFaultInject_fr (h : Hdr) (s : State) : ruleFr ((cmdFaultInject).rule h s) s = s.fr := by
  unfold cmdFaultInject
  repeat' first
  | with_reducible rfl
  | simp only [↓fr_mk, ↓fr_mk_clock, ↓fr_mk_sec, ↓foldl_fr, ↓ite_fr, ↓ruleFr_ite, ↓ruleFr_need, ↓ruleFr_needRange, ↓ruleFr_conflict, ↓ruleFr_done, ↓ruleFr_change, ↓ruleFr_held, ↓ruleFr_refuse, ↓Cmd_get_rule, ↓Cmd_set_rule, ↓Cmd_stats_rule, ↓Cmd_mirrored_rule, ↓Cmd_fence_rule, ↓Cmd_carry_rule, ↓Cmd_upTo_rule, ↓id_eq, ite_self, implies_true]
  | split
  | refine (foldl_fr _ (fun _ _ => ?_) _ _).trans ?_
  | refine rule_done_fr (s := s) (by assumption) ?_
  | refine rule_change_fr (s := s) (by assumption) ?_

theorem State.setFloor_fr (s : State) (num den : Nat) : ruleFr (State.setFloor s num den) s = s.fr := by
  unfold State.setFloor
  repeat' first
  | with_reducible rfl
  | simp only [↓fr_mk, ↓fr_mk_clock, ↓fr_mk_sec, ↓foldl_fr, ↓ite_fr, ↓State.note_fr, ↓State.planPoint_fr, ↓ruleFr_ite, ↓ruleFr_need, ↓ruleFr_needRange, ↓ruleFr_ok, ↓ruleFr_done, ↓ruleFr_change, ↓ruleFr_held, ↓ruleFr_refuse, ↓id_eq, ite_self, implies_true]
  | split
  | refine (foldl_fr _ (fun _ _ => ?_) _ _).trans ?_
  | refine rule_done_fr (s := s) (by assumption) ?_
  | refine rule_change_fr (s := s) (by assumption) ?_

theorem cmdPowerCapSet_fr (cap window margin : Option Nat) (h : Hdr) (s : State) : ruleFr ((cmdPowerCapSet cap window margin).rule h s) s = s.fr := by
  unfold cmdPowerCapSet
  repeat' first
  | with_reducible rfl
  | simp only [↓fr_mk, ↓fr_mk_clock, ↓fr_mk_sec, ↓foldl_fr, ↓ite_fr, ↓State.draw_fr, ↓State.setCap_fr, ↓ruleFr_ite, ↓ruleFr_need, ↓ruleFr_needRange, ↓ruleFr_param, ↓ruleFr_done, ↓ruleFr_change, ↓ruleFr_held, ↓ruleFr_refuse, ↓State.setFloor_fr, ↓Cmd_get_rule, ↓Cmd_set_rule, ↓Cmd_stats_rule, ↓Cmd_mirrored_rule, ↓Cmd_fence_rule, ↓Cmd_carry_rule, ↓Cmd_upTo_rule, ↓id_eq, ite_self, implies_true]
  | split
  | refine (foldl_fr _ (fun _ _ => ?_) _ _).trans ?_
  | refine rule_done_fr (s := s) (by assumption) ?_
  | refine rule_change_fr (s := s) (by assumption) ?_
  | (rw [ruleFr_base (t := (s.setCap cap window margin).draw) _ (by simp only [↓State.draw_fr, ↓State.setCap_fr])]
     simp only [↓State.setFloor_fr, ↓State.draw_fr, ↓State.setCap_fr])

theorem cmdPowerStatusGet_fr (h : Hdr) (s : State) : ruleFr ((cmdPowerStatusGet).rule h s) s = s.fr := by
  unfold cmdPowerStatusGet
  repeat' first
  | with_reducible rfl
  | simp only [↓fr_mk, ↓fr_mk_clock, ↓fr_mk_sec, ↓foldl_fr, ↓ite_fr, ↓State.draw_fr, ↓State.reply_fr, ↓ruleFr_ite, ↓ruleFr_need, ↓ruleFr_needRange, ↓ruleFr_reply, ↓ruleFr_done, ↓ruleFr_change, ↓ruleFr_held, ↓ruleFr_refuse, ↓Cmd_get_rule, ↓Cmd_set_rule, ↓Cmd_stats_rule, ↓Cmd_mirrored_rule, ↓Cmd_fence_rule, ↓Cmd_carry_rule, ↓Cmd_upTo_rule, ↓id_eq, ite_self, implies_true]
  | split
  | refine (foldl_fr _ (fun _ _ => ?_) _ _).trans ?_
  | refine rule_done_fr (s := s) (by assumption) ?_
  | refine rule_change_fr (s := s) (by assumption) ?_

theorem cmdOpHostSet_fr (op : Nat) (h : Hdr) (s : State) : ruleFr ((cmdOpHostSet op).rule h s) s = s.fr := by
  unfold cmdOpHostSet
  repeat' first
  | with_reducible rfl
  | simp only [↓fr_mk, ↓fr_mk_clock, ↓fr_mk_sec, ↓foldl_fr, ↓ite_fr, ↓ruleFr_ite, ↓ruleFr_need, ↓ruleFr_needRange, ↓ruleFr_at, ↓ruleFr_param, ↓ruleFr_done, ↓ruleFr_change, ↓ruleFr_held, ↓ruleFr_refuse, ↓Cmd_get_rule, ↓Cmd_set_rule, ↓Cmd_stats_rule, ↓Cmd_mirrored_rule, ↓Cmd_fence_rule, ↓Cmd_carry_rule, ↓Cmd_upTo_rule, ↓id_eq, ite_self, implies_true]
  | split
  | refine (foldl_fr _ (fun _ _ => ?_) _ _).trans ?_
  | refine rule_done_fr (s := s) (by assumption) ?_
  | refine rule_change_fr (s := s) (by assumption) ?_

theorem cmdThermalSet_fr (en : Nat) (h : Hdr) (s : State) : ruleFr ((cmdThermalSet en).rule h s) s = s.fr := by
  unfold cmdThermalSet
  repeat' first
  | with_reducible rfl
  | simp only [↓fr_mk, ↓fr_mk_clock, ↓fr_mk_sec, ↓foldl_fr, ↓ite_fr, ↓ruleFr_ite, ↓ruleFr_need, ↓ruleFr_needRange, ↓ruleFr_ok, ↓ruleFr_param, ↓ruleFr_done, ↓ruleFr_change, ↓ruleFr_held, ↓ruleFr_refuse, ↓Cmd_get_rule, ↓Cmd_set_rule, ↓Cmd_stats_rule, ↓Cmd_mirrored_rule, ↓Cmd_fence_rule, ↓Cmd_carry_rule, ↓Cmd_upTo_rule, ↓id_eq, ite_self, implies_true]
  | split
  | refine (foldl_fr _ (fun _ _ => ?_) _ _).trans ?_
  | refine rule_done_fr (s := s) (by assumption) ?_
  | refine rule_change_fr (s := s) (by assumption) ?_

theorem cmdComparatorSet_fr (cmp : Nat) (f : CmpFields) (h : Hdr) (s : State) : ruleFr ((cmdComparatorSet cmp f).rule h s) s = s.fr := by
  unfold cmdComparatorSet
  repeat' first
  | with_reducible rfl
  | simp only [↓fr_mk, ↓fr_mk_clock, ↓fr_mk_sec, ↓foldl_fr, ↓ite_fr, ↓State.modCmp_fr, ↓ruleFr_ite, ↓ruleFr_need, ↓ruleFr_needRange, ↓ruleFr_ok, ↓ruleFr_access, ↓ruleFr_param, ↓ruleFr_done, ↓ruleFr_change, ↓ruleFr_held, ↓ruleFr_refuse, ↓Cmd_get_rule, ↓Cmd_set_rule, ↓Cmd_stats_rule, ↓Cmd_mirrored_rule, ↓Cmd_fence_rule, ↓Cmd_carry_rule, ↓Cmd_upTo_rule, ↓id_eq, ite_self, implies_true]
  | split
  | refine (foldl_fr _ (fun _ _ => ?_) _ _).trans ?_
  | refine rule_done_fr (s := s) (by assumption) ?_
  | refine rule_change_fr (s := s) (by assumption) ?_

theorem cmdComparatorGet_fr (cmp : Nat) (h : Hdr) (s : State) : ruleFr ((cmdComparatorGet cmp).rule h s) s = s.fr := by
  unfold cmdComparatorGet
  repeat' first
  | with_reducible rfl
  | simp only [↓fr_mk, ↓fr_mk_clock, ↓fr_mk_sec, ↓foldl_fr, ↓ite_fr, ↓State.draw_fr, ↓State.reply_fr, ↓ruleFr_ite, ↓ruleFr_need, ↓ruleFr_needRange, ↓ruleFr_reply, ↓ruleFr_access, ↓ruleFr_done, ↓ruleFr_change, ↓ruleFr_held, ↓ruleFr_refuse, ↓Cmd_get_rule, ↓Cmd_set_rule, ↓Cmd_stats_rule, ↓Cmd_mirrored_rule, ↓Cmd_fence_rule, ↓Cmd_carry_rule, ↓Cmd_upTo_rule, ↓id_eq, ite_self, implies_true]
  | split
  | refine (foldl_fr _ (fun _ _ => ?_) _ _).trans ?_
  | refine rule_done_fr (s := s) (by assumption) ?_
  | refine rule_change_fr (s := s) (by assumption) ?_

theorem cmdDormantEnter_fr (wakeNEn : Bool) (h : Hdr) (s : State) : ruleFr ((cmdDormantEnter wakeNEn).rule h s) s = s.fr := by
  unfold cmdDormantEnter
  repeat' first
  | with_reducible rfl
  | simp only [↓fr_mk, ↓fr_mk_clock, ↓fr_mk_sec, ↓foldl_fr, ↓ite_fr, ↓ruleFr_ite, ↓ruleFr_need, ↓ruleFr_needRange, ↓ruleFr_at, ↓ruleFr_param, ↓ruleFr_conflict, ↓ruleFr_done, ↓ruleFr_change, ↓ruleFr_held, ↓ruleFr_refuse, ↓Cmd_get_rule, ↓Cmd_set_rule, ↓Cmd_stats_rule, ↓Cmd_mirrored_rule, ↓Cmd_fence_rule, ↓Cmd_carry_rule, ↓Cmd_upTo_rule, ↓id_eq, ite_self, implies_true]
  | split
  | refine (foldl_fr _ (fun _ _ => ?_) _ _).trans ?_
  | refine rule_done_fr (s := s) (by assumption) ?_
  | refine rule_change_fr (s := s) (by assumption) ?_

theorem cmdDeviceWake_fr (west : Bool) (h : Hdr) (s : State) : ruleFr ((cmdDeviceWake west).rule h s) s = s.fr := by
  unfold cmdDeviceWake
  repeat' first
  | with_reducible rfl
  | simp only [↓fr_mk, ↓fr_mk_clock, ↓fr_mk_sec, ↓foldl_fr, ↓ite_fr, ↓ruleFr_ite, ↓ruleFr_need, ↓ruleFr_needRange, ↓ruleFr_ok, ↓ruleFr_conflict, ↓ruleFr_done, ↓ruleFr_change, ↓ruleFr_held, ↓ruleFr_refuse, ↓Cmd_get_rule, ↓Cmd_set_rule, ↓Cmd_stats_rule, ↓Cmd_mirrored_rule, ↓Cmd_fence_rule, ↓Cmd_carry_rule, ↓Cmd_upTo_rule, ↓id_eq, ite_self, implies_true]
  | split
  | refine (foldl_fr _ (fun _ _ => ?_) _ _).trans ?_
  | refine rule_done_fr (s := s) (by assumption) ?_
  | refine rule_change_fr (s := s) (by assumption) ?_

theorem cmdPowerCompatSet_fr (freqs : Option (List Nat)) (h : Hdr) (s : State) : ruleFr ((cmdPowerCompatSet freqs).rule h s) s = s.fr := by
  unfold cmdPowerCompatSet
  repeat' first
  | with_reducible rfl
  | simp only [↓fr_mk, ↓fr_mk_clock, ↓fr_mk_sec, ↓foldl_fr, ↓ite_fr, ↓ruleFr_ite, ↓ruleFr_need, ↓ruleFr_needRange, ↓ruleFr_at, ↓ruleFr_access, ↓ruleFr_param, ↓ruleFr_conflict, ↓ruleFr_done, ↓ruleFr_change, ↓ruleFr_held, ↓ruleFr_refuse, ↓Cmd_get_rule, ↓Cmd_set_rule, ↓Cmd_stats_rule, ↓Cmd_mirrored_rule, ↓Cmd_fence_rule, ↓Cmd_carry_rule, ↓Cmd_upTo_rule, ↓id_eq, ite_self, implies_true]
  | split
  | refine (foldl_fr _ (fun _ _ => ?_) _ _).trans ?_
  | refine rule_done_fr (s := s) (by assumption) ?_
  | refine rule_change_fr (s := s) (by assumption) ?_

theorem cmdCastTableGet_fr (h : Hdr) (s : State) : ruleFr ((cmdCastTableGet).rule h s) s = s.fr := by
  unfold cmdCastTableGet
  repeat' first
  | with_reducible rfl
  | simp only [↓fr_mk, ↓fr_mk_clock, ↓fr_mk_sec, ↓foldl_fr, ↓ite_fr, ↓State.reply_fr, ↓ruleFr_ite, ↓ruleFr_need, ↓ruleFr_needRange, ↓ruleFr_reply, ↓ruleFr_done, ↓ruleFr_change, ↓ruleFr_held, ↓ruleFr_refuse, ↓Cmd_get_rule, ↓Cmd_set_rule, ↓Cmd_stats_rule, ↓Cmd_mirrored_rule, ↓Cmd_fence_rule, ↓Cmd_carry_rule, ↓Cmd_upTo_rule, ↓id_eq, ite_self, implies_true]
  | split
  | refine (foldl_fr _ (fun _ _ => ?_) _ _).trans ?_
  | refine rule_done_fr (s := s) (by assumption) ?_
  | refine rule_change_fr (s := s) (by assumption) ?_

theorem cmdTwinBind_fr (role peer : Nat) (peerId : BitVec 384) (h : Hdr) (s : State) : ruleFr ((cmdTwinBind role peer peerId).rule h s) s = s.fr := by
  unfold cmdTwinBind
  repeat' first
  | with_reducible rfl
  | simp only [↓fr_mk, ↓fr_mk_clock, ↓fr_mk_sec, ↓foldl_fr, ↓ite_fr, ↓ruleFr_ite, ↓ruleFr_need, ↓ruleFr_needRange, ↓ruleFr_ok, ↓ruleFr_access, ↓ruleFr_param, ↓ruleFr_conflict, ↓ruleFr_done, ↓ruleFr_change, ↓ruleFr_held, ↓ruleFr_refuse, ↓Cmd_get_rule, ↓Cmd_set_rule, ↓Cmd_stats_rule, ↓Cmd_mirrored_rule, ↓Cmd_fence_rule, ↓Cmd_carry_rule, ↓Cmd_upTo_rule, ↓id_eq, ite_self, implies_true]
  | split
  | refine (foldl_fr _ (fun _ _ => ?_) _ _).trans ?_
  | refine rule_done_fr (s := s) (by assumption) ?_
  | refine rule_change_fr (s := s) (by assumption) ?_

theorem cmdTwinUnbind_fr (h : Hdr) (s : State) : ruleFr ((cmdTwinUnbind).rule h s) s = s.fr := by
  unfold cmdTwinUnbind
  repeat' first
  | with_reducible rfl
  | simp only [↓fr_mk, ↓fr_mk_clock, ↓fr_mk_sec, ↓foldl_fr, ↓ite_fr, ↓ruleFr_ite, ↓ruleFr_need, ↓ruleFr_needRange, ↓ruleFr_ok, ↓ruleFr_conflict, ↓ruleFr_done, ↓ruleFr_change, ↓ruleFr_held, ↓ruleFr_refuse, ↓Cmd_get_rule, ↓Cmd_set_rule, ↓Cmd_stats_rule, ↓Cmd_mirrored_rule, ↓Cmd_fence_rule, ↓Cmd_carry_rule, ↓Cmd_upTo_rule, ↓id_eq, ite_self, implies_true]
  | split
  | refine (foldl_fr _ (fun _ _ => ?_) _ _).trans ?_
  | refine rule_done_fr (s := s) (by assumption) ?_
  | refine rule_change_fr (s := s) (by assumption) ?_

theorem cmdTwinJoin_fr (h : Hdr) (s : State) : ruleFr ((cmdTwinJoin).rule h s) s = s.fr := by
  unfold cmdTwinJoin
  repeat' first
  | with_reducible rfl
  | simp only [↓fr_mk, ↓fr_mk_clock, ↓fr_mk_sec, ↓foldl_fr, ↓ite_fr, ↓State.sendHello_fr, ↓ruleFr_ite, ↓ruleFr_need, ↓ruleFr_needRange, ↓ruleFr_conflict, ↓ruleFr_done, ↓ruleFr_change, ↓ruleFr_held, ↓ruleFr_refuse, ↓Cmd_get_rule, ↓Cmd_set_rule, ↓Cmd_stats_rule, ↓Cmd_mirrored_rule, ↓Cmd_fence_rule, ↓Cmd_carry_rule, ↓Cmd_upTo_rule, ↓id_eq, ite_self, implies_true]
  | split
  | refine (foldl_fr _ (fun _ _ => ?_) _ _).trans ?_
  | refine rule_done_fr (s := s) (by assumption) ?_
  | refine rule_change_fr (s := s) (by assumption) ?_

theorem cmdTwinDetach_fr (h : Hdr) (s : State) : ruleFr ((cmdTwinDetach).rule h s) s = s.fr := by
  unfold cmdTwinDetach
  repeat' first
  | with_reducible rfl
  | simp only [↓fr_mk, ↓fr_mk_clock, ↓fr_mk_sec, ↓foldl_fr, ↓ite_fr, ↓ruleFr_ite, ↓ruleFr_need, ↓ruleFr_needRange, ↓ruleFr_at, ↓ruleFr_conflict, ↓ruleFr_done, ↓ruleFr_change, ↓ruleFr_held, ↓ruleFr_refuse, ↓Cmd_get_rule, ↓Cmd_set_rule, ↓Cmd_stats_rule, ↓Cmd_mirrored_rule, ↓Cmd_fence_rule, ↓Cmd_carry_rule, ↓Cmd_upTo_rule, ↓id_eq, ite_self, implies_true]
  | split
  | refine (foldl_fr _ (fun _ _ => ?_) _ _).trans ?_
  | refine rule_done_fr (s := s) (by assumption) ?_
  | refine rule_change_fr (s := s) (by assumption) ?_

theorem cmdTwinRoleSwap_fr (h : Hdr) (s : State) : ruleFr ((cmdTwinRoleSwap).rule h s) s = s.fr := by
  unfold cmdTwinRoleSwap
  repeat' first
  | with_reducible rfl
  | simp only [↓fr_mk, ↓fr_mk_clock, ↓fr_mk_sec, ↓foldl_fr, ↓ite_fr, ↓ruleFr_ite, ↓ruleFr_need, ↓ruleFr_needRange, ↓ruleFr_at, ↓ruleFr_conflict, ↓ruleFr_done, ↓ruleFr_change, ↓ruleFr_held, ↓ruleFr_refuse, ↓Cmd_get_rule, ↓Cmd_set_rule, ↓Cmd_stats_rule, ↓Cmd_mirrored_rule, ↓Cmd_fence_rule, ↓Cmd_carry_rule, ↓Cmd_upTo_rule, ↓id_eq, ite_self, implies_true]
  | split
  | refine (foldl_fr _ (fun _ _ => ?_) _ _).trans ?_
  | refine rule_done_fr (s := s) (by assumption) ?_
  | refine rule_change_fr (s := s) (by assumption) ?_

theorem cmdTwinDrain_fr (on : Bool) (h : Hdr) (s : State) : ruleFr ((cmdTwinDrain on).rule h s) s = s.fr := by
  unfold cmdTwinDrain
  repeat' first
  | with_reducible rfl
  | simp only [↓fr_mk, ↓fr_mk_clock, ↓fr_mk_sec, ↓foldl_fr, ↓ite_fr, ↓ruleFr_ite, ↓ruleFr_need, ↓ruleFr_needRange, ↓ruleFr_at, ↓ruleFr_conflict, ↓ruleFr_done, ↓ruleFr_change, ↓ruleFr_held, ↓ruleFr_refuse, ↓Cmd_get_rule, ↓Cmd_set_rule, ↓Cmd_stats_rule, ↓Cmd_mirrored_rule, ↓Cmd_fence_rule, ↓Cmd_carry_rule, ↓Cmd_upTo_rule, ↓id_eq, ite_self, implies_true]
  | split
  | refine (foldl_fr _ (fun _ _ => ?_) _ _).trans ?_
  | refine rule_done_fr (s := s) (by assumption) ?_
  | refine rule_change_fr (s := s) (by assumption) ?_

theorem cmdTwinNotifySet_fr (r : NotifyRec) (fields : BitVec 8) (h : Hdr) (s : State) : ruleFr ((cmdTwinNotifySet r fields).rule h s) s = s.fr := by
  unfold cmdTwinNotifySet
  repeat' first
  | with_reducible rfl
  | simp only [↓fr_mk, ↓fr_mk_clock, ↓fr_mk_sec, ↓foldl_fr, ↓ite_fr, ↓ruleFr_ite, ↓ruleFr_need, ↓ruleFr_needRange, ↓ruleFr_ok, ↓ruleFr_access, ↓ruleFr_param, ↓ruleFr_done, ↓ruleFr_change, ↓ruleFr_held, ↓ruleFr_refuse, ↓Cmd_get_rule, ↓Cmd_set_rule, ↓Cmd_stats_rule, ↓Cmd_mirrored_rule, ↓Cmd_fence_rule, ↓Cmd_carry_rule, ↓Cmd_upTo_rule, ↓id_eq, ite_self, implies_true]
  | split
  | refine (foldl_fr _ (fun _ _ => ?_) _ _).trans ?_
  | refine rule_done_fr (s := s) (by assumption) ?_
  | refine rule_change_fr (s := s) (by assumption) ?_

theorem cmdTwinStatusGet_fr (h : Hdr) (s : State) : ruleFr ((cmdTwinStatusGet).rule h s) s = s.fr := by
  unfold cmdTwinStatusGet
  repeat' first
  | with_reducible rfl
  | simp only [↓fr_mk, ↓fr_mk_clock, ↓fr_mk_sec, ↓foldl_fr, ↓ite_fr, ↓State.reply_fr, ↓ruleFr_ite, ↓ruleFr_need, ↓ruleFr_needRange, ↓ruleFr_reply, ↓ruleFr_done, ↓ruleFr_change, ↓ruleFr_held, ↓ruleFr_refuse, ↓Cmd_get_rule, ↓Cmd_set_rule, ↓Cmd_stats_rule, ↓Cmd_mirrored_rule, ↓Cmd_fence_rule, ↓Cmd_carry_rule, ↓Cmd_upTo_rule, ↓id_eq, ite_self, implies_true]
  | split
  | refine (foldl_fr _ (fun _ _ => ?_) _ _).trans ?_
  | refine rule_done_fr (s := s) (by assumption) ?_
  | refine rule_change_fr (s := s) (by assumption) ?_

theorem cmdTwinStatsGet_fr (clear : Bool) (h : Hdr) (s : State) : ruleFr ((cmdTwinStatsGet clear).rule h s) s = s.fr := by
  unfold cmdTwinStatsGet
  repeat' first
  | with_reducible rfl
  | simp only [↓fr_mk, ↓fr_mk_clock, ↓fr_mk_sec, ↓foldl_fr, ↓ite_fr, ↓ruleFr_ite, ↓ruleFr_need, ↓ruleFr_needRange, ↓ruleFr_done, ↓ruleFr_change, ↓ruleFr_held, ↓ruleFr_refuse, ↓statsRule_fr, ↓Cmd_get_rule, ↓Cmd_set_rule, ↓Cmd_stats_rule, ↓Cmd_mirrored_rule, ↓Cmd_fence_rule, ↓Cmd_carry_rule, ↓Cmd_upTo_rule, ↓id_eq, ite_self, implies_true]
  | split
  | refine (foldl_fr _ (fun _ _ => ?_) _ _).trans ?_
  | refine rule_done_fr (s := s) (by assumption) ?_
  | refine rule_change_fr (s := s) (by assumption) ?_

theorem cmdRingStatusGet_fr (h : Hdr) (s : State) : ruleFr ((cmdRingStatusGet).rule h s) s = s.fr := by
  unfold cmdRingStatusGet
  repeat' first
  | with_reducible rfl
  | simp only [↓fr_mk, ↓fr_mk_clock, ↓fr_mk_sec, ↓foldl_fr, ↓ite_fr, ↓ite_fst, ↓fold_fst_fr, ↓State.reply_fr, ↓ruleFr_ite, ↓ruleFr_need, ↓ruleFr_needRange, ↓ruleFr_reply, ↓ruleFr_done, ↓ruleFr_change, ↓ruleFr_held, ↓ruleFr_refuse, ↓Cmd_get_rule, ↓Cmd_set_rule, ↓Cmd_stats_rule, ↓Cmd_mirrored_rule, ↓Cmd_fence_rule, ↓Cmd_carry_rule, ↓Cmd_upTo_rule, ↓id_eq, ite_self, implies_true]
  | split
  | refine (foldl_fr _ (fun _ _ => ?_) _ _).trans ?_
  | refine rule_done_fr (s := s) (by assumption) ?_
  | refine rule_change_fr (s := s) (by assumption) ?_

theorem cmdRingEnumerate_fr (h : Hdr) (s : State) : ruleFr ((cmdRingEnumerate).rule h s) s = s.fr := by
  unfold cmdRingEnumerate
  repeat' first
  | with_reducible rfl
  | simp only [↓fr_mk, ↓fr_mk_clock, ↓fr_mk_sec, ↓foldl_fr, ↓ite_fr, ↓State.enumerate_fr, ↓ruleFr_ite, ↓ruleFr_need, ↓ruleFr_needRange, ↓ruleFr_conflict, ↓ruleFr_done, ↓ruleFr_change, ↓ruleFr_held, ↓ruleFr_refuse, ↓Cmd_get_rule, ↓Cmd_set_rule, ↓Cmd_stats_rule, ↓Cmd_mirrored_rule, ↓Cmd_fence_rule, ↓Cmd_carry_rule, ↓Cmd_upTo_rule, ↓id_eq, ite_self, implies_true]
  | split
  | refine (foldl_fr _ (fun _ _ => ?_) _ _).trans ?_
  | refine rule_done_fr (s := s) (by assumption) ?_
  | refine rule_change_fr (s := s) (by assumption) ?_

theorem State.takeReport_fr (s : State) (h : Hdr) (nonce : BitVec 384) (top : Nat) : ruleFr (State.takeReport s h nonce top) s = s.fr := by
  unfold State.takeReport
  repeat' first
  | with_reducible rfl
  | simp only [↓fr_mk, ↓fr_mk_clock, ↓fr_mk_sec, ↓foldl_fr, ↓ite_fr, ↓ruleFr_ite, ↓ruleFr_need, ↓ruleFr_needRange, ↓ruleFr_done, ↓ruleFr_change, ↓ruleFr_held, ↓ruleFr_refuse, ↓id_eq, ite_self, implies_true]
  | split
  | refine (foldl_fr _ (fun _ _ => ?_) _ _).trans ?_
  | refine rule_done_fr (s := s) (by assumption) ?_
  | refine rule_change_fr (s := s) (by assumption) ?_

theorem cmdBootStatusGet_fr (h : Hdr) (s : State) : ruleFr ((cmdBootStatusGet).rule h s) s = s.fr := by
  unfold cmdBootStatusGet
  repeat' first
  | with_reducible rfl
  | simp only [↓fr_mk, ↓fr_mk_clock, ↓fr_mk_sec, ↓foldl_fr, ↓ite_fr, ↓ruleFr_ite, ↓ruleFr_need, ↓ruleFr_needRange, ↓ruleFr_val, ↓ruleFr_done, ↓ruleFr_change, ↓ruleFr_held, ↓ruleFr_refuse, ↓Cmd_get_rule, ↓Cmd_set_rule, ↓Cmd_stats_rule, ↓Cmd_mirrored_rule, ↓Cmd_fence_rule, ↓Cmd_carry_rule, ↓Cmd_upTo_rule, ↓id_eq, ite_self, implies_true]
  | split
  | refine (foldl_fr _ (fun _ _ => ?_) _ _).trans ?_
  | refine rule_done_fr (s := s) (by assumption) ?_
  | refine rule_change_fr (s := s) (by assumption) ?_

theorem cmdFwPush_fr (offset : Nat) (chunk : List Byte) (h : Hdr) (s : State) : ruleFr ((cmdFwPush offset chunk).rule h s) s = s.fr := by
  unfold cmdFwPush
  repeat' first
  | with_reducible rfl
  | simp only [↓fr_mk, ↓fr_mk_clock, ↓fr_mk_sec, ↓foldl_fr, ↓ite_fr, ↓ruleFr_ite, ↓ruleFr_need, ↓ruleFr_needRange, ↓ruleFr_ok, ↓ruleFr_access, ↓ruleFr_conflict, ↓ruleFr_done, ↓ruleFr_change, ↓ruleFr_held, ↓ruleFr_refuse, ↓ruleFr_param, ↓ruleFr_missing, ↓ruleFr_auth, ↓ruleFr_lockedR, ↓ruleFr_busy, ↓chunkRange, ↓Cmd_get_rule, ↓Cmd_set_rule, ↓Cmd_stats_rule, ↓Cmd_mirrored_rule, ↓Cmd_fence_rule, ↓Cmd_carry_rule, ↓Cmd_upTo_rule, ↓id_eq, ite_self, implies_true]
  | split
  | refine (foldl_fr _ (fun _ _ => ?_) _ _).trans ?_
  | refine rule_done_fr (s := s) (by assumption) ?_
  | refine rule_change_fr (s := s) (by assumption) ?_

theorem cmdFwPushDone_fr (total : Nat) (h : Hdr) (s : State) : ruleFr ((cmdFwPushDone total).rule h s) s = s.fr := by
  unfold cmdFwPushDone
  repeat' first
  | with_reducible rfl
  | simp only [↓fr_mk, ↓fr_mk_clock, ↓fr_mk_sec, ↓foldl_fr, ↓ite_fr, ↓ruleFr_ite, ↓ruleFr_need, ↓ruleFr_needRange, ↓ruleFr_val, ↓ruleFr_conflict, ↓ruleFr_done, ↓ruleFr_change, ↓ruleFr_held, ↓ruleFr_refuse, ↓Cmd_get_rule, ↓Cmd_set_rule, ↓Cmd_stats_rule, ↓Cmd_mirrored_rule, ↓Cmd_fence_rule, ↓Cmd_carry_rule, ↓Cmd_upTo_rule, ↓id_eq, ite_self, implies_true]
  | split
  | refine (foldl_fr _ (fun _ _ => ?_) _ _).trans ?_
  | refine rule_done_fr (s := s) (by assumption) ?_
  | refine rule_change_fr (s := s) (by assumption) ?_

theorem cmdFwFlashWrite_fr (offset : Nat) (chunk : List Byte) (h : Hdr) (s : State) : ruleFr ((cmdFwFlashWrite offset chunk).rule h s) s = s.fr := by
  unfold cmdFwFlashWrite
  repeat' first
  | with_reducible rfl
  | simp only [↓fr_mk, ↓fr_mk_clock, ↓fr_mk_sec, ↓foldl_fr, ↓ite_fr, ↓ruleFr_ite, ↓ruleFr_need, ↓ruleFr_needRange, ↓ruleFr_ok, ↓ruleFr_access, ↓ruleFr_done, ↓ruleFr_change, ↓ruleFr_held, ↓ruleFr_refuse, ↓ruleFr_param, ↓ruleFr_missing, ↓ruleFr_conflict, ↓ruleFr_auth, ↓ruleFr_lockedR, ↓ruleFr_busy, ↓chunkRange, ↓Cmd_get_rule, ↓Cmd_set_rule, ↓Cmd_stats_rule, ↓Cmd_mirrored_rule, ↓Cmd_fence_rule, ↓Cmd_carry_rule, ↓Cmd_upTo_rule, ↓id_eq, ite_self, implies_true]
  | split
  | refine (foldl_fr _ (fun _ _ => ?_) _ _).trans ?_
  | refine rule_done_fr (s := s) (by assumption) ?_
  | refine rule_change_fr (s := s) (by assumption) ?_

theorem cmdFwFlashCommit_fr (total : Nat) (h : Hdr) (s : State) : ruleFr ((cmdFwFlashCommit total).rule h s) s = s.fr := by
  unfold cmdFwFlashCommit
  repeat' first
  | with_reducible rfl
  | simp only [↓fr_mk, ↓fr_mk_clock, ↓fr_mk_sec, ↓foldl_fr, ↓ite_fr, ↓State.note_fr, ↓ruleFr_ite, ↓ruleFr_need, ↓ruleFr_needRange, ↓ruleFr_done, ↓ruleFr_change, ↓ruleFr_held, ↓ruleFr_refuse, ↓ruleFr_access, ↓ruleFr_param, ↓ruleFr_missing, ↓ruleFr_conflict, ↓ruleFr_auth, ↓ruleFr_lockedR, ↓ruleFr_busy, ↓ImageCheck.refuse, ↓Cmd_get_rule, ↓Cmd_set_rule, ↓Cmd_stats_rule, ↓Cmd_mirrored_rule, ↓Cmd_fence_rule, ↓Cmd_carry_rule, ↓Cmd_upTo_rule, ↓id_eq, ite_self, implies_true]
  | split
  | refine (foldl_fr _ (fun _ _ => ?_) _ _).trans ?_
  | refine rule_done_fr (s := s) (by assumption) ?_
  | refine rule_change_fr (s := s) (by assumption) ?_

theorem cmdFwRestart_fr (h : Hdr) (s : State) : ruleFr ((cmdFwRestart).rule h s) s = s.fr := by
  unfold cmdFwRestart
  repeat' first
  | with_reducible rfl
  | simp only [↓fr_mk, ↓fr_mk_clock, ↓fr_mk_sec, ↓foldl_fr, ↓ite_fr, ↓ruleFr_ite, ↓ruleFr_need, ↓ruleFr_needRange, ↓ruleFr_ok, ↓ruleFr_conflict, ↓ruleFr_done, ↓ruleFr_change, ↓ruleFr_held, ↓ruleFr_refuse, ↓Cmd_get_rule, ↓Cmd_set_rule, ↓Cmd_stats_rule, ↓Cmd_mirrored_rule, ↓Cmd_fence_rule, ↓Cmd_carry_rule, ↓Cmd_upTo_rule, ↓id_eq, ite_self, implies_true]
  | split
  | refine (foldl_fr _ (fun _ _ => ?_) _ _).trans ?_
  | refine rule_done_fr (s := s) (by assumption) ?_
  | refine rule_change_fr (s := s) (by assumption) ?_

theorem cmdSvnAdvance_keeps (v : Nat) : (cmdSvnAdvance v).Keeps := by
  intro h s
  show Rule.Keeps s (Rule.need _ _ _)
  unfold Rule.need
  split
  · next c =>
    simp only [Bool.and_eq_true, decide_eq_true_eq] at c
    split
    · exact State.Keeps.refl s
    · split
      · refine State.Keeps.after (t := { s with sec.svn := v }) ?_ (State.note_fr ..)
        exact ⟨rfl, c.1, BitVec.and_self, Nat.le_refl _, id⟩
      · trivial
  · trivial

theorem cmdKeyRevoke_keeps (lms : Bool) (slot : Nat) : (cmdKeyRevoke lms slot).Keeps := by
  intro h s
  refine Rule.Keeps.need trivial (Rule.Keeps.need trivial ?_)
  refine ⟨rfl, Nat.le_refl _, ?_, Nat.le_refl _, id⟩
  show s.sec.revoked &&& (s.sec.revoked ||| _) = s.sec.revoked
  ext i
  simp
  tauto

theorem cmdIdentityCertGet_fr (h : Hdr) (s : State) : ruleFr ((cmdIdentityCertGet).rule h s) s = s.fr := by
  unfold cmdIdentityCertGet
  repeat' first
  | with_reducible rfl
  | simp only [↓fr_mk, ↓fr_mk_clock, ↓fr_mk_sec, ↓foldl_fr, ↓ite_fr, ↓State.reply_fr, ↓ruleFr_ite, ↓ruleFr_need, ↓ruleFr_needRange, ↓ruleFr_reply, ↓ruleFr_done, ↓ruleFr_change, ↓ruleFr_held, ↓ruleFr_refuse, ↓Cmd_get_rule, ↓Cmd_set_rule, ↓Cmd_stats_rule, ↓Cmd_mirrored_rule, ↓Cmd_fence_rule, ↓Cmd_carry_rule, ↓Cmd_upTo_rule, ↓id_eq, ite_self, implies_true]
  | split
  | refine (foldl_fr _ (fun _ _ => ?_) _ _).trans ?_
  | refine rule_done_fr (s := s) (by assumption) ?_
  | refine rule_change_fr (s := s) (by assumption) ?_

theorem cmdMeasurementGet_fr (h : Hdr) (s : State) : ruleFr ((cmdMeasurementGet).rule h s) s = s.fr := by
  unfold cmdMeasurementGet
  repeat' first
  | with_reducible rfl
  | simp only [↓fr_mk, ↓fr_mk_clock, ↓fr_mk_sec, ↓foldl_fr, ↓ite_fr, ↓State.reply_fr, ↓ruleFr_ite, ↓ruleFr_need, ↓ruleFr_needRange, ↓ruleFr_reply, ↓ruleFr_done, ↓ruleFr_change, ↓ruleFr_held, ↓ruleFr_refuse, ↓Cmd_get_rule, ↓Cmd_set_rule, ↓Cmd_stats_rule, ↓Cmd_mirrored_rule, ↓Cmd_fence_rule, ↓Cmd_carry_rule, ↓Cmd_upTo_rule, ↓id_eq, ite_self, implies_true]
  | split
  | refine (foldl_fr _ (fun _ _ => ?_) _ _).trans ?_
  | refine rule_done_fr (s := s) (by assumption) ?_
  | refine rule_change_fr (s := s) (by assumption) ?_

theorem cmdAttestReportGet_keeps (nonce : BitVec 384) : (cmdAttestReportGet nonce).Keeps := by
  intro h s
  unfold cmdAttestReportGet
  rw [Cmd_upTo_rule, Cmd_get_rule]
  split
  · trivial
  · split
    · exact State.Keeps.before (State.burnLeaf_keeps _ _) (State.draw_fr _)
    · refine Rule.Keeps.ofFr ?_
      split
      · simp only [↓ruleFr_need, ↓State.takeReport_fr, ↓ruleFr_busy, ite_self]
      · rfl

theorem cmdArmPatchLoad_fr (image : List Byte) (h : Hdr) (s : State) : ruleFr ((cmdArmPatchLoad image).rule h s) s = s.fr := by
  unfold cmdArmPatchLoad
  repeat' first
  | with_reducible rfl
  | simp only [↓fr_mk, ↓fr_mk_clock, ↓fr_mk_sec, ↓foldl_fr, ↓ite_fr, ↓ruleFr_ite, ↓ruleFr_need, ↓ruleFr_needRange, ↓ruleFr_val, ↓ruleFr_busy, ↓ruleFr_done, ↓ruleFr_change, ↓ruleFr_held, ↓ruleFr_refuse, ↓ruleFr_access, ↓ruleFr_param, ↓ruleFr_missing, ↓ruleFr_conflict, ↓ruleFr_auth, ↓ruleFr_lockedR, ↓ImageCheck.refuse, ↓Cmd_get_rule, ↓Cmd_set_rule, ↓Cmd_stats_rule, ↓Cmd_mirrored_rule, ↓Cmd_fence_rule, ↓Cmd_carry_rule, ↓Cmd_upTo_rule, ↓id_eq, ite_self, implies_true]
  | split
  | refine (foldl_fr _ (fun _ _ => ?_) _ _).trans ?_
  | refine rule_done_fr (s := s) (by assumption) ?_
  | refine rule_change_fr (s := s) (by assumption) ?_

end Sys2Proof.Machine
end

