-- ==== Sys2Proof/Laws/FrameServe.lean ====
section
/-! SUPPORT. What the command unit, groups, the twin and the clock keep. -/

namespace Sys2Proof.Machine
theorem State.fetch_fr (s : State) (h : Hdr) (op : Nat) : (State.fetch s h op).fr = s.fr := by
  unfold State.fetch
  repeat' first
  | with_reducible rfl
  | simp only [↓fr_mk, ↓fr_mk_clock, ↓fr_mk_sec, ↓foldl_fr, ↓ite_fr, ↓State.putTakenAt_fr, ↓State.advanceRing_fr, ite_self, implies_true]
  | split
  | refine (foldl_fr _ (fun _ _ => ?_) _ _).trans ?_
  | refine (fold_fst_fr _ (fun _ _ => ?_) _ _).trans ?_
  | refine pair_fr (by assumption) ?_
  | exact rfl

theorem State.uncarry_fr (s : State) (o : Origin) (op : Nat) : (State.uncarry s o op).fr = s.fr := by
  unfold State.uncarry
  repeat' first
  | with_reducible rfl
  | simp only [↓fr_mk, ↓fr_mk_clock, ↓fr_mk_sec, ↓foldl_fr, ↓ite_fr, ↓ite_fst, ↓fold_fst_fr, ite_self, implies_true]
  | split
  | refine (foldl_fr _ (fun _ _ => ?_) _ _).trans ?_
  | refine (fold_fst_fr _ (fun _ _ => ?_) _ _).trans ?_
  | refine pair_fr (by assumption) ?_
  | exact rfl

theorem State.takeChosen_fr (s : State) (op : Nat) (v : Option Nat) : (State.takeChosen s op v).fr = s.fr := by
  unfold State.takeChosen
  repeat' first
  | with_reducible rfl
  | simp only [↓fr_mk, ↓fr_mk_clock, ↓fr_mk_sec, ↓foldl_fr, ↓ite_fr, ite_self, implies_true]
  | split
  | refine (foldl_fr _ (fun _ _ => ?_) _ _).trans ?_
  | refine (fold_fst_fr _ (fun _ _ => ?_) _ _).trans ?_
  | refine pair_fr (by assumption) ?_
  | exact rfl

theorem State.onAccept_fr (s : State) (e : Nat) (c : Change) : (State.onAccept s e c).fr = s.fr := by
  cases c with
  | version v => exact State.closeMaquette_fr ..
  | roleSwap => rfl
  | _ => rfl

theorem State.takeChanges_fr (s : State) (e : Nat) (objs : List (Nat × Nat)) (l : List Change) : (State.takeChanges s e objs l).1.fr = s.fr := by
  unfold State.takeChanges
  repeat' first
  | with_reducible rfl
  | simp only [↓fr_mk, ↓fr_mk_clock, ↓fr_mk_sec, ↓foldl_fr, ↓ite_fr, ↓ite_fst, ↓fold_fst_fr, ↓State.dueAll_fr, ↓State.onAccept_fr, ite_self, implies_true]
  | split
  | refine (foldl_fr _ (fun _ _ => ?_) _ _).trans ?_
  | refine (fold_fst_fr _ (fun _ _ => ?_) _ _).trans ?_
  | refine pair_fr (by assumption) ?_
  | exact rfl

theorem State.dataRead_fr (s : State) (st : Nat) : (State.dataRead s st).fr = s.fr := by
  unfold State.dataRead
  simp only [↓fr_mk, ↓ite_fr, ite_self]

theorem State.notePart_fr (s : State) (h : Hdr) (op status : Nat) : (State.notePart s h op status).fr = s.fr := by
  unfold State.notePart
  repeat' first
  | with_reducible rfl
  | simp only [↓fr_mk, ↓fr_mk_clock, ↓fr_mk_sec, ↓foldl_fr, ↓ite_fr, ite_self, implies_true]
  | split
  | refine (foldl_fr _ (fun _ _ => ?_) _ _).trans ?_
  | refine (fold_fst_fr _ (fun _ _ => ?_) _ _).trans ?_
  | refine pair_fr (by assumption) ?_
  | exact rfl

theorem State.addPart_fr (s : State) (op : Nat) (objs : List (Nat × Nat)) (l : List Change) : (State.addPart s op objs l).fr = s.fr := by
  unfold State.addPart
  repeat' first
  | with_reducible rfl
  | simp only [↓fr_mk, ↓fr_mk_clock, ↓fr_mk_sec, ↓foldl_fr, ↓ite_fr, ite_self, implies_true]
  | split
  | refine (foldl_fr _ (fun _ _ => ?_) _ _).trans ?_
  | refine (fold_fst_fr _ (fun _ _ => ?_) _ _).trans ?_
  | refine pair_fr (by assumption) ?_
  | exact rfl

theorem State.mirrorFirst_fr (s : State) (h : Hdr) (c : Cmd) (m : Mirrored) (result : Nat) (l : List Change) : (State.mirrorFirst s h c m result l).fr = s.fr := by
  unfold State.mirrorFirst
  simp only [↓fr_mk, ↓fr_mk_clock, ↓fr_mk_sec, ↓foldl_fr, ↓ite_fr, ↓State.hold_fr, ↓State.sendTxn_fr, ite_self, implies_true]

theorem State.relay_fr (s : State) (h : Hdr) (c : Cmd) : (State.relay s h c).fr = s.fr := by
  unfold State.relay
  repeat' first
  | with_reducible rfl
  | simp only [↓fr_mk, ↓fr_mk_clock, ↓fr_mk_sec, ↓foldl_fr, ↓ite_fr, ↓State.ringSend_fr, ↓State.answer_fr, ite_self, implies_true]
  | split
  | refine (foldl_fr _ (fun _ _ => ?_) _ _).trans ?_
  | refine (fold_fst_fr _ (fun _ _ => ?_) _ _).trans ?_
  | refine pair_fr (by assumption) ?_
  | exact rfl

/-! ## The command unit -/

theorem State.precheck_keeps (s u : State) (h : Hdr) (c : Cmd) (r : Rule) (e : s.precheck h c = some r) : r.Keeps u := by
  unfold State.precheck at e
  repeat' split at e
  all_goals first
    | contradiction
    | (injection e with e; subst e; trivial)

theorem State.mirrorGate_keeps (s u : State) (h : Hdr) (c : Cmd) (r : Rule) (e : s.mirrorGate h c = some r) : r.Keeps u := by
  unfold State.mirrorGate at e
  repeat' split at e
  all_goals first
    | contradiction
    | (injection e with e; subst e; trivial)

theorem Rule.before_keeps {s : State} {r x : Rule} (hr : r.Keeps s) (hx : x.Keeps s) : (r.before x).Keeps s := by
  unfold Rule.before
  split
  · split <;> assumption
  · exact hx

theorem State.noGroup_keeps (s u : State) (h : Hdr) : (s.noGroup h).Keeps u := by
  unfold State.noGroup
  split
  · split <;> trivial
  · trivial

theorem State.partRule_keeps (s : State) (h : Hdr) (c : Cmd) (k : c.Keeps) : (s.partRule h c).Keeps s := by
  unfold State.partRule
  split
  · exact Rule.before_keeps (k h s) (s.noGroup_keeps s h)
  · split
    · trivial
    · simp only
      split
      · unfold Rule.before
        split
        · split
          · next e _ => rw [e]; trivial
          · trivial
        · trivial
      · split
        · split
          · trivial
          · split
            · trivial
            · show s.Keeps _
              split
              · next e =>
                have := k h s
                rw [e] at this
                exact this
              · exact State.Keeps.refl s
        · next e => rw [e]; trivial
        · trivial

theorem State.ruleOf_keeps (s : State) (h : Hdr) (c : Cmd) (v : Option Nat) (k : c.Keeps) : (s.ruleOf h c v).Keeps s := by
  have k1 : (if h.group then s.partRule h c else c.rule h s).Keeps s := by
    split
    · exact s.partRule_keeps h c k
    · exact k h s
  unfold State.ruleOf
  simp only
  have k2 : (match s.mirrorGate h c with
      | some g => (if h.group then s.partRule h c else c.rule h s).before g
      | none => if h.group then s.partRule h c else c.rule h s).Keeps s := by
    split
    · next e => exact Rule.before_keeps k1 (s.mirrorGate_keeps s h c _ e)
    · exact k1
  split
  · exact Rule.before_keeps k2 trivial
  · exact k2

theorem Rule.fits_keeps (s : State) (r : Rule) (h : Hdr) (c : Cmd) (k : r.Keeps s) : (r.fits h c).Keeps s := by
  unfold Rule.fits
  split
  · split
    · trivial
    · exact k
  · exact k

theorem State.verdict_keeps (s : State) (h : Hdr) (c : Cmd) (v : Option Nat) (k : c.Keeps) : (s.verdict h c v).Keeps s := by
  unfold State.verdict
  split
  · next e => exact s.precheck_keeps s h c _ e
  · exact Rule.fits_keeps _ _ _ _ (s.ruleOf_keeps h c v k)

theorem State.passPart_keeps (s t : State) (h : Hdr) (c : Cmd) (objs : List (Nat × Nat)) (l : List Change)
    (k : s.Keeps t) : s.Keeps (s.passPart t h c objs l) := by
  unfold State.passPart
  split
  · exact State.Keeps.ofFr (State.mirrorFirst_fr ..)
  · exact k.after (by simp only [↓State.answer_fr, ↓State.addPart_fr, ↓State.notePart_fr])

theorem State.passChange_keeps (s t : State) (h : Hdr) (c : Cmd) (objs : List (Nat × Nat)) (l : List Change)
    (k : s.Keeps t) : s.Keeps (s.passChange t h c objs l) := by
  unfold State.passChange
  split
  · exact k.after (State.prepareTxn_fr ..)
  · exact k.after (by simp only [↓State.sendTxn_fr, ↓State.hold_fr])
  · exact k.after (by simp only [↓State.answer_fr, ↓State.takeChanges_fr])

theorem State.finish_keeps (s : State) (h : Hdr) (c : Cmd) (r : Rule) (k : r.Keeps s) : s.Keeps (s.finish h c r) := by
  unfold State.finish
  split
  · exact State.Keeps.ofFr (by simp only [↓State.answer_fr, ↓State.notePart_fr, ↓State.dataRead_fr])
  · split
    · exact State.Keeps.ofFr (State.mirrorFirst_fr ..)
    · exact State.Keeps.after k (State.answer_fr ..)
  · split
    · exact State.Keeps.ofFr (State.mirrorFirst_fr ..)
    · exact State.Keeps.after k (State.hold_fr ..)
  · split
    · exact s.passPart_keeps _ h c _ _ k
    · exact s.passChange_keeps _ h c _ _ k

theorem State.begin_fr {s t : State} {h : Hdr} {op : Nat} (e : s.begin h op = some t) : t.fr = s.fr := by
  unfold State.begin at e
  split at e
  · contradiction
  · split at e
    · simp only at e
      split at e
      · injection e with e
        subst e
        simp only [↓State.putTakenAt_fr, ↓State.fetch_fr]
      · contradiction
    · split at e
      · injection e with e
        subst e
        exact State.uncarry_fr ..
      · contradiction
    · split at e
      · split at e
        · injection e with e
          subst e
          simp only [↓State.takeChosen_fr, ↓State.uncarry_fr]
        · contradiction
      · contradiction

/-- A command whose rules keep it keeps it through every check and outcome of R348. -/
theorem State.serve_keeps (s : State) (c : Cmd) (h : Hdr) (k : c.Keeps) : s.Keeps (s.serve c h) := by
  unfold State.serve
  split
  · exact State.Keeps.refl s
  · next e =>
    have e := State.begin_fr e
    split
    · exact State.Keeps.ofFr ((State.relay_fr ..).trans e)
    · exact (State.finish_keeps _ h c _ (State.verdict_keeps _ h c _ k)).before e

theorem State.closeGroup_fr (s : State) (g : Group) : (State.closeGroup s g).fr = s.fr := by
  unfold State.closeGroup
  simp only [↓fr_mk, ↓fr_mk_clock, ↓fr_mk_sec, ↓foldl_fr, ↓ite_fr, ite_self, implies_true]

theorem State.discardGroup_fr (s : State) (g : Group) : (State.discardGroup s g).fr = s.fr := by
  unfold State.discardGroup
  simp only [↓fr_mk, ↓fr_mk_clock, ↓fr_mk_sec, ↓foldl_fr, ↓ite_fr, ↓State.colSend_fr, ↓State.closeGroup_fr, ite_self, implies_true]

theorem State.failGroup_fr (s : State) (g : Group) (h : Hdr) (part status : Nat) (unit : Nat × Nat) : (State.failGroup s g h part status unit).fr = s.fr := by
  unfold State.failGroup
  simp only [↓fr_mk, ↓fr_mk_clock, ↓fr_mk_sec, ↓foldl_fr, ↓ite_fr, ↓State.reply_fr, ↓State.discardGroup_fr, ite_self, implies_true]

theorem State.acceptGroup_fr (s : State) (g : Group) (h : Hdr) (target : EpochName) : (State.acceptGroup s g h target).fr = s.fr := by
  unfold State.acceptGroup
  simp only [↓fr_mk, ↓fr_mk_clock, ↓fr_mk_sec, ↓foldl_fr, ↓ite_fr, ↓ite_fst, ↓fold_fst_fr, ↓State.reply_fr, ↓State.refuseHeld_fr, ↓State.takeChanges_fr, ↓State.closeGroup_fr, ↓State.discardGroup_fr, ite_self, implies_true]

theorem State.preparedGroup_fr (s : State) (g : Group) (h : Hdr) (target : EpochName) : (State.preparedGroup s g h target).fr = s.fr := by
  unfold State.preparedGroup
  repeat' first
  | with_reducible rfl
  | simp only [↓fr_mk, ↓fr_mk_clock, ↓fr_mk_sec, ↓foldl_fr, ↓ite_fr, ↓State.sendTxn_fr, ↓State.prepareTxn_fr, ↓State.acceptGroup_fr, ite_self, implies_true]
  | split
  | refine (foldl_fr _ (fun _ _ => ?_) _ _).trans ?_
  | refine (fold_fst_fr _ (fun _ _ => ?_) _ _).trans ?_
  | refine pair_fr (by assumption) ?_
  | exact rfl

theorem State.failedGroup_fr (s : State) : (State.failedGroup s).fr = s.fr := by
  unfold State.failedGroup
  repeat' first
  | with_reducible rfl
  | simp only [↓fr_mk, ↓fr_mk_clock, ↓fr_mk_sec, ↓foldl_fr, ↓ite_fr, ↓State.failGroup_fr, ite_self, implies_true]
  | split
  | refine (foldl_fr _ (fun _ _ => ?_) _ _).trans ?_
  | refine (fold_fst_fr _ (fun _ _ => ?_) _ _).trans ?_
  | refine pair_fr (by assumption) ?_
  | exact rfl

theorem execGroupPrepared_fr (s : State) : outFr (execGroupPrepared s) s = s.fr := by
  unfold execGroupPrepared
  repeat' first
  | with_reducible rfl
  | simp only [↓outFr_next, ↓outFr_fault, ↓outFr_onUnit, ↓outFr_ite, ↓fr_mk, ↓fr_mk_clock, ↓fr_mk_sec, ↓foldl_fr, ↓ite_fr, ↓ite_fst, ↓fold_fst_fr, ↓State.failGroup_fr, ↓State.preparedGroup_fr, ite_self, implies_true]
  | split
  | refine (foldl_fr _ (fun _ _ => ?_) _ _).trans ?_
  | refine (fold_fst_fr _ (fun _ _ => ?_) _ _).trans ?_
  | refine pair_fr (by assumption) ?_
  | exact rfl

theorem execGroupPrepareTimeout_fr (s : State) : outFr (execGroupPrepareTimeout s) s = s.fr := by
  unfold execGroupPrepareTimeout
  repeat' first
  | with_reducible rfl
  | simp only [↓outFr_next, ↓outFr_fault, ↓outFr_onUnit, ↓outFr_ite, ↓fr_mk, ↓fr_mk_clock, ↓fr_mk_sec, ↓foldl_fr, ↓ite_fr, ↓ite_fst, ↓fold_fst_fr, ↓State.failGroup_fr, ite_self, implies_true]
  | split
  | refine (foldl_fr _ (fun _ _ => ?_) _ _).trans ?_
  | refine (fold_fst_fr _ (fun _ _ => ?_) _ _).trans ?_
  | refine pair_fr (by assumption) ?_
  | exact rfl

theorem State.abandonGroup_fr (s : State) (g : Group) (part : Nat) : (State.abandonGroup s g part).fr = s.fr := by
  unfold State.abandonGroup
  repeat' first
  | with_reducible rfl
  | simp only [↓fr_mk, ↓fr_mk_clock, ↓fr_mk_sec, ↓foldl_fr, ↓ite_fr, ↓State.note_fr, ↓State.discardGroup_fr, ↓State.failGroup_fr, ite_self, implies_true]
  | split
  | refine (foldl_fr _ (fun _ _ => ?_) _ _).trans ?_
  | refine (fold_fst_fr _ (fun _ _ => ?_) _ _).trans ?_
  | refine pair_fr (by assumption) ?_
  | exact rfl

theorem execGroupAbandoned_fr (s : State) : outFr (execGroupAbandoned s) s = s.fr := by
  unfold execGroupAbandoned
  repeat' first
  | with_reducible rfl
  | simp only [↓outFr_next, ↓outFr_fault, ↓outFr_onUnit, ↓outFr_ite, ↓fr_mk, ↓fr_mk_clock, ↓fr_mk_sec, ↓foldl_fr, ↓ite_fr, ↓ite_fst, ↓fold_fst_fr, ↓State.abandonGroup_fr, ite_self, implies_true]
  | split
  | refine (foldl_fr _ (fun _ _ => ?_) _ _).trans ?_
  | refine (fold_fst_fr _ (fun _ _ => ?_) _ _).trans ?_
  | refine pair_fr (by assumption) ?_
  | exact rfl

theorem execRelayTimeout_fr (id : Nat) (s : State) : outFr (execRelayTimeout id s) s = s.fr := by
  unfold execRelayTimeout
  repeat' first
  | with_reducible rfl
  | simp only [↓outFr_next, ↓outFr_fault, ↓outFr_onUnit, ↓outFr_ite, ↓fr_mk, ↓fr_mk_clock, ↓fr_mk_sec, ↓foldl_fr, ↓ite_fr, ↓ite_fst, ↓fold_fst_fr, ↓State.answer_fr, ite_self, implies_true]
  | split
  | refine (foldl_fr _ (fun _ _ => ?_) _ _).trans ?_
  | refine (fold_fst_fr _ (fun _ _ => ?_) _ _).trans ?_
  | refine pair_fr (by assumption) ?_
  | exact rfl

theorem execMirrorRx_fr (txn opcode : Nat) (value : Option Nat) (s : State) : outFr (execMirrorRx txn opcode value s) s = s.fr := by
  unfold execMirrorRx
  simp only [↓outFr_next, ↓State.detached_fr, ↓outFr_fault, ↓outFr_onUnit, ↓outFr_ite, ↓fr_mk, ↓fr_mk_clock, ↓fr_mk_sec, ↓foldl_fr, ↓ite_fr, ↓ite_fst, ↓fold_fst_fr, ite_self, implies_true]

theorem execPrepareRx_fr (txn opcode : Nat) (s : State) : outFr (execPrepareRx txn opcode s) s = s.fr := by
  unfold execPrepareRx
  simp only [↓outFr_next, ↓outFr_fault, ↓outFr_onUnit, ↓outFr_ite, ↓fr_mk, ↓fr_mk_clock, ↓fr_mk_sec, ↓foldl_fr, ↓ite_fr, ↓ite_fst, ↓fold_fst_fr, ite_self, implies_true]

theorem State.dropPrepared_fr (s : State) (t : Txn) : (State.dropPrepared s t).fr = s.fr := by
  unfold State.dropPrepared
  repeat' first
  | with_reducible rfl
  | simp only [↓fr_mk, ↓fr_mk_clock, ↓fr_mk_sec, ↓foldl_fr, ↓ite_fr, ↓State.closeGroup_fr, ite_self, implies_true]
  | split
  | refine (foldl_fr _ (fun _ _ => ?_) _ _).trans ?_
  | refine (fold_fst_fr _ (fun _ _ => ?_) _ _).trans ?_
  | refine pair_fr (by assumption) ?_
  | exact rfl

theorem State.commitPrepared_fr (s : State) (t : Txn) (e : Nat) : (State.commitPrepared s t e).fr = s.fr := by
  unfold State.commitPrepared
  simp only [↓fr_mk, ↓fr_mk_clock, ↓fr_mk_sec, ↓foldl_fr, ↓ite_fr, ↓ite_fst, ↓fold_fst_fr, ↓State.colSend_fr, ↓State.extend_fr, ↓State.takeChanges_fr, ↓State.dropPrepared_fr, ite_self, implies_true]

theorem State.diverged_fr (s : State) (txn : Nat) : (State.diverged s txn).fr = s.fr := by
  unfold State.diverged
  simp only [↓fr_mk, ↓fr_mk_clock, ↓fr_mk_sec, ↓foldl_fr, ↓ite_fr, ↓State.bump_fr, ↓State.note_fr, ite_self, implies_true]

theorem execCommitRx_fr (txn epoch : Nat) (s : State) : outFr (execCommitRx txn epoch s) s = s.fr := by
  unfold execCommitRx
  repeat' first
  | with_reducible rfl
  | simp only [↓outFr_next, ↓outFr_fault, ↓outFr_onUnit, ↓outFr_ite, ↓fr_mk, ↓fr_mk_clock, ↓fr_mk_sec, ↓foldl_fr, ↓ite_fr, ↓ite_fst, ↓fold_fst_fr, ↓State.dropPrepared_fr, ↓State.commitPrepared_fr, ↓State.diverged_fr, ite_self, implies_true]
  | split
  | refine (foldl_fr _ (fun _ _ => ?_) _ _).trans ?_
  | refine (fold_fst_fr _ (fun _ _ => ?_) _ _).trans ?_
  | refine pair_fr (by assumption) ?_
  | exact rfl

theorem execFollowCommitDeadline_fr (txn : Nat) (s : State) : outFr (execFollowCommitDeadline txn s) s = s.fr := by
  unfold execFollowCommitDeadline
  repeat' first
  | with_reducible rfl
  | simp only [↓outFr_next, ↓outFr_fault, ↓outFr_onUnit, ↓outFr_ite, ↓fr_mk, ↓fr_mk_clock, ↓fr_mk_sec, ↓foldl_fr, ↓ite_fr, ↓ite_fst, ↓fold_fst_fr, ↓State.dropPrepared_fr, ↓State.diverged_fr, ite_self, implies_true]
  | split
  | refine (foldl_fr _ (fun _ _ => ?_) _ _).trans ?_
  | refine (fold_fst_fr _ (fun _ _ => ?_) _ _).trans ?_
  | refine pair_fr (by assumption) ?_
  | exact rfl

theorem State.dropTxn_fr (s : State) (txn : Nat) : (State.dropTxn s txn).fr = s.fr := by
  unfold State.dropTxn
  simp only [↓fr_mk, ↓fr_mk_clock, ↓fr_mk_sec, ↓foldl_fr, ↓ite_fr, ite_self, implies_true]

theorem State.discardTxn_fr (s : State) (t : Txn) : (State.discardTxn s t).fr = s.fr := by
  unfold State.discardTxn
  repeat' first
  | with_reducible rfl
  | simp only [↓fr_mk, ↓fr_mk_clock, ↓fr_mk_sec, ↓foldl_fr, ↓ite_fr, ↓State.colSend_fr, ↓State.closeGroup_fr, ↓State.dropTxn_fr, ite_self, implies_true]
  | split
  | refine (foldl_fr _ (fun _ _ => ?_) _ _).trans ?_
  | refine (fold_fst_fr _ (fun _ _ => ?_) _ _).trans ?_
  | refine pair_fr (by assumption) ?_
  | exact rfl

theorem State.failTxn_fr (s : State) (t : Txn) (status : Nat) : (State.failTxn s t status).fr = s.fr := by
  unfold State.failTxn
  simp only [↓fr_mk, ↓fr_mk_clock, ↓fr_mk_sec, ↓foldl_fr, ↓ite_fr, ↓State.bump_fr, ↓State.reply_fr, ↓State.notePart_fr, ↓State.discardTxn_fr, ite_self, implies_true]

theorem State.commitTxn_fr (s : State) (t : Txn) : (State.commitTxn s t).fr = s.fr := by
  unfold State.commitTxn
  repeat' first
  | with_reducible rfl
  | simp only [↓fr_mk, ↓fr_mk_clock, ↓fr_mk_sec, ↓foldl_fr, ↓ite_fr, ↓ite_fst, ↓fold_fst_fr, ↓State.bump_fr, ↓State.colSend_fr, ↓State.reply_fr, ↓State.refuseHeld_fr, ↓State.takeChanges_fr, ↓State.closeGroup_fr, ↓State.discardTxn_fr, ite_self, implies_true]
  | split
  | refine (foldl_fr _ (fun _ _ => ?_) _ _).trans ?_
  | refine (fold_fst_fr _ (fun _ _ => ?_) _ _).trans ?_
  | refine pair_fr (by assumption) ?_
  | exact rfl

theorem execTwinAckTimeout_fr (txn : Nat) (s : State) : outFr (execTwinAckTimeout txn s) s = s.fr := by
  unfold execTwinAckTimeout
  repeat' first
  | with_reducible rfl
  | simp only [↓outFr_next, ↓outFr_fault, ↓outFr_onUnit, ↓outFr_ite, ↓fr_mk, ↓fr_mk_clock, ↓fr_mk_sec, ↓foldl_fr, ↓ite_fr, ↓ite_fst, ↓fold_fst_fr, ↓State.failTxn_fr, ite_self, implies_true]
  | split
  | refine (foldl_fr _ (fun _ _ => ?_) _ _).trans ?_
  | refine (fold_fst_fr _ (fun _ _ => ?_) _ _).trans ?_
  | refine pair_fr (by assumption) ?_
  | exact rfl

theorem execLeadCommitAckCheck_fr (txn : Nat) (s : State) : outFr (execLeadCommitAckCheck txn s) s = s.fr := by
  unfold execLeadCommitAckCheck
  repeat' first
  | with_reducible rfl
  | simp only [↓outFr_next, ↓outFr_fault, ↓outFr_onUnit, ↓outFr_ite, ↓fr_mk, ↓fr_mk_clock, ↓fr_mk_sec, ↓foldl_fr, ↓ite_fr, ↓ite_fst, ↓fold_fst_fr, ↓State.diverged_fr, ↓State.dropTxn_fr, ite_self, implies_true]
  | split
  | refine (foldl_fr _ (fun _ _ => ?_) _ _).trans ?_
  | refine (fold_fst_fr _ (fun _ _ => ?_) _ _).trans ?_
  | refine pair_fr (by assumption) ?_
  | exact rfl

theorem cmdUndefined_keeps (op : Nat) : (cmdUndefined op).Keeps := fun _ _ => trivial

theorem State.orUndefined_keeps (s : State) (h : Hdr) (op : Nat) : s.Keeps (s.orUndefined h op) := by
  unfold State.orUndefined
  split
  · exact State.Keeps.refl s
  · exact s.serve_keeps _ h (cmdUndefined_keeps op)

theorem execCommandFetch_keeps (h : Hdr) (op : Nat) (s t : State) (e : execCommandFetch h op s = .next t) :
    s.Keeps t := by
  refine State.Keeps.next ?_ e
  split
  · exact (State.orUndefined_keeps _ h op).before (State.fetch_fr ..)
  · exact State.Keeps.refl s

theorem execRelayedCommandRx_keeps (src : Nat) (h : Hdr) (op : Nat) (s t : State)
    (e : execRelayedCommandRx src h op s = .next t) : s.Keeps t := by
  refine State.Keeps.next ?_ e
  split
  · exact (State.orUndefined_keeps _ h op).before rfl
  · exact State.Keeps.refl s

theorem State.pass_fr (s : State) (n : Nat) : (State.pass s n).fr = s.fr := by
  unfold State.pass
  simp only [↓fr_mk, ↓fr_mk_clock, ↓fr_mk_sec, ↓foldl_fr, ↓ite_fr, ↓State.flushEvents_fr, ↓State.advanceTime_fr, ite_self, implies_true]

theorem State.countFull_fr (s : State) (n : Nat) : (State.countFull s n).fr = s.fr := by
  unfold State.countFull
  repeat' first
  | with_reducible rfl
  | simp only [↓fr_mk, ↓fr_mk_clock, ↓fr_mk_sec, ↓foldl_fr, ↓ite_fr, ↓State.bumpBy_fr, ite_self, implies_true]
  | split
  | refine (foldl_fr _ (fun _ _ => ?_) _ _).trans ?_
  | refine (fold_fst_fr _ (fun _ _ => ?_) _ _).trans ?_
  | refine pair_fr (by assumption) ?_
  | exact rfl

theorem State.streamAll_fr (s : State) : (State.streamAll s).fr = s.fr := by
  unfold State.streamAll
  repeat' first
  | with_reducible rfl
  | simp only [↓fr_mk, ↓fr_mk_clock, ↓fr_mk_sec, ↓foldl_fr, ↓ite_fr, ↓State.streamCells_fr, ite_self, implies_true]
  | split
  | refine (foldl_fr _ (fun _ _ => ?_) _ _).trans ?_
  | refine (fold_fst_fr _ (fun _ _ => ?_) _ _).trans ?_
  | refine pair_fr (by assumption) ?_
  | exact rfl

theorem State.resolveHeld_fr (s : State) : (State.resolveHeld s).fr = s.fr := by
  unfold State.resolveHeld
  repeat' first
  | with_reducible rfl
  | simp only [↓fr_mk, ↓fr_mk_clock, ↓fr_mk_sec, ↓foldl_fr, ↓ite_fr, ↓State.resolveUntagged_fr, ite_self, implies_true]
  | split
  | refine (foldl_fr _ (fun _ _ => ?_) _ _).trans ?_
  | refine (fold_fst_fr _ (fun _ _ => ?_) _ _).trans ?_
  | refine pair_fr (by assumption) ?_
  | exact rfl

theorem State.watchQueues_fr (s : State) : (State.watchQueues s).fr = s.fr := by
  unfold State.watchQueues
  repeat' first
  | with_reducible rfl
  | simp only [↓fr_mk, ↓fr_mk_clock, ↓fr_mk_sec, ↓foldl_fr, ↓ite_fr, ↓State.watchQueue_fr, ite_self, implies_true]
  | split
  | refine (foldl_fr _ (fun _ _ => ?_) _ _).trans ?_
  | refine (fold_fst_fr _ (fun _ _ => ?_) _ _).trans ?_
  | refine pair_fr (by assumption) ?_
  | exact rfl

theorem State.tickEnd_fr (s : State) : (State.tickEnd s).fr = s.fr := by
  unfold State.tickEnd
  simp only [↓fr_mk, ↓fr_mk_clock, ↓fr_mk_sec, ↓foldl_fr, ↓ite_fr, ↓State.runPushDue_fr, ↓State.accountIdle_fr, ite_self, implies_true]

theorem State.tickMark_fr (s : State) : (State.tickMark s).fr = s.fr := by
  unfold State.tickMark
  repeat' first
  | with_reducible rfl
  | simp only [↓fr_mk, ↓fr_mk_clock, ↓fr_mk_sec, ↓foldl_fr, ↓ite_fr, ↓State.modDomain_fr, ↓State.countFull_fr, ite_self, implies_true]
  | split
  | refine (foldl_fr _ (fun _ _ => ?_) _ _).trans ?_
  | refine (fold_fst_fr _ (fun _ _ => ?_) _ _).trans ?_
  | refine pair_fr (by assumption) ?_
  | exact rfl

theorem State.tickWork_fr (s : State) : (State.tickWork s).fr = s.fr := by
  unfold State.tickWork
  simp only [↓fr_mk, ↓fr_mk_clock, ↓fr_mk_sec, ↓foldl_fr, ↓ite_fr, ↓State.endLocks_fr, ↓State.settlePerf_fr, ↓State.admitDirects_fr, ↓State.streamAll_fr, ↓State.resolveHeld_fr, ↓State.watchQueues_fr, ite_self, implies_true]

theorem State.tickBegin_fr (s : State) : (State.tickBegin s).fr = s.fr := by
  unfold State.tickBegin
  simp only [↓fr_mk, ↓fr_mk_clock, ↓fr_mk_sec, ↓foldl_fr, ↓ite_fr, ↓State.tickMark_fr, ↓State.tickWork_fr, ite_self, implies_true]

theorem State.raiseDefers_fr (s : State) : (State.raiseDefers s).fr = s.fr := by
  unfold State.raiseDefers
  repeat' first
  | with_reducible rfl
  | simp only [↓fr_mk, ↓fr_mk_clock, ↓fr_mk_sec, ↓foldl_fr, ↓ite_fr, ↓ite_fst, ↓fold_fst_fr, ↓State.note_fr, ite_self, implies_true]
  | split
  | refine (foldl_fr _ (fun _ _ => ?_) _ _).trans ?_
  | refine (fold_fst_fr _ (fun _ _ => ?_) _ _).trans ?_
  | refine pair_fr (by assumption) ?_
  | exact rfl

theorem State.retireVersions_fr (s : State) : (State.retireVersions s).fr = s.fr := by
  unfold State.retireVersions
  repeat' first
  | with_reducible rfl
  | simp only [↓fr_mk, ↓fr_mk_clock, ↓fr_mk_sec, ↓foldl_fr, ↓ite_fr, ↓State.note_fr, ↓State.settleAll_fr, ite_self, implies_true]
  | split
  | refine (foldl_fr _ (fun _ _ => ?_) _ _).trans ?_
  | refine (fold_fst_fr _ (fun _ _ => ?_) _ _).trans ?_
  | refine pair_fr (by assumption) ?_
  | exact rfl

theorem State.boundaryWork_fr (s : State) : (State.boundaryWork s).fr = s.fr := by
  unfold State.boundaryWork
  simp only [↓fr_mk, ↓fr_mk_clock, ↓fr_mk_sec, ↓foldl_fr, ↓ite_fr, ↓State.settleVoltage_fr, ↓State.sendBeat_fr, ↓State.sweepJoin_fr, ↓State.enterConfigure_fr, ite_self, implies_true]

theorem State.elemEnd_fr (s : State) : (State.elemEnd s).fr = s.fr := by
  unfold State.elemEnd
  simp only [↓fr_mk, ↓fr_mk_clock, ↓fr_mk_sec, ↓foldl_fr, ↓ite_fr, ↓State.elemBoundary_fr, ite_self, implies_true]

theorem State.clockEnd_fr (s : State) : (State.clockEnd s).fr = s.fr := by
  unfold State.clockEnd
  simp only [↓fr_mk, ↓fr_mk_clock, ↓fr_mk_sec, ↓foldl_fr, ↓ite_fr, ↓State.endAllFlows_fr, ↓State.perfClocks_fr, ↓State.captureReports_fr, ↓State.pass_fr, ite_self, implies_true]

/-! ## Time -/

theorem State.applyDue_keeps (s : State) : s.Keeps s.applyDue := by
  unfold State.applyDue
  simp only
  generalize ht : List.foldl _ _ _ = t
  have k : s.Keeps t := by
    subst ht
    refine State.Keeps.before (t := { s with changes := s.changes.filter fun p => decide (s.clock.epoch < p.epoch) }) ?_ rfl
    exact State.Keeps.foldl _ (fun t p => State.Keeps.ite (t.applyChange_keeps _) (State.Keeps.refl t)) _ _
  exact State.Keeps.ite (k.after (State.settlePoint_fr ..)) k

theorem State.Keeps.atBoundary (u : State) (e : Nat) :
    u.Keeps { u with clock := { u.clock with epoch := e, tick := 0, k := 0 } } :=
  ⟨rfl, Nat.le_refl _, BitVec.and_self, Nat.le_refl _, fun h => ⟨Nat.zero_lt_succ _, Nat.zero_lt_succ _, h.2.2⟩⟩

theorem State.td0At_fr (t : State) (x : Nat) : State.fr { t with tel.td0At := x } = t.fr := rfl

theorem State.newEpoch_keeps (s : State) (r : Readings) : s.Keeps (s.newEpoch r) := by
  unfold State.newEpoch
  simp only
  refine State.Keeps.after ?_ (State.boundaryWork_fr _)
  refine State.Keeps.after ?_ (State.tickWork_fr _)
  refine State.Keeps.trans ?_ (State.applyDue_keeps _)
  have k := (State.Keeps.atBoundary s.raiseDefers.sampleQueues.tickEnd s.nextEpoch).before (s := s)
    (by simp only [↓State.tickEnd_fr, ↓State.sampleQueues_fr, ↓State.raiseDefers_fr])
  generalize ({ s.raiseDefers.sampleQueues.tickEnd with clock := _ } : State) = u at k ⊢
  refine k.after ?_
  rw [State.elemEnd_fr, State.retireVersions_fr, State.takeReadings_fr, State.td0At_fr, State.tickMark_fr]

theorem State.oneClock_keeps (s : State) : s.Keeps s.oneClock := by
  unfold State.oneClock
  simp only
  have ht := State.clockEnd_fr s
  generalize s.clockEnd = t at ht ⊢
  have hk : t.clock.tick = s.clock.tick := congrArg (fun f => f.2.2.1) ht
  have he := State.tickEnd_fr t
  have hu : t.tickEnd.clock.tick = s.clock.tick := (congrArg (fun f => f.2.2.1) he).trans hk
  refine State.Keeps.before ?_ ht
  split
  · exact ⟨rfl, Nat.le_refl _, BitVec.and_self, Nat.le_refl _, fun h => ⟨h.1, Nat.one_lt_two, h.2.2⟩⟩
  split
  · refine State.Keeps.before ?_ he
    generalize t.tickEnd = u at hu ⊢
    refine State.Keeps.after (t := { u with clock := { u.clock with stretch := s.clock.stretch - 1, k := 0 } }) ?_
      (State.tickBegin_fr _)
    exact ⟨rfl, Nat.le_refl _, BitVec.and_self, Nat.le_refl _, fun h => ⟨h.1, Nat.zero_lt_two, h.2.2⟩⟩
  split
  · exact t.newEpoch_keeps _
  · next h3 =>
    refine State.Keeps.before ?_ he
    generalize t.tickEnd = u at hu ⊢
    refine State.Keeps.after (t := { u with clock := { u.clock with tick := s.clock.tick + 1, k := 0 } }) ?_
      (State.tickBegin_fr _)
    refine ⟨rfl, Nat.le_refl _, BitVec.and_self, Nat.le_refl _, fun h => ⟨?_, Nat.zero_lt_two, h.2.2⟩⟩
    have h1 := h.1
    show s.clock.tick + 1 < 1024
    omega

theorem State.idle_keeps (s : State) : s.Keeps s.idle := by
  unfold State.idle
  split
  · exact s.oneClock_keeps
  · refine State.Keeps.before (t := s.pass 1) ?_ (State.pass_fr ..)
    have h := State.pass_fr s 1
    generalize s.pass 1 = u at h ⊢
    have hp : u.clock.tick = s.clock.tick ∧ u.clock.k = s.clock.k ∧ u.clock.tallyClock = s.clock.tallyClock :=
      ⟨congrArg (fun f => f.2.2.1) h, congrArg (fun f => f.2.2.2.1) h, congrArg (fun f => f.2.2.2.2.1) h⟩
    refine ⟨rfl, Nat.le_refl _, BitVec.and_self, Nat.le_refl _, fun h => ?_⟩
    obtain ⟨h1, h2, h3⟩ := h
    rw [hp.1] at h1
    rw [hp.2.1] at h2
    rw [hp.2.2] at h3
    show s.clock.tallyOne.tick < 1024 ∧ s.clock.tallyOne.k < 2 ∧ s.clock.tallyOne.tallyClock < 2048
    unfold Clock.tallyOne
    split
    · exact ⟨h1, h2, h3⟩
    split
    · exact ⟨h1, h2, Nat.zero_lt_succ _⟩
    · next h4 => exact ⟨h1, h2, by show s.clock.tallyClock + 1 < 2048; omega⟩

theorem State.runClocks_keeps (fuel : Nat) (s : State) : s.Keeps (s.runClocks fuel) := by
  induction fuel generalizing s with
  | zero => exact State.Keeps.refl s
  | succ n ih =>
    unfold State.runClocks
    exact State.Keeps.ite (State.Keeps.refl s) (s.oneClock_keeps.trans (ih _))

theorem State.toLastClock_keeps (s : State) : s.Keeps s.toLastClock := s.runClocks_keeps _

theorem execEpochBoundary_keeps (r : Readings) (s t : State) (h : execEpochBoundary r s = .next t) : s.Keeps t := by
  refine State.Keeps.next ?_ h
  have k := s.toLastClock_keeps
  exact State.Keeps.ite (State.Keeps.ite
    (k.trans ((State.newEpoch_keeps _ r).before (State.clockEnd_fr _))) k) (State.Keeps.refl s)

end Sys2Proof.Machine
end

