-- ==== Sys2Proof/Laws/FrameTwin.lean ====
section
/-! SUPPORT. What the commands that both twins run keep. -/

namespace Sys2Proof.Machine
theorem cmdGroupOpen_fr (h : Hdr) (s : State) : ruleFr ((cmdGroupOpen).rule h s) s = s.fr := by
  unfold cmdGroupOpen
  repeat' first
  | with_reducible rfl
  | simp only [↓fr_mk, ↓fr_mk_clock, ↓fr_mk_sec, ↓foldl_fr, ↓ite_fr, ↓ruleFr_ite, ↓ruleFr_need, ↓ruleFr_needRange, ↓ruleFr_val, ↓ruleFr_conflict, ↓ruleFr_done, ↓ruleFr_change, ↓ruleFr_held, ↓ruleFr_refuse, ↓Cmd_get_rule, ↓Cmd_set_rule, ↓Cmd_stats_rule, ↓Cmd_mirrored_rule, ↓Cmd_fence_rule, ↓Cmd_carry_rule, ↓Cmd_upTo_rule, ↓id_eq, ite_self, implies_true]
  | split
  | refine (foldl_fr _ (fun _ _ => ?_) _ _).trans ?_
  | refine rule_done_fr (s := s) (by assumption) ?_
  | refine rule_change_fr (s := s) (by assumption) ?_

theorem cmdGroupCommit_fr (target : EpochName) (h : Hdr) (s : State) : ruleFr ((cmdGroupCommit target).rule h s) s = s.fr := by
  unfold cmdGroupCommit
  repeat' first
  | with_reducible rfl
  | simp only [↓fr_mk, ↓fr_mk_clock, ↓fr_mk_sec, ↓foldl_fr, ↓ite_fr, ↓ruleFr_ite, ↓ruleFr_need, ↓ruleFr_needRange, ↓ruleFr_param, ↓ruleFr_conflict, ↓ruleFr_missing, ↓ruleFr_busy, ↓ruleFr_done, ↓ruleFr_change, ↓ruleFr_held, ↓ruleFr_refuse, ↓ruleFr_access, ↓ruleFr_auth, ↓ruleFr_lockedR, ↓State.groupNeed, ↓State.noGroup, ↓Cmd_get_rule, ↓Cmd_set_rule, ↓Cmd_stats_rule, ↓Cmd_mirrored_rule, ↓Cmd_fence_rule, ↓Cmd_carry_rule, ↓Cmd_upTo_rule, ↓id_eq, ite_self, implies_true]
  | split
  | refine (foldl_fr _ (fun _ _ => ?_) _ _).trans ?_
  | refine rule_done_fr (s := s) (by assumption) ?_
  | refine rule_change_fr (s := s) (by assumption) ?_

theorem cmdGroupDiscard_fr (h : Hdr) (s : State) : ruleFr ((cmdGroupDiscard).rule h s) s = s.fr := by
  unfold cmdGroupDiscard
  repeat' first
  | with_reducible rfl
  | simp only [↓fr_mk, ↓fr_mk_clock, ↓fr_mk_sec, ↓foldl_fr, ↓ite_fr, ↓State.closeGroup_fr, ↓ruleFr_ite, ↓ruleFr_need, ↓ruleFr_needRange, ↓ruleFr_ok, ↓ruleFr_param, ↓ruleFr_conflict, ↓ruleFr_missing, ↓ruleFr_busy, ↓ruleFr_done, ↓ruleFr_change, ↓ruleFr_held, ↓ruleFr_refuse, ↓ruleFr_access, ↓ruleFr_auth, ↓ruleFr_lockedR, ↓State.groupNeed, ↓State.noGroup, ↓Cmd_get_rule, ↓Cmd_set_rule, ↓Cmd_stats_rule, ↓Cmd_mirrored_rule, ↓Cmd_fence_rule, ↓Cmd_carry_rule, ↓Cmd_upTo_rule, ↓id_eq, ite_self, implies_true]
  | split
  | refine (foldl_fr _ (fun _ _ => ?_) _ _).trans ?_
  | refine rule_done_fr (s := s) (by assumption) ?_
  | refine rule_change_fr (s := s) (by assumption) ?_

theorem cmdGroupStatusGet_fr (h : Hdr) (s : State) : ruleFr ((cmdGroupStatusGet).rule h s) s = s.fr := by
  unfold cmdGroupStatusGet
  repeat' first
  | with_reducible rfl
  | simp only [↓fr_mk, ↓fr_mk_clock, ↓fr_mk_sec, ↓foldl_fr, ↓ite_fr, ↓State.reply_fr, ↓ruleFr_ite, ↓ruleFr_need, ↓ruleFr_needRange, ↓ruleFr_reply, ↓ruleFr_missing, ↓ruleFr_done, ↓ruleFr_change, ↓ruleFr_held, ↓ruleFr_refuse, ↓Cmd_get_rule, ↓Cmd_set_rule, ↓Cmd_stats_rule, ↓Cmd_mirrored_rule, ↓Cmd_fence_rule, ↓Cmd_carry_rule, ↓Cmd_upTo_rule, ↓id_eq, ite_self, implies_true]
  | split
  | refine (foldl_fr _ (fun _ _ => ?_) _ _).trans ?_
  | refine rule_done_fr (s := s) (by assumption) ?_
  | refine rule_change_fr (s := s) (by assumption) ?_

/-! ## The commands of R400 as the LEAD runs them -/

theorem mirroredCmd_keeps (m : Mirrored) : (mirroredCmd m).Keeps := by
  intro h s
  refine Rule.Keeps.ofFr ?_
  cases m with
  | tableCreate t r => exact cmdTableCreate_fr ..
  | tableDelete t => exact cmdTableDelete_fr ..
  | emEntryAdd t k d st => exact cmdEmEntryAdd_fr ..
  | emEntryDelete t k => exact cmdEmEntryDelete_fr ..
  | directWrite t i b => exact cmdDirectWrite_fr ..
  | prefixAdd f v l a r => exact cmdPrefixAdd_fr ..
  | prefixDelete f v l a => exact cmdPrefixDelete_fr ..
  | emProfileSet p r => exact cmdEmProfileSet_fr ..
  | lpmProfileSet p r => exact cmdLpmProfileSet_fr ..
  | nexthopTableSet t => exact cmdNexthopTableSet_fr ..
  | tableUpkeepSet t r f => exact cmdTableUpkeepSet_fr ..
  | maquetteOpen => exact cmdMaquetteOpen_fr ..
  | maquetteCommit t => exact cmdMaquetteCommit_fr ..
  | maquetteDiscard => exact cmdMaquetteDiscard_fr ..
  | ruleAdd r => exact cmdRuleAdd_fr ..
  | objectDelete k i => exact cmdObjectDelete_fr ..
  | rangeSet c e l h => exact cmdRangeSet_fr ..
  | parseEntrySet i r => exact cmdParseEntrySet_fr ..
  | keyProfileSet d i es g => exact cmdKeyProfileSet_fr ..
  | editProfileSet i ops => exact cmdEditProfileSet_fr ..
  | templateSet i b => exact cmdTemplateSet_fr ..
  | mirrorSessionSet i c d t => exact cmdMirrorSessionSet_fr ..
  | egressBind p k => exact cmdEgressBind_fr ..
  | tcMapSet p m => exact cmdTcMapSet_fr ..
  | bufferPoolSet z p => exact cmdBufferPoolSet_fr ..
  | queueAdmitSet q r f => exact cmdQueueAdmitSet_fr ..
  | mcastGroupSet g self l => exact cmdMcastGroupSet_fr ..
  | mcastGroupDelete g => exact cmdMcastGroupDelete_fr ..
  | groupOpen => exact cmdGroupOpen_fr ..
  | groupCommit t => exact cmdGroupCommit_fr ..
  | groupDiscard => exact cmdGroupDiscard_fr ..
  | twinRoleSwap => exact cmdTwinRoleSwap_fr ..
  | twinDetach => exact cmdTwinDetach_fr ..

theorem State.runMirrored_keeps (s : State) (t : Txn) : s.Keeps (s.runMirrored t) := by
  unfold State.runMirrored
  simp only
  refine State.Keeps.before (t := s.dropTxn t.txn) ?_ (State.dropTxn_fr ..)
  generalize s.dropTxn t.txn = u
  have k : (if t.hdr.group then u.partRule t.hdr (mirroredCmd t.cmd) else (mirroredCmd t.cmd).rule t.hdr u).Keeps u := by
    split
    · exact u.partRule_keeps _ _ (mirroredCmd_keeps _)
    · exact mirroredCmd_keeps _ _ _
  split
  · exact State.Keeps.ofFr (by simp only [↓State.reply_fr, ↓State.notePart_fr])
  · next e => rw [e] at k; exact State.Keeps.after k (State.reply_fr ..)
  · next e => rw [e] at k; exact k
  · next e =>
    rw [e] at k
    exact State.Keeps.after k (by simp only [↓State.reply_fr, ↓State.addPart_fr, ↓State.notePart_fr])

theorem execAckRx_keeps (txn status d e : Nat) (s t : State) (h : execAckRx txn status d e s = .next t) : s.Keeps t := by
  refine State.Keeps.next ?_ h
  split
  · exact State.Keeps.refl s
  · split
    · split
      · exact State.Keeps.ofFr (State.dropTxn_fr ..)
      · exact State.Keeps.refl s
    · split
      · exact State.Keeps.ofFr (State.failTxn_fr ..)
      · split
        · exact State.Keeps.ofFr (State.commitTxn_fr ..)
        · exact s.runMirrored_keeps _

end Sys2Proof.Machine
end

