-- ==== Sys2Proof/Laws/FrameExec.lean ====
section
/-! SUPPORT. What every command of the opcode table keeps. -/

namespace Sys2Proof.Machine
theorem execFwRestart_keeps (h : Hdr) (s t : State) (e : execFwRestart h s = .next t) : s.Keeps t := by
  refine State.Keeps.next ?_ e
  have k := s.serve_keeps cmdFwRestart h (fun _ _ => Rule.Keeps.ofFr (cmdFwRestart_fr ..))
  exact State.Keeps.ite (k.trans (State.coreReset_keeps ..)) k

theorem execGroupCommit_keeps (h : Hdr) (target : EpochName) (s t : State) (e : execGroupCommit h target s = .next t) :
    s.Keeps t :=
  State.Keeps.next ((s.serve_keeps _ h (fun _ _ => Rule.Keeps.ofFr (cmdGroupCommit_fr ..))).after (State.failedGroup_fr _)) e

/-- What every command keeps. -/
theorem exec_keeps (i : Instr) (s t : State) (hx : exec i s = .next t) : s.Keeps t := by
  cases i with
  | epochBoundary r => exact execEpochBoundary_keeps r s t hx
  | ingressPipeSlot pipe ready0 ready1 => exact State.Keeps.out (execIngressPipeSlot_fr pipe ready0 ready1 s) hx
  | packetEntry port fid f => exact State.Keeps.out (execPacketEntry_fr port fid f s) hx
  | bankCycleServe store bank => exact State.Keeps.out (execBankCycleServe_fr store bank s) hx
  | lookupResult req => exact State.Keeps.out (execLookupResult_fr req s) hx
  | ingressDecision pid => exact State.Keeps.out (execIngressDecision_fr pid s) hx
  | cloisterReturn pid => exact State.Keeps.out (execCloisterReturn_fr pid s) hx
  | macRxFrameEnd port fid f => exact State.Keeps.out (execMacRxFrameEnd_fr port fid f s) hx
  | macControlFrameRx port c => exact State.Keeps.out (execMacControlFrameRx_fr port c s) hx
  | pauseTimerExpiry port timer => exact State.Keeps.out (execPauseTimerExpiry_fr port timer s) hx
  | xoffRequest port prio => exact State.Keeps.out (execXoffRequest_fr port prio s) hx
  | xoffResend port prio => exact State.Keeps.out (execXoffResend_fr port prio s) hx
  | icvVerdict pid ok => exact State.Keeps.out (execIcvVerdict_fr pid ok s) hx
  | tagResolve tag => exact State.Keeps.out (execTagResolve_fr tag s) hx
  | rollbackZeroWrite tag => exact State.Keeps.out (execRollbackZeroWrite_fr tag s) hx
  | rollbackFree tag => exact State.Keeps.out (execRollbackFree_fr tag s) hx
  | specTagReturn tag => exact State.Keeps.out (execSpecTagReturn_fr tag s) hx
  | admitHead pid => exact State.Keeps.out (execAdmitHead_fr pid s) hx
  | stageATransfer slice errs => exact State.Keeps.out (execStageATransfer_fr slice errs s) hx
  | freeLand part => exact State.Keeps.out (execFreeLand_fr part s) hx
  | freeListRebuildDone part bank => exact State.Keeps.out (execFreeListRebuildDone_fr part bank s) hx
  | handOver port => exact State.Keeps.out (execHandOver_fr port s) hx
  | shaperRefill => exact State.Keeps.out (execShaperRefill_fr  s) hx
  | portMatch slice => exact State.Keeps.out (execPortMatch_fr slice s) hx
  | stageBRead slice part err => exact State.Keeps.out (execStageBRead_fr slice part err s) hx
  | reseqRelease slice => exact State.Keeps.out (execReseqRelease_fr slice s) hx
  | reseqTimeout cid => exact State.Keeps.out (execReseqTimeout_fr cid s) hx
  | egressEdit cid => exact State.Keeps.out (execEgressEdit_fr cid s) hx
  | macFrameStart port pcsPs => exact State.Keeps.out (execMacFrameStart_fr port pcsPs s) hx
  | txFrameEnd port sent => exact State.Keeps.out (execTxFrameEnd_fr port sent s) hx
  | cipherBlockMismatch engine agree obj => exact State.Keeps.out (execCipherBlockMismatch_fr engine agree obj s) hx
  | laMessageRequest m => exact State.Keeps.out (execLaMessageRequest_fr m s) hx
  | laMessageComplete => exact State.Keeps.out (execLaMessageComplete_fr  s) hx
  | laPriorityAge id => exact State.Keeps.out (execLaPriorityAge_fr id s) hx
  | laneCalibrationDone tile failed => exact State.Keeps.out (execLaneCalibrationDone_fr tile failed s) hx
  | laneStateAdvance lane inverted fir => exact State.Keeps.out (execLaneStateAdvance_fr lane inverted fir s) hx
  | laneBringupTimeout lane => exact State.Keeps.out (execLaneBringupTimeout_fr lane s) hx
  | laneLos lane => exact State.Keeps.out (execLaneLos_fr lane s) hx
  | laneCdrUnlock lane => exact State.Keeps.out (execLaneCdrUnlock_fr lane s) hx
  | laneAmLoss lane => exact State.Keeps.out (execLaneAmLoss_fr lane s) hx
  | laneRestartHoldoff lane => exact State.Keeps.out (execLaneRestartHoldoff_fr lane s) hx
  | laneRecovered lane => exact State.Keeps.out (execLaneRecovered_fr lane s) hx
  | laneOrderWindowEnd octet evidence => exact State.Keeps.out (execLaneOrderWindowEnd_fr octet evidence s) hx
  | laneSerIntervalEnd lane symErr => exact State.Keeps.out (execLaneSerIntervalEnd_fr lane symErr s) hx
  | eyeScanPointDone lane count => exact State.Keeps.out (execEyeScanPointDone_fr lane count s) hx
  | anResolve port partner => exact State.Keeps.out (execAnResolve_fr port partner s) hx
  | rawLinkChange port aligned localFault remoteFault => exact State.Keeps.out (execRawLinkChange_fr port aligned localFault remoteFault s) hx
  | linkDownDebounceExpiry port => exact State.Keeps.out (execLinkDownDebounceExpiry_fr port s) hx
  | linkUpDebounceExpiry port => exact State.Keeps.out (execLinkUpDebounceExpiry_fr port s) hx
  | portDownPolicy port => exact State.Keeps.out (execPortDownPolicy_fr port s) hx
  | portHoldExpired port => exact State.Keeps.out (execPortHoldExpired_fr port s) hx
  | pfcWatchdog queue => exact State.Keeps.out (execPfcWatchdog_fr queue s) hx
  | pfcWdRestored queue => exact State.Keeps.out (execPfcWdRestored_fr queue s) hx
  | gateTakeover port => exact State.Keeps.out (execGateTakeover_fr port s) hx
  | gateTransition port => exact State.Keeps.out (execGateTransition_fr port s) hx
  | timeEventReach domain => exact State.Keeps.out (execTimeEventReach_fr domain s) hx
  | hostWdExpiry domain => exact State.Keeps.out (execHostWdExpiry_fr domain s) hx
  | holdMaxExpiry domain => exact State.Keeps.out (execHoldMaxExpiry_fr domain s) hx
  | ppsOutEdge pin => exact State.Keeps.out (execPpsOutEdge_fr pin s) hx
  | ppsOutEdgeEnd pin => exact State.Keeps.out (execPpsOutEdgeEnd_fr pin s) hx
  | ppsInEdge pin widthNs => exact State.Keeps.out (execPpsInEdge_fr pin widthNs s) hx
  | ppsInLost pin => exact State.Keeps.out (execPpsInLost_fr pin s) hx
  | ref10mGateEnd offset => exact State.Keeps.out (execRef10mGateEnd_fr offset s) hx
  | ref10mLost => exact State.Keeps.out (execRef10mLost_fr  s) hx
  | timeSnapshotCapture byWrite byPps => exact State.Keeps.out (execTimeSnapshotCapture_fr byWrite byPps s) hx
  | streamIntervalClose stream => exact State.Keeps.out (execStreamIntervalClose_fr stream s) hx
  | exportPacketGenerate stream => exact State.Keeps.out (execExportPacketGenerate_fr stream s) hx
  | queueReportGenerate queue => exact State.Keeps.out (execQueueReportGenerate_fr queue s) hx
  | ruleWriteLand => exact State.Keeps.out (execRuleWriteLand_fr  s) hx
  | maquetteCommitAccept => exact State.Keeps.out (execMaquetteCommitAccept_fr  s) hx
  | turnstileGrant store bank writeBack => exact State.Keeps.out (execTurnstileGrant_fr store bank writeBack s) hx
  | stashWrite table => exact State.Keeps.out (execStashWrite_fr table s) hx
  | stashReinsertPeriod table => exact State.Keeps.out (execStashReinsertPeriod_fr table s) hx
  | patinaPassStart table => exact State.Keeps.out (execPatinaPassStart_fr table s) hx
  | learnService => exact State.Keeps.out (execLearnService_fr  s) hx
  | scrubRead store bank found => exact State.Keeps.out (execScrubRead_fr store bank found s) hx
  | lockExpired lock => exact State.Keeps.out (execLockExpired_fr lock s) hx
  | armJobStart engine => exact State.Keeps.out (execArmJobStart_fr engine s) hx
  | microwordExecute engine found => exact State.Keeps.out (execMicrowordExecute_fr engine found s) hx
  | armMemComplete engine => exact State.Keeps.out (execArmMemComplete_fr engine s) hx
  | routineEnd engine => exact State.Keeps.out (execRoutineEnd_fr engine s) hx
  | armPatchQuiesced => exact State.Keeps.out (execArmPatchQuiesced_fr  s) hx
  | armPatchActivateTimeout => exact State.Keeps.out (execArmPatchActivateTimeout_fr  s) hx
  | partitionDrainEnd part => exact State.Keeps.out (execPartitionDrainEnd_fr part s) hx
  | drainLimitExpiry part => exact State.Keeps.out (execDrainLimitExpiry_fr part s) hx
  | partitionRebuildDone part => exact State.Keeps.out (execPartitionRebuildDone_fr part s) hx
  | bankSpareCopy store bank found => exact State.Keeps.out (execBankSpareCopy_fr store bank found s) hx
  | partitionBankDrained part bank => exact State.Keeps.out (execPartitionBankDrained_fr part bank s) hx
  | faultRaise source inst detail => exact State.Keeps.out (execFaultRaise_fr source inst detail s) hx
  | permanenceClear source inst => exact State.Keeps.out (execPermanenceClear_fr source inst s) hx
  | wireFault source inst => exact State.Keeps.out (execWireFault_fr source inst s) hx
  | wireUnmask source => exact State.Keeps.out (execWireUnmask_fr source s) hx
  | eccWriteBack addr => exact State.Keeps.out (execEccWriteBack_fr addr s) hx
  | msixSignal rid => exact State.Keeps.out (execMsixSignal_fr rid s) hx
  | cpuQueueDeliver ring capacity => exact State.Keeps.out (execCpuQueueDeliver_fr ring capacity s) hx
  | txDescriptorFetch ring d => exact State.Keeps.out (execTxDescriptorFetch_fr ring d s) hx
  | pipeInjectSlot pipe => exact State.Keeps.out (execPipeInjectSlot_fr pipe s) hx
  | commandFetch h opcode => exact execCommandFetch_keeps h opcode s t hx
  | relayTimeout id => exact State.Keeps.out (execRelayTimeout_fr id s) hx
  | groupPrepared => exact State.Keeps.out (execGroupPrepared_fr  s) hx
  | groupPrepareTimeout => exact State.Keeps.out (execGroupPrepareTimeout_fr  s) hx
  | groupAbandoned => exact State.Keeps.out (execGroupAbandoned_fr  s) hx
  | colonnadeFrameRx f tagOk cwOk => exact State.Keeps.out (execColonnadeFrameRx_fr f tagOk cwOk s) hx
  | colonnadeResend => exact State.Keeps.out (execColonnadeResend_fr  s) hx
  | colonnadeKeyRollover => exact State.Keeps.out (execColonnadeKeyRollover_fr  s) hx
  | colonnadeHelloRx m => exact State.Keeps.out (execColonnadeHelloRx_fr m s) hx
  | mirrorRx txn opcode value => exact State.Keeps.out (execMirrorRx_fr txn opcode value s) hx
  | prepareRx txn opcode => exact State.Keeps.out (execPrepareRx_fr txn opcode s) hx
  | ackRx txn status detail epoch => exact execAckRx_keeps txn status detail epoch s t hx
  | commitRx txn epoch => exact State.Keeps.out (execCommitRx_fr txn epoch s) hx
  | twinAckTimeout txn => exact State.Keeps.out (execTwinAckTimeout_fr txn s) hx
  | followCommitDeadline txn => exact State.Keeps.out (execFollowCommitDeadline_fr txn s) hx
  | leadCommitAckCheck txn => exact State.Keeps.out (execLeadCommitAckCheck_fr txn s) hx
  | heartbeatRx role state version lastTxn => exact State.Keeps.out (execHeartbeatRx_fr role state version lastTxn s) hx
  | heartbeatIntervalMissed => exact State.Keeps.out (execHeartbeatIntervalMissed_fr  s) hx
  | planeDownFrameSend => exact State.Keeps.out (execPlaneDownFrameSend_fr  s) hx
  | twinTimeRx t m => exact State.Keeps.out (execTwinTimeRx_fr t m s) hx
  | epochAlign m extra => exact State.Keeps.out (execEpochAlign_fr m extra s) hx
  | resyncStart => exact State.Keeps.out (execResyncStart_fr  s) hx
  | resyncRx id payload => exact State.Keeps.out (execResyncRx_fr id payload s) hx
  | resyncDigestCompare peer peerConfig peerCount => exact State.Keeps.out (execResyncDigestCompare_fr peer peerConfig peerCount s) hx
  | twinThrottleRx n => exact State.Keeps.out (execTwinThrottleRx_fr n s) hx
  | ringFrameRx west f => exact State.Keeps.out (execRingFrameRx_fr west f s) hx
  | relayedCommandRx src h opcode => exact execRelayedCommandRx_keeps src h opcode s t hx
  | ringReplyRx id status rest result addr => exact State.Keeps.out (execRingReplyRx_fr id status rest result addr s) hx
  | ringEventRx dev ring record => exact State.Keeps.out (execRingEventRx_fr dev ring record s) hx
  | ringThrottleRx src n => exact State.Keeps.out (execRingThrottleRx_fr src n s) hx
  | ringEnumRx src west hops => exact State.Keeps.out (execRingEnumRx_fr src west hops s) hx
  | ringEnumReplyRx replies => exact State.Keeps.out (execRingEnumReplyRx_fr replies s) hx
  | ringJoinRx src => exact State.Keeps.out (execRingJoinRx_fr src s) hx
  | ringEnumeratePeriod => exact State.Keeps.out (execRingEnumeratePeriod_fr  s) hx
  | ringBreak west => exact State.Keeps.out (execRingBreak_fr west s) hx
  | ringRestored west => exact State.Keeps.out (execRingRestored_fr west s) hx
  | ringWakeDetect => exact State.Keeps.out (execRingWakeDetect_fr  s) hx
  | wakeWaveEnd west => exact State.Keeps.out (execWakeWaveEnd_fr west s) hx
  | governorDecision => exact State.Keeps.out (execGovernorDecision_fr  s) hx
  | avsAck => exact State.Keeps.out (execAvsAck_fr  s) hx
  | avsSettle => exact State.Keeps.out (execAvsSettle_fr  s) hx
  | avsWriteFail => exact State.Keeps.out (execAvsWriteFail_fr  s) hx
  | avsRetryPeriod => exact State.Keeps.out (execAvsRetryPeriod_fr  s) hx
  | thermalComparatorTrip tc tj => exact State.Keeps.out (execThermalComparatorTrip_fr tc tj s) hx
  | timeCompareTrip cmp => exact State.Keeps.out (execTimeCompareTrip_fr cmp s) hx
  | supplyLow cmp mv => exact State.Keeps.out (execSupplyLow_fr cmp mv s) hx
  | extLevelTrip cmp mv => exact State.Keeps.out (execExtLevelTrip_fr cmp mv s) hx
  | wakeNLow => exact State.Keeps.out (execWakeNLow_fr  s) hx
  | thermtrip => exact State.Keeps.out (execThermtrip_fr  s) hx
  | gatehouseClockLost => exact State.Keeps.out (execGatehouseClockLost_fr  s) hx
  | gatehousePowerUp => exact execGatehousePowerUp_keeps  s t hx
  | perstAssert => exact execPerstAssert_keeps  s t hx
  | coreResetRelease straps railsMv clockStable => exact execCoreResetRelease_keeps straps railsMv clockStable s t hx
  | arrayInitDone => exact State.Keeps.out (execArrayInitDone_fr  s) hx
  | bootRomStart romOk fusesOk leafBurnOk romHash slotA slotB => exact execBootRomStart_keeps romOk fusesOk leafBurnOk romHash slotA slotB s t hx
  | firmwareStart => exact State.Keeps.out (execFirmwareStart_fr  s) hx
  | firmwareInitDone seedHigh seedLow => exact State.Keeps.out (execFirmwareInitDone_fr seedHigh seedLow s) hx
  | hssTreeReady => exact State.Keeps.out (execHssTreeReady_fr  s) hx
  | pcieFunctionReset func linkDown => exact State.Keeps.out (execPcieFunctionReset_fr func linkDown s) hx
  | ringDoorbellWrite func rid value => exact State.Keeps.out (execRingDoorbellWrite_fr func rid value s) hx
  | ringControlWrite func rid value => exact State.Keeps.out (execRingControlWrite_fr func rid value s) hx
  | eventStatusW1c group mask raisedSameClock => exact State.Keeps.out (execEventStatusW1c_fr group mask raisedSameClock s) hx
  | tableLockReleaseWrite func mask => exact State.Keeps.out (execTableLockReleaseWrite_fr func mask s) hx
  | turnstileTicketsWrite value => exact State.Keeps.out (execTurnstileTicketsWrite_fr value s) hx
  | turnstileStarvedW1c mask => exact State.Keeps.out (execTurnstileStarvedW1c_fr mask s) hx
  | snapTrigger value => exact State.Keeps.out (execSnapTrigger_fr value s) hx
  | perfFreezeWrite value => exact State.Keeps.out (execPerfFreezeWrite_fr value s) hx
  | firstErrorValidW1c value => exact State.Keeps.out (execFirstErrorValidW1c_fr value s) hx
  | counterLowHalfRead func offset => exact State.Keeps.out (execCounterLowHalfRead_fr func offset s) hx
  | bar0Violation kind func width offset write => exact State.Keeps.out (execBar0Violation_fr kind func width offset write s) hx
  | registerWrite func offset width value => exact State.Keeps.out (execRegisterWrite_fr func offset width value s) hx
  | smbusBlockRead code => exact State.Keeps.out (execSmbusBlockRead_fr code s) hx
  | jtagInstruction instr => exact State.Keeps.out (execJtagInstruction_fr instr s) hx
  | hello h lowMaj lowMin highMaj highMin telemetry => exact State.Keeps.next (s.serve_keeps _ _ fun _ _ => Rule.Keeps.ofFr (cmdHello_fr ..)) hx
  | goodbye h => exact State.Keeps.next (s.serve_keeps _ _ fun _ _ => Rule.Keeps.ofFr (cmdGoodbye_fr ..)) hx
  | deviceStateGet h => exact State.Keeps.next (s.serve_keeps _ _ fun _ _ => Rule.Keeps.ofFr (cmdDeviceStateGet_fr ..)) hx
  | deviceStateSet h target => exact State.Keeps.next (s.serve_keeps _ _ fun _ _ => Rule.Keeps.ofFr (cmdDeviceStateSet_fr ..)) hx
  | cpuQueueMapSet h queue ring => exact State.Keeps.next (s.serve_keeps _ _ fun _ _ => Rule.Keeps.ofFr (cmdCpuQueueMapSet_fr ..)) hx
  | eventRouteSet h group enable ring => exact State.Keeps.next (s.serve_keeps _ _ fun _ _ => Rule.Keeps.ofFr (cmdEventRouteSet_fr ..)) hx
  | eventStatusGet h group => exact State.Keeps.next (s.serve_keeps _ _ fun _ _ => Rule.Keeps.ofFr (cmdEventStatusGet_fr ..)) hx
  | eventStatusClear h group mask => exact State.Keeps.next (s.serve_keeps _ _ fun _ _ => Rule.Keeps.ofFr (cmdEventStatusClear_fr ..)) hx
  | sessionStatsGet h sel clear => exact State.Keeps.next (s.serve_keeps _ _ fun _ _ => Rule.Keeps.ofFr (cmdSessionStatsGet_fr ..)) hx
  | echo h data => exact State.Keeps.next (s.serve_keeps _ _ fun _ _ => Rule.Keeps.ofFr (cmdEcho_fr ..)) hx
  | groupOpen h => exact State.Keeps.next (s.serve_keeps _ _ fun _ _ => Rule.Keeps.ofFr (cmdGroupOpen_fr ..)) hx
  | groupCommit h target => exact execGroupCommit_keeps _ _ s t hx
  | groupDiscard h => exact State.Keeps.next (s.serve_keeps _ _ fun _ _ => Rule.Keeps.ofFr (cmdGroupDiscard_fr ..)) hx
  | groupStatusGet h => exact State.Keeps.next (s.serve_keeps _ _ fun _ _ => Rule.Keeps.ofFr (cmdGroupStatusGet_fr ..)) hx
  | portModeSet h octet rate mask => exact State.Keeps.next (s.serve_keeps _ _ fun _ _ => Rule.Keeps.ofFr (cmdPortModeSet_fr ..)) hx
  | portConfigSet h port record fields => exact State.Keeps.next (s.serve_keeps _ _ fun _ _ => Rule.Keeps.ofFr (cmdPortConfigSet_fr ..)) hx
  | portEnable h port on => exact State.Keeps.next (s.serve_keeps _ _ fun _ _ => Rule.Keeps.ofFr (cmdPortEnable_fr ..)) hx
  | portStatusGet h port => exact State.Keeps.next (s.serve_keeps _ _ fun _ _ => Rule.Keeps.ofFr (cmdPortStatusGet_fr ..)) hx
  | portStatsGet h port clear => exact State.Keeps.next (s.serve_keeps _ _ fun _ _ => Rule.Keeps.ofFr (cmdPortStatsGet_fr ..)) hx
  | octetLayoutGet h octet => exact State.Keeps.next (s.serve_keeps _ _ fun _ _ => Rule.Keeps.ofFr (cmdOctetLayoutGet_fr ..)) hx
  | laneConfigSet h lane record fields trainMs serExp holdoffMs => exact State.Keeps.next (s.serve_keeps _ _ fun _ _ => Rule.Keeps.ofFr (cmdLaneConfigSet_fr ..)) hx
  | laneStatusGet h lane => exact State.Keeps.next (s.serve_keeps _ _ fun _ _ => Rule.Keeps.ofFr (cmdLaneStatusGet_fr ..)) hx
  | laneStatsGet h lane clear => exact State.Keeps.next (s.serve_keeps _ _ fun _ _ => Rule.Keeps.ofFr (cmdLaneStatsGet_fr ..)) hx
  | eyeScanStart h lane eye phaseStart phaseStep phaseCount voltStart voltStep voltCount dwellExp => exact State.Keeps.next (s.serve_keeps _ _ fun _ _ => Rule.Keeps.ofFr (cmdEyeScanStart_fr ..)) hx
  | eyeScanRead h scan first count => exact State.Keeps.next (s.serve_keeps _ _ fun _ _ => Rule.Keeps.ofFr (cmdEyeScanRead_fr ..)) hx
  | eyeScanAbort h scan => exact State.Keeps.next (s.serve_keeps _ _ fun _ _ => Rule.Keeps.ofFr (cmdEyeScanAbort_fr ..)) hx
  | laneRetire h lane => exact State.Keeps.next (s.serve_keeps _ _ fun _ _ => Rule.Keeps.ofFr (cmdLaneRetire_fr ..)) hx
  | laneRestore h lane passes => exact State.Keeps.next (s.serve_keeps _ _ fun _ _ => Rule.Keeps.ofFr (cmdLaneRestore_fr ..)) hx
  | lanePrbsSet h lane gen chk => exact State.Keeps.next (s.serve_keeps _ _ fun _ _ => Rule.Keeps.ofFr (cmdLanePrbsSet_fr ..)) hx
  | laneLoopbackSet h lane mode => exact State.Keeps.next (s.serve_keeps _ _ fun _ _ => Rule.Keeps.ofFr (cmdLaneLoopbackSet_fr ..)) hx
  | octetOrderSet h octet mode => exact State.Keeps.next (s.serve_keeps _ _ fun _ _ => Rule.Keeps.ofFr (cmdOctetOrderSet_fr ..)) hx
  | tableCreate h table r => exact State.Keeps.next (s.serve_keeps _ _ fun _ _ => Rule.Keeps.ofFr (cmdTableCreate_fr ..)) hx
  | tableDelete h table => exact State.Keeps.next (s.serve_keeps _ _ fun _ _ => Rule.Keeps.ofFr (cmdTableDelete_fr ..)) hx
  | tableStatusGet h table => exact State.Keeps.next (s.serve_keeps _ _ fun _ _ => Rule.Keeps.ofFr (cmdTableStatusGet_fr ..)) hx
  | tableSeedSet h table seed0 seed1 => exact State.Keeps.next (s.serve_keeps _ _ fun _ _ => Rule.Keeps.ofFr (cmdTableSeedSet_fr ..)) hx
  | emEntryAdd h table key data static => exact State.Keeps.next (s.serve_keeps _ _ fun _ _ => Rule.Keeps.ofFr (cmdEmEntryAdd_fr ..)) hx
  | emEntryDelete h table key => exact State.Keeps.next (s.serve_keeps _ _ fun _ _ => Rule.Keeps.ofFr (cmdEmEntryDelete_fr ..)) hx
  | emEntryRead h table key addr => exact State.Keeps.next (s.serve_keeps _ _ fun _ _ => Rule.Keeps.ofFr (cmdEmEntryRead_fr ..)) hx
  | directWrite h table index slot => exact State.Keeps.next (s.serve_keeps _ _ fun _ _ => Rule.Keeps.ofFr (cmdDirectWrite_fr ..)) hx
  | prefixAdd h family vrf length addr result => exact State.Keeps.next (s.serve_keeps _ _ fun _ _ => Rule.Keeps.ofFr (cmdPrefixAdd_fr ..)) hx
  | prefixDelete h family vrf length addr => exact State.Keeps.next (s.serve_keeps _ _ fun _ _ => Rule.Keeps.ofFr (cmdPrefixDelete_fr ..)) hx
  | prefixRead h family vrf length addr version => exact State.Keeps.next (s.serve_keeps _ _ fun _ _ => Rule.Keeps.ofFr (cmdPrefixRead_fr ..)) hx
  | lpmSeedSet h seed => exact State.Keeps.next (s.serve_keeps _ _ fun _ _ => Rule.Keeps.ofFr (cmdLpmSeedSet_fr ..)) hx
  | emProfileSet h prof r => exact State.Keeps.next (s.serve_keeps _ _ fun _ _ => Rule.Keeps.ofFr (cmdEmProfileSet_fr ..)) hx
  | lpmProfileSet h prof r => exact State.Keeps.next (s.serve_keeps _ _ fun _ _ => Rule.Keeps.ofFr (cmdLpmProfileSet_fr ..)) hx
  | nexthopTableSet h table => exact State.Keeps.next (s.serve_keeps _ _ fun _ _ => Rule.Keeps.ofFr (cmdNexthopTableSet_fr ..)) hx
  | counterRead h first count clear => exact State.Keeps.next (s.serve_keeps _ _ fun _ _ => Rule.Keeps.ofFr (cmdCounterRead_fr ..)) hx
  | counterClear h first count => exact State.Keeps.next (s.serve_keeps _ _ fun _ _ => Rule.Keeps.ofFr (cmdCounterClear_fr ..)) hx
  | lookupStatsGet h sel clear => exact State.Keeps.next (s.serve_keeps _ _ fun _ _ => Rule.Keeps.ofFr (cmdLookupStatsGet_fr ..)) hx
  | lockAcquire h firstBank bankCount firstBucket bucketCount lease => exact State.Keeps.next (s.serve_keeps _ _ fun _ _ => Rule.Keeps.ofFr (cmdLockAcquire_fr ..)) hx
  | lockRenew h lock lease => exact State.Keeps.next (s.serve_keeps _ _ fun _ _ => Rule.Keeps.ofFr (cmdLockRenew_fr ..)) hx
  | lockRelease h lock => exact State.Keeps.next (s.serve_keeps _ _ fun _ _ => Rule.Keeps.ofFr (cmdLockRelease_fr ..)) hx
  | lockStatusGet h lock => exact State.Keeps.next (s.serve_keeps _ _ fun _ _ => Rule.Keeps.ofFr (cmdLockStatusGet_fr ..)) hx
  | tableDmaWrite h lock bank firstBucket count images => exact State.Keeps.next (s.serve_keeps _ _ fun _ _ => Rule.Keeps.ofFr (cmdTableDmaWrite_fr ..)) hx
  | tableDmaRead h bank firstBucket count hostAddr => exact State.Keeps.next (s.serve_keeps _ _ fun _ _ => Rule.Keeps.ofFr (cmdTableDmaRead_fr ..)) hx
  | tableUpkeepSet h table r fields => exact State.Keeps.next (s.serve_keeps _ _ fun _ _ => Rule.Keeps.ofFr (cmdTableUpkeepSet_fr ..)) hx
  | scrubSet h period => exact State.Keeps.next (s.serve_keeps _ _ fun _ _ => Rule.Keeps.ofFr (cmdScrubSet_fr ..)) hx
  | upkeepStatsGet h sel clear => exact State.Keeps.next (s.serve_keeps _ _ fun _ _ => Rule.Keeps.ofFr (cmdUpkeepStatsGet_fr ..)) hx
  | maquetteOpen h => exact State.Keeps.next (s.serve_keeps _ _ fun _ _ => Rule.Keeps.ofFr (cmdMaquetteOpen_fr ..)) hx
  | maquetteCommit h target => exact State.Keeps.next (s.serve_keeps _ _ fun _ _ => Rule.Keeps.ofFr (cmdMaquetteCommit_fr ..)) hx
  | maquetteDiscard h => exact State.Keeps.next (s.serve_keeps _ _ fun _ _ => Rule.Keeps.ofFr (cmdMaquetteDiscard_fr ..)) hx
  | ruleAdd h r => exact State.Keeps.next (s.serve_keeps _ _ fun _ _ => Rule.Keeps.ofFr (cmdRuleAdd_fr ..)) hx
  | objectDelete h kind index => exact State.Keeps.next (s.serve_keeps _ _ fun _ _ => Rule.Keeps.ofFr (cmdObjectDelete_fr ..)) hx
  | ruleRead h kind slot => exact State.Keeps.next (s.serve_keeps _ _ fun _ _ => Rule.Keeps.ofFr (cmdRuleRead_fr ..)) hx
  | rangeSet h cmp extract low high => exact State.Keeps.next (s.serve_keeps _ _ fun _ _ => Rule.Keeps.ofFr (cmdRangeSet_fr ..)) hx
  | parseEntrySet h slot record => exact State.Keeps.next (s.serve_keeps _ _ fun _ _ => Rule.Keeps.ofFr (cmdParseEntrySet_fr ..)) hx
  | keyProfileSet h dir id extracts rangeGroup => exact State.Keeps.next (s.serve_keeps _ _ fun _ _ => Rule.Keeps.ofFr (cmdKeyProfileSet_fr ..)) hx
  | editProfileSet h id ops => exact State.Keeps.next (s.serve_keeps _ _ fun _ _ => Rule.Keeps.ofFr (cmdEditProfileSet_fr ..)) hx
  | templateSet h id bytes => exact State.Keeps.next (s.serve_keeps _ _ fun _ _ => Rule.Keeps.ofFr (cmdTemplateSet_fr ..)) hx
  | mirrorSessionSet h session toCpu dest trunc => exact State.Keeps.next (s.serve_keeps _ _ fun _ _ => Rule.Keeps.ofFr (cmdMirrorSessionSet_fr ..)) hx
  | egressBind h port profile => exact State.Keeps.next (s.serve_keeps _ _ fun _ _ => Rule.Keeps.ofFr (cmdEgressBind_fr ..)) hx
  | versionStatusGet h => exact State.Keeps.next (s.serve_keeps _ _ fun _ _ => Rule.Keeps.ofFr (cmdVersionStatusGet_fr ..)) hx
  | parseStatsGet h pipe clear => exact State.Keeps.next (s.serve_keeps _ _ fun _ _ => Rule.Keeps.ofFr (cmdParseStatsGet_fr ..)) hx
  | queueModeSet h octet q16 => exact State.Keeps.next (s.serve_keeps _ _ fun _ _ => Rule.Keeps.ofFr (cmdQueueModeSet_fr ..)) hx
  | queueSchedSet h queue record fields => exact State.Keeps.next (s.serve_keeps _ _ fun _ _ => Rule.Keeps.ofFr (cmdQueueSchedSet_fr ..)) hx
  | queueSchedGet h queue => exact State.Keeps.next (s.serve_keeps _ _ fun _ _ => Rule.Keeps.ofFr (cmdQueueSchedGet_fr ..)) hx
  | shaperSet h isPort index record => exact State.Keeps.next (s.serve_keeps _ _ fun _ _ => Rule.Keeps.ofFr (cmdShaperSet_fr ..)) hx
  | shaperGet h isPort index => exact State.Keeps.next (s.serve_keeps _ _ fun _ _ => Rule.Keeps.ofFr (cmdShaperGet_fr ..)) hx
  | portSchedSet h port record fields => exact State.Keeps.next (s.serve_keeps _ _ fun _ _ => Rule.Keeps.ofFr (cmdPortSchedSet_fr ..)) hx
  | tcMapSet h port map => exact State.Keeps.next (s.serve_keeps _ _ fun _ _ => Rule.Keeps.ofFr (cmdTcMapSet_fr ..)) hx
  | portSchedGet h port => exact State.Keeps.next (s.serve_keeps _ _ fun _ _ => Rule.Keeps.ofFr (cmdPortSchedGet_fr ..)) hx
  | gateListSet h port g => exact State.Keeps.next (s.serve_keeps _ _ fun _ _ => Rule.Keeps.ofFr (cmdGateListSet_fr ..)) hx
  | gateListClear h port => exact State.Keeps.next (s.serve_keeps _ _ fun _ _ => Rule.Keeps.ofFr (cmdGateListClear_fr ..)) hx
  | gateStatusGet h port => exact State.Keeps.next (s.serve_keeps _ _ fun _ _ => Rule.Keeps.ofFr (cmdGateStatusGet_fr ..)) hx
  | egressStatsGet h isPort index clear => exact State.Keeps.next (s.serve_keeps _ _ fun _ _ => Rule.Keeps.ofFr (cmdEgressStatsGet_fr ..)) hx
  | bufferPoolSet h sizes pushout => exact State.Keeps.next (s.serve_keeps _ _ fun _ _ => Rule.Keeps.ofFr (cmdBufferPoolSet_fr ..)) hx
  | bufferPoolGet h => exact State.Keeps.next (s.serve_keeps _ _ fun _ _ => Rule.Keeps.ofFr (cmdBufferPoolGet_fr ..)) hx
  | queueAdmitSet h queue record fields => exact State.Keeps.next (s.serve_keeps _ _ fun _ _ => Rule.Keeps.ofFr (cmdQueueAdmitSet_fr ..)) hx
  | queueAdmitGet h queue => exact State.Keeps.next (s.serve_keeps _ _ fun _ _ => Rule.Keeps.ofFr (cmdQueueAdmitGet_fr ..)) hx
  | pgSet h port prio xoff xon headroom => exact State.Keeps.next (s.serve_keeps _ _ fun _ _ => Rule.Keeps.ofFr (cmdPgSet_fr ..)) hx
  | bufferStatsGet h sel clear => exact State.Keeps.next (s.serve_keeps _ _ fun _ _ => Rule.Keeps.ofFr (cmdBufferStatsGet_fr ..)) hx
  | bufferCellRead h first count => exact State.Keeps.next (s.serve_keeps _ _ fun _ _ => Rule.Keeps.ofFr (cmdBufferCellRead_fr ..)) hx
  | trellisRetire h e drainLimit => exact State.Keeps.next (s.serve_keeps _ _ fun _ _ => Rule.Keeps.ofFr (cmdTrellisRetire_fr ..)) hx
  | trellisRestore h e => exact State.Keeps.next (s.serve_keeps _ _ fun _ _ => Rule.Keeps.ofFr (cmdTrellisRestore_fr ..)) hx
  | trellisStatusGet h e => exact State.Keeps.next (s.serve_keeps _ _ fun _ _ => Rule.Keeps.ofFr (cmdTrellisStatusGet_fr ..)) hx
  | mcastGroupSet h group self members => exact State.Keeps.next (s.serve_keeps _ _ fun _ _ => Rule.Keeps.ofFr (cmdMcastGroupSet_fr ..)) hx
  | mcastGroupGet h group => exact State.Keeps.next (s.serve_keeps _ _ fun _ _ => Rule.Keeps.ofFr (cmdMcastGroupGet_fr ..)) hx
  | mcastGroupDelete h group => exact State.Keeps.next (s.serve_keeps _ _ fun _ _ => Rule.Keeps.ofFr (cmdMcastGroupDelete_fr ..)) hx
  | cutThroughSet h port en start => exact State.Keeps.next (s.serve_keeps _ _ fun _ _ => Rule.Keeps.ofFr (cmdCutThroughSet_fr ..)) hx
  | trellisStatsGet h sel clear => exact State.Keeps.next (s.serve_keeps _ _ fun _ _ => Rule.Keeps.ofFr (cmdTrellisStatsGet_fr ..)) hx
  | timeDomainSet h domain adj hostWd holdMax => exact State.Keeps.next (s.serve_keeps _ _ fun _ _ => Rule.Keeps.ofFr (cmdTimeDomainSet_fr ..)) hx
  | timeGet h domain => exact State.Keeps.next (s.serve_keeps _ _ fun _ _ => Rule.Keeps.ofFr (cmdTimeGet_fr ..)) hx
  | timeSet h domain sec ns frac atPps => exact State.Keeps.next (s.serve_keeps _ _ fun _ _ => Rule.Keeps.ofFr (cmdTimeSet_fr ..)) hx
  | timeStep h domain backward sec ns frac => exact State.Keeps.next (s.serve_keeps _ _ fun _ _ => Rule.Keeps.ofFr (cmdTimeStep_fr ..)) hx
  | timeAdjust h domain adj => exact State.Keeps.next (s.serve_keeps _ _ fun _ _ => Rule.Keeps.ofFr (cmdTimeAdjust_fr ..)) hx
  | timeHoldover h domain enter => exact State.Keeps.next (s.serve_keeps _ _ fun _ _ => Rule.Keeps.ofFr (cmdTimeHoldover_fr ..)) hx
  | timeStatusGet h domain => exact State.Keeps.next (s.serve_keeps _ _ fun _ _ => Rule.Keeps.ofFr (cmdTimeStatusGet_fr ..)) hx
  | timePortSet h port record fields => exact State.Keeps.next (s.serve_keeps _ _ fun _ _ => Rule.Keeps.ofFr (cmdTimePortSet_fr ..)) hx
  | timePortGet h port => exact State.Keeps.next (s.serve_keeps _ _ fun _ _ => Rule.Keeps.ofFr (cmdTimePortGet_fr ..)) hx
  | ppsSet h pin dir domain activeLow offsetNs widthNs => exact State.Keeps.next (s.serve_keeps _ _ fun _ _ => Rule.Keeps.ofFr (cmdPpsSet_fr ..)) hx
  | ppsRead h pin count => exact State.Keeps.next (s.serve_keeps _ _ fun _ _ => Rule.Keeps.ofFr (cmdPpsRead_fr ..)) hx
  | timeStatsGet h isPort index clear => exact State.Keeps.next (s.serve_keeps _ _ fun _ _ => Rule.Keeps.ofFr (cmdTimeStatsGet_fr ..)) hx
  | cipherPortSet h port record fields => exact State.Keeps.next (s.serve_keeps _ _ fun _ _ => Rule.Keeps.ofFr (cmdCipherPortSet_fr ..)) hx
  | cipherPortGet h port => exact State.Keeps.next (s.serve_keeps _ _ fun _ _ => Rule.Keeps.ofFr (cmdCipherPortGet_fr ..)) hx
  | scCreate h port dir sci replayProtect replayWindow pnThreshold => exact State.Keeps.next (s.serve_keeps _ _ fun _ _ => Rule.Keeps.ofFr (cmdScCreate_fr ..)) hx
  | scSet h sc dir replayProtect replayWindow pnThreshold => exact State.Keeps.next (s.serve_keeps _ _ fun _ _ => Rule.Keeps.ofFr (cmdScSet_fr ..)) hx
  | scDelete h sc dir => exact State.Keeps.next (s.serve_keeps _ _ fun _ _ => Rule.Keeps.ofFr (cmdScDelete_fr ..)) hx
  | saInstall h p => exact State.Keeps.next (s.serve_keeps _ _ fun _ _ => Rule.Keeps.ofFr (cmdSaInstall_fr ..)) hx
  | saDelete h sc dir an => exact State.Keeps.next (s.serve_keeps _ _ fun _ _ => Rule.Keeps.ofFr (cmdSaDelete_fr ..)) hx
  | txSaSelect h sc an => exact State.Keeps.next (s.serve_keeps _ _ fun _ _ => Rule.Keeps.ofFr (cmdTxSaSelect_fr ..)) hx
  | saStatusGet h sc dir an => exact State.Keeps.next (s.serve_keeps _ _ fun _ _ => Rule.Keeps.ofFr (cmdSaStatusGet_fr ..)) hx
  | cipherStatsGet h sel clear => exact State.Keeps.next (s.serve_keeps _ _ fun _ _ => Rule.Keeps.ofFr (cmdCipherStatsGet_fr ..)) hx
  | cipherEngineSet h engine count windowNs => exact State.Keeps.next (s.serve_keeps _ _ fun _ _ => Rule.Keeps.ofFr (cmdCipherEngineSet_fr ..)) hx
  | cipherEngineRestore h engine => exact State.Keeps.next (s.serve_keeps _ _ fun _ _ => Rule.Keeps.ofFr (cmdCipherEngineRestore_fr ..)) hx
  | laContextLoad h ctx kind wrapCtx key => exact State.Keeps.next (s.serve_keeps _ _ fun _ _ => Rule.Keeps.ofFr (cmdLaContextLoad_fr ..)) hx
  | laContextExport h ctx => exact State.Keeps.next (s.serve_keeps _ _ fun _ _ => Rule.Keeps.ofFr (cmdLaContextExport_fr ..)) hx
  | laContextImport h ctx b => exact State.Keeps.next (s.serve_keeps _ _ fun _ _ => Rule.Keeps.ofFr (cmdLaContextImport_fr ..)) hx
  | laContextClear h ctx => exact State.Keeps.next (s.serve_keeps _ _ fun _ _ => Rule.Keeps.ofFr (cmdLaContextClear_fr ..)) hx
  | laCrypt h ctx op iv aad data => exact State.Keeps.next (s.serve_keeps _ _ fun _ _ => Rule.Keeps.ofFr (cmdLaCrypt_fr ..)) hx
  | telemetryStreamSet h stream r fields => exact State.Keeps.next (s.serve_keeps _ _ fun _ _ => Rule.Keeps.ofFr (cmdTelemetryStreamSet_fr ..)) hx
  | telemetryStreamGet h stream => exact State.Keeps.next (s.serve_keeps _ _ fun _ _ => Rule.Keeps.ofFr (cmdTelemetryStreamGet_fr ..)) hx
  | queueReportSet h queue r fields => exact State.Keeps.next (s.serve_keeps _ _ fun _ _ => Rule.Keeps.ofFr (cmdQueueReportSet_fr ..)) hx
  | ioamSet h nodeId td namespaces => exact State.Keeps.next (s.serve_keeps _ _ fun _ _ => Rule.Keeps.ofFr (cmdIoamSet_fr ..)) hx
  | queueSampleGet h first count => exact State.Keeps.next (s.serve_keeps _ _ fun _ _ => Rule.Keeps.ofFr (cmdQueueSampleGet_fr ..)) hx
  | perfCounterSet h scope counter record => exact State.Keeps.next (s.serve_keeps _ _ fun _ _ => Rule.Keeps.ofFr (cmdPerfCounterSet_fr ..)) hx
  | telemetryStatsGet h sel clear => exact State.Keeps.next (s.serve_keeps _ _ fun _ _ => Rule.Keeps.ofFr (cmdTelemetryStatsGet_fr ..)) hx
  | powerCapSet h cap window margin => exact State.Keeps.next (s.serve_keeps _ _ fun _ _ => Rule.Keeps.ofFr (cmdPowerCapSet_fr ..)) hx
  | powerStatusGet h => exact State.Keeps.next (s.serve_keeps _ _ fun _ _ => Rule.Keeps.ofFr (cmdPowerStatusGet_fr ..)) hx
  | opHostSet h op => exact State.Keeps.next (s.serve_keeps _ _ fun _ _ => Rule.Keeps.ofFr (cmdOpHostSet_fr ..)) hx
  | thermalSet h en => exact State.Keeps.next (s.serve_keeps _ _ fun _ _ => Rule.Keeps.ofFr (cmdThermalSet_fr ..)) hx
  | comparatorSet h cmp f => exact State.Keeps.next (s.serve_keeps _ _ fun _ _ => Rule.Keeps.ofFr (cmdComparatorSet_fr ..)) hx
  | comparatorGet h cmp => exact State.Keeps.next (s.serve_keeps _ _ fun _ _ => Rule.Keeps.ofFr (cmdComparatorGet_fr ..)) hx
  | dormantEnter h wakeNEn => exact State.Keeps.next (s.serve_keeps _ _ fun _ _ => Rule.Keeps.ofFr (cmdDormantEnter_fr ..)) hx
  | deviceWake h west => exact State.Keeps.next (s.serve_keeps _ _ fun _ _ => Rule.Keeps.ofFr (cmdDeviceWake_fr ..)) hx
  | powerCompatSet h freqs => exact State.Keeps.next (s.serve_keeps _ _ fun _ _ => Rule.Keeps.ofFr (cmdPowerCompatSet_fr ..)) hx
  | castTableGet h => exact State.Keeps.next (s.serve_keeps _ _ fun _ _ => Rule.Keeps.ofFr (cmdCastTableGet_fr ..)) hx
  | faultReactionSet h source f => exact State.Keeps.next (s.serve_keeps _ _ fun _ _ => Rule.Keeps.ofFr (cmdFaultReactionSet_fr ..)) hx
  | faultReactionGet h source => exact State.Keeps.next (s.serve_keeps _ _ fun _ _ => Rule.Keeps.ofFr (cmdFaultReactionGet_fr ..)) hx
  | faultConfigSet h logMin firstMin isolatePorts => exact State.Keeps.next (s.serve_keeps _ _ fun _ _ => Rule.Keeps.ofFr (cmdFaultConfigSet_fr ..)) hx
  | faultLogRead h first count => exact State.Keeps.next (s.serve_keeps _ _ fun _ _ => Rule.Keeps.ofFr (cmdFaultLogRead_fr ..)) hx
  | faultFirstGet h => exact State.Keeps.next (s.serve_keeps _ _ fun _ _ => Rule.Keeps.ofFr (cmdFaultFirstGet_fr ..)) hx
  | faultFirstClear h => exact State.Keeps.next (s.serve_keeps _ _ fun _ _ => Rule.Keeps.ofFr (cmdFaultFirstClear_fr ..)) hx
  | faultStatusGet h source inst => exact State.Keeps.next (s.serve_keeps _ _ fun _ _ => Rule.Keeps.ofFr (cmdFaultStatusGet_fr ..)) hx
  | unitRetire h u => exact State.Keeps.next (s.serve_keeps _ _ fun _ _ => Rule.Keeps.ofFr (cmdUnitRetire_fr ..)) hx
  | unitFence h u => exact State.Keeps.next (s.serve_keeps _ _ fun _ _ => Rule.Keeps.ofFr (cmdUnitFence_fr ..)) hx
  | unitRestore h u => exact State.Keeps.next (s.serve_keeps _ _ fun _ _ => Rule.Keeps.ofFr (cmdUnitRestore_fr ..)) hx
  | faultStatsGet h sel clear => exact State.Keeps.next (s.serve_keeps _ _ fun _ _ => Rule.Keeps.ofFr (cmdFaultStatsGet_fr ..)) hx
  | faultInject h => exact State.Keeps.next (s.serve_keeps _ _ fun _ _ => Rule.Keeps.ofFr (cmdFaultInject_fr ..)) hx
  | twinBind h role peer peerId => exact State.Keeps.next (s.serve_keeps _ _ fun _ _ => Rule.Keeps.ofFr (cmdTwinBind_fr ..)) hx
  | twinUnbind h => exact State.Keeps.next (s.serve_keeps _ _ fun _ _ => Rule.Keeps.ofFr (cmdTwinUnbind_fr ..)) hx
  | twinJoin h => exact State.Keeps.next (s.serve_keeps _ _ fun _ _ => Rule.Keeps.ofFr (cmdTwinJoin_fr ..)) hx
  | twinDetach h => exact State.Keeps.next (s.serve_keeps _ _ fun _ _ => Rule.Keeps.ofFr (cmdTwinDetach_fr ..)) hx
  | twinRoleSwap h => exact State.Keeps.next (s.serve_keeps _ _ fun _ _ => Rule.Keeps.ofFr (cmdTwinRoleSwap_fr ..)) hx
  | twinDrain h on => exact State.Keeps.next (s.serve_keeps _ _ fun _ _ => Rule.Keeps.ofFr (cmdTwinDrain_fr ..)) hx
  | twinNotifySet h r fields => exact State.Keeps.next (s.serve_keeps _ _ fun _ _ => Rule.Keeps.ofFr (cmdTwinNotifySet_fr ..)) hx
  | twinStatusGet h => exact State.Keeps.next (s.serve_keeps _ _ fun _ _ => Rule.Keeps.ofFr (cmdTwinStatusGet_fr ..)) hx
  | ringStatusGet h => exact State.Keeps.next (s.serve_keeps _ _ fun _ _ => Rule.Keeps.ofFr (cmdRingStatusGet_fr ..)) hx
  | ringEnumerate h => exact State.Keeps.next (s.serve_keeps _ _ fun _ _ => Rule.Keeps.ofFr (cmdRingEnumerate_fr ..)) hx
  | twinStatsGet h clear => exact State.Keeps.next (s.serve_keeps _ _ fun _ _ => Rule.Keeps.ofFr (cmdTwinStatsGet_fr ..)) hx
  | armPatchLoad h first rest => exact State.Keeps.next (s.serve_keeps _ _ fun _ _ => Rule.Keeps.ofFr (cmdArmPatchLoad_fr ..)) hx
  | armPatchActivate h => exact State.Keeps.next (s.serve_keeps _ _ fun _ _ => Rule.Keeps.ofFr (cmdArmPatchActivate_fr ..)) hx
  | armPatchRevert h => exact State.Keeps.next (s.serve_keeps _ _ fun _ _ => Rule.Keeps.ofFr (cmdArmPatchRevert_fr ..)) hx
  | armPatchStatusGet h => exact State.Keeps.next (s.serve_keeps _ _ fun _ _ => Rule.Keeps.ofFr (cmdArmPatchStatusGet_fr ..)) hx
  | armEngineSet h restart live => exact State.Keeps.next (s.serve_keeps _ _ fun _ _ => Rule.Keeps.ofFr (cmdArmEngineSet_fr ..)) hx
  | armEngineStatusGet h engine => exact State.Keeps.next (s.serve_keeps _ _ fun _ _ => Rule.Keeps.ofFr (cmdArmEngineStatusGet_fr ..)) hx
  | armEngineRestore h engine => exact State.Keeps.next (s.serve_keeps _ _ fun _ _ => Rule.Keeps.ofFr (cmdArmEngineRestore_fr ..)) hx
  | armStatsGet h engine clear => exact State.Keeps.next (s.serve_keeps _ _ fun _ _ => Rule.Keeps.ofFr (cmdArmStatsGet_fr ..)) hx
  | bootStatusGet h => exact State.Keeps.next (s.serve_keeps _ _ fun _ _ => Rule.Keeps.ofFr (cmdBootStatusGet_fr ..)) hx
  | fwPush h offset chunk => exact State.Keeps.next (s.serve_keeps _ _ fun _ _ => Rule.Keeps.ofFr (cmdFwPush_fr ..)) hx
  | fwPushDone h high low => exact State.Keeps.next (s.serve_keeps _ _ fun _ _ => Rule.Keeps.ofFr (cmdFwPushDone_fr ..)) hx
  | fwFlashWrite h offset chunk => exact State.Keeps.next (s.serve_keeps _ _ fun _ _ => Rule.Keeps.ofFr (cmdFwFlashWrite_fr ..)) hx
  | fwFlashCommit h high low => exact State.Keeps.next (s.serve_keeps _ _ fun _ _ => Rule.Keeps.ofFr (cmdFwFlashCommit_fr ..)) hx
  | fwRestart h => exact execFwRestart_keeps _ s t hx
  | svnAdvance h v => exact State.Keeps.next (s.serve_keeps _ _ (cmdSvnAdvance_keeps _)) hx
  | keyRevoke h lms slot => exact State.Keeps.next (s.serve_keeps _ _ (cmdKeyRevoke_keeps _ _)) hx
  | identityCertGet h => exact State.Keeps.next (s.serve_keeps _ _ fun _ _ => Rule.Keeps.ofFr (cmdIdentityCertGet_fr ..)) hx
  | measurementGet h => exact State.Keeps.next (s.serve_keeps _ _ fun _ _ => Rule.Keeps.ofFr (cmdMeasurementGet_fr ..)) hx
  | attestReportGet h nonce => exact State.Keeps.next (s.serve_keeps _ _ (cmdAttestReportGet_keeps _)) hx
  | egressPipeSlot pipe ready0 ready1 => exact State.Keeps.out (execEgressPipeSlot_fr pipe ready0 ready1 s) hx
  | backgroundPortRead replica index found => exact State.Keeps.out (execBackgroundPortRead_fr replica index found s) hx
  | ringHopResend west => exact State.Keeps.out (execRingHopResend_fr west s) hx
  | laneSnrUpdate lane snr => exact State.Keeps.out (execLaneSnrUpdate_fr lane snr s) hx
  | powerDown => exact execPowerDown_keeps  s t hx

end Sys2Proof.Machine
end

