-- ==== Sys2Proof/Laws/Serve.lean ====
section
/-! SUPPORT. What the command unit does with a Slait command whose own effect comes: one lemma per outcome of its rules. -/

namespace Sys2Proof.Machine

theorem Starts.serve {s t : State} {h : Hdr} {c : Cmd} (hs : Starts s t h c) :
    s.serve c h = t.finish h c ((c.rule h t).fits h c) := by
  obtain ⟨h1, h2, h3, h4, h5, h6, h7⟩ := hs
  simp [State.serve, h1, h2, h3, State.verdict, h5, State.ruleOf, h4, h6, State.otherS]

theorem Rule.done_bytes (u : State) (st d : Nat) (res : BitVec 64) (pl : List Nat) (c : Cmd) (g : Bool) :
    (Rule.done u st d res pl).bytes c g ≤ c.replyNeed pl.length := by
  simp only [Rule.bytes, Cmd.replyNeed]
  split <;> omega

/-- A command that executes. -/
theorem Starts.done {s t u : State} {h : Hdr} {c : Cmd} {st d : Nat} {res : BitVec 64} {pl : List Nat}
    (hs : Starts s t h c) (hr : c.rule h t = .done u st d res pl) (hl : holds h c pl.length) :
    s.serve c h = u.answer h c.op c.extends st d res 0 pl := by
  rw [hs.serve, hr]
  have e : (Rule.done u st d res pl).fits h c = .done u st d res pl := by
    unfold holds at hl
    unfold Rule.fits
    split
    · next r f n ho =>
      simp only [ho] at hl
      exact if_neg (Nat.not_lt.mpr (le_trans (Rule.done_bytes ..) hl))
    · rfl
  rw [e]
  simp [State.finish, hs.own]

/-- A command that no bad data meets leaves the mark of bad data as it is. -/
theorem State.dataRead_of_good {t : State} {st : Nat} (h : t.faults.dataBad = false) : t.dataRead st = t := by
  have e : { t with faults.dataBad := false } = t := by rw [← h]
  unfold State.dataRead
  split
  · exact e
  · rfl

/-- What passes steps 1 to 8 has met no bad data. -/
theorem State.precheck_good {t : State} {h : Hdr} {c : Cmd} (p : t.precheck h c = none) : t.faults.dataBad = false := by
  by_contra e
  simp only [Bool.not_eq_false] at e
  revert p
  unfold State.precheck
  repeat' split
  all_goals simp_all

/-- A command that is refused. -/
theorem Starts.refuse {s t : State} {h : Hdr} {c : Cmd} {st d : Nat} {res lg : BitVec 64}
    (hs : Starts s t h c) (hr : c.rule h t = .refuse st d res lg) :
    s.serve c h = t.answer h c.op none st d res lg [] := by
  rw [hs.serve, hr]
  have e : (Rule.refuse st d res lg).fits h c = .refuse st d res lg := by
    unfold Rule.fits Rule.bytes
    split <;> simp
  rw [e]
  simp [State.finish, State.notePart, hs.alone, State.dataRead_of_good (State.precheck_good hs.checks)]

/-- A command whose reply comes later. -/
theorem Starts.held {s t u : State} {h : Hdr} {c : Cmd} {n : Nat}
    (hs : Starts s t h c) (hr : c.rule h t = .held u n) (hl : ∀ r f e, h.origin = .host r f e → n ≤ h.replyLen) :
    s.serve c h = u.hold h c.op c.extends := by
  rw [hs.serve, hr]
  have e : (Rule.held u n).fits h c = .held u n := by
    unfold Rule.fits Rule.bytes
    split
    · next r f e ho => have := hl r f e ho; simp; omega
    · rfl
  rw [e]
  simp [State.finish, hs.own]

theorem Change.plain_fix (c : Change) (h : c.plain = true) (s : State) (e : Nat) : s.fixChange e c = (c, false, []) := by
  cases c <;> first | rfl | exact Bool.noConfusion h

theorem Change.plain_accept (c : Change) (h : c.plain = true) (s : State) (e : Nat) : s.onAccept e c = s := by
  cases c <;> first | rfl | exact Bool.noConfusion h

/-- Plain changes are made due as they are. -/
theorem State.takeChanges_plain (s : State) (e : Nat) (objs : List (Nat × Nat)) (l : List Change)
    (h : l.all Change.plain = true) : s.takeChanges e objs l = (s.dueAll e objs l, false, []) := by
  have hm : l.map (s.fixChange e) = l.map fun x => (x, false, []) := by
    apply List.map_congr_left
    intro x hx
    exact x.plain_fix (List.all_eq_true.mp h x hx) s e
  have hf : ∀ (m : List Change) (v : State), m.all Change.plain = true →
      (m.map fun x => ((x, false, []) : Change × Bool × List Nat)).foldl (fun t x => t.onAccept e x.1) v = v := by
    intro m
    induction m with
    | nil => intro v _; rfl
    | cons a m ih =>
      intro v hv
      simp only [List.all_cons, Bool.and_eq_true] at hv
      simp only [List.map_cons, List.foldl_cons, a.plain_accept hv.1]
      exact ih v hv.2
  unfold State.takeChanges
  simp only [hm]
  rw [hf l _ h]
  simp [List.map_map, Function.comp_def]

/-- A change accepted on this device alone. -/
theorem Starts.change {s t u : State} {h : Hdr} {c : Cmd} {objs : List (Nat × Nat)} {l : List Change}
    (hs : Starts s t h c) (hr : c.rule h t = .change objs u l) (hop : c.op ≠ 0x0609) (hl : l.all Change.plain = true) :
    s.serve c h = u.accepted h c objs l := by
  rw [hs.serve, hr]
  have e : (Rule.change objs u l).fits h c = .change objs u l := by
    unfold Rule.fits Rule.bytes
    split <;> simp [hop]
  rw [e]
  have nt := hs.notTwin
  simp only [State.finish, hs.alone, State.passChange, hs.own]
  cases hor : h.origin with
  | colonnade x => simp [hor, Hdr_twinned] at nt
  | host r f n =>
    cases c.mirror <;> simp [State.takeChanges_plain _ _ _ _ hl, State.accepted, acceptStatus]
  | slait d =>
    cases c.mirror <;> simp [State.takeChanges_plain _ _ _ _ hl, State.accepted, acceptStatus]

/-! The same for the terms of claims. -/

theorem Does.intro {s t u : State} {h : Hdr} {i : Instr} {c : Cmd} {res : Nat} {pl : List Nat}
    (hi : exec i s = .next (s.serve c h)) (hr : c.rule h t = .done u stOk 0 (BitVec.ofNat 64 res) pl) :
    Does s t h i c u res pl := fun hs hl => by rw [hi, hs.done hr hl]; rfl

theorem Ends.intro {s t u : State} {h : Hdr} {i : Instr} {c : Cmd} {st d : Nat} {res : BitVec 64} {pl : List Nat}
    (hi : exec i s = .next (s.serve c h)) (hr : c.rule h t = .done u st d res pl) :
    Ends s t h i c u st d res pl := fun hs hl => by rw [hi, hs.done hr hl]

theorem Accepts.intro {s t u : State} {h : Hdr} {i : Instr} {c : Cmd} {objs : List (Nat × Nat)} {l : List Change}
    (hi : exec i s = .next (s.serve c h)) (hr : c.rule h t = .change objs u l) (hop : c.op ≠ 0x0609)
    (hl : l.all Change.plain = true) : Accepts s t h i c u objs l := fun hs => by rw [hi, hs.change hr hop hl]

theorem Waits.intro {s t u : State} {h : Hdr} {i : Instr} {c : Cmd} {n : Nat}
    (hi : exec i s = .next (s.serve c h)) (hr : c.rule h t = .held u n) : Waits s t h i c u n :=
  fun hs hl => by rw [hi, hs.held hr fun _ _ _ _ => hl]

theorem Refuses.intro {s t : State} {h : Hdr} {i : Instr} {c : Cmd} {st d : Nat} {res lg : BitVec 64}
    (hi : exec i s = .next (s.serve c h)) (hr : c.rule h t = .refuse st d res lg) : Refuses s t h i c st d res lg :=
  fun hs => by rw [hi, hs.refuse hr]

theorem Answers.intro {s t : State} {h : Hdr} {i : Instr} {c : Cmd} {r : Rule}
    (hi : exec i s = .next (s.serve c h)) (hr : c.rule h t = r) : Answers s t h i c r := by
  unfold Answers
  split
  · exact Ends.intro hi hr
  · exact fun hop hl => Accepts.intro hi hr hop hl
  · exact Waits.intro hi hr
  · exact Refuses.intro hi hr

/-! ## What accepting one change does -/

theorem State.fixChange_gateList (s : State) (e p : Nat) (l : GateList) : s.fixChange e (.gateList p l) =
    (.gateList p { l with takeover := (s.gateStart l.spec e).1 }, (s.gateStart l.spec e).2, words 2 (s.gateStart l.spec e).1) := rfl

theorem State.onAccept_gateList (s : State) (e p : Nat) (l : GateList) : s.onAccept e (.gateList p l) = s := rfl

/-- One change accepted, from what `fixChange` makes of it. -/
theorem State.takeChanges_one (s : State) (e : Nat) (objs : List (Nat × Nat)) (c d : Change) (b : Bool) (w : List Nat)
    (h : s.fixChange e c = (d, b, w)) : s.takeChanges e objs [c] = ((s.dueAll e objs [d]).onAccept e d, b, w) := by
  simp only [State.takeChanges, h, List.map_cons, List.map_nil, List.foldl_cons, List.foldl_nil, List.any_cons, List.any_nil,
    Bool.or_false, List.flatMap_cons, List.flatMap_nil, List.append_nil]

end Sys2Proof.Machine
end

