-- ==== Sys2Proof/Laws/Reply.lean ====
section
/-! SUPPORT. What a reply touches: the rings, the event path, the links, the digest and the counters, and nothing else. -/

namespace Sys2Proof.Machine

/-- Everything that no reply touches. -/
def State.kept (s : State) : (Clock × LanePlane × Cipher × RulePlane × Tables × Packets × Time × Egress) ×
    (Telemetry × Armature × Power × Option Group × List Txn × List Txn × Nat × List Instr) ×
    (DevState × List Session × Arr Nat × List Relay × List Running) × List PendingChange × Nat :=
  ((s.clock, s.lp, s.cipher, s.rules, s.tables, s.pk, s.time, s.eg),
   ({ s.tel with perf := [] }, s.arm, s.power, s.group, s.txns, s.prepared, s.freeCtr, s.pending),
   (s.cmd.dev, s.cmd.sessions, s.cmd.cpuMap, s.cmd.relays, s.cmd.running), s.changes, s.groupNext)

theorem State.sameUnits_of_kept {s t : State} (h : t.kept = s.kept) : s.SameUnits t := by
  simp only [State.kept, Prod.mk.injEq] at h
  obtain ⟨⟨a1, a2, a3, a4, a5, a6, a7, a8⟩, ⟨b1, b2, b3, b4, b5, b6, b7, b8⟩, -⟩ := h
  exact ⟨a1, a2, a3, a4, a5, a6, a7, a8, b1, b2, b3, b4, b5, b6, b7, b8⟩

theorem State.sameSessions_of_kept {s t : State} (h : t.kept = s.kept) : s.SameSessions t := by
  simp only [State.kept, Prod.mk.injEq] at h
  obtain ⟨-, -, ⟨c1, c2, c3, c4, c5⟩, -⟩ := h
  exact ⟨c1, c2, c3, c4, c5⟩

theorem State.changes_of_kept {s t : State} (h : t.kept = s.kept) : t.changes = s.changes ∧ t.groupNext = s.groupNext := by
  simp only [State.kept, Prod.mk.injEq] at h
  exact h.2.2.2

theorem kept_mk (s : State) (faults : Faults) (twin : Twin) (ring : RingState) (sec : Security) (ctr ctrNow : Arr Nat) (ctrAt : Nat) :
    State.kept ⟨s.clock, s.cmd, faults, s.lp, s.cipher, s.rules, s.tables, s.pk, s.time, s.eg, s.tel, s.arm, twin, ring, s.power,
      sec, s.changes, s.group, s.groupNext, s.txns, s.prepared, ctr, ctrNow, ctrAt, s.freeCtr, s.pending⟩ = s.kept := rfl

theorem kept_cmd (s : State) (rings : Arr Ring) (taken : Arr (Option Taken)) (evStatus : Arr (BitVec 32)) (evSetAt evRaisedAt : Arr Nat)
    (evEnable : Arr (BitVec 32)) (evRoute : Arr Nat) (relayNext : Nat) (violations : Arr (Option Violation)) (violCount : Nat)
    (latches : Arr (Option Latch)) (carried : List (Origin × Nat × Option Nat)) (msixTable : Arr (BitVec 64)) (msixPending : BitVec 256)
    (out : HostOut) (due : List (Nat × EventRec)) (faults : Faults) (twin : Twin) (ring : RingState) (sec : Security) (ctr ctrNow : Arr Nat) (ctrAt : Nat) :
    State.kept ⟨s.clock, ⟨s.cmd.dev, rings, taken, s.cmd.running, s.cmd.sessions, evStatus, evSetAt, evRaisedAt,
        evEnable, evRoute, s.cmd.cpuMap, s.cmd.relays, relayNext, violations, violCount, latches, carried, msixTable, msixPending,
        s.cmd.unitCmds, out, due⟩, faults, s.lp, s.cipher,
      s.rules, s.tables, s.pk, s.time, s.eg, s.tel, s.arm, twin, ring, s.power,
      sec, s.changes, s.group, s.groupNext, s.txns, s.prepared, ctr, ctrNow, ctrAt, s.freeCtr, s.pending⟩ = s.kept := rfl

theorem ite_kept (c : Prop) [Decidable c] (a b : State) : (if c then a else b).kept = if c then a.kept else b.kept := by
  split <;> rfl

theorem ite_fst_kept (c : Prop) [Decidable c] (a b : State × Bool) :
    (if c then a else b).1 = if c then a.1 else b.1 := by split <;> rfl

theorem kept_perf (s : State) (perf : Arr Perf) :
    State.kept ⟨s.clock, s.cmd, s.faults, s.lp, s.cipher, s.rules, s.tables, s.pk, s.time, s.eg,
      ⟨s.tel.streams, s.tel.nodeId, s.tel.ioamTd, s.tel.namespaces, perf, s.tel.cycles, s.tel.freeze, s.tel.ledger, s.tel.td0At⟩,
      s.arm, s.twin, s.ring, s.power, s.sec, s.changes, s.group, s.groupNext, s.txns, s.prepared, s.ctr, s.ctrNow, s.ctrAt, s.freeCtr,
      s.pending⟩ = s.kept := rfl

theorem State.perfCount_kept (s : State) (a b c : Nat) : (s.perfCount a b c).kept = s.kept := by
  unfold State.perfCount
  simp only [↓ite_kept, ↓kept_perf, ite_self]

theorem State.extend_kept (s : State) (dg : Option (List Byte)) : (s.extend dg).kept = s.kept := by
  unfold State.extend; split
  · rfl
  · exact kept_mk ..

theorem State.putHring_kept (s : State) (n : Nat) (v : Ring) : (s.putHring n v).kept = s.kept := kept_cmd ..

theorem State.putTakenAt_kept (s : State) (n : Nat) (v : Option Taken) : (s.putTakenAt n v).kept = s.kept := kept_cmd ..

theorem State.putEvSetAt_kept (s : State) (n v : Nat) : (s.putEvSetAt n v).kept = s.kept := kept_cmd ..

theorem State.putEvRaisedAt_kept (s : State) (n v : Nat) : (s.putEvRaisedAt n v).kept = s.kept := kept_cmd ..

theorem State.putEvStatus_kept (s : State) (n : Nat) (v : BitVec 32) : (s.putEvStatus n v).kept = s.kept := kept_cmd ..

theorem State.bump_kept (s : State) (c : Ctr) (i : Nat) : (s.bump c i).kept = s.kept := by
  unfold State.bump State.bumpBy
  simp only
  split
  · rw [State.perfCount_kept]; exact kept_mk ..
  · exact kept_mk ..

theorem State.sendMsix_kept (s : State) (v : Nat) : (s.sendMsix v).kept = s.kept := by
  unfold State.sendMsix
  simp only [↓ite_kept, ↓kept_cmd, ite_self]

theorem State.signal_kept (s : State) (r : Nat) : (s.signal r).kept = s.kept := by
  unfold State.signal
  simp only [↓State.putHring_kept, ↓State.sendMsix_kept]

theorem State.signalGap_kept (s : State) (r : Nat) : (s.signalGap r).kept = s.kept := by
  unfold State.signalGap
  simp only [↓ite_kept, ↓State.signal_kept, ↓State.modHring, ↓State.putHring_kept, ite_self]

theorem State.advanceRing_kept (s : State) (r : Nat) : (s.advanceRing r).kept = s.kept := by
  unfold State.advanceRing
  simp only [↓kept_cmd, ↓State.putHring_kept]

theorem State.putEvent_kept (s : State) (k : Nat) (e : EventRec) (b : Bool) : (s.putEvent k e b).1.kept = s.kept := by
  unfold State.putEvent
  simp only [↓ite_fst_kept, ↓ite_kept, ↓State.putHring_kept, ↓State.bump_kept, ↓State.signalGap_kept, ↓kept_cmd,
    ↓State.advanceRing_kept, ite_self]

theorem State.ringSend_kept (s : State) (d k : Nat) (p : List Byte) : (s.ringSend d k p).kept = s.kept := by
  unfold State.ringSend State.ringRoom
  simp only [↓ite_kept, ↓kept_mk, ite_self]

theorem State.setStatus_kept (s : State) (n : Nat) : (s.setStatus n).kept = s.kept := by
  unfold State.setStatus
  simp only [↓State.putEvStatus_kept, ↓State.putEvRaisedAt_kept, ↓ite_kept, ↓State.putEvSetAt_kept, ite_self]

theorem State.consumed_kept (s : State) (a : BitVec 64) : (s.consumed a).kept = s.kept := s.bump_kept ..

theorem State.clearLogPoison_kept (s : State) (n : Nat) : (s.clearLogPoison n).kept = s.kept := by
  unfold State.clearLogPoison
  simp only [↓kept_mk]

theorem State.record_kept (s : State) (e : LogEntry) : (s.record e).kept = s.kept := by
  unfold State.record
  simp only [↓ite_kept, ↓kept_mk, ↓State.clearLogPoison_kept, ↓State.bump_kept, ite_self]

theorem State.dropNotice_kept (s : State) (k : Nat) : (s.dropNotice k).kept = s.kept := by
  unfold State.dropNotice
  simp only [↓ite_kept, ↓State.record_kept, ↓State.putEvent_kept, ↓State.setStatus_kept, ↓State.putHring_kept, ite_self]

theorem State.writeEvent_kept (s : State) (k : Nat) (e : EventRec) (b : Bool) : (s.writeEvent k e b).kept = s.kept := by
  unfold State.writeEvent
  simp only [↓ite_kept, ↓State.dropNotice_kept, ↓State.putEvent_kept, ite_self]

theorem State.emit_kept (s : State) (a b c : Nat) (d : BitVec 64) : (s.emit a b c d).kept = s.kept := by
  unfold State.emit
  simp only [↓ite_kept, ↓State.setStatus_kept]
  split
  · split
    · simp only [↓kept_cmd, ↓State.setStatus_kept]
    · rw [State.writeEvent_kept, State.setStatus_kept]
  · rfl

theorem State.raiseBase_kept (s : State) (a b c : Nat) (d : BitVec 64) (w p : Bool) (r : Nat) :
    (s.raiseBase a b c d w p r).kept = s.kept := by
  unfold State.raiseBase
  simp only [↓ite_kept, ↓State.record_kept, ↓State.emit_kept, ite_self]

theorem State.note_kept (s : State) (a b : Nat) (d : BitVec 64) : (s.note a b d).kept = s.kept := s.raiseBase_kept ..

theorem State.colPut_kept (s : State) (l : List ColFrame) (b : Bool) : (s.colPut l b).kept = s.kept := kept_mk ..

theorem State.colSend_kept (s : State) (m : LinkMsg) : (s.colSend m).kept = s.kept := by
  unfold State.colSend
  simp only [↓State.bump_kept, ↓ite_kept, ↓State.colPut_kept, ↓kept_mk, ite_self]

theorem State.replyHost_kept (s : State) (h : Hdr) (r : Nat) (p : Reply) : (s.replyHost h r p).kept = s.kept := by
  unfold State.replyHost
  simp only [↓ite_kept, ↓State.signal_kept, ↓State.advanceRing_kept, ↓kept_cmd, ↓State.putTakenAt_kept, ↓State.bump_kept, ite_self]

theorem State.sendReply_kept (s : State) (h : Hdr) (p : Reply) : (s.sendReply h p).kept = s.kept := by
  unfold State.sendReply
  split
  · exact s.replyHost_kept ..
  · exact s.ringSend_kept ..
  · exact s.colSend_kept _

/-- A reply leaves everything of `State.kept` as it is. -/
theorem State.answer_kept (s : State) (h : Hdr) (op : Nat) (dg : Option (List Byte)) (st d : Nat) (res lg : BitVec 64)
    (pl : List Nat) : (s.answer h op dg st d res lg pl).kept = s.kept := by
  unfold State.answer
  simp only [↓State.sendReply_kept, ↓ite_kept, ↓State.consumed_kept, ↓State.note_kept, ↓State.extend_kept, ite_self]

theorem State.fetch_kept (s : State) (h : Hdr) (op : Nat) : (s.fetch h op).kept = s.kept := by
  unfold State.fetch
  split
  · simp only [↓ite_kept, ↓State.advanceRing_kept, ↓State.putTakenAt_kept, ite_self]
  · rfl

theorem State.uncarry_kept (s : State) (o : Origin) (op : Nat) : (s.uncarry o op).kept = s.kept := kept_cmd ..

theorem State.begin_kept {s t : State} {h : Hdr} {op : Nat} (hb : s.begin h op = some t) (hop : op ≠ 0x0E01) :
    t.kept = s.kept := by
  unfold State.begin at hb
  split at hb
  · cases hb
  · split at hb
    · next r f e ho =>
      simp only at hb
      split at hb
      · injection hb with hb
        subst hb
        rw [State.putTakenAt_kept, State.fetch_kept]
      · cases hb
    · split at hb
      · injection hb with hb; subst hb; exact s.uncarry_kept ..
      · cases hb
    · split at hb
      · split at hb
        · injection hb with hb; subst hb; simp only [State.takeChosen, hop, if_false]; exact s.uncarry_kept ..
        · cases hb
      · cases hb

end Sys2Proof.Machine
end

