-- ==== Sys2Proof/Laws/State.lean ====
section
/-! SUPPORT. One write of a register, a record or a counter: the units it leaves alone, and that it is read back. -/

namespace Sys2Proof.Machine

/-! ### putHring -/

@[simp] theorem State.putHring_clock (s : State) (n : Nat) (v : Ring) : (s.putHring n v).clock = s.clock := rfl
@[simp] theorem State.putHring_pending (s : State) (n : Nat) (v : Ring) : (s.putHring n v).pending = s.pending := rfl
@[simp] theorem State.putHring_sec (s : State) (n : Nat) (v : Ring) : (s.putHring n v).sec = s.sec := rfl
@[simp] theorem State.putHring_changes (s : State) (n : Nat) (v : Ring) : (s.putHring n v).changes = s.changes := rfl
@[simp] theorem State.putHring_freeCtr (s : State) (n : Nat) (v : Ring) : (s.putHring n v).freeCtr = s.freeCtr := rfl
theorem State.hring_putHring_ne (s : State) (n k : Nat) (v : Ring) (h : k ≠ n) : (s.putHring n v).hring k = s.hring k :=
  Arr.get_set_ne _ _ _ _ _ _ h
theorem State.hring_putHring_self (s : State) (n : Nat) (v : Ring) (h : s.cmd.rings.wf (fun n => (Ring.init n)) = true) : (s.putHring n v).hring n = v :=
  Arr.get_set_self (d := (fun n => (Ring.init n))) _ _ _ h

/-! ### putTakenAt -/

@[simp] theorem State.putTakenAt_clock (s : State) (n : Nat) (v : (Option Taken)) : (s.putTakenAt n v).clock = s.clock := rfl
@[simp] theorem State.putTakenAt_pending (s : State) (n : Nat) (v : (Option Taken)) : (s.putTakenAt n v).pending = s.pending := rfl
@[simp] theorem State.putTakenAt_sec (s : State) (n : Nat) (v : (Option Taken)) : (s.putTakenAt n v).sec = s.sec := rfl
@[simp] theorem State.putTakenAt_changes (s : State) (n : Nat) (v : (Option Taken)) : (s.putTakenAt n v).changes = s.changes := rfl
@[simp] theorem State.putTakenAt_freeCtr (s : State) (n : Nat) (v : (Option Taken)) : (s.putTakenAt n v).freeCtr = s.freeCtr := rfl
theorem State.takenAt_putTakenAt_ne (s : State) (n k : Nat) (v : (Option Taken)) (h : k ≠ n) : (s.putTakenAt n v).takenAt k = s.takenAt k :=
  Arr.get_set_ne _ _ _ _ _ _ h
theorem State.takenAt_putTakenAt_self (s : State) (n : Nat) (v : (Option Taken)) (h : s.cmd.taken.wf (fun _ => none) = true) : (s.putTakenAt n v).takenAt n = v :=
  Arr.get_set_self (d := (fun _ => none)) _ _ _ h

/-! ### putEvStatus -/

@[simp] theorem State.putEvStatus_clock (s : State) (n : Nat) (v : (BitVec 32)) : (s.putEvStatus n v).clock = s.clock := rfl
@[simp] theorem State.putEvStatus_pending (s : State) (n : Nat) (v : (BitVec 32)) : (s.putEvStatus n v).pending = s.pending := rfl
@[simp] theorem State.putEvStatus_sec (s : State) (n : Nat) (v : (BitVec 32)) : (s.putEvStatus n v).sec = s.sec := rfl
@[simp] theorem State.putEvStatus_changes (s : State) (n : Nat) (v : (BitVec 32)) : (s.putEvStatus n v).changes = s.changes := rfl
@[simp] theorem State.putEvStatus_freeCtr (s : State) (n : Nat) (v : (BitVec 32)) : (s.putEvStatus n v).freeCtr = s.freeCtr := rfl
theorem State.evStatus_putEvStatus_ne (s : State) (n k : Nat) (v : (BitVec 32)) (h : k ≠ n) : (s.putEvStatus n v).evStatus k = s.evStatus k :=
  Arr.get_set_ne _ _ _ _ _ _ h
theorem State.evStatus_putEvStatus_self (s : State) (n : Nat) (v : (BitVec 32)) (h : s.cmd.evStatus.wf (fun _ => 0) = true) : (s.putEvStatus n v).evStatus n = v :=
  Arr.get_set_self (d := (fun _ => 0)) _ _ _ h

/-! ### putEvSetAt -/

@[simp] theorem State.putEvSetAt_clock (s : State) (n : Nat) (v : Nat) : (s.putEvSetAt n v).clock = s.clock := rfl
@[simp] theorem State.putEvSetAt_pending (s : State) (n : Nat) (v : Nat) : (s.putEvSetAt n v).pending = s.pending := rfl
@[simp] theorem State.putEvSetAt_sec (s : State) (n : Nat) (v : Nat) : (s.putEvSetAt n v).sec = s.sec := rfl
@[simp] theorem State.putEvSetAt_changes (s : State) (n : Nat) (v : Nat) : (s.putEvSetAt n v).changes = s.changes := rfl
@[simp] theorem State.putEvSetAt_freeCtr (s : State) (n : Nat) (v : Nat) : (s.putEvSetAt n v).freeCtr = s.freeCtr := rfl
theorem State.evSetAt_putEvSetAt_ne (s : State) (n k : Nat) (v : Nat) (h : k ≠ n) : (s.putEvSetAt n v).evSetAt k = s.evSetAt k :=
  Arr.get_set_ne _ _ _ _ _ _ h
theorem State.evSetAt_putEvSetAt_self (s : State) (n : Nat) (v : Nat) (h : s.cmd.evSetAt.wf (fun _ => 0) = true) : (s.putEvSetAt n v).evSetAt n = v :=
  Arr.get_set_self (d := (fun _ => 0)) _ _ _ h

/-! ### putEvEnable -/

@[simp] theorem State.putEvEnable_clock (s : State) (n : Nat) (v : (BitVec 32)) : (s.putEvEnable n v).clock = s.clock := rfl
@[simp] theorem State.putEvEnable_pending (s : State) (n : Nat) (v : (BitVec 32)) : (s.putEvEnable n v).pending = s.pending := rfl
@[simp] theorem State.putEvEnable_sec (s : State) (n : Nat) (v : (BitVec 32)) : (s.putEvEnable n v).sec = s.sec := rfl
@[simp] theorem State.putEvEnable_changes (s : State) (n : Nat) (v : (BitVec 32)) : (s.putEvEnable n v).changes = s.changes := rfl
@[simp] theorem State.putEvEnable_freeCtr (s : State) (n : Nat) (v : (BitVec 32)) : (s.putEvEnable n v).freeCtr = s.freeCtr := rfl
theorem State.evEnable_putEvEnable_ne (s : State) (n k : Nat) (v : (BitVec 32)) (h : k ≠ n) : (s.putEvEnable n v).evEnable k = s.evEnable k :=
  Arr.get_set_ne _ _ _ _ _ _ h
theorem State.evEnable_putEvEnable_self (s : State) (n : Nat) (v : (BitVec 32)) (h : s.cmd.evEnable.wf (fun n => (enableInit n)) = true) : (s.putEvEnable n v).evEnable n = v :=
  Arr.get_set_self (d := (fun n => (enableInit n))) _ _ _ h

/-! ### putEvRoute -/

@[simp] theorem State.putEvRoute_clock (s : State) (n : Nat) (v : Nat) : (s.putEvRoute n v).clock = s.clock := rfl
@[simp] theorem State.putEvRoute_pending (s : State) (n : Nat) (v : Nat) : (s.putEvRoute n v).pending = s.pending := rfl
@[simp] theorem State.putEvRoute_sec (s : State) (n : Nat) (v : Nat) : (s.putEvRoute n v).sec = s.sec := rfl
@[simp] theorem State.putEvRoute_changes (s : State) (n : Nat) (v : Nat) : (s.putEvRoute n v).changes = s.changes := rfl
@[simp] theorem State.putEvRoute_freeCtr (s : State) (n : Nat) (v : Nat) : (s.putEvRoute n v).freeCtr = s.freeCtr := rfl
theorem State.evRoute_putEvRoute_ne (s : State) (n k : Nat) (v : Nat) (h : k ≠ n) : (s.putEvRoute n v).evRoute k = s.evRoute k :=
  Arr.get_set_ne _ _ _ _ _ _ h
theorem State.evRoute_putEvRoute_self (s : State) (n : Nat) (v : Nat) (h : s.cmd.evRoute.wf (fun _ => 0) = true) : (s.putEvRoute n v).evRoute n = v :=
  Arr.get_set_self (d := (fun _ => 0)) _ _ _ h

/-! ### putCpuRing -/

@[simp] theorem State.putCpuRing_clock (s : State) (n : Nat) (v : Nat) : (s.putCpuRing n v).clock = s.clock := rfl
@[simp] theorem State.putCpuRing_pending (s : State) (n : Nat) (v : Nat) : (s.putCpuRing n v).pending = s.pending := rfl
@[simp] theorem State.putCpuRing_sec (s : State) (n : Nat) (v : Nat) : (s.putCpuRing n v).sec = s.sec := rfl
@[simp] theorem State.putCpuRing_changes (s : State) (n : Nat) (v : Nat) : (s.putCpuRing n v).changes = s.changes := rfl
@[simp] theorem State.putCpuRing_freeCtr (s : State) (n : Nat) (v : Nat) : (s.putCpuRing n v).freeCtr = s.freeCtr := rfl
theorem State.cpuRing_putCpuRing_ne (s : State) (n k : Nat) (v : Nat) (h : k ≠ n) : (s.putCpuRing n v).cpuRing k = s.cpuRing k :=
  Arr.get_set_ne _ _ _ _ _ _ h
theorem State.cpuRing_putCpuRing_self (s : State) (n : Nat) (v : Nat) (h : s.cmd.cpuMap.wf (fun n => (n % 64)) = true) : (s.putCpuRing n v).cpuRing n = v :=
  Arr.get_set_self (d := (fun n => (n % 64))) _ _ _ h

/-! ### putViolation -/

@[simp] theorem State.putViolation_clock (s : State) (n : Nat) (v : (Option Violation)) : (s.putViolation n v).clock = s.clock := rfl
@[simp] theorem State.putViolation_pending (s : State) (n : Nat) (v : (Option Violation)) : (s.putViolation n v).pending = s.pending := rfl
@[simp] theorem State.putViolation_sec (s : State) (n : Nat) (v : (Option Violation)) : (s.putViolation n v).sec = s.sec := rfl
@[simp] theorem State.putViolation_changes (s : State) (n : Nat) (v : (Option Violation)) : (s.putViolation n v).changes = s.changes := rfl
@[simp] theorem State.putViolation_freeCtr (s : State) (n : Nat) (v : (Option Violation)) : (s.putViolation n v).freeCtr = s.freeCtr := rfl
theorem State.violation_putViolation_ne (s : State) (n k : Nat) (v : (Option Violation)) (h : k ≠ n) : (s.putViolation n v).violation k = s.violation k :=
  Arr.get_set_ne _ _ _ _ _ _ h
theorem State.violation_putViolation_self (s : State) (n : Nat) (v : (Option Violation)) (h : s.cmd.violations.wf (fun _ => none) = true) : (s.putViolation n v).violation n = v :=
  Arr.get_set_self (d := (fun _ => none)) _ _ _ h

/-! ### putMsixWord -/

@[simp] theorem State.putMsixWord_clock (s : State) (n : Nat) (v : (BitVec 64)) : (s.putMsixWord n v).clock = s.clock := rfl
@[simp] theorem State.putMsixWord_pending (s : State) (n : Nat) (v : (BitVec 64)) : (s.putMsixWord n v).pending = s.pending := rfl
@[simp] theorem State.putMsixWord_sec (s : State) (n : Nat) (v : (BitVec 64)) : (s.putMsixWord n v).sec = s.sec := rfl
@[simp] theorem State.putMsixWord_changes (s : State) (n : Nat) (v : (BitVec 64)) : (s.putMsixWord n v).changes = s.changes := rfl
@[simp] theorem State.putMsixWord_freeCtr (s : State) (n : Nat) (v : (BitVec 64)) : (s.putMsixWord n v).freeCtr = s.freeCtr := rfl
theorem State.msixWord_putMsixWord_ne (s : State) (n k : Nat) (v : (BitVec 64)) (h : k ≠ n) : (s.putMsixWord n v).msixWord k = s.msixWord k :=
  Arr.get_set_ne _ _ _ _ _ _ h
theorem State.msixWord_putMsixWord_self (s : State) (n : Nat) (v : (BitVec 64)) (h : s.cmd.msixTable.wf (fun _ => 0) = true) : (s.putMsixWord n v).msixWord n = v :=
  Arr.get_set_self (d := (fun _ => 0)) _ _ _ h

/-! ### putLatch -/

@[simp] theorem State.putLatch_clock (s : State) (n : Nat) (v : (Option Latch)) : (s.putLatch n v).clock = s.clock := rfl
@[simp] theorem State.putLatch_pending (s : State) (n : Nat) (v : (Option Latch)) : (s.putLatch n v).pending = s.pending := rfl
@[simp] theorem State.putLatch_sec (s : State) (n : Nat) (v : (Option Latch)) : (s.putLatch n v).sec = s.sec := rfl
@[simp] theorem State.putLatch_changes (s : State) (n : Nat) (v : (Option Latch)) : (s.putLatch n v).changes = s.changes := rfl
@[simp] theorem State.putLatch_freeCtr (s : State) (n : Nat) (v : (Option Latch)) : (s.putLatch n v).freeCtr = s.freeCtr := rfl
theorem State.latch_putLatch_ne (s : State) (n k : Nat) (v : (Option Latch)) (h : k ≠ n) : (s.putLatch n v).latch k = s.latch k :=
  Arr.get_set_ne _ _ _ _ _ _ h
theorem State.latch_putLatch_self (s : State) (n : Nat) (v : (Option Latch)) (h : s.cmd.latches.wf (fun _ => none) = true) : (s.putLatch n v).latch n = v :=
  Arr.get_set_self (d := (fun _ => none)) _ _ _ h

/-! ### putLogAt -/

@[simp] theorem State.putLogAt_clock (s : State) (n : Nat) (v : (Option LogEntry)) : (s.putLogAt n v).clock = s.clock := rfl
@[simp] theorem State.putLogAt_pending (s : State) (n : Nat) (v : (Option LogEntry)) : (s.putLogAt n v).pending = s.pending := rfl
@[simp] theorem State.putLogAt_sec (s : State) (n : Nat) (v : (Option LogEntry)) : (s.putLogAt n v).sec = s.sec := rfl
@[simp] theorem State.putLogAt_changes (s : State) (n : Nat) (v : (Option LogEntry)) : (s.putLogAt n v).changes = s.changes := rfl
@[simp] theorem State.putLogAt_freeCtr (s : State) (n : Nat) (v : (Option LogEntry)) : (s.putLogAt n v).freeCtr = s.freeCtr := rfl
theorem State.logAt_putLogAt_ne (s : State) (n k : Nat) (v : (Option LogEntry)) (h : k ≠ n) : (s.putLogAt n v).logAt k = s.logAt k :=
  Arr.get_set_ne _ _ _ _ _ _ h
theorem State.logAt_putLogAt_self (s : State) (n : Nat) (v : (Option LogEntry)) (h : s.faults.log.wf (fun _ => none) = true) : (s.putLogAt n v).logAt n = v :=
  Arr.get_set_self (d := (fun _ => none)) _ _ _ h

/-! ### putReact -/

@[simp] theorem State.putReact_clock (s : State) (n : Nat) (v : ReactEntry) : (s.putReact n v).clock = s.clock := rfl
@[simp] theorem State.putReact_pending (s : State) (n : Nat) (v : ReactEntry) : (s.putReact n v).pending = s.pending := rfl
@[simp] theorem State.putReact_sec (s : State) (n : Nat) (v : ReactEntry) : (s.putReact n v).sec = s.sec := rfl
@[simp] theorem State.putReact_changes (s : State) (n : Nat) (v : ReactEntry) : (s.putReact n v).changes = s.changes := rfl
@[simp] theorem State.putReact_freeCtr (s : State) (n : Nat) (v : ReactEntry) : (s.putReact n v).freeCtr = s.freeCtr := rfl
theorem State.react_putReact_ne (s : State) (n k : Nat) (v : ReactEntry) (h : k ≠ n) : (s.putReact n v).react k = s.react k :=
  Arr.get_set_ne _ _ _ _ _ _ h
theorem State.react_putReact_self (s : State) (n : Nat) (v : ReactEntry) (h : s.faults.react.wf (fun _ => ReactEntry.init) = true) : (s.putReact n v).react n = v :=
  Arr.get_set_self (d := (fun _ => ReactEntry.init)) _ _ _ h

/-! ### putFaultInst -/

@[simp] theorem State.putFaultInst_clock (s : State) (n : Nat) (v : FaultInst) : (s.putFaultInst n v).clock = s.clock := rfl
@[simp] theorem State.putFaultInst_pending (s : State) (n : Nat) (v : FaultInst) : (s.putFaultInst n v).pending = s.pending := rfl
@[simp] theorem State.putFaultInst_sec (s : State) (n : Nat) (v : FaultInst) : (s.putFaultInst n v).sec = s.sec := rfl
@[simp] theorem State.putFaultInst_changes (s : State) (n : Nat) (v : FaultInst) : (s.putFaultInst n v).changes = s.changes := rfl
@[simp] theorem State.putFaultInst_freeCtr (s : State) (n : Nat) (v : FaultInst) : (s.putFaultInst n v).freeCtr = s.freeCtr := rfl
theorem State.faultInst_putFaultInst_ne (s : State) (n k : Nat) (v : FaultInst) (h : k ≠ n) : (s.putFaultInst n v).faultInst k = s.faultInst k :=
  Arr.get_set_ne _ _ _ _ _ _ h
theorem State.faultInst_putFaultInst_self (s : State) (n : Nat) (v : FaultInst) (h : s.faults.insts.wf (fun _ => FaultInst.init) = true) : (s.putFaultInst n v).faultInst n = v :=
  Arr.get_set_self (d := (fun _ => FaultInst.init)) _ _ _ h

/-! ### putMasked -/

@[simp] theorem State.putMasked_clock (s : State) (n : Nat) (v : Bool) : (s.putMasked n v).clock = s.clock := rfl
@[simp] theorem State.putMasked_pending (s : State) (n : Nat) (v : Bool) : (s.putMasked n v).pending = s.pending := rfl
@[simp] theorem State.putMasked_sec (s : State) (n : Nat) (v : Bool) : (s.putMasked n v).sec = s.sec := rfl
@[simp] theorem State.putMasked_changes (s : State) (n : Nat) (v : Bool) : (s.putMasked n v).changes = s.changes := rfl
@[simp] theorem State.putMasked_freeCtr (s : State) (n : Nat) (v : Bool) : (s.putMasked n v).freeCtr = s.freeCtr := rfl
theorem State.masked_putMasked_ne (s : State) (n k : Nat) (v : Bool) (h : k ≠ n) : (s.putMasked n v).masked k = s.masked k :=
  Arr.get_set_ne _ _ _ _ _ _ h
theorem State.masked_putMasked_self (s : State) (n : Nat) (v : Bool) (h : s.faults.masked.wf (fun _ => false) = true) : (s.putMasked n v).masked n = v :=
  Arr.get_set_self (d := (fun _ => false)) _ _ _ h

/-! ### putSpareOf -/

@[simp] theorem State.putSpareOf_clock (s : State) (n : Nat) (v : (Option Nat)) : (s.putSpareOf n v).clock = s.clock := rfl
@[simp] theorem State.putSpareOf_pending (s : State) (n : Nat) (v : (Option Nat)) : (s.putSpareOf n v).pending = s.pending := rfl
@[simp] theorem State.putSpareOf_sec (s : State) (n : Nat) (v : (Option Nat)) : (s.putSpareOf n v).sec = s.sec := rfl
@[simp] theorem State.putSpareOf_changes (s : State) (n : Nat) (v : (Option Nat)) : (s.putSpareOf n v).changes = s.changes := rfl
@[simp] theorem State.putSpareOf_freeCtr (s : State) (n : Nat) (v : (Option Nat)) : (s.putSpareOf n v).freeCtr = s.freeCtr := rfl
theorem State.spareOf_putSpareOf_ne (s : State) (n k : Nat) (v : (Option Nat)) (h : k ≠ n) : (s.putSpareOf n v).spareOf k = s.spareOf k :=
  Arr.get_set_ne _ _ _ _ _ _ h
theorem State.spareOf_putSpareOf_self (s : State) (n : Nat) (v : (Option Nat)) (h : s.faults.spareOf.wf (fun _ => none) = true) : (s.putSpareOf n v).spareOf n = v :=
  Arr.get_set_self (d := (fun _ => none)) _ _ _ h

/-! ### putPipeRetired -/

@[simp] theorem State.putPipeRetired_clock (s : State) (n : Nat) (v : Bool) : (s.putPipeRetired n v).clock = s.clock := rfl
@[simp] theorem State.putPipeRetired_pending (s : State) (n : Nat) (v : Bool) : (s.putPipeRetired n v).pending = s.pending := rfl
@[simp] theorem State.putPipeRetired_sec (s : State) (n : Nat) (v : Bool) : (s.putPipeRetired n v).sec = s.sec := rfl
@[simp] theorem State.putPipeRetired_changes (s : State) (n : Nat) (v : Bool) : (s.putPipeRetired n v).changes = s.changes := rfl
@[simp] theorem State.putPipeRetired_freeCtr (s : State) (n : Nat) (v : Bool) : (s.putPipeRetired n v).freeCtr = s.freeCtr := rfl
theorem State.pipeRetired_putPipeRetired_ne (s : State) (n k : Nat) (v : Bool) (h : k ≠ n) : (s.putPipeRetired n v).pipeRetired k = s.pipeRetired k :=
  Arr.get_set_ne _ _ _ _ _ _ h
theorem State.pipeRetired_putPipeRetired_self (s : State) (n : Nat) (v : Bool) (h : s.faults.pipeRetired.wf (fun _ => false) = true) : (s.putPipeRetired n v).pipeRetired n = v :=
  Arr.get_set_self (d := (fun _ => false)) _ _ _ h

/-! ### putSliceFenced -/

@[simp] theorem State.putSliceFenced_clock (s : State) (n : Nat) (v : Bool) : (s.putSliceFenced n v).clock = s.clock := rfl
@[simp] theorem State.putSliceFenced_pending (s : State) (n : Nat) (v : Bool) : (s.putSliceFenced n v).pending = s.pending := rfl
@[simp] theorem State.putSliceFenced_sec (s : State) (n : Nat) (v : Bool) : (s.putSliceFenced n v).sec = s.sec := rfl
@[simp] theorem State.putSliceFenced_changes (s : State) (n : Nat) (v : Bool) : (s.putSliceFenced n v).changes = s.changes := rfl
@[simp] theorem State.putSliceFenced_freeCtr (s : State) (n : Nat) (v : Bool) : (s.putSliceFenced n v).freeCtr = s.freeCtr := rfl
theorem State.sliceFenced_putSliceFenced_ne (s : State) (n k : Nat) (v : Bool) (h : k ≠ n) : (s.putSliceFenced n v).sliceFenced k = s.sliceFenced k :=
  Arr.get_set_ne _ _ _ _ _ _ h
theorem State.sliceFenced_putSliceFenced_self (s : State) (n : Nat) (v : Bool) (h : s.faults.sliceFenced.wf (fun _ => false) = true) : (s.putSliceFenced n v).sliceFenced n = v :=
  Arr.get_set_self (d := (fun _ => false)) _ _ _ h

/-! ### putReplicaFenced -/

@[simp] theorem State.putReplicaFenced_clock (s : State) (n : Nat) (v : Bool) : (s.putReplicaFenced n v).clock = s.clock := rfl
@[simp] theorem State.putReplicaFenced_pending (s : State) (n : Nat) (v : Bool) : (s.putReplicaFenced n v).pending = s.pending := rfl
@[simp] theorem State.putReplicaFenced_sec (s : State) (n : Nat) (v : Bool) : (s.putReplicaFenced n v).sec = s.sec := rfl
@[simp] theorem State.putReplicaFenced_changes (s : State) (n : Nat) (v : Bool) : (s.putReplicaFenced n v).changes = s.changes := rfl
@[simp] theorem State.putReplicaFenced_freeCtr (s : State) (n : Nat) (v : Bool) : (s.putReplicaFenced n v).freeCtr = s.freeCtr := rfl
theorem State.replicaFenced_putReplicaFenced_ne (s : State) (n k : Nat) (v : Bool) (h : k ≠ n) : (s.putReplicaFenced n v).replicaFenced k = s.replicaFenced k :=
  Arr.get_set_ne _ _ _ _ _ _ h
theorem State.replicaFenced_putReplicaFenced_self (s : State) (n : Nat) (v : Bool) (h : s.faults.replicaFenced.wf (fun _ => false) = true) : (s.putReplicaFenced n v).replicaFenced n = v :=
  Arr.get_set_self (d := (fun _ => false)) _ _ _ h

/-! ### putPartBank -/

@[simp] theorem State.putPartBank_clock (s : State) (n : Nat) (v : BankLife) : (s.putPartBank n v).clock = s.clock := rfl
@[simp] theorem State.putPartBank_pending (s : State) (n : Nat) (v : BankLife) : (s.putPartBank n v).pending = s.pending := rfl
@[simp] theorem State.putPartBank_sec (s : State) (n : Nat) (v : BankLife) : (s.putPartBank n v).sec = s.sec := rfl
@[simp] theorem State.putPartBank_changes (s : State) (n : Nat) (v : BankLife) : (s.putPartBank n v).changes = s.changes := rfl
@[simp] theorem State.putPartBank_freeCtr (s : State) (n : Nat) (v : BankLife) : (s.putPartBank n v).freeCtr = s.freeCtr := rfl
theorem State.partBank_putPartBank_ne (s : State) (n k : Nat) (v : BankLife) (h : k ≠ n) : (s.putPartBank n v).partBank k = s.partBank k :=
  Arr.get_set_ne _ _ _ _ _ _ h
theorem State.partBank_putPartBank_self (s : State) (n : Nat) (v : BankLife) (h : s.faults.partBank.wf (fun _ => BankLife.live) = true) : (s.putPartBank n v).partBank n = v :=
  Arr.get_set_self (d := (fun _ => BankLife.live)) _ _ _ h

/-! ### putBgPos -/

@[simp] theorem State.putBgPos_clock (s : State) (n : Nat) (v : Nat) : (s.putBgPos n v).clock = s.clock := rfl
@[simp] theorem State.putBgPos_pending (s : State) (n : Nat) (v : Nat) : (s.putBgPos n v).pending = s.pending := rfl
@[simp] theorem State.putBgPos_sec (s : State) (n : Nat) (v : Nat) : (s.putBgPos n v).sec = s.sec := rfl
@[simp] theorem State.putBgPos_changes (s : State) (n : Nat) (v : Nat) : (s.putBgPos n v).changes = s.changes := rfl
@[simp] theorem State.putBgPos_freeCtr (s : State) (n : Nat) (v : Nat) : (s.putBgPos n v).freeCtr = s.freeCtr := rfl
theorem State.bgPos_putBgPos_ne (s : State) (n k : Nat) (v : Nat) (h : k ≠ n) : (s.putBgPos n v).bgPos k = s.bgPos k :=
  Arr.get_set_ne _ _ _ _ _ _ h
theorem State.bgPos_putBgPos_self (s : State) (n : Nat) (v : Nat) (h : s.faults.bgPos.wf (fun _ => 0) = true) : (s.putBgPos n v).bgPos n = v :=
  Arr.get_set_self (d := (fun _ => 0)) _ _ _ h

/-! ### putLane -/

@[simp] theorem State.putLane_clock (s : State) (n : Nat) (v : Lane) : (s.putLane n v).clock = s.clock := rfl
@[simp] theorem State.putLane_pending (s : State) (n : Nat) (v : Lane) : (s.putLane n v).pending = s.pending := rfl
@[simp] theorem State.putLane_sec (s : State) (n : Nat) (v : Lane) : (s.putLane n v).sec = s.sec := rfl
@[simp] theorem State.putLane_changes (s : State) (n : Nat) (v : Lane) : (s.putLane n v).changes = s.changes := rfl
@[simp] theorem State.putLane_freeCtr (s : State) (n : Nat) (v : Lane) : (s.putLane n v).freeCtr = s.freeCtr := rfl
theorem State.lane_putLane_ne (s : State) (n k : Nat) (v : Lane) (h : k ≠ n) : (s.putLane n v).lane k = s.lane k :=
  Arr.get_set_ne _ _ _ _ _ _ h
theorem State.lane_putLane_self (s : State) (n : Nat) (v : Lane) (h : s.lp.lanes.wf (fun _ => Lane.init) = true) : (s.putLane n v).lane n = v :=
  Arr.get_set_self (d := (fun _ => Lane.init)) _ _ _ h

/-! ### putOctet -/

@[simp] theorem State.putOctet_clock (s : State) (n : Nat) (v : Octet) : (s.putOctet n v).clock = s.clock := rfl
@[simp] theorem State.putOctet_pending (s : State) (n : Nat) (v : Octet) : (s.putOctet n v).pending = s.pending := rfl
@[simp] theorem State.putOctet_sec (s : State) (n : Nat) (v : Octet) : (s.putOctet n v).sec = s.sec := rfl
@[simp] theorem State.putOctet_changes (s : State) (n : Nat) (v : Octet) : (s.putOctet n v).changes = s.changes := rfl
@[simp] theorem State.putOctet_freeCtr (s : State) (n : Nat) (v : Octet) : (s.putOctet n v).freeCtr = s.freeCtr := rfl
theorem State.octet_putOctet_ne (s : State) (n k : Nat) (v : Octet) (h : k ≠ n) : (s.putOctet n v).octet k = s.octet k :=
  Arr.get_set_ne _ _ _ _ _ _ h
theorem State.octet_putOctet_self (s : State) (n : Nat) (v : Octet) (h : s.lp.octets.wf (fun _ => Octet.init) = true) : (s.putOctet n v).octet n = v :=
  Arr.get_set_self (d := (fun _ => Octet.init)) _ _ _ h

/-! ### putPort -/

@[simp] theorem State.putPort_clock (s : State) (n : Nat) (v : Port) : (s.putPort n v).clock = s.clock := rfl
@[simp] theorem State.putPort_pending (s : State) (n : Nat) (v : Port) : (s.putPort n v).pending = s.pending := rfl
@[simp] theorem State.putPort_sec (s : State) (n : Nat) (v : Port) : (s.putPort n v).sec = s.sec := rfl
@[simp] theorem State.putPort_changes (s : State) (n : Nat) (v : Port) : (s.putPort n v).changes = s.changes := rfl
@[simp] theorem State.putPort_freeCtr (s : State) (n : Nat) (v : Port) : (s.putPort n v).freeCtr = s.freeCtr := rfl
theorem State.port_putPort_ne (s : State) (n k : Nat) (v : Port) (h : k ≠ n) : (s.putPort n v).port k = s.port k :=
  Arr.get_set_ne _ _ _ _ _ _ h
theorem State.port_putPort_self (s : State) (n : Nat) (v : Port) (h : s.lp.ports.wf (fun _ => Port.init) = true) : (s.putPort n v).port n = v :=
  Arr.get_set_self (d := (fun _ => Port.init)) _ _ _ h

/-! ### putCipherPort -/

@[simp] theorem State.putCipherPort_clock (s : State) (n : Nat) (v : (BitVec 64)) : (s.putCipherPort n v).clock = s.clock := rfl
@[simp] theorem State.putCipherPort_pending (s : State) (n : Nat) (v : (BitVec 64)) : (s.putCipherPort n v).pending = s.pending := rfl
@[simp] theorem State.putCipherPort_sec (s : State) (n : Nat) (v : (BitVec 64)) : (s.putCipherPort n v).sec = s.sec := rfl
@[simp] theorem State.putCipherPort_changes (s : State) (n : Nat) (v : (BitVec 64)) : (s.putCipherPort n v).changes = s.changes := rfl
@[simp] theorem State.putCipherPort_freeCtr (s : State) (n : Nat) (v : (BitVec 64)) : (s.putCipherPort n v).freeCtr = s.freeCtr := rfl
theorem State.cipherPort_putCipherPort_ne (s : State) (n k : Nat) (v : (BitVec 64)) (h : k ≠ n) : (s.putCipherPort n v).cipherPort k = s.cipherPort k :=
  Arr.get_set_ne _ _ _ _ _ _ h
theorem State.cipherPort_putCipherPort_self (s : State) (n : Nat) (v : (BitVec 64)) (h : s.cipher.ports.wf (fun _ => cipherPortInit) = true) : (s.putCipherPort n v).cipherPort n = v :=
  Arr.get_set_self (d := (fun _ => cipherPortInit)) _ _ _ h

/-! ### putRxSc -/

@[simp] theorem State.putRxSc_clock (s : State) (n : Nat) (v : Sc) : (s.putRxSc n v).clock = s.clock := rfl
@[simp] theorem State.putRxSc_pending (s : State) (n : Nat) (v : Sc) : (s.putRxSc n v).pending = s.pending := rfl
@[simp] theorem State.putRxSc_sec (s : State) (n : Nat) (v : Sc) : (s.putRxSc n v).sec = s.sec := rfl
@[simp] theorem State.putRxSc_changes (s : State) (n : Nat) (v : Sc) : (s.putRxSc n v).changes = s.changes := rfl
@[simp] theorem State.putRxSc_freeCtr (s : State) (n : Nat) (v : Sc) : (s.putRxSc n v).freeCtr = s.freeCtr := rfl
theorem State.rxSc_putRxSc_ne (s : State) (n k : Nat) (v : Sc) (h : k ≠ n) : (s.putRxSc n v).rxSc k = s.rxSc k :=
  Arr.get_set_ne _ _ _ _ _ _ h
theorem State.rxSc_putRxSc_self (s : State) (n : Nat) (v : Sc) (h : s.cipher.rxSc.wf (fun _ => Sc.init) = true) : (s.putRxSc n v).rxSc n = v :=
  Arr.get_set_self (d := (fun _ => Sc.init)) _ _ _ h

/-! ### putTxSc -/

@[simp] theorem State.putTxSc_clock (s : State) (n : Nat) (v : Sc) : (s.putTxSc n v).clock = s.clock := rfl
@[simp] theorem State.putTxSc_pending (s : State) (n : Nat) (v : Sc) : (s.putTxSc n v).pending = s.pending := rfl
@[simp] theorem State.putTxSc_sec (s : State) (n : Nat) (v : Sc) : (s.putTxSc n v).sec = s.sec := rfl
@[simp] theorem State.putTxSc_changes (s : State) (n : Nat) (v : Sc) : (s.putTxSc n v).changes = s.changes := rfl
@[simp] theorem State.putTxSc_freeCtr (s : State) (n : Nat) (v : Sc) : (s.putTxSc n v).freeCtr = s.freeCtr := rfl
theorem State.txSc_putTxSc_ne (s : State) (n k : Nat) (v : Sc) (h : k ≠ n) : (s.putTxSc n v).txSc k = s.txSc k :=
  Arr.get_set_ne _ _ _ _ _ _ h
theorem State.txSc_putTxSc_self (s : State) (n : Nat) (v : Sc) (h : s.cipher.txSc.wf (fun _ => Sc.init) = true) : (s.putTxSc n v).txSc n = v :=
  Arr.get_set_self (d := (fun _ => Sc.init)) _ _ _ h

/-! ### putRxSa -/

@[simp] theorem State.putRxSa_clock (s : State) (n : Nat) (v : Sa) : (s.putRxSa n v).clock = s.clock := rfl
@[simp] theorem State.putRxSa_pending (s : State) (n : Nat) (v : Sa) : (s.putRxSa n v).pending = s.pending := rfl
@[simp] theorem State.putRxSa_sec (s : State) (n : Nat) (v : Sa) : (s.putRxSa n v).sec = s.sec := rfl
@[simp] theorem State.putRxSa_changes (s : State) (n : Nat) (v : Sa) : (s.putRxSa n v).changes = s.changes := rfl
@[simp] theorem State.putRxSa_freeCtr (s : State) (n : Nat) (v : Sa) : (s.putRxSa n v).freeCtr = s.freeCtr := rfl
theorem State.rxSa_putRxSa_ne (s : State) (n k : Nat) (v : Sa) (h : k ≠ n) : (s.putRxSa n v).rxSa k = s.rxSa k :=
  Arr.get_set_ne _ _ _ _ _ _ h
theorem State.rxSa_putRxSa_self (s : State) (n : Nat) (v : Sa) (h : s.cipher.rxSa.wf (fun _ => Sa.init) = true) : (s.putRxSa n v).rxSa n = v :=
  Arr.get_set_self (d := (fun _ => Sa.init)) _ _ _ h

/-! ### putTxSa -/

@[simp] theorem State.putTxSa_clock (s : State) (n : Nat) (v : Sa) : (s.putTxSa n v).clock = s.clock := rfl
@[simp] theorem State.putTxSa_pending (s : State) (n : Nat) (v : Sa) : (s.putTxSa n v).pending = s.pending := rfl
@[simp] theorem State.putTxSa_sec (s : State) (n : Nat) (v : Sa) : (s.putTxSa n v).sec = s.sec := rfl
@[simp] theorem State.putTxSa_changes (s : State) (n : Nat) (v : Sa) : (s.putTxSa n v).changes = s.changes := rfl
@[simp] theorem State.putTxSa_freeCtr (s : State) (n : Nat) (v : Sa) : (s.putTxSa n v).freeCtr = s.freeCtr := rfl
theorem State.txSa_putTxSa_ne (s : State) (n k : Nat) (v : Sa) (h : k ≠ n) : (s.putTxSa n v).txSa k = s.txSa k :=
  Arr.get_set_ne _ _ _ _ _ _ h
theorem State.txSa_putTxSa_self (s : State) (n : Nat) (v : Sa) (h : s.cipher.txSa.wf (fun _ => Sa.init) = true) : (s.putTxSa n v).txSa n = v :=
  Arr.get_set_self (d := (fun _ => Sa.init)) _ _ _ h

/-! ### putCengine -/

@[simp] theorem State.putCengine_clock (s : State) (n : Nat) (v : CEngine) : (s.putCengine n v).clock = s.clock := rfl
@[simp] theorem State.putCengine_pending (s : State) (n : Nat) (v : CEngine) : (s.putCengine n v).pending = s.pending := rfl
@[simp] theorem State.putCengine_sec (s : State) (n : Nat) (v : CEngine) : (s.putCengine n v).sec = s.sec := rfl
@[simp] theorem State.putCengine_changes (s : State) (n : Nat) (v : CEngine) : (s.putCengine n v).changes = s.changes := rfl
@[simp] theorem State.putCengine_freeCtr (s : State) (n : Nat) (v : CEngine) : (s.putCengine n v).freeCtr = s.freeCtr := rfl
theorem State.cengine_putCengine_ne (s : State) (n k : Nat) (v : CEngine) (h : k ≠ n) : (s.putCengine n v).cengine k = s.cengine k :=
  Arr.get_set_ne _ _ _ _ _ _ h
theorem State.cengine_putCengine_self (s : State) (n : Nat) (v : CEngine) (h : s.cipher.engines.wf (fun _ => CEngine.init) = true) : (s.putCengine n v).cengine n = v :=
  Arr.get_set_self (d := (fun _ => CEngine.init)) _ _ _ h

/-! ### putLaCtx -/

@[simp] theorem State.putLaCtx_clock (s : State) (n : Nat) (v : LaCtx) : (s.putLaCtx n v).clock = s.clock := rfl
@[simp] theorem State.putLaCtx_pending (s : State) (n : Nat) (v : LaCtx) : (s.putLaCtx n v).pending = s.pending := rfl
@[simp] theorem State.putLaCtx_sec (s : State) (n : Nat) (v : LaCtx) : (s.putLaCtx n v).sec = s.sec := rfl
@[simp] theorem State.putLaCtx_changes (s : State) (n : Nat) (v : LaCtx) : (s.putLaCtx n v).changes = s.changes := rfl
@[simp] theorem State.putLaCtx_freeCtr (s : State) (n : Nat) (v : LaCtx) : (s.putLaCtx n v).freeCtr = s.freeCtr := rfl
theorem State.laCtx_putLaCtx_ne (s : State) (n k : Nat) (v : LaCtx) (h : k ≠ n) : (s.putLaCtx n v).laCtx k = s.laCtx k :=
  Arr.get_set_ne _ _ _ _ _ _ h
theorem State.laCtx_putLaCtx_self (s : State) (n : Nat) (v : LaCtx) (h : s.cipher.ctx.wf (fun _ => LaCtx.init) = true) : (s.putLaCtx n v).laCtx n = v :=
  Arr.get_set_self (d := (fun _ => LaCtx.init)) _ _ _ h

/-! ### putObjAt -/

@[simp] theorem State.putObjAt_clock (s : State) (n : Nat) (v : ObjSlot) : (s.putObjAt n v).clock = s.clock := rfl
@[simp] theorem State.putObjAt_pending (s : State) (n : Nat) (v : ObjSlot) : (s.putObjAt n v).pending = s.pending := rfl
@[simp] theorem State.putObjAt_sec (s : State) (n : Nat) (v : ObjSlot) : (s.putObjAt n v).sec = s.sec := rfl
@[simp] theorem State.putObjAt_changes (s : State) (n : Nat) (v : ObjSlot) : (s.putObjAt n v).changes = s.changes := rfl
@[simp] theorem State.putObjAt_freeCtr (s : State) (n : Nat) (v : ObjSlot) : (s.putObjAt n v).freeCtr = s.freeCtr := rfl
theorem State.objAt_putObjAt_ne (s : State) (n k : Nat) (v : ObjSlot) (h : k ≠ n) : (s.putObjAt n v).objAt k = s.objAt k :=
  Arr.get_set_ne _ _ _ _ _ _ h
theorem State.objAt_putObjAt_self (s : State) (n : Nat) (v : ObjSlot) (h : s.rules.objs.wf (fun _ => ObjSlot.init) = true) : (s.putObjAt n v).objAt n = v :=
  Arr.get_set_self (d := (fun _ => ObjSlot.init)) _ _ _ h

/-! ### putPrefixAt -/

@[simp] theorem State.putPrefixAt_clock (s : State) (n : Nat) (v : ObjSlot) : (s.putPrefixAt n v).clock = s.clock := rfl
@[simp] theorem State.putPrefixAt_pending (s : State) (n : Nat) (v : ObjSlot) : (s.putPrefixAt n v).pending = s.pending := rfl
@[simp] theorem State.putPrefixAt_sec (s : State) (n : Nat) (v : ObjSlot) : (s.putPrefixAt n v).sec = s.sec := rfl
@[simp] theorem State.putPrefixAt_changes (s : State) (n : Nat) (v : ObjSlot) : (s.putPrefixAt n v).changes = s.changes := rfl
@[simp] theorem State.putPrefixAt_freeCtr (s : State) (n : Nat) (v : ObjSlot) : (s.putPrefixAt n v).freeCtr = s.freeCtr := rfl
theorem State.prefixAt_putPrefixAt_ne (s : State) (n k : Nat) (v : ObjSlot) (h : k ≠ n) : (s.putPrefixAt n v).prefixAt k = s.prefixAt k :=
  Arr.get_set_ne _ _ _ _ _ _ h
theorem State.prefixAt_putPrefixAt_self (s : State) (n : Nat) (v : ObjSlot) (h : s.rules.prefixes.wf (fun _ => ObjSlot.init) = true) : (s.putPrefixAt n v).prefixAt n = v :=
  Arr.get_set_self (d := (fun _ => ObjSlot.init)) _ _ _ h

/-! ### putRange -/

@[simp] theorem State.putRange_clock (s : State) (n : Nat) (v : RangeCmp) : (s.putRange n v).clock = s.clock := rfl
@[simp] theorem State.putRange_pending (s : State) (n : Nat) (v : RangeCmp) : (s.putRange n v).pending = s.pending := rfl
@[simp] theorem State.putRange_sec (s : State) (n : Nat) (v : RangeCmp) : (s.putRange n v).sec = s.sec := rfl
@[simp] theorem State.putRange_changes (s : State) (n : Nat) (v : RangeCmp) : (s.putRange n v).changes = s.changes := rfl
@[simp] theorem State.putRange_freeCtr (s : State) (n : Nat) (v : RangeCmp) : (s.putRange n v).freeCtr = s.freeCtr := rfl
theorem State.range_putRange_ne (s : State) (n k : Nat) (v : RangeCmp) (h : k ≠ n) : (s.putRange n v).range k = s.range k :=
  Arr.get_set_ne _ _ _ _ _ _ h
theorem State.range_putRange_self (s : State) (n : Nat) (v : RangeCmp) (h : s.rules.ranges.wf (fun _ => RangeCmp.init) = true) : (s.putRange n v).range n = v :=
  Arr.get_set_self (d := (fun _ => RangeCmp.init)) _ _ _ h

/-! ### putInFlight -/

@[simp] theorem State.putInFlight_clock (s : State) (n : Nat) (v : Nat) : (s.putInFlight n v).clock = s.clock := rfl
@[simp] theorem State.putInFlight_pending (s : State) (n : Nat) (v : Nat) : (s.putInFlight n v).pending = s.pending := rfl
@[simp] theorem State.putInFlight_sec (s : State) (n : Nat) (v : Nat) : (s.putInFlight n v).sec = s.sec := rfl
@[simp] theorem State.putInFlight_changes (s : State) (n : Nat) (v : Nat) : (s.putInFlight n v).changes = s.changes := rfl
@[simp] theorem State.putInFlight_freeCtr (s : State) (n : Nat) (v : Nat) : (s.putInFlight n v).freeCtr = s.freeCtr := rfl
theorem State.inFlight_putInFlight_ne (s : State) (n k : Nat) (v : Nat) (h : k ≠ n) : (s.putInFlight n v).inFlight k = s.inFlight k :=
  Arr.get_set_ne _ _ _ _ _ _ h
theorem State.inFlight_putInFlight_self (s : State) (n : Nat) (v : Nat) (h : s.rules.inFlight.wf (fun _ => 0) = true) : (s.putInFlight n v).inFlight n = v :=
  Arr.get_set_self (d := (fun _ => 0)) _ _ _ h

/-! ### putTable -/

@[simp] theorem State.putTable_clock (s : State) (n : Nat) (v : TableDef) : (s.putTable n v).clock = s.clock := rfl
@[simp] theorem State.putTable_pending (s : State) (n : Nat) (v : TableDef) : (s.putTable n v).pending = s.pending := rfl
@[simp] theorem State.putTable_sec (s : State) (n : Nat) (v : TableDef) : (s.putTable n v).sec = s.sec := rfl
@[simp] theorem State.putTable_changes (s : State) (n : Nat) (v : TableDef) : (s.putTable n v).changes = s.changes := rfl
@[simp] theorem State.putTable_freeCtr (s : State) (n : Nat) (v : TableDef) : (s.putTable n v).freeCtr = s.freeCtr := rfl
theorem State.table_putTable_ne (s : State) (n k : Nat) (v : TableDef) (h : k ≠ n) : (s.putTable n v).table k = s.table k :=
  Arr.get_set_ne _ _ _ _ _ _ h
theorem State.table_putTable_self (s : State) (n : Nat) (v : TableDef) (h : s.tables.defs.wf (fun _ => TableDef.init) = true) : (s.putTable n v).table n = v :=
  Arr.get_set_self (d := (fun _ => TableDef.init)) _ _ _ h

/-! ### putEmSlot -/

@[simp] theorem State.putEmSlot_clock (s : State) (n : Nat) (v : EmSlot) : (s.putEmSlot n v).clock = s.clock := rfl
@[simp] theorem State.putEmSlot_pending (s : State) (n : Nat) (v : EmSlot) : (s.putEmSlot n v).pending = s.pending := rfl
@[simp] theorem State.putEmSlot_sec (s : State) (n : Nat) (v : EmSlot) : (s.putEmSlot n v).sec = s.sec := rfl
@[simp] theorem State.putEmSlot_changes (s : State) (n : Nat) (v : EmSlot) : (s.putEmSlot n v).changes = s.changes := rfl
@[simp] theorem State.putEmSlot_freeCtr (s : State) (n : Nat) (v : EmSlot) : (s.putEmSlot n v).freeCtr = s.freeCtr := rfl
theorem State.emSlot_putEmSlot_ne (s : State) (n k : Nat) (v : EmSlot) (h : k ≠ n) : (s.putEmSlot n v).emSlot k = s.emSlot k :=
  Arr.get_set_ne _ _ _ _ _ _ h
theorem State.emSlot_putEmSlot_self (s : State) (n : Nat) (v : EmSlot) (h : s.tables.em.wf (fun _ => EmSlot.init) = true) : (s.putEmSlot n v).emSlot n = v :=
  Arr.get_set_self (d := (fun _ => EmSlot.init)) _ _ _ h

/-! ### putEmHit -/

@[simp] theorem State.putEmHit_clock (s : State) (n : Nat) (v : Bool) : (s.putEmHit n v).clock = s.clock := rfl
@[simp] theorem State.putEmHit_pending (s : State) (n : Nat) (v : Bool) : (s.putEmHit n v).pending = s.pending := rfl
@[simp] theorem State.putEmHit_sec (s : State) (n : Nat) (v : Bool) : (s.putEmHit n v).sec = s.sec := rfl
@[simp] theorem State.putEmHit_changes (s : State) (n : Nat) (v : Bool) : (s.putEmHit n v).changes = s.changes := rfl
@[simp] theorem State.putEmHit_freeCtr (s : State) (n : Nat) (v : Bool) : (s.putEmHit n v).freeCtr = s.freeCtr := rfl
theorem State.emHit_putEmHit_ne (s : State) (n k : Nat) (v : Bool) (h : k ≠ n) : (s.putEmHit n v).emHit k = s.emHit k :=
  Arr.get_set_ne _ _ _ _ _ _ h
theorem State.emHit_putEmHit_self (s : State) (n : Nat) (v : Bool) (h : s.tables.emHit.wf (fun _ => false) = true) : (s.putEmHit n v).emHit n = v :=
  Arr.get_set_self (d := (fun _ => false)) _ _ _ h

/-! ### putStashSlot -/

@[simp] theorem State.putStashSlot_clock (s : State) (n : Nat) (v : EmSlot) : (s.putStashSlot n v).clock = s.clock := rfl
@[simp] theorem State.putStashSlot_pending (s : State) (n : Nat) (v : EmSlot) : (s.putStashSlot n v).pending = s.pending := rfl
@[simp] theorem State.putStashSlot_sec (s : State) (n : Nat) (v : EmSlot) : (s.putStashSlot n v).sec = s.sec := rfl
@[simp] theorem State.putStashSlot_changes (s : State) (n : Nat) (v : EmSlot) : (s.putStashSlot n v).changes = s.changes := rfl
@[simp] theorem State.putStashSlot_freeCtr (s : State) (n : Nat) (v : EmSlot) : (s.putStashSlot n v).freeCtr = s.freeCtr := rfl
theorem State.stashSlot_putStashSlot_ne (s : State) (n k : Nat) (v : EmSlot) (h : k ≠ n) : (s.putStashSlot n v).stashSlot k = s.stashSlot k :=
  Arr.get_set_ne _ _ _ _ _ _ h
theorem State.stashSlot_putStashSlot_self (s : State) (n : Nat) (v : EmSlot) (h : s.tables.stash.wf (fun _ => EmSlot.init) = true) : (s.putStashSlot n v).stashSlot n = v :=
  Arr.get_set_self (d := (fun _ => EmSlot.init)) _ _ _ h

/-! ### putStashHit -/

@[simp] theorem State.putStashHit_clock (s : State) (n : Nat) (v : Bool) : (s.putStashHit n v).clock = s.clock := rfl
@[simp] theorem State.putStashHit_pending (s : State) (n : Nat) (v : Bool) : (s.putStashHit n v).pending = s.pending := rfl
@[simp] theorem State.putStashHit_sec (s : State) (n : Nat) (v : Bool) : (s.putStashHit n v).sec = s.sec := rfl
@[simp] theorem State.putStashHit_changes (s : State) (n : Nat) (v : Bool) : (s.putStashHit n v).changes = s.changes := rfl
@[simp] theorem State.putStashHit_freeCtr (s : State) (n : Nat) (v : Bool) : (s.putStashHit n v).freeCtr = s.freeCtr := rfl
theorem State.stashHit_putStashHit_ne (s : State) (n k : Nat) (v : Bool) (h : k ≠ n) : (s.putStashHit n v).stashHit k = s.stashHit k :=
  Arr.get_set_ne _ _ _ _ _ _ h
theorem State.stashHit_putStashHit_self (s : State) (n : Nat) (v : Bool) (h : s.tables.stashHit.wf (fun _ => false) = true) : (s.putStashHit n v).stashHit n = v :=
  Arr.get_set_self (d := (fun _ => false)) _ _ _ h

/-! ### putWriteTag -/

@[simp] theorem State.putWriteTag_clock (s : State) (n : Nat) (v : (BitVec 8)) : (s.putWriteTag n v).clock = s.clock := rfl
@[simp] theorem State.putWriteTag_pending (s : State) (n : Nat) (v : (BitVec 8)) : (s.putWriteTag n v).pending = s.pending := rfl
@[simp] theorem State.putWriteTag_sec (s : State) (n : Nat) (v : (BitVec 8)) : (s.putWriteTag n v).sec = s.sec := rfl
@[simp] theorem State.putWriteTag_changes (s : State) (n : Nat) (v : (BitVec 8)) : (s.putWriteTag n v).changes = s.changes := rfl
@[simp] theorem State.putWriteTag_freeCtr (s : State) (n : Nat) (v : (BitVec 8)) : (s.putWriteTag n v).freeCtr = s.freeCtr := rfl
theorem State.writeTag_putWriteTag_ne (s : State) (n k : Nat) (v : (BitVec 8)) (h : k ≠ n) : (s.putWriteTag n v).writeTag k = s.writeTag k :=
  Arr.get_set_ne _ _ _ _ _ _ h
theorem State.writeTag_putWriteTag_self (s : State) (n : Nat) (v : (BitVec 8)) (h : s.tables.tags.wf (fun _ => 0) = true) : (s.putWriteTag n v).writeTag n = v :=
  Arr.get_set_self (d := (fun _ => 0)) _ _ _ h

/-! ### putPair -/

@[simp] theorem State.putPair_clock (s : State) (n : Nat) (v : (Nat × Nat × Bool)) : (s.putPair n v).clock = s.clock := rfl
@[simp] theorem State.putPair_pending (s : State) (n : Nat) (v : (Nat × Nat × Bool)) : (s.putPair n v).pending = s.pending := rfl
@[simp] theorem State.putPair_sec (s : State) (n : Nat) (v : (Nat × Nat × Bool)) : (s.putPair n v).sec = s.sec := rfl
@[simp] theorem State.putPair_changes (s : State) (n : Nat) (v : (Nat × Nat × Bool)) : (s.putPair n v).changes = s.changes := rfl
@[simp] theorem State.putPair_freeCtr (s : State) (n : Nat) (v : (Nat × Nat × Bool)) : (s.putPair n v).freeCtr = s.freeCtr := rfl
theorem State.pair_putPair_ne (s : State) (n k : Nat) (v : (Nat × Nat × Bool)) (h : k ≠ n) : (s.putPair n v).pair k = s.pair k :=
  Arr.get_set_ne _ _ _ _ _ _ h
theorem State.pair_putPair_self (s : State) (n : Nat) (v : (Nat × Nat × Bool)) (h : s.tables.pairs.wf (fun _ => (0, 0, false)) = true) : (s.putPair n v).pair n = v :=
  Arr.get_set_self (d := (fun _ => (0, 0, false))) _ _ _ h

/-! ### putLpmPoison -/

@[simp] theorem State.putLpmPoison_clock (s : State) (n : Nat) (v : Bool) : (s.putLpmPoison n v).clock = s.clock := rfl
@[simp] theorem State.putLpmPoison_pending (s : State) (n : Nat) (v : Bool) : (s.putLpmPoison n v).pending = s.pending := rfl
@[simp] theorem State.putLpmPoison_sec (s : State) (n : Nat) (v : Bool) : (s.putLpmPoison n v).sec = s.sec := rfl
@[simp] theorem State.putLpmPoison_changes (s : State) (n : Nat) (v : Bool) : (s.putLpmPoison n v).changes = s.changes := rfl
@[simp] theorem State.putLpmPoison_freeCtr (s : State) (n : Nat) (v : Bool) : (s.putLpmPoison n v).freeCtr = s.freeCtr := rfl
theorem State.lpmPoison_putLpmPoison_ne (s : State) (n k : Nat) (v : Bool) (h : k ≠ n) : (s.putLpmPoison n v).lpmPoison k = s.lpmPoison k :=
  Arr.get_set_ne _ _ _ _ _ _ h
theorem State.lpmPoison_putLpmPoison_self (s : State) (n : Nat) (v : Bool) (h : s.tables.lpmPoison.wf (fun _ => false) = true) : (s.putLpmPoison n v).lpmPoison n = v :=
  Arr.get_set_self (d := (fun _ => false)) _ _ _ h

/-! ### putEmProfile -/

@[simp] theorem State.putEmProfile_clock (s : State) (n : Nat) (v : EmProf) : (s.putEmProfile n v).clock = s.clock := rfl
@[simp] theorem State.putEmProfile_pending (s : State) (n : Nat) (v : EmProf) : (s.putEmProfile n v).pending = s.pending := rfl
@[simp] theorem State.putEmProfile_sec (s : State) (n : Nat) (v : EmProf) : (s.putEmProfile n v).sec = s.sec := rfl
@[simp] theorem State.putEmProfile_changes (s : State) (n : Nat) (v : EmProf) : (s.putEmProfile n v).changes = s.changes := rfl
@[simp] theorem State.putEmProfile_freeCtr (s : State) (n : Nat) (v : EmProf) : (s.putEmProfile n v).freeCtr = s.freeCtr := rfl
theorem State.emProfile_putEmProfile_ne (s : State) (n k : Nat) (v : EmProf) (h : k ≠ n) : (s.putEmProfile n v).emProfile k = s.emProfile k :=
  Arr.get_set_ne _ _ _ _ _ _ h
theorem State.emProfile_putEmProfile_self (s : State) (n : Nat) (v : EmProf) (h : s.tables.emProf.wf (fun _ => EmProf.init) = true) : (s.putEmProfile n v).emProfile n = v :=
  Arr.get_set_self (d := (fun _ => EmProf.init)) _ _ _ h

/-! ### putLpmProfile -/

@[simp] theorem State.putLpmProfile_clock (s : State) (n : Nat) (v : (List LpmLookup)) : (s.putLpmProfile n v).clock = s.clock := rfl
@[simp] theorem State.putLpmProfile_pending (s : State) (n : Nat) (v : (List LpmLookup)) : (s.putLpmProfile n v).pending = s.pending := rfl
@[simp] theorem State.putLpmProfile_sec (s : State) (n : Nat) (v : (List LpmLookup)) : (s.putLpmProfile n v).sec = s.sec := rfl
@[simp] theorem State.putLpmProfile_changes (s : State) (n : Nat) (v : (List LpmLookup)) : (s.putLpmProfile n v).changes = s.changes := rfl
@[simp] theorem State.putLpmProfile_freeCtr (s : State) (n : Nat) (v : (List LpmLookup)) : (s.putLpmProfile n v).freeCtr = s.freeCtr := rfl
theorem State.lpmProfile_putLpmProfile_ne (s : State) (n k : Nat) (v : (List LpmLookup)) (h : k ≠ n) : (s.putLpmProfile n v).lpmProfile k = s.lpmProfile k :=
  Arr.get_set_ne _ _ _ _ _ _ h
theorem State.lpmProfile_putLpmProfile_self (s : State) (n : Nat) (v : (List LpmLookup)) (h : s.tables.lpmProf.wf (fun _ => []) = true) : (s.putLpmProfile n v).lpmProfile n = v :=
  Arr.get_set_self (d := (fun _ => [])) _ _ _ h

/-! ### putBankUsed -/

@[simp] theorem State.putBankUsed_clock (s : State) (n : Nat) (v : (Nat × Nat)) : (s.putBankUsed n v).clock = s.clock := rfl
@[simp] theorem State.putBankUsed_pending (s : State) (n : Nat) (v : (Nat × Nat)) : (s.putBankUsed n v).pending = s.pending := rfl
@[simp] theorem State.putBankUsed_sec (s : State) (n : Nat) (v : (Nat × Nat)) : (s.putBankUsed n v).sec = s.sec := rfl
@[simp] theorem State.putBankUsed_changes (s : State) (n : Nat) (v : (Nat × Nat)) : (s.putBankUsed n v).changes = s.changes := rfl
@[simp] theorem State.putBankUsed_freeCtr (s : State) (n : Nat) (v : (Nat × Nat)) : (s.putBankUsed n v).freeCtr = s.freeCtr := rfl
theorem State.bankUsed_putBankUsed_ne (s : State) (n k : Nat) (v : (Nat × Nat)) (h : k ≠ n) : (s.putBankUsed n v).bankUsed k = s.bankUsed k :=
  Arr.get_set_ne _ _ _ _ _ _ h
theorem State.bankUsed_putBankUsed_self (s : State) (n : Nat) (v : (Nat × Nat)) (h : s.tables.used.wf (fun _ => (0, 0)) = true) : (s.putBankUsed n v).bankUsed n = v :=
  Arr.get_set_self (d := (fun _ => (0, 0))) _ _ _ h

/-! ### putDeferEpoch -/

@[simp] theorem State.putDeferEpoch_clock (s : State) (n : Nat) (v : (Option Nat)) : (s.putDeferEpoch n v).clock = s.clock := rfl
@[simp] theorem State.putDeferEpoch_pending (s : State) (n : Nat) (v : (Option Nat)) : (s.putDeferEpoch n v).pending = s.pending := rfl
@[simp] theorem State.putDeferEpoch_sec (s : State) (n : Nat) (v : (Option Nat)) : (s.putDeferEpoch n v).sec = s.sec := rfl
@[simp] theorem State.putDeferEpoch_changes (s : State) (n : Nat) (v : (Option Nat)) : (s.putDeferEpoch n v).changes = s.changes := rfl
@[simp] theorem State.putDeferEpoch_freeCtr (s : State) (n : Nat) (v : (Option Nat)) : (s.putDeferEpoch n v).freeCtr = s.freeCtr := rfl
theorem State.deferEpoch_putDeferEpoch_ne (s : State) (n k : Nat) (v : (Option Nat)) (h : k ≠ n) : (s.putDeferEpoch n v).deferEpoch k = s.deferEpoch k :=
  Arr.get_set_ne _ _ _ _ _ _ h
theorem State.deferEpoch_putDeferEpoch_self (s : State) (n : Nat) (v : (Option Nat)) (h : s.tables.deferEpoch.wf (fun _ => none) = true) : (s.putDeferEpoch n v).deferEpoch n = v :=
  Arr.get_set_self (d := (fun _ => none)) _ _ _ h

/-! ### putGrantedAt -/

@[simp] theorem State.putGrantedAt_clock (s : State) (n : Nat) (v : (Option Nat)) : (s.putGrantedAt n v).clock = s.clock := rfl
@[simp] theorem State.putGrantedAt_pending (s : State) (n : Nat) (v : (Option Nat)) : (s.putGrantedAt n v).pending = s.pending := rfl
@[simp] theorem State.putGrantedAt_sec (s : State) (n : Nat) (v : (Option Nat)) : (s.putGrantedAt n v).sec = s.sec := rfl
@[simp] theorem State.putGrantedAt_changes (s : State) (n : Nat) (v : (Option Nat)) : (s.putGrantedAt n v).changes = s.changes := rfl
@[simp] theorem State.putGrantedAt_freeCtr (s : State) (n : Nat) (v : (Option Nat)) : (s.putGrantedAt n v).freeCtr = s.freeCtr := rfl
theorem State.grantedAt_putGrantedAt_ne (s : State) (n k : Nat) (v : (Option Nat)) (h : k ≠ n) : (s.putGrantedAt n v).grantedAt k = s.grantedAt k :=
  Arr.get_set_ne _ _ _ _ _ _ h
theorem State.grantedAt_putGrantedAt_self (s : State) (n : Nat) (v : (Option Nat)) (h : s.tables.granted.wf (fun _ => none) = true) : (s.putGrantedAt n v).grantedAt n = v :=
  Arr.get_set_self (d := (fun _ => none)) _ _ _ h

/-! ### putStashAt -/

@[simp] theorem State.putStashAt_clock (s : State) (n : Nat) (v : (Option Nat)) : (s.putStashAt n v).clock = s.clock := rfl
@[simp] theorem State.putStashAt_pending (s : State) (n : Nat) (v : (Option Nat)) : (s.putStashAt n v).pending = s.pending := rfl
@[simp] theorem State.putStashAt_sec (s : State) (n : Nat) (v : (Option Nat)) : (s.putStashAt n v).sec = s.sec := rfl
@[simp] theorem State.putStashAt_changes (s : State) (n : Nat) (v : (Option Nat)) : (s.putStashAt n v).changes = s.changes := rfl
@[simp] theorem State.putStashAt_freeCtr (s : State) (n : Nat) (v : (Option Nat)) : (s.putStashAt n v).freeCtr = s.freeCtr := rfl
theorem State.stashAt_putStashAt_ne (s : State) (n k : Nat) (v : (Option Nat)) (h : k ≠ n) : (s.putStashAt n v).stashAt k = s.stashAt k :=
  Arr.get_set_ne _ _ _ _ _ _ h
theorem State.stashAt_putStashAt_self (s : State) (n : Nat) (v : (Option Nat)) (h : s.tables.stashAt.wf (fun _ => none) = true) : (s.putStashAt n v).stashAt n = v :=
  Arr.get_set_self (d := (fun _ => none)) _ _ _ h

/-! ### putLearnTaken -/

@[simp] theorem State.putLearnTaken_clock (s : State) (n : Nat) (v : (Nat × Nat)) : (s.putLearnTaken n v).clock = s.clock := rfl
@[simp] theorem State.putLearnTaken_pending (s : State) (n : Nat) (v : (Nat × Nat)) : (s.putLearnTaken n v).pending = s.pending := rfl
@[simp] theorem State.putLearnTaken_sec (s : State) (n : Nat) (v : (Nat × Nat)) : (s.putLearnTaken n v).sec = s.sec := rfl
@[simp] theorem State.putLearnTaken_changes (s : State) (n : Nat) (v : (Nat × Nat)) : (s.putLearnTaken n v).changes = s.changes := rfl
@[simp] theorem State.putLearnTaken_freeCtr (s : State) (n : Nat) (v : (Nat × Nat)) : (s.putLearnTaken n v).freeCtr = s.freeCtr := rfl
theorem State.learnTaken_putLearnTaken_ne (s : State) (n k : Nat) (v : (Nat × Nat)) (h : k ≠ n) : (s.putLearnTaken n v).learnTaken k = s.learnTaken k :=
  Arr.get_set_ne _ _ _ _ _ _ h
theorem State.learnTaken_putLearnTaken_self (s : State) (n : Nat) (v : (Nat × Nat)) (h : s.tables.learnTaken.wf (fun _ => (0, 0)) = true) : (s.putLearnTaken n v).learnTaken n = v :=
  Arr.get_set_self (d := (fun _ => (0, 0))) _ _ _ h

/-! ### putLock -/

@[simp] theorem State.putLock_clock (s : State) (n : Nat) (v : Lock) : (s.putLock n v).clock = s.clock := rfl
@[simp] theorem State.putLock_pending (s : State) (n : Nat) (v : Lock) : (s.putLock n v).pending = s.pending := rfl
@[simp] theorem State.putLock_sec (s : State) (n : Nat) (v : Lock) : (s.putLock n v).sec = s.sec := rfl
@[simp] theorem State.putLock_changes (s : State) (n : Nat) (v : Lock) : (s.putLock n v).changes = s.changes := rfl
@[simp] theorem State.putLock_freeCtr (s : State) (n : Nat) (v : Lock) : (s.putLock n v).freeCtr = s.freeCtr := rfl
theorem State.lock_putLock_ne (s : State) (n k : Nat) (v : Lock) (h : k ≠ n) : (s.putLock n v).lock k = s.lock k :=
  Arr.get_set_ne _ _ _ _ _ _ h
theorem State.lock_putLock_self (s : State) (n : Nat) (v : Lock) (h : s.tables.locks.wf (fun _ => Lock.init) = true) : (s.putLock n v).lock n = v :=
  Arr.get_set_self (d := (fun _ => Lock.init)) _ _ _ h

/-! ### putScrubPos -/

@[simp] theorem State.putScrubPos_clock (s : State) (n : Nat) (v : Nat) : (s.putScrubPos n v).clock = s.clock := rfl
@[simp] theorem State.putScrubPos_pending (s : State) (n : Nat) (v : Nat) : (s.putScrubPos n v).pending = s.pending := rfl
@[simp] theorem State.putScrubPos_sec (s : State) (n : Nat) (v : Nat) : (s.putScrubPos n v).sec = s.sec := rfl
@[simp] theorem State.putScrubPos_changes (s : State) (n : Nat) (v : Nat) : (s.putScrubPos n v).changes = s.changes := rfl
@[simp] theorem State.putScrubPos_freeCtr (s : State) (n : Nat) (v : Nat) : (s.putScrubPos n v).freeCtr = s.freeCtr := rfl
theorem State.scrubPos_putScrubPos_ne (s : State) (n k : Nat) (v : Nat) (h : k ≠ n) : (s.putScrubPos n v).scrubPos k = s.scrubPos k :=
  Arr.get_set_ne _ _ _ _ _ _ h
theorem State.scrubPos_putScrubPos_self (s : State) (n : Nat) (v : Nat) (h : s.tables.scrubPos.wf (fun _ => 0) = true) : (s.putScrubPos n v).scrubPos n = v :=
  Arr.get_set_self (d := (fun _ => 0)) _ _ _ h

/-! ### putScrubFrom -/

@[simp] theorem State.putScrubFrom_clock (s : State) (n : Nat) (v : Nat) : (s.putScrubFrom n v).clock = s.clock := rfl
@[simp] theorem State.putScrubFrom_pending (s : State) (n : Nat) (v : Nat) : (s.putScrubFrom n v).pending = s.pending := rfl
@[simp] theorem State.putScrubFrom_sec (s : State) (n : Nat) (v : Nat) : (s.putScrubFrom n v).sec = s.sec := rfl
@[simp] theorem State.putScrubFrom_changes (s : State) (n : Nat) (v : Nat) : (s.putScrubFrom n v).changes = s.changes := rfl
@[simp] theorem State.putScrubFrom_freeCtr (s : State) (n : Nat) (v : Nat) : (s.putScrubFrom n v).freeCtr = s.freeCtr := rfl
theorem State.scrubFrom_putScrubFrom_ne (s : State) (n k : Nat) (v : Nat) (h : k ≠ n) : (s.putScrubFrom n v).scrubFrom k = s.scrubFrom k :=
  Arr.get_set_ne _ _ _ _ _ _ h
theorem State.scrubFrom_putScrubFrom_self (s : State) (n : Nat) (v : Nat) (h : s.tables.scrubFrom.wf (fun _ => 0) = true) : (s.putScrubFrom n v).scrubFrom n = v :=
  Arr.get_set_self (d := (fun _ => 0)) _ _ _ h

/-! ### putPkt -/

@[simp] theorem State.putPkt_clock (s : State) (n : Nat) (v : (Option Pkt)) : (s.putPkt n v).clock = s.clock := rfl
@[simp] theorem State.putPkt_pending (s : State) (n : Nat) (v : (Option Pkt)) : (s.putPkt n v).pending = s.pending := rfl
@[simp] theorem State.putPkt_sec (s : State) (n : Nat) (v : (Option Pkt)) : (s.putPkt n v).sec = s.sec := rfl
@[simp] theorem State.putPkt_changes (s : State) (n : Nat) (v : (Option Pkt)) : (s.putPkt n v).changes = s.changes := rfl
@[simp] theorem State.putPkt_freeCtr (s : State) (n : Nat) (v : (Option Pkt)) : (s.putPkt n v).freeCtr = s.freeCtr := rfl
theorem State.pkt_putPkt_ne (s : State) (n k : Nat) (v : (Option Pkt)) (h : k ≠ n) : (s.putPkt n v).pkt k = s.pkt k :=
  Arr.get_set_ne _ _ _ _ _ _ h
theorem State.pkt_putPkt_self (s : State) (n : Nat) (v : (Option Pkt)) (h : s.pk.pkts.wf (fun _ => none) = true) : (s.putPkt n v).pkt n = v :=
  Arr.get_set_self (d := (fun _ => none)) _ _ _ h

/-! ### putCopy -/

@[simp] theorem State.putCopy_clock (s : State) (n : Nat) (v : (Option Copy)) : (s.putCopy n v).clock = s.clock := rfl
@[simp] theorem State.putCopy_pending (s : State) (n : Nat) (v : (Option Copy)) : (s.putCopy n v).pending = s.pending := rfl
@[simp] theorem State.putCopy_sec (s : State) (n : Nat) (v : (Option Copy)) : (s.putCopy n v).sec = s.sec := rfl
@[simp] theorem State.putCopy_changes (s : State) (n : Nat) (v : (Option Copy)) : (s.putCopy n v).changes = s.changes := rfl
@[simp] theorem State.putCopy_freeCtr (s : State) (n : Nat) (v : (Option Copy)) : (s.putCopy n v).freeCtr = s.freeCtr := rfl
theorem State.copy_putCopy_ne (s : State) (n k : Nat) (v : (Option Copy)) (h : k ≠ n) : (s.putCopy n v).copy k = s.copy k :=
  Arr.get_set_ne _ _ _ _ _ _ h
theorem State.copy_putCopy_self (s : State) (n : Nat) (v : (Option Copy)) (h : s.pk.copies.wf (fun _ => none) = true) : (s.putCopy n v).copy n = v :=
  Arr.get_set_self (d := (fun _ => none)) _ _ _ h

/-! ### putSpecTag -/

@[simp] theorem State.putSpecTag_clock (s : State) (n : Nat) (v : (Option Nat)) : (s.putSpecTag n v).clock = s.clock := rfl
@[simp] theorem State.putSpecTag_pending (s : State) (n : Nat) (v : (Option Nat)) : (s.putSpecTag n v).pending = s.pending := rfl
@[simp] theorem State.putSpecTag_sec (s : State) (n : Nat) (v : (Option Nat)) : (s.putSpecTag n v).sec = s.sec := rfl
@[simp] theorem State.putSpecTag_changes (s : State) (n : Nat) (v : (Option Nat)) : (s.putSpecTag n v).changes = s.changes := rfl
@[simp] theorem State.putSpecTag_freeCtr (s : State) (n : Nat) (v : (Option Nat)) : (s.putSpecTag n v).freeCtr = s.freeCtr := rfl
theorem State.specTag_putSpecTag_ne (s : State) (n k : Nat) (v : (Option Nat)) (h : k ≠ n) : (s.putSpecTag n v).specTag k = s.specTag k :=
  Arr.get_set_ne _ _ _ _ _ _ h
theorem State.specTag_putSpecTag_self (s : State) (n : Nat) (v : (Option Nat)) (h : s.pk.tags.wf (fun _ => none) = true) : (s.putSpecTag n v).specTag n = v :=
  Arr.get_set_self (d := (fun _ => none)) _ _ _ h

/-! ### putTagNext -/

@[simp] theorem State.putTagNext_clock (s : State) (n : Nat) (v : Nat) : (s.putTagNext n v).clock = s.clock := rfl
@[simp] theorem State.putTagNext_pending (s : State) (n : Nat) (v : Nat) : (s.putTagNext n v).pending = s.pending := rfl
@[simp] theorem State.putTagNext_sec (s : State) (n : Nat) (v : Nat) : (s.putTagNext n v).sec = s.sec := rfl
@[simp] theorem State.putTagNext_changes (s : State) (n : Nat) (v : Nat) : (s.putTagNext n v).changes = s.changes := rfl
@[simp] theorem State.putTagNext_freeCtr (s : State) (n : Nat) (v : Nat) : (s.putTagNext n v).freeCtr = s.freeCtr := rfl
theorem State.tagNext_putTagNext_ne (s : State) (n k : Nat) (v : Nat) (h : k ≠ n) : (s.putTagNext n v).tagNext k = s.tagNext k :=
  Arr.get_set_ne _ _ _ _ _ _ h
theorem State.tagNext_putTagNext_self (s : State) (n : Nat) (v : Nat) (h : s.pk.tagNext.wf (fun _ => 0) = true) : (s.putTagNext n v).tagNext n = v :=
  Arr.get_set_self (d := (fun _ => 0)) _ _ _ h

/-! ### putQList -/

@[simp] theorem State.putQList_clock (s : State) (n : Nat) (v : (List Nat)) : (s.putQList n v).clock = s.clock := rfl
@[simp] theorem State.putQList_pending (s : State) (n : Nat) (v : (List Nat)) : (s.putQList n v).pending = s.pending := rfl
@[simp] theorem State.putQList_sec (s : State) (n : Nat) (v : (List Nat)) : (s.putQList n v).sec = s.sec := rfl
@[simp] theorem State.putQList_changes (s : State) (n : Nat) (v : (List Nat)) : (s.putQList n v).changes = s.changes := rfl
@[simp] theorem State.putQList_freeCtr (s : State) (n : Nat) (v : (List Nat)) : (s.putQList n v).freeCtr = s.freeCtr := rfl
theorem State.qList_putQList_ne (s : State) (n k : Nat) (v : (List Nat)) (h : k ≠ n) : (s.putQList n v).qList k = s.qList k :=
  Arr.get_set_ne _ _ _ _ _ _ h
theorem State.qList_putQList_self (s : State) (n : Nat) (v : (List Nat)) (h : s.pk.queues.wf (fun _ => []) = true) : (s.putQList n v).qList n = v :=
  Arr.get_set_self (d := (fun _ => [])) _ _ _ h

/-! ### putOpenList -/

@[simp] theorem State.putOpenList_clock (s : State) (n : Nat) (v : (List Nat)) : (s.putOpenList n v).clock = s.clock := rfl
@[simp] theorem State.putOpenList_pending (s : State) (n : Nat) (v : (List Nat)) : (s.putOpenList n v).pending = s.pending := rfl
@[simp] theorem State.putOpenList_sec (s : State) (n : Nat) (v : (List Nat)) : (s.putOpenList n v).sec = s.sec := rfl
@[simp] theorem State.putOpenList_changes (s : State) (n : Nat) (v : (List Nat)) : (s.putOpenList n v).changes = s.changes := rfl
@[simp] theorem State.putOpenList_freeCtr (s : State) (n : Nat) (v : (List Nat)) : (s.putOpenList n v).freeCtr = s.freeCtr := rfl
theorem State.openList_putOpenList_ne (s : State) (n k : Nat) (v : (List Nat)) (h : k ≠ n) : (s.putOpenList n v).openList k = s.openList k :=
  Arr.get_set_ne _ _ _ _ _ _ h
theorem State.openList_putOpenList_self (s : State) (n : Nat) (v : (List Nat)) (h : s.pk.open_.wf (fun _ => []) = true) : (s.putOpenList n v).openList n = v :=
  Arr.get_set_self (d := (fun _ => [])) _ _ _ h

/-! ### putReleased -/

@[simp] theorem State.putReleased_clock (s : State) (n : Nat) (v : (List Nat)) : (s.putReleased n v).clock = s.clock := rfl
@[simp] theorem State.putReleased_pending (s : State) (n : Nat) (v : (List Nat)) : (s.putReleased n v).pending = s.pending := rfl
@[simp] theorem State.putReleased_sec (s : State) (n : Nat) (v : (List Nat)) : (s.putReleased n v).sec = s.sec := rfl
@[simp] theorem State.putReleased_changes (s : State) (n : Nat) (v : (List Nat)) : (s.putReleased n v).changes = s.changes := rfl
@[simp] theorem State.putReleased_freeCtr (s : State) (n : Nat) (v : (List Nat)) : (s.putReleased n v).freeCtr = s.freeCtr := rfl
theorem State.released_putReleased_ne (s : State) (n k : Nat) (v : (List Nat)) (h : k ≠ n) : (s.putReleased n v).released k = s.released k :=
  Arr.get_set_ne _ _ _ _ _ _ h
theorem State.released_putReleased_self (s : State) (n : Nat) (v : (List Nat)) (h : s.pk.released.wf (fun _ => []) = true) : (s.putReleased n v).released n = v :=
  Arr.get_set_self (d := (fun _ => [])) _ _ _ h

/-! ### putMacFifo -/

@[simp] theorem State.putMacFifo_clock (s : State) (n : Nat) (v : (List Nat)) : (s.putMacFifo n v).clock = s.clock := rfl
@[simp] theorem State.putMacFifo_pending (s : State) (n : Nat) (v : (List Nat)) : (s.putMacFifo n v).pending = s.pending := rfl
@[simp] theorem State.putMacFifo_sec (s : State) (n : Nat) (v : (List Nat)) : (s.putMacFifo n v).sec = s.sec := rfl
@[simp] theorem State.putMacFifo_changes (s : State) (n : Nat) (v : (List Nat)) : (s.putMacFifo n v).changes = s.changes := rfl
@[simp] theorem State.putMacFifo_freeCtr (s : State) (n : Nat) (v : (List Nat)) : (s.putMacFifo n v).freeCtr = s.freeCtr := rfl
theorem State.macFifo_putMacFifo_ne (s : State) (n k : Nat) (v : (List Nat)) (h : k ≠ n) : (s.putMacFifo n v).macFifo k = s.macFifo k :=
  Arr.get_set_ne _ _ _ _ _ _ h
theorem State.macFifo_putMacFifo_self (s : State) (n : Nat) (v : (List Nat)) (h : s.pk.macFifo.wf (fun _ => []) = true) : (s.putMacFifo n v).macFifo n = v :=
  Arr.get_set_self (d := (fun _ => [])) _ _ _ h

/-! ### putSending -/

@[simp] theorem State.putSending_clock (s : State) (n : Nat) (v : (Option Nat)) : (s.putSending n v).clock = s.clock := rfl
@[simp] theorem State.putSending_pending (s : State) (n : Nat) (v : (Option Nat)) : (s.putSending n v).pending = s.pending := rfl
@[simp] theorem State.putSending_sec (s : State) (n : Nat) (v : (Option Nat)) : (s.putSending n v).sec = s.sec := rfl
@[simp] theorem State.putSending_changes (s : State) (n : Nat) (v : (Option Nat)) : (s.putSending n v).changes = s.changes := rfl
@[simp] theorem State.putSending_freeCtr (s : State) (n : Nat) (v : (Option Nat)) : (s.putSending n v).freeCtr = s.freeCtr := rfl
theorem State.sending_putSending_ne (s : State) (n k : Nat) (v : (Option Nat)) (h : k ≠ n) : (s.putSending n v).sending k = s.sending k :=
  Arr.get_set_ne _ _ _ _ _ _ h
theorem State.sending_putSending_self (s : State) (n : Nat) (v : (Option Nat)) (h : s.pk.sending.wf (fun _ => none) = true) : (s.putSending n v).sending n = v :=
  Arr.get_set_self (d := (fun _ => none)) _ _ _ h

/-! ### putCellAt -/

@[simp] theorem State.putCellAt_clock (s : State) (n : Nat) (v : CellEntry) : (s.putCellAt n v).clock = s.clock := rfl
@[simp] theorem State.putCellAt_pending (s : State) (n : Nat) (v : CellEntry) : (s.putCellAt n v).pending = s.pending := rfl
@[simp] theorem State.putCellAt_sec (s : State) (n : Nat) (v : CellEntry) : (s.putCellAt n v).sec = s.sec := rfl
@[simp] theorem State.putCellAt_changes (s : State) (n : Nat) (v : CellEntry) : (s.putCellAt n v).changes = s.changes := rfl
@[simp] theorem State.putCellAt_freeCtr (s : State) (n : Nat) (v : CellEntry) : (s.putCellAt n v).freeCtr = s.freeCtr := rfl
theorem State.cellAt_putCellAt_ne (s : State) (n k : Nat) (v : CellEntry) (h : k ≠ n) : (s.putCellAt n v).cellAt k = s.cellAt k :=
  Arr.get_set_ne _ _ _ _ _ _ h
theorem State.cellAt_putCellAt_self (s : State) (n : Nat) (v : CellEntry) (h : s.pk.cells.wf (fun _ => CellEntry.init) = true) : (s.putCellAt n v).cellAt n = v :=
  Arr.get_set_self (d := (fun _ => CellEntry.init)) _ _ _ h

/-! ### putPart -/

@[simp] theorem State.putPart_clock (s : State) (n : Nat) (v : Partition) : (s.putPart n v).clock = s.clock := rfl
@[simp] theorem State.putPart_pending (s : State) (n : Nat) (v : Partition) : (s.putPart n v).pending = s.pending := rfl
@[simp] theorem State.putPart_sec (s : State) (n : Nat) (v : Partition) : (s.putPart n v).sec = s.sec := rfl
@[simp] theorem State.putPart_changes (s : State) (n : Nat) (v : Partition) : (s.putPart n v).changes = s.changes := rfl
@[simp] theorem State.putPart_freeCtr (s : State) (n : Nat) (v : Partition) : (s.putPart n v).freeCtr = s.freeCtr := rfl
theorem State.part_putPart_ne (s : State) (n k : Nat) (v : Partition) (h : k ≠ n) : (s.putPart n v).part k = s.part k :=
  Arr.get_set_ne _ _ _ _ _ _ h
theorem State.part_putPart_self (s : State) (n : Nat) (v : Partition) (h : s.pk.parts.wf (fun _ => Partition.init) = true) : (s.putPart n v).part n = v :=
  Arr.get_set_self (d := (fun _ => Partition.init)) _ _ _ h

/-! ### putSlice -/

@[simp] theorem State.putSlice_clock (s : State) (n : Nat) (v : SliceSt) : (s.putSlice n v).clock = s.clock := rfl
@[simp] theorem State.putSlice_pending (s : State) (n : Nat) (v : SliceSt) : (s.putSlice n v).pending = s.pending := rfl
@[simp] theorem State.putSlice_sec (s : State) (n : Nat) (v : SliceSt) : (s.putSlice n v).sec = s.sec := rfl
@[simp] theorem State.putSlice_changes (s : State) (n : Nat) (v : SliceSt) : (s.putSlice n v).changes = s.changes := rfl
@[simp] theorem State.putSlice_freeCtr (s : State) (n : Nat) (v : SliceSt) : (s.putSlice n v).freeCtr = s.freeCtr := rfl
theorem State.slice_putSlice_ne (s : State) (n k : Nat) (v : SliceSt) (h : k ≠ n) : (s.putSlice n v).slice k = s.slice k :=
  Arr.get_set_ne _ _ _ _ _ _ h
theorem State.slice_putSlice_self (s : State) (n : Nat) (v : SliceSt) (h : s.pk.slices.wf (fun _ => SliceSt.init) = true) : (s.putSlice n v).slice n = v :=
  Arr.get_set_self (d := (fun _ => SliceSt.init)) _ _ _ h

/-! ### putChan -/

@[simp] theorem State.putChan_clock (s : State) (n : Nat) (v : ElemLife) : (s.putChan n v).clock = s.clock := rfl
@[simp] theorem State.putChan_pending (s : State) (n : Nat) (v : ElemLife) : (s.putChan n v).pending = s.pending := rfl
@[simp] theorem State.putChan_sec (s : State) (n : Nat) (v : ElemLife) : (s.putChan n v).sec = s.sec := rfl
@[simp] theorem State.putChan_changes (s : State) (n : Nat) (v : ElemLife) : (s.putChan n v).changes = s.changes := rfl
@[simp] theorem State.putChan_freeCtr (s : State) (n : Nat) (v : ElemLife) : (s.putChan n v).freeCtr = s.freeCtr := rfl
theorem State.chan_putChan_ne (s : State) (n k : Nat) (v : ElemLife) (h : k ≠ n) : (s.putChan n v).chan k = s.chan k :=
  Arr.get_set_ne _ _ _ _ _ _ h
theorem State.chan_putChan_self (s : State) (n : Nat) (v : ElemLife) (h : s.pk.chans.wf (fun _ => ElemLife.live) = true) : (s.putChan n v).chan n = v :=
  Arr.get_set_self (d := (fun _ => ElemLife.live)) _ _ _ h

/-! ### putPool -/

@[simp] theorem State.putPool_clock (s : State) (n : Nat) (v : Pool) : (s.putPool n v).clock = s.clock := rfl
@[simp] theorem State.putPool_pending (s : State) (n : Nat) (v : Pool) : (s.putPool n v).pending = s.pending := rfl
@[simp] theorem State.putPool_sec (s : State) (n : Nat) (v : Pool) : (s.putPool n v).sec = s.sec := rfl
@[simp] theorem State.putPool_changes (s : State) (n : Nat) (v : Pool) : (s.putPool n v).changes = s.changes := rfl
@[simp] theorem State.putPool_freeCtr (s : State) (n : Nat) (v : Pool) : (s.putPool n v).freeCtr = s.freeCtr := rfl
theorem State.pool_putPool_ne (s : State) (n k : Nat) (v : Pool) (h : k ≠ n) : (s.putPool n v).pool k = s.pool k :=
  Arr.get_set_ne _ _ _ _ _ _ h
theorem State.pool_putPool_self (s : State) (n : Nat) (v : Pool) (h : s.pk.pools.wf (fun n => (Pool.init n)) = true) : (s.putPool n v).pool n = v :=
  Arr.get_set_self (d := (fun n => (Pool.init n))) _ _ _ h

/-! ### putPg -/

@[simp] theorem State.putPg_clock (s : State) (n : Nat) (v : PgRec) : (s.putPg n v).clock = s.clock := rfl
@[simp] theorem State.putPg_pending (s : State) (n : Nat) (v : PgRec) : (s.putPg n v).pending = s.pending := rfl
@[simp] theorem State.putPg_sec (s : State) (n : Nat) (v : PgRec) : (s.putPg n v).sec = s.sec := rfl
@[simp] theorem State.putPg_changes (s : State) (n : Nat) (v : PgRec) : (s.putPg n v).changes = s.changes := rfl
@[simp] theorem State.putPg_freeCtr (s : State) (n : Nat) (v : PgRec) : (s.putPg n v).freeCtr = s.freeCtr := rfl
theorem State.pg_putPg_ne (s : State) (n k : Nat) (v : PgRec) (h : k ≠ n) : (s.putPg n v).pg k = s.pg k :=
  Arr.get_set_ne _ _ _ _ _ _ h
theorem State.pg_putPg_self (s : State) (n : Nat) (v : PgRec) (h : s.pk.pgs.wf (fun _ => PgRec.init) = true) : (s.putPg n v).pg n = v :=
  Arr.get_set_self (d := (fun _ => PgRec.init)) _ _ _ h

/-! ### putPeak -/

@[simp] theorem State.putPeak_clock (s : State) (n : Nat) (v : Nat) : (s.putPeak n v).clock = s.clock := rfl
@[simp] theorem State.putPeak_pending (s : State) (n : Nat) (v : Nat) : (s.putPeak n v).pending = s.pending := rfl
@[simp] theorem State.putPeak_sec (s : State) (n : Nat) (v : Nat) : (s.putPeak n v).sec = s.sec := rfl
@[simp] theorem State.putPeak_changes (s : State) (n : Nat) (v : Nat) : (s.putPeak n v).changes = s.changes := rfl
@[simp] theorem State.putPeak_freeCtr (s : State) (n : Nat) (v : Nat) : (s.putPeak n v).freeCtr = s.freeCtr := rfl
theorem State.peak_putPeak_ne (s : State) (n k : Nat) (v : Nat) (h : k ≠ n) : (s.putPeak n v).peak k = s.peak k :=
  Arr.get_set_ne _ _ _ _ _ _ h
theorem State.peak_putPeak_self (s : State) (n : Nat) (v : Nat) (h : s.pk.peaks.wf peakInit = true) : (s.putPeak n v).peak n = v :=
  Arr.get_set_self (d := peakInit) _ _ _ h

/-! ### putOnceEpoch -/

@[simp] theorem State.putOnceEpoch_clock (s : State) (n : Nat) (v : (Option Nat)) : (s.putOnceEpoch n v).clock = s.clock := rfl
@[simp] theorem State.putOnceEpoch_pending (s : State) (n : Nat) (v : (Option Nat)) : (s.putOnceEpoch n v).pending = s.pending := rfl
@[simp] theorem State.putOnceEpoch_sec (s : State) (n : Nat) (v : (Option Nat)) : (s.putOnceEpoch n v).sec = s.sec := rfl
@[simp] theorem State.putOnceEpoch_changes (s : State) (n : Nat) (v : (Option Nat)) : (s.putOnceEpoch n v).changes = s.changes := rfl
@[simp] theorem State.putOnceEpoch_freeCtr (s : State) (n : Nat) (v : (Option Nat)) : (s.putOnceEpoch n v).freeCtr = s.freeCtr := rfl
theorem State.onceEpoch_putOnceEpoch_ne (s : State) (n k : Nat) (v : (Option Nat)) (h : k ≠ n) : (s.putOnceEpoch n v).onceEpoch k = s.onceEpoch k :=
  Arr.get_set_ne _ _ _ _ _ _ h
theorem State.onceEpoch_putOnceEpoch_self (s : State) (n : Nat) (v : (Option Nat)) (h : s.pk.onceEpoch.wf (fun _ => none) = true) : (s.putOnceEpoch n v).onceEpoch n = v :=
  Arr.get_set_self (d := (fun _ => none)) _ _ _ h

/-! ### putMgroup -/

@[simp] theorem State.putMgroup_clock (s : State) (n : Nat) (v : (Option McastGroup)) : (s.putMgroup n v).clock = s.clock := rfl
@[simp] theorem State.putMgroup_pending (s : State) (n : Nat) (v : (Option McastGroup)) : (s.putMgroup n v).pending = s.pending := rfl
@[simp] theorem State.putMgroup_sec (s : State) (n : Nat) (v : (Option McastGroup)) : (s.putMgroup n v).sec = s.sec := rfl
@[simp] theorem State.putMgroup_changes (s : State) (n : Nat) (v : (Option McastGroup)) : (s.putMgroup n v).changes = s.changes := rfl
@[simp] theorem State.putMgroup_freeCtr (s : State) (n : Nat) (v : (Option McastGroup)) : (s.putMgroup n v).freeCtr = s.freeCtr := rfl
theorem State.mgroup_putMgroup_ne (s : State) (n k : Nat) (v : (Option McastGroup)) (h : k ≠ n) : (s.putMgroup n v).mgroup k = s.mgroup k :=
  Arr.get_set_ne _ _ _ _ _ _ h
theorem State.mgroup_putMgroup_self (s : State) (n : Nat) (v : (Option McastGroup)) (h : s.pk.groups.wf (fun _ => none) = true) : (s.putMgroup n v).mgroup n = v :=
  Arr.get_set_self (d := (fun _ => none)) _ _ _ h

/-! ### putCutThrough -/

@[simp] theorem State.putCutThrough_clock (s : State) (n : Nat) (v : (Bool × Nat)) : (s.putCutThrough n v).clock = s.clock := rfl
@[simp] theorem State.putCutThrough_pending (s : State) (n : Nat) (v : (Bool × Nat)) : (s.putCutThrough n v).pending = s.pending := rfl
@[simp] theorem State.putCutThrough_sec (s : State) (n : Nat) (v : (Bool × Nat)) : (s.putCutThrough n v).sec = s.sec := rfl
@[simp] theorem State.putCutThrough_changes (s : State) (n : Nat) (v : (Bool × Nat)) : (s.putCutThrough n v).changes = s.changes := rfl
@[simp] theorem State.putCutThrough_freeCtr (s : State) (n : Nat) (v : (Bool × Nat)) : (s.putCutThrough n v).freeCtr = s.freeCtr := rfl
theorem State.cutThrough_putCutThrough_ne (s : State) (n k : Nat) (v : (Bool × Nat)) (h : k ≠ n) : (s.putCutThrough n v).cutThrough k = s.cutThrough k :=
  Arr.get_set_ne _ _ _ _ _ _ h
theorem State.cutThrough_putCutThrough_self (s : State) (n : Nat) (v : (Bool × Nat)) (h : s.pk.cutThrough.wf (fun _ => (true, 2)) = true) : (s.putCutThrough n v).cutThrough n = v :=
  Arr.get_set_self (d := (fun _ => (true, 2))) _ _ _ h

/-! ### putOrphans -/

@[simp] theorem State.putOrphans_clock (s : State) (n : Nat) (v : (List Nat)) : (s.putOrphans n v).clock = s.clock := rfl
@[simp] theorem State.putOrphans_pending (s : State) (n : Nat) (v : (List Nat)) : (s.putOrphans n v).pending = s.pending := rfl
@[simp] theorem State.putOrphans_sec (s : State) (n : Nat) (v : (List Nat)) : (s.putOrphans n v).sec = s.sec := rfl
@[simp] theorem State.putOrphans_changes (s : State) (n : Nat) (v : (List Nat)) : (s.putOrphans n v).changes = s.changes := rfl
@[simp] theorem State.putOrphans_freeCtr (s : State) (n : Nat) (v : (List Nat)) : (s.putOrphans n v).freeCtr = s.freeCtr := rfl
theorem State.orphans_putOrphans_ne (s : State) (n k : Nat) (v : (List Nat)) (h : k ≠ n) : (s.putOrphans n v).orphans k = s.orphans k :=
  Arr.get_set_ne _ _ _ _ _ _ h
theorem State.orphans_putOrphans_self (s : State) (n : Nat) (v : (List Nat)) (h : s.pk.orphans.wf (fun _ => []) = true) : (s.putOrphans n v).orphans n = v :=
  Arr.get_set_self (d := (fun _ => [])) _ _ _ h

/-! ### putSlotsAt -/

@[simp] theorem State.putSlotsAt_clock (s : State) (n : Nat) (v : (Nat × Nat)) : (s.putSlotsAt n v).clock = s.clock := rfl
@[simp] theorem State.putSlotsAt_pending (s : State) (n : Nat) (v : (Nat × Nat)) : (s.putSlotsAt n v).pending = s.pending := rfl
@[simp] theorem State.putSlotsAt_sec (s : State) (n : Nat) (v : (Nat × Nat)) : (s.putSlotsAt n v).sec = s.sec := rfl
@[simp] theorem State.putSlotsAt_changes (s : State) (n : Nat) (v : (Nat × Nat)) : (s.putSlotsAt n v).changes = s.changes := rfl
@[simp] theorem State.putSlotsAt_freeCtr (s : State) (n : Nat) (v : (Nat × Nat)) : (s.putSlotsAt n v).freeCtr = s.freeCtr := rfl
theorem State.slotsAt_putSlotsAt_ne (s : State) (n k : Nat) (v : (Nat × Nat)) (h : k ≠ n) : (s.putSlotsAt n v).slotsAt k = s.slotsAt k :=
  Arr.get_set_ne _ _ _ _ _ _ h
theorem State.slotsAt_putSlotsAt_self (s : State) (n : Nat) (v : (Nat × Nat)) (h : s.pk.slots.wf (fun _ => (0, 0)) = true) : (s.putSlotsAt n v).slotsAt n = v :=
  Arr.get_set_self (d := (fun _ => (0, 0))) _ _ _ h

/-! ### putTurn -/

@[simp] theorem State.putTurn_clock (s : State) (n : Nat) (v : Nat) : (s.putTurn n v).clock = s.clock := rfl
@[simp] theorem State.putTurn_pending (s : State) (n : Nat) (v : Nat) : (s.putTurn n v).pending = s.pending := rfl
@[simp] theorem State.putTurn_sec (s : State) (n : Nat) (v : Nat) : (s.putTurn n v).sec = s.sec := rfl
@[simp] theorem State.putTurn_changes (s : State) (n : Nat) (v : Nat) : (s.putTurn n v).changes = s.changes := rfl
@[simp] theorem State.putTurn_freeCtr (s : State) (n : Nat) (v : Nat) : (s.putTurn n v).freeCtr = s.freeCtr := rfl
theorem State.turn_putTurn_ne (s : State) (n k : Nat) (v : Nat) (h : k ≠ n) : (s.putTurn n v).turn k = s.turn k :=
  Arr.get_set_ne _ _ _ _ _ _ h
theorem State.turn_putTurn_self (s : State) (n : Nat) (v : Nat) (h : s.pk.turn.wf (fun _ => 0) = true) : (s.putTurn n v).turn n = v :=
  Arr.get_set_self (d := (fun _ => 0)) _ _ _ h

/-! ### putDomain -/

@[simp] theorem State.putDomain_clock (s : State) (n : Nat) (v : Domain) : (s.putDomain n v).clock = s.clock := rfl
@[simp] theorem State.putDomain_pending (s : State) (n : Nat) (v : Domain) : (s.putDomain n v).pending = s.pending := rfl
@[simp] theorem State.putDomain_sec (s : State) (n : Nat) (v : Domain) : (s.putDomain n v).sec = s.sec := rfl
@[simp] theorem State.putDomain_changes (s : State) (n : Nat) (v : Domain) : (s.putDomain n v).changes = s.changes := rfl
@[simp] theorem State.putDomain_freeCtr (s : State) (n : Nat) (v : Domain) : (s.putDomain n v).freeCtr = s.freeCtr := rfl
theorem State.domain_putDomain_ne (s : State) (n k : Nat) (v : Domain) (h : k ≠ n) : (s.putDomain n v).domain k = s.domain k :=
  Arr.get_set_ne _ _ _ _ _ _ h
theorem State.domain_putDomain_self (s : State) (n : Nat) (v : Domain) (h : s.time.domains.wf (fun _ => Domain.init) = true) : (s.putDomain n v).domain n = v :=
  Arr.get_set_self (d := (fun _ => Domain.init)) _ _ _ h

/-! ### putPps -/

@[simp] theorem State.putPps_clock (s : State) (n : Nat) (v : Pps) : (s.putPps n v).clock = s.clock := rfl
@[simp] theorem State.putPps_pending (s : State) (n : Nat) (v : Pps) : (s.putPps n v).pending = s.pending := rfl
@[simp] theorem State.putPps_sec (s : State) (n : Nat) (v : Pps) : (s.putPps n v).sec = s.sec := rfl
@[simp] theorem State.putPps_changes (s : State) (n : Nat) (v : Pps) : (s.putPps n v).changes = s.changes := rfl
@[simp] theorem State.putPps_freeCtr (s : State) (n : Nat) (v : Pps) : (s.putPps n v).freeCtr = s.freeCtr := rfl
theorem State.pps_putPps_ne (s : State) (n k : Nat) (v : Pps) (h : k ≠ n) : (s.putPps n v).pps k = s.pps k :=
  Arr.get_set_ne _ _ _ _ _ _ h
theorem State.pps_putPps_self (s : State) (n : Nat) (v : Pps) (h : s.time.pps.wf (fun _ => Pps.init) = true) : (s.putPps n v).pps n = v :=
  Arr.get_set_self (d := (fun _ => Pps.init)) _ _ _ h

/-! ### putTimePort -/

@[simp] theorem State.putTimePort_clock (s : State) (n : Nat) (v : (BitVec 64)) : (s.putTimePort n v).clock = s.clock := rfl
@[simp] theorem State.putTimePort_pending (s : State) (n : Nat) (v : (BitVec 64)) : (s.putTimePort n v).pending = s.pending := rfl
@[simp] theorem State.putTimePort_sec (s : State) (n : Nat) (v : (BitVec 64)) : (s.putTimePort n v).sec = s.sec := rfl
@[simp] theorem State.putTimePort_changes (s : State) (n : Nat) (v : (BitVec 64)) : (s.putTimePort n v).changes = s.changes := rfl
@[simp] theorem State.putTimePort_freeCtr (s : State) (n : Nat) (v : (BitVec 64)) : (s.putTimePort n v).freeCtr = s.freeCtr := rfl
theorem State.timePort_putTimePort_ne (s : State) (n k : Nat) (v : (BitVec 64)) (h : k ≠ n) : (s.putTimePort n v).timePort k = s.timePort k :=
  Arr.get_set_ne _ _ _ _ _ _ h
theorem State.timePort_putTimePort_self (s : State) (n : Nat) (v : (BitVec 64)) (h : s.time.ports.wf (fun _ => 0) = true) : (s.putTimePort n v).timePort n = v :=
  Arr.get_set_self (d := (fun _ => 0)) _ _ _ h

/-! ### putEqueue -/

@[simp] theorem State.putEqueue_clock (s : State) (n : Nat) (v : Queue) : (s.putEqueue n v).clock = s.clock := rfl
@[simp] theorem State.putEqueue_pending (s : State) (n : Nat) (v : Queue) : (s.putEqueue n v).pending = s.pending := rfl
@[simp] theorem State.putEqueue_sec (s : State) (n : Nat) (v : Queue) : (s.putEqueue n v).sec = s.sec := rfl
@[simp] theorem State.putEqueue_changes (s : State) (n : Nat) (v : Queue) : (s.putEqueue n v).changes = s.changes := rfl
@[simp] theorem State.putEqueue_freeCtr (s : State) (n : Nat) (v : Queue) : (s.putEqueue n v).freeCtr = s.freeCtr := rfl
theorem State.equeue_putEqueue_ne (s : State) (n k : Nat) (v : Queue) (h : k ≠ n) : (s.putEqueue n v).equeue k = s.equeue k :=
  Arr.get_set_ne _ _ _ _ _ _ h
theorem State.equeue_putEqueue_self (s : State) (n : Nat) (v : Queue) (h : s.eg.queues.wf (fun _ => Queue.init) = true) : (s.putEqueue n v).equeue n = v :=
  Arr.get_set_self (d := (fun _ => Queue.init)) _ _ _ h

/-! ### putEport -/

@[simp] theorem State.putEport_clock (s : State) (n : Nat) (v : EPort) : (s.putEport n v).clock = s.clock := rfl
@[simp] theorem State.putEport_pending (s : State) (n : Nat) (v : EPort) : (s.putEport n v).pending = s.pending := rfl
@[simp] theorem State.putEport_sec (s : State) (n : Nat) (v : EPort) : (s.putEport n v).sec = s.sec := rfl
@[simp] theorem State.putEport_changes (s : State) (n : Nat) (v : EPort) : (s.putEport n v).changes = s.changes := rfl
@[simp] theorem State.putEport_freeCtr (s : State) (n : Nat) (v : EPort) : (s.putEport n v).freeCtr = s.freeCtr := rfl
theorem State.eport_putEport_ne (s : State) (n k : Nat) (v : EPort) (h : k ≠ n) : (s.putEport n v).eport k = s.eport k :=
  Arr.get_set_ne _ _ _ _ _ _ h
theorem State.eport_putEport_self (s : State) (n : Nat) (v : EPort) (h : s.eg.ports.wf (fun _ => EPort.init) = true) : (s.putEport n v).eport n = v :=
  Arr.get_set_self (d := (fun _ => EPort.init)) _ _ _ h

/-! ### putStream -/

@[simp] theorem State.putStream_clock (s : State) (n : Nat) (v : Stream) : (s.putStream n v).clock = s.clock := rfl
@[simp] theorem State.putStream_pending (s : State) (n : Nat) (v : Stream) : (s.putStream n v).pending = s.pending := rfl
@[simp] theorem State.putStream_sec (s : State) (n : Nat) (v : Stream) : (s.putStream n v).sec = s.sec := rfl
@[simp] theorem State.putStream_changes (s : State) (n : Nat) (v : Stream) : (s.putStream n v).changes = s.changes := rfl
@[simp] theorem State.putStream_freeCtr (s : State) (n : Nat) (v : Stream) : (s.putStream n v).freeCtr = s.freeCtr := rfl
theorem State.stream_putStream_ne (s : State) (n k : Nat) (v : Stream) (h : k ≠ n) : (s.putStream n v).stream k = s.stream k :=
  Arr.get_set_ne _ _ _ _ _ _ h
theorem State.stream_putStream_self (s : State) (n : Nat) (v : Stream) (h : s.tel.streams.wf (fun _ => Stream.init) = true) : (s.putStream n v).stream n = v :=
  Arr.get_set_self (d := (fun _ => Stream.init)) _ _ _ h

/-! ### putPerf -/

@[simp] theorem State.putPerf_clock (s : State) (n : Nat) (v : Perf) : (s.putPerf n v).clock = s.clock := rfl
@[simp] theorem State.putPerf_pending (s : State) (n : Nat) (v : Perf) : (s.putPerf n v).pending = s.pending := rfl
@[simp] theorem State.putPerf_sec (s : State) (n : Nat) (v : Perf) : (s.putPerf n v).sec = s.sec := rfl
@[simp] theorem State.putPerf_changes (s : State) (n : Nat) (v : Perf) : (s.putPerf n v).changes = s.changes := rfl
@[simp] theorem State.putPerf_freeCtr (s : State) (n : Nat) (v : Perf) : (s.putPerf n v).freeCtr = s.freeCtr := rfl
theorem State.perf_putPerf_ne (s : State) (n k : Nat) (v : Perf) (h : k ≠ n) : (s.putPerf n v).perf k = s.perf k :=
  Arr.get_set_ne _ _ _ _ _ _ h
theorem State.perf_putPerf_self (s : State) (n : Nat) (v : Perf) (h : s.tel.perf.wf (fun _ => Perf.init) = true) : (s.putPerf n v).perf n = v :=
  Arr.get_set_self (d := (fun _ => Perf.init)) _ _ _ h

/-! ### putCycles -/

@[simp] theorem State.putCycles_clock (s : State) (n : Nat) (v : Nat) : (s.putCycles n v).clock = s.clock := rfl
@[simp] theorem State.putCycles_pending (s : State) (n : Nat) (v : Nat) : (s.putCycles n v).pending = s.pending := rfl
@[simp] theorem State.putCycles_sec (s : State) (n : Nat) (v : Nat) : (s.putCycles n v).sec = s.sec := rfl
@[simp] theorem State.putCycles_changes (s : State) (n : Nat) (v : Nat) : (s.putCycles n v).changes = s.changes := rfl
@[simp] theorem State.putCycles_freeCtr (s : State) (n : Nat) (v : Nat) : (s.putCycles n v).freeCtr = s.freeCtr := rfl
theorem State.cycles_putCycles_ne (s : State) (n k : Nat) (v : Nat) (h : k ≠ n) : (s.putCycles n v).cycles k = s.cycles k :=
  Arr.get_set_ne _ _ _ _ _ _ h
theorem State.cycles_putCycles_self (s : State) (n : Nat) (v : Nat) (h : s.tel.cycles.wf (fun _ => 0) = true) : (s.putCycles n v).cycles n = v :=
  Arr.get_set_self (d := (fun _ => 0)) _ _ _ h

/-! ### putLedger -/

@[simp] theorem State.putLedger_clock (s : State) (n : Nat) (v : Nat) : (s.putLedger n v).clock = s.clock := rfl
@[simp] theorem State.putLedger_pending (s : State) (n : Nat) (v : Nat) : (s.putLedger n v).pending = s.pending := rfl
@[simp] theorem State.putLedger_sec (s : State) (n : Nat) (v : Nat) : (s.putLedger n v).sec = s.sec := rfl
@[simp] theorem State.putLedger_changes (s : State) (n : Nat) (v : Nat) : (s.putLedger n v).changes = s.changes := rfl
@[simp] theorem State.putLedger_freeCtr (s : State) (n : Nat) (v : Nat) : (s.putLedger n v).freeCtr = s.freeCtr := rfl
theorem State.ledger_putLedger_ne (s : State) (n k : Nat) (v : Nat) (h : k ≠ n) : (s.putLedger n v).ledger k = s.ledger k :=
  Arr.get_set_ne _ _ _ _ _ _ h
theorem State.ledger_putLedger_self (s : State) (n : Nat) (v : Nat) (h : s.tel.ledger.wf (fun _ => 0) = true) : (s.putLedger n v).ledger n = v :=
  Arr.get_set_self (d := (fun _ => 0)) _ _ _ h

/-! ### putEngine -/

@[simp] theorem State.putEngine_clock (s : State) (n : Nat) (v : ArmEngine) : (s.putEngine n v).clock = s.clock := rfl
@[simp] theorem State.putEngine_pending (s : State) (n : Nat) (v : ArmEngine) : (s.putEngine n v).pending = s.pending := rfl
@[simp] theorem State.putEngine_sec (s : State) (n : Nat) (v : ArmEngine) : (s.putEngine n v).sec = s.sec := rfl
@[simp] theorem State.putEngine_changes (s : State) (n : Nat) (v : ArmEngine) : (s.putEngine n v).changes = s.changes := rfl
@[simp] theorem State.putEngine_freeCtr (s : State) (n : Nat) (v : ArmEngine) : (s.putEngine n v).freeCtr = s.freeCtr := rfl
theorem State.engine_putEngine_ne (s : State) (n k : Nat) (v : ArmEngine) (h : k ≠ n) : (s.putEngine n v).engine k = s.engine k :=
  Arr.get_set_ne _ _ _ _ _ _ h
theorem State.engine_putEngine_self (s : State) (n : Nat) (v : ArmEngine) (h : s.arm.engines.wf (fun _ => ArmEngine.init) = true) : (s.putEngine n v).engine n = v :=
  Arr.get_set_self (d := (fun _ => ArmEngine.init)) _ _ _ h

/-! ### putMicroword -/

@[simp] theorem State.putMicroword_clock (s : State) (n : Nat) (v : (BitVec 256)) : (s.putMicroword n v).clock = s.clock := rfl
@[simp] theorem State.putMicroword_pending (s : State) (n : Nat) (v : (BitVec 256)) : (s.putMicroword n v).pending = s.pending := rfl
@[simp] theorem State.putMicroword_sec (s : State) (n : Nat) (v : (BitVec 256)) : (s.putMicroword n v).sec = s.sec := rfl
@[simp] theorem State.putMicroword_changes (s : State) (n : Nat) (v : (BitVec 256)) : (s.putMicroword n v).changes = s.changes := rfl
@[simp] theorem State.putMicroword_freeCtr (s : State) (n : Nat) (v : (BitVec 256)) : (s.putMicroword n v).freeCtr = s.freeCtr := rfl
theorem State.microword_putMicroword_ne (s : State) (n k : Nat) (v : (BitVec 256)) (h : k ≠ n) : (s.putMicroword n v).microword k = s.microword k :=
  Arr.get_set_ne _ _ _ _ _ _ h
theorem State.microword_putMicroword_self (s : State) (n : Nat) (v : (BitVec 256)) (h : s.arm.store.wf (fun _ => 0) = true) : (s.putMicroword n v).microword n = v :=
  Arr.get_set_self (d := (fun _ => 0)) _ _ _ h

/-! ### putPatchWord -/

@[simp] theorem State.putPatchWord_clock (s : State) (n : Nat) (v : (BitVec 256)) : (s.putPatchWord n v).clock = s.clock := rfl
@[simp] theorem State.putPatchWord_pending (s : State) (n : Nat) (v : (BitVec 256)) : (s.putPatchWord n v).pending = s.pending := rfl
@[simp] theorem State.putPatchWord_sec (s : State) (n : Nat) (v : (BitVec 256)) : (s.putPatchWord n v).sec = s.sec := rfl
@[simp] theorem State.putPatchWord_changes (s : State) (n : Nat) (v : (BitVec 256)) : (s.putPatchWord n v).changes = s.changes := rfl
@[simp] theorem State.putPatchWord_freeCtr (s : State) (n : Nat) (v : (BitVec 256)) : (s.putPatchWord n v).freeCtr = s.freeCtr := rfl
theorem State.patchWord_putPatchWord_ne (s : State) (n k : Nat) (v : (BitVec 256)) (h : k ≠ n) : (s.putPatchWord n v).patchWord k = s.patchWord k :=
  Arr.get_set_ne _ _ _ _ _ _ h
theorem State.patchWord_putPatchWord_self (s : State) (n : Nat) (v : (BitVec 256)) (h : s.arm.patchRam.wf (fun _ => 0) = true) : (s.putPatchWord n v).patchWord n = v :=
  Arr.get_set_self (d := (fun _ => 0)) _ _ _ h

/-! ### putEntryAt -/

@[simp] theorem State.putEntryAt_clock (s : State) (n : Nat) (v : Nat) : (s.putEntryAt n v).clock = s.clock := rfl
@[simp] theorem State.putEntryAt_pending (s : State) (n : Nat) (v : Nat) : (s.putEntryAt n v).pending = s.pending := rfl
@[simp] theorem State.putEntryAt_sec (s : State) (n : Nat) (v : Nat) : (s.putEntryAt n v).sec = s.sec := rfl
@[simp] theorem State.putEntryAt_changes (s : State) (n : Nat) (v : Nat) : (s.putEntryAt n v).changes = s.changes := rfl
@[simp] theorem State.putEntryAt_freeCtr (s : State) (n : Nat) (v : Nat) : (s.putEntryAt n v).freeCtr = s.freeCtr := rfl
theorem State.entryAt_putEntryAt_ne (s : State) (n k : Nat) (v : Nat) (h : k ≠ n) : (s.putEntryAt n v).entryAt k = s.entryAt k :=
  Arr.get_set_ne _ _ _ _ _ _ h
theorem State.entryAt_putEntryAt_self (s : State) (n : Nat) (v : Nat) (h : s.arm.entry.wf (fun _ => 0) = true) : (s.putEntryAt n v).entryAt n = v :=
  Arr.get_set_self (d := (fun _ => 0)) _ _ _ h

/-! ### putBaseEntryAt -/

@[simp] theorem State.putBaseEntryAt_clock (s : State) (n : Nat) (v : Nat) : (s.putBaseEntryAt n v).clock = s.clock := rfl
@[simp] theorem State.putBaseEntryAt_pending (s : State) (n : Nat) (v : Nat) : (s.putBaseEntryAt n v).pending = s.pending := rfl
@[simp] theorem State.putBaseEntryAt_sec (s : State) (n : Nat) (v : Nat) : (s.putBaseEntryAt n v).sec = s.sec := rfl
@[simp] theorem State.putBaseEntryAt_changes (s : State) (n : Nat) (v : Nat) : (s.putBaseEntryAt n v).changes = s.changes := rfl
@[simp] theorem State.putBaseEntryAt_freeCtr (s : State) (n : Nat) (v : Nat) : (s.putBaseEntryAt n v).freeCtr = s.freeCtr := rfl
theorem State.baseEntryAt_putBaseEntryAt_ne (s : State) (n k : Nat) (v : Nat) (h : k ≠ n) : (s.putBaseEntryAt n v).baseEntryAt k = s.baseEntryAt k :=
  Arr.get_set_ne _ _ _ _ _ _ h
theorem State.baseEntryAt_putBaseEntryAt_self (s : State) (n : Nat) (v : Nat) (h : s.arm.baseEntry.wf (fun _ => 0) = true) : (s.putBaseEntryAt n v).baseEntryAt n = v :=
  Arr.get_set_self (d := (fun _ => 0)) _ _ _ h

/-! ### putCmp -/

@[simp] theorem State.putCmp_clock (s : State) (n : Nat) (v : Comparator) : (s.putCmp n v).clock = s.clock := rfl
@[simp] theorem State.putCmp_pending (s : State) (n : Nat) (v : Comparator) : (s.putCmp n v).pending = s.pending := rfl
@[simp] theorem State.putCmp_sec (s : State) (n : Nat) (v : Comparator) : (s.putCmp n v).sec = s.sec := rfl
@[simp] theorem State.putCmp_changes (s : State) (n : Nat) (v : Comparator) : (s.putCmp n v).changes = s.changes := rfl
@[simp] theorem State.putCmp_freeCtr (s : State) (n : Nat) (v : Comparator) : (s.putCmp n v).freeCtr = s.freeCtr := rfl
theorem State.cmp_putCmp_ne (s : State) (n k : Nat) (v : Comparator) (h : k ≠ n) : (s.putCmp n v).cmp k = s.cmp k :=
  Arr.get_set_ne _ _ _ _ _ _ h
theorem State.cmp_putCmp_self (s : State) (n : Nat) (v : Comparator) (h : s.power.cmps.wf (fun _ => Comparator.init) = true) : (s.putCmp n v).cmp n = v :=
  Arr.get_set_self (d := (fun _ => Comparator.init)) _ _ _ h

/-! ### putCount -/

@[simp] theorem State.putCount_clock (s : State) (n : Nat) (v : Nat) : (s.putCount n v).clock = s.clock := rfl
@[simp] theorem State.putCount_pending (s : State) (n : Nat) (v : Nat) : (s.putCount n v).pending = s.pending := rfl
@[simp] theorem State.putCount_sec (s : State) (n : Nat) (v : Nat) : (s.putCount n v).sec = s.sec := rfl
@[simp] theorem State.putCount_changes (s : State) (n : Nat) (v : Nat) : (s.putCount n v).changes = s.changes := rfl
@[simp] theorem State.putCount_freeCtr (s : State) (n : Nat) (v : Nat) : (s.putCount n v).freeCtr = s.freeCtr := rfl
theorem State.count_putCount_ne (s : State) (n k : Nat) (v : Nat) (h : k ≠ n) : (s.putCount n v).count k = s.count k :=
  Arr.get_set_ne _ _ _ _ _ _ h
theorem State.count_putCount_self (s : State) (n : Nat) (v : Nat) (h : s.ctr.wf (fun _ => 0) = true) : (s.putCount n v).count n = v :=
  Arr.get_set_self (d := (fun _ => 0)) _ _ _ h

/-! ### putEvRaisedAt -/

@[simp] theorem State.putEvRaisedAt_clock (s : State) (n : Nat) (v : Nat) : (s.putEvRaisedAt n v).clock = s.clock := rfl
@[simp] theorem State.putEvRaisedAt_pending (s : State) (n : Nat) (v : Nat) : (s.putEvRaisedAt n v).pending = s.pending := rfl
@[simp] theorem State.putEvRaisedAt_sec (s : State) (n : Nat) (v : Nat) : (s.putEvRaisedAt n v).sec = s.sec := rfl
@[simp] theorem State.putEvRaisedAt_changes (s : State) (n : Nat) (v : Nat) : (s.putEvRaisedAt n v).changes = s.changes := rfl
@[simp] theorem State.putEvRaisedAt_freeCtr (s : State) (n : Nat) (v : Nat) : (s.putEvRaisedAt n v).freeCtr = s.freeCtr := rfl
theorem State.evRaisedAt_putEvRaisedAt_ne (s : State) (n k : Nat) (v : Nat) (h : k ≠ n) : (s.putEvRaisedAt n v).evRaisedAt k = s.evRaisedAt k :=
  Arr.get_set_ne _ _ _ _ _ _ h
theorem State.evRaisedAt_putEvRaisedAt_self (s : State) (n : Nat) (v : Nat) (h : s.cmd.evRaisedAt.wf (fun _ => 0) = true) : (s.putEvRaisedAt n v).evRaisedAt n = v :=
  Arr.get_set_self (d := (fun _ => 0)) _ _ _ h

/-! ### putLineWait -/

@[simp] theorem State.putLineWait_clock (s : State) (n : Nat) (v : (List (Nat × Nat))) : (s.putLineWait n v).clock = s.clock := rfl
@[simp] theorem State.putLineWait_pending (s : State) (n : Nat) (v : (List (Nat × Nat))) : (s.putLineWait n v).pending = s.pending := rfl
@[simp] theorem State.putLineWait_sec (s : State) (n : Nat) (v : (List (Nat × Nat))) : (s.putLineWait n v).sec = s.sec := rfl
@[simp] theorem State.putLineWait_changes (s : State) (n : Nat) (v : (List (Nat × Nat))) : (s.putLineWait n v).changes = s.changes := rfl
@[simp] theorem State.putLineWait_freeCtr (s : State) (n : Nat) (v : (List (Nat × Nat))) : (s.putLineWait n v).freeCtr = s.freeCtr := rfl
theorem State.lineWait_putLineWait_ne (s : State) (n k : Nat) (v : (List (Nat × Nat))) (h : k ≠ n) : (s.putLineWait n v).lineWait k = s.lineWait k :=
  Arr.get_set_ne _ _ _ _ _ _ h
theorem State.lineWait_putLineWait_self (s : State) (n : Nat) (v : (List (Nat × Nat))) (h : s.pk.lineWait.wf (fun _ => []) = true) : (s.putLineWait n v).lineWait n = v :=
  Arr.get_set_self (d := (fun _ => [])) _ _ _ h

/-! ### putMaskedAt -/

@[simp] theorem State.putMaskedAt_clock (s : State) (n : Nat) (v : Nat) : (s.putMaskedAt n v).clock = s.clock := rfl
@[simp] theorem State.putMaskedAt_pending (s : State) (n : Nat) (v : Nat) : (s.putMaskedAt n v).pending = s.pending := rfl
@[simp] theorem State.putMaskedAt_sec (s : State) (n : Nat) (v : Nat) : (s.putMaskedAt n v).sec = s.sec := rfl
@[simp] theorem State.putMaskedAt_changes (s : State) (n : Nat) (v : Nat) : (s.putMaskedAt n v).changes = s.changes := rfl
@[simp] theorem State.putMaskedAt_freeCtr (s : State) (n : Nat) (v : Nat) : (s.putMaskedAt n v).freeCtr = s.freeCtr := rfl
theorem State.maskedAt_putMaskedAt_ne (s : State) (n k : Nat) (v : Nat) (h : k ≠ n) : (s.putMaskedAt n v).maskedAt k = s.maskedAt k :=
  Arr.get_set_ne _ _ _ _ _ _ h
theorem State.maskedAt_putMaskedAt_self (s : State) (n : Nat) (v : Nat) (h : s.faults.maskedAt.wf (fun _ => 0) = true) : (s.putMaskedAt n v).maskedAt n = v :=
  Arr.get_set_self (d := (fun _ => 0)) _ _ _ h

/-! ### putPartCycles -/

@[simp] theorem State.putPartCycles_clock (s : State) (n : Nat) (v : (Nat × Nat)) : (s.putPartCycles n v).clock = s.clock := rfl
@[simp] theorem State.putPartCycles_pending (s : State) (n : Nat) (v : (Nat × Nat)) : (s.putPartCycles n v).pending = s.pending := rfl
@[simp] theorem State.putPartCycles_sec (s : State) (n : Nat) (v : (Nat × Nat)) : (s.putPartCycles n v).sec = s.sec := rfl
@[simp] theorem State.putPartCycles_changes (s : State) (n : Nat) (v : (Nat × Nat)) : (s.putPartCycles n v).changes = s.changes := rfl
@[simp] theorem State.putPartCycles_freeCtr (s : State) (n : Nat) (v : (Nat × Nat)) : (s.putPartCycles n v).freeCtr = s.freeCtr := rfl
theorem State.partCycles_putPartCycles_ne (s : State) (n k : Nat) (v : (Nat × Nat)) (h : k ≠ n) : (s.putPartCycles n v).partCycles k = s.partCycles k :=
  Arr.get_set_ne _ _ _ _ _ _ h
theorem State.partCycles_putPartCycles_self (s : State) (n : Nat) (v : (Nat × Nat)) (h : s.pk.cycles.wf (fun _ => (0, 0)) = true) : (s.putPartCycles n v).partCycles n = v :=
  Arr.get_set_self (d := (fun _ => (0, 0))) _ _ _ h

/-! ### putVoided -/

@[simp] theorem State.putVoided_clock (s : State) (n : Nat) (v : (Nat × List Nat)) : (s.putVoided n v).clock = s.clock := rfl
@[simp] theorem State.putVoided_pending (s : State) (n : Nat) (v : (Nat × List Nat)) : (s.putVoided n v).pending = s.pending := rfl
@[simp] theorem State.putVoided_sec (s : State) (n : Nat) (v : (Nat × List Nat)) : (s.putVoided n v).sec = s.sec := rfl
@[simp] theorem State.putVoided_changes (s : State) (n : Nat) (v : (Nat × List Nat)) : (s.putVoided n v).changes = s.changes := rfl
@[simp] theorem State.putVoided_freeCtr (s : State) (n : Nat) (v : (Nat × List Nat)) : (s.putVoided n v).freeCtr = s.freeCtr := rfl
theorem State.voided_putVoided_ne (s : State) (n k : Nat) (v : (Nat × List Nat)) (h : k ≠ n) : (s.putVoided n v).voided k = s.voided k :=
  Arr.get_set_ne _ _ _ _ _ _ h
theorem State.voided_putVoided_self (s : State) (n : Nat) (v : (Nat × List Nat)) (h : s.pk.voided.wf (fun _ => (0, [])) = true) : (s.putVoided n v).voided n = v :=
  Arr.get_set_self (d := (fun _ => (0, []))) _ _ _ h

/-! ### putCellData -/

@[simp] theorem State.putCellData_clock (s : State) (n : Nat) (v : (List Byte)) : (s.putCellData n v).clock = s.clock := rfl
@[simp] theorem State.putCellData_pending (s : State) (n : Nat) (v : (List Byte)) : (s.putCellData n v).pending = s.pending := rfl
@[simp] theorem State.putCellData_sec (s : State) (n : Nat) (v : (List Byte)) : (s.putCellData n v).sec = s.sec := rfl
@[simp] theorem State.putCellData_changes (s : State) (n : Nat) (v : (List Byte)) : (s.putCellData n v).changes = s.changes := rfl
@[simp] theorem State.putCellData_freeCtr (s : State) (n : Nat) (v : (List Byte)) : (s.putCellData n v).freeCtr = s.freeCtr := rfl
theorem State.cellData_putCellData_ne (s : State) (n k : Nat) (v : (List Byte)) (h : k ≠ n) : (s.putCellData n v).cellData k = s.cellData k :=
  Arr.get_set_ne _ _ _ _ _ _ h
theorem State.cellData_putCellData_self (s : State) (n : Nat) (v : (List Byte)) (h : s.pk.data.wf cellInit = true) : (s.putCellData n v).cellData n = v :=
  Arr.get_set_self (d := cellInit) _ _ _ h

/-! ### putCipherPast -/

@[simp] theorem State.putCipherPast_clock (s : State) (n : Nat) (v : List (BitVec 64 × Nat)) : (s.putCipherPast n v).clock = s.clock := rfl
@[simp] theorem State.putCipherPast_pending (s : State) (n : Nat) (v : List (BitVec 64 × Nat)) : (s.putCipherPast n v).pending = s.pending := rfl
@[simp] theorem State.putCipherPast_sec (s : State) (n : Nat) (v : List (BitVec 64 × Nat)) : (s.putCipherPast n v).sec = s.sec := rfl
@[simp] theorem State.putCipherPast_changes (s : State) (n : Nat) (v : List (BitVec 64 × Nat)) : (s.putCipherPast n v).changes = s.changes := rfl
@[simp] theorem State.putCipherPast_freeCtr (s : State) (n : Nat) (v : List (BitVec 64 × Nat)) : (s.putCipherPast n v).freeCtr = s.freeCtr := rfl
theorem State.cipherPast_putCipherPast_ne (s : State) (n k : Nat) (v : List (BitVec 64 × Nat)) (h : k ≠ n) : (s.putCipherPast n v).cipherPast k = s.cipherPast k :=
  Arr.get_set_ne _ _ _ _ _ _ h
theorem State.cipherPast_putCipherPast_self (s : State) (n : Nat) (v : List (BitVec 64 × Nat)) (h : s.cipher.past.wf (fun _ => []) = true) : (s.putCipherPast n v).cipherPast n = v :=
  Arr.get_set_self (d := (fun _ => [])) _ _ _ h

/-! ### putSlotNo -/

@[simp] theorem State.putSlotNo_clock (s : State) (n : Nat) (v : Nat × Nat) : (s.putSlotNo n v).clock = s.clock := rfl
@[simp] theorem State.putSlotNo_pending (s : State) (n : Nat) (v : Nat × Nat) : (s.putSlotNo n v).pending = s.pending := rfl
@[simp] theorem State.putSlotNo_sec (s : State) (n : Nat) (v : Nat × Nat) : (s.putSlotNo n v).sec = s.sec := rfl
@[simp] theorem State.putSlotNo_changes (s : State) (n : Nat) (v : Nat × Nat) : (s.putSlotNo n v).changes = s.changes := rfl
@[simp] theorem State.putSlotNo_freeCtr (s : State) (n : Nat) (v : Nat × Nat) : (s.putSlotNo n v).freeCtr = s.freeCtr := rfl
theorem State.slotNo_putSlotNo_ne (s : State) (n k : Nat) (v : Nat × Nat) (h : k ≠ n) : (s.putSlotNo n v).slotNo k = s.slotNo k :=
  Arr.get_set_ne _ _ _ _ _ _ h
theorem State.slotNo_putSlotNo_self (s : State) (n : Nat) (v : Nat × Nat) (h : s.pk.slotNo.wf (fun _ => (0, 0)) = true) : (s.putSlotNo n v).slotNo n = v :=
  Arr.get_set_self (d := (fun _ => (0, 0))) _ _ _ h

/-! ### putVoidRec -/

@[simp] theorem State.putVoidRec_clock (s : State) (n : Nat) (v : Nat × Nat × Nat) : (s.putVoidRec n v).clock = s.clock := rfl
@[simp] theorem State.putVoidRec_pending (s : State) (n : Nat) (v : Nat × Nat × Nat) : (s.putVoidRec n v).pending = s.pending := rfl
@[simp] theorem State.putVoidRec_sec (s : State) (n : Nat) (v : Nat × Nat × Nat) : (s.putVoidRec n v).sec = s.sec := rfl
@[simp] theorem State.putVoidRec_changes (s : State) (n : Nat) (v : Nat × Nat × Nat) : (s.putVoidRec n v).changes = s.changes := rfl
@[simp] theorem State.putVoidRec_freeCtr (s : State) (n : Nat) (v : Nat × Nat × Nat) : (s.putVoidRec n v).freeCtr = s.freeCtr := rfl
theorem State.voidRec_putVoidRec_ne (s : State) (n k : Nat) (v : Nat × Nat × Nat) (h : k ≠ n) : (s.putVoidRec n v).voidRec k = s.voidRec k :=
  Arr.get_set_ne _ _ _ _ _ _ h
theorem State.voidRec_putVoidRec_self (s : State) (n : Nat) (v : Nat × Nat × Nat) (h : s.pk.voidRecs.wf (fun _ => (0, 0, 0)) = true) : (s.putVoidRec n v).voidRec n = v :=
  Arr.get_set_self (d := (fun _ => (0, 0, 0))) _ _ _ h

end Sys2Proof.Machine
end

