-- ==== Sys2Proof/Tests/Slice0.lean ====
section
/-! SUPPORT. Tests: what `wf` refuses, single steps against values from the spec, and for every statement with hypotheses
a state and operands that meet them, case by case. -/

open Sys2Proof Sys2Proof.Machine
namespace Sys2Proof.Tests

/-- A host command on ring 0 of function 0, version 3.2. -/
def hdr : Hdr :=
  { origin := .host 0 0 0, verMajor := 3, verMinor := 2, twin := false, group := false, notify := false, reservedZero := true
    target := 0, tag := 7, len := 0, cmdLen := 32, sizeOk := true, groupId := 0, replyLen := 131072 }

/-- A running device in CONFIGURE: ring 0 and its completion ring enabled, a session of version 3.2, port 0 on octet 0, table 0
(exact-match, not versioned), lock 0 of ring 0, one SC of each direction on port 0. -/
def base : State :=
  let s := State.reset
  let s := { s with clock.running := true, cmd.dev := .configure }
  let s := { s with cmd.sessions := [{ sender := 0, target := 0, major := 3, minor := 2, telemetry := 1 }] }
  let s := (s.putHring 0 { Ring.init 0 with en := true }).putHring 16 { Ring.init 16 with en := true }
  let s := (s.putOctet 0 { Octet.init with mask := 1 }).putTable 0
    { TableDef.init with valid := true, rcd := { TableRec.init with versioned := 0 } }
  let s := s.putLock 0 { valid := true, func := 0, ring := 0, firstBank := 0, bankCount := 1, firstBucket := 0, bucketCount := 8
                         leaseEnd := 1000, ending := 0 }
  (s.putRxSc 0 { Sc.init with valid := true }).putTxSc 0 { Sc.init with valid := true }

/-- The Maquette is open for version 1. -/
def opened : State := { base with rules.staged := some 1 }

/-- Its table 0 is versioned, table 1 is of kind DIRECT. -/
def openedV : State :=
  (opened.putTable 0 { TableDef.init with valid := true, rcd := TableRec.init }).putTable 1
    { TableDef.init with valid := true, rcd := { TableRec.init with kind := 1, baseBank := 2 } }

/-- A prefix held in the open version: added in it, or before it. -/
def prefixed (birthSet : Bool) : State :=
  { opened with rules.prefixes := [(0, { valid := true, id := 0, stamp := { Stamp.init with birth := 1, birthSet := birthSet }
                                         val := .lpmPrefix 0 0 0 0 0 })] }

/-- Lane 0 is UP and runs an eye scan. -/
def scan (status : Nat) : Scan :=
    { id := 1, rate := 0, eye := 0, phaseStart := 0, phaseStep := 1, phaseCount := 1, voltStart := 0, voltStep := 1
      voltCount := 1, dwellExp := 6, status := status, done := 0, startEpoch := 0, endEpoch := 0, counts := [], endedAt := 0 }
def scanning (status : Nat) : State := base.modLane 0 fun x => { x with st := .up, scan := some (scan status) }

/-- One of a twin pair, attached. -/
def paired (role : Role) (dev : DevState) : State :=
  { base with twin.role := role, twin.attached := true, twin.connected := true, cmd.dev := dev }

/-- An open group of the session. -/
def openGroup : Group :=
  { id := 1, sender := 0, twin := false, parts := [], count := 0, failed := none, lastEpoch := 0, commit := none }
def grouped : State := { base with group := some openGroup }

/-- The bytes of an image of a kind: its header (R465) with an empty body, and 96 bytes of signature. -/
def imageBytes (kind : Nat) : List Byte := beBytes 4 0x4E5A4657 ++ beBytes 2 1 ++ beBytes 2 (kind * 256 + 1) ++ List.replicate 344 0
def image (kind : Nat) : ImageHdr := imageOf (imageBytes kind)

/-- An image of the right form verifies where its keys, its digest and its signatures are good. -/
theorem image_verifies (s : State) (kind : Nat) (hf : (image kind).formatOk = true) (hk : (image kind).kind = kind)
    (hv : s.sec.svn ≤ (image kind).svn) (h1 : s.keysOk (image kind) = true) (h2 : (image kind).bodyDigest = (image kind).bodyHash)
    (h3 : (image kind).ecdsaOk = true) (h4 : (image kind).hssOk = true)
    (h5 : kind = 1 → microcodeOk (Config.firmwareBody (image kind).body) = true) : (s.verify kind (image kind)).code = 0 := by
  have : ¬ (kind = 1 ∧ microcodeOk (Config.firmwareBody (image kind).body) = false) := fun ⟨a, b⟩ => by simp [h5 a] at b
  simp [State.verify, hf, hk, h1, h2, h3, h4, Nat.not_lt.mpr hv, this]
theorem image_form (k : Nat) (hk : k = 1 ∨ k = 2) : (image k).formatOk = true ∧ (image k).kind = k ∧ (image k).svn = 1 := by
  rcases hk with rfl | rfl <;> decide +kernel

/-- A blob whose tag is that of its header and body. -/
def sealed : Blob :=
  { format := 1, context := 0, kind := 2, svn := 0, deviceId := Config.deviceSerial, nonce := 0, body := 0
    tag := gcmTag Config.wrapKey 0 (blobHead 0 2 0 Config.deviceSerial 0) (beBytes 96 0) }
theorem sealed_opens : (openBlob sealed).isSome = true := by
  unfold openBlob gcmOpen sealed
  simp

/-- `s` with the command `op` of header `h` taken from ring 0, and with it started. -/
def ready (s : State) (h : Hdr) (op : Nat) : State := s.putTakenAt 0 (some { hdr := h, opcode := op, started := false, dead := false })
def run (s : State) (h : Hdr) (op : Nat) : State := (ready s h op).putTakenAt 0 (some { hdr := h, opcode := op, started := true, dead := false })

/-- What `Starts` asks, as far as it is computed. -/
def fit (s : State) (h : Hdr) (c : Cmd) : Bool :=
  s.clock.running && !(s.cmd.dev == .reset || s.cmd.dev == .dormant) && (s.hring 0).en && s.cmd.taken == []
    && h.origin == .host 0 0 0 && h.target == s.sec.deviceId && !h.group && !h.twin
    && ((run s h c.op).precheck h c).isNone && ((run s h c.op).mirrorGate h c).isNone
    && (c.mirror.isNone || c.op != 0x0C05)

/-- The command `c` starts in the state `ready s h op`. -/
theorem starts (s : State) (h : Hdr) (c : Cmd) (op : Nat) (hop : c.op = op) (hf : fit s h c = true) :
    Starts (ready s h op) (run s h op) h c := by
  subst hop
  simp only [fit, Bool.and_eq_true, Bool.not_eq_true', beq_iff_eq, Option.isNone_iff_eq_none] at hf
  obtain ⟨⟨⟨⟨⟨⟨⟨⟨⟨⟨a1, a2⟩, a3⟩, a4⟩, a5⟩, a6⟩, a7⟩, a8⟩, a9⟩, a10⟩, a11⟩ := hf
  have ha : (ready s h c.op).takenAt 0 = some { hdr := h, opcode := c.op, started := false, dead := false } := by
    simp [ready, State.takenAt, State.putTakenAt, a4, Arr.set, Arr.get]
  have hq : (ready s h c.op).fetch h c.op = ready s h c.op := by
    simp [State.fetch, a5, State.canFetch, ha]
  have e1 : (ready s h c.op).clock = s.clock := rfl
  have e2 : (ready s h c.op).cmd.dev = s.cmd.dev := rfl
  have e3 : (ready s h c.op).hring 0 = s.hring 0 := rfl
  have ht : Hdr_twinned h = false := by simp [Hdr_twinned, a5]
  refine ⟨?_, ht, a6, a7, a9, a10, ?_⟩
  · unfold State.begin
    simp [e1, a1, e2, a2, a5, hq, e3, a3, ha, run]
  · simp only [State.onBoth, State.twinned, a8, Bool.false_and, Bool.false_or]
    simp only [Bool.or_eq_true, bne_iff_ne, ne_eq] at a11
    rcases a11 with a | a
    · cases hm : c.mirror <;> simp_all
    · simp [a]


/-! ## Ill-formed commands are refused -/

/-- Units just beyond the last (417 is a reserved fault source), each the only fault of its command. -/
theorem wf_refuses_units :
    (∀ x1 x2, (Instr.ingressPipeSlot 64 x1 x2).wf = false) ∧
    (∀ x1 x2, (Instr.packetEntry 1024 x1 x2).wf = false) ∧
    ((Instr.bankCycleServe 0 512).wf = false) ∧
    ((Instr.bankCycleServe 1 1536).wf = false) ∧
    ((Instr.bankCycleServe 2 1024).wf = false) ∧
    ((Instr.bankCycleServe 3 0).wf = false) ∧
    (∀ x1 x2, (Instr.macRxFrameEnd 1024 x1 x2).wf = false) ∧
    (∀ x1, (Instr.macControlFrameRx 1024 x1).wf = false) ∧
    ((Instr.pauseTimerExpiry 1024 0).wf = false) ∧
    ((Instr.pauseTimerExpiry 0 9).wf = false) ∧
    ((Instr.xoffRequest 1024 0).wf = false) ∧
    ((Instr.xoffRequest 0 8).wf = false) ∧
    ((Instr.xoffResend 1024 0).wf = false) ∧
    ((Instr.xoffResend 0 8).wf = false) ∧
    ((Instr.tagResolve 65536).wf = false) ∧
    ((Instr.rollbackZeroWrite 65536).wf = false) ∧
    ((Instr.rollbackFree 65536).wf = false) ∧
    ((Instr.specTagReturn 65536).wf = false) ∧
    (∀ x1, (Instr.stageATransfer 16 x1).wf = false) ∧
    ((Instr.freeLand 16).wf = false) ∧
    ((Instr.freeListRebuildDone 16 0).wf = false) ∧
    ((Instr.freeListRebuildDone 0 32).wf = false) ∧
    ((Instr.handOver 1024).wf = false) ∧
    ((Instr.portMatch 16).wf = false) ∧
    (∀ x2, (Instr.stageBRead 16 0 x2).wf = false) ∧
    (∀ x2, (Instr.stageBRead 0 16 x2).wf = false) ∧
    ((Instr.reseqRelease 16).wf = false) ∧
    (∀ x1, (Instr.macFrameStart 1024 x1).wf = false) ∧
    (∀ x1, (Instr.txFrameEnd 1024 x1).wf = false) ∧
    (∀ x1 x2, (Instr.cipherBlockMismatch 257 x1 x2).wf = false) ∧
    (∀ x1, (Instr.laneCalibrationDone 8 x1).wf = false) ∧
    (∀ x1 x2, (Instr.laneStateAdvance 1024 x1 x2).wf = false) ∧
    ((Instr.laneBringupTimeout 1024).wf = false) ∧
    ((Instr.laneLos 1024).wf = false) ∧
    ((Instr.laneCdrUnlock 1024).wf = false) ∧
    ((Instr.laneAmLoss 1024).wf = false) ∧
    ((Instr.laneRestartHoldoff 1024).wf = false) ∧
    ((Instr.laneRecovered 1024).wf = false) ∧
    (∀ x1, (Instr.laneOrderWindowEnd 128 x1).wf = false) ∧
    (∀ x1, (Instr.laneSerIntervalEnd 1024 x1).wf = false) ∧
    (∀ x1, (Instr.eyeScanPointDone 1024 x1).wf = false) ∧
    (∀ x1, (Instr.anResolve 1024 x1).wf = false) ∧
    (∀ x1 x2 x3, (Instr.rawLinkChange 1024 x1 x2 x3).wf = false) ∧
    ((Instr.linkDownDebounceExpiry 1024).wf = false) ∧
    ((Instr.linkUpDebounceExpiry 1024).wf = false) ∧
    ((Instr.portDownPolicy 1024).wf = false) ∧
    ((Instr.portHoldExpired 1024).wf = false) ∧
    ((Instr.pfcWatchdog 9216).wf = false) ∧
    ((Instr.pfcWdRestored 9216).wf = false) ∧
    ((Instr.gateTakeover 1024).wf = false) ∧
    ((Instr.gateTransition 1024).wf = false) ∧
    ((Instr.timeEventReach 8).wf = false) ∧
    ((Instr.hostWdExpiry 8).wf = false) ∧
    ((Instr.holdMaxExpiry 8).wf = false) ∧
    ((Instr.ppsOutEdge 4).wf = false) ∧
    ((Instr.ppsOutEdgeEnd 4).wf = false) ∧
    (∀ x1, (Instr.ppsInEdge 4 x1).wf = false) ∧
    ((Instr.ppsInLost 4).wf = false) ∧
    ((Instr.streamIntervalClose 4).wf = false) ∧
    ((Instr.exportPacketGenerate 4).wf = false) ∧
    ((Instr.queueReportGenerate 9472).wf = false) ∧
    (∀ x2, (Instr.turnstileGrant 0 512 x2).wf = false) ∧
    (∀ x2, (Instr.turnstileGrant 1 1536 x2).wf = false) ∧
    (∀ x2, (Instr.turnstileGrant 2 1024 x2).wf = false) ∧
    (∀ x2, (Instr.turnstileGrant 3 0 x2).wf = false) ∧
    ((Instr.stashWrite 32).wf = false) ∧
    ((Instr.stashReinsertPeriod 32).wf = false) ∧
    ((Instr.patinaPassStart 32).wf = false) ∧
    (∀ x2, (Instr.scrubRead 0 512 x2).wf = false) ∧
    (∀ x2, (Instr.scrubRead 1 1536 x2).wf = false) ∧
    (∀ x2, (Instr.scrubRead 2 1024 x2).wf = false) ∧
    (∀ x2, (Instr.scrubRead 3 32 x2).wf = false) ∧
    ((Instr.lockExpired 16).wf = false) ∧
    ((Instr.armJobStart 4).wf = false) ∧
    (∀ x1, (Instr.microwordExecute 4 x1).wf = false) ∧
    ((Instr.armMemComplete 4).wf = false) ∧
    ((Instr.routineEnd 4).wf = false) ∧
    ((Instr.partitionDrainEnd 16).wf = false) ∧
    ((Instr.drainLimitExpiry 16).wf = false) ∧
    ((Instr.partitionRebuildDone 16).wf = false) ∧
    (∀ x2, (Instr.bankSpareCopy 0 512 x2).wf = false) ∧
    (∀ x2, (Instr.bankSpareCopy 1 1536 x2).wf = false) ∧
    (∀ x2, (Instr.bankSpareCopy 2 1024 x2).wf = false) ∧
    (∀ x2, (Instr.bankSpareCopy 3 0 x2).wf = false) ∧
    ((Instr.partitionBankDrained 16 0).wf = false) ∧
    ((Instr.partitionBankDrained 0 32).wf = false) ∧
    (∀ x1 x2, (Instr.faultRaise 417 x1 x2).wf = false) ∧
    (∀ x1, (Instr.permanenceClear 417 x1).wf = false) ∧
    (∀ x1, (Instr.wireFault 417 x1).wf = false) ∧
    ((Instr.wireUnmask 417).wf = false) ∧
    ((Instr.msixSignal 228).wf = false) ∧
    (∀ x1, (Instr.cpuQueueDeliver 64 x1).wf = false) ∧
    (∀ x1, (Instr.txDescriptorFetch 64 x1).wf = false) ∧
    ((Instr.pipeInjectSlot 64).wf = false) ∧
    (∀ x0 x2, (Instr.ringEventRx x0 4 x2).wf = false) ∧
    (∀ x1, (Instr.thermalComparatorTrip 4 x1).wf = false) ∧
    ((Instr.timeCompareTrip 4).wf = false) ∧
    (∀ x1, (Instr.supplyLow 7 x1).wf = false) ∧
    (∀ x1, (Instr.supplyLow 14 x1).wf = false) ∧
    (∀ x1, (Instr.extLevelTrip 16 x1).wf = false) ∧
    (∀ x1, (Instr.pcieFunctionReset 8 x1).wf = false) ∧
    (∀ x2, (Instr.ringDoorbellWrite 0 228 x2).wf = false) ∧
    (∀ x2, (Instr.ringDoorbellWrite 8 0 x2).wf = false) ∧
    (∀ x2, (Instr.ringControlWrite 0 228 x2).wf = false) ∧
    (∀ x2, (Instr.ringControlWrite 8 0 x2).wf = false) ∧
    (∀ x1 x2, (Instr.eventStatusW1c 32 x1 x2).wf = false) ∧
    (∀ x1, (Instr.tableLockReleaseWrite 8 x1).wf = false) ∧
    (∀ x1, (Instr.counterLowHalfRead 8 x1).wf = false) ∧
    (∀ x0 x2 x3 x4, (Instr.bar0Violation x0 8 x2 x3 x4).wf = false) ∧
    (∀ x1 x2 x3, (Instr.registerWrite 8 x1 x2 x3).wf = false) ∧
    (∀ x1 x2, (Instr.egressPipeSlot 64 x1 x2).wf = false) ∧
    (∀ x2, (Instr.backgroundPortRead 8 0 x2).wf = false) ∧
    (∀ x2, (Instr.backgroundPortRead 0 18688 x2).wf = false) ∧
    (∀ x1, (Instr.laneSnrUpdate 1024 x1).wf = false) :=
  ⟨fun _ _ => rfl, fun _ _ => rfl, rfl, rfl, rfl, rfl, fun _ _ => rfl, fun _ => rfl, rfl, rfl, rfl, rfl, rfl, rfl, rfl, rfl, rfl, rfl, fun _ => rfl, rfl, rfl, rfl, rfl, rfl, fun _ => rfl, fun _ => rfl, rfl, fun _ => rfl, fun _ => rfl, fun _ _ => rfl, fun _ => rfl, fun _ _ => rfl, rfl, rfl, rfl, rfl, rfl, rfl, fun _ => rfl, fun _ => rfl, fun _ => rfl, fun _ => rfl, fun _ _ _ => rfl, rfl, rfl, rfl, rfl, rfl, rfl, rfl, rfl, rfl, rfl, rfl, rfl, rfl, fun _ => rfl, rfl, rfl, rfl, rfl, fun _ => rfl, fun _ => rfl, fun _ => rfl, fun _ => rfl, rfl, rfl, rfl, fun _ => rfl, fun _ => rfl, fun _ => rfl, fun _ => rfl, rfl, rfl, fun _ => rfl, rfl, rfl, rfl, rfl, rfl, fun _ => rfl, fun _ => rfl, fun _ => rfl, fun _ => rfl, rfl, rfl, fun _ _ => rfl, fun _ => rfl, fun _ => rfl, rfl, rfl, fun _ => rfl, fun _ => rfl, rfl, fun _ _ => rfl, fun _ => rfl, rfl, fun _ => rfl, fun _ => rfl, fun _ => rfl, fun _ => rfl, fun _ => rfl, fun _ => rfl, fun _ => rfl, fun _ => rfl, fun _ _ => rfl, fun _ => rfl, fun _ => rfl, fun _ _ _ _ => rfl, fun _ _ _ => rfl, fun _ _ => rfl, fun _ => rfl, fun _ => rfl, fun _ => rfl⟩

theorem wf_refuses_messages : ∀ m : LaMsg, m.ctx = 64 ∨ m.prio = 4 → (Instr.laMessageRequest m).wf = false := by
  rintro m (h | h) <;> simp [Instr.wf, h]

/-- An ill-formed header makes every command that carries one ill-formed. -/
theorem wf_refuses_headers (h : Hdr) (hb : hdrWf h = false) :
    (∀ x1, (Instr.commandFetch h x1).wf = false) ∧
    (∀ x0 x2, (Instr.relayedCommandRx x0 h x2).wf = false) ∧
    (∀ x1 x2 x3 x4 x5, (Instr.hello h x1 x2 x3 x4 x5).wf = false) ∧
    ((Instr.goodbye h).wf = false) ∧
    ((Instr.deviceStateGet h).wf = false) ∧
    (∀ x1, (Instr.deviceStateSet h x1).wf = false) ∧
    (∀ x1 x2, (Instr.cpuQueueMapSet h x1 x2).wf = false) ∧
    (∀ x1 x2 x3, (Instr.eventRouteSet h x1 x2 x3).wf = false) ∧
    (∀ x1, (Instr.eventStatusGet h x1).wf = false) ∧
    (∀ x1 x2, (Instr.eventStatusClear h x1 x2).wf = false) ∧
    (∀ x1 x2, (Instr.sessionStatsGet h x1 x2).wf = false) ∧
    (∀ x1, (Instr.echo h x1).wf = false) ∧
    ((Instr.groupOpen h).wf = false) ∧
    (∀ x1, (Instr.groupCommit h x1).wf = false) ∧
    ((Instr.groupDiscard h).wf = false) ∧
    ((Instr.groupStatusGet h).wf = false) ∧
    (∀ x1 x2 x3, (Instr.portModeSet h x1 x2 x3).wf = false) ∧
    (∀ x1 x2 x3, (Instr.portConfigSet h x1 x2 x3).wf = false) ∧
    (∀ x1 x2, (Instr.portEnable h x1 x2).wf = false) ∧
    (∀ x1, (Instr.portStatusGet h x1).wf = false) ∧
    (∀ x1 x2, (Instr.portStatsGet h x1 x2).wf = false) ∧
    (∀ x1, (Instr.octetLayoutGet h x1).wf = false) ∧
    (∀ x1 x2 x3 x4 x5 x6, (Instr.laneConfigSet h x1 x2 x3 x4 x5 x6).wf = false) ∧
    (∀ x1, (Instr.laneStatusGet h x1).wf = false) ∧
    (∀ x1 x2, (Instr.laneStatsGet h x1 x2).wf = false) ∧
    (∀ x1 x2 x3 x4 x5 x6 x7 x8 x9, (Instr.eyeScanStart h x1 x2 x3 x4 x5 x6 x7 x8 x9).wf = false) ∧
    (∀ x1 x2 x3, (Instr.eyeScanRead h x1 x2 x3).wf = false) ∧
    (∀ x1, (Instr.eyeScanAbort h x1).wf = false) ∧
    (∀ x1, (Instr.laneRetire h x1).wf = false) ∧
    (∀ x1 x2, (Instr.laneRestore h x1 x2).wf = false) ∧
    (∀ x1 x2 x3, (Instr.lanePrbsSet h x1 x2 x3).wf = false) ∧
    (∀ x1 x2, (Instr.laneLoopbackSet h x1 x2).wf = false) ∧
    (∀ x1 x2, (Instr.octetOrderSet h x1 x2).wf = false) ∧
    (∀ x1 x2, (Instr.tableCreate h x1 x2).wf = false) ∧
    (∀ x1, (Instr.tableDelete h x1).wf = false) ∧
    (∀ x1, (Instr.tableStatusGet h x1).wf = false) ∧
    (∀ x1 x2 x3, (Instr.tableSeedSet h x1 x2 x3).wf = false) ∧
    (∀ x1 x2 x3 x4, (Instr.emEntryAdd h x1 x2 x3 x4).wf = false) ∧
    (∀ x1 x2, (Instr.emEntryDelete h x1 x2).wf = false) ∧
    (∀ x1 x2 x3, (Instr.emEntryRead h x1 x2 x3).wf = false) ∧
    (∀ x1 x2 x3, (Instr.directWrite h x1 x2 x3).wf = false) ∧
    (∀ x1 x2 x3 x4 x5, (Instr.prefixAdd h x1 x2 x3 x4 x5).wf = false) ∧
    (∀ x1 x2 x3 x4, (Instr.prefixDelete h x1 x2 x3 x4).wf = false) ∧
    (∀ x1 x2 x3 x4 x5, (Instr.prefixRead h x1 x2 x3 x4 x5).wf = false) ∧
    (∀ x1, (Instr.lpmSeedSet h x1).wf = false) ∧
    (∀ x1 x2, (Instr.emProfileSet h x1 x2).wf = false) ∧
    (∀ x1 x2, (Instr.lpmProfileSet h x1 x2).wf = false) ∧
    (∀ x1, (Instr.nexthopTableSet h x1).wf = false) ∧
    (∀ x1 x2 x3, (Instr.counterRead h x1 x2 x3).wf = false) ∧
    (∀ x1 x2, (Instr.counterClear h x1 x2).wf = false) ∧
    (∀ x1 x2, (Instr.lookupStatsGet h x1 x2).wf = false) ∧
    (∀ x1 x2 x3 x4 x5, (Instr.lockAcquire h x1 x2 x3 x4 x5).wf = false) ∧
    (∀ x1 x2, (Instr.lockRenew h x1 x2).wf = false) ∧
    (∀ x1, (Instr.lockRelease h x1).wf = false) ∧
    (∀ x1, (Instr.lockStatusGet h x1).wf = false) ∧
    (∀ x1 x2 x3 x4 x5, (Instr.tableDmaWrite h x1 x2 x3 x4 x5).wf = false) ∧
    (∀ x1 x2 x3 x4, (Instr.tableDmaRead h x1 x2 x3 x4).wf = false) ∧
    (∀ x1 x2 x3, (Instr.tableUpkeepSet h x1 x2 x3).wf = false) ∧
    (∀ x1, (Instr.scrubSet h x1).wf = false) ∧
    (∀ x1 x2, (Instr.upkeepStatsGet h x1 x2).wf = false) ∧
    ((Instr.maquetteOpen h).wf = false) ∧
    (∀ x1, (Instr.maquetteCommit h x1).wf = false) ∧
    ((Instr.maquetteDiscard h).wf = false) ∧
    (∀ x1, (Instr.ruleAdd h x1).wf = false) ∧
    (∀ x1 x2, (Instr.objectDelete h x1 x2).wf = false) ∧
    (∀ x1 x2, (Instr.ruleRead h x1 x2).wf = false) ∧
    (∀ x1 x2 x3 x4, (Instr.rangeSet h x1 x2 x3 x4).wf = false) ∧
    (∀ x1 x2, (Instr.parseEntrySet h x1 x2).wf = false) ∧
    (∀ x1 x2 x3 x4, (Instr.keyProfileSet h x1 x2 x3 x4).wf = false) ∧
    (∀ x1 x2, (Instr.editProfileSet h x1 x2).wf = false) ∧
    (∀ x1 x2, (Instr.templateSet h x1 x2).wf = false) ∧
    (∀ x1 x2 x3 x4, (Instr.mirrorSessionSet h x1 x2 x3 x4).wf = false) ∧
    (∀ x1 x2, (Instr.egressBind h x1 x2).wf = false) ∧
    ((Instr.versionStatusGet h).wf = false) ∧
    (∀ x1 x2, (Instr.parseStatsGet h x1 x2).wf = false) ∧
    (∀ x1 x2, (Instr.queueModeSet h x1 x2).wf = false) ∧
    (∀ x1 x2 x3, (Instr.queueSchedSet h x1 x2 x3).wf = false) ∧
    (∀ x1, (Instr.queueSchedGet h x1).wf = false) ∧
    (∀ x1 x2 x3, (Instr.shaperSet h x1 x2 x3).wf = false) ∧
    (∀ x1 x2, (Instr.shaperGet h x1 x2).wf = false) ∧
    (∀ x1 x2 x3, (Instr.portSchedSet h x1 x2 x3).wf = false) ∧
    (∀ x1 x2, (Instr.tcMapSet h x1 x2).wf = false) ∧
    (∀ x1, (Instr.portSchedGet h x1).wf = false) ∧
    (∀ x1 x2, (Instr.gateListSet h x1 x2).wf = false) ∧
    (∀ x1, (Instr.gateListClear h x1).wf = false) ∧
    (∀ x1, (Instr.gateStatusGet h x1).wf = false) ∧
    (∀ x1 x2 x3, (Instr.egressStatsGet h x1 x2 x3).wf = false) ∧
    (∀ x1 x2, (Instr.bufferPoolSet h x1 x2).wf = false) ∧
    ((Instr.bufferPoolGet h).wf = false) ∧
    (∀ x1 x2 x3, (Instr.queueAdmitSet h x1 x2 x3).wf = false) ∧
    (∀ x1, (Instr.queueAdmitGet h x1).wf = false) ∧
    (∀ x1 x2 x3 x4 x5, (Instr.pgSet h x1 x2 x3 x4 x5).wf = false) ∧
    (∀ x1 x2, (Instr.bufferStatsGet h x1 x2).wf = false) ∧
    (∀ x1 x2, (Instr.bufferCellRead h x1 x2).wf = false) ∧
    (∀ x1 x2, (Instr.trellisRetire h x1 x2).wf = false) ∧
    (∀ x1, (Instr.trellisRestore h x1).wf = false) ∧
    (∀ x1, (Instr.trellisStatusGet h x1).wf = false) ∧
    (∀ x1 x2 x3, (Instr.mcastGroupSet h x1 x2 x3).wf = false) ∧
    (∀ x1, (Instr.mcastGroupGet h x1).wf = false) ∧
    (∀ x1, (Instr.mcastGroupDelete h x1).wf = false) ∧
    (∀ x1 x2 x3, (Instr.cutThroughSet h x1 x2 x3).wf = false) ∧
    (∀ x1 x2, (Instr.trellisStatsGet h x1 x2).wf = false) ∧
    (∀ x1 x2 x3 x4, (Instr.timeDomainSet h x1 x2 x3 x4).wf = false) ∧
    (∀ x1, (Instr.timeGet h x1).wf = false) ∧
    (∀ x1 x2 x3 x4 x5, (Instr.timeSet h x1 x2 x3 x4 x5).wf = false) ∧
    (∀ x1 x2 x3 x4 x5, (Instr.timeStep h x1 x2 x3 x4 x5).wf = false) ∧
    (∀ x1 x2, (Instr.timeAdjust h x1 x2).wf = false) ∧
    (∀ x1 x2, (Instr.timeHoldover h x1 x2).wf = false) ∧
    (∀ x1, (Instr.timeStatusGet h x1).wf = false) ∧
    (∀ x1 x2 x3, (Instr.timePortSet h x1 x2 x3).wf = false) ∧
    (∀ x1, (Instr.timePortGet h x1).wf = false) ∧
    (∀ x1 x2 x3 x4 x5 x6, (Instr.ppsSet h x1 x2 x3 x4 x5 x6).wf = false) ∧
    (∀ x1 x2, (Instr.ppsRead h x1 x2).wf = false) ∧
    (∀ x1 x2 x3, (Instr.timeStatsGet h x1 x2 x3).wf = false) ∧
    (∀ x1 x2 x3, (Instr.cipherPortSet h x1 x2 x3).wf = false) ∧
    (∀ x1, (Instr.cipherPortGet h x1).wf = false) ∧
    (∀ x1 x2 x3 x4 x5 x6, (Instr.scCreate h x1 x2 x3 x4 x5 x6).wf = false) ∧
    (∀ x1 x2 x3 x4 x5, (Instr.scSet h x1 x2 x3 x4 x5).wf = false) ∧
    (∀ x1 x2, (Instr.scDelete h x1 x2).wf = false) ∧
    (∀ x1, (Instr.saInstall h x1).wf = false) ∧
    (∀ x1 x2 x3, (Instr.saDelete h x1 x2 x3).wf = false) ∧
    (∀ x1 x2, (Instr.txSaSelect h x1 x2).wf = false) ∧
    (∀ x1 x2 x3, (Instr.saStatusGet h x1 x2 x3).wf = false) ∧
    (∀ x1 x2, (Instr.cipherStatsGet h x1 x2).wf = false) ∧
    (∀ x1 x2 x3, (Instr.cipherEngineSet h x1 x2 x3).wf = false) ∧
    (∀ x1, (Instr.cipherEngineRestore h x1).wf = false) ∧
    (∀ x1 x2 x3 x4, (Instr.laContextLoad h x1 x2 x3 x4).wf = false) ∧
    (∀ x1, (Instr.laContextExport h x1).wf = false) ∧
    (∀ x1 x2, (Instr.laContextImport h x1 x2).wf = false) ∧
    (∀ x1, (Instr.laContextClear h x1).wf = false) ∧
    (∀ x1 x2 x3 x4 x5, (Instr.laCrypt h x1 x2 x3 x4 x5).wf = false) ∧
    (∀ x1 x2 x3, (Instr.telemetryStreamSet h x1 x2 x3).wf = false) ∧
    (∀ x1, (Instr.telemetryStreamGet h x1).wf = false) ∧
    (∀ x1 x2 x3, (Instr.queueReportSet h x1 x2 x3).wf = false) ∧
    (∀ x1 x2 x3, (Instr.ioamSet h x1 x2 x3).wf = false) ∧
    (∀ x1 x2, (Instr.queueSampleGet h x1 x2).wf = false) ∧
    (∀ x1 x2 x3, (Instr.perfCounterSet h x1 x2 x3).wf = false) ∧
    (∀ x1 x2, (Instr.telemetryStatsGet h x1 x2).wf = false) ∧
    (∀ x1 x2 x3, (Instr.powerCapSet h x1 x2 x3).wf = false) ∧
    ((Instr.powerStatusGet h).wf = false) ∧
    (∀ x1, (Instr.opHostSet h x1).wf = false) ∧
    (∀ x1, (Instr.thermalSet h x1).wf = false) ∧
    (∀ x1 x2, (Instr.comparatorSet h x1 x2).wf = false) ∧
    (∀ x1, (Instr.comparatorGet h x1).wf = false) ∧
    (∀ x1, (Instr.dormantEnter h x1).wf = false) ∧
    (∀ x1, (Instr.deviceWake h x1).wf = false) ∧
    (∀ x1, (Instr.powerCompatSet h x1).wf = false) ∧
    ((Instr.castTableGet h).wf = false) ∧
    (∀ x1 x2, (Instr.faultReactionSet h x1 x2).wf = false) ∧
    (∀ x1, (Instr.faultReactionGet h x1).wf = false) ∧
    (∀ x1 x2 x3, (Instr.faultConfigSet h x1 x2 x3).wf = false) ∧
    (∀ x1 x2, (Instr.faultLogRead h x1 x2).wf = false) ∧
    ((Instr.faultFirstGet h).wf = false) ∧
    ((Instr.faultFirstClear h).wf = false) ∧
    (∀ x1 x2, (Instr.faultStatusGet h x1 x2).wf = false) ∧
    (∀ x1, (Instr.unitRetire h x1).wf = false) ∧
    (∀ x1, (Instr.unitFence h x1).wf = false) ∧
    (∀ x1, (Instr.unitRestore h x1).wf = false) ∧
    (∀ x1 x2, (Instr.faultStatsGet h x1 x2).wf = false) ∧
    ((Instr.faultInject h).wf = false) ∧
    (∀ x1 x2 x3, (Instr.twinBind h x1 x2 x3).wf = false) ∧
    ((Instr.twinUnbind h).wf = false) ∧
    ((Instr.twinJoin h).wf = false) ∧
    ((Instr.twinDetach h).wf = false) ∧
    ((Instr.twinRoleSwap h).wf = false) ∧
    (∀ x1, (Instr.twinDrain h x1).wf = false) ∧
    (∀ x1 x2, (Instr.twinNotifySet h x1 x2).wf = false) ∧
    ((Instr.twinStatusGet h).wf = false) ∧
    ((Instr.ringStatusGet h).wf = false) ∧
    ((Instr.ringEnumerate h).wf = false) ∧
    (∀ x1, (Instr.twinStatsGet h x1).wf = false) ∧
    (∀ x1 x2, (Instr.armPatchLoad h x1 x2).wf = false) ∧
    ((Instr.armPatchActivate h).wf = false) ∧
    ((Instr.armPatchRevert h).wf = false) ∧
    ((Instr.armPatchStatusGet h).wf = false) ∧
    (∀ x1 x2, (Instr.armEngineSet h x1 x2).wf = false) ∧
    (∀ x1, (Instr.armEngineStatusGet h x1).wf = false) ∧
    (∀ x1, (Instr.armEngineRestore h x1).wf = false) ∧
    (∀ x1 x2, (Instr.armStatsGet h x1 x2).wf = false) ∧
    ((Instr.bootStatusGet h).wf = false) ∧
    (∀ x1 x2, (Instr.fwPush h x1 x2).wf = false) ∧
    (∀ x1 x2, (Instr.fwPushDone h x1 x2).wf = false) ∧
    (∀ x1 x2, (Instr.fwFlashWrite h x1 x2).wf = false) ∧
    (∀ x1 x2, (Instr.fwFlashCommit h x1 x2).wf = false) ∧
    ((Instr.fwRestart h).wf = false) ∧
    (∀ x1, (Instr.svnAdvance h x1).wf = false) ∧
    (∀ x1 x2, (Instr.keyRevoke h x1 x2).wf = false) ∧
    ((Instr.identityCertGet h).wf = false) ∧
    ((Instr.measurementGet h).wf = false) ∧
    (∀ x1, (Instr.attestReportGet h x1).wf = false) :=
  ⟨fun _ => hb, fun _ _ => hb, fun _ _ _ _ _ => hb, hb, hb, fun _ => hb, fun _ _ => hb, fun _ _ _ => hb, fun _ => hb, fun _ _ => hb, fun _ _ => hb, fun _ => hb, hb, fun _ => hb, hb, hb, fun _ _ _ => hb, fun _ _ _ => hb, fun _ _ => hb, fun _ => hb, fun _ _ => hb, fun _ => hb, fun _ _ _ _ _ _ => hb, fun _ => hb, fun _ _ => hb, fun _ _ _ _ _ _ _ _ _ => hb, fun _ _ _ => hb, fun _ => hb, fun _ => hb, fun _ _ => hb, fun _ _ _ => hb, fun _ _ => hb, fun _ _ => hb, fun _ _ => hb, fun _ => hb, fun _ => hb, fun _ _ _ => hb, fun _ _ _ _ => hb, fun _ _ => hb, fun _ _ _ => hb, fun _ _ _ => hb, fun _ _ _ _ _ => hb, fun _ _ _ _ => hb, fun _ _ _ _ _ => hb, fun _ => hb, fun _ _ => hb, fun _ _ => hb, fun _ => hb, fun _ _ _ => hb, fun _ _ => hb, fun _ _ => hb, fun _ _ _ _ _ => hb, fun _ _ => hb, fun _ => hb, fun _ => hb, fun _ _ _ _ _ => hb, fun _ _ _ _ => hb, fun _ _ _ => hb, fun _ => hb, fun _ _ => hb, hb, fun _ => hb, hb, fun _ => hb, fun _ _ => hb, fun _ _ => hb, fun _ _ _ _ => hb, fun _ _ => hb, fun _ _ _ _ => hb, fun _ _ => hb, fun _ _ => hb, fun _ _ _ _ => hb, fun _ _ => hb, hb, fun _ _ => hb, fun _ _ => hb, fun _ _ _ => hb, fun _ => hb, fun _ _ _ => hb, fun _ _ => hb, fun _ _ _ => hb, fun _ _ => hb, fun _ => hb, fun _ _ => hb, fun _ => hb, fun _ => hb, fun _ _ _ => hb, fun _ _ => hb, hb, fun _ _ _ => hb, fun _ => hb, fun _ _ _ _ _ => hb, fun _ _ => hb, fun _ _ => hb, fun _ _ => hb, fun _ => hb, fun _ => hb, fun _ _ _ => hb, fun _ => hb, fun _ => hb, fun _ _ _ => hb, fun _ _ => hb, fun _ _ _ _ => hb, fun _ => hb, fun _ _ _ _ _ => hb, fun _ _ _ _ _ => hb, fun _ _ => hb, fun _ _ => hb, fun _ => hb, fun _ _ _ => hb, fun _ => hb, fun _ _ _ _ _ _ => hb, fun _ _ => hb, fun _ _ _ => hb, fun _ _ _ => hb, fun _ => hb, fun _ _ _ _ _ _ => hb, fun _ _ _ _ _ => hb, fun _ _ => hb, fun _ => hb, fun _ _ _ => hb, fun _ _ => hb, fun _ _ _ => hb, fun _ _ => hb, fun _ _ _ => hb, fun _ => hb, fun _ _ _ _ => hb, fun _ => hb, fun _ _ => hb, fun _ => hb, fun _ _ _ _ _ => hb, fun _ _ _ => hb, fun _ => hb, fun _ _ _ => hb, fun _ _ _ => hb, fun _ _ => hb, fun _ _ _ => hb, fun _ _ => hb, fun _ _ _ => hb, hb, fun _ => hb, fun _ => hb, fun _ _ => hb, fun _ => hb, fun _ => hb, fun _ => hb, fun _ => hb, hb, fun _ _ => hb, fun _ => hb, fun _ _ _ => hb, fun _ _ => hb, hb, hb, fun _ _ => hb, fun _ => hb, fun _ => hb, fun _ => hb, fun _ _ => hb, hb, fun _ _ _ => hb, hb, hb, hb, hb, fun _ => hb, fun _ _ => hb, hb, hb, hb, fun _ => hb, fun _ _ => hb, hb, hb, hb, fun _ _ => hb, fun _ => hb, fun _ => hb, fun _ _ => hb, hb, fun _ _ => hb, fun _ _ => hb, fun _ _ => hb, fun _ _ => hb, hb, fun _ => hb, fun _ _ => hb, hb, hb, fun _ => hb⟩

/-- Each field of the header beyond its width, and a sender that does not exist. -/
theorem wf_refuses_fields : hdrWf hdr = true ∧
    hdrWf { hdr with origin := .host 16 0 0 } = false ∧
    hdrWf { hdr with origin := .host 0 8 0 } = false ∧
    hdrWf { hdr with origin := .host 0 0 65536 } = false ∧
    hdrWf { hdr with origin := .slait 64 } = false ∧
    hdrWf { hdr with origin := .colonnade (2 ^ 32) } = false ∧
    hdrWf { hdr with verMajor := 256 } = false ∧
    hdrWf { hdr with verMinor := 256 } = false ∧
    hdrWf { hdr with target := 256 } = false ∧
    hdrWf { hdr with tag := 2 ^ 32 } = false ∧
    hdrWf { hdr with len := 2 ^ 32 } = false ∧
    hdrWf { hdr with cmdLen := 2 ^ 32 } = false ∧
    hdrWf { hdr with groupId := 2 ^ 32 } = false ∧
    hdrWf { hdr with replyLen := 2 ^ 32 } = false := by decide

/-! ## One step at a time

Expected results are taken from the rules cited, not from the model. -/

/-- The state after one command, as it was where the command stops. -/
def after (i : Instr) (s : State) : State := match exec i s with | .next t => t | _ => s

/-- Status and RESULT of the last reply. -/
def reply (s : State) : Option (Nat × Nat) := s.cmd.out.replies.head?.map fun r => (r.status, r.result.toNat)

/-- The values of the last reply. -/
def values (s : State) : Option (List Nat) := s.cmd.out.replies.head?.map fun r => r.payload

/-- R350, R351: the highest version both sides have is agreed. -/
theorem test_hello : (values (after (.hello hdr 2 0 3 2 none) (ready base hdr 0x0101))).map (List.take 2) = some [3, 2] := by decide

/-- ECHO returns its data. -/
theorem test_echo : values (after (.echo hdr [1, 2, 255]) (ready base hdr 0x010A)) = some [1, 2, 255] := by decide

/-- R348 step 4 is before step 5: a target beyond 63 is an access violation on the relaying device too. -/
theorem test_target : reply (after (.goodbye { hdr with target := 64 }) (ready base { hdr with target := 64 } 0x0102))
    = some (0x0401, 0) := by decide

/-- R355: no device 5 is enumerated. -/
theorem test_not_found : reply (after (.goodbye { hdr with target := 5 }) (ready base { hdr with target := 5 } 0x0102))
    = some (0x0302, 0) := by decide

/-- R348 step 1: another version than the session's. -/
theorem test_version : reply (after (.goodbye { hdr with verMinor := 1 }) (ready base { hdr with verMinor := 1 } 0x0102))
    = some (0x0101, 0) := by decide

/-- R348: the opcode is checked before the length (group commands need version 3.0). -/
theorem test_length : reply (after (.goodbye { hdr with sizeOk := false }) (ready base { hdr with sizeOk := false } 0x0102))
    = some (0x0103, 0) := by decide

/-- R340: a reply buffer of 15 bytes does not hold a result. -/
theorem test_short_buffer : (reply (after (.deviceStateGet { hdr with replyLen := 1 }) (ready base { hdr with replyLen := 1 } 0x0103))).map
    (·.1) = some 0x0103 := by decide

/-- R20: accepted in tick 959 of epoch 0 a change is due at epoch 1, in tick 960 at epoch 2. -/
theorem test_window_open : reply (after (.portEnable hdr 0 true) (ready { base with clock.tick := 959 } hdr 0x0203)) = some (0, 1) := by
  decide
theorem test_window_closed : reply (after (.portEnable hdr 0 true) (ready { base with clock.tick := 960 } hdr 0x0203)) = some (0, 2) := by
  decide

/-- R21: a second change of the port moves to the next boundary, OK_ADJUSTED. -/
theorem test_moved : reply (after (.portEnable hdr 0 true) (ready (base.due 1 [objPortEnable 0] (.portEnable 0 true)) hdr 0x0203))
    = some (1, 2) := by decide

/-- R54: a port that the layout does not have. -/
theorem test_no_port : (reply (after (.portEnable hdr 1 true) (ready base hdr 0x0203))).map (·.1) ≠ some 0 := by decide

/-- R36: tap sum 64 (FIR_MAIN 55 beside the reset taps). -/
theorem test_fir : reply (after (.laneConfigSet hdr 0 (55 <<< 19) (span 24 19) none none none) (ready base hdr 0x0301))
    = some (0x0104, 0) := by decide

/-- R437: FAULT_INJECT on a shipped part. -/
theorem test_inject : reply (after (.faultInject hdr) (ready base hdr 0x0B0F)) = some (0x0201, 0) := by decide

/-- R470: V below the fused counter is BAD_PARAM, V equal to it is OK and burns nothing. -/
theorem test_svn_below : reply (after (.svnAdvance hdr 4) (ready { base with sec.svn := 5 } hdr 0x0D07)) = some (0x0104, 0) := by decide
theorem test_svn_equal : ((after (.svnAdvance hdr 5) (ready { base with sec.svn := 5 } hdr 0x0D07)).sec.svn, (reply (after
    (.svnAdvance hdr 5) (ready { base with sec.svn := 5 } hdr 0x0D07))).map (·.1)) = (5, some 0) := by decide

/-- R357: a second GROUP_OPEN is refused with STATE_CONFLICT. -/
theorem test_group_twice : reply (after (.groupOpen hdr) (ready grouped hdr 0x0E01)) = some (0x0201, 0) := by decide

/-- R24, R14: at P3 position 10 is skipped and position 2 is worked. -/
theorem test_p3 : (workedPos 3 10, workedPos 3 2, workedPos 7 0, workedPos 7 15) = (false, true, false, true) := by decide

/-- R443: band 1 is entered at 40 and left below 37. -/
theorem test_bands : (newBand 0 39, newBand 0 40, newBand 1 37, newBand 1 36, newBand 0 85) = (0, 1, 1, 0, 3) := by decide

/-- R125: a birth 0x8000 versions ahead is not born yet, one 0x7FFF behind is live, across the wrap. -/
theorem test_live : ((Stamp.born { Stamp.init with birth := 0xFFFF, birthSet := true } 0x7FFE),
    (Stamp.born { Stamp.init with birth := 0xFFFF, birthSet := true } 0x7FFF)) = (true, false) := by decide

/-- R13: the Gatehouse counts on while the core is held, once it has been released. -/
theorem test_tally : ((step { State.reset with clock.released := true, clock.tallyClock := 2047 }) matches .next _) = true := by
  decide

/-- R42, R43: loss of signal takes an UP lane down and is counted. -/
theorem test_los : (after (.laneLos 0) (base.modLane 0 fun x => { x with st := .up })).ctrVal .laneLosCount 0 = 1 := by decide

/-- A unit that the device does not have stops the machine by name. -/
theorem test_no_unit : (match exec (.laneLos 1024) base with | .fault f => some f | _ => none) = some (.noSuchUnit 1024) := by decide

/-- The table gives no row bits. -/
theorem test_decode : (decodeTableWord 8 0, decodeTableWord 32 0xFFFFFFFF) = (none, none) := by decide

/-! ## The hypotheses of the statements are met

One theorem per statement that has hypotheses: for each clause a state and operands that meet all of them. -/

/-- What the statements on a Slait command ask of its header and its turn. -/
def Begun (s : State) (h : Hdr) (op : Nat) (group : Bool) : Prop :=
  (ready s h op).begin h op = some (run s h op) ∧ Hdr_twinned h = false ∧ h.target = (ready s h op).sec.deviceId ∧ h.group = group

def mayBegin (s : State) (h : Hdr) : Bool :=
  s.clock.running && !(s.cmd.dev == .reset || s.cmd.dev == .dormant) && (s.hring 0).en && s.cmd.taken == []
    && h.origin == .host 0 0 0

theorem begins (s : State) (h : Hdr) (op : Nat) (hf : mayBegin s h = true) :
    (ready s h op).begin h op = some (run s h op) ∧ Hdr_twinned h = false := by
  simp only [mayBegin, Bool.and_eq_true, Bool.not_eq_true', beq_iff_eq] at hf
  obtain ⟨⟨⟨⟨a1, a2⟩, a3⟩, a4⟩, a5⟩ := hf
  have ha : (ready s h op).takenAt 0 = some { hdr := h, opcode := op, started := false, dead := false } := by
    simp [ready, State.takenAt, State.putTakenAt, a4, Arr.set, Arr.get]
  have hq : (ready s h op).fetch h op = ready s h op := by
    simp [State.fetch, a5, State.canFetch, ha]
  have e1 : (ready s h op).clock = s.clock := rfl
  have e2 : (ready s h op).cmd.dev = s.cmd.dev := rfl
  have e3 : (ready s h op).hring 0 = s.hring 0 := rfl
  refine ⟨?_, by simp [Hdr_twinned, a5]⟩
  unfold State.begin
  simp [e1, a1, e2, a2, a5, hq, e3, a3, ha, run]

theorem begun (s : State) (h : Hdr) (op : Nat) (g : Bool) (hf : mayBegin s h = true) (ht : h.target = (ready s h op).sec.deviceId)
    (hg : h.group = g) : Begun s h op g := ⟨(begins s h op hf).1, (begins s h op hf).2, ht, hg⟩

theorem meets_StepRunsFront : State.reset.pending = [] := rfl

theorem meets_StepTakesOneCommand :
    ∃ t, step { base with pending := [.lookupResult 0, .goodbye hdr] } = .next t := ⟨_, rfl⟩

theorem meets_WellFormedCommandsComplete :
    (Instr.lookupResult 0).wf = true ∧ ({ base with pending := [.goodbye hdr, .laneLos 1023] } : State).queueWf = true := by decide

theorem meets_EveryStepKeepsPlace :
    ({ base with clock.tick := 1023, clock.k := 1 } : State).placeOk ∧ ∃ t, step { base with clock.tick := 1023, clock.k := 1 } = .next t :=
  ⟨⟨by decide, by decide, by decide⟩, _, rfl⟩

theorem meets_EveryStepOnlyBurnsFuses :
    ∃ t, step { base with sec.revoked := 0x80, pending := [.lookupResult 0] } = .next t ∧
      ({ base with sec.revoked := 0x80 } : State).sec.revoked.getLsbD 7 = true := ⟨_, rfl, by decide⟩

/-- One state and header for each refusal of R348. -/
theorem meets_ChecksInOrder :
    (∀ h, Slait (.goodbye h) h cmdGoodbye) ∧
    (let h := { hdr with verMinor := 1 }
     Begun base h 0x0102 false ∧ (run base h 0x0102).versionOk h 0x0102 = false) ∧
    (let h := { hdr with verMinor := 1 }
     let s := { base with cmd.sessions := [{ sender := 0, target := 0, major := 3, minor := 1, telemetry := 1 }] }
     Begun s h 0x0105 false ∧ (run s h 0x0105).versionOk h 0x0105 = true ∧ (run s h 0x0105).opcodeOk h 0x0105 = false) ∧
    (let h := { hdr with sizeOk := false }
     let t := run base h 0x0102
     Begun base h 0x0102 false ∧ t.versionOk h 0x0102 = true ∧ t.opcodeOk h 0x0102 = true ∧ (Hdr_lengthOk h && cmdGoodbye.lenOk) = false) ∧
    (let h := { hdr with target := 64 }
     let s := { base with sec.deviceId := 64, cmd.sessions := [{ sender := 0, target := 64, major := 3, minor := 2, telemetry := 1 }] }
     let t := run s h 0x0102
     Begun s h 0x0102 false ∧ t.versionOk h 0x0102 = true ∧ t.opcodeOk h 0x0102 = true ∧ (Hdr_lengthOk h && cmdGoodbye.lenOk) = true ∧ 63 < h.target) ∧
    (let h := { hdr with reservedZero := false }
     let t := run base h 0x0102
     Begun base h 0x0102 false ∧ t.versionOk h 0x0102 = true ∧ t.opcodeOk h 0x0102 = true ∧ (Hdr_lengthOk h && cmdGoodbye.lenOk) = true ∧ h.target ≤ 63 ∧
       t.flagsOk h cmdGoodbye = false) ∧
    (let s := { base with cmd.dev := .boot }
     let c := cmdPortEnable 0 true
     let t := run s hdr 0x0203
     Begun s hdr 0x0203 false ∧ t.versionOk hdr 0x0203 = true ∧ t.opcodeOk hdr 0x0203 = true ∧ (Hdr_lengthOk hdr && c.lenOk) = true ∧
       hdr.target ≤ 63 ∧ t.flagsOk hdr c = true ∧ t.legalIn c.op c.isRead = false) ∧
    (let s := base.putEngine 0 { ArmEngine.init with fenced := true }
     let c := cmdArmStatsGet 0 false
     let t := run s hdr c.op
     Begun s hdr c.op false ∧ t.versionOk hdr c.op = true ∧ t.opcodeOk hdr c.op = true ∧ (Hdr_lengthOk hdr && c.lenOk) = true ∧
       hdr.target ≤ 63 ∧ t.flagsOk hdr c = true ∧ t.legalIn c.op c.isRead = true) ∧
    (let s := { base with faults.dataBad := true }
     let t := run s hdr 0x0102
     Begun s hdr 0x0102 false ∧ t.versionOk hdr 0x0102 = true ∧ t.opcodeOk hdr 0x0102 = true ∧ (Hdr_lengthOk hdr && cmdGoodbye.lenOk) = true ∧
       hdr.target ≤ 63 ∧ t.flagsOk hdr cmdGoodbye = true ∧ t.legalIn 0x0102 cmdGoodbye.isRead = true ∧ cmdGoodbye.fenced t = false ∧
       t.faults.dataBad = true) ∧
    (let c := cmdPortEnable 1024 true
     let t := run base hdr 0x0203
     Begun base hdr 0x0203 false ∧ t.versionOk hdr 0x0203 = true ∧ t.opcodeOk hdr 0x0203 = true ∧ (Hdr_lengthOk hdr && c.lenOk) = true ∧
       hdr.target ≤ 63 ∧ t.flagsOk hdr c = true ∧ t.legalIn c.op c.isRead = true ∧ c.fenced t = false ∧ t.mirrorGate hdr c = none ∧
       t.faults.dataBad = false ∧ ∃ lg, c.rule hdr t = .refuse stAccessViolation 0 0 lg) :=
  ⟨fun _ _ => rfl, ⟨begun _ _ _ _ (by decide) rfl rfl, by decide⟩, ⟨begun _ _ _ _ (by decide) rfl rfl, by decide, by decide⟩,
   ⟨begun _ _ _ _ (by decide) rfl rfl, by decide, by decide, by decide⟩,
   ⟨begun _ _ _ _ (by decide) rfl rfl, by decide, by decide, by decide, by decide⟩,
   ⟨begun _ _ _ _ (by decide) rfl rfl, by decide, by decide, by decide, by decide, by decide⟩,
   ⟨begun _ _ _ _ (by decide) rfl rfl, by decide, by decide, by decide, by decide, by decide, by decide⟩,
   ⟨begun _ _ _ _ (by decide) rfl rfl, by decide, by decide, by decide, by decide, by decide, by decide⟩,
   ⟨begun _ _ _ _ (by decide) rfl rfl, by decide, by decide, by decide, by decide, by decide, by decide, rfl, by decide⟩,
   ⟨begun _ _ _ _ (by decide) rfl rfl, by decide, by decide, by decide, by decide, by decide, by decide, rfl, by decide, by decide, _, rfl⟩⟩

theorem meets_CommandsWaitTheirTurn : State.reset.begin hdr 0x0102 = none := rfl

theorem meets_ReplyBufferTooSmall :
    let h := { hdr with replyLen := 0 }
    let t := run base h 0x0103
    Slait (.deviceStateGet h) h cmdDeviceStateGet ∧ Starts (ready base h 0x0103) t h cmdDeviceStateGet ∧
      (∃ pl, cmdDeviceStateGet.rule h t = .done t stOk 0 0 pl ∧ h.replyLen < resultBytes 0x0103 pl.length) ∧
      ∃ r f e, h.origin = .host r f e :=
  ⟨fun _ => rfl, starts base _ _ 0x0103 rfl (by decide), ⟨_, rfl, by decide⟩, _, _, _, rfl⟩

/-- Device 5 is one hop east. -/
def hop : EnumReply := { id := 5, idHash := 0, state := 2, role := 0, twinId := 0, east := 1, west := 3, root := false }

theorem meets_AbsentTargetNotFound :
    let h := { hdr with target := 63 }
    Slait (.goodbye h) h cmdGoodbye ∧ (ready base h 0x0102).begin h 0x0102 = some (run base h 0x0102) ∧ Hdr_twinned h = false ∧
      h.target ≠ (ready base h 0x0102).sec.deviceId ∧ Hdr_lengthOk h = true ∧ cmdGoodbye.lenOk = true ∧ h.target ≤ 63 ∧
      h.reservedZero = true ∧ ∀ r ∈ (run base h 0x0102).ring.present, r.id ≠ h.target :=
  ⟨fun _ => rfl, (begins base _ _ (by decide)).1, rfl, by decide, rfl, rfl, by decide, rfl, by decide⟩

theorem meets_PresentTargetRelayed :
    let h := { hdr with target := 5 }
    let s := { base with ring.present := [hop] }
    Slait (.goodbye h) h cmdGoodbye ∧ (ready s h 0x0102).begin h 0x0102 = some (run s h 0x0102) ∧ Hdr_twinned h = false ∧
      h.target ≠ (ready s h 0x0102).sec.deviceId ∧ Hdr_lengthOk h = true ∧ cmdGoodbye.lenOk = true ∧ h.target ≤ 63 ∧
      h.reservedZero = true ∧ ∃ r ∈ (run s h 0x0102).ring.present, r.id = h.target :=
  ⟨fun _ => rfl, (begins { base with ring.present := [hop] } _ _ (by decide)).1, rfl, by decide, rfl, rfl, by decide, rfl, hop, by decide, rfl⟩

theorem meets_CipherTwinFlagRefused :
    let h := { hdr with twin := true }
    let c := cmdCipherPortGet 0
    let t := run base h c.op
    Slait (.cipherPortGet h 0) h c ∧ c.op / 256 = 8 ∧ c.mirror = none ∧ Begun base h c.op false ∧ t.versionOk h c.op = true ∧
      t.opcodeOk h c.op = true ∧ Hdr_lengthOk h = true ∧ c.lenOk = true ∧ h.target ≤ 63 ∧ h.twin = true :=
  ⟨fun _ => rfl, rfl, rfl, begun _ _ _ _ (by decide) rfl rfl, by decide, by decide, rfl, rfl, by decide, rfl⟩

theorem meets_TwinCommandsPrepared :
    let h := { hdr with twin := true }
    let s := paired .lead .service
    let c := cmdTableDelete 0
    let t := run s h c.op
    Slait (.tableDelete h 0) h c ∧ Begun s h c.op false ∧ t.precheck h c = none ∧ t.mirrorGate h c = none ∧ c.op ≠ 0x0609 ∧
      c.mirror = some (.tableDelete 0) ∧ h.twin = true ∧ t.twin.role = .lead ∧ t.twin.attached = true ∧
      c.rule h t = .change [objTable 0] t [.tableDelete 0] :=
  ⟨fun _ => rfl, begun _ _ _ _ (by decide) rfl rfl, by rfl, by rfl, by decide, rfl, rfl, rfl, rfl, rfl⟩

/-- A FOLLOW to which the twin has sent TABLE_DELETE. -/
def following : State := { paired .follow .service with cmd.carried := [(.colonnade 9, 0x0402, none)] }
def twinHdr : Hdr := { hdr with origin := .colonnade 9, twin := true }
def followed : State := { following with cmd.carried := [] }

theorem meets_FollowPrepares :
    let c := cmdTableDelete 0
    Slait (.tableDelete twinHdr 0) twinHdr c ∧ twinHdr.origin = .colonnade 9 ∧ following.begin twinHdr c.op = some followed ∧
      twinHdr.group = false ∧ followed.precheck twinHdr c = none ∧ c.op ≠ 0x0501 ∧ c.mirror = some (.tableDelete 0) ∧
      c.rule twinHdr followed = .change [objTable 0] followed [.tableDelete 0] :=
  ⟨fun _ => rfl, rfl, rfl, rfl, by rfl, by decide, rfl, rfl⟩

theorem meets_GateListSet :
    let g : GateSpec := { td := 0, base := 0, cycle := 1000000, ext := 0, gates := [0xFFFF], intervals := [1000000] }
    let t := run base hdr 0x0609
    Starts (ready base hdr 0x0609) t hdr (cmdGateListSet 0 g) ∧ 0 < 1024 ∧ t.isPort 0 = true ∧ gateOk g = true ∧
      t.oneDomainList 0 g.td = true ∧ holds hdr (cmdGateListSet 0 g) 2 :=
  ⟨starts base _ _ 0x0609 rfl (by decide), by decide, by decide, by decide, by decide, by show resultBytes _ _ ≤ _; decide⟩

theorem meets_TwinRoleSwap :
    let s := paired .lead .service
    let t := run s hdr 0x0C05
    Begun s hdr 0x0C05 false ∧ t.precheck hdr cmdTwinRoleSwap = none ∧ t.mirrorGate hdr cmdTwinRoleSwap = none ∧
      t.twin.attached = true ∧ t.twin.role = .lead :=
  ⟨begun _ _ _ _ (by decide) rfl rfl, by rfl, by rfl, rfl, rfl⟩

theorem meets_GroupPartsHeld :
    let h := { hdr with group := true, groupId := 1 }
    let c := cmdPortEnable 0 true
    let t := run grouped h c.op
    Slait (.portEnable h 0 true) h c ∧ Begun grouped h c.op true ∧ t.precheck h c = none ∧ t.mirrorGate h c = none ∧
      t.onBoth h c = false ∧ t.group = some openGroup ∧ openGroup.id = h.groupId ∧ openGroup.sender = hdrSender h ∧
      openGroup.twin = h.twin ∧ openGroup.commit = none ∧ openGroup.parts.length < 256 ∧
      (∀ p ∈ openGroup.parts, ∀ o ∈ p.objs, o ∉ [objPortEnable 0]) ∧
      c.rule h (t.withParts openGroup.parts) = .change [objPortEnable 0] t [.portEnable 0 true] ∧ c.op ≠ 0x0609 ∧
      c.rule h t = .change [objPortEnable 0] t [.portEnable 0 true] :=
  ⟨fun _ => rfl, begun _ _ _ _ (by decide) rfl rfl, by rfl, by rfl, by decide, rfl, rfl, rfl, rfl, rfl, by decide, by decide, rfl,
   by decide, rfl⟩

theorem meets_ReplyFrame :
    stOk ≠ stInternal ∧ Hdr_twinned hdr = false ∧ (∀ x, hdr.origin ≠ .slait x) ∧ stOkAdjusted < stBadParam :=
  ⟨by decide, rfl, fun _ h => Origin.noConfusion h, by decide⟩

theorem meets_BeginFrame : (ready base hdr 0x0102).begin hdr 0x0102 = some (run base hdr 0x0102) ∧ 0x0102 ≠ 0x0E01 :=
  ⟨(begins base _ _ (by decide)).1, by decide⟩

theorem meets_RefusedCommandsTouchNothing :
    let c := cmdPortEnable 1024 true
    let t := run base hdr c.op
    Slait (.portEnable hdr 1024 true) hdr c ∧ Begun base hdr c.op false ∧
      ∃ lg, t.verdict hdr c ((ready base hdr c.op).chosen hdr) = .refuse stAccessViolation 0 0 lg :=
  ⟨fun _ => rfl, begun _ _ _ _ (by decide) rfl rfl, _, rfl⟩

theorem meets_AcceptedChangesWait :
    let c := cmdPortEnable 0 true
    let t := run base hdr c.op
    Slait (.portEnable hdr 0 true) hdr c ∧ Starts (ready base hdr c.op) t hdr c ∧ c.op ≠ 0x0609 ∧
      [Change.portEnable 0 true].all Change.plain = true ∧ c.rule hdr t = .change [objPortEnable 0] t [.portEnable 0 true] :=
  ⟨fun _ => rfl, starts base _ _ _ rfl (by decide), by decide, rfl, rfl⟩

/-- Points P0, P6 and P7, and position 15. -/
theorem meets_SkippedTicks :
    (base.clock.running = true ∧ base.clock.stretch = 0 ∧ base.power.op < 7) ∧
    (let s := { base with power.op := 6 }; s.clock.running = true ∧ s.clock.stretch = 0 ∧ s.power.op < 7) ∧
    (let s := { base with power.op := 7, clock.tick := 1023, clock.k := 1 }
     s.clock.running = true ∧ s.clock.stretch = 0 ∧ s.power.op = 7 ∧ s.clock.tick % 16 = 15 ∧ s.clock.k = 1) := by decide

/-- The slots at both ends of each range, over reset's store. -/
theorem meets_LiveSlots : 287 < 288 ∧ 0 < 288 ∧ State.reset.rules.objs.wf (fun _ => ObjSlot.init) = true ∧
    288 ≤ 288 ∧ 288 < 512 ∧ 288 ≤ 511 ∧ 511 < 512 := by decide

theorem meets_StageARotation :
    15 < 16 ∧ base.stageAPart 15 15 = base.stageAPart 15 15 ∧ base.stageAPart 15 15 = 14 := by decide

theorem meets_FirSum :
    let sum (r : BitVec 64) : Nat :=
      (sfld r 39 36).natAbs + (sfld r 35 31).natAbs + (sfld r 30 25).natAbs + fld r 24 19 + (sfld r 18 14).natAbs
    (let t := run base hdr 0x0301
     Starts (ready base hdr 0x0301) t hdr (cmdLaneConfigSet 1023 (55 <<< 19) (span 24 19) none none none) ∧ 1023 < 1024 ∧
       63 < sum (merge (t.lane 1023).cfg (55 <<< 19) ((span 24 19) &&& laneWritable))) ∧
    (let t := run base hdr 0x0301
     Starts (ready base hdr 0x0301) t hdr (cmdLaneConfigSet 1023 (23 <<< 19) (span 24 19) none none none) ∧ 1023 < 1024 ∧
       fld (merge (t.lane 1023).cfg (23 <<< 19) ((span 24 19) &&& laneWritable)) 24 19 < 24) :=
  ⟨⟨starts base _ _ 0x0301 rfl (by decide), by decide, by decide⟩, ⟨starts base _ _ 0x0301 rfl (by decide), by decide, by decide⟩⟩

/-- TXSC_EN; then FWD_OP 2, TC_EN, META_EN, MIRROR_EN with DROP. -/
theorem meets_RuleActionsRefused :
    let r (dir : Nat) (action : BitVec 128) : RuleRec :=
      { dir := dir, slot := 6143, prio := 0, rangeVal := 0, rangeMask := 0, key := 0, mask := 0, action := action }
    let t := run opened hdr 0x0504
    (Starts (ready opened hdr 0x0504) t hdr (cmdRuleAdd (r 0 (1 <<< 62))) ∧
      Starts (ready opened hdr 0x0504) t hdr (cmdRuleAdd (r 1 (1 <<< 125 ||| 1 <<< 97)))) ∧ 6143 < kindSlots 0 ∧ 6143 < kindSlots 1 ∧
    bit (1 <<< 62 : BitVec 128) 62 = true ∧ 1 < fld (2 <<< 125 : BitVec 128) 127 125 ∧ bit (1 <<< 108 : BitVec 128) 108 = true ∧
    bit (1 <<< 41 : BitVec 128) 41 = true ∧
    (bit (1 <<< 125 ||| 1 <<< 97 : BitVec 128) 97 = true ∧ fld (1 <<< 125 ||| 1 <<< 97 : BitVec 128) 127 125 = 1) :=
  ⟨⟨starts opened _ _ 0x0504 rfl (by decide), starts opened _ _ 0x0504 rfl (by decide)⟩, by decide, by decide, by decide, by decide, by decide, by decide, by decide⟩

theorem meets_TemperatureBands : 3 ≤ 3 := by decide

/-- One state for each clause. -/
theorem meets_ClocksAndTally :
    (∀ s : State, s.pending = [] → ∃ t, step s = .next t) ∧
    (base.pending = [] ∧ base.clock.running = true ∧ base.clock.k = 0) ∧
    (let s := { base with clock.k := 1, clock.tick := 1022 }
     s.pending = [] ∧ s.clock.running = true ∧ s.clock.k = 1 ∧ s.clock.stretch = 0 ∧ s.clock.tick < 1023) ∧
    (let s := { base with clock.k := 1, clock.stretch := 1 }
     s.pending = [] ∧ s.clock.running = true ∧ s.clock.k = 1 ∧ 0 < s.clock.stretch) ∧
    (State.reset.pending = [] ∧ State.reset.clock.running = false ∧ State.reset.clock.released = false) ∧
    (let s := { State.reset with clock.released := true, clock.tallyClock := 2046 }
     s.pending = [] ∧ s.clock.running = false ∧ s.clock.released = true ∧ s.clock.tallyClock < 2047) ∧
    (let s := { State.reset with clock.released := true, clock.tallyClock := 2047 }
     s.pending = [] ∧ s.clock.running = false ∧ s.clock.released = true ∧ s.clock.tallyClock = 2047) :=
  ⟨fun s h => ⟨s.idle, by simp [step, h]⟩, by decide, by decide, by decide, by decide, by decide, by decide⟩

/-- The device in BOOT at a step. -/
def booting (step : BootStep) : State := { State.reset with cmd.dev := .boot, sec.step := step }

/-- A state for each clause; the boot ROM with BOOT_SRC set and clear. -/
theorem meets_StartupCompletes :
    base.clock.running = true ∧ base.cmd.dev ≠ .dormant ∧
    (State.reset.perstRise.cmd.dev = .reset ∧ State.reset.perstRise.railsOk (List.replicate 5 5000) = true) ∧
    ((booting .ready).cmd.dev = .boot ∧ (booting .ready).sec.arrayInit = false) ∧
    ((booting .released).cmd.dev = .boot ∧ (booting .released).sec.step = .released ∧
      (((booting .released).romReads 0).romLeaf true).sec.bootHost = false ∧
      (({ booting .released with sec.bootHost := true }.romReads 0).romLeaf true).sec.bootHost = true) ∧
    (let s := { booting .firmware with sec.chosen := some (image 1), sec.arrayInit := true }
     s.sec.chosen = some (image 1) ∧ s.cmd.dev = .boot ∧ s.sec.step = .firmware ∧ s.sec.arrayInit = true) ∧
    ((booting .ready).cmd.dev = .boot ∧ (booting .ready).sec.step = .ready ∧ (booting .ready).sec.fwInit = false) ∧
    (let s := { State.reset with sec.running := some (image 1), sec.topLeaf := some 0 }
     s.sec.running.isSome = true ∧ s.sec.topLeaf.isSome = true ∧ s.sec.exhausted = false ∧ s.sec.treeReady = false) ∧
    7 < 8 :=
  ⟨rfl, by decide, by decide, by decide, ⟨rfl, rfl, rfl, rfl⟩, ⟨rfl, rfl, rfl, rfl⟩, ⟨rfl, rfl, rfl⟩, ⟨rfl, rfl, rfl, rfl⟩, by decide⟩

/-- A frame of a transmit ring. -/
def txd (mode : Nat) : TxDesc :=
  { bytes := List.replicate 60 0, len := 60, mode := mode, tsReq := true, oneStep := false, ltValid := false, reservedZero := true
    port := 0, queue := 0, cookie := 0, ltSec := 0, ltNs := 0 }

/-- Rings for the clauses of `HostInterfaceCompletes`: receive and transmit ring 63 with two entries posted, a frame in CPU
queue 255 and one waiting for a slot of pipe 0. -/
def hosted : State :=
  let s := (base.putHring 95 { Ring.init 95 with en := true, hostIndex := 2 }).putHring 159 { Ring.init 159 with en := true, hostIndex := 2 }
  let s := (s.putHring 227 { Ring.init 227 with signalDue := true }).putHring 223 { Ring.init 223 with en := true, hostIndex := 2 }
  let p := newPkt 0 0 0 (List.replicate 60 0) 0 0
  let s := (s.putPkt 0 (some { p with verdict := .confirm })).putPkt 1 (some p)
  let s := s.putCopy 0 (some (newCopy s 0 p { queue := 9471, port := 1024, kind := .unicast, trunc := 0 }))
  { (s.putQList 9471 [0]).putCpuRing 255 63 with pk.injectQ := [1], clock.tick := 1 }

/-- A state and operands for each clause but those whose hypotheses are ranges alone. -/
theorem meets_HostInterfaceCompletes :
    hosted.clock.running = true ∧
    (227 < 228 ∧ (hosted.hring 227).signalDue = true ∧ hosted.gapOver 227 = true) ∧
    (63 < 64 ∧ hosted.worked = true ∧ (hosted.hring (32 + 63)).en = true ∧ (hosted.hring (32 + 63)).waiting ≠ 0 ∧
      ((hosted.ringQueues 63).findSome? fun c => (hosted.cpuHead c).map fun h => (c, h)).isSome = true) ∧
    ((hosted.hring (96 + 63)).en = true ∧ hosted.txHeld 63 < (hosted.hring (96 + 63)).waiting ∧
      hosted.tsRoom 63 = true ∧ hosted.descOk (txd 0) = true ∧ hosted.descOk (txd 1) = true ∧
      (txd 0).bytes.length = (txd 0).len ∧ (txd 0).mode = 0 ∧ (txd 1).mode ≠ 0) ∧
    (0 < 64 ∧ hosted.slotReady 0 = true ∧ hosted.injectFor 0 = some 1 ∧ hosted.lineReady 0 = false ∧
      hosted.cloisterWaits 0 = false ∧ ({ hosted with pk.slotNo := [(0, (256, 0))] } : State).injectDue 0 = true) ∧
    (let r : Relay := { id := 5, hdr := hdr, opcode := 0x0101, sentAt := 0 }
     let s := { base with cmd.relays := [r], clock.now := clkMs 100 }
     (s.cmd.relays.find? fun r => r.id == 5) = some r ∧ r.sentAt + clkMs 100 ≤ s.now) ∧
    (let f : RingFrame := { dest := 2, src := 1, type := 1, hops := 1, segment := 0, last := true, payload := [] }
     0 < f.hops ∧ f.dest ≠ base.sec.deviceId ∧ f.dest ≠ 0xFF ∧ f.src ≠ base.sec.deviceId ∧
     (base.hopAcked true).sec = base.sec) ∧
    (let h := { hdr with origin := .slait 3 }
     base.ring.excluded = false ∧ h.target = base.sec.deviceId ∧ h.origin = .slait 3) ∧
    (3 < 4 ∧ ({ base with sec.pcieUp := true } : State).sec.pcieUp = true) ∧
    (base.isRoot = false ∧ (let t := (base.ringSend 3 6 (EnumReply_bytes (base.enumReply true 1))).draw
      State.isRoot { t with ring := { t.ring with hopsEast := some 1 } } = false)) ∧
    bit (2 : BitVec 32) 0 = false ∧
    (let s := { base with sec.ringRoot := true, sec.pcieUp := true, ring.enumDue := some 0 }
     s.isRoot = true ∧ s.ring.enumDue.isSome = true) ∧
    (let s := { base with sec.ringRoot := true, sec.pcieUp := true, clock.epoch := 2 ^ 20 }
     s.isRoot = true ∧ s.ring.enumEpoch + 2 ^ 20 ≤ s.clock.epoch) ∧
    (base.ringUp true = true ∧ ({ base with ring.brokenWest := true } : State).ringUp true = false) ∧
    (227 < 228 ∧ 7 < 8 ∧ (base.putHring 227 { Ring.init 227 with func := 7 }).reaches 7 227 = true) ∧
    bit (1 <<< 63 : BitVec 64) 63 = true ∧
    (0x1010 % 8 = 0 ∧ (base.accessBy 7).badAccess 0x1010 4 = none ∧ regAt 0x1010 = some .ro ∧
      (base.accessBy 7).counterAt 0x1010 = some 0 ∧ (base.accessBy 7).badAccess 0x1010 8 = none) ∧
    ((base.accessBy 7).badAccess 0x30004 4 = none ∧ regAt (0x30004 - 0x30004 % 8) = some (.evStatus 0) ∧ Reg.evStatus 0 ≠ .ro) ∧
    2 < 3 ∧
    (let f : RingFrame := { dest := 2, src := 0, type := 1, hops := 128, segment := 0, last := true, payload := [] }
     let sent (n : Nat) : RingOut := { west := true, frame := f, held := none, sends := n }
     let s := { base with ring.unacked := [sent 15], ring.retryEpoch := some 0 }
     let u := { base with ring.unacked := [sent 16] }
     ((s.ring.unacked.filter fun u => u.west == true && u.sends != 0) ≠ [] ∧ s.ringLost true = false ∧
       s.ring.retryEpoch = some s.clock.epoch ∧ (sent 15).sends < 16) ∧
     (u.ring.unacked.filter fun u => u.west == true && u.sends != 0) ≠ [] ∧ u.ringLost true = false ∧ 16 ≤ (sent 16).sends) :=
  ⟨rfl, by decide, ⟨by decide, by decide, by decide, by decide, by decide +kernel⟩, by decide, by decide, by decide,
   ⟨by decide, by decide, by decide, by decide, rfl⟩, by decide, by decide, by decide, by decide, by decide, by decide, by decide,
   by decide, by decide, by decide, by decide, by decide, by decide⟩

/-! ## Every Slait command -/

/-- A state and operands for each case of `SessionCommands`. -/
theorem meets_SessionCommands :
    (let h := hdr
     let s := ready base h 0x0101
     let t := run base h 0x0101
     let lowMaj : Nat := 2
     let lowMin : Nat := 0
     let highMaj : Nat := 3
     let highMin : Nat := 2
     let telemetry : Option Nat := none
     ∃ v, agree (lowMaj * 256 + lowMin) (highMaj * 256 + highMin) = some v ∧
     let f := agreeFormat telemetry
     let x : Session := { sender := hdrSender h, target := h.target, major := v / 256, minor := v % 256, telemetry := f }
     let u := t.dropSession h
     Starts s t h (cmdHello lowMaj lowMin highMaj highMin telemetry)) ∧
    (let h := hdr
     let s := ready base h 0x0102
     let t := run base h 0x0102
     Starts s t h cmdGoodbye) ∧
    (let h := hdr
     let s := ready base h 0x0103
     let t := run base h 0x0103
     Starts s t h cmdDeviceStateGet) ∧
    (let h := hdr
     let s := ready base h 0x0104
     let t := run base h 0x0104
     let target : Nat := 3
     ((target == 2 || target == 3) = true) ∧
     ((t.cmd.dev == .configure || t.cmd.dev == .service || (t.cmd.dev == .drain && target == 2)) = true) ∧
     Starts s t h (cmdDeviceStateSet target)) ∧
    (let h := hdr
     let s := ready base h 0x0105
     let t := run base h 0x0105
     let queue : Nat := 0
     let ring : Nat := 0
     (queue < 256) ∧
     (ring < 64) ∧
     Starts s t h (cmdCpuQueueMapSet queue ring)) ∧
    (let h := hdr
     let s := ready base h 0x0106
     let t := run base h 0x0106
     let group : Nat := 0
     let enable : BitVec 32 := 0
     let ring : Nat := 0
     (group < 32) ∧
     (ring < 4) ∧
     Starts s t h (cmdEventRouteSet group enable ring)) ∧
    (let h := hdr
     let s := ready base h 0x0107
     let t := run base h 0x0107
     let group : Nat := 0
     (group < 32) ∧
     Starts s t h (cmdEventStatusGet group)) ∧
    (let h := hdr
     let s := ready base h 0x0108
     let t := run base h 0x0108
     let group : Nat := 0
     let mask : BitVec 32 := 0
     (group < 32) ∧
     Starts s t h (cmdEventStatusClear group mask)) ∧
    (let h := hdr
     let s := ready base h 0x0109
     let t := run base h 0x0109
     let sel : StatsSel := { kind := 0, index := 0, sub := 0 }
     let clear : Bool := false
     (sel.index < sessionScope sel.kind) ∧
     (sel.kind < 4) ∧
     let cs : List (Ctr × Nat) := ((sessionCtrs sel.kind).map fun c => (c, sel.index))
     Starts s t h (cmdSessionStatsGet sel clear)) ∧
    (let h := hdr
     let s := ready base h 0x010A
     let t := run base h 0x010A
     let data : List Byte := []
     Starts s t h (cmdEcho data)) :=
  ⟨⟨_, rfl, (starts base hdr _ 0x0101 rfl (by decide))⟩,
   (starts base hdr _ 0x0102 rfl (by decide)),
   (starts base hdr _ 0x0103 rfl (by decide)),
   ⟨(by decide), (by decide), (starts base hdr _ 0x0104 rfl (by decide))⟩,
   ⟨(by decide), (by decide), (starts base hdr _ 0x0105 rfl (by decide))⟩,
   ⟨(by decide), (by decide), (starts base hdr _ 0x0106 rfl (by decide))⟩,
   ⟨(by decide), (starts base hdr _ 0x0107 rfl (by decide))⟩,
   ⟨(by decide), (starts base hdr _ 0x0108 rfl (by decide))⟩,
   ⟨(by decide), (by decide), (starts base hdr _ 0x0109 rfl (by decide))⟩,
   (starts base hdr _ 0x010A rfl (by decide))⟩

/-- A state and operands for each case of `PortCommands`. -/
theorem meets_PortCommands :
    (let h := hdr
     let s := ready base h 0x0201
     let t := run base h 0x0201
     let octet : Nat := 0
     let rate : Nat := 3
     let mask : BitVec 8 := 255
     (octet < 128) ∧
     (layoutOk rate mask = true) ∧
     (t.modeFree octet rate mask = true) ∧
     ((!(t.q16Due octet && hasOddStart mask)) = true) ∧
     ((!t.losesSc octet mask) = true) ∧
     Starts s t h (cmdPortModeSet octet rate mask)) ∧
    (let h := hdr
     let s := ready base h 0x0202
     let t := run base h 0x0202
     let port : Nat := 0
     let record : BitVec 64 := 0
     let fields : BitVec 64 := 0
     let old := (t.port port).cfg
     let r := merge old record (fields &&& portWritable)
     (port < 1024) ∧
     ((portRecordOk (t.portRate port) r) = true) ∧
     (t.isPort port = true) ∧
     ((!(t.port port).enabled || (fld (r ^^^ old) 5 3 == 0)) = true) ∧
     Starts s t h (cmdPortConfigSet port record fields)) ∧
    (let h := hdr
     let s := ready base h 0x0203
     let t := run base h 0x0203
     let port : Nat := 0
     let on : Bool := false
     (port < 1024) ∧
     (t.isPort port = true) ∧
     Starts s t h (cmdPortEnable port on)) ∧
    (let h := hdr
     let s := ready base h 0x0204
     let t := run base h 0x0204
     let port : Nat := 0
     (port < 1024) ∧
     (t.isPort port = true) ∧
     let q := t.port port
     Starts s t h (cmdPortStatusGet port)) ∧
    (let h := hdr
     let s := ready base h 0x0205
     let t := run base h 0x0205
     let port : Nat := 0
     let clear : Bool := false
     (port < 1024) ∧
     (t.isPort port = true) ∧
     Starts s t h (cmdPortStatsGet port clear)) ∧
    (let h := hdr
     let s := ready base h 0x0206
     let t := run base h 0x0206
     let octet : Nat := 0
     (octet < 128) ∧
     Starts s t h (cmdOctetLayoutGet octet)) :=
  ⟨⟨(by decide), (by decide), (by decide), (by decide), (by decide), (starts base hdr _ 0x0201 rfl (by decide))⟩,
   ⟨(by decide), (by decide), (by decide), (by decide), (starts base hdr _ 0x0202 rfl (by decide))⟩,
   ⟨(by decide), (by decide), (starts base hdr _ 0x0203 rfl (by decide))⟩,
   ⟨(by decide), (by decide), (starts base hdr _ 0x0204 rfl (by decide))⟩,
   ⟨(by decide), (by decide), (starts base hdr _ 0x0205 rfl (by decide))⟩,
   ⟨(by decide), (starts base hdr _ 0x0206 rfl (by decide))⟩⟩

/-- A state and operands for each case of `LaneCommands`. -/
theorem meets_LaneCommands :
    (let h := hdr
     let s := ready base h 0x0301
     let t := run base h 0x0301
     let lane : Nat := 0
     let record : BitVec 64 := 0
     let fields : BitVec 64 := 0
     let trainMs : Option Nat := none
     let serExp : Option Nat := none
     let holdoffMs : Option Nat := none
     let old := (t.lane lane).cfg
     let r := merge old record (fields &&& laneWritable)
     let within (v : Option Nat) (lo hi : Nat) : Bool := match v with | some n => decide (lo ≤ n) && decide (n ≤ hi) | none => true
     (lane < 1024) ∧
     ((laneRecordOk r && within trainMs 100 5000 && within serExp 2 8 && within holdoffMs 10 1000) = true) ∧
     ((!t.laneClash lane old r) = true) ∧
     Starts s t h (cmdLaneConfigSet lane record fields trainMs serExp holdoffMs)) ∧
    (let h := hdr
     let s := ready base h 0x0302
     let t := run base h 0x0302
     let lane : Nat := 0
     (lane < 1024) ∧
     Starts s t h (cmdLaneStatusGet lane)) ∧
    (let h := hdr
     let s := ready base h 0x0303
     let t := run base h 0x0303
     let lane : Nat := 0
     let clear : Bool := false
     (lane < 1024) ∧
     Starts s t h (cmdLaneStatsGet lane clear)) ∧
    (let h := hdr
     let s := ready (base.modLane 0 fun x => { x with st := .up }) h 0x0304
     let t := run (base.modLane 0 fun x => { x with st := .up }) h 0x0304
     let lane : Nat := 0
     let eye : Nat := 0
     let phaseStart : Int := 0
     let phaseStep : Nat := 1
     let phaseCount : Nat := 1
     let voltStart : Int := -63
     let voltStep : Nat := 1
     let voltCount : Nat := 127
     let dwellExp : Nat := 12
     let rate := (t.octet (lane / 8)).rate
     let inR (v lo hi : Nat) : Bool := decide (lo ≤ v) && decide (v ≤ hi)
     let running := match (t.lane lane).scan with | some c => c.status == 0 | none => false
     (lane < 1024) ∧
     ((decide (eye < 3) && (rate != 3 || eye == 1) && inR phaseStep 1 64 && inR phaseCount 1 64 && inR voltStep 1 126 && inR voltCount 1 127 && inR dwellExp 6 12 && scanFits phaseStart phaseStep phaseCount 32 31 && scanFits voltStart voltStep voltCount 63 63) = true) ∧
     (((t.lane lane).st == .up) = true) ∧
     ((!running && decide (t.tileScans (lane / 128) < 16)) = true) ∧
     Starts s t h (cmdEyeScanStart lane eye phaseStart phaseStep phaseCount voltStart voltStep voltCount dwellExp)) ∧
    (let h := hdr
     let s := ready (scanning 0) h 0x0305
     let t := run (scanning 0) h 0x0305
     let scan : Nat := 1
     let first : Nat := 0
     let count : Nat := 1
     ∃ l c, t.scanLane scan = some (l, c) ∧
     ((decide (count ≤ 256) && decide (first + count ≤ c.phaseCount * c.voltCount)) = true) ∧
     Starts s t h (cmdEyeScanRead scan first count)) ∧
    (let h := hdr
     let s := ready (scanning 0) h 0x0306
     let t := run (scanning 0) h 0x0306
     let scan : Nat := 1
     ∃ l c, t.scanLane scan = some (l, c) ∧
     ((c.status == 0) = true) ∧
     Starts s t h (cmdEyeScanAbort scan)) ∧
    (let h := hdr
     let s := ready base h 0x0307
     let t := run base h 0x0307
     let lane : Nat := 0
     (lane < 1024) ∧
     (((t.lane lane).st != .retired && !t.reactedNow (.lane lane)) = true) ∧
     Starts s t h (cmdLaneRetire lane)) ∧
    (let h := hdr
     let s := ready (base.modLane 0 fun x => { x with st := .retired }) h 0x0308
     let t := run (base.modLane 0 fun x => { x with st := .retired }) h 0x0308
     let lane : Nat := 0
     let passes : Bool := false
     (lane < 1024) ∧
     ((t.mayRestoreLane lane && !t.reactedNow (.lane lane)) = true) ∧
     Starts s t h (cmdLaneRestore lane passes)) ∧
    (let h := hdr
     let s := ready base h 0x0309
     let t := run base h 0x0309
     let lane : Nat := 0
     let gen : Nat := 0
     let chk : Nat := 0
     let rate := (t.octet (lane / 8)).rate
     (lane < 1024) ∧
     ((patternOk rate gen && patternOk rate chk) = true) ∧
     (t.testable lane = true) ∧
     Starts s t h (cmdLanePrbsSet lane gen chk)) ∧
    (let h := hdr
     let s := ready base h 0x030A
     let t := run base h 0x030A
     let lane : Nat := 0
     let mode : Nat := 0
     (lane < 1024) ∧
     (mode < 3) ∧
     (t.testable lane = true) ∧
     Starts s t h (cmdLaneLoopbackSet lane mode)) ∧
    (let h := hdr
     let s := ready base h 0x030B
     let t := run base h 0x030B
     let octet : Nat := 0
     let mode : Nat := 0
     (octet < 128) ∧
     (mode < 3) ∧
     ((!((t.octetPorts octet).any fun p => (t.port p).linkUp)) = true) ∧
     Starts s t h (cmdOctetOrderSet octet mode)) :=
  ⟨⟨(by decide), (by decide), (by decide), (starts base hdr _ 0x0301 rfl (by decide))⟩,
   ⟨(by decide), (starts base hdr _ 0x0302 rfl (by decide))⟩,
   ⟨(by decide), (starts base hdr _ 0x0303 rfl (by decide))⟩,
   ⟨(by decide), (by decide), (by decide), (by decide), (starts (base.modLane 0 fun x => { x with st := .up }) hdr _ 0x0304 rfl (by decide))⟩,
   ⟨0, scan 0, rfl, (by decide), (starts (scanning 0) hdr _ 0x0305 rfl (by decide))⟩,
   ⟨0, scan 0, rfl, (by decide), (starts (scanning 0) hdr _ 0x0306 rfl (by decide))⟩,
   ⟨(by decide), (by decide), (starts base hdr _ 0x0307 rfl (by decide))⟩,
   ⟨(by decide), (by decide), (starts (base.modLane 0 fun x => { x with st := .retired }) hdr _ 0x0308 rfl (by decide))⟩,
   ⟨(by decide), (by decide), (by decide), (starts base hdr _ 0x0309 rfl (by decide))⟩,
   ⟨(by decide), (by decide), (by decide), (starts base hdr _ 0x030A rfl (by decide))⟩,
   ⟨(by decide), (by decide), (by decide), (starts base hdr _ 0x030B rfl (by decide))⟩⟩

/-- A state and operands for each case of `TableCommands`. -/
theorem meets_TableCommands :
    (let h := hdr
     let s := ready base h 0x0401
     let t := run base h 0x0401
     let table : Nat := 31
     let r : TableRec := { TableRec.init with baseBank := 510 }
     (table < 32) ∧
     (tableRecOk r = true) ∧
     ((t.tableView table).isNone = true) ∧
     (t.rangeFree r = true) ∧
     let p := t.withSeeds r
     Starts s t h (cmdTableCreate table r)) ∧
    (let h := hdr
     let s := ready base h 0x0402
     let t := run base h 0x0402
     let table : Nat := 0
     (table < 32) ∧
     ((t.table table).valid = true) ∧
     ((!t.holdsEntry table && !t.tableNamed table) = true) ∧
     Starts s t h (cmdTableDelete table)) ∧
    (let h := hdr
     let s := ready base h 0x0403
     let t := run base h 0x0403
     let table : Nat := 0
     (table < 32) ∧
     ((t.table table).valid = true) ∧
     let r := (t.table table).rcd
     Starts s t h (cmdTableStatusGet table)) ∧
    (let h := hdr
     let s := ready base h 0x0404
     let t := run base h 0x0404
     let table : Nat := 0
     let seed0 : BitVec 128 := 0
     let seed1 : BitVec 128 := 0
     (table < 32) ∧
     ((t.table table).valid = true) ∧
     ((!t.holdsEntry table) = true) ∧
     Starts s t h (cmdTableSeedSet table seed0 seed1)) ∧
    (let h := hdr
     let s := ready openedV h 0x0405
     let t := run openedV h 0x0405
     let table : Nat := 0
     let key : BitVec 320 := 0
     let data : BitVec 80 := 0
     let static : Bool := false
     (table < 32) ∧
     ((t.table table).valid = true) ∧
     (((t.table table).rcd.kind == 0 && keyFits (t.table table).rcd.width key) = true) ∧
     (dataOk data = true) ∧
     ((t.table table).rcd.versioned = 1) ∧
     ∃ v, t.rules.staged = some v ∧
     (t.sealed = false) ∧
     (t.opFits = true) ∧
     Starts s t h (cmdEmEntryAdd table key data static)) ∧
    (let h := hdr
     let s := ready base h 0x0405
     let t := run base h 0x0405
     let table : Nat := 0
     let key : BitVec 320 := 0
     let data : BitVec 80 := 0
     let static : Bool := false
     (table < 32) ∧
     ((t.table table).valid = true) ∧
     (((t.table table).rcd.kind == 0 && keyFits (t.table table).rcd.width key) = true) ∧
     (dataOk data = true) ∧
     (¬ ((t.table table).rcd.versioned = 1)) ∧
     Starts s t h (cmdEmEntryAdd table key data static)) ∧
    (let h := hdr
     let s := ready openedV h 0x0406
     let t := run openedV h 0x0406
     let table : Nat := 0
     let key : BitVec 320 := 0
     (table < 32) ∧
     ((t.table table).valid = true) ∧
     (((t.table table).rcd.kind == 0 && keyFits (t.table table).rcd.width key) = true) ∧
     ((t.table table).rcd.versioned = 1) ∧
     ∃ v, t.rules.staged = some v ∧
     (t.sealed = false) ∧
     (t.opFits = true) ∧
     Starts s t h (cmdEmEntryDelete table key)) ∧
    (let h := hdr
     let s := ready base h 0x0406
     let t := run base h 0x0406
     let table : Nat := 0
     let key : BitVec 320 := 0
     (table < 32) ∧
     ((t.table table).valid = true) ∧
     (((t.table table).rcd.kind == 0 && keyFits (t.table table).rcd.width key) = true) ∧
     (¬ ((t.table table).rcd.versioned = 1)) ∧
     Starts s t h (cmdEmEntryDelete table key)) ∧
    (let h := hdr
     let s := ready base h 0x0407
     let t := run base h 0x0407
     let table : Nat := 0
     let key : Option (BitVec 320) := some 0
     let addr : BitVec 64 := ((1 <<< 60) ||| (511 <<< 32) ||| 4095)
     ∃ k, key = some k ∧
     (table < 32) ∧
     ((t.table table).valid = true) ∧
     (((t.table table).rcd.kind == 0 && keyFits (t.table table).rcd.width k) = true) ∧
     let b := t.buckets table k
     let j := t.newJob h 0x0407 table 0 0 (.key k)
     Starts s t h (cmdEmEntryRead table key addr)) ∧
    (let h := hdr
     let s := ready base h 0x0407
     let t := run base h 0x0407
     let table : Nat := 0
     let key : Option (BitVec 320) := none
     let addr : BitVec 64 := ((1 <<< 60) ||| (511 <<< 32) ||| 4095)
     key = none ∧
     (table < 32) ∧
     (emAddrOk addr = true) ∧
     ((t.table table).valid = true) ∧
     let i := fld addr 47 32 * 4096 + fld addr 31 0
     ((fld addr 63 60 = 1)) ∧
     let j := t.newJob h 0x0407 table (fld addr 47 32) 0 (.place i)
     Starts s t h (cmdEmEntryRead table key addr)) ∧
    (let h := hdr
     let s := ready base h 0x0407
     let t := run base h 0x0407
     let table : Nat := 0
     let key : Option (BitVec 320) := none
     let addr : BitVec 64 := ((2 <<< 60) ||| (255 <<< 32) ||| 63)
     key = none ∧
     (table < 32) ∧
     (emAddrOk addr = true) ∧
     ((t.table table).valid = true) ∧
     let i := fld addr 47 32 * 4096 + fld addr 31 0
     (¬ (fld addr 63 60 = 1)) ∧
     Starts s t h (cmdEmEntryRead table key addr)) ∧
    (let h := hdr
     let s := ready openedV h 0x0408
     let t := run openedV h 0x0408
     let table : Nat := 1
     let index : Nat := 8191
     let slot : BitVec 256 := 0
     let r := (t.table table).rcd
     let i := index / r.bankCount
     let bank := r.baseBank + index % r.bankCount
     let image := setFld (setFld (setFld slot 254 254 0) 213 209 0) 6 0 0
     let j := t.newJob h 0x0408 table bank (i / 4) .none
     let go := fun (w : State) => w.startJob j [(0, bank, .cmdWrite j.id (i / 4) (i % 4) image)] 7
     (table < 32) ∧
     ((t.table table).valid = true) ∧
     (index < r.bankCount * 4096) ∧
     (dataOk (slotData slot) = true) ∧
     (r.kind = 1) ∧
     (r.versioned = 1) ∧
     ∃ v, t.rules.staged = some v ∧
     (t.sealed = false) ∧
     (t.opFits = true) ∧
     Starts s t h (cmdDirectWrite table index slot)) ∧
    (let h := hdr
     let s := ready (base.putTable 1 { TableDef.init with valid := true, rcd := { TableRec.init with kind := 1, baseBank := 2, versioned := 0 } }) h 0x0408
     let t := run (base.putTable 1 { TableDef.init with valid := true, rcd := { TableRec.init with kind := 1, baseBank := 2, versioned := 0 } }) h 0x0408
     let table : Nat := 1
     let index : Nat := 0
     let slot : BitVec 256 := 0
     let r := (t.table table).rcd
     let i := index / r.bankCount
     let bank := r.baseBank + index % r.bankCount
     let image := setFld (setFld (setFld slot 254 254 0) 213 209 0) 6 0 0
     let j := t.newJob h 0x0408 table bank (i / 4) .none
     let go := fun (w : State) => w.startJob j [(0, bank, .cmdWrite j.id (i / 4) (i % 4) image)] 7
     (table < 32) ∧
     ((t.table table).valid = true) ∧
     (index < r.bankCount * 4096) ∧
     (dataOk (slotData slot) = true) ∧
     (r.kind = 1) ∧
     (r.versioned ≠ 1) ∧
     Starts s t h (cmdDirectWrite table index slot)) ∧
    (let h := hdr
     let s := ready opened h 0x0409
     let t := run opened h 0x0409
     let family : Nat := 0
     let vrf : Nat := 0
     let length : Nat := 0
     let addr : BitVec 128 := 0
     let result : BitVec 64 := 0
     ((prefixOk family vrf length addr && decide (fld result 63 61 ≤ 4)) = true) ∧
     ∃ v, t.rules.staged = some v ∧
     (t.sealed = false) ∧
     ((t.prefixFor family vrf length addr v).isNone = true) ∧
     let u := if family = 0 then 1 else 2
     ((decide (t.rules.lpmUnits + u ≤ 2097152) && t.opFits) = true) ∧
     let n := t.freePrefixSlot
     let o : ObjSlot := { valid := true, id := 0, stamp := { Stamp.init with birth := v, birthSet := true }, val := .lpmPrefix family vrf length addr (resultClean result) }
     let w := { t.putPrefixAt n o with rules.lpmUnits := t.rules.lpmUnits + u }
     Starts s t h (cmdPrefixAdd family vrf length addr result)) ∧
    (let h := hdr
     let s := ready (prefixed true) h 0x040A
     let t := run (prefixed true) h 0x040A
     let family : Nat := 0
     let vrf : Nat := 0
     let length : Nat := 0
     let addr : BitVec 128 := 0
     (prefixOk family vrf length addr = true) ∧
     ∃ v, t.rules.staged = some v ∧
     (t.sealed = false) ∧
     ∃ e, t.prefixFor family vrf length addr v = some e ∧
     (t.opFits = true) ∧
     ((e.2.addedIn v)) ∧
     Starts s t h (cmdPrefixDelete family vrf length addr)) ∧
    (let h := hdr
     let s := ready (prefixed false) h 0x040A
     let t := run (prefixed false) h 0x040A
     let family : Nat := 0
     let vrf : Nat := 0
     let length : Nat := 0
     let addr : BitVec 128 := 0
     (prefixOk family vrf length addr = true) ∧
     ∃ v, t.rules.staged = some v ∧
     (t.sealed = false) ∧
     ∃ e, t.prefixFor family vrf length addr v = some e ∧
     (t.opFits = true) ∧
     (¬ (e.2.addedIn v)) ∧
     let u := t.putPrefixAt e.1 { e.2 with stamp := { e.2.stamp with death := v, deathSet := true } }
     Starts s t h (cmdPrefixDelete family vrf length addr)) ∧
    (let h := hdr
     let s := ready base h 0x040B
     let t := run base h 0x040B
     let family : Nat := 0
     let vrf : Nat := 0
     let length : Nat := 0
     let addr : BitVec 128 := 0
     let version : Nat := 0
     ((prefixOk family vrf length addr && decide (version ≤ 65535)) = true) ∧
     let v := if version = 0 then t.rules.current else BitVec.ofNat 16 version
     let j := t.newJob h 0x040B 0 0 0 (.prefixRead family vrf length addr v)
     let path := t.lpmPath family vrf addr
     let reads := if path.isEmpty then [(0, 0, 0)] else path
     Starts s t h (cmdPrefixRead family vrf length addr version)) ∧
    (let h := hdr
     let s := ready base h 0x040C
     let t := run base h 0x040C
     let seed : BitVec 128 := 0
     ((!(t.rules.prefixes.any fun (e : Nat × ObjSlot) => e.2.valid)) = true) ∧
     Starts s t h (cmdLpmSeedSet seed)) ∧
    (let h := hdr
     let s := ready base h 0x040D
     let t := run base h 0x040D
     let prof : Nat := 31
     let r : EmProf := { lookups := [], missOp := 2, missArg := 65535 }
     ((decide (1 ≤ prof) && decide (prof ≤ 31)) = true) ∧
     ((decide (r.lookups.length ≤ 8) && r.lookups.all t.emLookupOk && decide (r.missOp ≤ 2) && (r.missOp != 1 || decide (r.missArg ≤ 255)) && decide (r.missArg ≤ 65535)) = true) ∧
     Starts s t h (cmdEmProfileSet prof r)) ∧
    (let h := hdr
     let s := ready base h 0x040E
     let t := run base h 0x040E
     let prof : Nat := 15
     let r : List LpmLookup := []
     ((decide (1 ≤ prof) && decide (prof ≤ 15)) = true) ∧
     ((decide (r.length ≤ 2) && r.all lpmLookupOk) = true) ∧
     Starts s t h (cmdLpmProfileSet prof r)) ∧
    (let h := hdr
     let s := ready base h 0x040F
     let t := run base h 0x040F
     let table : Option Nat := none
     ((table.bind fun u => if u < 32 then none else some u) = none) ∧
     table = none ∧
     Starts s t h (cmdNexthopTableSet table)) ∧
    (let h := hdr
     let s := ready openedV h 0x040F
     let t := run openedV h 0x040F
     let table : Option Nat := some 1
     ((table.bind fun u => if u < 32 then none else some u) = none) ∧
     ∃ u, table = some u ∧
     ∃ r, t.tableView u = some r ∧
     ((r.kind == 1) = true) ∧
     Starts s t h (cmdNexthopTableSet table)) ∧
    (let h := hdr
     let s := ready base h 0x0410
     let t := run base h 0x0410
     let first : Nat := 0
     let count : Nat := 0
     let clear : Bool := false
     Starts s t h (cmdCounterRead first count clear)) ∧
    (let h := hdr
     let s := ready base h 0x0411
     let t := run base h 0x0411
     let first : Nat := 0
     let count : Nat := 0
     Starts s t h (cmdCounterClear first count)) ∧
    (let h := hdr
     let s := ready base h 0x0412
     let t := run base h 0x0412
     let sel : StatsSel := { kind := 0, index := 0, sub := 0 }
     let clear : Bool := false
     Starts s t h (cmdLookupStatsGet sel clear)) ∧
    (let h := hdr
     let s := ready (base.putLock 0 Lock.init) h 0x0413
     let t := run (base.putLock 0 Lock.init) h 0x0413
     let firstBank : Nat := 511
     let bankCount : Nat := 1
     let firstBucket : Nat := 1023
     let bucketCount : Nat := 1
     let lease : Nat := 0
     ((regionRange firstBank bankCount firstBucket bucketCount) = none) ∧
     ((decide (0 < bankCount) && decide (0 < bucketCount) && leaseOk lease) = true) ∧
     ((∃ r f e, h.origin = .host r f e)) ∧
     let ring := match h.origin with | .host r _ _ => r | _ => 0
     let l : Lock := { valid := true, func := hdrFunc h, ring := ring, firstBank := firstBank, bankCount := bankCount, firstBucket := firstBucket, bucketCount := bucketCount, leaseEnd := t.clock.epoch + leaseOf lease, ending := 0 }
     ((!((List.range 16).any fun n => (t.lock n).valid && (t.lock n).overlaps l)) = true) ∧
     ∃ n, ((List.range 16).find? fun n => !(t.lock n).valid) = some n ∧
     Starts s t h (cmdLockAcquire firstBank bankCount firstBucket bucketCount lease)) ∧
    (let h := hdr
     let s := ready base h 0x0414
     let t := run base h 0x0414
     let lock : Nat := 0
     let lease : Nat := 0
     (lock < 16) ∧
     (leaseOk lease = true) ∧
     ((∃ r f e, h.origin = .host r f e)) ∧
     ((t.lock lock).valid = true) ∧
     ((t.lock lock).ending = 0) ∧
     ((t.lock lock).ownedBy h = true) ∧
     let l := t.lock lock
     let e := t.clock.epoch + leaseOf lease
     Starts s t h (cmdLockRenew lock lease)) ∧
    (let h := hdr
     let s := ready base h 0x0415
     let t := run base h 0x0415
     let lock : Nat := 0
     (lock < 16) ∧
     ((∃ r f e, h.origin = .host r f e)) ∧
     ((t.lock lock).valid = true) ∧
     ((t.lock lock).ending = 0) ∧
     ((t.lock lock).ownedBy h = true) ∧
     let l := t.lock lock
     Starts s t h (cmdLockRelease lock)) ∧
    (let h := hdr
     let s := ready base h 0x0416
     let t := run base h 0x0416
     let lock : Nat := 0
     (lock < 16) ∧
     Starts s t h (cmdLockStatusGet lock)) ∧
    (let h := hdr
     let s := ready base h 0x0417
     let t := run base h 0x0417
     let lock : Nat := 0
     let bank : Nat := 0
     let firstBucket : Nat := 0
     let count : Nat := 1
     let images : List (List (BitVec 256)) := []
     (lock < 16) ∧
     ((dmaRange bank firstBucket count) = none) ∧
     ((decide (1 ≤ count) && decide (count ≤ 1024)) = true) ∧
     ((∃ r f e, h.origin = .host r f e)) ∧
     ((t.lock lock).valid = true) ∧
     ((t.lock lock).ending = 0) ∧
     ((t.lock lock).ownedBy h = true) ∧
     let j := t.newJob h 0x0417 lock bank firstBucket .none
     Starts s t h (cmdTableDmaWrite lock bank firstBucket count images)) ∧
    (let h := hdr
     let s := ready base h 0x0418
     let t := run base h 0x0418
     let bank : Nat := 0
     let firstBucket : Nat := 0
     let count : Nat := 1
     let hostAddr : Nat := 0
     ((dmaRange bank firstBucket count) = none) ∧
     ((decide (1 ≤ count) && decide (count ≤ 1024)) = true) ∧
     let j := t.newJob h 0x0418 0 bank firstBucket .none
     Starts s t h (cmdTableDmaRead bank firstBucket count hostAddr)) ∧
    (let h := hdr
     let s := ready base h 0x0419
     let t := run base h 0x0419
     let table : Nat := 0
     let r : UpkeepRec := UpkeepRec.init
     let fields : BitVec 8 := 0
     (table < 32) ∧
     ((upkeepOk (UpkeepRec_merge UpkeepRec.init r fields)) = true) ∧
     ((t.table table).valid = true) ∧
     Starts s t h (cmdTableUpkeepSet table r fields)) ∧
    (let h := hdr
     let s := ready base h 0x041A
     let t := run base h 0x041A
     let period : Nat := 3600
     ((decide (1 ≤ period) && decide (period ≤ 3600)) = true) ∧
     let u := { t with tables := { t.tables with scrubPeriod := period } }
     Starts s t h (cmdScrubSet period)) ∧
    (let h := hdr
     let s := ready base h 0x041B
     let t := run base h 0x041B
     let sel : StatsSel := { kind := 0, index := 0, sub := 0 }
     let clear : Bool := false
     Starts s t h (cmdUpkeepStatsGet sel clear)) :=
  ⟨⟨(by decide), (by decide), (by decide), (by decide), (starts base hdr _ 0x0401 rfl (by decide))⟩,
   ⟨(by decide), (by decide), (by decide), (starts base hdr _ 0x0402 rfl (by decide))⟩,
   ⟨(by decide), (by decide), (starts base hdr _ 0x0403 rfl (by decide))⟩,
   ⟨(by decide), (by decide), (by decide), (starts base hdr _ 0x0404 rfl (by decide))⟩,
   ⟨(by decide), (by decide), (by decide), (by decide), (by decide), _, rfl, (by decide), (by decide), (starts openedV hdr _ 0x0405 rfl (by decide))⟩,
   ⟨(by decide), (by decide), (by decide), (by decide), (by decide), (starts base hdr _ 0x0405 rfl (by decide))⟩,
   ⟨(by decide), (by decide), (by decide), (by decide), _, rfl, (by decide), (by decide), (starts openedV hdr _ 0x0406 rfl (by decide))⟩,
   ⟨(by decide), (by decide), (by decide), (by decide), (starts base hdr _ 0x0406 rfl (by decide))⟩,
   ⟨_, rfl, (by decide), (by decide), (by decide), (starts base hdr _ 0x0407 rfl (by decide))⟩,
   ⟨rfl, (by decide), (by decide), (by decide), (by decide), (starts base hdr _ 0x0407 rfl (by decide))⟩,
   ⟨rfl, (by decide), (by decide), (by decide), (by decide), (starts base hdr _ 0x0407 rfl (by decide))⟩,
   ⟨(by decide), (by decide), (by decide), (by decide), (by decide), (by decide), _, rfl, (by decide), (by decide), (starts openedV hdr _ 0x0408 rfl (by decide))⟩,
   ⟨(by decide), (by decide), (by decide), (by decide), (by decide), (by decide), (starts (base.putTable 1 { TableDef.init with valid := true, rcd := { TableRec.init with kind := 1, baseBank := 2, versioned := 0 } }) hdr _ 0x0408 rfl (by decide))⟩,
   ⟨(by decide), _, rfl, (by decide), (by decide), (by decide), (starts opened hdr _ 0x0409 rfl (by decide))⟩,
   ⟨(by decide), _, rfl, (by decide), _, rfl, (by decide), (by decide), (starts (prefixed true) hdr _ 0x040A rfl (by decide))⟩,
   ⟨(by decide), _, rfl, (by decide), _, rfl, (by decide), (by decide), (starts (prefixed false) hdr _ 0x040A rfl (by decide))⟩,
   ⟨(by decide), (starts base hdr _ 0x040B rfl (by decide))⟩,
   ⟨(by decide), (starts base hdr _ 0x040C rfl (by decide))⟩,
   ⟨(by decide), (by decide), (starts base hdr _ 0x040D rfl (by decide))⟩,
   ⟨(by decide), (by decide), (starts base hdr _ 0x040E rfl (by decide))⟩,
   ⟨(by decide), rfl, (starts base hdr _ 0x040F rfl (by decide))⟩,
   ⟨(by decide), _, rfl, _, rfl, (by decide), (starts openedV hdr _ 0x040F rfl (by decide))⟩,
   (starts base hdr _ 0x0410 rfl (by decide)),
   (starts base hdr _ 0x0411 rfl (by decide)),
   (starts base hdr _ 0x0412 rfl (by decide)),
   ⟨(by decide), (by decide), ⟨_, _, _, rfl⟩, (by decide), _, rfl, (starts (base.putLock 0 Lock.init) hdr _ 0x0413 rfl (by decide))⟩,
   ⟨(by decide), (by decide), ⟨_, _, _, rfl⟩, (by decide), (by decide), (by decide), (starts base hdr _ 0x0414 rfl (by decide))⟩,
   ⟨(by decide), ⟨_, _, _, rfl⟩, (by decide), (by decide), (by decide), (starts base hdr _ 0x0415 rfl (by decide))⟩,
   ⟨(by decide), (starts base hdr _ 0x0416 rfl (by decide))⟩,
   ⟨(by decide), (by decide), (by decide), ⟨_, _, _, rfl⟩, (by decide), (by decide), (by decide), (starts base hdr _ 0x0417 rfl (by decide))⟩,
   ⟨(by decide), (by decide), (starts base hdr _ 0x0418 rfl (by decide))⟩,
   ⟨(by decide), (by decide), (by decide), (starts base hdr _ 0x0419 rfl (by decide))⟩,
   ⟨(by decide), (starts base hdr _ 0x041A rfl (by decide))⟩,
   (starts base hdr _ 0x041B rfl (by decide))⟩

/-- A state and operands for each case of `RuleCommands`. -/
theorem meets_RuleCommands :
    (let h := hdr
     let s := ready base h 0x0501
     let t := run base h 0x0501
     (t.rules.staged.isNone = true) ∧
     ((!t.discardLeft) = true) ∧
     Starts s t h cmdMaquetteOpen) ∧
    (let h := hdr
     let s := ready opened h 0x0502
     let t := run opened h 0x0502
     let target : EpochName := { epoch := 0, required := false }
     ∃ v, t.rules.staged = some v ∧
     ((!t.sealed) = true) ∧
     (t.liveVersions.length < 4) ∧
     ((!t.unsettled v) = true) ∧
     Starts s t h (cmdMaquetteCommit target)) ∧
    (let h := hdr
     let s := ready opened h 0x0503
     let t := run opened h 0x0503
     ∃ v, t.rules.staged = some v ∧
     (t.sealed = false) ∧
     Starts s t h cmdMaquetteDiscard) ∧
    (let h := hdr
     let s := ready opened h 0x0504
     let t := run opened h 0x0504
     let r : RuleRec := { dir := 0, slot := 12287, prio := 65535, rangeVal := 0, rangeMask := 0, key := 0, mask := 0, action := 0 }
     ((r.slot = 0xFFFF ∨ 1 < r.dir ∨ r.slot < kindSlots r.dir)) ∧
     (ruleOk r = true) ∧
     Starts s t h (cmdRuleAdd r)) ∧
    (let h := hdr
     let s := ready opened h 0x0505
     let t := run opened h 0x0505
     let kind : Nat := 0
     let index : Nat := 0
     ((decide (8 < kind) || (if kind < 3 then decide (index < kindSlots kind) else decide ((kindIds kind).1 ≤ index) && decide (index < (kindIds kind).1 + (kindIds kind).2))) = true) ∧
     (kind ≤ 8) ∧
     Starts s t h (cmdObjectDelete kind index)) ∧
    (let h := hdr
     let s := ready (base.putObjAt (objKey 0 0) { valid := true, id := 0, stamp := Stamp.init, val := .bind 0 }) h 0x0506
     let t := run (base.putObjAt (objKey 0 0) { valid := true, id := 0, stamp := Stamp.init, val := .bind 0 }) h 0x0506
     let kind : Nat := 0
     let slot : Nat := 0
     ((decide (8 < kind) || decide (slot < kindSlots kind)) = true) ∧
     (kind ≤ 8) ∧
     let o := t.objAt (objKey kind slot)
     (o.valid = true) ∧
     t.rulePoison kind slot = none ∧
     Starts s t h (cmdRuleRead kind slot)) ∧
    (let h := hdr
     let s := ready base h 0x0507
     let t := run base h 0x0507
     let cmp : Nat := 0
     let extract : BitVec 32 := 0
     let low : Nat := 0
     let high : Nat := 0
     (cmp < 256) ∧
     ((extractOk extract && decide (low ≤ high) && decide (high ≤ 65535)) = true) ∧
     ((!t.rangeInUse cmp) = true) ∧
     Starts s t h (cmdRangeSet cmp extract low high)) ∧
    (let h := hdr
     let s := ready opened h 0x0508
     let t := run opened h 0x0508
     511 < 512 ∧ parseOk (2 <<< 48) = true ∧
     ∃ (u : State) (res : BitVec 64) (pl : List Nat),
       t.putBySlot kindParse 511 (fun _ => .parse (setFld (2 <<< 48 : BitVec 128) 0 0 0)) = .done u stOk 0 res pl ∧
       Starts s t h (cmdParseEntrySet 511 (2 <<< 48))) ∧
    (let h := hdr
     let s := ready opened h 0x0509
     let t := run opened h 0x0509
     let dir : Nat := 1
     let id : Nat := 31
     let extracts : List (BitVec 32) := List.replicate 20 0
     let rangeGroup : Nat := 0
     ((decide (1 ≤ id) && decide (id ≤ 31)) = true) ∧
     ((decide (dir ≤ 1) && decide (extracts.length = 20) && extracts.all extractOk && decide (rangeGroup ≤ 3)) = true) ∧
     Starts s t h (cmdKeyProfileSet dir id extracts rangeGroup)) ∧
    (let h := hdr
     let s := ready base h 0x050A
     let t := run base h 0x050A
     let id : Nat := 0
     let ops : List EditOp := []
     (id < 256) ∧
     ((decide (ops.length ≤ 8) && ops.all editOpOk && decide ((ops.map EditOp_adds).sum ≤ 128)) = true) ∧
     Starts s t h (cmdEditProfileSet id ops)) ∧
    (let h := hdr
     let s := ready base h 0x050B
     let t := run base h 0x050B
     let id : Nat := 0
     let bytes : List Byte := []
     (id < 64) ∧
     (bytes.length ≤ 64) ∧
     Starts s t h (cmdTemplateSet id bytes)) ∧
    (let h := hdr
     let s := ready base h 0x050C
     let t := run base h 0x050C
     let session : Nat := 0
     let toCpu : Bool := false
     let dest : Nat := 0
     let trunc : Nat := 0
     (session < 16) ∧
     (dest < (if toCpu then 256 else 1024)) ∧
     ((decide (trunc = 0) || (decide (64 ≤ trunc) && decide (trunc ≤ 10240))) = true) ∧
     Starts s t h (cmdMirrorSessionSet session toCpu dest trunc)) ∧
    (let h := hdr
     let s := ready base h 0x050D
     let t := run base h 0x050D
     let port : Nat := 0
     let profile : Nat := 0
     (port < 1024) ∧
     (profile ≤ 31) ∧
     Starts s t h (cmdEgressBind port profile)) ∧
    (let h := hdr
     let s := ready base h 0x050E
     let t := run base h 0x050E
     Starts s t h cmdVersionStatusGet) ∧
    (let h := hdr
     let s := ready base h 0x050F
     let t := run base h 0x050F
     let pipe : Nat := 0
     let clear : Bool := false
     (pipe < 128) ∧
     let cs : List (Ctr × Nat) := (if pipe < 64 then ([1, 2, 3, 4].map fun c => (Ctr.parseErr, pipe * 8 + c)) ++ [(.runaheadReplay, pipe), (.clsNoMatch, pipe), (.clsDrop, pipe), (.clsBadDest, pipe), (.cloisterPass, pipe), (.cloisterSecondDrop, pipe), (.cloisterPoolDrop, pipe), (.mirrorStaleDest, pipe), (.specTagsAllocated, pipe), (.specConfirm, pipe), (.specRollbackMac, pipe), (.specRollbackIcv, pipe), (.specTagExhausted, pipe), (.runaheadHold, pipe)] else [(.egrClsDrop, pipe - 64), (.editTtlDrop, pipe - 64), (.egrMirrorCopies, pipe - 64), (.egrTrapCopies, pipe - 64), (.mirrorStaleDest, pipe)])
     Starts s t h (cmdParseStatsGet pipe clear)) :=
  ⟨⟨(by decide), (by decide), (starts base hdr _ 0x0501 rfl (by decide))⟩,
   ⟨_, rfl, (by decide), (by decide), (by decide), (starts opened hdr _ 0x0502 rfl (by decide))⟩,
   ⟨_, rfl, (by decide), (starts opened hdr _ 0x0503 rfl (by decide))⟩,
   ⟨(by decide), (by decide), (starts opened hdr _ 0x0504 rfl (by decide))⟩,
   ⟨(by decide), (by decide), (starts opened hdr _ 0x0505 rfl (by decide))⟩,
   ⟨(by decide), (by decide), (by decide), rfl, (starts (base.putObjAt (objKey 0 0) { valid := true, id := 0, stamp := Stamp.init, val := .bind 0 }) hdr _ 0x0506 rfl (by decide))⟩,
   ⟨(by decide), (by decide), (by decide), (starts base hdr _ 0x0507 rfl (by decide))⟩,
   ⟨by decide, by decide, _, _, _, rfl, starts opened hdr _ 0x0508 rfl (by decide)⟩,
   ⟨(by decide), (by decide), (starts opened hdr _ 0x0509 rfl (by decide))⟩,
   ⟨(by decide), (by decide), (starts base hdr _ 0x050A rfl (by decide))⟩,
   ⟨(by decide), (by decide), (starts base hdr _ 0x050B rfl (by decide))⟩,
   ⟨(by decide), (by decide), (by decide), (starts base hdr _ 0x050C rfl (by decide))⟩,
   ⟨(by decide), (by decide), (starts base hdr _ 0x050D rfl (by decide))⟩,
   (starts base hdr _ 0x050E rfl (by decide)),
   ⟨(by decide), (starts base hdr _ 0x050F rfl (by decide))⟩⟩

/-- A state and operands for each case of `EgressAndBufferCommands`. -/
theorem meets_EgressAndBufferCommands :
    (let h := hdr
     let s := ready base h 0x0601
     let t := run base h 0x0601
     let octet : Nat := 0
     let q16 : Bool := false
     (octet < 128) ∧
     ((!(t.octetPorts octet).any (fun p => (t.port p).enabled) && !t.enableDue octet) = true) ∧
     ((!(q16 && (hasOddStart (t.octet octet).mask || t.oddDue octet))) = true) ∧
     Starts s t h (cmdQueueModeSet octet q16)) ∧
    (let h := hdr
     let s := ready base h 0x0602
     let t := run base h 0x0602
     let queue : Nat := 0
     let record : BitVec 64 := 0
     let fields : BitVec 64 := 0
     (queue < 9472) ∧
     let v := merge (t.schedDue queue) record (fields &&& schedMask)
     (schedOk queue v = true) ∧
     (t.queueExists queue = true) ∧
     ((match t.queuePort queue with | some p => !bit v 57 || t.oneDomainQueue p queue (fld v 36 34) | none => true) = true) ∧
     Starts s t h (cmdQueueSchedSet queue record fields)) ∧
    (let h := hdr
     let s := ready base h 0x0603
     let t := run base h 0x0603
     let queue : Nat := 0
     (queue < 9472) ∧
     (t.queueExists queue = true) ∧
     Starts s t h (cmdQueueSchedGet queue)) ∧
    (let h := hdr
     let s := ready base h 0x0604
     let t := run base h 0x0604
     let isPort : Bool := true
     let index : Nat := 0
     let record : BitVec 64 := ((1600000 <<< 43) ||| (16777216 <<< 18))
     (index < (if isPort then 1024 else 9472)) ∧
     (shaperOk record = true) ∧
     ((if isPort then index < 1024 ∧ t.isPort index = true else index < 9472 ∧ t.queueExists index = true)) ∧
     Starts s t h (cmdShaperSet isPort index record)) ∧
    (let h := hdr
     let s := ready base h 0x0605
     let t := run base h 0x0605
     let isPort : Bool := false
     let index : Nat := 0
     let x := if isPort then (t.eport index).shaper else (t.equeue index).shaper
     ((if isPort then index < 1024 ∧ t.isPort index = true else index < 9472 ∧ t.queueExists index = true)) ∧
     Starts s t h (cmdShaperGet isPort index)) ∧
    (let h := hdr
     let s := ready base h 0x0606
     let t := run base h 0x0606
     let port : Nat := 0
     let record : BitVec 64 := 0
     let fields : BitVec 64 := 0
     (port < 1024) ∧
     ((egressOk (t.egressAfter port record fields)) = true) ∧
     (port < 1024) ∧
     (t.isPort port = true) ∧
     Starts s t h (cmdPortSchedSet port record fields)) ∧
    (let h := hdr
     let s := ready base h 0x0607
     let t := run base h 0x0607
     let port : Nat := 0
     let map : BitVec 32 := 0
     (port < 1024) ∧
     (((List.range 8).all fun u => decide (fld map (4 * u + 3) (4 * u) < t.qp port)) = true) ∧
     (port < 1024) ∧
     (t.isPort port = true) ∧
     Starts s t h (cmdTcMapSet port map)) ∧
    (let h := hdr
     let s := ready base h 0x0608
     let t := run base h 0x0608
     let port : Nat := 0
     (port < 1024) ∧
     (t.isPort port = true) ∧
     Starts s t h (cmdPortSchedGet port)) ∧
    (let h := hdr
     let s := ready base h 0x060A
     let t := run base h 0x060A
     let port : Nat := 0
     (port < 1024) ∧
     (t.isPort port = true) ∧
     Starts s t h (cmdGateListClear port)) ∧
    (let h := hdr
     let s := ready base h 0x060B
     let t := run base h 0x060B
     let port : Nat := 0
     let e := t.eport port
     (port < 1024) ∧
     (t.isPort port = true) ∧
     Starts s t h (cmdGateStatusGet port)) ∧
    (let h := hdr
     let s := ready base h 0x060C
     let t := run base h 0x060C
     let isPort : Bool := true
     let index : Nat := 0
     let clear : Bool := false
     ((if isPort then index < 1024 ∧ t.isPort index = true else index < 9472 ∧ t.queueExists index = true)) ∧
     ((isPort)) ∧
     let cs : List (Ctr × Nat) := [(.gateSlip, index), (.gateHeld, index), (.guardReturns, index), (.gateTakeovers, index)]
     Starts s t h (cmdEgressStatsGet isPort index clear)) ∧
    (let h := hdr
     let s := ready base h 0x060C
     let t := run base h 0x060C
     let isPort : Bool := false
     let index : Nat := 0
     let clear : Bool := false
     ((if isPort then index < 1024 ∧ t.isPort index = true else index < 9472 ∧ t.queueExists index = true)) ∧
     (¬ (isPort)) ∧
     let cs : List (Ctr × Nat) := [(.queueFlushDrop, index), (.egressDownDrop, index), (.gateNoFitDrop, index), (.launchLateDrop, index) , (.launchLateSent, index), (.launchNoTime, index), (.pfcWdTrips, index), (.pfcWdDrain, index), (.handOvers, index)]
     Starts s t h (cmdEgressStatsGet isPort index clear)) ∧
    (let h := hdr
     let s := ready base h 0x0640
     let t := run base h 0x0640
     let sizes : List (Option Nat) := []
     let pushout : List (Option Bool) := []
     (t.poolsOk sizes = true) ∧
     Starts s t h (cmdBufferPoolSet sizes pushout)) ∧
    (let h := hdr
     let s := ready base h 0x0641
     let t := run base h 0x0641
     Starts s t h cmdBufferPoolGet) ∧
    (let h := hdr
     let s := ready base h 0x0642
     let t := run base h 0x0642
     let queue : Nat := 0
     let record : BitVec 64 := 0
     let fields : BitVec 64 := 0
     (queue < 9472) ∧
     ((admitOk (t.admitAfter queue record fields)) = true) ∧
     (t.queueExists queue = true) ∧
     ((t.minOk queue (t.admitAfter queue record fields)) = true) ∧
     Starts s t h (cmdQueueAdmitSet queue record fields)) ∧
    (let h := hdr
     let s := ready base h 0x0643
     let t := run base h 0x0643
     let queue : Nat := 0
     (queue < 9472) ∧
     (t.queueExists queue = true) ∧
     Starts s t h (cmdQueueAdmitGet queue)) ∧
    (let h := hdr
     let s := ready base h 0x0644
     let t := run base h 0x0644
     let port : Nat := 0
     let prio : Nat := 0
     let xoff : Option Nat := none
     let xon : Option Nat := none
     let headroom : Option Nat := none
     (port < 1024) ∧
     (prio < 8) ∧
     ((pgOk (t.pgAfter port prio xoff xon headroom)) = true) ∧
     (t.isPort port = true) ∧
     Starts s t h (cmdPgSet port prio xoff xon headroom)) ∧
    (let h := hdr
     let s := ready base h 0x0645
     let t := run base h 0x0645
     let sel : StatsSel := { kind := 0, index := 0, sub := 0 }
     let clear : Bool := false
     Starts s t h (cmdBufferStatsGet sel clear)) ∧
    (let h := hdr
     let s := ready base h 0x0646
     let t := run base h 0x0646
     let first : Nat := 786431
     let count : Nat := 1
     (first < 786432) ∧
     (first + count ≤ 786432) ∧
     ((decide (1 ≤ count) && decide (count ≤ 256)) = true) ∧
     (((List.range count).map (first + ·)).find? fun n => (t.cellAt n).quarantined) = none ∧
     Starts s t h (cmdBufferCellRead first count)) ∧
    (let h := hdr
     let s := ready base h 0x0660
     let t := run base h 0x0660
     let e : Element := .partition 15
     let drainLimit : Nat := 65535
     ((elemRange e) = none) ∧
     ((drainLimit == 0 || (decide (16 ≤ drainLimit) && decide (drainLimit ≤ 65535))) = true) ∧
     ((t.mayRetire e && !t.reactedNow (.trellis e)) = true) ∧
     Starts s t h (cmdTrellisRetire e drainLimit)) ∧
    (let h := hdr
     let s := ready (base.putChan (15 * 32 + 16 + 15) .retired) h 0x0661
     let t := run (base.putChan (15 * 32 + 16 + 15) .retired) h 0x0661
     let e : Element := .channel 15 1 15
     Starts s t h (cmdTrellisRestore e)) ∧
    (let h := hdr
     let s := ready base h 0x0662
     let t := run base h 0x0662
     let e : Element := .partition 15
     ((elemRange e) = none) ∧
     Starts s t h (cmdTrellisStatusGet e)) ∧
    (let h := hdr
     let s := ready base h 0x0663
     let t := run base h 0x0663
     let group : Nat := 0
     let self : Bool := false
     let members : List Nat := []
     (group < 65536) ∧
     ((members.find? fun p => decide (1024 ≤ p)) = none) ∧
     (members.length ≤ 1024) ∧
     ((members.all t.isPort) = true) ∧
     (t.listsUsed + (listsOf members).length ≤ 131072) ∧
     Starts s t h (cmdMcastGroupSet group self members)) ∧
    (let h := hdr
     let s := ready (base.putMgroup 0 (some { self := false, lists := [(0, 1)] })) h 0x0664
     let t := run (base.putMgroup 0 (some { self := false, lists := [(0, 1)] })) h 0x0664
     let group : Nat := 0
     (group < 65536) ∧
     ∃ g, t.mgroup group = some g ∧
     Starts s t h (cmdMcastGroupGet group)) ∧
    (let h := hdr
     let s := ready (base.putMgroup 0 (some { self := false, lists := [(0, 1)] })) h 0x0665
     let t := run (base.putMgroup 0 (some { self := false, lists := [(0, 1)] })) h 0x0665
     let group : Nat := 0
     (group < 65536) ∧
     ((t.mgroup group).isSome = true) ∧
     Starts s t h (cmdMcastGroupDelete group)) ∧
    (let h := hdr
     let s := ready base h 0x0666
     let t := run base h 0x0666
     let port : Nat := 0
     let en : Option Bool := none
     let start : Option Nat := none
     (port < 1024) ∧
     ((match start with | some n => decide (1 ≤ n) && decide (n ≤ 8) | none => true) = true) ∧
     (t.isPort port = true) ∧
     Starts s t h (cmdCutThroughSet port en start)) ∧
    (let h := hdr
     let s := ready base h 0x0667
     let t := run base h 0x0667
     let sel : StatsSel := { kind := 0, index := 0, sub := 0 }
     let clear : Bool := false
     Starts s t h (cmdTrellisStatsGet sel clear)) :=
  ⟨⟨(by decide), (by decide), (by decide), (starts base hdr _ 0x0601 rfl (by decide))⟩,
   ⟨(by decide), (by decide), (by decide), (by decide), (starts base hdr _ 0x0602 rfl (by decide))⟩,
   ⟨(by decide), (by decide), (starts base hdr _ 0x0603 rfl (by decide))⟩,
   ⟨(by decide), (by decide), (by decide), (starts base hdr _ 0x0604 rfl (by decide))⟩,
   ⟨(by decide), (starts base hdr _ 0x0605 rfl (by decide))⟩,
   ⟨(by decide), (by decide), (by decide), (by decide), (starts base hdr _ 0x0606 rfl (by decide))⟩,
   ⟨(by decide), (by decide), (by decide), (by decide), (starts base hdr _ 0x0607 rfl (by decide))⟩,
   ⟨(by decide), (by decide), (starts base hdr _ 0x0608 rfl (by decide))⟩,
   ⟨(by decide), (by decide), (starts base hdr _ 0x060A rfl (by decide))⟩,
   ⟨(by decide), (by decide), (starts base hdr _ 0x060B rfl (by decide))⟩,
   ⟨(by decide), (by decide), (starts base hdr _ 0x060C rfl (by decide))⟩,
   ⟨(by decide), (by decide), (starts base hdr _ 0x060C rfl (by decide))⟩,
   ⟨(by decide), (starts base hdr _ 0x0640 rfl (by decide))⟩,
   (starts base hdr _ 0x0641 rfl (by decide)),
   ⟨(by decide), (by decide), (by decide), (by decide), (starts base hdr _ 0x0642 rfl (by decide))⟩,
   ⟨(by decide), (by decide), (starts base hdr _ 0x0643 rfl (by decide))⟩,
   ⟨(by decide), (by decide), (by decide), (by decide), (starts base hdr _ 0x0644 rfl (by decide))⟩,
   (starts base hdr _ 0x0645 rfl (by decide)),
   ⟨(by decide), (by decide), (by decide), rfl, (starts base hdr _ 0x0646 rfl (by decide))⟩,
   ⟨(by decide), (by decide), (by decide), (starts base hdr _ 0x0660 rfl (by decide))⟩,
   (starts (base.putChan (15 * 32 + 16 + 15) .retired) hdr _ 0x0661 rfl (by decide)),
   ⟨(by decide), (starts base hdr _ 0x0662 rfl (by decide))⟩,
   ⟨(by decide), (by decide), (by decide), (by decide), (by decide), (starts base hdr _ 0x0663 rfl (by decide))⟩,
   ⟨(by decide), _, rfl, (starts (base.putMgroup 0 (some { self := false, lists := [(0, 1)] })) hdr _ 0x0664 rfl (by decide))⟩,
   ⟨(by decide), (by decide), (starts (base.putMgroup 0 (some { self := false, lists := [(0, 1)] })) hdr _ 0x0665 rfl (by decide))⟩,
   ⟨(by decide), (by decide), (by decide), (starts base hdr _ 0x0666 rfl (by decide))⟩,
   (starts base hdr _ 0x0667 rfl (by decide))⟩

/-- A state and operands for each case of `TimeCommands`. -/
theorem meets_TimeCommands :
    (let h := hdr
     let s := ready base h 0x0701
     let t := run base h 0x0701
     let domain : Nat := 0
     let adj : Option Int := none
     let hostWd : Option Nat := none
     let holdMax : Option Nat := none
     let d := t.domain domain
     (domain < 8) ∧
     (((match adj with | some a => adjOk a | none => true) && decide (hostWd.getD 0 ≤ 255) && decide (1 ≤ holdMax.getD 1) && decide (holdMax.getD 1 ≤ 65535)) = true) ∧
     ((!(d.st == .twin && adj.isSome)) = true) ∧
     let e := match adj with | some a => d.setAdj t.now a | none => d
     Starts s t h (cmdTimeDomainSet domain adj hostWd holdMax)) ∧
    (let h := hdr
     let s := ready base h 0x0702
     let t := run base h 0x0702
     let domain : Nat := 0
     (domain < 8) ∧
     Starts s t h (cmdTimeGet domain)) ∧
    (let h := hdr
     let s := ready base h 0x0703
     let t := run base h 0x0703
     let domain : Nat := 0
     let sec : Nat := 0
     let ns : Nat := 0
     let frac : Nat := 0
     let atPps : Option Nat := some 3
     let v := fracOf sec ns frac * unitFrac
     (domain < 8) ∧
     ((∀ p, atPps = some p → p < 4)) ∧
     ((decide (sec < 2 ^ 48) && decide (ns < 10 ^ 9) && decide (frac < 65536)) = true) ∧
     (((t.domain domain).st != TdState.twin) = true) ∧
     ∃ p, atPps = some p ∧
     Starts s t h (cmdTimeSet domain sec ns frac atPps)) ∧
    (let h := hdr
     let s := ready base h 0x0703
     let t := run base h 0x0703
     let domain : Nat := 0
     let sec : Nat := 0
     let ns : Nat := 0
     let frac : Nat := 0
     let atPps : Option Nat := none
     let v := fracOf sec ns frac * unitFrac
     (domain < 8) ∧
     ((∀ p, atPps = some p → p < 4)) ∧
     ((decide (sec < 2 ^ 48) && decide (ns < 10 ^ 9) && decide (frac < 65536)) = true) ∧
     (((t.domain domain).st != TdState.twin) = true) ∧
     atPps = none ∧
     Starts s t h (cmdTimeSet domain sec ns frac atPps)) ∧
    (let h := hdr
     let s := ready base h 0x0704
     let t := run base h 0x0704
     let domain : Nat := 0
     let backward : Bool := false
     let sec : Nat := 0
     let ns : Nat := 0
     let frac : Nat := 0
     let m := fracOf sec ns frac
     let off : Int := (m * unitFrac : Nat)
     (domain < 8) ∧
     ((decide (ns < 10 ^ 9) && decide (frac < 65536) && decide (m ≤ fracOf (2 ^ 47) 0 0)) = true) ∧
     (((t.domain domain).st != .twin) = true) ∧
     Starts s t h (cmdTimeStep domain backward sec ns frac)) ∧
    (let h := hdr
     let s := ready base h 0x0705
     let t := run base h 0x0705
     let domain : Nat := 0
     let adj : Int := 0
     let st := (t.domain domain).st
     (domain < 8) ∧
     (adjOk adj = true) ∧
     ((st != .twin) = true) ∧
     let u := if st = .holdover then t.recover domain else t
     Starts s t h (cmdTimeAdjust domain adj)) ∧
    (let h := hdr
     let s := ready (base.putDomain 0 { Domain.init with st := .tracking }) h 0x0706
     let t := run (base.putDomain 0 { Domain.init with st := .tracking }) h 0x0706
     let domain : Nat := 0
     let enter : Bool := true
     (domain < 8) ∧
     (t.domain domain).st = .tracking ∧
     ((enter)) ∧
     Starts s t h (cmdTimeHoldover domain enter)) ∧
    (let h := hdr
     let s := ready (base.putDomain 0 { Domain.init with st := .tracking }) h 0x0706
     let t := run (base.putDomain 0 { Domain.init with st := .tracking }) h 0x0706
     let domain : Nat := 0
     let enter : Bool := false
     (domain < 8) ∧
     (t.domain domain).st = .tracking ∧
     (¬ (enter)) ∧
     Starts s t h (cmdTimeHoldover domain enter)) ∧
    (let h := hdr
     let s := ready (base.putDomain 0 { Domain.init with st := .holdover }) h 0x0706
     let t := run (base.putDomain 0 { Domain.init with st := .holdover }) h 0x0706
     let domain : Nat := 0
     let enter : Bool := true
     (domain < 8) ∧
     (t.domain domain).st = .holdover ∧
     ((enter)) ∧
     Starts s t h (cmdTimeHoldover domain enter)) ∧
    (let h := hdr
     let s := ready (base.putDomain 0 { Domain.init with st := .holdover }) h 0x0706
     let t := run (base.putDomain 0 { Domain.init with st := .holdover }) h 0x0706
     let domain : Nat := 0
     let enter : Bool := false
     (domain < 8) ∧
     (t.domain domain).st = .holdover ∧
     (¬ (enter)) ∧
     Starts s t h (cmdTimeHoldover domain enter)) ∧
    (let h := hdr
     let s := ready base h 0x0707
     let t := run base h 0x0707
     let domain : Nat := 0
     let d := t.domain domain
     (domain < 8) ∧
     Starts s t h (cmdTimeStatusGet domain)) ∧
    (let h := hdr
     let s := ready base h 0x0708
     let t := run base h 0x0708
     let port : Nat := 0
     let record : BitVec 64 := 0
     let fields : BitVec 64 := 0
     (port < 1024) ∧
     (t.isPort port = true) ∧
     Starts s t h (cmdTimePortSet port record fields)) ∧
    (let h := hdr
     let s := ready base h 0x0709
     let t := run base h 0x0709
     let port : Nat := 0
     (port < 1024) ∧
     (t.isPort port = true) ∧
     Starts s t h (cmdTimePortGet port)) ∧
    (let h := hdr
     let s := ready base h 0x070A
     let t := run base h 0x070A
     let pin : Nat := 3
     let dir : Nat := 2
     let domain : Nat := 7
     let activeLow : Bool := false
     let offsetNs : Nat := 999999999
     let widthNs : Nat := 999999999
     (pin < 4) ∧
     (domain < 8) ∧
     ((decide (dir < 3) && decide (offsetNs < 10 ^ 9) && decide (8 ≤ widthNs) && decide (widthNs < 10 ^ 9)) = true) ∧
     let u := t.modPps pin fun p =>
       { p with dir := dir, domain := domain, activeLow := activeLow, offsetNs := offsetNs, widthNs := widthNs, asserted := false, lastEdge := if p.dir = 2 ∧ dir = 2 then p.lastEdge else none, lost := false }
     let p := t.pps pin
     Starts s t h (cmdPpsSet pin dir domain activeLow offsetNs widthNs)) ∧
    (let h := hdr
     let s := ready base h 0x070B
     let t := run base h 0x070B
     let pin : Nat := 0
     let count : Nat := 0
     let q := (t.pps pin).queue
     (pin < 4) ∧
     (count ≤ 16) ∧
     Starts s t h (cmdPpsRead pin count)) ∧
    (let h := hdr
     let s := ready base h 0x070C
     let t := run base h 0x070C
     let isPort : Bool := true
     let index : Nat := 0
     let clear : Bool := false
     ((isPort)) ∧
     (index < 1024) ∧
     (t.isPort index = true) ∧
     let cs : List (Ctr × Nat) := [(.ptpCorrectSkipped, index)]
     Starts s t h (cmdTimeStatsGet isPort index clear)) ∧
    (let h := hdr
     let s := ready base h 0x070C
     let t := run base h 0x070C
     let isPort : Bool := false
     let index : Nat := 0
     let clear : Bool := false
     (¬ (isPort)) ∧
     (index < 4) ∧
     let cs : List (Ctr × Nat) := [(.ppsInRejected, index), (.ppsInOverflow, index)]
     Starts s t h (cmdTimeStatsGet isPort index clear)) :=
  ⟨⟨(by decide), (by decide), (by decide), (starts base hdr _ 0x0701 rfl (by decide))⟩,
   ⟨(by decide), (starts base hdr _ 0x0702 rfl (by decide))⟩,
   ⟨(by decide), (by intro _ hp; first | (cases hp; done) | (cases hp; decide)), (by decide), (by decide), _, rfl, (starts base hdr _ 0x0703 rfl (by decide))⟩,
   ⟨(by decide), (by intro _ hp; first | (cases hp; done) | (cases hp; decide)), (by decide), (by decide), rfl, (starts base hdr _ 0x0703 rfl (by decide))⟩,
   ⟨(by decide), (by decide), (by decide), (starts base hdr _ 0x0704 rfl (by decide))⟩,
   ⟨(by decide), (by decide), (by decide), (starts base hdr _ 0x0705 rfl (by decide))⟩,
   ⟨(by decide), rfl, (by decide), (starts (base.putDomain 0 { Domain.init with st := .tracking }) hdr _ 0x0706 rfl (by decide))⟩,
   ⟨(by decide), rfl, (by decide), (starts (base.putDomain 0 { Domain.init with st := .tracking }) hdr _ 0x0706 rfl (by decide))⟩,
   ⟨(by decide), rfl, (by decide), (starts (base.putDomain 0 { Domain.init with st := .holdover }) hdr _ 0x0706 rfl (by decide))⟩,
   ⟨(by decide), rfl, (by decide), (starts (base.putDomain 0 { Domain.init with st := .holdover }) hdr _ 0x0706 rfl (by decide))⟩,
   ⟨(by decide), (starts base hdr _ 0x0707 rfl (by decide))⟩,
   ⟨(by decide), (by decide), (starts base hdr _ 0x0708 rfl (by decide))⟩,
   ⟨(by decide), (by decide), (starts base hdr _ 0x0709 rfl (by decide))⟩,
   ⟨(by decide), (by decide), (by decide), (starts base hdr _ 0x070A rfl (by decide))⟩,
   ⟨(by decide), (by decide), (starts base hdr _ 0x070B rfl (by decide))⟩,
   ⟨(by decide), (by decide), (by decide), (starts base hdr _ 0x070C rfl (by decide))⟩,
   ⟨(by decide), (by decide), (starts base hdr _ 0x070C rfl (by decide))⟩⟩

/-- A state and operands for each case of `CipherCommands`. Whether the blob of LA_CONTEXT_IMPORT unwraps is an open value of `Config`. -/
theorem meets_CipherCommands :
    (let h := hdr
     let s := ready base h 0x0801
     let t := run base h 0x0801
     let port : Nat := 0
     let record : BitVec 64 := 0
     let fields : BitVec 64 := 0
     let r := merge (t.cipherPort port) record (fields &&& cipherWritable)
     (port < 1024) ∧
     (fld r 61 60 < 2) ∧
     (t.isPort port = true) ∧
     ((bit r 62 == bit (t.cipherPort port) 62 || !t.portHoldsSa port) = true) ∧
     Starts s t h (cmdCipherPortSet port record fields)) ∧
    (let h := hdr
     let s := ready base h 0x0802
     let t := run base h 0x0802
     let port : Nat := 0
     (port < 1024) ∧
     (t.isPort port = true) ∧
     Starts s t h (cmdCipherPortGet port)) ∧
    (let h := hdr
     let s := ready base h 0x0803
     let t := run base h 0x0803
     let port : Nat := 0
     let dir : Nat := 0
     let sci : BitVec 64 := 0
     let replayProtect : Bool := false
     let replayWindow : Option Nat := none
     let pnThreshold : Option Nat := none
     (port < 1024) ∧
     ((decide (dir < 2) && scValuesOk (t.xpn port) replayWindow pnThreshold) = true) ∧
     (t.isPort port = true) ∧
     ∃ n, t.freeSc dir (port / 8) = some n ∧
     Starts s t h (cmdScCreate port dir sci replayProtect replayWindow pnThreshold)) ∧
    (let h := hdr
     let s := ready base h 0x0804
     let t := run base h 0x0804
     let sc : Nat := 0
     let dir : Nat := 0
     let replayProtect : Option Bool := none
     let replayWindow : Option Nat := none
     let pnThreshold : Option Nat := none
     (sc < (if dir = 1 then 2048 else 4096)) ∧
     (dir < 2) ∧
     ((scValuesOk (t.xpn (t.sc dir sc).port) replayWindow pnThreshold) = true) ∧
     ((t.sc dir sc).valid = true) ∧
     Starts s t h (cmdScSet sc dir replayProtect replayWindow pnThreshold)) ∧
    (let h := hdr
     let s := ready base h 0x0805
     let t := run base h 0x0805
     let sc : Nat := 0
     let dir : Nat := 0
     (sc < (if dir = 1 then 2048 else 4096)) ∧
     (dir < 2) ∧
     ((t.sc dir sc).valid = true) ∧
     ((!t.scHolds dir sc) = true) ∧
     Starts s t h (cmdScDelete sc dir)) ∧
    (let h := hdr
     let s := ready base h 0x0806
     let t := run base h 0x0806
     let p : SaParams := { sc := 0, dir := 1, an := 3, wrapped := false, kek := 0, key := 0, salt := 0, ssci := 0, pn := 2 ^ 32 - 1 }
     let wrap := if p.wrapped then some p.kek else none
     let xpn := t.xpn (t.sc p.dir p.sc).port
     (p.sc < (if p.dir = 1 then 2048 else 4096)) ∧
     ((!p.wrapped || hostCtx p.kek) = true) ∧
     ((decide (p.dir < 2) && decide (p.an < 4) && decide (1 ≤ p.pn) && decide (p.pn ≤ maxPn xpn)) = true) ∧
     ((!p.wrapped || !t.laLive || (t.keyOf wrap p.key).isSome) = true) ∧
     ((t.sc p.dir p.sc).valid = true) ∧
     ((!t.anTaken p.dir p.sc p.an) = true) ∧
     ((!(t.cengine (scEngine p.dir p.sc)).erased && (!p.wrapped || t.laLive)) = true) ∧
     Starts s t h (cmdSaInstall p)) ∧
    (let h := hdr
     let s := ready (base.putRxSa 3 { Sa.init with present := true }) h 0x0807
     let t := run (base.putRxSa 3 { Sa.init with present := true }) h 0x0807
     let sc : Nat := 0
     let dir : Nat := 0
     let an : Nat := 3
     (sc < (if dir = 1 then 2048 else 4096)) ∧
     (dir < 2) ∧
     (an < 4) ∧
     ((t.sa dir (sc * 4 + an)).present = true) ∧
     ((!t.encodes dir sc an) = true) ∧
     Starts s t h (cmdSaDelete sc dir an)) ∧
    (let h := hdr
     let s := ready (base.putTxSa 3 { Sa.init with present := true }) h 0x0808
     let t := run (base.putTxSa 3 { Sa.init with present := true }) h 0x0808
     let sc : Nat := 0
     let an : Nat := 3
     (sc < (if 1 = 1 then 2048 else 4096)) ∧
     (1 < 2) ∧
     (an < 4) ∧
     (((t.txSc sc).valid && (t.txSa (sc * 4 + an)).present) = true) ∧
     Starts s t h (cmdTxSaSelect sc an)) ∧
    (let h := hdr
     let s := ready base h 0x0809
     let t := run base h 0x0809
     let sc : Nat := 0
     let dir : Nat := 0
     let an : Nat := 0
     let x := t.sa dir (sc * 4 + an)
     (sc < (if dir = 1 then 2048 else 4096)) ∧
     (dir < 2) ∧
     (an < 4) ∧
     ((t.sc dir sc).valid = true) ∧
     Starts s t h (cmdSaStatusGet sc dir an)) ∧
    (let h := hdr
     let s := ready base h 0x080A
     let t := run base h 0x080A
     let sel : StatsSel := { kind := 0, index := 0, sub := 0 }
     let clear : Bool := false
     (sel.index < cipherScope sel.kind) ∧
     (sel.kind < 5) ∧
     ((sel.kind != 0 || t.isPort sel.index) = true) ∧
     let cs : List (Ctr × Nat) := (cipherCtrs sel.kind sel.index)
     Starts s t h (cmdCipherStatsGet sel clear)) ∧
    (let h := hdr
     let s := ready base h 0x080B
     let t := run base h 0x080B
     let engine : Nat := 256
     let count : Nat := 255
     let windowNs : Nat := 1000000000
     (engine < 257) ∧
     ((decide (2 ≤ count) && decide (count ≤ 255) && decide (1000 ≤ windowNs) && decide (windowNs ≤ 1000000000)) = true) ∧
     Starts s t h (cmdCipherEngineSet engine count windowNs)) ∧
    (let h := hdr
     let s := ready (base.putCengine 256 { base.cengine 256 with erased := true }) h 0x080C
     let t := run (base.putCengine 256 { base.cengine 256 with erased := true }) h 0x080C
     let engine : Nat := 256
     let x := t.cengine engine
     let u : UnitRef := if engine = 256 then .lookaside else .lineEngine engine
     (engine < 257) ∧
     ((!(x.erased && x.alarmAt == some t.now) && !t.reactedNow u) = true) ∧
     let w := (t.noteUnit u 0x080C h).putCengine engine { x with erased := false }
     Starts s t h (cmdCipherEngineRestore engine)) ∧
    (let h := hdr
     let s := ready base h 0x080D
     let t := run base h 0x080D
     let ctx : Nat := 63
     let kind : Nat := 2
     let wrapCtx : Option Nat := none
     let key : BitVec 320 := 0
     let erased := (t.cengine 256).erased
     (hostCtx ctx = true) ∧
     ((∀ w, wrapCtx = some w → hostCtx w = true)) ∧
     (kind < 3) ∧
     ((erased || (t.keyOf wrapCtx key).isSome) = true) ∧
     ((!erased) = true) ∧
     Starts s t h (cmdLaContextLoad ctx kind wrapCtx key)) ∧
    (let h := hdr
     let s := ready base h 0x080E
     let t := run base h 0x080E
     let ctx : Nat := 16
     (hostCtx ctx = true) ∧
     let c := t.laCtx ctx
     let nonce := BitVec.ofNat 96 (Config.random t.freeCtr)
     let head := blobHead ctx c.kind t.sec.svn Config.deviceSerial nonce
     let text := gcmCrypt Config.wrapKey nonce c.body
     Starts s t h (cmdLaContextExport ctx)) ∧
    (let h := hdr
     let s := ready base h 0x080F
     let t := run base h 0x080F
     hostCtx 63 = true ∧ (sealed.format == 1 && decide (sealed.kind < 3)) = true ∧
     (sealed.deviceId == Config.deviceSerial && ((t.cengine 256).erased || (openBlob sealed).isSome)) = true ∧
     t.sec.svn ≤ sealed.svn ∧ (!(t.cengine 256).erased) = true ∧ (t.laCtx 63).suspended.isNone = true ∧
     Starts s t h (cmdLaContextImport 63 sealed)) ∧
    (let h := hdr
     let s := ready base h 0x0810
     let t := run base h 0x0810
     let ctx : Nat := 63
     (hostCtx ctx = true) ∧
     let u := t.putLaCtx ctx LaCtx.init
     Starts s t h (cmdLaContextClear ctx)) ∧
    (let h := hdr
     let s := ready base h 0x0811
     let t := run base h 0x0811
     let ctx : Nat := 16
     let op : Nat := 0
     let iv : BitVec 96 := 0
     let aad : List Byte := []
     let data : List Byte := []
     (hostCtx ctx = true) ∧
     ((decide (data.length ≤ 65536) && decide (op < 5) && laDataOk op data.length) = true) ∧
     ((!(t.cengine 256).erased) = true) ∧
     ((laOpOk (t.laCtx ctx).kind op) = true) ∧
     let id := 2 ^ 32 + t.cipher.laNext
     let w : LaWork := { id := id, hdr := h, ctx := ctx, op := op, iv := iv, aad := aad, data := data }
     let u := { t with cipher := { t.cipher with works := t.cipher.works ++ [w] } }
     Starts s t h (cmdLaCrypt ctx op iv aad data)) :=
  ⟨⟨(by decide), (by decide), (by decide), (by decide), (starts base hdr _ 0x0801 rfl (by decide))⟩,
   ⟨(by decide), (by decide), (starts base hdr _ 0x0802 rfl (by decide))⟩,
   ⟨(by decide), (by decide), (by decide), _, rfl, (starts base hdr _ 0x0803 rfl (by decide))⟩,
   ⟨(by decide), (by decide), (by decide), (by decide), (starts base hdr _ 0x0804 rfl (by decide))⟩,
   ⟨(by decide), (by decide), (by decide), (by decide), (starts base hdr _ 0x0805 rfl (by decide))⟩,
   ⟨(by decide), (by decide), (by decide), (by decide), (by decide), (by decide), (by decide), (starts base hdr _ 0x0806 rfl (by decide))⟩,
   ⟨(by decide), (by decide), (by decide), (by decide), (by decide), (starts (base.putRxSa 3 { Sa.init with present := true }) hdr _ 0x0807 rfl (by decide))⟩,
   ⟨(by decide), (by decide), (by decide), (by decide), (starts (base.putTxSa 3 { Sa.init with present := true }) hdr _ 0x0808 rfl (by decide))⟩,
   ⟨(by decide), (by decide), (by decide), (by decide), (starts base hdr _ 0x0809 rfl (by decide))⟩,
   ⟨(by decide), (by decide), (by decide), (starts base hdr _ 0x080A rfl (by decide))⟩,
   ⟨(by decide), (by decide), (starts base hdr _ 0x080B rfl (by decide))⟩,
   ⟨(by decide), (by decide), (starts (base.putCengine 256 { base.cengine 256 with erased := true }) hdr _ 0x080C rfl (by decide))⟩,
   ⟨(by decide), (by intro _ hp; first | (cases hp; done) | (cases hp; decide)), (by decide), (by decide), (by decide), (starts base hdr _ 0x080D rfl (by decide))⟩,
   ⟨(by decide), (starts base hdr _ 0x080E rfl (by decide))⟩,
   ⟨by decide, rfl, by
     rw [Bool.and_eq_true, Bool.or_eq_true]; exact ⟨beq_self_eq_true _, Or.inr sealed_opens⟩, by decide, by decide, by decide, starts base hdr _ 0x080F rfl (by decide)⟩,
   ⟨(by decide), (starts base hdr _ 0x0810 rfl (by decide))⟩,
   ⟨(by decide), (by decide), (by decide), (by decide), (starts base hdr _ 0x0811 rfl (by decide))⟩⟩

/-- A state and operands for each case of `TelemetryCommands`. -/
theorem meets_TelemetryCommands :
    (let h := hdr
     let s := ready base h 0x0901
     let t := run base h 0x0901
     let stream : Nat := 3
     let r : StreamRec := StreamRec.init
     let fields : BitVec 16 := 0
     let n := mergeStream (t.stream stream).rcd r fields
     (stream < 4) ∧
     (streamOk n = true) ∧
     ((n.destKind == 0 || t.isPort n.dest) = true) ∧
     Starts s t h (cmdTelemetryStreamSet stream r fields)) ∧
    (let h := hdr
     let s := ready base h 0x0902
     let t := run base h 0x0902
     let stream : Nat := 0
     (stream < 4) ∧
     Starts s t h (cmdTelemetryStreamGet stream)) ∧
    (let h := hdr
     let s := ready base h 0x0903
     let t := run base h 0x0903
     let queue : Nat := 0
     let r : ReportRec := { en := 1, stream := 3, delayTrig := 0, depthTrig := 0, gap := 65535, snapLen := 128 }
     let fields : BitVec 8 := 255
     (queue < 9472) ∧
     (queue < 9216) ∧
     ((reportOk (mergeReport (t.equeue queue).report r fields)) = true) ∧
     (t.queueExists queue = true) ∧
     Starts s t h (cmdQueueReportSet queue r fields)) ∧
    (let h := hdr
     let s := ready base h 0x0904
     let t := run base h 0x0904
     let nodeId : BitVec 56 := 0
     let td : Nat := 0
     let namespaces : List (Nat × BitVec 64) := []
     ((decide (td < 8) && decide (namespaces.length ≤ 4) && namespaces.all fun x => decide (x.1 < 65536)) = true) ∧
     Starts s t h (cmdIoamSet nodeId td namespaces)) ∧
    (let h := hdr
     let s := ready base h 0x0905
     let t := run base h 0x0905
     let first : Nat := 9216
     let count : Nat := 256
     (first < 9472) ∧
     ((decide (1 ≤ count) && decide (count ≤ 256)) = true) ∧
     (first + count ≤ 9472) ∧
     Starts s t h (cmdQueueSampleGet first count)) ∧
    (let h := hdr
     let s := ready base h 0x0906
     let t := run base h 0x0906
     let scope : Nat := 16
     let counter : Nat := 15
     let record : BitVec 64 := 0x30
     (scope ≤ 16) ∧
     (counter < (if scope = 16 then 16 else 8)) ∧
     ((perfOk (scope == 16) record) = true) ∧
     Starts s t h (cmdPerfCounterSet scope counter record)) ∧
    (let h := hdr
     let s := ready base h 0x0907
     let t := run base h 0x0907
     let sel : StatsSel := { kind := 0, index := 0, sub := 0 }
     let clear : Bool := false
     (sel.kind < 3) ∧
     (sel.index < telemetryScope sel.kind) ∧
     ((sel.kind != 1 || t.queueExists sel.index) = true) ∧
     let cs : List (Ctr × Nat) := ((telemetryCtrs sel.kind).map fun c => (c, sel.index))
     Starts s t h (cmdTelemetryStatsGet sel clear)) :=
  ⟨⟨(by decide), (by decide), (by decide), (starts base hdr _ 0x0901 rfl (by decide))⟩,
   ⟨(by decide), (starts base hdr _ 0x0902 rfl (by decide))⟩,
   ⟨(by decide), (by decide), (by decide), (by decide), (starts base hdr _ 0x0903 rfl (by decide))⟩,
   ⟨(by decide), (starts base hdr _ 0x0904 rfl (by decide))⟩,
   ⟨(by decide), (by decide), (by decide), (starts base hdr _ 0x0905 rfl (by decide))⟩,
   ⟨(by decide), (by decide), (by decide), (starts base hdr _ 0x0906 rfl (by decide))⟩,
   ⟨(by decide), (by decide), (by decide), (starts base hdr _ 0x0907 rfl (by decide))⟩⟩

/-- A state and operands for each case of `PowerCommands`. -/
theorem meets_PowerCommands :
    (let h := hdr
     let s := ready base h 0x0A01
     let t := run base h 0x0A01
     let cap : Option Nat := none
     let window : Option Nat := none
     let margin : Option Nat := none
     ((within 400 1150 cap && within 1 8 window && within 0 100 margin) = true) ∧
     Starts s t h (cmdPowerCapSet cap window margin)) ∧
    (let h := hdr
     let s := ready base h 0x0A02
     let t := run base h 0x0A02
     let w := t.windowSums
     Starts s t h cmdPowerStatusGet) ∧
    (let h := hdr
     let s := ready base h 0x0A03
     let t := run base h 0x0A03
     let op : Nat := 0
     (op ≤ 7) ∧
     Starts s t h (cmdOpHostSet op)) ∧
    (let h := hdr
     let s := ready base h 0x0A04
     let t := run base h 0x0A04
     let en : Nat := 0
     (en ≤ 1) ∧
     Starts s t h (cmdThermalSet en)) ∧
    (let h := hdr
     let s := ready base h 0x0A05
     let t := run base h 0x0A05
     let cmp : Nat := 15
     let f : CmpFields := { domain := none, instant := none, thresh := some 1700, eventEn := none, wakeEn := none }
     (cmp ≤ 15) ∧
     (cmpFieldsOk cmp f = true) ∧
     Starts s t h (cmdComparatorSet cmp f)) ∧
    (let h := hdr
     let s := ready base h 0x0A06
     let t := run base h 0x0A06
     let cmp : Nat := 0
     (cmp ≤ 15) ∧
     let x := t.cmp cmp
     Starts s t h (cmdComparatorGet cmp)) ∧
    (let h := hdr
     let s := ready base h 0x0A07
     let t := run base h 0x0A07
     let wakeNEn : Bool := true
     ((t.anyWake || wakeNEn) = true) ∧
     ((t.cmd.dev == .configure && !t.twin.attached && !t.isRoot) = true) ∧
     Starts s t h (cmdDormantEnter wakeNEn)) ∧
    (let h := hdr
     let s := ready ({ base with ring.brokenEast := true }) h 0x0A08
     let t := run ({ base with ring.brokenEast := true }) h 0x0A08
     let west : Bool := false
     ((!t.ringUp west || t.ringLost west) = true) ∧
     Starts s t h (cmdDeviceWake west)) ∧
    (let h := hdr
     let s := ready base h 0x0A09
     let t := run base h 0x0A09
     let freqs : Option (List Nat) := none
     ((freqs.getD []).length ≤ 16) ∧
     ((match freqs with | some l => compatOk l | none => true) = true) ∧
     ((t.cmd.dev == .configure && (List.range 1024).all (fun p => !(t.port p).enabled) && !t.twin.attached) = true) ∧
     Starts s t h (cmdPowerCompatSet freqs)) ∧
    (let h := hdr
     let s := ready base h 0x0A0A
     let t := run base h 0x0A0A
     Starts s t h cmdCastTableGet) :=
  ⟨⟨(by decide), (starts base hdr _ 0x0A01 rfl (by decide))⟩,
   (starts base hdr _ 0x0A02 rfl (by decide)),
   ⟨(by decide), (starts base hdr _ 0x0A03 rfl (by decide))⟩,
   ⟨(by decide), (starts base hdr _ 0x0A04 rfl (by decide))⟩,
   ⟨(by decide), (by decide), (starts base hdr _ 0x0A05 rfl (by decide))⟩,
   ⟨(by decide), (starts base hdr _ 0x0A06 rfl (by decide))⟩,
   ⟨(by decide), (by decide), (starts base hdr _ 0x0A07 rfl (by decide))⟩,
   ⟨(by decide), (starts ({ base with ring.brokenEast := true }) hdr _ 0x0A08 rfl (by decide))⟩,
   ⟨(by decide), (by decide), (by simp only [Bool.and_eq_true]; exact ⟨⟨rfl, List.all_eq_true.mpr fun p _ => rfl⟩, rfl⟩), (starts base hdr _ 0x0A09 rfl (by decide))⟩,
   (starts base hdr _ 0x0A0A rfl (by decide))⟩

/-- A state and operands for each case of `FaultCommands`. -/
theorem meets_FaultCommands :
    (let h := hdr
     let s := ready base h 0x0B01
     let t := run base h 0x0B01
     let source : Nat := 1023
     let f : ReactFields := { reaction := none, count := some 255, windowMs := some 60000, clearS := some 65535 }
     (source < 1024) ∧
     (((match f.reaction with | some r => decide (r < 5) && (srcAllowed source).testBit r | none => true) && inRange f.count 1 255 && inRange f.windowMs 1 60000 && inRange f.clearS 1 65535) = true) ∧
     Starts s t h (cmdFaultReactionSet source f)) ∧
    (let h := hdr
     let s := ready base h 0x0B02
     let t := run base h 0x0B02
     let source : Nat := 0
     (source < 1024) ∧
     Starts s t h (cmdFaultReactionGet source)) ∧
    (let h := hdr
     let s := ready base h 0x0B03
     let t := run base h 0x0B03
     let logMin : Option Nat := none
     let firstMin : Option Nat := none
     let isolatePorts : Option Nat := none
     ((inRange logMin 0 5 && inRange firstMin 0 5 && inRange isolatePorts 0 1) = true) ∧
     Starts s t h (cmdFaultConfigSet logMin firstMin isolatePorts)) ∧
    (let h := hdr
     let s := ready base h 0x0B04
     let t := run base h 0x0B04
     let first : Nat := 0
     let count : Nat := 128
     ((decide (count ≤ 128) && decide (first < 2 ^ 32)) = true) ∧
     let n := t.faults.nextSeq
     ((first + 2 ^ 32 - n) % 2 ^ 32 < 2 ^ 31) ∧
     Starts s t h (cmdFaultLogRead first count)) ∧
    (let h := hdr
     let s := ready base h 0x0B04
     let t := run base h 0x0B04
     let first : Nat := 4294967295
     let count : Nat := 128
     ((decide (count ≤ 128) && decide (first < 2 ^ 32)) = true) ∧
     let n := t.faults.nextSeq
     (¬ ((first + 2 ^ 32 - n) % 2 ^ 32 < 2 ^ 31)) ∧
     let held := decide ((n + 2 ^ 32 - first) % 2 ^ 32 ≤ (n + 2 ^ 32 - t.oldestSeq) % 2 ^ 32)
     let from_ := if held then first else t.oldestSeq
     let k := min count ((n + 2 ^ 32 - from_) % 2 ^ 32)
     (((List.range (4 * k)).map fun i => logWordAddr ((from_ * 4 + i) % 16384)).find? t.poisonAt) = none ∧
     let out := (List.range k).flatMap fun i =>
       match t.logAt ((from_ + i) % 4096) with | some e => e.words | none => []
     Starts s t h (cmdFaultLogRead first count)) ∧
    (let h := hdr
     let s := ready base h 0x0B05
     let t := run base h 0x0B05
     Starts s t h cmdFaultFirstGet) ∧
    (let h := hdr
     let s := ready base h 0x0B06
     let t := run base h 0x0B06
     Starts s t h cmdFaultFirstClear) ∧
    (let h := hdr
     let s := ready base h 0x0B07
     let t := run base h 0x0B07
     let source : Nat := 0
     let inst : Nat := 0
     (source < 1024) ∧
     let f := t.faultInst (instKey source inst)
     let stamps := f.stamps.filter fun u => decide (t.cycleStamp - u ≤ clkMs (t.react source).windowMs)
     Starts s t h (cmdFaultStatusGet source inst)) ∧
    (let h := hdr
     let s := ready base h 0x0B08
     let t := run base h 0x0B08
     let u : UnitRef := .pipe 127
     ((UnitRef.range u) = none) ∧
     ((match u with | .pipe _ => true | .partBank _ _ => true | .tableBank _ _ => true | _ => false) = true) ∧
     ((!t.reactedNow u) = true) ∧
     let s1 := t.noteUnit u 0x0B08 h
     ∃ g, u = .pipe g ∧
     (s1.mayRetirePipe g = true) ∧
     Starts s t h (cmdUnitRetire u)) ∧
    (let h := hdr
     let s := ready base h 0x0B08
     let t := run base h 0x0B08
     let u : UnitRef := .partBank 15 31
     ((UnitRef.range u) = none) ∧
     ((match u with | .pipe _ => true | .partBank _ _ => true | .tableBank _ _ => true | _ => false) = true) ∧
     ((!t.reactedNow u) = true) ∧
     let s1 := t.noteUnit u 0x0B08 h
     ∃ p b, u = .partBank p b ∧
     (s1.mayRetireBank p b = true) ∧
     Starts s t h (cmdUnitRetire u)) ∧
    (let h := hdr
     let s := ready base h 0x0B08
     let t := run base h 0x0B08
     let u : UnitRef := .tableBank 0 511
     ((UnitRef.range u) = none) ∧
     ((match u with | .pipe _ => true | .partBank _ _ => true | .tableBank _ _ => true | _ => false) = true) ∧
     ((!t.reactedNow u) = true) ∧
     let s1 := t.noteUnit u 0x0B08 h
     ∃ st b, u = .tableBank st b ∧
     (s1.maySpare st b = true) ∧
     Starts s t h (cmdUnitRetire u)) ∧
    (let h := hdr
     let s := ready base h 0x0B09
     let t := run base h 0x0B09
     let u : UnitRef := .slice 15
     ((UnitRef.range u) = none) ∧
     ((match u with | .slice _ => true | .replica _ => true | .lineEngine _ => true | .lookaside => true | _ => false) = true) ∧
     ((!t.reactedNow u) = true) ∧
     let s1 := t.noteUnit u 0x0B09 h
     ∃ n, u = .slice n ∧
     Starts s t h (cmdUnitFence u)) ∧
    (let h := hdr
     let s := ready base h 0x0B09
     let t := run base h 0x0B09
     let u : UnitRef := .replica 7
     ((UnitRef.range u) = none) ∧
     ((match u with | .slice _ => true | .replica _ => true | .lineEngine _ => true | .lookaside => true | _ => false) = true) ∧
     ((!t.reactedNow u) = true) ∧
     let s1 := t.noteUnit u 0x0B09 h
     ∃ k, u = .replica k ∧
     Starts s t h (cmdUnitFence u)) ∧
    (let h := hdr
     let s := ready base h 0x0B09
     let t := run base h 0x0B09
     let u : UnitRef := .lineEngine 255
     ((UnitRef.range u) = none) ∧
     ((match u with | .slice _ => true | .replica _ => true | .lineEngine _ => true | .lookaside => true | _ => false) = true) ∧
     ((!t.reactedNow u) = true) ∧
     let s1 := t.noteUnit u 0x0B09 h
     ∃ e, u = .lineEngine e ∧
     Starts s t h (cmdUnitFence u)) ∧
    (let h := hdr
     let s := ready base h 0x0B09
     let t := run base h 0x0B09
     let u : UnitRef := .lookaside
     ((UnitRef.range u) = none) ∧
     ((match u with | .slice _ => true | .replica _ => true | .lineEngine _ => true | .lookaside => true | _ => false) = true) ∧
     ((!t.reactedNow u) = true) ∧
     let s1 := t.noteUnit u 0x0B09 h
     u = .lookaside ∧
     Starts s t h (cmdUnitFence u)) ∧
    (let h := hdr
     let s := ready (base.putPipeRetired 127 true) h 0x0B0A
     let t := run (base.putPipeRetired 127 true) h 0x0B0A
     let u : UnitRef := .pipe 127
     ((UnitRef.range u) = none) ∧
     ((!t.reactedNow u) = true) ∧
     let s1 := t.noteUnit u 0x0B0A h
     ∃ g, u = .pipe g ∧
     ((!s1.pipeLive g) = true) ∧
     Starts s t h (cmdUnitRestore u)) ∧
    (let h := hdr
     let s := ready (base.putPartBank (15 * 32 + 31) .retired) h 0x0B0A
     let t := run (base.putPartBank (15 * 32 + 31) .retired) h 0x0B0A
     let u : UnitRef := .partBank 15 31
     ((UnitRef.range u) = none) ∧
     ((!t.reactedNow u) = true) ∧
     let s1 := t.noteUnit u 0x0B0A h
     ∃ p b, u = .partBank p b ∧
     ((!s1.bankLive p b) = true) ∧
     Starts s t h (cmdUnitRestore u)) ∧
    (let h := hdr
     let s := ready (base.putSpareOf (spareKey 0 (spareGroup 0 511)) (some 511)) h 0x0B0A
     let t := run (base.putSpareOf (spareKey 0 (spareGroup 0 511)) (some 511)) h 0x0B0A
     let u : UnitRef := .tableBank 0 511
     ((UnitRef.range u) = none) ∧
     ((!t.reactedNow u) = true) ∧
     let s1 := t.noteUnit u 0x0B0A h
     ∃ st b, u = .tableBank st b ∧
     (s1.spared st b = true) ∧
     Starts s t h (cmdUnitRestore u)) ∧
    (let h := hdr
     let s := ready (base.putSliceFenced 15 true) h 0x0B0A
     let t := run (base.putSliceFenced 15 true) h 0x0B0A
     let u : UnitRef := .slice 15
     ((UnitRef.range u) = none) ∧
     ((!t.reactedNow u) = true) ∧
     let s1 := t.noteUnit u 0x0B0A h
     ∃ n, u = .slice n ∧
     (s1.sliceFenced n = true) ∧
     Starts s t h (cmdUnitRestore u)) ∧
    (let h := hdr
     let s := ready (base.putReplicaFenced 7 true) h 0x0B0A
     let t := run (base.putReplicaFenced 7 true) h 0x0B0A
     let u : UnitRef := .replica 7
     ((UnitRef.range u) = none) ∧
     ((!t.reactedNow u) = true) ∧
     let s1 := t.noteUnit u 0x0B0A h
     ∃ k, u = .replica k ∧
     (s1.replicaFenced k = true) ∧
     Starts s t h (cmdUnitRestore u)) ∧
    (let h := hdr
     let s := ready (base.putCengine 255 { base.cengine 255 with fenced := true }) h 0x0B0A
     let t := run (base.putCengine 255 { base.cengine 255 with fenced := true }) h 0x0B0A
     let u : UnitRef := .lineEngine 255
     ((UnitRef.range u) = none) ∧
     ((!t.reactedNow u) = true) ∧
     let s1 := t.noteUnit u 0x0B0A h
     ∃ e, u = .lineEngine e ∧
     (s1.unitFenced u = true) ∧
     Starts s t h (cmdUnitRestore u)) ∧
    (let h := hdr
     let s := ready (base.putCengine 256 { base.cengine 256 with fenced := true }) h 0x0B0A
     let t := run (base.putCengine 256 { base.cengine 256 with fenced := true }) h 0x0B0A
     let u : UnitRef := .lookaside
     ((UnitRef.range u) = none) ∧
     ((!t.reactedNow u) = true) ∧
     let s1 := t.noteUnit u 0x0B0A h
     u = .lookaside ∧
     (s1.unitFenced u = true) ∧
     Starts s t h (cmdUnitRestore u)) ∧
    (let h := hdr
     let s := ready (base.putEngine 3 { ArmEngine.init with fenced := true }) h 0x0B0A
     let t := run (base.putEngine 3 { ArmEngine.init with fenced := true }) h 0x0B0A
     let u : UnitRef := .armEngine 3
     ((UnitRef.range u) = none) ∧
     ((!t.reactedNow u) = true) ∧
     let s1 := t.noteUnit u 0x0B0A h
     ∃ e, u = .armEngine e ∧
     (s1.unitFenced u = true) ∧
     Starts s t h (cmdUnitRestore u)) ∧
    (let h := hdr
     let s := ready base h 0x0B0A
     let t := run base h 0x0B0A
     let u : UnitRef := .lane 1023
     ((UnitRef.range u) = none) ∧
     ((!t.reactedNow u) = true) ∧
     let s1 := t.noteUnit u 0x0B0A h
     ∃ n, u = .lane n ∧
     Starts s t h (cmdUnitRestore u)) ∧
    (let h := hdr
     let s := ready base h 0x0B0A
     let t := run base h 0x0B0A
     let u : UnitRef := .trellis (.partition 15)
     ((UnitRef.range u) = none) ∧
     ((!t.reactedNow u) = true) ∧
     let s1 := t.noteUnit u 0x0B0A h
     ∃ e, u = .trellis e ∧
     Starts s t h (cmdUnitRestore u)) ∧
    (let h := hdr
     let s := ready base h 0x0B0B
     let t := run base h 0x0B0B
     let sel : StatsSel := { kind := 0, index := 0, sub := 0 }
     let clear : Bool := false
     (sel.index < faultScope sel.kind) ∧
     (sel.kind < 5) ∧
     let cs : List (Ctr × Nat) := ((faultCtrs sel.kind).map fun c => (c, sel.index))
     Starts s t h (cmdFaultStatsGet sel clear)) ∧
    (let h := hdr
     let s := ready base h 0x0B0F
     let t := run base h 0x0B0F
     Starts s t h cmdFaultInject) :=
  ⟨⟨(by decide), (by decide), (starts base hdr _ 0x0B01 rfl (by decide))⟩,
   ⟨(by decide), (starts base hdr _ 0x0B02 rfl (by decide))⟩,
   ⟨(by decide), (starts base hdr _ 0x0B03 rfl (by decide))⟩,
   ⟨(by decide), (by decide), (starts base hdr _ 0x0B04 rfl (by decide))⟩,
   ⟨(by decide), (by decide), rfl, (starts base hdr _ 0x0B04 rfl (by decide))⟩,
   (starts base hdr _ 0x0B05 rfl (by decide)),
   (starts base hdr _ 0x0B06 rfl (by decide)),
   ⟨(by decide), (starts base hdr _ 0x0B07 rfl (by decide))⟩,
   ⟨(by decide), (by decide), (by decide), _, rfl, (by decide), (starts base hdr _ 0x0B08 rfl (by decide))⟩,
   ⟨(by decide), (by decide), (by decide), _, _, rfl, (by decide), (starts base hdr _ 0x0B08 rfl (by decide))⟩,
   ⟨(by decide), (by decide), (by decide), _, _, rfl, (by decide), (starts base hdr _ 0x0B08 rfl (by decide))⟩,
   ⟨(by decide), (by decide), (by decide), _, rfl, (starts base hdr _ 0x0B09 rfl (by decide))⟩,
   ⟨(by decide), (by decide), (by decide), _, rfl, (starts base hdr _ 0x0B09 rfl (by decide))⟩,
   ⟨(by decide), (by decide), (by decide), _, rfl, (starts base hdr _ 0x0B09 rfl (by decide))⟩,
   ⟨(by decide), (by decide), (by decide), rfl, (starts base hdr _ 0x0B09 rfl (by decide))⟩,
   ⟨(by decide), (by decide), _, rfl, (by decide), (starts (base.putPipeRetired 127 true) hdr _ 0x0B0A rfl (by decide))⟩,
   ⟨(by decide), (by decide), _, _, rfl, (by decide), (starts (base.putPartBank (15 * 32 + 31) .retired) hdr _ 0x0B0A rfl (by decide))⟩,
   ⟨(by decide), (by decide), _, _, rfl, (by decide), (starts (base.putSpareOf (spareKey 0 (spareGroup 0 511)) (some 511)) hdr _ 0x0B0A rfl (by decide))⟩,
   ⟨(by decide), (by decide), _, rfl, (by decide), (starts (base.putSliceFenced 15 true) hdr _ 0x0B0A rfl (by decide))⟩,
   ⟨(by decide), (by decide), _, rfl, (by decide), (starts (base.putReplicaFenced 7 true) hdr _ 0x0B0A rfl (by decide))⟩,
   ⟨(by decide), (by decide), _, rfl, (by decide), (starts (base.putCengine 255 { base.cengine 255 with fenced := true }) hdr _ 0x0B0A rfl (by decide))⟩,
   ⟨(by decide), (by decide), rfl, (by decide), (starts (base.putCengine 256 { base.cengine 256 with fenced := true }) hdr _ 0x0B0A rfl (by decide))⟩,
   ⟨(by decide), (by decide), _, rfl, (by decide), (starts (base.putEngine 3 { ArmEngine.init with fenced := true }) hdr _ 0x0B0A rfl (by decide))⟩,
   ⟨(by decide), (by decide), _, rfl, (starts base hdr _ 0x0B0A rfl (by decide))⟩,
   ⟨(by decide), (by decide), _, rfl, (starts base hdr _ 0x0B0A rfl (by decide))⟩,
   ⟨(by decide), (by decide), (starts base hdr _ 0x0B0B rfl (by decide))⟩,
   (starts base hdr _ 0x0B0F rfl (by decide))⟩

/-- A state and operands for each case of `TwinCommands`. -/
theorem meets_TwinCommands :
    (let h := hdr
     let s := ready base h 0x0C01
     let t := run base h 0x0C01
     let role : Nat := 2
     let peer : Nat := 63
     let peerId : BitVec 384 := 0
     (peer < 64) ∧
     ((role == 1 || role == 2) = true) ∧
     ((!t.twin.connected) = true) ∧
     Starts s t h (cmdTwinBind role peer peerId)) ∧
    (let h := hdr
     let s := ready base h 0x0C02
     let t := run base h 0x0C02
     ((!t.twin.connected) = true) ∧
     Starts s t h cmdTwinUnbind) ∧
    (let h := hdr
     let s := ready ({ base with twin.role := .lead }) h 0x0C03
     let t := run ({ base with twin.role := .lead }) h 0x0C03
     ((t.twin.role == .lead && !t.twin.attached && t.twin.joinStep != 4 && t.twin.joinStep != 5 && t.followReady && !(t.cmd.running.any fun r => r.opcode == 0x0C03) && (t.twin.connected || t.laLive) && t.power.compat.isNone) = true) ∧
     Starts s t h cmdTwinJoin) ∧
    (let h := hdr
     let s := ready (paired .lead .service) h 0x0C04
     let t := run (paired .lead .service) h 0x0C04
     (t.twin.attached = true) ∧
     Starts s t h cmdTwinDetach) ∧
    (let h := hdr
     let s := ready (paired .follow .service) h 0x0C06
     let t := run (paired .follow .service) h 0x0C06
     let on : Bool := true
     ((if on then t.twin.attached && t.twin.role == .follow && t.cmd.dev == .service else t.cmd.dev == .drain) = true) ∧
     Starts s t h (cmdTwinDrain on)) ∧
    (let h := hdr
     let s := ready base h 0x0C07
     let t := run base h 0x0C07
     let r : NotifyRec := NotifyRec.init
     let fields : BitVec 8 := 0
     let n := NotifyRec_merge t.twin.notify r fields
     (n.ports.find? fun p => decide (1023 < p)) = none ∧
     (notifyOk n fields = true) ∧
     Starts s t h (cmdTwinNotifySet r fields)) ∧
    (let h := hdr
     let s := ready base h 0x0C08
     let t := run base h 0x0C08
     let p := t.twin.peerState.getD (0, 0, 0, 0)
     Starts s t h cmdTwinStatusGet) ∧
    (let h := hdr
     let s := ready base h 0x0C09
     let t := run base h 0x0C09
     Starts s t h cmdRingStatusGet) ∧
    (let h := hdr
     let s := ready ({ base with sec.ringRoot := true, sec.pcieUp := true }) h 0x0C0A
     let t := run ({ base with sec.ringRoot := true, sec.pcieUp := true }) h 0x0C0A
     (t.isRoot = true) ∧
     Starts s t h cmdRingEnumerate) ∧
    (let h := hdr
     let s := ready base h 0x0C0B
     let t := run base h 0x0C0B
     let clear : Bool := false
     let cs : List (Ctr × Nat) := ([(Ctr.colFramesTx, 0), (.colFramesRx, 0), (.colRetries, 0), (.colHeartbeatMissed, 0), (.twinCommits, 0) , (.twinFailed, 0), (.twinDiverged, 0), (.ringFramesRelayed, 0), (.ringFramesRelayed, 1), (.ringRetries, 0) , (.ringRetries, 1), (.ringTtlDrop, 0), (.ringTtlDrop, 1)])
     Starts s t h (cmdTwinStatsGet clear)) :=
  ⟨⟨(by decide), (by decide), (by decide), (starts base hdr _ 0x0C01 rfl (by decide))⟩,
   ⟨(by decide), (starts base hdr _ 0x0C02 rfl (by decide))⟩,
   ⟨(by decide), (starts ({ base with twin.role := .lead }) hdr _ 0x0C03 rfl (by decide))⟩,
   ⟨(by decide), (starts (paired .lead .service) hdr _ 0x0C04 rfl (by decide))⟩,
   ⟨(by decide), (starts (paired .follow .service) hdr _ 0x0C06 rfl (by decide))⟩,
   ⟨rfl, (by decide), (starts base hdr _ 0x0C07 rfl (by decide))⟩,
   (starts base hdr _ 0x0C08 rfl (by decide)),
   (starts base hdr _ 0x0C09 rfl (by decide)),
   ⟨(by decide), (starts ({ base with sec.ringRoot := true, sec.pcieUp := true }) hdr _ 0x0C0A rfl (by decide))⟩,
   (starts base hdr _ 0x0C0B rfl (by decide))⟩

/-- A state and operands for each case of `SecurityAndArmatureCommands`. -/
theorem meets_SecurityAndArmatureCommands :
    (let h := hdr
     let s := ready base h 0x0D01
     let t := run base h 0x0D01
     Starts s t h cmdBootStatusGet) ∧
    (let h := hdr
     let s := ready ({ base with cmd.dev := .boot, sec.step := .waitPush }) h 0x0D02
     let t := run ({ base with cmd.dev := .boot, sec.step := .waitPush }) h 0x0D02
     let offset : Nat := 2 ^ 24
     let chunk : List Byte := []
     (offset ≤ 2 ^ 24) ∧
     (chunk.length ≤ 131008) ∧
     ((t.cmd.dev == .boot && t.sec.step == .waitPush) = true) ∧
     Starts s t h (cmdFwPush offset chunk)) ∧
    (let h := hdr
     let b := { base with cmd.dev := .boot, sec.step := .waitPush, sec.push := [(0, imageBytes 1)] }
     let s := ready b h 0x0D03
     let t := run b h 0x0D03
     t.cmd.dev = .boot ∧ t.sec.step = .waitPush ∧
     ((t.keysOk (imageOf (imageBytes 1)) = true ∧ (image 1).bodyDigest = (image 1).bodyHash ∧ (image 1).ecdsaOk = true ∧
       (image 1).hssOk = true ∧ microcodeOk (Config.firmwareBody (image 1).body) = true) → (t.verify 1 (image 1)).code = 0) ∧
     (t.verify 1 (imageOf (assemble 2 0 t.sec.push))).code ≠ 0 ∧
     Starts s t h (cmdFwPushDone ((0 : BitVec 32) ++ (352 : BitVec 32)).toNat) ∧
     Starts s t h (cmdFwPushDone ((0 : BitVec 32) ++ (0 : BitVec 32)).toNat)) ∧
    (let h := hdr
     let s := ready base h 0x0D04
     let t := run base h 0x0D04
     let offset : Nat := 0
     let chunk : List Byte := []
     (offset ≤ 2 ^ 24) ∧
     (chunk.length ≤ 131008) ∧
     Starts s t h (cmdFwFlashWrite offset chunk)) ∧
    (let h := hdr
     let s := ready base h 0x0D05
     let t := run base h 0x0D05
     (t.verify 1 (imageOf (assemble t.sec.otherSlot 0 (t.sec.chunksOf t.sec.otherSlot)))).code ≠ 0 ∧
     Starts s t h (cmdFwFlashCommit ((0 : BitVec 32) ++ (0 : BitVec 32)).toNat) ∧
     Starts s t h (cmdFwFlashCommit ((0 : BitVec 32) ++ (352 : BitVec 32)).toNat)) ∧
    (let h := hdr
     let s := ready base h 0x0D06
     let t := run base h 0x0D06
     t.cmd.dev = .configure ∧ t.twin.attached = false ∧ Starts s t h cmdFwRestart) ∧
    (let h := hdr
     let s := ready base h 0x0D07
     let t := run base h 0x0D07
     let v : Nat := 0
     ((decide (t.sec.svn ≤ v) && decide (v ≤ 255)) = true) ∧
     ((v = t.sec.svn)) ∧
     Starts s t h (cmdSvnAdvance v)) ∧
    (let h := hdr
     let s := ready ({ base with sec.running := some { image 1 with svn := 255 }, arm.baseSvn := 255 }) h 0x0D07
     let t := run ({ base with sec.running := some { image 1 with svn := 255 }, arm.baseSvn := 255 }) h 0x0D07
     let v : Nat := 255
     ((decide (t.sec.svn ≤ v) && decide (v ≤ 255)) = true) ∧
     (¬ (v = t.sec.svn)) ∧
     (v ≤ t.svnLimit) ∧
     Starts s t h (cmdSvnAdvance v)) ∧
    (let h := hdr
     let s := ready base h 0x0D08
     let t := run base h 0x0D08
     let lms : Bool := false
     let slot : Nat := 0
     (slot < 4) ∧
     ((!(match t.sec.running with | some x => (if lms then x.lmsSlot else x.ecdsaSlot) == slot | none => false) && t.slotsLeft lms slot) = true) ∧
     let u := { t with sec.revoked := t.sec.revoked ||| BitVec.ofNat 8 (2 ^ (slot + if lms then 4 else 0)) }
     Starts s t h (cmdKeyRevoke lms slot)) ∧
    (let h := hdr
     let s := ready base h 0x0D09
     let t := run base h 0x0D09
     Starts s t h cmdIdentityCertGet) ∧
    (let h := hdr
     let s := ready base h 0x0D0A
     let t := run base h 0x0D0A
     Starts s t h cmdMeasurementGet) ∧
    (let h := hdr
     let s := ready ({ base with sec.lowerLeaf := 32768 }) h 0x0D0B
     let t := run ({ base with sec.lowerLeaf := 32768 }) h 0x0D0B
     let nonce : BitVec 384 := 0
     (¬ (t.sec.exhausted)) ∧
     ((32768 ≤ t.sec.lowerLeaf)) ∧
     let u := t.draw.burnLeaf (t.rand 2 == 1)
     Starts s t h (cmdAttestReportGet nonce)) ∧
    (let h := hdr
     let s := ready ({ base with sec.topLeaf := some 0, sec.treeReady := true, sec.lowerLeaf := 32767 }) h 0x0D0B
     let t := run ({ base with sec.topLeaf := some 0, sec.treeReady := true, sec.lowerLeaf := 32767 }) h 0x0D0B
     let nonce : BitVec 384 := 0
     (¬ (t.sec.exhausted)) ∧
     (¬ (32768 ≤ t.sec.lowerLeaf)) ∧
     ∃ top, t.sec.topLeaf = some top ∧
     (t.sec.treeReady = true) ∧
     Starts s t h (cmdAttestReportGet nonce)) ∧
    (let h := hdr
     let s := ready base h 0x0D40
     let t := run base h 0x0D40
     (t.verify 2 (imageOf [])).code ≠ 0 ∧
     ((t.keysOk (image 2) = true ∧ (image 2).bodyDigest = (image 2).bodyHash ∧ (image 2).ecdsaOk = true ∧ (image 2).hssOk = true) →
       (t.verify 2 (image 2)).code = 0) ∧
     Starts s t h (cmdArmPatchLoad ([] ++ [])) ∧ Starts s t h (cmdArmPatchLoad ([] ++ imageBytes 2))) ∧
    (let h := hdr
     let s := ready ({ base with arm.staged := some { level := 1, svn := 0, digest := 0, words := [], traps := [], entries := [] } }) h 0x0D41
     let t := run ({ base with arm.staged := some { level := 1, svn := 0, digest := 0, words := [], traps := [], entries := [] } }) h 0x0D41
     (t.arm.quiescing.isNone = true) ∧
     (t.arm.staged.isSome = true) ∧
     Starts s t h cmdArmPatchActivate) ∧
    (let h := hdr
     let s := ready base h 0x0D42
     let t := run base h 0x0D42
     (t.arm.quiescing.isNone = true) ∧
     (t.sec.svn ≤ t.arm.baseSvn) ∧
     Starts s t h cmdArmPatchRevert) ∧
    (let h := hdr
     let s := ready base h 0x0D43
     let t := run base h 0x0D43
     Starts s t h cmdArmPatchStatusGet) ∧
    (let h := hdr
     let s := ready base h 0x0D44
     let t := run base h 0x0D44
     let restart : Option Nat := none
     let live : Option Nat := none
     let r := restart.getD t.arm.restartLimit
     let l := live.getD t.arm.liveLimit
     ((decide (1 ≤ r) && decide (r ≤ 255) && decide (2 ^ 16 ≤ l) && decide (l ≤ 2 ^ 28)) = true) ∧
     Starts s t h (cmdArmEngineSet restart live)) ∧
    (let h := hdr
     let s := ready base h 0x0D45
     let t := run base h 0x0D45
     let engine : Nat := 0
     (engine < 4) ∧
     let x := t.engine engine
     Starts s t h (cmdArmEngineStatusGet engine)) ∧
    (let h := hdr
     let s := ready (base.putEngine 3 { ArmEngine.init with fenced := true }) h 0x0D46
     let t := run (base.putEngine 3 { ArmEngine.init with fenced := true }) h 0x0D46
     let engine : Nat := 3
     (engine < 4) ∧
     (((t.engine engine).fenced && !t.reactedNow (.armEngine engine)) = true) ∧
     Starts s t h (cmdArmEngineRestore engine)) ∧
    (let h := hdr
     let s := ready base h 0x0D47
     let t := run base h 0x0D47
     let engine : Nat := 0
     let clear : Bool := false
     (engine < 4) ∧
     let cs : List (Ctr × Nat) := ([Ctr.armJobs, .armCommits, .armAbandonRefused, .armAbandonFault, .armAbandonLive, .armGiveUp , .armMicrowords].map fun c => (c, engine))
     Starts s t h (cmdArmStatsGet engine clear)) :=
  ⟨(starts base hdr _ 0x0D01 rfl (by decide)),
   ⟨(by decide), (by decide), (by decide), (starts ({ base with cmd.dev := .boot, sec.step := .waitPush }) hdr _ 0x0D02 rfl (by decide))⟩,
   ⟨rfl, rfl, fun ⟨a, b, c, d, e⟩ => image_verifies _ 1 (image_form 1 (.inl rfl)).1 (image_form 1 (.inl rfl)).2.1 (Nat.zero_le _) a b c d (fun _ => e), by decide, starts { base with cmd.dev := .boot, sec.step := .waitPush, sec.push := [(0, imageBytes 1)] } hdr _ 0x0D03 rfl (by decide),
     starts { base with cmd.dev := .boot, sec.step := .waitPush, sec.push := [(0, imageBytes 1)] } hdr _ 0x0D03 rfl (by decide)⟩,
   ⟨(by decide), (by decide), (starts base hdr _ 0x0D04 rfl (by decide))⟩,
   ⟨by decide, starts base hdr _ 0x0D05 rfl (by decide), starts base hdr _ 0x0D05 rfl (by decide)⟩,
   ⟨rfl, rfl, starts base hdr _ 0x0D06 rfl (by decide)⟩,
   ⟨(by decide), (by decide), (starts base hdr _ 0x0D07 rfl (by decide))⟩,
   ⟨(by decide), (by decide), (by decide), (starts ({ base with sec.running := some { image 1 with svn := 255 }, arm.baseSvn := 255 }) hdr _ 0x0D07 rfl (by decide))⟩,
   ⟨(by decide), (by decide), (starts base hdr _ 0x0D08 rfl (by decide))⟩,
   (starts base hdr _ 0x0D09 rfl (by decide)),
   (starts base hdr _ 0x0D0A rfl (by decide)),
   ⟨(by decide), (by decide), (starts ({ base with sec.lowerLeaf := 32768 }) hdr _ 0x0D0B rfl (by decide))⟩,
   ⟨(by decide), (by decide), _, rfl, (by decide), (starts ({ base with sec.topLeaf := some 0, sec.treeReady := true, sec.lowerLeaf := 32767 }) hdr _ 0x0D0B rfl (by decide))⟩,
   ⟨by decide, fun ⟨a, b, c, d⟩ => image_verifies _ 2 (image_form 2 (.inr rfl)).1 (image_form 2 (.inr rfl)).2.1 (Nat.zero_le _) a b c d (fun x => absurd x (by decide)), starts base hdr _ 0x0D40 rfl (by decide), starts base hdr _ 0x0D40 rfl (by decide)⟩,
   ⟨(by decide), (by decide), (starts ({ base with arm.staged := some { level := 1, svn := 0, digest := 0, words := [], traps := [], entries := [] } }) hdr _ 0x0D41 rfl (by decide))⟩,
   ⟨(by decide), (by decide), (starts base hdr _ 0x0D42 rfl (by decide))⟩,
   (starts base hdr _ 0x0D43 rfl (by decide)),
   ⟨(by decide), (starts base hdr _ 0x0D44 rfl (by decide))⟩,
   ⟨(by decide), (starts base hdr _ 0x0D45 rfl (by decide))⟩,
   ⟨(by decide), (by decide), (starts (base.putEngine 3 { ArmEngine.init with fenced := true }) hdr _ 0x0D46 rfl (by decide))⟩,
   ⟨(by decide), (starts base hdr _ 0x0D47 rfl (by decide))⟩⟩

/-- A state and operands for each case of `GroupCommands`. -/
theorem meets_GroupCommands :
    (let h := hdr
     let s := ready base h 0x0E01
     let t := run base h 0x0E01
     (t.group.isNone = true) ∧
     let g : Group := { id := t.groupNext, sender := hdrSender h, twin := h.twin || Hdr_twinned h, parts := [], count := 0, failed := none, lastEpoch := t.clock.epoch, commit := none }
     Starts s t h cmdGroupOpen) ∧
    (let h := { hdr with groupId := 1 }
     let s := ready grouped h 0x0E02
     let t := run grouped h 0x0E02
     t.ownGroup h = some openGroup ∧ openGroup.twin = h.twin ∧ openGroup.commit = none ∧ Starts s t h (cmdGroupCommit { epoch := 0, required := false })) ∧
    (let h := { hdr with groupId := 1 }
     let s := ready grouped h 0x0E03
     let t := run grouped h 0x0E03
     ∃ g, t.ownGroup h = some g ∧
     (g.twin = (h.twin || Hdr_twinned h)) ∧
     (g.commit = none) ∧
     Starts s t h cmdGroupDiscard) ∧
    (let h := { hdr with groupId := 1 }
     let s := ready grouped h 0x0E04
     let t := run grouped h 0x0E04
     ∃ g, t.group = some g ∧
     ((g.id == h.groupId) = true) ∧
     Starts s t h cmdGroupStatusGet) :=
  ⟨⟨(by decide), (starts base hdr _ 0x0E01 rfl (by decide))⟩,
   ⟨by decide, rfl, rfl, starts grouped { hdr with groupId := 1 } _ 0x0E02 rfl (by decide)⟩,
   ⟨openGroup, rfl, (by decide), (by decide), (starts grouped ({ hdr with groupId := 1 }) _ 0x0E03 rfl (by decide))⟩,
   ⟨openGroup, rfl, (by decide), (starts grouped ({ hdr with groupId := 1 }) _ 0x0E04 rfl (by decide))⟩⟩

/-! ## Every event -/

/-- The ranges of `PacketEvents` at their last values. -/
theorem meets_PacketEvents : 63 < 64 ∧ 1023 < 1024 ∧ 511 < numBanks 0 ∧ 1535 < numBanks 1 ∧ 1023 < numBanks 2 := by decide

/-- The ranges of `MacEvents` at their last values. -/
theorem meets_MacEvents : 1023 < 1024 ∧ (decide (1023 < 1024) && decide (8 < 9)) = true ∧ (decide (1023 < 1024) && decide (7 < 8)) = true := by decide

/-- The ranges of `RollbackEvents` at their last values. -/
theorem meets_RollbackEvents : tagOk 65535 = true ∧ 256 < 257 ∧ (decide (63 < 64) && decide (3 < 4)) = true := by decide

/-- The ranges of `BufferEvents` at their last values. -/
theorem meets_BufferEvents : 15 < 16 ∧ (decide (15 < 16) && decide (31 < 32)) = true ∧ 1023 < 1024 ∧ (decide (15 < 16) && decide (15 < 16)) = true ∧ 9215 < 9216 := by decide

/-- The ranges of `LaneEvents` at their last values. -/
theorem meets_LaneEvents : 7 < 8 ∧ 1023 < 1024 ∧ 127 < 128 := by decide

/-- The ranges of `PortEvents` at their last values. -/
theorem meets_PortEvents : 1023 < 1024 := by decide

/-- The ranges of `TimeEvents` at their last values. -/
theorem meets_TimeEvents : 1023 < 1024 ∧ 7 < 8 ∧ 3 < 4 := by decide

/-- The ranges of `PowerEvents` at their last values. -/
theorem meets_PowerEvents : 3 < 4 ∧ ((decide (8 ≤ 8) && decide (8 ≤ 13)) && (decide (8 ≤ 13) && decide (13 ≤ 13))) = true ∧ (15 == 14 || 15 == 15) = true := by decide

/-- The ranges of `StartupEvents` at their last values. -/
theorem meets_StartupEvents : 7 < 8 := by decide

/-- The ranges of `TelemetryEvents` at their last values. -/
theorem meets_TelemetryEvents : 3 < 4 ∧ 9471 < 9472 := by decide

/-- The ranges of `RegisterEvents` at their last values. -/
theorem meets_RegisterEvents : 227 < 228 ∧ 63 < 64 ∧ 3 < 4 ∧ (decide (227 < 228) && decide (7 < 8)) = true ∧ 31 < 32 ∧ 7 < 8 := by decide

/-- The ranges of `FaultEvents` at their last values. -/
theorem meets_FaultEvents : 511 < numBanks 0 ∧ 1535 < numBanks 1 ∧ 1023 < numBanks 2 ∧ (decide (15 < 16) && decide (31 < 32)) = true ∧ srcAssigned 0 = true ∧ (decide (7 < 8) && decide (18687 < 18688)) = true := by decide

/-- The ranges of `UpkeepEvents` at their last values. -/
theorem meets_UpkeepEvents : 511 < numBanks 0 ∧ 1535 < numBanks 1 ∧ 1023 < numBanks 2 ∧ 31 < 32 ∧ ((decide (511 < numBanks 0) || (0 == 3 && decide (511 < 32))) && (decide (31 < numBanks 3) || (3 == 3 && decide (31 < 32)))) = true ∧ 15 < 16 ∧ 3 < 4 := by decide

end Sys2Proof.Tests
end

section
/-! PROOF. Every register, ring and host-interface event, case by case (O56), and a write to half of a register,
which refutes O60. -/

namespace Sys2Proof.Machine

/-! ## What an event answers -/

/-- An event of a unit that exists answers its next state. -/
theorem onUnit_next {ok : Bool} (h : ok = true) (n : Nat) (t : State) : onUnit ok n t = .next t := if_pos h

/-- A clause that gives the next state case by case gives one next state that is itself a case distinction. -/
theorem ite_next_eq (c : Prop) [Decidable c] (x : Host.Outcome State Fault Refusal) (a b : State) :
    (if c then x = .next a else x = .next b) = (x = .next (if c then a else b)) := by
  split <;> rfl

/-! ## O56

Each clause follows its event's own case distinction: `ite_next_eq` gathers the cases into one next state, an operand or
a lookup that the event matches on is split first, and what is left is the event's definition. -/

/-- Settles O56, clause by clause, in the order of the statement. -/
theorem registerEvents : Obligations.RegisterEvents := by
  intro s
  refine ⟨?msixSignal, ?cpuQueueDeliver, ?txDescriptorFetch, ?pipeInjectSlot, ?commandFetch, ?relayTimeout, ?ringFrameRx,
    ?relayedCommandRx, ?ringReplyRx, ?ringEventRx, ?ringThrottleRx, ?ringEnumRx, ?ringEnumReplyRx, ?ringJoinRx,
    ?ringEnumeratePeriod, ?ringBreak, ?ringRestored, ?ringDoorbellWrite, ?ringControlWrite, ?eventStatusW1c,
    ?tableLockReleaseWrite, ?turnstileTicketsWrite, ?turnstileStarvedW1c, ?snapTrigger, ?perfFreezeWrite,
    ?firstErrorValidW1c, ?counterLowHalfRead, ?bar0Violation, ?registerWrite, ?smbusBlockRead, ?jtagInstruction,
    ?ringHopResend⟩
  case msixSignal => exact fun rid hr => (ite_next_eq ..).mpr (onUnit_next (decide_eq_true hr) ..)
  case cpuQueueDeliver =>
    intro ring capacity hr
    have e : exec (.cpuQueueDeliver ring capacity) s = _ := onUnit_next (decide_eq_true hr) ..
    cases hq : (s.ringQueues ring).findSome? fun c => (s.cpuHead c).map fun h => (c, h) <;> simp only [ite_next_eq] <;>
      exact e.trans (by simp only [hq])
  case txDescriptorFetch =>
    intro ring d hr
    simp only [ite_next_eq]
    exact onUnit_next (decide_eq_true hr) ..
  case pipeInjectSlot =>
    intro pipe hp
    have e : exec (.pipeInjectSlot pipe) s = _ := onUnit_next (decide_eq_true hp) ..
    cases hi : s.injectFor pipe <;> simp only [ite_next_eq] <;> exact e.trans (by rw [hi])
  case commandFetch =>
    intro h op
    cases ho : h.origin <;> simp only [exec, execCommandFetch, ho]
  case relayTimeout =>
    intro id
    simp only [exec, execRelayTimeout]
    cases s.cmd.relays.find? fun r => r.id == id <;> simp only [ite_next_eq]
  case ringFrameRx =>
    intro west f
    simp only [ite_next_eq]
    rfl
  case relayedCommandRx => exact fun src h op => (ite_next_eq ..).mpr rfl
  case ringReplyRx =>
    intro id status rest result addr
    simp only [exec, execRingReplyRx]
    cases s.cmd.relays.find? fun r => r.id == id <;> rfl
  case ringEventRx =>
    intro dev ring record hr
    simp only [ite_next_eq]
    exact onUnit_next (decide_eq_true hr) ..
  case ringThrottleRx => exact fun src n => (ite_next_eq ..).mpr rfl
  case ringEnumRx =>
    intro src west hops
    simp only [ite_next_eq]
    rfl
  case ringEnumReplyRx =>
    intro replies
    simp only [exec, execRingEnumReplyRx]
    cases replies.find? fun r => r.id == s.sec.deviceId && r.idHash == Config.identityHash with
    | none => simp only [ite_next_eq]
    | some own =>
      cases replies.find? fun r => r.id == s.sec.deviceId && r.idHash != Config.identityHash <;> simp only [ite_next_eq]
  case ringJoinRx => exact fun src => (ite_next_eq ..).mpr rfl
  case ringEnumeratePeriod => exact (ite_next_eq ..).mpr rfl
  case ringBreak => exact fun west => (ite_next_eq ..).mpr rfl
  case ringRestored => exact fun west => (ite_next_eq ..).mpr rfl
  case ringDoorbellWrite =>
    intro func rid value hu
    simp only [ite_next_eq]
    exact onUnit_next hu ..
  case ringControlWrite => exact fun func rid value hu => (ite_next_eq ..).mpr (onUnit_next hu ..)
  case eventStatusW1c => exact fun group mask same hg => onUnit_next (decide_eq_true hg) ..
  case tableLockReleaseWrite => exact fun func mask hf => (ite_next_eq ..).mpr (onUnit_next (decide_eq_true hf) ..)
  case turnstileTicketsWrite => exact fun value => (ite_next_eq ..).mpr rfl
  case turnstileStarvedW1c => exact fun mask => (ite_next_eq ..).mpr rfl
  case snapTrigger => exact fun value => (ite_next_eq ..).mpr rfl
  case perfFreezeWrite => exact fun _ => rfl
  case firstErrorValidW1c => exact fun value => (ite_next_eq ..).mpr rfl
  case counterLowHalfRead =>
    intro func r offset hf
    have e : exec (.counterLowHalfRead func r) s = _ := onUnit_next (decide_eq_true hf) ..
    dsimp only [offset]
    cases hk : (s.accessBy func).badAccess r.offset (barWidth r) with
    | some k =>
      rw [ite_next_eq]
      exact e.trans (by simp only [hk])
    | none =>
      cases hr : regAt (r.offset - r.offset % 8) with
      | none =>
        rw [ite_next_eq]
        exact e.trans (by simp only [hk, hr])
      | some x => cases hx : x.ring <;> simp only [ite_next_eq] <;> exact e.trans (by simp only [hk, hr, hx])
  case bar0Violation => exact fun kind func width offset write hf => (ite_next_eq ..).mpr (onUnit_next (decide_eq_true hf) ..)
  case registerWrite =>
    intro func offset width value hf
    have e : exec (.registerWrite func offset width value) s = _ := onUnit_next (decide_eq_true hf) ..
    dsimp only
    cases hk : (s.accessBy func).badAccess offset width with
    | some k =>
      rw [ite_next_eq]
      exact e.trans (by simp only [hk])
    | none =>
      cases hr : regAt (offset - offset % 8) <;> rw [ite_next_eq] <;> exact e.trans (by simp only [hk, hr])
  case smbusBlockRead => exact fun _ => rfl
  case jtagInstruction => exact fun instr => (ite_next_eq ..).mpr rfl
  case ringHopResend =>
    intro west
    simp only [ite_next_eq]
    rfl

/-! ## O60

A 32-bit write to half of a 64-bit register is a read-modify-write (R506) and the word keeps its poison (R433); the clause
of O60 about REGISTER_WRITE clears the poison after every write. -/

/-- A write to half of a 64-bit register stores the half and clears no poison (R433, R506). -/
theorem exec_registerWrite_half {s : State} {func offset : Nat} {r : Reg} (value : BitVec 64) (hf : func < 8)
    (hc : s.clock.running = true) (hbad : (s.accessBy func).badAccess offset 4 = none)
    (hreg : regAt (offset - offset % 8) = some r) (hwide : r.wide = true) :
    exec (.registerWrite func offset 4 value) s = .next ((s.accessBy func).storeReg func offset 4 value r) := by
  have hclear : clearsPoison r 4 = false := by simp [clearsPoison, hwide]
  refine (onUnit_next (decide_eq_true hf) ..).trans ?_
  simp [hc, hbad, hreg, hclear]

/-- A write of a whole BAR0 word leaves it without poison (R434; STORE 13 of R436). -/
theorem State.poisonAt_wordWritten_bar0 (s : State) (a : BitVec 64) (h : fld a 63 60 = 13) :
    (s.wordWritten a).poisonAt a = false := by
  unfold State.wordWritten
  dsimp only
  split
  next => simp [State.setPoison, State.poisonAt, h]
  next hp => simpa using hp

/-- A running device in CONFIGURE whose TurnstileTickets register (0x50200, 64 bits) is poisoned. -/
def poisonedTickets : State :=
  { State.reset with clock.running := true, cmd.dev := .configure, faults.poisoned := [faultAddr 13 0 0x50200] }

/-- That device after function 0 has written zero to the low half of the register. -/
def ticketsHalfWritten : State := (poisonedTickets.accessBy 0).storeReg 0 0x50200 4 0 .tickets

/-- Refutes O60: its REGISTER_WRITE clause clears the poison of TurnstileTickets on a write of the low half alone, which in
the model, as R433 asks, keeps it. -/
theorem not_hostInterfaceCompletes : ¬ Obligations.HostInterfaceCompletes := by
  intro h
  obtain ⟨-, -, -, -, -, -, -, -, -, -, -, -, -, -, -, -, -, -, -, -, -, -, -, -, -, -, -, -, hWrite, -⟩ := h poisonedTickets rfl
  have hbad : (poisonedTickets.accessBy 0).badAccess 0x50200 4 = none := by decide
  have hreg : regAt (0x50200 - 0x50200 % 8) = some .tickets := by decide
  have hmodel : exec (.registerWrite 0 0x50200 4 0) poisonedTickets = .next ticketsHalfWritten :=
    exec_registerWrite_half 0 (by decide) rfl hbad hreg rfl
  have hclaim : exec (.registerWrite 0 0x50200 4 0) poisonedTickets =
      .next (ticketsHalfWritten.wordWritten (faultAddr 13 0 0x50200)) :=
    hWrite 0 0x50200 4 0 .tickets (by decide) hbad hreg (by decide)
  have hsame : ticketsHalfWritten = ticketsHalfWritten.wordWritten (faultAddr 13 0 0x50200) :=
    Host.Outcome.next.inj (hmodel.symm.trans hclaim)
  have hpoisoned : ticketsHalfWritten.poisonAt (faultAddr 13 0 0x50200) = true := by decide
  rw [hsame, State.poisonAt_wordWritten_bar0 _ _ (by decide)] at hpoisoned
  exact absurd hpoisoned (by decide)

end Sys2Proof.Machine
end

section
/-! PROOF. The place within the epoch (O4, O5), the skipped ticks (O23) and the acceptance of changes (O15, O22). -/

namespace Sys2Proof.Machine

/-! ## O4 and O5 -/

/-- A step is the idle clock or the command at the front: it keeps the place, and drops at most that command. -/
theorem step_keeps_placeOk {s t : State} (hp : s.placeOk) (h : step s = .next t) : t.placeOk := by
  unfold step at h
  split at h
  next => exact (State.Keeps.next s.idle_keeps h).place hp
  next c rest _ => exact (exec_keeps c _ t h).place hp

/-- Settles O4, from what the idle clock and every command keep. -/
theorem everyStepKeepsPlace : Obligations.EveryStepKeepsPlace := fun _ _ hp h => step_keeps_placeOk hp h

/-- Settles O5: the state after reset, evaluated. -/
theorem resetPlace : Obligations.ResetPlace := by
  refine ⟨?_, rfl, rfl, rfl⟩
  unfold State.placeOk
  decide

/-! ## O23 -/

/-- A numbered tick of the running core is skipped where its position is among the first of the skip order (R24). -/
theorem State.worked_eq_false_iff {s : State} (hr : s.clock.running = true) (hs : s.clock.stretch = 0) :
    s.worked = false ↔ s.clock.tick % 16 ∈ skipOrder.take (if s.power.op = 7 then 8 else s.power.op) := by
  simp [State.worked, workedPos, hr, hs]

/-- Position 15 is worked at every operating point. -/
theorem State.worked_of_pos15 {s : State} (hr : s.clock.running = true) (hs : s.clock.stretch = 0)
    (hp : s.clock.tick % 16 = 15) : s.worked = true := by
  have hne : ¬ s.worked = false := fun h =>
    absurd (List.mem_of_mem_take ((State.worked_eq_false_iff hr hs).mp h)) (by rw [hp]; decide)
  simpa using hne

/-- Settles O23: the skip order of the model is the statement's, all of it at P7. -/
theorem skippedTicks : Obligations.SkippedTicks := by
  intro s hr hs _
  have hskip := State.worked_eq_false_iff hr hs
  refine ⟨fun hop => ?_, fun hop => ?_, fun hp => ⟨State.worked_of_pos15 hr hs hp, fun hk => ?_⟩⟩
  · rwa [if_neg (Nat.ne_of_lt hop)] at hskip
  · rwa [if_pos hop] at hskip
  · simp [State.maintClock, hr, hs, hp, hk]

/-! ## O15: the first free boundary -/

/-- The changes due from `e` on are those due at `e` and those due later. -/
theorem countP_due_from (l : List PendingChange) (e : Nat) :
    l.countP (fun p => decide (e ≤ p.epoch)) =
      l.countP (fun p => p.epoch == e) + l.countP (fun p => decide (e + 1 ≤ p.epoch)) := by
  induction l with
  | nil => rfl
  | cons p l ih => simp only [List.countP_cons, ih, beq_iff_eq, decide_eq_true_eq]; split_ifs <;> omega

/-- A boundary that is taken has a change due at it. -/
theorem State.countP_pos_of_takenAtEpoch {s : State} {e : Nat} {objs : List (Nat × Nat)}
    (h : s.takenAtEpoch e objs = true) : 0 < s.changes.countP (fun p => p.epoch == e) := by
  obtain ⟨p, hp, hx⟩ := List.any_eq_true.mp h
  exact List.countP_pos_iff.mpr ⟨p, hp, (Bool.and_eq_true_iff.mp hx).1⟩

/-- The search ends at a free boundary where its fuel exceeds the changes due from its start on: each boundary that it
passes has one of them. -/
theorem State.takenAtEpoch_freeFrom (s : State) (objs : List (Nat × Nat)) (fuel e : Nat)
    (h : s.changes.countP (fun p => decide (e ≤ p.epoch)) < fuel) :
    s.takenAtEpoch (s.freeFrom objs fuel e) objs = false := by
  induction fuel generalizing e with
  | zero => exact absurd h (Nat.not_lt_zero _)
  | succ fuel ih =>
    unfold State.freeFrom
    split
    next ht =>
      have hpos := State.countP_pos_of_takenAtEpoch ht
      have hsplit := countP_due_from s.changes e
      exact ih (e + 1) (by omega)
    next hf => simpa using hf

/-- The search goes on to later boundaries only. -/
theorem State.le_freeFrom (s : State) (objs : List (Nat × Nat)) (fuel e : Nat) : e ≤ s.freeFrom objs fuel e := by
  induction fuel generalizing e with
  | zero => exact Nat.le_refl e
  | succ fuel ih =>
    unfold State.freeFrom
    split
    next => exact Nat.le_of_succ_le (ih (e + 1))
    next => exact Nat.le_refl e

/-- Every boundary that the search passes is taken. -/
theorem State.takenAtEpoch_of_lt_freeFrom {s : State} {objs : List (Nat × Nat)} {fuel e x : Nat} (hx : e ≤ x)
    (h : x < s.freeFrom objs fuel e) : s.takenAtEpoch x objs = true := by
  induction fuel generalizing e with
  | zero => exact absurd h (Nat.not_lt.mpr hx)
  | succ fuel ih =>
    unfold State.freeFrom at h
    split at h
    next ht =>
      rcases Nat.eq_or_lt_of_le hx with rfl | hlt
      · exact ht
      · exact ih hlt h
    next => exact absurd h (Nat.not_lt.mpr hx)

/-- The epoch of acceptance is the first free one from the boundary named or open; its status tells whether something
moved it. -/
theorem State.epochFor_eq (s : State) (objs : List (Nat × Nat)) (named : Nat) :
    let want := if named = 0 then s.earliest else named
    let e := s.freeFrom objs (s.changes.length + 1) (max want s.earliest)
    s.epochFor objs named = (e, if e = want then (stOk, dtNone) else (stOkAdjusted, dtAdjustedEpoch)) :=
  (apply_ite (Prod.mk _) ..).symm

/-- Settles O15: the search for a free boundary starts at the later of the named and the first open one. -/
theorem epochOfAcceptance : Obligations.EpochOfAcceptance := by
  intro s objs named first e
  have he : e = s.freeFrom objs (s.changes.length + 1) (max (if named = 0 then first else named) first) :=
    congrArg Prod.fst (s.epochFor_eq objs named)
  have hle : max (if named = 0 then first else named) first ≤ e := he ▸ s.le_freeFrom ..
  refine ⟨le_trans (le_max_right ..) hle, ?_, ?_, fun x hx hlt => ?_, ?_⟩
  · refine le_trans ?_ (le_trans (le_max_left ..) hle)
    split
    · omega
    · exact Nat.le_refl named
  · rw [he]
    exact s.takenAtEpoch_freeFrom objs _ _ (Nat.lt_succ_of_le List.countP_le_length)
  · exact State.takenAtEpoch_of_lt_freeFrom hx (he ▸ hlt)
  · rw [he]
    exact congrArg Prod.snd (s.epochFor_eq objs named)

/-! ## O22 -/

/-- A command that does not come from the twin starts with everything of `State.kept` as it was. -/
theorem State.begin_kept_of_notTwin {s t : State} {h : Hdr} {op : Nat} (hb : s.begin h op = some t)
    (hn : Hdr_twinned h = false) : t.kept = s.kept := by
  unfold State.begin at hb
  split at hb
  · cases hb
  cases ho : h.origin with
  | host r f e =>
    simp only [ho, Option.ite_none_right_eq_some, Option.some.injEq] at hb
    rw [← hb.2, State.putTakenAt_kept, State.fetch_kept]
  | slait d =>
    simp only [ho, Option.ite_none_right_eq_some, Option.some.injEq] at hb
    rw [← hb.2, State.uncarry_kept]
  | colonnade x => simp [Hdr_twinned, ho] at hn

/-- Changes made due together join the end of the list of changes; nothing else moves. -/
theorem State.dueAll_eq (s : State) (e : Nat) (objs : List (Nat × Nat)) (l : List Change) :
    s.dueAll e objs l = { s with changes := s.changes ++ l.map fun x => { epoch := e, objs := objs, change := x } } := by
  unfold State.dueAll
  induction l generalizing s with
  | nil => simp
  | cons x l ih =>
    rw [List.foldl_cons, ih]
    simp [State.due]

/-- States alike in everything of `State.kept` stay so with the same changes due. -/
theorem kept_withChanges {s t : State} (h : t.kept = s.kept) (l : List PendingChange) :
    State.kept { t with changes := l } = State.kept { s with changes := l } := by
  simp only [State.kept, Prod.mk.injEq] at h ⊢
  obtain ⟨hunits, hrest, hcmd, -, hgroup⟩ := h
  exact ⟨hunits, hrest, hcmd, trivial, hgroup⟩

/-- Settles O22: acceptance adds the change to those due, and taking the command and replying to it leaves `State.kept`. -/
theorem acceptedChangesWait : Obligations.AcceptedChangesWait := by
  intro i s t h c objs l hi hs hop hl hr
  have hbegun : t.kept = s.kept := State.begin_kept_of_notTwin hs.begin hs.notTwin
  have hkept : (t.accepted h c objs l).kept = State.kept { s with
      changes := s.changes ++ l.map fun x => { epoch := (t.epochFor objs c.target).1, objs := objs, change := x } } := by
    refine (State.answer_kept ..).trans ?_
    rw [State.dueAll_eq, (State.changes_of_kept hbegun).1]
    exact kept_withChanges hbegun _
  have hunits := State.sameUnits_of_kept hkept
  have hsessions := State.sameSessions_of_kept hkept
  exact ⟨_, (hi s).trans (congrArg _ (hs.change hr hop hl)), { hunits with }, { hsessions with },
    (State.changes_of_kept hkept).1⟩

end Sys2Proof.Machine
end

section
/-! PROOF. Every packet entry, lookup, decision and edit event (O45) and every epoch, gate and time event (O51), case by
case: what the event matches on is split first, `ite_next_eq` gathers the cases into one next state, and what is left is
the event's definition. -/

namespace Sys2Proof.Machine

/-- Settles O45, clause by clause, in the order of the statement. -/
theorem packetEvents : Obligations.PacketEvents := by
  intro s
  refine ⟨?ingressPipeSlot, ?packetEntry, ?bankCycleServe, ?lookupResult, ?ingressDecision, ?cloisterReturn, ?egressEdit,
    ?egressPipeSlot⟩
  case ingressPipeSlot => exact fun pipe _ _ hp => (ite_next_eq ..).mpr (onUnit_next (decide_eq_true hp) ..)
  case packetEntry =>
    intro port fid f hp
    have e : exec (.packetEntry port fid f) s = _ := onUnit_next (decide_eq_true hp) ..
    dsimp only
    cases ha : (s.arrive port fid (s.now - 2 - s.clock.k) f).arrivedAs port fid <;> simp only [ite_next_eq] <;>
      exact e.trans (by simp only [ha])
  case bankCycleServe =>
    intro store bank hb
    simp only [ite_next_eq]
    exact if_pos hb
  case lookupResult =>
    intro req
    cases hq : s.tables.reqs.find? fun q => q.id == req with
    | none => simp only [exec, execLookupResult, hq]
    | some q =>
      cases ht : s.resultAt q with
      | none => simp only [exec, execLookupResult, hq, ht]
      | some t =>
        cases hp : s.pkt q.owner <;> simp only [ht, hp, ite_next_eq] <;>
          simp only [exec, execLookupResult, hq, ht, hp, apply_ite Host.Outcome.next]
  case ingressDecision =>
    intro pid
    cases hp : s.pkt pid <;> simp only [ite_next_eq] <;>
      simp only [exec, execIngressDecision, hp, apply_ite Host.Outcome.next]
  case cloisterReturn =>
    intro pid
    cases hp : s.pkt pid <;> simp only [ite_next_eq] <;>
      simp only [exec, execCloisterReturn, hp, apply_ite Host.Outcome.next]
  case egressEdit =>
    intro cid
    cases hc : s.copy cid with
    | none => simp only [exec, execEgressEdit, hc]
    | some c =>
      cases hp : s.pkt c.pkt with
      | none => simp only [exec, execEgressEdit, hc, hp]
      | some p =>
        cases ht : s.hopTable c p (s.opsOf (s.egressFind c p).action p) <;> simp only [hp, ht, ite_next_eq] <;>
          simp only [exec, execEgressEdit, hc, hp, ht, apply_ite Host.Outcome.next]
  case egressPipeSlot => exact fun pipe _ _ hp => (ite_next_eq ..).mpr (onUnit_next (decide_eq_true hp) ..)

/-- Settles O51, clause by clause, in the order of the statement. -/
theorem timeEvents : Obligations.TimeEvents := by
  intro s
  refine ⟨?epochBoundary, ?gateTakeover, ?gateTransition, ?timeEventReach, ?hostWdExpiry, ?holdMaxExpiry, ?ppsOutEdge,
    ?ppsOutEdgeEnd, ?ppsInEdge, ?ppsInLost, ?ref10mGateEnd, ?ref10mLost, ?timeSnapshotCapture⟩
  case epochBoundary =>
    intro r
    simp only [ite_next_eq]
    rfl
  case gateTakeover => exact fun port hp => (ite_next_eq ..).mpr (onUnit_next (decide_eq_true hp) ..)
  case gateTransition => exact fun port hp => (ite_next_eq ..).mpr (onUnit_next (decide_eq_true hp) ..)
  case timeEventReach =>
    intro domain d l hu
    exact (ite_next_eq ..).mpr (onUnit_next (decide_eq_true hu) ..)
  case hostWdExpiry => exact fun domain hd => (ite_next_eq ..).mpr (onUnit_next (decide_eq_true hd) ..)
  case holdMaxExpiry =>
    intro domain d hu
    exact (ite_next_eq ..).mpr (onUnit_next (decide_eq_true hu) ..)
  case ppsOutEdge =>
    intro pin p n hu
    exact (ite_next_eq ..).mpr (onUnit_next (decide_eq_true hu) ..)
  case ppsOutEdgeEnd =>
    intro pin p hu
    exact (ite_next_eq ..).mpr (onUnit_next (decide_eq_true hu) ..)
  case ppsInEdge =>
    intro pin widthNs hp
    simp only [ite_next_eq]
    exact onUnit_next (decide_eq_true hp) ..
  case ppsInLost =>
    intro pin p due hu
    exact (ite_next_eq ..).mpr (onUnit_next (decide_eq_true hu) ..)
  case ref10mGateEnd => exact fun _ => rfl
  case ref10mLost => rfl
  case timeSnapshotCapture =>
    intro byWrite byPps
    simp only [exec, execTimeSnapshotCapture]
    cases s.time.snap.taken.find? fun x => (byWrite && x.byWrite) || (byPps && x.byPps) <;> rfl

end Sys2Proof.Machine
end

section
/-! PROOF. The core clock is left as it is by everything that a tick begins with, but for `tickAt`: the frames behind the
idle step (O29). What almost every operation leaves alone (`State.fr`) does not hold the ticks still to be stretched. -/

namespace Sys2Proof.Machine

/-! ## General laws -/

theorem clock_of_kept {s t : State} (h : t.kept = s.kept) : t.clock = s.clock := (State.sameUnits_of_kept h).clock

@[simp] theorem ite_clock (c : Prop) [Decidable c] (a b : State) :
    (if c then a else b).clock = if c then a.clock else b.clock := apply_ite ..

@[simp] theorem ite_fst_clock {α : Type} (c : Prop) [Decidable c] (a b : State × α) :
    (if c then a else b).1.clock = if c then a.1.clock else b.1.clock := by split <;> rfl

@[simp] theorem foldl_clock {α : Type} (f : State → α → State) (h : ∀ s a, (f s a).clock = s.clock) (l : List α)
    (s : State) : (l.foldl f s).clock = s.clock := by
  induction l generalizing s with
  | nil => rfl
  | cons a l ih => exact (ih _).trans (h s a)

/-! ## Counters, marks, watchdogs -/

@[simp] theorem State.addFresh_clock (s : State) (k n : Nat) : (s.addFresh k n).clock = s.clock := by
  simp [State.addFresh]

@[simp] theorem State.perfCount_clock (s : State) (code unit n : Nat) : (s.perfCount code unit n).clock = s.clock :=
  clock_of_kept (s.perfCount_kept ..)

@[simp] theorem State.bumpBy_clock (s : State) (c : Ctr) (inst n : Nat) : (s.bumpBy c inst n).clock = s.clock := by
  unfold State.bumpBy
  split <;> simp

@[simp] theorem State.countFull_clock (s : State) (n : Nat) : (s.countFull n).clock = s.clock := by
  simp [State.countFull]

@[simp] theorem State.modDomain_clock (s : State) (n : Nat) (f : Domain → Domain) :
    (s.modDomain n f).clock = s.clock := by simp [State.modDomain]

@[simp] theorem State.tickMark_clock (s : State) : s.tickMark.clock = { s.clock with tickAt := s.clock.now } := by
  simp [State.tickMark]

@[simp] theorem State.watchQueue_clock (s : State) (q : Nat) : (s.watchQueue q).clock = s.clock := by
  simp [State.watchQueue]

@[simp] theorem State.watchQueues_clock (s : State) : s.watchQueues.clock = s.clock := by simp [State.watchQueues]

@[simp] theorem State.bump_clock (s : State) (c : Ctr) (inst : Nat) : (s.bump c inst).clock = s.clock :=
  clock_of_kept (s.bump_kept ..)

/-! ## Rings, transmit records and packets -/

@[simp] theorem State.advanceRing_clock (s : State) (rid : Nat) : (s.advanceRing rid).clock = s.clock :=
  clock_of_kept (s.advanceRing_kept ..)

@[simp] theorem State.signalGap_clock (s : State) (rid : Nat) : (s.signalGap rid).clock = s.clock :=
  clock_of_kept (s.signalGap_kept ..)

@[simp] theorem State.txDone_clock (s : State) (r : Nat) (x : TsRecord) : (s.txDone r x).clock = s.clock := by
  simp [State.txDone]

@[simp] theorem State.txRecord_clock (s : State) (p : Pkt) (port kind ts : Nat) (at_ : Nat × Nat × Nat) :
    (s.txRecord p port kind ts at_).clock = s.clock := by
  unfold State.txRecord
  split <;> simp

@[simp] theorem State.modSlice_clock (s : State) (n : Nat) (f : SliceSt → SliceSt) :
    (s.modSlice n f).clock = s.clock := by simp [State.modSlice]

@[simp] theorem State.modPktD_clock (s : State) (pid : Nat) (f : Pkt → Pkt) : (s.modPktD pid f).clock = s.clock := by
  unfold State.modPktD
  split <;> simp

@[simp] theorem State.streamCells_clock (s : State) (pid : Nat) : (s.streamCells pid).clock = s.clock := by
  unfold State.streamCells
  split <;> simp

@[simp] theorem State.startCells_clock (s : State) (pid len : Nat) : (s.startCells pid len).clock = s.clock := by
  simp [State.startCells]

@[simp] theorem State.queueCells_clock (s : State) (pid : Nat) : (s.queueCells pid).clock = s.clock := by
  unfold State.queueCells
  split <;> simp

/-! ## Copies and faults -/

@[simp] theorem State.addCopy_clock (s : State) (pid : Nat) (p : Pkt) (t : Target) :
    (s.addCopy pid p t).clock = s.clock := by simp [State.addCopy]

@[simp] theorem State.countRaise_clock (s : State) (src inst : Nat) : (s.countRaise src inst).1.clock = s.clock := by
  simp [State.countRaise]

@[simp] theorem State.raiseBase_clock (s : State) (src sev inst : Nat) (detail : BitVec 64) (wire perm : Bool)
    (reaction : Nat) : (s.raiseBase src sev inst detail wire perm reaction).clock = s.clock :=
  clock_of_kept (s.raiseBase_kept ..)

@[simp] theorem State.note_clock (s : State) (src inst : Nat) (detail : BitVec 64) :
    (s.note src inst detail).clock = s.clock := clock_of_kept (s.note_kept ..)

@[simp] theorem State.due_clock (s : State) (e : Nat) (objs : List (Nat × Nat)) (c : Change) :
    (s.due e objs c).clock = s.clock := by simp [State.due]

@[simp] theorem State.schedule_clock (s : State) (objs : List (Nat × Nat)) (c : Change) :
    (s.schedule objs c).clock = s.clock := by simp [State.schedule]

@[simp] theorem State.isolateAction_clock (s : State) : s.isolateAction.clock = s.clock := by simp [State.isolateAction]

@[simp] theorem State.retryAction_clock (s : State) (src : Nat) (detail : BitVec 64) :
    (s.retryAction src detail).clock = s.clock := by simp [State.retryAction]

@[simp] theorem State.modCengine_clock (s : State) (n : Nat) (f : CEngine → CEngine) :
    (s.modCengine n f).clock = s.clock := by simp [State.modCengine]

@[simp] theorem State.enterHoldover_clock (s : State) (n : Nat) : (s.enterHoldover n).clock = s.clock := by
  simp [State.enterHoldover]

@[simp] theorem State.leaveTwin_clock (s : State) : s.leaveTwin.clock = s.clock := by simp [State.leaveTwin]

@[simp] theorem State.resyncFailed_clock (s : State) : s.resyncFailed.clock = s.clock := by simp [State.resyncFailed]

@[simp] theorem State.disconnect_clock (s : State) : s.disconnect.clock = s.clock := by simp [State.disconnect]

@[simp] theorem State.keyLost_clock (s : State) : s.keyLost.clock = s.clock := by simp [State.keyLost]

@[simp] theorem State.fenceCipher_clock (s : State) (e : Nat) : (s.fenceCipher e).clock = s.clock := by
  simp [State.fenceCipher]

@[simp] theorem State.modEngine_clock (s : State) (n : Nat) (f : ArmEngine → ArmEngine) :
    (s.modEngine n f).clock = s.clock := by simp [State.modEngine]

@[simp] theorem State.placeOne_clock (s : State) (j : ArmJob) : (s.placeOne j).clock = s.clock := by
  unfold State.placeOne
  split <;> simp

@[simp] theorem State.moveQueue_clock (s : State) (e : Nat) : (s.moveQueue e).clock = s.clock := by
  simp [State.moveQueue]

@[simp] theorem State.fenceEngine_clock (s : State) (e : Nat) : (s.fenceEngine e).clock = s.clock := by
  simp [State.fenceEngine]

@[simp] theorem State.fenceAction_clock (s : State) (src inst : Nat) : (s.fenceAction src inst).clock = s.clock := by
  simp [State.fenceAction]

@[simp] theorem State.startSpare_clock (s : State) (store bank : Nat) (back : Bool) :
    (s.startSpare store bank back).clock = s.clock := by simp [State.startSpare]

theorem State.retireAction_clock {s t : State} {src inst : Nat} (h : s.retireAction src inst = some t) :
    t.clock = s.clock := by
  unfold State.retireAction at h
  dsimp only at h
  split_ifs at h <;> cases h <;> simp

@[simp] theorem State.applyReaction_clock (s : State) (r src inst : Nat) (detail : BitVec 64) :
    (s.applyReaction r src inst detail).1.clock = s.clock := by
  unfold State.applyReaction
  split_ifs
  · exact s.isolateAction_clock
  · exact s.retryAction_clock src detail
  · exact s.fenceAction_clock src inst
  · split
    next t h => exact State.retireAction_clock h
    next => rfl
  · rfl

@[simp] theorem State.cancelUnit_clock (s : State) (u : UnitRef) : (s.cancelUnit u).clock = s.clock := by
  unfold State.cancelUnit
  split <;> simp

@[simp] theorem State.reactTo_clock (s : State) (src inst : Nat) (detail : BitVec 64) (declared : Bool) :
    (s.reactTo src inst detail declared).1.clock = s.clock := by
  unfold State.reactTo
  split <;> simp

@[simp] theorem State.raise_clock (s : State) (src inst : Nat) (detail : BitVec 64) :
    (s.raise src inst detail).clock = s.clock := by simp [State.raise]

@[simp] theorem State.raiseOnce_clock (s : State) (src inst : Nat) (detail : BitVec 64) :
    (s.raiseOnce src inst detail).clock = s.clock := by simp [State.raiseOnce]

/-! ## Cells and charges -/

@[simp] theorem State.unlinkCopy_clock (s : State) (cid : Nat) (c : Copy) : (s.unlinkCopy cid c).clock = s.clock := by
  simp [State.unlinkCopy]

@[simp] theorem State.foreignFree_clock (s : State) (f : FreeReq) : (s.foreignFree f).clock = s.clock := by
  simp [State.foreignFree]

@[simp] theorem State.modPart_clock (s : State) (n : Nat) (f : Partition → Partition) :
    (s.modPart n f).clock = s.clock := by simp [State.modPart]

@[simp] theorem State.modPeak_clock (s : State) (n : Nat) (f : Nat → Nat) : (s.modPeak n f).clock = s.clock := by
  simp [State.modPeak]

@[simp] theorem State.raisePeak_clock (s : State) (gauge i v : Nat) : (s.raisePeak gauge i v).clock = s.clock := by
  simp [State.raisePeak]

@[simp] theorem State.queueFree_clock (s : State) (cell owner source slice : Nat) (pg : Option Nat) :
    (s.queueFree cell owner source slice pg).clock = s.clock := by simp [State.queueFree]

@[simp] theorem State.releaseCell_clock (s : State) (cell owner source slice : Nat) (pg : Option Nat) :
    (s.releaseCell cell owner source slice pg).clock = s.clock := by simp [State.releaseCell]

@[simp] theorem State.releaseCells_clock (s : State) (cid source : Nat) (idxs : List Nat) :
    (s.releaseCells cid source idxs).clock = s.clock := by
  unfold State.releaseCells
  split
  · rfl
  split
  · rfl
  refine (State.putCopy_clock ..).trans (foldl_clock _ (fun _ _ => ?_) _ _)
  split <;> simp

@[simp] theorem State.setNow_clock (s : State) (c : Counts) : (s.setNow c).clock = s.clock := by simp [State.setNow]

@[simp] theorem State.putCq_clock (s : State) (q v : Nat) : (s.putCq q v).clock = s.clock := by simp [State.putCq]

@[simp] theorem State.uncharge_clock (s : State) (cid n : Nat) : (s.uncharge cid n).clock = s.clock := by
  unfold State.uncharge
  split <;> simp

@[simp] theorem State.modEport_clock (s : State) (n : Nat) (f : EPort → EPort) : (s.modEport n f).clock = s.clock := by
  simp [State.modEport]

@[simp] theorem State.modEqueue_clock (s : State) (n : Nat) (f : Queue → Queue) :
    (s.modEqueue n f).clock = s.clock := by simp [State.modEqueue]

@[simp] theorem State.moveShapers_clock (s : State) (q port : Nat) (n : Int) :
    (s.moveShapers q port n).clock = s.clock := by simp [State.moveShapers]

@[simp] theorem State.credit_clock (s : State) (cid sent : Nat) : (s.credit cid sent).clock = s.clock := by
  unfold State.credit
  split <;> simp

@[simp] theorem State.unqueuePkt_clock (s : State) (pid : Nat) : (s.unqueuePkt pid).clock = s.clock := by
  simp [State.unqueuePkt]

@[simp] theorem State.modInFlight_clock (s : State) (n : Nat) (f : Nat → Nat) :
    (s.modInFlight n f).clock = s.clock := by simp [State.modInFlight]

@[simp] theorem State.uncount_clock (s : State) (pid : Nat) : (s.uncount pid).clock = s.clock := by
  unfold State.uncount
  (repeat' split) <;> simp

@[simp] theorem State.settlePkt_clock (s : State) (pid : Nat) : (s.settlePkt pid).clock = s.clock := by
  unfold State.settlePkt
  (repeat' split) <;> simp

@[simp] theorem State.endCopy_clock (s : State) (cid source : Nat) : (s.endCopy cid source).clock = s.clock := by
  unfold State.endCopy
  split <;> simp

@[simp] theorem State.txDropped_clock (s : State) (cid : Nat) : (s.txDropped cid).clock = s.clock := by
  unfold State.txDropped
  (repeat' split) <;> simp

@[simp] theorem State.dropCopy_clock (s : State) (cid source : Nat) : (s.dropCopy cid source).clock = s.clock := by
  simp [State.dropCopy]

/-! ## Admission -/

@[simp] theorem State.pushOut_clock (s : State) (pid pool : Nat) (v : Nat × Nat) :
    (s.pushOut pid pool v).clock = s.clock := by
  unfold State.pushOut
  dsimp only
  rw [State.modPktD_clock, State.dropCopy_clock]
  split <;> split <;> simp

@[simp] theorem State.countRefusal_clock (s : State) (p : Pkt) (t : Target) (a : Admit) :
    (s.countRefusal p t a).clock = s.clock := by
  unfold State.countRefusal
  (repeat' split) <;> simp

@[simp] theorem State.admitCopy_clock (s : State) (pid : Nat) (t : Target) : (s.admitCopy pid t).clock = s.clock := by
  unfold State.admitCopy
  split
  · rfl
  split
  · exact s.addCopy_clock ..
  dsimp only
  generalize hu : (if _ = Admit.failPool then _ else s) = u
  have hclock : u.clock = s.clock := by simp [← hu]
  split
  · split <;> simp [hclock]
  · simp [hclock]

@[simp] theorem State.dropPkt_clock (s : State) (pid source : Nat) : (s.dropPkt pid source).clock = s.clock := by
  unfold State.dropPkt
  split
  · rfl
  dsimp only
  rw [State.settlePkt_clock, State.unqueuePkt_clock]
  split
  · refine (foldl_clock _ (fun _ _ => ?_) _ _).trans (by simp)
    split <;> simp
  · simp

@[simp] theorem State.modCellAt_clock (s : State) (n : Nat) (f : CellEntry → CellEntry) :
    (s.modCellAt n f).clock = s.clock := by simp [State.modCellAt]

@[simp] theorem State.recountCells_clock (s : State) (pid : Nat) : (s.recountCells pid).clock = s.clock := by
  unfold State.recountCells
  split
  · rfl
  refine foldl_clock _ (fun _ _ => ?_) _ _
  split <;> simp

@[simp] theorem State.admitAll_clock (s : State) (pid : Nat) (ts : List Target) :
    (s.admitAll pid ts).clock = s.clock := by
  unfold State.admitAll
  dsimp only
  split <;> simp

@[simp] theorem State.generate_clock (s : State) (p : Pkt) (t : Target) : (s.generate p t).1.clock = s.clock := by
  simp [State.generate]

@[simp] theorem State.admitDirect_clock (s : State) (ring : Nat) (d : TxDesc) :
    (s.admitDirect ring d).clock = s.clock := by simp [State.admitDirect]

@[simp] theorem State.admitDirects_clock (s : State) : s.admitDirects.clock = s.clock := by simp [State.admitDirects]

/-! ## Verdicts -/

@[simp] theorem State.modCopyD_clock (s : State) (cid : Nat) (f : Copy → Copy) :
    (s.modCopyD cid f).clock = s.clock := by
  unfold State.modCopyD
  split <;> simp

@[simp] theorem State.rollFree_clock (s : State) (pid : Nat) : (s.rollFree pid).clock = s.clock := by
  unfold State.rollFree
  split
  · rfl
  dsimp only
  rw [State.settlePkt_clock, State.uncount_clock]
  refine (foldl_clock _ (fun _ _ => ?_) _ _).trans (State.putPkt_clock ..)
  split <;> simp

@[simp] theorem State.cancelReqs_clock (s : State) (pid : Nat) (copies : List Nat) :
    (s.cancelReqs pid copies).clock = s.clock := by simp [State.cancelReqs]

@[simp] theorem State.earlyStomps_clock (s : State) (p : Pkt) : (s.earlyStomps p).clock = s.clock := by
  unfold State.earlyStomps
  refine foldl_clock _ (fun _ _ => ?_) _ _
  split <;> simp

@[simp] theorem State.modLedger_clock (s : State) (n : Nat) (f : Nat → Nat) : (s.modLedger n f).clock = s.clock := by
  simp [State.modLedger]

@[simp] theorem State.ledgerAdd_clock (s : State) (pipe row : Nat) : (s.ledgerAdd pipe row).clock = s.clock := by
  simp [State.ledgerAdd]

@[simp] theorem State.ledgerVoid_clock (s : State) (pipe : Nat) : (s.ledgerVoid pipe).clock = s.clock := by
  simp [State.ledgerVoid]

@[simp] theorem State.voidSlots_clock (s : State) (p : Pkt) : (s.voidSlots p).clock = s.clock := by
  simp [State.voidSlots]

@[simp] theorem State.keepRecords_clock (s : State) (port cid : Nat) : (s.keepRecords port cid).clock = s.clock := by
  simp [State.keepRecords]

@[simp] theorem State.modVoided_clock (s : State) (n : Nat) (f : Nat × List Nat → Nat × List Nat) :
    (s.modVoided n f).clock = s.clock := by simp [State.modVoided]

@[simp] theorem State.voidRecords_clock (s : State) (port cid : Nat) : (s.voidRecords port cid).clock = s.clock := by
  simp [State.voidRecords]

@[simp] theorem State.voidCopy_clock (s : State) (cid : Nat) : (s.voidCopy cid).clock = s.clock := by
  unfold State.voidCopy
  split <;> simp

@[simp] theorem State.fence_clock (s : State) (pid : Nat) (zero : Bool) (p : Pkt) :
    (s.fence pid zero p).clock = s.clock := by simp [State.fence]

@[simp] theorem State.countRollback_clock (s : State) (p : Pkt) : (s.countRollback p).clock = s.clock := by
  unfold State.countRollback
  (repeat' split) <;> simp

@[simp] theorem State.rollback_clock (s : State) (pid : Nat) (p : Pkt) : (s.rollback pid p).clock = s.clock := by
  unfold State.rollback
  refine (foldl_clock _ (fun _ _ => ?_) _ _).trans (State.countRollback_clock ..)
  split <;> simp

@[simp] theorem State.addReq_clock (s : State) (q : LookReq) : (s.addReq q).clock = s.clock := by simp [State.addReq]

@[simp] theorem State.issueCount_clock (s : State) (requester : Nat) (c : Nat × Nat) :
    (s.issueCount requester c).clock = s.clock := by simp [State.issueCount]

@[simp] theorem State.queueLearn_clock (s : State) (r : LearnReq) : (s.queueLearn r).clock = s.clock := by
  simp [State.queueLearn]

@[simp] theorem State.clearPending_clock (s : State) (p : Pkt) : (s.clearPending p).clock = s.clock := by
  simp [State.clearPending]

@[simp] theorem State.modRxSa_clock (s : State) (n : Nat) (f : Sa → Sa) : (s.modRxSa n f).clock = s.clock := by
  simp [State.modRxSa]

@[simp] theorem State.confirmMacsec_clock (s : State) (p : Pkt) : (s.confirmMacsec p).clock = s.clock := by
  unfold State.confirmMacsec
  split <;> simp

@[simp] theorem State.confirmBound_clock (s : State) (t : Nat) : (s.confirmBound t).clock = s.clock := by
  unfold State.confirmBound
  refine foldl_clock _ (fun _ _ => ?_) _ _
  split <;> simp

@[simp] theorem State.cloisterRest_clock (s : State) (pid : Nat) : (s.cloisterRest pid).clock = s.clock := by
  simp [State.cloisterRest]

@[simp] theorem State.enterCloister_clock (s : State) (pid : Nat) : (s.enterCloister pid).clock = s.clock := by
  unfold State.enterCloister
  split <;> simp

@[simp] theorem State.confirm_clock (s : State) (pid : Nat) (p : Pkt) : (s.confirm pid p).clock = s.clock := by
  unfold State.confirm
  (repeat' split) <;> simp

@[simp] theorem State.resolveUntagged_clock (s : State) (pid : Nat) : (s.resolveUntagged pid).clock = s.clock := by
  unfold State.resolveUntagged
  split <;> simp

@[simp] theorem State.resolveHeld_clock (s : State) : s.resolveHeld.clock = s.clock := by simp [State.resolveHeld]

@[simp] theorem State.streamAll_clock (s : State) : s.streamAll.clock = s.clock := by simp [State.streamAll]

/-! ## Performance counters, replies and locks -/

@[simp] theorem State.settlePerf_clock (s : State) : s.settlePerf.clock = s.clock := by simp [State.settlePerf]

@[simp] theorem State.answer_clock (s : State) (h : Hdr) (op : Nat) (dg : Option (List Byte)) (status detail : Nat)
    (result logged : BitVec 64) (payload : List Nat) :
    (s.answer h op dg status detail result logged payload).clock = s.clock := clock_of_kept (s.answer_kept ..)

@[simp] theorem State.reply_clock (s : State) (h : Hdr) (op status detail : Nat) (result logged : BitVec 64)
    (payload : List Nat) : (s.reply h op status detail result logged payload).clock = s.clock := by simp [State.reply]

@[simp] theorem State.endJob_clock (s : State) (id : Nat) : (s.endJob id).clock = s.clock := by simp [State.endJob]

@[simp] theorem State.freeLock_clock (s : State) (n : Nat) : (s.freeLock n).clock = s.clock := by simp [State.freeLock]

@[simp] theorem State.endLocks_clock (s : State) : s.endLocks.clock = s.clock := by simp [State.endLocks]

/-! ## The tick -/

@[simp] theorem State.tickWork_clock (s : State) : s.tickWork.clock = s.clock := by simp [State.tickWork]

/-- A tick that begins takes the present clock as its start; the core clock is otherwise as it was. -/
@[simp] theorem State.tickBegin_clock (s : State) : s.tickBegin.clock = { s.clock with tickAt := s.clock.now } := by
  simp [State.tickBegin]

end Sys2Proof.Machine
end

section
/-! PROOF. The idle step (O29): one equation per case of the clock, and what each gives. -/

namespace Sys2Proof.Machine

/-! ## The clock of the running core, case by case -/

theorem State.idle_running {s : State} (hr : s.clock.running = true) : s.idle = s.oneClock := by
  simp [State.idle, hr]

theorem State.idle_held {s : State} (hr : s.clock.running = false) :
    s.idle = { s.pass 1 with clock := { s.clock.tallyOne with now := s.clock.now + 1 } } := by
  simp [State.idle, hr]

/-- The first clock of a tick is followed by its second. -/
theorem State.oneClock_first {s : State} (hk : s.clock.k = 0) : s.oneClock = { s.clockEnd with clock.k := 1 } := by
  simp [State.oneClock, hk]

/-- The second clock of an unnumbered tick is followed by a tick of the same number (R282). -/
theorem State.oneClock_unnumbered {s : State} (hk : s.clock.k = 1) (hs : 0 < s.clock.stretch) :
    s.oneClock = State.tickBegin { s.clockEnd.tickEnd with
      clock := { s.clockEnd.tickEnd.clock with stretch := s.clock.stretch - 1, k := 0 } } := by
  simp [State.oneClock, hk, hs]

/-- The second clock of a numbered tick below the last is followed by the next tick (R11). -/
theorem State.oneClock_numbered {s : State} (hk : s.clock.k = 1) (hs : s.clock.stretch = 0) (ht : s.clock.tick < 1023) :
    s.oneClock = State.tickBegin { s.clockEnd.tickEnd with
      clock := { s.clockEnd.tickEnd.clock with tick := s.clock.tick + 1, k := 0 } } := by
  simp [State.oneClock, hk, hs, Nat.ne_of_lt ht]

/-! ## What the end of a clock and of a tick leave -/

/-- What leaves `State.fr` leaves the numbers of the tick and the epoch. -/
theorem place_of_fr {s t : State} (h : t.fr = s.fr) : t.clock.tick = s.clock.tick ∧ t.clock.epoch = s.clock.epoch := by
  simp only [State.fr, Prod.mk.injEq] at h
  obtain ⟨-, hepoch, htick, -⟩ := h
  exact ⟨htick, hepoch⟩

theorem State.clockEnd_place (s : State) :
    s.clockEnd.clock.tick = s.clock.tick ∧ s.clockEnd.clock.epoch = s.clock.epoch := place_of_fr s.clockEnd_fr

theorem State.tickEnd_clockEnd_place (s : State) :
    s.clockEnd.tickEnd.clock.tick = s.clock.tick ∧ s.clockEnd.tickEnd.clock.epoch = s.clock.epoch :=
  place_of_fr (s.clockEnd.tickEnd_fr.trans s.clockEnd_fr)

/-! ## The Gatehouse's count (R12, R13) -/

/-- The Gatehouse's count leaves the core's place. -/
theorem Clock.tallyOne_place (c : Clock) : c.tallyOne.epoch = c.epoch ∧ c.tallyOne.tick = c.tick := by
  unfold Clock.tallyOne
  split_ifs <;> exact ⟨rfl, rfl⟩

theorem Clock.tallyOne_unreleased {c : Clock} (h : c.released = false) : c.tallyOne = c := by
  simp [Clock.tallyOne, h]

theorem Clock.tallyOne_within {c : Clock} (h : c.released = true) (hc : c.tallyClock < 2047) :
    c.tallyOne = { c with tallyClock := c.tallyClock + 1 } := by
  simp [Clock.tallyOne, h, Nat.ne_of_lt hc]

theorem Clock.tallyOne_last {c : Clock} (h : c.released = true) (hc : c.tallyClock = 2047) :
    c.tallyOne = { c with tallyClock := 0, tally := c.tally + 1 } := by
  simp [Clock.tallyOne, h, hc]

/-! ## O29 -/

/-- Settles O29, clause by clause, in the order of the statement. -/
theorem clocksAndTally : Obligations.ClocksAndTally := by
  intro s t hq h
  have ht : t = s.idle := by simpa [step, hq] using h.symm
  subst ht
  obtain ⟨hTick, hEpoch⟩ := s.tickEnd_clockEnd_place
  refine ⟨fun hr hk => ?first, fun hr hk hs hlast => ?numbered, fun hr hk hs => ?unnumbered, fun hr => ?held⟩
  case first =>
    rw [State.idle_running hr, State.oneClock_first hk]
    exact ⟨rfl, s.clockEnd_place⟩
  case numbered =>
    rw [State.idle_running hr, State.oneClock_numbered hk hs hlast, State.tickBegin_clock]
    exact ⟨rfl, rfl, hEpoch⟩
  case unnumbered =>
    rw [State.idle_running hr, State.oneClock_unnumbered hk hs, State.tickBegin_clock]
    exact ⟨rfl, hTick, hEpoch, rfl⟩
  case held =>
    obtain ⟨hepoch, htick⟩ := s.clock.tallyOne_place
    rw [State.idle_held hr]
    refine ⟨hepoch, htick, fun hrel => ?_, fun hrel hc => ?_, fun hrel hc => ?_⟩
    · rw [Clock.tallyOne_unreleased hrel]
      exact ⟨rfl, rfl⟩
    · rw [Clock.tallyOne_within hrel hc]
      exact ⟨rfl, rfl⟩
    · rw [Clock.tallyOne_last hrel hc]
      exact ⟨rfl, rfl⟩

end Sys2Proof.Machine
end

section
/-! PROOF. Every lane event (O49), every lane command (O33), and the lane records that R36 refuses (O26). An event follows
its own case distinction, gathered by `ite_next_eq` into one next state; a command is its rule, whose checks are passed or
failed one by one. -/

namespace Sys2Proof.Machine

/-! ## O49 -/

/-- Settles O49, clause by clause, in the order of the statement. -/
theorem laneEvents : Obligations.LaneEvents := by
  intro s
  refine ⟨?laneCalibrationDone, ?laneStateAdvance, ?laneBringupTimeout, ?laneLos, ?laneCdrUnlock, ?laneAmLoss,
    ?laneRestartHoldoff, ?laneRecovered, ?laneOrderWindowEnd, ?laneSerIntervalEnd, ?eyeScanPointDone, ?laneSnrUpdate⟩
  case laneCalibrationDone => exact fun tile failed ht => (ite_next_eq ..).mpr (onUnit_next (decide_eq_true ht) ..)
  case laneStateAdvance =>
    intro lane inverted fir hl
    have e : exec (.laneStateAdvance lane inverted fir) s = _ := onUnit_next (decide_eq_true hl) ..
    cases hn : s.nextLane lane inverted <;> simp only [ite_next_eq] <;> exact e.trans (by simp only [hn])
  case laneBringupTimeout => exact fun lane hl => (ite_next_eq ..).mpr (onUnit_next (decide_eq_true hl) ..)
  case laneLos => exact fun lane hl => (ite_next_eq ..).mpr (onUnit_next (decide_eq_true hl) ..)
  case laneCdrUnlock => exact fun lane hl => (ite_next_eq ..).mpr (onUnit_next (decide_eq_true hl) ..)
  case laneAmLoss => exact fun lane hl => (ite_next_eq ..).mpr (onUnit_next (decide_eq_true hl) ..)
  case laneRestartHoldoff => exact fun lane hl => (ite_next_eq ..).mpr (onUnit_next (decide_eq_true hl) ..)
  case laneRecovered => exact fun lane hl => (ite_next_eq ..).mpr (onUnit_next (decide_eq_true hl) ..)
  case laneOrderWindowEnd =>
    intro octet evidence x ho
    have e : exec (.laneOrderWindowEnd octet evidence) s = _ := onUnit_next (decide_eq_true ho) ..
    cases hs : x.orderState with
    | pending =>
      cases hw : x.windowFrom <;> simp only [ite_next_eq] <;> exact e.trans (by simp only [x, hs, hw])
    | decided | assumed | conflict | forced => exact e.trans (by simp only [x, hs])
  case laneSerIntervalEnd =>
    intro lane symErr _ _ _ hl
    simp only [ite_next_eq]
    exact onUnit_next (decide_eq_true hl) ..
  case eyeScanPointDone => exact fun lane count hl => onUnit_next (decide_eq_true hl) ..
  case laneSnrUpdate => exact fun lane snr hl => (ite_next_eq ..).mpr (onUnit_next (decide_eq_true hl) ..)

/-! ## Checks of a rule -/

/-- A check that holds leaves the rest of the rule. -/
theorem Rule.need_pass {ok : Bool} (h : ok = true) (no rest : Rule) : Rule.need ok no rest = rest := if_pos h

/-- A check that fails answers its refusal. -/
theorem Rule.need_fail {ok : Bool} (h : ok = false) (no rest : Rule) : Rule.need ok no rest = no := by simp [Rule.need, h]

theorem laneRange_pass {lane : Nat} (h : lane < 1024) (rest : Rule) : laneRange lane rest = rest :=
  Rule.need_pass (decide_eq_true h) ..

theorem octetRange_pass {octet : Nat} (h : octet < 128) (rest : Rule) : octetRange octet rest = rest :=
  Rule.need_pass (decide_eq_true h) ..

/-- A statistics rule is always executed; CLEAR changes what it leaves and which values it returns (R47). -/
theorem statsRule_eq (s : State) (l : List (Ctr × Nat)) (gauges : List Nat) (clear : Bool) :
    statsRule s l gauges clear = .done (if clear then s.clearCtrs l else s) stOk 0 0
      ((if clear then s.ctrsBefore l else s.ctrVals l) ++ gauges) := by
  cases clear <;> rfl

/-! ## O33 -/

/-- Settles O33, clause by clause, in the order of the statement: the conditions of a clause are the checks of the
command's rule. -/
theorem laneCommands : Obligations.LaneCommands := by
  intro s t h
  refine ⟨?laneConfigSet, ?laneStatusGet, ?laneStatsGet, ?eyeScanStart, ?eyeScanRead, ?eyeScanAbort, ?laneRetire,
    ?laneRestore, ?lanePrbsSet, ?laneLoopbackSet, ?octetOrderSet⟩
  case laneConfigSet =>
    intro lane record fields trainMs serExp holdoffMs _ _ _ hlane hparam hclash
    exact Does.intro rfl ((laneRange_pass hlane _).trans ((Rule.need_pass hparam ..).trans (Rule.need_pass hclash ..)))
  case laneStatusGet => exact fun lane hlane => Does.intro rfl (laneRange_pass hlane _)
  case laneStatsGet => exact fun lane clear hlane => Does.intro rfl ((laneRange_pass hlane _).trans (statsRule_eq ..))
  case eyeScanStart =>
    intro lane eye phaseStart phaseStep phaseCount voltStart voltStep voltCount dwellExp _ _ _ hlane hparam hup hfree
    exact Does.intro rfl ((laneRange_pass hlane _).trans
      ((Rule.need_pass hparam ..).trans ((Rule.need_pass hup ..).trans (Rule.need_pass hfree ..))))
  case eyeScanRead =>
    intro scan first count
    cases hscan : t.scanLane scan with
    | none => trivial
    | some e =>
      refine fun hparam => Does.intro rfl ?_
      simp only [cmdEyeScanRead, Cmd.get, hscan]
      exact Rule.need_pass hparam ..
  case eyeScanAbort =>
    intro scan
    cases hscan : t.scanLane scan with
    | none => trivial
    | some e =>
      refine fun hrun => Does.intro rfl ?_
      simp only [cmdEyeScanAbort, Cmd.set, hscan]
      exact Rule.need_pass hrun ..
  case laneRetire =>
    exact fun lane hlane hlive => Does.intro rfl ((laneRange_pass hlane _).trans (Rule.need_pass hlive ..))
  case laneRestore =>
    exact fun lane passes hlane hdown => Does.intro rfl ((laneRange_pass hlane _).trans (Rule.need_pass hdown ..))
  case lanePrbsSet =>
    exact fun lane gen chk hlane hparam htest => Does.intro rfl
      ((laneRange_pass hlane _).trans ((Rule.need_pass hparam ..).trans (Rule.need_pass htest ..)))
  case laneLoopbackSet =>
    exact fun lane mode hlane hmode htest => Does.intro rfl
      ((laneRange_pass hlane _).trans ((Rule.need_pass (decide_eq_true hmode) ..).trans (Rule.need_pass htest ..)))
  case octetOrderSet =>
    exact fun octet mode hoctet hmode hdown => Does.intro rfl
      ((octetRange_pass hoctet _).trans ((Rule.need_pass (decide_eq_true hmode) ..).trans (Rule.need_pass hdown ..)))

/-! ## O26 -/

/-- The records that R36 refuses. -/
theorem laneRecordOk_eq_false_iff (r : BitVec 64) : laneRecordOk r = false ↔
    63 < (sfld r 39 36).natAbs + (sfld r 35 31).natAbs + (sfld r 30 25).natAbs + fld r 24 19 + (sfld r 18 14).natAbs ∨
      fld r 24 19 < 24 := by
  simp only [laneRecordOk, Bool.and_eq_false_iff, decide_eq_false_iff_not, not_le, or_comm]

/-- LANE_CONFIG_SET of a record that R36 refuses gets BAD_PARAM, whatever its other operands are. -/
theorem cmdLaneConfigSet_rule_badRecord {t : State} {lane : Nat} {record fields : BitVec 64} (hlane : lane < 1024)
    (hr : laneRecordOk (merge (t.lane lane).cfg record (fields &&& laneWritable)) = false)
    (trainMs serExp holdoffMs : Option Nat) (h : Hdr) :
    (cmdLaneConfigSet lane record fields trainMs serExp holdoffMs).rule h t = .param :=
  (laneRange_pass hlane _).trans (Rule.need_fail (by simp only [hr, Bool.false_and]) ..)

/-- A reply to a command that does not come from the twin, in the state in which the command started, leaves the lanes. -/
theorem Starts.answer_lp {s t : State} {h : Hdr} {c : Cmd} (hs : Starts s t h c) (op : Nat) (dg : Option (List Byte))
    (st d : Nat) (res lg : BitVec 64) (pl : List Nat) : (t.answer h op dg st d res lg pl).lp = s.lp :=
  (State.sameUnits_of_kept ((State.answer_kept ..).trans (State.begin_kept_of_notTwin hs.begin hs.notTwin))).lp

/-- Settles O26: a record that R36 refuses meets the rule's first check after the lane's range; the reset taps are read
off the reset record. -/
theorem firSum : Obligations.FirSum := by
  refine ⟨?refused, by decide⟩
  intro s t h lane record fields trainMs serExp holdoffMs c r hs hlane hbad
  have hr : laneRecordOk r = false := (laneRecordOk_eq_false_iff r).mpr hbad
  have hrefuse : Refuses s t h (.laneConfigSet h lane record fields trainMs serExp holdoffMs) c stBadParam 0 0 0 :=
    Refuses.intro rfl (cmdLaneConfigSet_rule_badRecord hlane hr trainMs serExp holdoffMs h)
  exact ⟨hrefuse hs, hs.answer_lp ..⟩

end Sys2Proof.Machine
end

section
/-! PROOF. Every MAC event (O46), every port event (O50) and every port command (O32). An event follows its own case
distinction: what it matches on is split first, and `ite_next_eq` gathers the conditions that are left into one next
state; a command is its rule, whose checks are passed one by one. -/

namespace Sys2Proof.Machine

/-! ## O46 -/

/-- Settles O46, clause by clause, in the order of the statement. -/
theorem macEvents : Obligations.MacEvents := by
  intro s
  refine ⟨?macRxFrameEnd, ?macControlFrameRx, ?pauseTimerExpiry, ?xoffRequest, ?xoffResend, ?macFrameStart, ?txFrameEnd⟩
  case macRxFrameEnd =>
    intro port fid f hp
    have e : exec (.macRxFrameEnd port fid f) s = _ := onUnit_next (decide_eq_true hp) ..
    dsimp only
    cases hpkt : (s.countMac port f).pktOf port fid <;> simpa only [ite_next_eq, hpkt] using e
  case macControlFrameRx => exact fun port c hp => (ite_next_eq ..).mpr (onUnit_next (decide_eq_true hp) ..)
  case pauseTimerExpiry =>
    intro port timer hu
    have e : exec (.pauseTimerExpiry port timer) s = _ := onUnit_next hu ..
    cases ht : (s.port port).pause.find? fun e => e.1 == timer <;> simpa only [ite_next_eq, ht] using e
  case xoffRequest =>
    intro port prio k v hu
    have e : exec (.xoffRequest port prio) s = _ := onUnit_next hu ..
    cases hx : s.xoffAt port prio <;> simpa only [ite_next_eq, hx, k, v] using e
  case xoffResend =>
    intro port prio hu
    have e : exec (.xoffResend port prio) s = _ := onUnit_next hu ..
    cases hx : s.xoffAt port prio <;> simpa only [ite_next_eq, hx] using e
  case macFrameStart =>
    intro port pcsPs hp
    have e : exec (.macFrameStart port pcsPs) s = _ := onUnit_next (decide_eq_true hp) ..
    cases hf : (s.macFifo port).head? with
    | none => simpa only [ite_next_eq, hf] using e
    | some cid =>
      cases hc : s.copy cid with
      | none => simpa only [ite_next_eq, hf, hc] using e
      | some c =>
        cases hk : s.pkt c.pkt with
        | none => simpa only [ite_next_eq, hf, hc, hk] using e
        | some p => cases hj : s.judgeStart port c <;> simpa only [ite_next_eq, hf, hc, hk, hj] using e
  case txFrameEnd =>
    intro port sent hp
    have e : exec (.txFrameEnd port sent) s = _ := onUnit_next (decide_eq_true hp) ..
    cases hs : s.sending port with
    | none => simpa only [hs] using e
    | some cid =>
      cases hc : s.copy cid with
      | none => simpa only [hs, hc] using e
      | some c => cases hk : s.pkt c.pkt <;> simpa only [hs, hc, hk] using e

/-! ## O50 -/

/-- Settles O50, clause by clause, in the order of the statement. -/
theorem portEvents : Obligations.PortEvents := by
  intro s
  refine ⟨?anResolve, ?rawLinkChange, ?linkDownDebounceExpiry, ?linkUpDebounceExpiry⟩
  case anResolve =>
    intro port partner hp
    have e : exec (.anResolve port partner) s = _ := onUnit_next (decide_eq_true hp) ..
    cases ha : (abilities (s.portRate port) (s.portLanes port).2 (fld (s.port port).cfg 4 3)).find? fun a =>
      partner.contains a <;> simpa only [ite_next_eq, ha] using e
  case rawLinkChange =>
    intro port aligned localFault remoteFault q hp
    exact (ite_next_eq ..).mpr (onUnit_next (decide_eq_true hp) ..)
  case linkDownDebounceExpiry =>
    intro port q hp
    exact (ite_next_eq ..).mpr (onUnit_next (decide_eq_true hp) ..)
  case linkUpDebounceExpiry =>
    intro port q hp
    have e : exec (.linkUpDebounceExpiry port) s = _ := onUnit_next (decide_eq_true hp) ..
    dsimp only
    cases hd : (((s.modPort port fun x => { x with linkUp := true }).note srcPortLinkUp port 0).modEport port fun e =>
      { e with downAt := none, holding := false, downDue := false }).planDomain port <;>
      simpa only [ite_next_eq, hd, q] using e

/-! ## O32 -/

theorem portRange_pass {s : State} {port : Nat} (hport : port < 1024) (his : s.isPort port = true) (rest : Rule) :
    portRange s port rest = rest := (Rule.need_pass (decide_eq_true hport) ..).trans (Rule.need_pass his ..)

/-- Settles O32, clause by clause, in the order of the statement: the conditions of a clause are the checks of the
command's rule. -/
theorem portCommands : Obligations.PortCommands := by
  intro s t h
  refine ⟨?portModeSet, ?portConfigSet, ?portEnable, ?portStatusGet, ?portStatsGet, ?octetLayoutGet⟩
  case portModeSet =>
    intro octet rate mask hoctet hlayout hfree hstart hsc
    exact Accepts.intro rfl ((octetRange_pass hoctet _).trans ((Rule.need_pass hlayout ..).trans
      ((Rule.need_pass hfree ..).trans ((Rule.need_pass hstart ..).trans (Rule.need_pass hsc ..)))))
      (show 0x0201 ≠ 0x0609 by decide) rfl
  case portConfigSet =>
    intro port record fields _ _ hport hrecord his hquiet
    exact Accepts.intro rfl ((Rule.need_pass (decide_eq_true hport) ..).trans ((Rule.need_pass hrecord ..).trans
      ((Rule.need_pass his ..).trans (Rule.need_pass hquiet ..)))) (show 0x0202 ≠ 0x0609 by decide) rfl
  case portEnable =>
    exact fun port on hport his => Accepts.intro rfl (portRange_pass hport his _)
      (show 0x0203 ≠ 0x0609 by decide) rfl
  case portStatusGet => exact fun port hport his => Does.intro rfl (portRange_pass hport his _)
  case portStatsGet =>
    intro port clear hport his
    refine Does.intro rfl ((portRange_pass hport his _).trans ((statsRule_eq ..).trans ?_))
    rw [List.append_nil]
    rfl
  case octetLayoutGet => exact fun octet hoctet => Does.intro rfl (octetRange_pass hoctet _)

end Sys2Proof.Machine
end

section
/-! PROOF. TWIN on a cipher command (O12), every cipher command (O38), and every run-ahead and lookaside event (O47). A
command is its rule, whose checks are passed one by one; an event follows its own case distinction, gathered by
`ite_next_eq` into one next state. -/

namespace Sys2Proof.Machine

/-! ## O12 -/

/-- A command that is not mirrored may not have the flag TWIN (R343, R400). -/
theorem State.flagsOk_of_twin_unmirrored (s : State) {h : Hdr} {c : Cmd} (htwin : h.twin = true)
    (hmirror : c.mirror = none) : s.flagsOk h c = false := by
  simp [State.flagsOk, Cmd.twinFlagOk, htwin, hmirror]

/-- A flag that is not permitted is refused at step 5, once steps 1 to 4 have passed (R348). -/
theorem State.precheck_badFlags {s : State} {h : Hdr} {c : Cmd} (hver : s.versionOk h c.op = true)
    (hop : s.opcodeOk h c.op = true) (hhlen : Hdr_lengthOk h = true) (hclen : c.lenOk = true) (hid : h.target ≤ 63)
    (hflags : s.flagsOk h c = false) : s.precheck h c = some .param := by
  simp [State.precheck, hver, hop, hhlen, hclen, Nat.not_lt.mpr hid, hflags]

/-- A command of this device that steps 1 to 8 refuse is answered with that refusal, and nothing else comes of it (R347);
a refusal for bad data (INTERNAL, log 112) clears the mark of the data too. -/
theorem State.serve_of_precheck {s t : State} {h : Hdr} {c : Cmd} {st d : Nat} {res lg : BitVec 64}
    (hbegin : s.begin h c.op = some t) (hnot : Hdr_twinned h = false) (hhere : h.target = s.sec.deviceId)
    (halone : h.group = false) (hcheck : t.precheck h c = some (.refuse st d res lg)) (hst : st ≠ stInternal) :
    s.serve c h = t.answer h c.op none st d res lg [] := by
  simp [State.serve, hbegin, hnot, hhere, State.verdict, hcheck, State.finish, State.dataRead, hst, State.notePart, halone]

/-- Settles O12: the flag is not permitted, so step 5 refuses the command. -/
theorem cipherTwinFlagRefused : Obligations.CipherTwinFlagRefused := by
  intro i s t h c hi _ hmirror hbegin hnot hhere halone hver hop hhlen hclen hid htwin
  have hcheck : t.precheck h c = some .param :=
    State.precheck_badFlags hver hop hhlen hclen hid (t.flagsOk_of_twin_unmirrored htwin hmirror)
  rw [hi, State.serve_of_precheck hbegin hnot hhere halone hcheck (by decide)]

/-! ## O38 -/

theorem scRange_pass {sc dir : Nat} (hsc : sc < if dir = 1 then 2048 else 4096) (hdir : dir < 2) (rest : Rule) :
    scRange sc dir rest = rest := (Rule.need_pass (decide_eq_true hsc) ..).trans (Rule.need_pass (decide_eq_true hdir) ..)

theorem engineRange_pass {e : Nat} (he : e < 257) (rest : Rule) : engineRange e rest = rest :=
  Rule.need_pass (decide_eq_true he) ..

theorem ctxRange_pass {ctx : Nat} (hctx : hostCtx ctx = true) (rest : Rule) : ctxRange ctx rest = rest :=
  Rule.need_pass hctx ..

theorem needAuth_pass {ok : Bool} (h : ok = true) (rest : Rule) : needAuth ok rest = rest := Rule.need_pass h ..

/-- Settles O38, clause by clause, in the order of the statement: the conditions of a clause are the checks of the
command's rule. -/
theorem cipherCommands : Obligations.CipherCommands := by
  intro s t h
  refine ⟨?cipherPortSet, ?cipherPortGet, ?scCreate, ?scSet, ?scDelete, ?saInstall, ?saDelete, ?txSaSelect, ?saStatusGet,
    ?cipherStatsGet, ?cipherEngineSet, ?cipherEngineRestore, ?laContextLoad, ?laContextExport, ?laContextImport,
    ?laContextClear, ?laCrypt⟩
  case cipherPortSet =>
    intro port record fields _ hport hsuite his hfree
    exact Accepts.intro rfl ((Rule.need_pass (decide_eq_true hport) ..).trans
      ((Rule.need_pass (decide_eq_true hsuite) ..).trans ((Rule.need_pass his ..).trans (Rule.need_pass hfree ..))))
      (show 0x0801 ≠ 0x0609 by decide) rfl
  case cipherPortGet => exact fun port hport his => Does.intro rfl (portRange_pass hport his _)
  case scCreate =>
    intro port dir sci replayProtect replayWindow pnThreshold hport hparam his
    cases hfree : t.freeSc dir (port / 8) with
    | none => trivial
    | some n =>
      refine Does.intro rfl ((Rule.need_pass (decide_eq_true hport) ..).trans
        ((Rule.need_pass hparam ..).trans ((Rule.need_pass his ..).trans ?_)))
      simp only [hfree]
      rfl
  case scSet =>
    intro sc dir replayProtect replayWindow pnThreshold hsc hdir hparam hvalid
    exact Accepts.intro rfl ((scRange_pass hsc hdir _).trans ((Rule.need_pass hparam ..).trans (Rule.need_pass hvalid ..)))
      (show 0x0804 ≠ 0x0609 by decide) rfl
  case scDelete =>
    intro sc dir hsc hdir hvalid hempty
    exact Accepts.intro rfl ((scRange_pass hsc hdir _).trans ((Rule.need_pass hvalid ..).trans (Rule.need_pass hempty ..)))
      (show 0x0805 ≠ 0x0609 by decide) rfl
  case saInstall =>
    intro p _ _ hsc hkek hparam hauth hvalid hfree hlive
    exact Accepts.intro rfl ((Rule.need_pass (decide_eq_true hsc) ..).trans ((Rule.need_pass hkek ..).trans
      ((Rule.need_pass hparam ..).trans ((needAuth_pass hauth _).trans ((Rule.need_pass hvalid ..).trans
      ((Rule.need_pass hfree ..).trans (Rule.need_pass hlive ..)))))))
      (show 0x0806 ≠ 0x0609 by decide) rfl
  case saDelete =>
    intro sc dir an hsc hdir han hpresent hidle
    exact Accepts.intro rfl ((scRange_pass hsc hdir _).trans ((Rule.need_pass (decide_eq_true han) ..).trans
      ((Rule.need_pass hpresent ..).trans (Rule.need_pass hidle ..)))) (show 0x0807 ≠ 0x0609 by decide) rfl
  case txSaSelect =>
    intro sc an hsc hdir han hpresent
    exact Accepts.intro rfl ((scRange_pass hsc hdir _).trans ((Rule.need_pass (decide_eq_true han) ..).trans
      (Rule.need_pass hpresent ..))) (show 0x0808 ≠ 0x0609 by decide) rfl
  case saStatusGet =>
    intro sc dir an _ hsc hdir han hvalid
    exact Does.intro rfl ((scRange_pass hsc hdir _).trans ((Rule.need_pass (decide_eq_true han) ..).trans
      (Rule.need_pass hvalid ..)))
  case cipherStatsGet =>
    intro sel clear hindex hkind his
    refine Does.intro rfl ((Rule.need_pass (decide_eq_true hindex) ..).trans
      ((Rule.need_pass (decide_eq_true hkind) ..).trans ((Rule.need_pass his ..).trans ((statsRule_eq ..).trans ?_))))
    rw [List.append_nil]
    rfl
  case cipherEngineSet =>
    exact fun engine count windowNs hengine hparam =>
      Does.intro rfl ((engineRange_pass hengine _).trans (Rule.need_pass hparam ..))
  case cipherEngineRestore =>
    exact fun engine hengine hquiet => Does.intro rfl ((engineRange_pass hengine _).trans (Rule.need_pass hquiet ..))
  case laContextLoad =>
    intro ctx kind wrapCtx key erased hctx hwrap hkind hauth hlive
    have hrest (rest : Rule) : Rule.need (decide (kind < 3)) .param
        (needAuth (erased || (t.keyOf wrapCtx key).isSome) (.need (!erased) .conflict rest)) = rest :=
      (Rule.need_pass (decide_eq_true hkind) ..).trans ((needAuth_pass hauth _).trans (Rule.need_pass hlive ..))
    refine Does.intro rfl ((ctxRange_pass hctx _).trans ?_)
    cases wrapCtx with
    | none => exact hrest _
    | some w => exact (ctxRange_pass (hwrap w rfl) _).trans (hrest _)
  case laContextExport => exact fun ctx hctx => Does.intro rfl (ctxRange_pass hctx _)
  case laContextImport =>
    intro ctx b _ hctx hparam hauth hsvn hlive hfree
    exact Does.intro rfl ((ctxRange_pass hctx _).trans ((Rule.need_pass hparam ..).trans ((needAuth_pass hauth _).trans
      ((Rule.need_pass (decide_eq_true hsvn) ..).trans ((Rule.need_pass hlive ..).trans (Rule.need_pass hfree ..))))))
  case laContextClear => exact fun ctx hctx => Does.intro rfl (ctxRange_pass hctx _)
  case laCrypt =>
    intro ctx op iv aad data hctx hparam hlive hop
    exact Waits.intro rfl ((ctxRange_pass hctx _).trans ((Rule.need_pass hparam ..).trans ((Rule.need_pass hlive ..).trans
      (Rule.need_pass hop ..))))

/-! ## O47 -/

/-- Settles O47, clause by clause, in the order of the statement. A match inside a next state is compiled apart for the
statement and for the event's definition where they stand in separate files: `rfl` identifies the two. -/
theorem rollbackEvents : Obligations.RollbackEvents := by
  intro s
  refine ⟨?icvVerdict, ?tagResolve, ?rollbackZeroWrite, ?rollbackFree, ?specTagReturn, ?cipherBlockMismatch,
    ?laMessageRequest, ?laMessageComplete, ?laPriorityAge⟩
  case icvVerdict =>
    intro pid ok
    cases hp : s.pkt pid <;> simp only [ite_next_eq] <;>
      simp only [exec, execIcvVerdict, hp, apply_ite Host.Outcome.next]
  case tagResolve | rollbackZeroWrite | rollbackFree | specTagReturn =>
    intro tag htag
    cases hp : s.tagPkt tag <;> simp only [ite_next_eq] <;> exact (onUnit_next htag ..).trans (by simp only [hp] <;> rfl)
  case cipherBlockMismatch => exact fun engine agree obj hengine => onUnit_next (decide_eq_true hengine) ..
  case laMessageRequest => exact fun m hm => onUnit_next hm ..
  case laMessageComplete =>
    simp only [exec, execLaMessageComplete]
    cases s.cipher.running <;> simp only [ite_next_eq] <;> rfl
  case laPriorityAge =>
    intro id
    simp only [exec, execLaPriorityAge]
    cases s.laHolder id <;> simp only [ite_next_eq]

end Sys2Proof.Machine
end

section
/-! PROOF. Liveness of slots and the default parse program (O24), the rule actions that R118 refuses (O27), and every
rule-plane command (O35). A command is its rule, whose checks are passed or failed one by one. -/

namespace Sys2Proof

/-- A write of anything but the default is read back, in canonical form or not. -/
theorem Arr.get_set_self_of_ne {α : Type} [DecidableEq α] {d : α} (a : Arr α) (i : Nat) {v : α} (h : v ≠ d) :
    (a.set d i v).get d i = v := by
  induction a with
  | nil => simp [Arr.set, Arr.get, h]
  | cons p a ih =>
    obtain ⟨j, w⟩ := p
    unfold Arr.set
    split_ifs with hlt heq <;> simp [Arr.get, *]

namespace Machine

/-! ## O24: liveness (R125) -/

theorem Stamp.born_iff (t : Stamp) (v : BitVec 16) :
    t.born v = true ↔ ¬ (t.birthSet = true ∧ 0x8000 ≤ (v - t.birth).toNat) := by
  simp only [Stamp.born, Bool.not_eq_true', Bool.and_eq_false_iff, decide_eq_false_iff_not, not_and_or, Bool.not_eq_true]

theorem Stamp.not_dead_iff (t : Stamp) (v : BitVec 16) :
    (!t.dead v) = true ↔ ¬ (t.deathSet = true ∧ (v - t.death).toNat < 0x8000) := by
  simp only [Stamp.dead, Bool.not_eq_true', Bool.and_eq_false_iff, decide_eq_false_iff_not, not_and_or, Bool.not_eq_true]

/-! ## O24: the default parse program (R108) -/

theorem objKey_inj {kind i j : Nat} : objKey kind i = objKey kind j ↔ i = j := Nat.add_left_cancel_iff

/-- A slot reads back as it was written, where the store is in canonical form or the slot is not written free. -/
theorem State.objAt_putObjAt_of (s : State) (n : Nat) {v : ObjSlot}
    (h : s.rules.objs.wf (fun _ => ObjSlot.init) = true ∨ v ≠ ObjSlot.init) : (s.putObjAt n v).objAt n = v :=
  h.elim (s.objAt_putObjAt_self n v) (s.rules.objs.get_set_self_of_ne n)

/-- The slots `l` of a kind written one after the other. -/
def State.fillSlots (s : State) (kind : Nat) (f : Nat → ObjSlot) (l : List Nat) : State :=
  l.foldl (fun t i => t.putObjAt (objKey kind i) (f i)) s

/-- A slot that is not among those written is left alone. -/
theorem State.objAt_fillSlots_of_notMem {kind i : Nat} {f : Nat → ObjSlot} {l : List Nat} (h : i ∉ l) (s : State) :
    (s.fillSlots kind f l).objAt (objKey kind i) = s.objAt (objKey kind i) := by
  induction l generalizing s with
  | nil => rfl
  | cons j l ih =>
    obtain ⟨hj, hl⟩ := not_or.mp (List.mem_cons.not.mp h)
    exact (ih hl _).trans (s.objAt_putObjAt_ne _ _ _ (objKey_inj.not.mpr hj))

/-- A slot among those written holds what was written to it. -/
theorem State.objAt_fillSlots_of_mem {kind i : Nat} {f : Nat → ObjSlot} {l : List Nat} (hi : i ∈ l) (s : State)
    (h : s.rules.objs.wf (fun _ => ObjSlot.init) = true ∨ f i ≠ ObjSlot.init) :
    (s.fillSlots kind f l).objAt (objKey kind i) = f i := by
  induction l generalizing s with
  | nil => exact absurd hi List.not_mem_nil
  | cons j l ih =>
    by_cases hl : i ∈ l
    · exact ih hl _ (h.imp_left (Arr.wf_set s.rules.objs _ _))
    · obtain rfl : i = j := (List.mem_cons.mp hi).resolve_right hl
      exact (State.objAt_fillSlots_of_notMem hl _).trans (s.objAt_putObjAt_of _ h)

/-- What firmware loads into a parse slot at BOOT: an entry of its program, or nothing. -/
def loadedSlot (program : List (BitVec 128)) (i : Nat) : ObjSlot :=
  ((parseImage program)[i]?).elim ObjSlot.init fun w => { valid := true, id := 0, stamp := Stamp.init, val := .parse w }

theorem State.loadParse_eq (s : State) (program : List (BitVec 128)) : s.loadParse program =
    { s with rules.program := parseImage program }.fillSlots kindParse (loadedSlot program) (List.range 512) := by
  have hslot (i : Nat) : loadedSlot program i = match (parseImage program)[i]? with
      | some w => { valid := true, id := 0, stamp := Stamp.init, val := .parse w }
      | none => ObjSlot.init := by
    unfold loadedSlot
    cases (parseImage program)[i]? <;> rfl
  simp only [State.fillSlots, hslot]
  rfl

/-- Each of the 512 parse slots is loaded. -/
theorem State.objAt_loadParse (s : State) (program : List (BitVec 128)) {i : Nat} (hi : i < 512)
    (h : s.rules.objs.wf (fun _ => ObjSlot.init) = true ∨ loadedSlot program i ≠ ObjSlot.init) :
    (s.loadParse program).objAt (objKey kindParse i) = loadedSlot program i := by
  rw [State.loadParse_eq]
  exact State.objAt_fillSlots_of_mem (List.mem_range.mpr hi) _ h

theorem length_parseImage (program : List (BitVec 128)) : (parseImage program).length = 288 := by simp [parseImage]

/-- The first 288 slots get the program's entries. -/
theorem loadedSlot_of_lt (program : List (BitVec 128)) {i : Nat} (h : i < 288) :
    ∃ w, loadedSlot program i = { valid := true, id := 0, stamp := Stamp.init, val := .parse w } :=
  ⟨_, by rw [loadedSlot, List.getElem?_eq_getElem (h.trans_eq (length_parseImage program).symm)]; rfl⟩

/-- The slots from 288 on get no entry. -/
theorem loadedSlot_of_le (program : List (BitVec 128)) {i : Nat} (h : 288 ≤ i) : loadedSlot program i = ObjSlot.init := by
  rw [loadedSlot, List.getElem?_eq_none ((length_parseImage program).trans_le h)]
  rfl

/-- Settles O24: the model's two tests are R125's function, and the program fills the first 288 of the 512 slots. -/
theorem liveSlots : Obligations.LiveSlots := by
  refine ⟨fun o v => ?obj, fun b v => ?exactMatch, fun s program i => ?loaded⟩
  case obj => simp only [ObjSlot.live, Bool.and_eq_true, Stamp.born_iff, Stamp.not_dead_iff, and_assoc]
  case exactMatch =>
    have hversioned : slotLive 1 b v = ((slotStamp b).born v && !(slotStamp b).dead v) := rfl
    simp only [hversioned, Bool.and_eq_true, Stamp.born_iff, Stamp.not_dead_iff]
  case loaded =>
    refine ⟨fun hi => ?entry, fun hwf hlo hhi => ?unused⟩
    case entry =>
      obtain ⟨w, hw⟩ := loadedSlot_of_lt program hi
      have hne : loadedSlot program i ≠ ObjSlot.init := by simp [hw, ObjSlot.init]
      rw [s.objAt_loadParse program (by omega) (.inr hne), hw]
      exact ⟨rfl, rfl, rfl⟩
    case unused => exact (s.objAt_loadParse program hhi (.inl hwf)).trans (loadedSlot_of_le program hlo)

/-! ## O27 -/

/-- An ingress rule with TXSC_EN is no rule (R118). -/
theorem ruleOk_of_ingress_txsc {r : RuleRec} (hdir : r.dir = 0) (hsc : bit r.action 62 = true) : ruleOk r = false := by
  simp [ruleOk, hdir, hsc]

/-- An egress rule with FWD_OP beyond DROP, TC_EN, META_EN, or MIRROR_EN with DROP is no rule (R118). -/
theorem ruleOk_of_egress_action {r : RuleRec} (hdir : r.dir = 1)
    (h : 1 < fld r.action 127 125 ∨ bit r.action 108 = true ∨ bit r.action 41 = true ∨
      (bit r.action 97 = true ∧ fld r.action 127 125 = 1)) : ruleOk r = false := by
  have haction : (decide (fld r.action 127 125 ≤ 1) && !bit r.action 108 && !bit r.action 41
      && !(bit r.action 97 && fld r.action 127 125 == 1)) = false := by
    rcases h with hop | htc | hmeta | ⟨hmirror, hdrop⟩
    · simp [Nat.not_le.mpr hop]
    · simp [htc]
    · simp [hmeta]
    · simp [hmirror, hdrop]
  rw [ruleOk, if_neg (by omega), haction, Bool.and_false]

/-- RULE_ADD of a record that is no rule, for a slot in range, gets BAD_PARAM. -/
theorem ruleRule_bad {r : RuleRec} (hslot : r.slot = 0xFFFF ∨ r.slot < kindSlots r.dir) (hr : ruleOk r = false)
    (h : Hdr) (t : State) : ruleRule r h t = .param :=
  (Rule.need_pass (by rcases hslot with e | e <;> simp [e]) ..).trans (Rule.need_fail hr ..)

/-- Settles O27: what R118 refuses fails the record's checks. -/
theorem ruleActionsRefused : Obligations.RuleActionsRefused := by
  intro s t h r hs hslot _ hbad
  have hr : ruleOk r = false := hbad.elim
    (fun ⟨hdir, hsc⟩ => ruleOk_of_ingress_txsc hdir hsc) (fun ⟨hdir, hact⟩ => ruleOk_of_egress_action hdir hact)
  have hrefuse : Refuses s t h (.ruleAdd h r) (cmdRuleAdd r) stBadParam 0 0 0 :=
    Refuses.intro rfl (ruleRule_bad hslot hr h t)
  exact hrefuse hs

/-! ## O35 -/

/-- A rule that passes the checks of an open Maquette is carried out in its version (R127, R129). -/
theorem State.inMaquette_open {s : State} {v : BitVec 16} (hopen : s.rules.staged = some v) (hseal : s.sealed = false)
    (next : BitVec 16 → Rule) : s.inMaquette next = next v := by
  simp [State.inMaquette, hopen, hseal]

/-- Settles O35, clause by clause, in the order of the statement: the conditions of a clause are the checks of the
command's rule. -/
theorem ruleCommands : Obligations.RuleCommands := by
  intro s t h
  refine ⟨?maquetteOpen, ?maquetteCommit, ?maquetteDiscard, ?ruleAdd, ?objectDelete, ?ruleRead, ?rangeSet, ?parseEntrySet,
    ?keyProfileSet, ?editProfileSet, ?templateSet, ?mirrorSessionSet, ?egressBind, ?versionStatusGet, ?parseStatsGet⟩
  case maquetteOpen =>
    exact fun hclosed hclean => Does.intro rfl ((Rule.need_pass hclosed ..).trans (Rule.need_pass hclean ..))
  case maquetteCommit =>
    intro target
    cases hopen : t.rules.staged with
    | none => trivial
    | some v =>
      intro hseal hlive hsettled hs
      refine Waits.intro rfl ?_ hs
      simp only [cmdMaquetteCommit, Cmd.mirrored, hopen, hs.alone]
      exact (Rule.need_pass hseal ..).trans ((Rule.need_pass (decide_eq_true hlive) ..).trans (Rule.need_pass hsettled ..))
  case maquetteDiscard =>
    exact fun v hopen hseal => Does.intro rfl (State.inMaquette_open hopen hseal _)
  case ruleAdd => exact fun r _ _ => Answers.intro rfl rfl
  case objectDelete =>
    exact fun kind index hindex hkind => Answers.intro rfl
      ((Rule.need_pass hindex ..).trans (Rule.need_pass (decide_eq_true hkind) ..))
  case ruleRead =>
    intro kind slot hslot hkind o hvalid
    cases hpoison : t.rulePoison kind slot with
    | some a => trivial
    | none =>
      refine Does.intro rfl ((Rule.need_pass hslot ..).trans ((Rule.need_pass (decide_eq_true hkind) ..).trans
        ((Rule.need_pass hvalid ..).trans ?_)))
      simp only [hpoison]
      rfl
  case rangeSet =>
    exact fun cmp extract low high hcmp hparam hfree => Does.intro rfl ((Rule.need_pass (decide_eq_true hcmp) ..).trans
      ((Rule.need_pass hparam ..).trans (Rule.need_pass hfree ..)))
  case parseEntrySet =>
    intro slot record u res pl hslot hrecord hput
    refine Does.intro rfl ((Rule.need_pass (decide_eq_true hslot) ..).trans ((Rule.need_pass hrecord ..).trans ?_))
    rw [hput]
    rfl
  case keyProfileSet =>
    exact fun dir id extracts rangeGroup hid hparam => Answers.intro rfl
      ((Rule.need_pass hid ..).trans (Rule.need_pass hparam ..))
  case editProfileSet =>
    exact fun id ops hid hparam => Answers.intro rfl
      ((Rule.need_pass (decide_eq_true hid) ..).trans (Rule.need_pass hparam ..))
  case templateSet =>
    exact fun id bytes hid hlen => Answers.intro rfl
      ((Rule.need_pass (decide_eq_true hid) ..).trans (Rule.need_pass (decide_eq_true hlen) ..))
  case mirrorSessionSet =>
    exact fun session toCpu dest trunc hsession hdest htrunc => Answers.intro rfl
      ((Rule.need_pass (decide_eq_true hsession) ..).trans ((Rule.need_pass (decide_eq_true hdest) ..).trans
        (Rule.need_pass htrunc ..)))
  case egressBind =>
    exact fun port profile hport hprofile => Answers.intro rfl
      ((Rule.need_pass (decide_eq_true hport) ..).trans (Rule.need_pass (decide_eq_true hprofile) ..))
  case versionStatusGet => exact Does.intro rfl rfl
  case parseStatsGet =>
    exact fun pipe clear hpipe => Does.intro rfl ((Rule.need_pass (decide_eq_true hpipe) ..).trans (statsRule_eq ..))

end Machine
end Sys2Proof
end

section
/-! PROOF. Every table-upkeep, staging, Armature and group event (O58), case by case: what the event matches on is split
first, `ite_next_eq` gathers the conditions that are left into one next state, and what is left is the event's definition. -/

namespace Sys2Proof.Machine

/-- Settles O58, clause by clause, in the order of the statement. -/
theorem upkeepEvents : Obligations.UpkeepEvents := by
  intro s
  refine ⟨?ruleWriteLand, ?maquetteCommitAccept, ?turnstileGrant, ?stashWrite, ?stashReinsertPeriod, ?patinaPassStart,
    ?learnService, ?scrubRead, ?lockExpired, ?armJobStart, ?microwordExecute, ?armMemComplete, ?routineEnd,
    ?armPatchQuiesced, ?armPatchActivateTimeout, ?groupPrepared, ?groupPrepareTimeout, ?groupAbandoned⟩
  case ruleWriteLand =>
    simp only [exec, execRuleWriteLand]
    cases hc : s.nextClass with
    | none => simp only [ite_next_eq]
    | some c => cases hw : (s.writesOf c).head? <;> simp only [hw, ite_next_eq]
  case maquetteCommitAccept =>
    simp only [exec, execMaquetteCommitAccept]
    cases s.rules.held with
    | none => rfl
    | some c =>
      cases s.rules.staged with
      | none => rfl
      | some v => cases ho : c.hdr.origin <;> simp only [ho, ite_next_eq]
  case turnstileGrant =>
    intro store bank writeBack hb
    have e : exec (.turnstileGrant store bank writeBack) s = _ := onUnit_next (decide_eq_true hb) ..
    cases hback : s.backFor store bank <;> simpa only [ite_next_eq, hback] using e
  case stashWrite =>
    intro table ht
    have e : exec (.stashWrite table) s = _ := onUnit_next (decide_eq_true ht) ..
    cases hw : s.nextStash table <;> simpa only [ite_next_eq, hw] using e
  case stashReinsertPeriod => exact fun table ht => (ite_next_eq ..).mpr (onUnit_next (decide_eq_true ht) ..)
  case patinaPassStart =>
    intro table ht
    simp only [ite_next_eq]
    exact onUnit_next (decide_eq_true ht) ..
  case learnService => exact (ite_next_eq ..).mpr rfl
  case scrubRead =>
    intro store bank found hu
    simp only [ite_next_eq]
    exact onUnit_next hu ..
  case lockExpired => exact fun lock hl => (ite_next_eq ..).mpr (onUnit_next (decide_eq_true hl) ..)
  case armJobStart =>
    intro engine he
    have e : exec (.armJobStart engine) s = _ := onUnit_next (decide_eq_true he) ..
    cases hq : (s.engine engine).queue <;> simpa only [ite_next_eq, hq] using e
  case microwordExecute =>
    intro engine found he
    have e : exec (.microwordExecute engine found) s = _ := onUnit_next (decide_eq_true he) ..
    cases hj : (s.engine engine).job <;> simpa only [ite_next_eq, hj] using e
  case armMemComplete =>
    intro engine he
    simp only [ite_next_eq]
    exact onUnit_next (decide_eq_true he) ..
  case routineEnd => exact fun engine he => (ite_next_eq ..).mpr (onUnit_next (decide_eq_true he) ..)
  case armPatchQuiesced =>
    simp only [exec, execArmPatchQuiesced]
    cases s.arm.quiescing with
    | none => rfl
    | some q => cases s.arm.staged <;> simp only [ite_next_eq]
  case armPatchActivateTimeout =>
    simp only [exec, execArmPatchActivateTimeout]
    cases s.arm.quiescing <;> simp only [ite_next_eq]
  case groupPrepared =>
    simp only [exec, execGroupPrepared]
    cases s.group.bind fun g => g.commit.map fun c => (g, c) with
    | none => rfl
    | some x =>
      obtain ⟨g, h, target, _⟩ := x
      cases hf : g.failed with
      | some f => simp only [hf, ite_next_eq]
      | none => cases hp : s.cannotPrepare g <;> simp only [hf, hp, ite_next_eq]
  case groupPrepareTimeout =>
    simp only [exec, execGroupPrepareTimeout]
    cases s.group.bind fun g => g.commit.map fun c => (g, c) <;> simp only [ite_next_eq]
  case groupAbandoned =>
    simp only [exec, execGroupAbandoned]
    cases s.group with
    | none => rfl
    | some g => cases hi : s.illegalPart g <;> simp only [hi, ite_next_eq]

end Sys2Proof.Machine
end

section
/-! PROOF. A DIRECT_WRITE of the second half of a width-2 entry, which refutes O34. -/

namespace Sys2Proof.Machine

/-! ## O34

In a second half (HALF, bit 208) R143 reserves bits [15:0], and DIRECT_WRITE stores reserved bits as zeros (R7); the clause
of O34 about DIRECT_WRITE clears bits [6:0] alone, whatever HALF is. -/

/-- The write of the slot image `image` to index `index` of a DIRECT table is begun (R149, R163). -/
def State.writeDirect (t : State) (h : Hdr) (table index : Nat) (image : BitVec 256) : State :=
  let r := (t.table table).rcd
  let i := index / r.bankCount
  let bank := r.baseBank + index % r.bankCount
  let j := t.newJob h 0x0408 table bank (i / 4) .none
  t.startJob j [(0, bank, .cmdWrite j.id (i / 4) (i % 4) image)] 7

/-- The write that waits for its maintenance cycle carries its image: begun with two images, it leaves two states. -/
theorem State.writeDirect_hold_inj {t : State} {h : Hdr} {table index op : Nat} {dg : Option (List Byte)}
    {a b : BitVec 256} (e : (t.writeDirect h table index a).hold h op dg = (t.writeDirect h table index b).hold h op dg) :
    a = b := by
  have hreq := List.append_cancel_left (congrArg (fun s => s.tables.maint) e)
  injection hreq with hreq
  injection hreq with _ _ _ hop
  injection hop

/-- A DIRECT_WRITE to a table that is not VERSIONED is taken with the slot's reserved bits as zeros (R7, R143, R163). -/
theorem directWrite_waits {s t : State} {h : Hdr} {table index : Nat} {slot : BitVec 256} (htable : table < 32)
    (hvalid : (t.table table).valid = true) (hindex : index < (t.table table).rcd.bankCount * 4096)
    (hdata : dataOk (slotData slot) = true) (hkind : (t.table table).rcd.kind = 1)
    (hversioned : (t.table table).rcd.versioned ≠ 1) :
    Waits s t h (.directWrite h table index slot) (cmdDirectWrite table index slot)
      (t.writeDirect h table index (slotClean slot)) 0 :=
  Waits.intro rfl ((Rule.need_pass (decide_eq_true htable) ..).trans ((Rule.need_pass (by simp [hindex]) ..).trans
    ((Rule.need_pass (by simp [hdata, hkind]) ..).trans ((Rule.need_pass hvalid ..).trans (if_neg hversioned)))))

/-- A host command of version 3.2 on ring 0 of function 0. -/
def hostHdr : Hdr :=
  { origin := .host 0 0 0, verMajor := 3, verMinor := 2, twin := false, group := false, notify := false
    reservedZero := true, target := 0, tag := 0, len := 0, cmdLen := 32, sizeOk := true, groupId := 0, replyLen := 0 }

/-- A running device in CONFIGURE whose table 1 is a DIRECT table, not VERSIONED; its ring 0 has given it a DIRECT_WRITE,
not yet started or started. -/
def directWriter (started : Bool) : State :=
  { (State.reset.putHring 0 { Ring.init 0 with en := true }).putTable 1
      { TableDef.init with valid := true, rcd := { TableRec.init with kind := 1, baseBank := 2, versioned := 0 } } with
    clock.running := true
    cmd.dev := .configure
    cmd.sessions := [{ sender := 0, target := 0, major := 3, minor := 2, telemetry := 1 }]
    cmd.taken := [(0, some { hdr := hostHdr, opcode := 0x0408, started := started, dead := false })] }

/-- A second half of an entry with its reserved bit 7 set. -/
def markedHalf : BitVec 256 := 1 <<< 208 ||| 1 <<< 7

/-- The command starts: its turn on ring 0 has come, and it passes steps 1 to 8 of R348. -/
theorem starts_directWrite : Starts (directWriter false) (directWriter true) hostHdr (cmdDirectWrite 1 0 markedHalf) where
  begin := rfl
  notTwin := rfl
  here := rfl
  alone := rfl
  checks := by decide
  gate := rfl
  own := rfl

/-- Refutes O34: its DIRECT_WRITE clause keeps bits [15:7] of a second half, which the model, as R143 asks, stores as
zeros. -/
theorem not_tableCommands : ¬ Obligations.TableCommands := by
  intro h
  obtain ⟨-, -, -, -, -, -, -, hDirect, -⟩ := h (directWriter false) (directWriter true) hostHdr
  have hdata : dataOk (slotData markedHalf) = true := by decide
  have hmodel : exec (.directWrite hostHdr 1 0 markedHalf) (directWriter false) = .next
      (((directWriter true).writeDirect hostHdr 1 0 (slotClean markedHalf)).hold hostHdr 0x0408
        (cmdDirectWrite 1 0 markedHalf).extends) :=
    directWrite_waits (by decide) rfl (by decide) hdata rfl (by decide) starts_directWrite (Nat.zero_le _)
  have hclaim : exec (.directWrite hostHdr 1 0 markedHalf) (directWriter false) = .next
      (((directWriter true).writeDirect hostHdr 1 0
        (setFld (setFld (setFld markedHalf 254 254 0) 213 209 0) 6 0 0)).hold hostHdr 0x0408
        (cmdDirectWrite 1 0 markedHalf).extends) :=
    (hDirect 1 0 markedHalf (by decide) rfl (by decide) hdata rfl).2 (by decide) starts_directWrite (Nat.zero_le _)
  have himage : slotClean markedHalf = setFld (setFld (setFld markedHalf 254 254 0) 213 209 0) 6 0 0 :=
    State.writeDirect_hold_inj (Host.Outcome.next.inj (hmodel.symm.trans hclaim))
  exact absurd himage (by decide)

end Sys2Proof.Machine
end

section
/-! PROOF. Every egress, buffer and Trellis command (O36) and every buffer, scheduler and Trellis event (O48). A command
is its rule, whose checks are passed one by one; an event follows its own case distinction, gathered by `ite_next_eq` into
one next state. -/

namespace Sys2Proof.Machine

/-! ## The range checks that these commands share -/

theorem queueRange_pass {s : State} {queue : Nat} (hqueue : queue < 9472) (hexists : s.queueExists queue = true)
    (rest : Rule) : queueRange s queue rest = rest :=
  (Rule.need_pass (decide_eq_true hqueue) ..).trans (Rule.need_pass hexists ..)

/-- The shaper of a port or a queue that exists passes its check. -/
theorem shaperRange_pass {s : State} {isPort : Bool} {index : Nat}
    (h : if isPort then index < 1024 ∧ s.isPort index = true else index < 9472 ∧ s.queueExists index = true)
    (rest : Rule) : shaperRange s isPort index rest = rest := by
  cases isPort with
  | true => exact portRange_pass h.1 h.2 rest
  | false => exact queueRange_pass h.1 h.2 rest

theorem needRange_pass {r : Option Nat} (h : r = none) (rest : Rule) : needRange r rest = rest := by rw [h]; rfl

/-- A statistics rule without gauges returns the counters alone. -/
theorem statsRule_noGauges (s : State) (l : List (Ctr × Nat)) (clear : Bool) :
    statsRule s l [] clear = .done (if clear then s.clearCtrs l else s) stOk 0 0
      (if clear then s.ctrsBefore l else s.ctrVals l) := by
  rw [statsRule_eq, List.append_nil]

/-! ## O36 -/

/-- Settles O36, clause by clause, in the order of the statement: the conditions of a clause are the checks of the
command's rule. -/
theorem egressAndBufferCommands : Obligations.EgressAndBufferCommands := by
  intro s t h
  refine ⟨?queueModeSet, ?queueSchedSet, ?queueSchedGet, ?shaperSet, ?shaperGet, ?portSchedSet, ?tcMapSet, ?portSchedGet,
    ?gateListClear, ?gateStatusGet, ?egressStatsGet, ?bufferPoolSet, ?bufferPoolGet, ?queueAdmitSet, ?queueAdmitGet,
    ?pgSet, ?bufferStatsGet, ?bufferCellRead, ?trellisRetire, ?trellisRestore, ?trellisStatusGet, ?mcastGroupSet,
    ?mcastGroupGet, ?mcastGroupDelete, ?cutThroughSet, ?trellisStatsGet⟩
  case queueModeSet =>
    exact fun octet q16 hoctet hidle heven => Accepts.intro rfl ((Rule.need_pass (decide_eq_true hoctet) ..).trans
      ((Rule.need_pass hidle ..).trans (Rule.need_pass heven ..))) (show 0x0601 ≠ 0x0609 by decide) rfl
  case queueSchedSet =>
    intro queue record fields hqueue _ hparam hexists hdomain
    exact Accepts.intro rfl ((Rule.need_pass (decide_eq_true hqueue) ..).trans ((Rule.need_pass hparam ..).trans
      ((Rule.need_pass hexists ..).trans (Rule.need_pass hdomain ..)))) (show 0x0602 ≠ 0x0609 by decide) rfl
  case queueSchedGet => exact fun queue hqueue hexists => Does.intro rfl (queueRange_pass hqueue hexists _)
  case shaperSet =>
    intro isPort index record hindex hparam hexists
    exact Accepts.intro rfl ((Rule.need_pass (decide_eq_true hindex) ..).trans ((Rule.need_pass hparam ..).trans
      (shaperRange_pass hexists _))) (show 0x0604 ≠ 0x0609 by decide) rfl
  case shaperGet => exact fun isPort index hexists => Does.intro rfl (shaperRange_pass hexists _)
  case portSchedSet =>
    intro port record fields hport hparam _ his
    exact Accepts.intro rfl ((Rule.need_pass (decide_eq_true hport) ..).trans ((Rule.need_pass hparam ..).trans
      (portRange_pass hport his _))) (show 0x0606 ≠ 0x0609 by decide) rfl
  case tcMapSet =>
    intro port map hport hparam _ his
    exact Accepts.intro rfl ((Rule.need_pass (decide_eq_true hport) ..).trans ((Rule.need_pass hparam ..).trans
      (portRange_pass hport his _))) (show 0x0607 ≠ 0x0609 by decide) rfl
  case portSchedGet => exact fun port hport his => Does.intro rfl (portRange_pass hport his _)
  case gateListClear =>
    exact fun port hport his => Accepts.intro rfl (portRange_pass hport his _) (show 0x060A ≠ 0x0609 by decide) rfl
  case gateStatusGet => exact fun port hport his => Does.intro rfl (portRange_pass hport his _)
  case egressStatsGet =>
    intro isPort index clear hexists
    refine ⟨fun hp => Does.intro rfl ((shaperRange_pass hexists _).trans ?_),
      fun hq => Does.intro rfl ((shaperRange_pass hexists _).trans ?_)⟩
    · exact (if_pos hp).trans (statsRule_noGauges ..)
    · exact (if_neg hq).trans (statsRule_noGauges ..)
  case bufferPoolSet =>
    exact fun sizes pushout hsizes => Accepts.intro rfl (Rule.need_pass hsizes ..) (show 0x0640 ≠ 0x0609 by decide) rfl
  case bufferPoolGet => exact Does.intro rfl rfl
  case queueAdmitSet =>
    intro queue record fields hqueue hparam hexists hmin
    exact Accepts.intro rfl ((Rule.need_pass (decide_eq_true hqueue) ..).trans ((Rule.need_pass hparam ..).trans
      ((Rule.need_pass hexists ..).trans (Rule.need_pass hmin ..)))) (show 0x0642 ≠ 0x0609 by decide) rfl
  case queueAdmitGet => exact fun queue hqueue hexists => Does.intro rfl (queueRange_pass hqueue hexists _)
  case pgSet =>
    intro port prio xoff xon headroom hport hprio hparam his
    exact Accepts.intro rfl ((Rule.need_pass (decide_eq_true hport) ..).trans
      ((Rule.need_pass (decide_eq_true hprio) ..).trans ((Rule.need_pass hparam ..).trans (Rule.need_pass his ..))))
      (show 0x0644 ≠ 0x0609 by decide) rfl
  case bufferStatsGet => exact fun sel clear => Answers.intro rfl rfl
  case bufferCellRead =>
    intro first count hfirst hlast hcount
    cases hbad : ((List.range count).map (first + ·)).find? fun n => (t.cellAt n).quarantined with
    | some n => trivial
    | none =>
      refine Does.intro rfl ((Rule.need_pass (decide_eq_true hfirst) ..).trans
        ((Rule.need_pass (decide_eq_true hlast) ..).trans ((Rule.need_pass hcount ..).trans ?_)))
      simp only [hbad]
      rfl
  case trellisRetire =>
    intro e drainLimit he hlimit hlive
    exact Accepts.intro rfl ((needRange_pass he _).trans ((Rule.need_pass hlimit ..).trans (Rule.need_pass hlive ..)))
      (show 0x0660 ≠ 0x0609 by decide) rfl
  case trellisRestore => exact fun e => Answers.intro rfl rfl
  case trellisStatusGet => exact fun e he => Does.intro rfl (needRange_pass he _)
  case mcastGroupSet =>
    intro group self members hgroup hmembers hlen hports hroom
    exact Accepts.intro rfl ((Rule.need_pass (decide_eq_true hgroup) ..).trans ((needRange_pass hmembers _).trans
      ((Rule.need_pass (decide_eq_true hlen) ..).trans ((Rule.need_pass hports ..).trans
        (Rule.need_pass (decide_eq_true hroom) ..))))) (show 0x0663 ≠ 0x0609 by decide) rfl
  case mcastGroupGet =>
    intro group hgroup
    cases hg : t.mgroup group with
    | none => trivial
    | some g =>
      refine Does.intro rfl ((Rule.need_pass (decide_eq_true hgroup) ..).trans ?_)
      simp only [hg]
      rfl
  case mcastGroupDelete =>
    intro group hgroup hset
    exact Accepts.intro rfl ((Rule.need_pass (decide_eq_true hgroup) ..).trans (Rule.need_pass hset ..))
      (show 0x0665 ≠ 0x0609 by decide) rfl
  case cutThroughSet =>
    intro port en start hport hstart his
    exact Accepts.intro rfl ((Rule.need_pass (decide_eq_true hport) ..).trans ((Rule.need_pass hstart ..).trans
      (Rule.need_pass his ..))) (show 0x0666 ≠ 0x0609 by decide) rfl
  case trellisStatsGet => exact fun sel clear => Answers.intro rfl rfl

/-! ## O48 -/

/-- Settles O48, clause by clause, in the order of the statement. -/
theorem bufferEvents : Obligations.BufferEvents := by
  intro s
  refine ⟨?admitHead, ?stageATransfer, ?freeLand, ?freeListRebuildDone, ?handOver, ?shaperRefill, ?portMatch, ?stageBRead,
    ?reseqRelease, ?reseqTimeout, ?portDownPolicy, ?portHoldExpired, ?pfcWatchdog, ?pfcWdRestored, ?partitionDrainEnd,
    ?drainLimitExpiry, ?partitionRebuildDone⟩
  case admitHead =>
    intro pid
    cases hp : s.pkt pid <;> simp only [ite_next_eq] <;>
      simp only [exec, execAdmitHead, hp, apply_ite Host.Outcome.next]
  case stageATransfer => exact fun slice errs hs => (ite_next_eq ..).mpr (onUnit_next (decide_eq_true hs) ..)
  case freeLand => exact fun part hp => (ite_next_eq ..).mpr (onUnit_next (decide_eq_true hp) ..)
  case freeListRebuildDone => exact fun part bank hu => (ite_next_eq ..).mpr (onUnit_next hu ..)
  case handOver => exact fun port hp => (ite_next_eq ..).mpr (onUnit_next (decide_eq_true hp) ..)
  case shaperRefill => exact (ite_next_eq ..).mpr rfl
  case portMatch => exact fun slice hs => (ite_next_eq ..).mpr (onUnit_next (decide_eq_true hs) ..)
  case stageBRead =>
    intro slice part err hu
    have e : exec (.stageBRead slice part err) s = _ := onUnit_next hu ..
    cases hm : (s.slice slice).matched.find? fun m => m.1 == part <;> simpa only [ite_next_eq, hm] using e
  case reseqRelease => exact fun slice hs => (ite_next_eq ..).mpr (onUnit_next (decide_eq_true hs) ..)
  case reseqTimeout =>
    intro cid
    simp only [exec, execReseqTimeout]
    cases s.copy cid with
    | none => rfl
    | some c =>
      cases hp : s.pkt c.pkt <;> cases hi : s.missing c <;>
        simp only [hp, hi, ite_next_eq, apply_ite Host.Outcome.next]
  case portDownPolicy =>
    intro port hp
    simp only [ite_next_eq]
    exact onUnit_next (decide_eq_true hp) ..
  case portHoldExpired =>
    intro port e hp
    exact (ite_next_eq ..).mpr (onUnit_next (decide_eq_true hp) ..)
  case pfcWatchdog =>
    intro queue hq
    have e : exec (.pfcWatchdog queue) s = _ := onUnit_next (decide_eq_true hq) ..
    cases hp : s.queuePort queue <;> cases hw : (s.equeue queue).wdFrom <;> simpa only [ite_next_eq, hp, hw] using e
  case pfcWdRestored =>
    intro queue hq
    have e : exec (.pfcWdRestored queue) s = _ := onUnit_next (decide_eq_true hq) ..
    cases hp : s.queuePort queue <;> cases hc : (s.equeue queue).clearFrom <;> simpa only [ite_next_eq, hp, hc] using e
  case partitionDrainEnd => exact fun part hp => (ite_next_eq ..).mpr (onUnit_next (decide_eq_true hp) ..)
  case drainLimitExpiry =>
    intro part q hp
    exact (ite_next_eq ..).mpr (onUnit_next (decide_eq_true hp) ..)
  case partitionRebuildDone => exact fun part hp => (ite_next_eq ..).mpr (onUnit_next (decide_eq_true hp) ..)

end Sys2Proof.Machine
end

section
/-! PROOF. The rotation of the stage A channels over the partitions (O25): R242 calls its stage B channel the inverse of
R235, and that inverse is what makes the rotation reach each partition once. -/

namespace Sys2Proof.Machine

/-! ## O25 -/

theorem State.stageAPart_lt (s : State) (i j : Nat) : s.stageAPart i j < 16 := Nat.mod_lt _ (by decide)

theorem stageBChan_lt (p e t : Nat) : stageBChan p e t < 16 := Nat.mod_lt _ (by decide)

/-- Stage B's channel is the inverse of stage A's rotation (R242). -/
theorem State.stageAPart_eq_iff {s : State} {i j p : Nat} (hj : j < 16) (hp : p < 16) :
    s.stageAPart i j = p ↔ j = stageBChan p (i % 16) s.tickStamp := by
  unfold State.stageAPart stageBChan
  omega

/-- Two channels of a slice with one partition are both that partition's stage B channel. -/
theorem State.stageAPart_inj {s : State} {i j k : Nat} (hj : j < 16) (hk : k < 16)
    (h : s.stageAPart i j = s.stageAPart i k) : j = k :=
  have hp := s.stageAPart_lt i k
  ((stageAPart_eq_iff hj hp).mp h).trans ((stageAPart_eq_iff hk hp).mp rfl).symm

/-- Settles O25: the channel that reaches a partition is the partition's stage B channel. -/
theorem stageARotation : Obligations.StageARotation := by
  intro s i
  refine ⟨fun _ => rfl, fun _ _ => State.stageAPart_inj, fun p hp => ?_⟩
  have hchan := stageBChan_lt p (i % 16) s.tickStamp
  exact ⟨_, hchan, (State.stageAPart_eq_iff hchan hp).mpr rfl, fun _ hk => (State.stageAPart_eq_iff hk hp).mp⟩

end Sys2Proof.Machine
end

section
/-! PROOF. Every time command (O37) and every twin-link event (O55). A command is its rule, whose checks are passed one by
one; an event follows its own case distinction: what it matches on is split first, and `ite_next_eq` gathers the
conditions that are left into one next state. -/

namespace Sys2Proof.Machine

/-! ## O37 -/

theorem tdRange_pass {domain : Nat} (h : domain < 8) (rest : Rule) : tdRange domain rest = rest :=
  Rule.need_pass (decide_eq_true h) ..

theorem pinRange_pass {pin : Nat} (h : pin < 4) (rest : Rule) : pinRange pin rest = rest :=
  Rule.need_pass (decide_eq_true h) ..

/-- Settles O37, clause by clause, in the order of the statement: the conditions of a clause are the checks of the
command's rule. -/
theorem timeCommands : Obligations.TimeCommands := by
  intro s t h
  refine ⟨?timeDomainSet, ?timeGet, ?timeSet, ?timeStep, ?timeAdjust, ?timeHoldover, ?timeStatusGet, ?timePortSet,
    ?timePortGet, ?ppsSet, ?ppsRead, ?timeStatsGet⟩
  case timeDomainSet =>
    intro domain adj hostWd holdMax _ hdomain hparam htwin
    exact Does.intro rfl ((tdRange_pass hdomain _).trans ((Rule.need_pass hparam ..).trans (Rule.need_pass htwin ..)))
  case timeGet => exact fun domain hdomain => Does.intro rfl (tdRange_pass hdomain _)
  case timeSet =>
    intro domain sec ns frac atPps _ hdomain hpin hparam htwin
    cases atPps with
    | some p =>
      exact Does.intro rfl ((tdRange_pass hdomain _).trans ((pinRange_pass (hpin p rfl) _).trans
        ((Rule.need_pass hparam ..).trans (Rule.need_pass htwin ..))))
    | none =>
      exact Does.intro rfl ((tdRange_pass hdomain _).trans ((Rule.need_pass hparam ..).trans (Rule.need_pass htwin ..)))
  case timeStep =>
    intro domain backward sec ns frac _ _ hdomain hparam htwin
    exact Waits.intro rfl ((tdRange_pass hdomain _).trans ((Rule.need_pass hparam ..).trans (Rule.need_pass htwin ..)))
  case timeAdjust =>
    intro domain adj _ hdomain hparam htwin
    exact Does.intro rfl ((tdRange_pass hdomain _).trans ((Rule.need_pass hparam ..).trans (Rule.need_pass htwin ..)))
  case timeHoldover =>
    intro domain enter hdomain
    cases hst : (t.domain domain).st with
    | free | twin => trivial
    | tracking | holdover =>
      refine ⟨fun hin => Does.intro rfl ((tdRange_pass hdomain _).trans ?_),
        fun hout => Does.intro rfl ((tdRange_pass hdomain _).trans ?_)⟩
      · simp only [hst]
        exact if_pos hin
      · simp only [hst]
        exact if_neg hout
  case timeStatusGet =>
    intro domain _ hdomain
    exact Does.intro rfl (tdRange_pass hdomain _)
  case timePortSet =>
    exact fun port record fields hport his => Accepts.intro rfl (portRange_pass hport his _)
      (show 0x0708 ≠ 0x0609 by decide) rfl
  case timePortGet => exact fun port hport his => Does.intro rfl (portRange_pass hport his _)
  case ppsSet =>
    intro pin dir domain activeLow offsetNs widthNs hpin hdomain hparam
    exact Does.intro rfl ((pinRange_pass hpin _).trans ((tdRange_pass hdomain _).trans (Rule.need_pass hparam ..)))
  case ppsRead =>
    intro pin count _ hpin hcount
    exact Does.intro rfl ((pinRange_pass hpin _).trans (Rule.need_pass (decide_eq_true hcount) ..))
  case timeStatsGet =>
    intro isPort index clear
    exact ⟨fun hp hport his => Does.intro rfl ((if_pos hp).trans ((portRange_pass hport his _).trans
        (statsRule_noGauges ..))),
      fun hp hpin => Does.intro rfl ((if_neg hp).trans ((pinRange_pass hpin _).trans (statsRule_noGauges ..)))⟩

/-! ## O55 -/

/-- Settles O55, clause by clause, in the order of the statement. -/
theorem twinEvents : Obligations.TwinEvents := by
  intro s
  refine ⟨?colonnadeFrameRx, ?colonnadeResend, ?colonnadeKeyRollover, ?colonnadeHelloRx, ?mirrorRx, ?prepareRx, ?ackRx,
    ?commitRx, ?twinAckTimeout, ?followCommitDeadline, ?leadCommitAckCheck, ?heartbeatRx, ?heartbeatIntervalMissed,
    ?planeDownFrameSend, ?twinTimeRx, ?epochAlign, ?resyncStart, ?resyncRx, ?resyncDigestCompare, ?twinThrottleRx⟩
  case colonnadeFrameRx =>
    intro f tagOk cwOk
    simp only [ite_next_eq]
    rfl
  case colonnadeResend =>
    simp only [exec, execColonnadeResend]
    cases s.twin.replay.head? <;> simp only [ite_next_eq]
  case colonnadeKeyRollover => exact (ite_next_eq ..).mpr rfl
  case colonnadeHelloRx =>
    intro m
    simp only [ite_next_eq]
    rfl
  case mirrorRx =>
    intro txn opcode value
    simp only [ite_next_eq]
    rfl
  case prepareRx => exact fun txn opcode => (ite_next_eq ..).mpr rfl
  case ackRx =>
    intro txn status detail epoch
    simp only [exec, execAckRx]
    cases s.txns.find? fun t => t.txn == txn with
    | none => rfl
    | some t => cases he : t.epoch <;> simp only [he, ite_next_eq]
  case commitRx =>
    intro txn epoch
    simp only [exec, execCommitRx]
    cases s.prepared.find? fun t => t.txn == txn <;> simp only [ite_next_eq]
  case twinAckTimeout =>
    intro txn
    simp only [exec, execTwinAckTimeout]
    cases s.txns.find? fun t => t.txn == txn <;> simp only [ite_next_eq]
  case followCommitDeadline =>
    intro txn
    simp only [exec, execFollowCommitDeadline]
    cases s.prepared.find? fun t => t.txn == txn <;> simp only [ite_next_eq]
  case leadCommitAckCheck =>
    intro txn
    simp only [exec, execLeadCommitAckCheck]
    cases s.txns.find? fun t => t.txn == txn with
    | none => rfl
    | some t => cases he : t.epoch <;> simp only [he, ite_next_eq]
  case heartbeatRx => exact fun role state version lastTxn => (ite_next_eq ..).mpr rfl
  case heartbeatIntervalMissed =>
    simp only [ite_next_eq]
    rfl
  case planeDownFrameSend =>
    simp only [exec, execPlaneDownFrameSend]
    cases s.twin.planeDown.find? fun e => decide (e.2.2 ≤ s.now) <;> rfl
  case twinTimeRx =>
    intro t m
    simp only [ite_next_eq]
    rfl
  case epochAlign =>
    intro m extra
    simp only [ite_next_eq]
    rfl
  case resyncStart =>
    simp only [exec, execResyncStart]
    cases s.twin.role with
    | lead =>
      dsimp only
      generalize State.sendState _ = u
      cases u.cmd.running.find? fun r => r.opcode == 0x0C03 <;> simp only [ite_next_eq]
    | follow => simp only [ite_next_eq]
    | none => simp only [ite_next_eq]
  case resyncRx =>
    intro id payload
    simp only [exec, execResyncRx]
    cases Config.resyncItem payload <;> simp only [ite_next_eq]
  case resyncDigestCompare =>
    intro peer peerConfig peerCount
    simp only [ite_next_eq]
    rfl
  case twinThrottleRx => exact fun n => (ite_next_eq ..).mpr rfl

end Sys2Proof.Machine
end

section
/-! PROOF. GATE_LIST_SET (O16): the one change whose acceptance moves a value, T_x, and whose reply returns it (R301). -/

namespace Sys2Proof.Machine

/-! ## O16 -/

/-- Step 10 lets a change through where the reply buffer holds the two words of T_x, the most that an acceptance returns. -/
theorem Rule.fits_change {h : Hdr} {c : Cmd} (hl : holds h c 2) (objs : List (Nat × Nat)) (u : State) (l : List Change) :
    (Rule.change objs u l).fits h c = .change objs u l := by
  unfold Rule.fits
  split
  next r f n ho =>
    have hneed : c.replyNeed 2 ≤ h.replyLen := by simpa only [holds, ho] using hl
    have hbytes : (Rule.change objs u l).bytes c h.group ≤ c.replyNeed 2 := by
      simp only [Rule.bytes, Cmd.replyNeed]
      split <;> omega
    exact if_neg (Nat.not_lt.mpr (le_trans hbytes hneed))
  next => rfl

/-- A change of a command that is not mirrored and no part of a group is accepted at its epoch, whatever acceptance makes of
it. -/
theorem State.finish_change_own {s u v : State} {h : Hdr} {c : Cmd} {objs : List (Nat × Nat)} {l : List Change}
    {moved : Bool} {w : List Nat} (ha : h.group = false) (hm : c.mirror = none)
    (htake : u.takeChanges (u.epochFor objs c.target).1 objs l = (v, moved, w)) :
    s.finish h c (.change objs u l) = v.answer h c.op c.extends (acceptStatus (u.epochFor objs c.target).2.1 moved)
      (u.epochFor objs c.target).2.2 (BitVec.ofNat 64 (u.epochFor objs c.target).1) 0 w := by
  simp [State.finish, State.passChange, ha, hm, htake]

/-- A gate list that passes its checks is one change of its port's gates. -/
theorem cmdGateListSet_rule {t : State} {port : Nat} {g : GateSpec} (hport : port < 1024) (his : t.isPort port = true)
    (hok : gateOk g = true) (hone : t.oneDomainList port g.td = true) (h : Hdr) :
    (cmdGateListSet port g).rule h t =
      .change [objGate port] t [.gateList port { spec := g, takeover := g.base * 65536 }] :=
  (Rule.need_pass (decide_eq_true hport) ..).trans ((Rule.need_pass hok ..).trans
    ((portRange_pass hport his _).trans (Rule.need_pass hone ..)))

/-- Settles O16: the one change gets its T_x as its epoch is set, and R301 asks nothing else of its acceptance. -/
theorem gateListSet : Obligations.GateListSet := by
  intro s t h port g hs hport his hok hone hl c e start
  have htake : t.takeChanges e.1 [objGate port] [.gateList port { spec := g, takeover := g.base * 65536 }] =
      (t.dueAll e.1 [objGate port] [.gateList port { spec := g, takeover := start.1 }], start.2, words 2 start.1) :=
    State.takeChanges_one t e.1 _ _ _ _ _ (State.fixChange_gateList ..)
  have hserve := calc
    s.serve c h = t.finish h c ((c.rule h t).fits h c) := hs.serve
    _ = t.finish h c (.change [objGate port] t [.gateList port { spec := g, takeover := g.base * 65536 }]) := by
      rw [cmdGateListSet_rule hport his hok hone, Rule.fits_change hl]
    _ = _ := State.finish_change_own hs.alone rfl htake
  exact congrArg Host.Outcome.next hserve

end Sys2Proof.Machine
end

section
/-! PROOF. The step and its queue (O1, O2, O3), the fuses (O6) and the temperature band (O28). -/

namespace Sys2Proof.Machine

/-! ## O1, O2 and O6 -/

/-- Settles O1: the two cases by which `step` is defined. -/
theorem stepRunsFront : Obligations.StepRunsFront := by
  refine ⟨fun _ _ _ => rfl, fun s hs => ?_⟩
  unfold step
  rw [hs]

/-- A step leaves the rest of the queue: the idle clock has none to take from, and a command keeps what was left to it. -/
theorem step_pending {s t : State} (h : step s = .next t) : t.pending = s.pending.tail := by
  unfold step at h
  split at h
  next hs =>
    rw [hs]
    exact (State.Keeps.next s.idle_keeps h).queue.trans hs
  next c rest hs =>
    rw [hs]
    exact (exec_keeps c _ t h).queue

/-- Settles O2, from what the idle clock and every command keep. -/
theorem stepTakesOneCommand : Obligations.StepTakesOneCommand := fun _ _ h => step_pending h

/-- Fuses are burned by the idle clock or by the command at the front, and either only burns them. -/
theorem step_keeps_fuses {s t : State} (h : step s = .next t) : s.sec.svn ≤ t.sec.svn ∧ s.sec.hssLeaf ≤ t.sec.hssLeaf ∧
    s.sec.revoked &&& t.sec.revoked = s.sec.revoked := by
  unfold step at h
  split at h
  next =>
    have hkeeps := State.Keeps.next s.idle_keeps h
    exact ⟨hkeeps.svn, hkeeps.leaf, hkeeps.revoked⟩
  next c rest _ =>
    have hkeeps := exec_keeps c _ t h
    exact ⟨hkeeps.svn, hkeeps.leaf, hkeeps.revoked⟩

/-- A bit of `x` stays where `x` lies within `y`. -/
theorem getLsbD_of_and_eq {x y : BitVec 8} (h : x &&& y = x) {k : Nat} (hk : x.getLsbD k = true) : y.getLsbD k = true := by
  rw [← h, BitVec.getLsbD_and, Bool.and_eq_true] at hk
  exact hk.2

/-- Settles O6: the revocations of before lie within those of after. -/
theorem everyStepOnlyBurnsFuses : Obligations.EveryStepOnlyBurnsFuses := by
  intro s t h
  obtain ⟨hsvn, hleaf, hrevoked⟩ := step_keeps_fuses h
  exact ⟨hsvn, hleaf, fun _ _ hk => getLsbD_of_and_eq hrevoked hk⟩

/-! ## O3 -/

/-- The command answered a next state. -/
def Completes (o : Host.Outcome State Fault Refusal) : Prop := ∃ t, o = .next t

theorem Completes.next (t : State) : Completes (.next t) := ⟨t, rfl⟩

theorem Completes.onUnit {ok : Bool} (h : ok = true) (n : Nat) (t : State) : Completes (onUnit ok n t) :=
  ⟨t, onUnit_next h n t⟩

theorem Completes.ite {c : Prop} [Decidable c] {a b : Host.Outcome State Fault Refusal} (ha : Completes a) (hb : Completes b) :
    Completes (if c then a else b) := by
  split <;> assumption

theorem execReseqTimeout_completes (cid : Nat) (s : State) : Completes (execReseqTimeout cid s) := by
  unfold execReseqTimeout
  cases s.copy cid with
  | none => exact .next _
  | some c =>
    refine .ite (.next _) ?_
    cases s.pkt c.pkt <;> cases s.missing c <;> exact .next _

theorem execBankCycleServe_completes {store bank : Nat} (hb : bank < numBanks store) (s : State) :
    Completes (execBankCycleServe store bank s) := ⟨_, if_pos hb⟩

theorem execLookupResult_completes (req : Nat) (s : State) : Completes (execLookupResult req s) := by
  unfold execLookupResult
  split
  next => exact .next _
  next q _ =>
    split
    next => exact .next _
    next =>
      refine .ite (.next _) (.ite (.next _) ?_)
      cases s.pkt q.owner <;> exact .next _

theorem execIcvVerdict_completes (pid : Nat) (ok : Bool) (s : State) : Completes (execIcvVerdict pid ok s) := by
  unfold execIcvVerdict
  cases s.pkt pid with
  | none => exact .next _
  | some p => exact .ite (.next _) (.next _)

theorem execIngressDecision_completes (pid : Nat) (s : State) : Completes (execIngressDecision pid s) := by
  unfold execIngressDecision
  cases s.pkt pid with
  | none => exact .next _
  | some p => exact .ite (.next _) (.next _)

theorem execAdmitHead_completes (pid : Nat) (s : State) : Completes (execAdmitHead pid s) := by
  unfold execAdmitHead
  cases s.pkt pid with
  | none => exact .next _
  | some p => exact .ite (.next _) (.next _)

theorem execCloisterReturn_completes (pid : Nat) (s : State) : Completes (execCloisterReturn pid s) := by
  unfold execCloisterReturn
  cases s.pkt pid with
  | none => exact .next _
  | some p => exact .ite (.next _) (.next _)

theorem execEgressEdit_completes (cid : Nat) (s : State) : Completes (execEgressEdit cid s) := by
  unfold execEgressEdit
  cases s.copy cid with
  | none => exact .next _
  | some c =>
    cases hp : s.pkt c.pkt with
    | none => simpa only [hp] using .next _
    | some p =>
      simp only [hp]
      refine .ite (.next _) (.ite (.next _) ?_)
      cases s.hopTable c p (s.opsOf (s.egressFind c p).action p) with
      | none => exact .next _
      | some t => exact .ite (.next _) (.next _)

/-- A well-formed command answers a next state. A command of a unit stops only where the unit does not exist, which `wf`
excludes; a few events distinguish cases that all go on; every other command answers one next state outright. -/
theorem exec_completes {i : Instr} (hi : i.wf = true) (s : State) : Completes (exec i s) := by
  cases i with
  | stageATransfer | freeLand | freeListRebuildDone | portMatch | stageBRead | reseqRelease | partitionDrainEnd
  | drainLimitExpiry | partitionRebuildDone | tagResolve | rollbackZeroWrite | rollbackFree | specTagReturn
  | macRxFrameEnd | packetEntry | ingressPipeSlot | pipeInjectSlot | turnstileGrant | stashWrite | stashReinsertPeriod
  | patinaPassStart | scrubRead | lockExpired | armJobStart | microwordExecute | armMemComplete | routineEnd
  | laneCalibrationDone | laneStateAdvance | laneBringupTimeout | laneLos | laneCdrUnlock | laneAmLoss
  | laneRestartHoldoff | laneRecovered | laneOrderWindowEnd | laneSerIntervalEnd | laneSnrUpdate | eyeScanPointDone
  | macControlFrameRx | pauseTimerExpiry | xoffRequest | xoffResend | anResolve | rawLinkChange | linkDownDebounceExpiry
  | laMessageRequest | cipherBlockMismatch | hostWdExpiry | holdMaxExpiry | ppsOutEdge | ppsOutEdgeEnd | ppsInEdge
  | ppsInLost | handOver | pfcWatchdog | pfcWdRestored | linkUpDebounceExpiry | portDownPolicy | portHoldExpired
  | gateTransition | gateTakeover | timeEventReach | egressPipeSlot | macFrameStart | txFrameEnd | streamIntervalClose
  | exportPacketGenerate | queueReportGenerate | msixSignal | cpuQueueDeliver | txDescriptorFetch | eventStatusW1c
  | faultRaise | permanenceClear | wireFault | wireUnmask | backgroundPortRead | bankSpareCopy | partitionBankDrained
  | thermalComparatorTrip | timeCompareTrip | supplyLow | extLevelTrip | ringEventRx | pcieFunctionReset | bar0Violation
  | ringDoorbellWrite | ringControlWrite | tableLockReleaseWrite | registerWrite | counterLowHalfRead =>
    exact Completes.onUnit hi ..
  | bankCycleServe store bank => exact execBankCycleServe_completes (of_decide_eq_true hi) s
  | reseqTimeout cid => exact execReseqTimeout_completes cid s
  | lookupResult req => exact execLookupResult_completes req s
  | icvVerdict pid ok => exact execIcvVerdict_completes pid ok s
  | ingressDecision pid => exact execIngressDecision_completes pid s
  | admitHead pid => exact execAdmitHead_completes pid s
  | cloisterReturn pid => exact execCloisterReturn_completes pid s
  | egressEdit cid => exact execEgressEdit_completes cid s
  | _ => exact Completes.next _

/-- A queue of well-formed commands goes on: the idle clock always does, and the command at the front is well-formed. -/
theorem State.queueWf_goesOn {s : State} (hs : s.queueWf = true) : goesOn s := by
  unfold goesOn step
  split
  next => exact ⟨_, rfl⟩
  next c rest hq =>
    rw [State.queueWf, hq, List.all_cons, Bool.and_eq_true] at hs
    exact exec_completes hs.1 _

/-- Settles O3: a step drops at most the command at the front, so what waits stays well-formed. -/
theorem wellFormedCommandsComplete : Obligations.WellFormedCommandsComplete := by
  refine ⟨fun i s hi => exec_completes hi s, fun s hs => ⟨State.queueWf_goesOn hs, fun t h => ?_⟩⟩
  have hrest : ∀ c ∈ s.pending.tail, c.wf = true := fun c hc => List.all_eq_true.mp hs c (List.mem_of_mem_tail hc)
  rw [State.queueWf, step_pending h]
  exact List.all_eq_true.mpr hrest

/-! ## O28 -/

/-- Settles O28: the band counts the thresholds that TJ_MAX has reached, and they rise. -/
theorem temperatureBands : Obligations.TemperatureBands := by
  intro old tj _
  have hup : b2n (decide (40 ≤ tj)) + b2n (decide (65 ≤ tj)) + b2n (decide (85 ≤ tj)) =
      if 85 ≤ tj then 3 else if 65 ≤ tj then 2 else if 40 ≤ tj then 1 else 0 := by
    simp only [b2n, decide_eq_true_eq]
    split_ifs <;> omega
  have hdown : b2n (decide (37 ≤ tj)) + b2n (decide (62 ≤ tj)) + b2n (decide (82 ≤ tj)) =
      if tj < 37 then 0 else if tj < 62 then 1 else if tj < 82 then 2 else 3 := by
    simp only [b2n, decide_eq_true_eq]
    split_ifs <;> omega
  simp only [newBand, hup, hdown]

end Sys2Proof.Machine
end

section
/-! PROOF. What a reply and the start of a command leave alone (O19, O20), and what the command unit makes of a command
that waits (O8), is refused (O7, O9, O21), relayed (O10, O11), run on both twins (O13, O14, O17) or held in a group
(O18). -/

namespace Sys2Proof.Machine

/-! ## Units that a reply to a host leaves alone -/

/-- The units at the edges of the command unit: the fault log, the twin link, the ring links and the security unit. -/
def State.edges (s : State) : Faults × Twin × RingState × Security := (s.faults, s.twin, s.ring, s.sec)

theorem edges_mk (s : State) (clock : Clock) (cmd : Commands) (lp : LanePlane) (cipher : Cipher) (rules : RulePlane)
    (tables : Tables) (pk : Packets) (time : Time) (eg : Egress) (tel : Telemetry) (arm : Armature) (power : Power)
    (changes : List PendingChange) (group : Option Group) (groupNext : Nat) (txns prepared : List Txn)
    (ctr ctrNow : Arr Nat) (ctrAt freeCtr : Nat) (pending : List Instr) :
    State.edges ⟨clock, cmd, s.faults, lp, cipher, rules, tables, pk, time, eg, tel, arm, s.twin, s.ring, power, s.sec, changes,
      group, groupNext, txns, prepared, ctr, ctrNow, ctrAt, freeCtr, pending⟩ = s.edges := rfl

theorem ite_edges (c : Prop) [Decidable c] (a b : State) : (if c then a else b).edges = if c then a.edges else b.edges :=
  apply_ite State.edges c a b

theorem State.faults_of_edges {s t : State} (h : t.edges = s.edges) : t.faults = s.faults := congrArg (·.1) h
theorem State.twin_of_edges {s t : State} (h : t.edges = s.edges) : t.twin = s.twin := congrArg (·.2.1) h
theorem State.ring_of_edges {s t : State} (h : t.edges = s.edges) : t.ring = s.ring := congrArg (·.2.2.1) h
theorem State.sec_of_edges {s t : State} (h : t.edges = s.edges) : t.sec = s.sec := congrArg (·.2.2.2) h

theorem State.perfCount_edges (s : State) (a b c : Nat) : (s.perfCount a b c).edges = s.edges := by
  unfold State.perfCount
  simp only [↓ite_edges, ↓edges_mk, ite_self]

theorem State.bump_edges (s : State) (c : Ctr) (i : Nat) : (s.bump c i).edges = s.edges := by
  unfold State.bump State.bumpBy
  dsimp only
  split
  · exact State.perfCount_edges ..
  · rfl

theorem State.signal_edges (s : State) (r : Nat) : (s.signal r).edges = s.edges := by
  unfold State.signal State.sendMsix
  dsimp only
  split <;> rfl

theorem State.advanceRing_edges (s : State) (r : Nat) : (s.advanceRing r).edges = s.edges := rfl

theorem State.consumed_edges (s : State) (a : BitVec 64) : (s.consumed a).edges = s.edges := s.bump_edges ..

theorem State.replyHost_edges (s : State) (h : Hdr) (r : Nat) (p : Reply) : (s.replyHost h r p).edges = s.edges := by
  have htaken : ∀ (t : State) (v : Option Taken), (t.putTakenAt r v).edges = t.edges := fun _ _ => rfl
  unfold State.replyHost
  simp only [↓ite_edges, ↓State.signal_edges, ↓State.advanceRing_edges, ↓edges_mk, htaken, ↓State.bump_edges, ite_self]

/-! ## What a report of a fault leaves of the security unit -/

theorem ite_sec (c : Prop) [Decidable c] (a b : State) : (if c then a else b).sec = if c then a.sec else b.sec :=
  apply_ite State.sec c a b

theorem State.signalGap_edges (s : State) (r : Nat) : (s.signalGap r).edges = s.edges := by
  have hput : ∀ f, (s.modHring r f).edges = s.edges := fun _ => rfl
  unfold State.signalGap
  simp only [↓ite_edges, ↓State.signal_edges, hput, ite_self]

theorem State.putEvent_edges (s : State) (k : Nat) (e : EventRec) (b : Bool) : (s.putEvent k e b).1.edges = s.edges := by
  have hput : ∀ (t : State) (n : Nat) (v : Ring), (t.putHring n v).edges = t.edges := fun _ _ _ => rfl
  unfold State.putEvent
  simp only [↓ite_fst, ↓ite_edges, ↓hput, ↓State.bump_edges, ↓State.signalGap_edges, ↓edges_mk, ↓State.advanceRing_edges,
    ite_self]

theorem State.putEvent_sec (s : State) (k : Nat) (e : EventRec) (b : Bool) : (s.putEvent k e b).1.sec = s.sec :=
  State.sec_of_edges (s.putEvent_edges k e b)

theorem State.setStatus_sec (s : State) (n : Nat) : (s.setStatus n).sec = s.sec := by
  unfold State.setStatus
  simp only [State.putEvStatus_sec, State.putEvRaisedAt_sec, ite_sec, State.putEvSetAt_sec, ite_self]

theorem State.record_sec (s : State) (e : LogEntry) : (s.record e).sec = s.sec := by
  unfold State.record State.clearLogPoison
  simp only [ite_sec, State.sec_of_edges (State.bump_edges ..), ite_self]

theorem State.dropNotice_sec (s : State) (k : Nat) : (s.dropNotice k).sec = s.sec := by
  unfold State.dropNotice
  simp only [ite_sec, State.record_sec, State.putEvent_sec, State.setStatus_sec, State.putHring_sec, ite_self]

theorem State.emit_sec (s : State) (a b c : Nat) (d : BitVec 64) : (s.emit a b c d).sec = s.sec := by
  have hwrite : ∀ (t : State) (k : Nat) (e : EventRec) (x : Bool), (t.writeEvent k e x).sec = t.sec := fun t k e x => by
    simp only [State.writeEvent, ite_sec, State.dropNotice_sec, State.putEvent_sec, ite_self]
  unfold State.emit
  simp only [ite_sec, State.setStatus_sec]
  split
  · split
    · rfl
    · rw [hwrite, State.setStatus_sec]
  · rfl

theorem State.note_sec (s : State) (a b : Nat) (d : BitVec 64) : (s.note a b d).sec = s.sec := by
  simp only [State.note, State.raiseBase, ite_sec, State.record_sec, State.emit_sec, ite_self]

/-! ## O19 -/

/-- To send along the ring changes the ring links alone. -/
theorem State.ringSend_eq (s : State) (d k : Nat) (p : List Byte) : ∃ r, s.ringSend d k p = { s with ring := r } := by
  have hroom : ∀ (t : State) (west : Bool), ∃ r, t.ringRoom west = { t with ring := r } := fun t west => by
    unfold State.ringRoom
    split
    · exact ⟨t.ring, rfl⟩
    · exact ⟨_, rfl⟩
  exact hroom _ _

/-- A reply goes out over the ring links only to another device and over the twin link only to the twin; sending it
changes neither the fault log nor the security unit. -/
theorem State.sendReply_edges (s : State) (h : Hdr) (p : Reply) :
    (s.sendReply h p).faults = s.faults ∧ (s.sendReply h p).sec = s.sec ∧
    (Hdr_twinned h = false → (s.sendReply h p).twin = s.twin) ∧
    ((∀ x, h.origin ≠ .slait x) → (s.sendReply h p).ring = s.ring) := by
  unfold State.sendReply Hdr_twinned
  cases h.origin with
  | host r f e =>
    have hedges := s.replyHost_edges h r p
    exact ⟨State.faults_of_edges hedges, State.sec_of_edges hedges, fun _ => State.twin_of_edges hedges,
      fun _ => State.ring_of_edges hedges⟩
  | slait d =>
    obtain ⟨r, hr⟩ := s.ringSend_eq d 2 p.bytes
    dsimp only
    rw [hr]
    exact ⟨rfl, rfl, fun _ => rfl, fun hne => absurd rfl (hne d)⟩
  | colonnade txn =>
    have hsend : ∀ m, (s.colSend m).faults = s.faults ∧ (s.colSend m).sec = s.sec ∧ (s.colSend m).ring = s.ring := by
      intro m
      unfold State.colSend State.colPut
      simp only [State.faults_of_edges (State.bump_edges ..), State.sec_of_edges (State.bump_edges ..),
        State.ring_of_edges (State.bump_edges ..)]
      split <;> exact ⟨rfl, rfl, rfl⟩
    obtain ⟨hfaults, hsec, hring⟩ := hsend (.ack txn p.status p.detail s.earliest)
    exact ⟨hfaults, hsec, Bool.noConfusion, fun _ => hring⟩

/-- What `answer` does before the reply goes out. -/
def State.preAnswer (s : State) (dg : Option (List Byte)) (st : Nat) (lg : BitVec 64) : State :=
  let s := if st ≤ stOkAdjusted then s.extend dg else s
  let s := if st = stInternal then s.note srcCommandInternal 0 0 else s
  if st = stPoisoned then s.consumed lg else s

theorem State.answer_eq (s : State) (h : Hdr) (op : Nat) (dg : Option (List Byte)) (st d : Nat) (res lg : BitVec 64)
    (pl : List Nat) : s.answer h op dg st d res lg pl =
      (s.preAnswer dg st lg).sendReply h ((s.preAnswer dg st lg).mkReply h op st d res lg pl) := rfl

/-- Before the reply goes out, the fault log and the links change only with INTERNAL. -/
theorem State.preAnswer_links {st : Nat} (hst : st ≠ stInternal) (s : State) (dg : Option (List Byte)) (lg : BitVec 64) :
    (s.preAnswer dg st lg).faults = s.faults ∧ (s.preAnswer dg st lg).twin = s.twin ∧ (s.preAnswer dg st lg).ring = s.ring := by
  have hextend : ∀ u : State, u = (if st ≤ stOkAdjusted then s.extend dg else s) →
      u.faults = s.faults ∧ u.twin = s.twin ∧ u.ring = s.ring := by
    rintro _ rfl
    unfold State.extend
    split
    · cases dg <;> exact ⟨rfl, rfl, rfl⟩
    · exact ⟨rfl, rfl, rfl⟩
  obtain ⟨hfaults, htwin, hring⟩ := hextend _ rfl
  unfold State.preAnswer
  simp only [if_neg hst]
  split
  · have hedges := (if st ≤ stOkAdjusted then s.extend dg else s).consumed_edges lg
    exact ⟨(State.faults_of_edges hedges).trans hfaults, (State.twin_of_edges hedges).trans htwin,
      (State.ring_of_edges hedges).trans hring⟩
  · exact ⟨hfaults, htwin, hring⟩

/-- Before the reply goes out, the digest is extended only where the command is accepted and has one (R474). -/
theorem State.preAnswer_sec {dg : Option (List Byte)} {st : Nat} (hdg : dg = none ∨ stOkAdjusted < st) (s : State)
    (lg : BitVec 64) : (s.preAnswer dg st lg).sec = s.sec := by
  have hextend : (if st ≤ stOkAdjusted then s.extend dg else s) = s := by
    rcases hdg with rfl | hst
    · exact ite_self _
    · exact if_neg (Nat.not_le.mpr hst)
  unfold State.preAnswer
  simp only [hextend, ite_sec, State.sec_of_edges (State.consumed_edges ..), State.note_sec, ite_self]

theorem State.answer_sec {dg : Option (List Byte)} {st : Nat} (hdg : dg = none ∨ stOkAdjusted < st) (s : State) (h : Hdr)
    (op d : Nat) (res lg : BitVec 64) (pl : List Nat) : (s.answer h op dg st d res lg pl).sec = s.sec := by
  obtain ⟨-, hsec, -⟩ := (s.preAnswer dg st lg).sendReply_edges h ((s.preAnswer dg st lg).mkReply h op st d res lg pl)
  exact hsec.trans (State.preAnswer_sec hdg s lg)

/-- Settles O19: `State.kept` is what no reply touches; the units at the edges follow the way that the reply takes. -/
theorem replyFrame : Obligations.ReplyFrame := by
  intro s h op dg st d res lg pl u
  have hkept : u.kept = s.kept := State.answer_kept ..
  obtain ⟨hchanges, hgroup⟩ := State.changes_of_kept hkept
  refine ⟨State.sameUnits_of_kept hkept, State.sameSessions_of_kept hkept, hchanges, hgroup, fun hst => ?_,
    fun hdg => State.answer_sec hdg ..⟩
  obtain ⟨hfaults, htwin, hring⟩ := State.preAnswer_links hst s dg lg
  obtain ⟨hsent, -, hsentTwin, hsentRing⟩ :=
    (s.preAnswer dg st lg).sendReply_edges h ((s.preAnswer dg st lg).mkReply h op st d res lg pl)
  exact ⟨hsent.trans hfaults, fun hn => (hsentTwin hn).trans htwin, fun hn => (hsentRing hn).trans hring⟩

/-! ## O20 -/

/-- Where a command starts: from its submit ring, or as the message that carried it, with the GROUP_ID that the LEAD has
chosen. -/
theorem State.begin_cases {s t : State} {h : Hdr} {op : Nat} (hb : s.begin h op = some t) :
    (∃ r v, t = (s.fetch h op).putTakenAt r v) ∨ t = s.uncarry h.origin op ∨
    ∃ v, t = (s.uncarry h.origin op).takeChosen op v := by
  unfold State.begin at hb
  split at hb
  · cases hb
  cases ho : h.origin with
  | host r f e =>
    simp only [ho, Option.ite_none_right_eq_some, Option.some.injEq] at hb
    exact .inl ⟨r, _, hb.2.symm⟩
  | slait d =>
    simp only [ho, Option.ite_none_right_eq_some, Option.some.injEq] at hb
    exact .inr (.inl hb.2.symm)
  | colonnade x =>
    simp only [ho] at hb
    split at hb
    next e _ =>
      simp only [Option.ite_none_right_eq_some, Option.some.injEq] at hb
      exact .inr (.inr ⟨e.2.2, hb.2.symm⟩)
    next => cases hb

/-- A fetch changes the rings and the commands taken from them. -/
theorem State.fetch_eq (s : State) (h : Hdr) (op : Nat) : ∃ c, s.fetch h op = { s with cmd := c } ∧
    c.dev = s.cmd.dev ∧ c.sessions = s.cmd.sessions ∧ c.cpuMap = s.cmd.cpuMap ∧ c.relays = s.cmd.relays ∧
    c.running = s.cmd.running := by
  unfold State.fetch
  split
  · split
    · exact ⟨_, rfl, rfl, rfl, rfl, rfl, rfl⟩
    · exact ⟨s.cmd, rfl, rfl, rfl, rfl, rfl, rfl⟩
  · exact ⟨s.cmd, rfl, rfl, rfl, rfl, rfl, rfl⟩

/-- To take the chosen value changes the next group number at most, and that for GROUP_OPEN alone. -/
theorem State.takeChosen_eq (s : State) (op : Nat) (v : Option Nat) :
    ∃ n, s.takeChosen op v = { s with groupNext := n } ∧ (op ≠ 0x0E01 → n = s.groupNext) := by
  unfold State.takeChosen
  split
  next hop =>
    cases v with
    | none => exact ⟨s.groupNext, rfl, fun _ => rfl⟩
    | some n => exact ⟨n, rfl, fun hne => absurd hop hne⟩
  next => exact ⟨s.groupNext, rfl, fun _ => rfl⟩

/-- The start of a command changes the command unit and the next group number at most. -/
theorem State.begin_eq {s t : State} {h : Hdr} {op : Nat} (hb : s.begin h op = some t) :
    ∃ c n, t = { s with cmd := c, groupNext := n } ∧ (op ≠ 0x0E01 → n = s.groupNext) ∧
      s.SameSessions { s with cmd := c, groupNext := n } := by
  rcases State.begin_cases hb with ⟨r, v, rfl⟩ | rfl | ⟨v, rfl⟩
  · obtain ⟨c, hfetch, hdev, hsessions, hcpu, hrelays, hrunning⟩ := s.fetch_eq h op
    rw [hfetch]
    exact ⟨_, s.groupNext, rfl, fun _ => rfl, ⟨hdev, hsessions, hcpu, hrelays, hrunning⟩⟩
  · exact ⟨_, s.groupNext, rfl, fun _ => rfl, ⟨rfl, rfl, rfl, rfl, rfl⟩⟩
  · obtain ⟨n, htake, hn⟩ := (s.uncarry h.origin op).takeChosen_eq op v
    rw [htake]
    exact ⟨_, n, rfl, hn, ⟨rfl, rfl, rfl, rfl, rfl⟩⟩

/-- Settles O20, from the form of the state in which a command starts. -/
theorem beginFrame : Obligations.BeginFrame := by
  intro s t h op hb
  obtain ⟨c, n, rfl, hn, hsessions⟩ := State.begin_eq hb
  exact ⟨⟨rfl, rfl, rfl, rfl, rfl, rfl, rfl, rfl, rfl, rfl, rfl, rfl, rfl, rfl, rfl, rfl⟩, hsessions, rfl, rfl, rfl, rfl, rfl,
    rfl, hn⟩

/-! ## A command of this device: what its verdict makes of it -/

/-- A Slait command answers what the command unit makes of it. -/
theorem Slait.exec_eq {i : Instr} {h : Hdr} {c : Cmd} (hi : Slait i h c) {s u : State} (hu : s.serve c h = u) :
    exec i s = .next u := (hi s).trans (congrArg _ hu)

/-- A command from the twin, or one for this device, has the outcome of its verdict. -/
theorem State.serve_here {s t : State} {h : Hdr} {c : Cmd} (hb : s.begin h c.op = some t)
    (hhere : Hdr_twinned h = true ∨ h.target = s.sec.deviceId) :
    s.serve c h = t.finish h c (t.verdict h c (s.chosen h)) := by
  unfold State.serve
  simp only [hb]
  rcases hhere with htwin | htarget
  · simp [htwin]
  · simp [htarget]

/-- A refused command that is no part of a group: the reply, and bad data that was the cause is good again. -/
theorem State.serve_refused {s t : State} {h : Hdr} {c : Cmd} {st d : Nat} {res lg : BitVec 64}
    (hb : s.begin h c.op = some t) (hhere : h.target = s.sec.deviceId) (halone : h.group = false)
    (hv : t.verdict h c (s.chosen h) = .refuse st d res lg) :
    s.serve c h = (t.dataRead st).answer h c.op none st d res lg [] := by
  rw [State.serve_here hb (.inr hhere), hv]
  simp [State.finish, State.notePart, halone]

theorem State.dataRead_of_ne {st : Nat} (hst : st ≠ stInternal) (t : State) : t.dataRead st = t := if_neg hst

/-- Step 10 lets a refusal through. -/
theorem Rule.fits_refuse (h : Hdr) (c : Cmd) (st d : Nat) (res lg : BitVec 64) :
    (Rule.refuse st d res lg).fits h c = .refuse st d res lg := by
  unfold Rule.fits Rule.bytes
  split <;> simp

/-- Step 10 lets a change through, but for a gate list, which returns T_x. -/
theorem Rule.fits_change_of_ne {c : Cmd} (hop : c.op ≠ 0x0609) (h : Hdr) (objs : List (Nat × Nat)) (u : State)
    (l : List Change) : (Rule.change objs u l).fits h c = .change objs u l := by
  unfold Rule.fits Rule.bytes
  split <;> simp [hop]

theorem State.otherS_of_notTwin {h : Hdr} (hn : Hdr_twinned h = false) (t : State) (op : Nat) (v : Option Nat) :
    t.otherS h op v = false := by simp [State.otherS, hn]

/-- Step 9 of a command that is no part of a group and that the twin's state does not bar: the command's own rules. -/
theorem State.verdict_own {t : State} {h : Hdr} {c : Cmd} {v : Option Nat} (hp : t.precheck h c = none)
    (halone : h.group = false) (hg : t.mirrorGate h c = none) (ho : t.otherS h c.op v = false) :
    t.verdict h c v = (c.rule h t).fits h c := by simp [State.verdict, State.ruleOf, hp, halone, hg, ho]

/-- Steps 1 to 8: the first check that fails refuses. -/
theorem State.verdict_precheck {t : State} {h : Hdr} {c : Cmd} {r : Rule} (hp : t.precheck h c = some r) (v : Option Nat) :
    t.verdict h c v = r := by simp only [State.verdict, hp]

/-- Steps 1 to 8 of a command that is no part of a group, which is checked against the state as it stands. -/
theorem State.precheck_alone {h : Hdr} (halone : h.group = false) (t : State) (c : Cmd) : t.precheck h c =
    if t.versionOk h c.op = false then some (.refuse stBadVersion 0 0 0)
    else if t.opcodeOk h c.op = false then some (.refuse stBadOpcode 0 0 0)
    else if (Hdr_lengthOk h && c.lenOk) = false then some (.refuse stBadLength 0 0 0)
    else if 63 < h.target then some (.access h.target)
    else if t.flagsOk h c = false then some .param
    else if t.legalIn c.op c.isRead = false then some .conflict
    else if c.fenced t = true then some (.refuse stFenced 0 0 0)
    else if t.faults.dataBad = true then some (.refuse stInternal 0 0 0)
    else none := by
  have hpart : t.asPart h = t := by simp [State.asPart, halone]
  simp only [State.precheck, hpart, Bool.not_eq_true', Bool.or_eq_true, Bool.and_eq_false_iff]

/-! ## O8 -/

/-- Settles O8: the command unit does nothing before the command's turn. -/
theorem commandsWaitTheirTurn : Obligations.CommandsWaitTheirTurn := by
  intro i s h c hi hb
  have hserve : s.serve c h = s := by simp only [State.serve, hb]
  exact hi.exec_eq hserve

/-! ## O7 -/

/-- Settles O7: each clause is a branch of steps 1 to 8, and the last one the command's own refusal. -/
theorem checksInOrder : Obligations.ChecksInOrder := by
  intro i s t h c hi hb hn hhere halone refused
  have hprecheck := State.precheck_alone halone t c
  have hstop : ∀ {st d res lg}, st ≠ stInternal → t.precheck h c = some (.refuse st d res lg) →
      exec i s = .next (t.answer h c.op none st d res lg []) := fun hst hp => hi.exec_eq <| by
    rw [State.serve_refused hb hhere halone (State.verdict_precheck hp _), State.dataRead_of_ne hst]
  refine ⟨fun hversion => ?_, fun hversion => ⟨fun hopcode => ?_, fun hopcode => ⟨fun hlength => ?_, fun hlength =>
    ⟨fun htarget => ?_, fun htarget => ⟨fun hflags => ?_, fun hflags => ⟨fun hlegal => ?_, fun hlegal =>
      ⟨fun hfenced => ?_, fun hfenced hbad => ?_, fun hfenced hgood hgate st d res lg hrule => ?_⟩⟩⟩⟩⟩⟩⟩
  · exact hstop (by decide) (by simp [hprecheck, hversion])
  · exact hstop (by decide) (by simp [hprecheck, hversion, hopcode])
  · exact hstop (by decide) (by simp [hprecheck, hversion, hopcode, hlength])
  · exact hstop (by decide) (by simp [hprecheck, hversion, hopcode, hlength, htarget, Rule.access])
  · exact hstop (by decide) (by simp [hprecheck, hversion, hopcode, hlength, Nat.not_lt.mpr htarget, hflags, Rule.param])
  · exact hstop (by decide)
      (by simp [hprecheck, hversion, hopcode, hlength, Nat.not_lt.mpr htarget, hflags, hlegal, Rule.conflict])
  · exact hstop (by decide)
      (by simp [hprecheck, hversion, hopcode, hlength, Nat.not_lt.mpr htarget, hflags, hlegal, hfenced])
  · have hp : t.precheck h c = some (.refuse stInternal 0 0 0) := by
      simp [hprecheck, hversion, hopcode, hlength, Nat.not_lt.mpr htarget, hflags, hlegal, hfenced, hbad]
    exact hi.exec_eq (State.serve_refused hb hhere halone (State.verdict_precheck hp _))
  · have hp : t.precheck h c = none := by
      simp [hprecheck, hversion, hopcode, hlength, Nat.not_lt.mpr htarget, hflags, hlegal, hfenced, hgood]
    have hverdict : t.verdict h c (s.chosen h) = .refuse st d res lg := by
      rw [State.verdict_own hp halone hgate (State.otherS_of_notTwin hn ..), hrule, Rule.fits_refuse]
    refine hi.exec_eq ?_
    rw [State.serve_refused hb hhere halone hverdict, State.dataRead_of_good hgood]

/-! ## O9 -/

/-- A result that the reply buffer of a host command does not hold is refused with the bytes that it needs (R340). -/
theorem Rule.fits_short {r : Rule} {h : Hdr} {c : Cmd} (hhost : ∃ ring f e, h.origin = .host ring f e)
    (hl : h.replyLen < r.bytes c h.group) :
    r.fits h c = .refuse stBadLength dtReplyShort (BitVec.ofNat 64 (r.bytes c h.group)) 0 := by
  obtain ⟨ring, f, e, ho⟩ := hhost
  simp only [Rule.fits, ho, hl, if_true]

/-- Settles O9: `n` is what step 10 asks of the reply buffer. -/
theorem replyBufferTooSmall : Obligations.ReplyBufferTooSmall := by
  intro i s t h c u st d res pl hi hs hrule hhost n hl
  have hn : (c.rule h t).bytes c h.group = n := by rw [hrule]; rfl
  have hverdict : t.verdict h c (s.chosen h) = .refuse stBadLength dtReplyShort (BitVec.ofNat 64 n) 0 := by
    rw [State.verdict_own hs.checks hs.alone hs.gate (State.otherS_of_notTwin hs.notTwin ..),
      Rule.fits_short hhost (hn.symm ▸ hl), hn]
  refine hi.exec_eq ?_
  rw [State.serve_refused hs.begin hs.here hs.alone hverdict, State.dataRead_of_ne (by decide)]

/-! ## O10 and O11 -/

/-- A host's or another device's command for another device is relayed. -/
theorem State.serve_relay {s t : State} {h : Hdr} {c : Cmd} (hb : s.begin h c.op = some t) (hn : Hdr_twinned h = false)
    (haway : h.target ≠ s.sec.deviceId) : s.serve c h = t.relay h c := by
  simp [State.serve, hb, hn, haway]

/-- What the relaying device checks last is whether enumeration shows the target (R355). -/
theorem State.relayCheck_of_ok {h : Hdr} {c : Cmd} (hlen : Hdr_lengthOk h = true) (hclen : c.lenOk = true)
    (htarget : h.target ≤ 63) (hzero : h.reservedZero = true) (t : State) :
    t.relayCheck h c = if t.ring.present.any (fun r => r.id == h.target) then none else some .missing := by
  simp [State.relayCheck, hlen, hclen, hzero, Nat.not_lt.mpr htarget]

/-- Settles O10: the check of R355 fails. -/
theorem absentTargetNotFound : Obligations.AbsentTargetNotFound := by
  intro i s t h c hi hb hn haway hlen hclen htarget hzero habsent
  have hnone : t.ring.present.any (fun r => r.id == h.target) = false := by simpa using habsent
  have hcheck : t.relayCheck h c = some .missing := by rw [State.relayCheck_of_ok hlen hclen htarget hzero, hnone]; rfl
  refine hi.exec_eq ((State.serve_relay hb hn haway).trans ?_)
  simp only [State.relay, hcheck, Rule.missing]

/-- Settles O11: every check of the relaying device passes. -/
theorem presentTargetRelayed : Obligations.PresentTargetRelayed := by
  intro i s t h c hi hb hn haway hlen hclen htarget hzero hpresent
  have hsome : t.ring.present.any (fun r => r.id == h.target) = true := by simpa using hpresent
  have hcheck : t.relayCheck h c = none := by rw [State.relayCheck_of_ok hlen hclen htarget hzero, hsome]; rfl
  refine hi.exec_eq ((State.serve_relay hb hn haway).trans ?_)
  simp only [State.relay, hcheck]

/-! ## O21 -/

/-- Bad data that is good again is the fault unit's alone. -/
theorem State.dataRead_kept (t : State) (st : Nat) : (t.dataRead st).kept = t.kept := by
  unfold State.dataRead
  split <;> rfl

theorem State.dataRead_sec (t : State) (st : Nat) : (t.dataRead st).sec = t.sec := by
  unfold State.dataRead
  split <;> rfl

/-- Settles O21: the start of the command, the bad data read and the reply leave `State.kept` and the digest. -/
theorem refusedCommandsTouchNothing : Obligations.RefusedCommandsTouchNothing := by
  intro i s t h c st d res lg hi hb hn hhere halone hv
  have hserve := State.serve_refused hb hhere halone hv
  have hkept : ((t.dataRead st).answer h c.op none st d res lg []).kept = s.kept :=
    (State.answer_kept ..).trans ((t.dataRead_kept st).trans (State.begin_kept_of_notTwin hb hn))
  have hsec : t.sec = s.sec := by
    obtain ⟨_, _, rfl, _⟩ := State.begin_eq hb
    rfl
  exact ⟨_, hi.exec_eq hserve, State.sameUnits_of_kept hkept, State.sameSessions_of_kept hkept,
    (State.changes_of_kept hkept).1, (State.answer_sec (.inl rfl) ..).trans ((t.dataRead_sec st).trans hsec)⟩

/-! ## O13, O14 and O17 -/

/-- A change that this device's LEAD runs on both twins is held, and PREPARE goes out for it (R401). -/
theorem State.finish_change_onBoth {t u : State} {h : Hdr} {c : Cmd} {m : Mirrored} {objs : List (Nat × Nat)}
    {l : List Change} (hn : Hdr_twinned h = false) (halone : h.group = false) (hboth : t.onBoth h c = true)
    (hm : c.mirror = some m) : t.finish h c (.change objs u l) =
      (u.hold h c.op c.extends).sendTxn h c.op none (resolve m 0 l) true c.target objs l := by
  simp only [State.finish, halone, State.passChange, hboth, hm]
  cases ho : h.origin with
  | colonnade x => simp [Hdr_twinned, ho] at hn
  | host | slait => rfl

/-- The LEAD prepares a change of a command that its rules accept. -/
theorem State.serve_prepare {s t u : State} {h : Hdr} {c : Cmd} {m : Mirrored} {objs : List (Nat × Nat)} {l : List Change}
    (hb : s.begin h c.op = some t) (hn : Hdr_twinned h = false) (hhere : h.target = s.sec.deviceId)
    (halone : h.group = false) (hp : t.precheck h c = none) (hg : t.mirrorGate h c = none) (hop : c.op ≠ 0x0609)
    (hboth : t.onBoth h c = true) (hm : c.mirror = some m) (hr : c.rule h t = .change objs u l) :
    s.serve c h = (u.hold h c.op c.extends).sendTxn h c.op none (resolve m 0 l) true c.target objs l := by
  rw [State.serve_here hb (.inr hhere), State.verdict_own hp halone hg (State.otherS_of_notTwin hn ..), hr,
    Rule.fits_change_of_ne hop, State.finish_change_onBoth hn halone hboth hm]

/-- Settles O13: a command with TWIN on an attached LEAD runs on both twins. -/
theorem twinCommandsPrepared : Obligations.TwinCommandsPrepared := by
  intro i s t u h c m objs l hi hb hn hhere halone hp hg hop hm htwin hrole hattached hr
  have hboth : t.onBoth h c = true := by simp [State.onBoth, State.twinned, hm, hn, htwin, hrole, hattached]
  exact hi.exec_eq (State.serve_prepare hb hn hhere halone hp hg hop hboth hm hr)

/-- A command from the twin meets no gate (R399). -/
theorem State.mirrorGate_of_twinned {h : Hdr} (ht : Hdr_twinned h = true) (t : State) (c : Cmd) :
    t.mirrorGate h c = none := by simp [State.mirrorGate, ht]

/-- Settles O14: what comes from the twin is prepared, whatever device its header names. -/
theorem followPrepares : Obligations.FollowPrepares := by
  intro i s t u h c m objs l txn hi ho hb halone hp hop hm hr
  have htwin : Hdr_twinned h = true := by simp [Hdr_twinned, ho]
  have hother : t.otherS h c.op (s.chosen h) = false := by simp [State.otherS, hop]
  have hfits : (Rule.change objs u l).fits h c = .change objs u l := by simp only [Rule.fits, ho]
  refine hi.exec_eq ?_
  rw [State.serve_here hb (.inl htwin),
    State.verdict_own hp halone (State.mirrorGate_of_twinned htwin t c) hother, hr, hfits]
  simp [State.finish, halone, State.passChange, ho, hm]

/-- TWIN_ROLE_SWAP of an attached LEAD is the change of the roles (R406). -/
theorem cmdTwinRoleSwap_rule {t : State} (hattached : t.twin.attached = true) (hrole : t.twin.role = .lead) (h : Hdr) :
    cmdTwinRoleSwap.rule h t = .change [objRole] t [.roleSwap] :=
  Rule.need_pass (by simp [hattached, hrole]) ..

/-- Settles O17: the exchange of the roles runs on both twins without TWIN. -/
theorem twinRoleSwap : Obligations.TwinRoleSwap := by
  intro s t h hb hn hhere halone hp hg hattached hrole
  have hboth : t.onBoth h cmdTwinRoleSwap = true := by
    have hmirror : cmdTwinRoleSwap.mirror.isSome = true := rfl
    have hop : (cmdTwinRoleSwap.op == 0x0C05) = true := rfl
    simp [State.onBoth, hmirror, hop, hn, hattached, hrole]
  have hi : Slait (.twinRoleSwap h) h cmdTwinRoleSwap := fun _ => rfl
  have hserve := State.serve_prepare (c := cmdTwinRoleSwap) (m := .twinRoleSwap) hb hn hhere halone hp hg
    (show 0x0C05 ≠ 0x0609 by decide) hboth rfl (cmdTwinRoleSwap_rule hattached hrole h)
  exact hi.exec_eq hserve

/-! ## O18 -/

/-- The rules of a part of its session's open group, checked after the parts before it (R357): the state in which it is
held is the one that the command's own check leaves, and the present one where that check answers no change (log 80). -/
theorem State.partRule_of_own {t u : State} {h : Hdr} {c : Cmd} {g : Group} {objs : List (Nat × Nat)} {l : List Change}
    (hg : t.group = some g) (hid : g.id = h.groupId) (hsender : g.sender = hdrSender h) (htwin : g.twin = h.twin)
    (hopen : g.commit = none) (hroom : g.parts.length < 256) (hfree : ∀ p ∈ g.parts, ∀ o ∈ p.objs, o ∉ objs)
    (hr : c.rule h (t.withParts g.parts) = .change objs u l) :
    ∃ v, t.partRule h c = .change objs v l ∧ (∀ o w k, c.rule h t = .change o w k → v = w) ∧
      ((∀ o w k, c.rule h t ≠ .change o w k) → v = t) := by
  have hown : t.ownGroup h = some g := by simp [State.ownGroup, hg, hid, hsender]
  have hclash : (g.parts.any fun p => p.objs.any objs.contains) = false := by simpa using hfree
  simp only [State.partRule, hown, htwin, bne_self_eq_false, hopen, hr, hclash, Nat.not_le.mpr hroom, if_false,
    reduceCtorEq, Option.isSome_none]
  cases c.rule h t with
  | change o w k =>
    refine ⟨w, rfl, fun _ _ _ he => ?_, fun hne => absurd rfl (hne o w k)⟩
    rw [Rule.change.injEq] at he
    exact he.2.1
  | refuse | done | held => exact ⟨t, rfl, by simp only [reduceCtorEq, false_implies, implies_true], fun _ => rfl⟩

/-- A part that passes is held with OK. -/
theorem State.serve_part {s t v : State} {h : Hdr} {c : Cmd} {objs : List (Nat × Nat)} {l : List Change}
    (hb : s.begin h c.op = some t) (hn : Hdr_twinned h = false) (hhere : h.target = s.sec.deviceId) (hpart : h.group = true)
    (hp : t.precheck h c = none) (hg : t.mirrorGate h c = none) (halone : t.onBoth h c = false) (hop : c.op ≠ 0x0609)
    (hr : t.partRule h c = .change objs v l) :
    s.serve c h = ((v.notePart h c.op stOk).addPart c.op objs l).answer h c.op c.extends stOk 0 0 0 [] := by
  have hverdict : t.verdict h c (s.chosen h) = .change objs v l := by
    simp [State.verdict, State.ruleOf, hp, hpart, hg, hr, State.otherS_of_notTwin hn, Rule.fits_change_of_ne hop]
  rw [State.serve_here hb (.inr hhere), hverdict]
  simp [State.finish, hpart, State.passPart, halone]

/-- Settles O18: the part is held with OK in the state of `State.partRule_of_own`. -/
theorem groupPartsHeld : Obligations.GroupPartsHeld := by
  intro i s t u h c g objs l hi hb hn hhere hpart hp hg halone hgroup hid hsender htwin hopen hroom hfree hr hop held
  obtain ⟨v, hrule, hchange, hnone⟩ := State.partRule_of_own hgroup hid hsender htwin hopen hroom hfree hr
  have hheld : held v := hi.exec_eq (State.serve_part hb hn hhere hpart hp hg halone hop hrule)
  exact ⟨fun o w k hown => hchange o w k hown ▸ hheld, fun hown => hnone hown ▸ hheld⟩

end Sys2Proof.Machine
end

section
/-! PROOF. Every telemetry event (O54), every power and Dormant-mode event (O52), every unit-fault event (O57), and every
start-up event, case by case (O53) and where it completes (O59). An event follows its own case distinction: what it
matches on is split first, and `ite_next_eq` gathers the conditions that are left into one next state. -/

namespace Sys2Proof.Machine

/-! ## O54 -/

/-- Settles O54, clause by clause, in the order of the statement. -/
theorem telemetryEvents : Obligations.TelemetryEvents := by
  intro s
  refine ⟨?streamIntervalClose, ?exportPacketGenerate, ?queueReportGenerate⟩
  case streamIntervalClose =>
    intro stream hs x
    exact (ite_next_eq ..).mpr (onUnit_next (decide_eq_true hs) ..)
  case exportPacketGenerate =>
    intro stream hs x
    exact (ite_next_eq ..).mpr (onUnit_next (decide_eq_true hs) ..)
  case queueReportGenerate =>
    intro queue hq
    have e : exec (.queueReportGenerate queue) s = _ := onUnit_next (decide_eq_true hq) ..
    cases hr : (s.equeue queue).reportDue <;> simpa only [ite_next_eq, hr] using e

/-! ## O52 -/

/-- Settles O52, clause by clause, in the order of the statement. -/
theorem powerEvents : Obligations.PowerEvents := by
  intro s
  refine ⟨?ringWakeDetect, ?wakeWaveEnd, ?governorDecision, ?avsAck, ?avsSettle, ?avsWriteFail, ?avsRetryPeriod,
    ?thermalComparatorTrip, ?timeCompareTrip, ?supplyLow, ?extLevelTrip, ?wakeNLow, ?thermtrip⟩
  case ringWakeDetect => rfl
  case wakeWaveEnd => exact fun _ => rfl
  case governorDecision => exact (ite_next_eq ..).mpr rfl
  case avsAck =>
    simp only [exec, execAvsAck]
    cases s.power.avs <;> simp only [ite_next_eq]
  case avsSettle =>
    simp only [exec, execAvsSettle]
    cases s.power.avs with
    | none => rfl
    | some w => cases ha : w.ackAt <;> simp only [ha, ite_next_eq]
  case avsWriteFail =>
    simp only [exec, execAvsWriteFail]
    cases s.power.avs <;> simp only [ite_next_eq]
  case avsRetryPeriod =>
    simp only [exec, execAvsRetryPeriod]
    cases s.power.avsFault <;> simp only [ite_next_eq]
  case thermalComparatorTrip =>
    intro tc tj s1 htc
    have e : exec (.thermalComparatorTrip tc tj) s = _ := onUnit_next (decide_eq_true htc) ..
    cases ht : s1.threshold (4 + tc) <;> simp only [ite_next_eq] <;> exact e.trans (by simp only [s1, ht])
  case timeCompareTrip =>
    intro cmp hcmp
    have e : exec (.timeCompareTrip cmp) s = _ := onUnit_next (decide_eq_true hcmp) ..
    cases hi : (s.cmp cmp).instant <;> simpa only [ite_next_eq, hi] using e
  case supplyLow =>
    intro cmp mv hcmp
    simp only [ite_next_eq]
    exact onUnit_next hcmp ..
  case extLevelTrip =>
    intro cmp mv hcmp
    simp only [ite_next_eq]
    exact onUnit_next hcmp ..
  case wakeNLow => exact (ite_next_eq ..).mpr rfl
  case thermtrip =>
    simp only [ite_next_eq]
    rfl

/-! ## O57 -/

/-- Settles O57, clause by clause, in the order of the statement. -/
theorem faultEvents : Obligations.FaultEvents := by
  intro s
  refine ⟨?bankSpareCopy, ?partitionBankDrained, ?faultRaise, ?permanenceClear, ?wireFault, ?wireUnmask, ?eccWriteBack,
    ?backgroundPortRead⟩
  case bankSpareCopy =>
    intro store bank found hb
    have e : exec (.bankSpareCopy store bank found) s = _ := onUnit_next (decide_eq_true hb) ..
    cases hj : s.faults.spareJobs.find? fun j => j.store == store && j.bank == bank && j.switchAt.isNone <;>
      simpa only [ite_next_eq, hj] using e
  case partitionBankDrained =>
    intro part bank hu
    have e : exec (.partitionBankDrained part bank) s = _ := onUnit_next hu ..
    cases hb : s.partBank (part * 32 + bank) <;> simpa only [ite_next_eq, hb] using e
  case faultRaise =>
    intro source inst detail hs
    simp only [ite_next_eq]
    exact onUnit_next hs ..
  case permanenceClear => exact fun source inst hs => (ite_next_eq ..).mpr (onUnit_next hs ..)
  case wireFault => exact fun source inst hs => (ite_next_eq ..).mpr (onUnit_next hs ..)
  case wireUnmask => exact fun source hs => (ite_next_eq ..).mpr (onUnit_next hs ..)
  case eccWriteBack =>
    intro addr
    simp only [exec, execEccWriteBack]
    cases bankOfAddr addr with
    | some b => simp only [ite_next_eq]
    | none => cases partOfAddr addr <;> simp only [ite_next_eq]
  case backgroundPortRead => exact fun replica index found hu => (ite_next_eq ..).mpr (onUnit_next hu ..)

/-! ## O53 -/

/-- Settles O53, clause by clause, in the order of the statement. -/
theorem startupEvents : Obligations.StartupEvents := by
  intro s
  refine ⟨?gatehouseClockLost, ?gatehousePowerUp, ?perstAssert, ?coreResetRelease, ?arrayInitDone, ?bootRomStart,
    ?firmwareStart, ?firmwareInitDone, ?hssTreeReady, ?pcieFunctionReset, ?powerDown⟩
  case gatehouseClockLost => exact (ite_next_eq ..).mpr rfl
  case gatehousePowerUp => rfl
  case perstAssert => rfl
  case coreResetRelease => exact fun straps railsMv clockStable => (ite_next_eq ..).mpr rfl
  case arrayInitDone => exact (ite_next_eq ..).mpr rfl
  case bootRomStart =>
    intro romOk fusesOk leafBurnOk romHash slotA slotB
    simp only [ite_next_eq]
    rfl
  case firmwareStart =>
    simp only [exec, execFirmwareStart]
    cases s.sec.chosen <;> simp only [ite_next_eq]
  case firmwareInitDone => exact fun seedHigh seedLow => (ite_next_eq ..).mpr rfl
  case hssTreeReady => exact (ite_next_eq ..).mpr rfl
  case pcieFunctionReset => exact fun func linkDown hf => onUnit_next (decide_eq_true hf) ..
  case powerDown => rfl

/-! ## O59 -/

/-- An event that answers one of two next states answers the first where its condition holds. -/
theorem next_if_pos {c : Prop} [Decidable c] (hc : c) (a b : State) :
    (Host.Outcome.next (if c then a else b) : Host.Outcome State Fault Refusal) = .next a := congrArg _ (if_pos hc)

/-- The board's removal of the rails frees THERMTRIP_N, and a junction below 100 degrees releases it (R438, R480). -/
theorem execPowerDown_eq (s : State) :
    let t := s.coreReset .reset
    let free := s.faults.thermtripPin && decide (s.clock.last.tj < 100)
    execPowerDown s = .next { t with faults := { t.faults with
      thermtripPin := s.faults.thermtripPin && !free, thermtripFree := s.faults.thermtripPin && !free } } := by
  intro t free
  have hpin : t.faults.thermtripPin = s.faults.thermtripPin := rfl
  refine congrArg Host.Outcome.next ?_
  unfold State.coolPin
  cases hfree : free with
  | true =>
    refine (if_pos hfree).trans ?_
    simp only [Bool.not_true, Bool.and_false]
    rfl
  | false =>
    refine (if_neg (by rw [hpin]; simpa [free] using hfree)).trans ?_
    simp only [Bool.not_false, Bool.and_true]
    rfl

/-- Settles O59, clause by clause, in the order of the statement: the hypotheses of a clause decide the event's case. -/
theorem startupCompletes : Obligations.StartupCompletes := by
  intro s
  refine ⟨?gatehouseClockLost, ?gatehousePowerUp, ?perstAssert, ?coreResetRelease, ?arrayInitDone, ?bootRomStart,
    ?firmwareStart, ?firmwareInitDone, ?hssTreeReady, ?pcieFunctionReset, ?powerDown⟩
  case gatehouseClockLost => exact fun hrun => next_if_pos hrun ..
  case gatehousePowerUp => exact ⟨_, rfl, rfl⟩
  case perstAssert =>
    intro hdev
    simp only [exec, execPerstAssert, if_neg hdev]
  case coreResetRelease =>
    intro straps railsMv hdev hrails
    exact next_if_pos (by simp [hdev, hrails]) ..
  case arrayInitDone =>
    intro hdev harrays
    exact next_if_pos ⟨hdev, by simp [harrays]⟩ ..
  case bootRomStart =>
    intro leafBurnOk romHash slotA slotB hdev hstep t
    have hrun : exec (.bootRomStart true true leafBurnOk romHash slotA slotB) s =
        .next (if t.sec.bootHost then { t with sec.step := .waitPush } else t.romFlash slotA slotB) :=
      congrArg Host.Outcome.next ((if_neg (by simp [hdev, hstep])).trans (if_neg (by simp)))
    exact ⟨fun hhost => by rw [hrun, hhost]; rfl, fun hhost => by rw [hrun, hhost]; rfl⟩
  case firmwareStart =>
    intro h hchosen hdev hstep harrays
    simp only [exec, execFirmwareStart, hchosen]
    exact next_if_pos ⟨hdev, hstep, harrays⟩ ..
  case firmwareInitDone =>
    intro seedHigh seedLow hdev hstep hinit
    exact next_if_pos ⟨hdev, hstep, by simp [hinit]⟩ ..
  case hssTreeReady =>
    intro hrunning hleaf hexhausted htree
    exact next_if_pos (by simp [hrunning, hleaf, hexhausted, htree]) ..
  case pcieFunctionReset => exact fun func linkDown hf => onUnit_next (decide_eq_true hf) ..
  case powerDown => exact execPowerDown_eq s

end Sys2Proof.Machine
end

section
/-! PROOF. Every session and device-state command (O31), every group command (O44), every telemetry command (O39) and every
power command (O40). A command is its rule, whose checks are passed one by one. -/

namespace Sys2Proof.Machine

/-! ## O31 -/

theorem groupRange_pass {group : Nat} (h : group < 32) (rest : Rule) : groupRange group rest = rest :=
  Rule.need_pass (decide_eq_true h) ..

/-- Settles O31, clause by clause, in the order of the statement: the conditions of a clause are the checks of the
command's rule. -/
theorem sessionCommands : Obligations.SessionCommands := by
  intro s t h
  refine ⟨?hello, ?goodbye, ?deviceStateGet, ?deviceStateSet, ?cpuQueueMapSet, ?eventRouteSet, ?eventStatusGet,
    ?eventStatusClear, ?sessionStatsGet, ?echo⟩
  case hello =>
    intro lowMaj lowMin highMaj highMin telemetry
    cases hv : agree (lowMaj * 256 + lowMin) (highMaj * 256 + highMin) with
    | none => trivial
    | some v =>
      refine Does.intro rfl ?_
      simp only [cmdHello, Cmd.set, hv]
      rfl
  case goodbye => exact Does.intro rfl rfl
  case deviceStateGet => exact Does.intro rfl rfl
  case deviceStateSet =>
    intro target htarget hdev
    exact Accepts.intro rfl ((Rule.need_pass htarget ..).trans (Rule.need_pass hdev ..))
      (show 0x0104 ≠ 0x0609 by decide) rfl
  case cpuQueueMapSet =>
    intro queue ring hqueue hring
    exact Accepts.intro rfl ((Rule.need_pass (decide_eq_true hqueue) ..).trans (Rule.need_pass (decide_eq_true hring) ..))
      (show 0x0105 ≠ 0x0609 by decide) rfl
  case eventRouteSet =>
    intro group enable ring hgroup hring
    exact Does.intro rfl ((groupRange_pass hgroup _).trans (Rule.need_pass (decide_eq_true hring) ..))
  case eventStatusGet => exact fun group hgroup => Does.intro rfl (groupRange_pass hgroup _)
  case eventStatusClear => exact fun group mask hgroup => Does.intro rfl (groupRange_pass hgroup _)
  case sessionStatsGet =>
    intro sel clear hindex hkind
    exact Does.intro rfl ((Rule.need_pass (decide_eq_true hindex) ..).trans
      ((Rule.need_pass (decide_eq_true hkind) ..).trans (statsRule_noGauges ..)))
  case echo => exact fun data => Does.intro rfl rfl

/-! ## O44 -/

/-- A command on the session's own open group, of the same twin mode and not yet committed, meets its checks. -/
theorem State.groupNeed_pass {t : State} {h : Hdr} {g : Group} (hown : t.ownGroup h = some g)
    (htwin : g.twin = (h.twin || Hdr_twinned h)) (hopen : g.commit = none) (rest : Group → Rule) :
    t.groupNeed h rest = rest g := by
  simp only [State.groupNeed, hown]
  exact (Rule.need_pass (by rw [htwin, beq_self_eq_true]) ..).trans (Rule.need_pass (by rw [hopen]; rfl) ..)

/-- Settles O44, clause by clause, in the order of the statement. -/
theorem groupCommands : Obligations.GroupCommands := by
  intro s t h
  refine ⟨?groupOpen, ?groupCommit, ?groupDiscard, ?groupStatusGet⟩
  case groupOpen => exact fun hnone => Does.intro rfl (Rule.need_pass hnone ..)
  case groupCommit =>
    intro target g hown htwin hopen hs
    have hboth : g.twin = (h.twin || Hdr_twinned h) := by rw [htwin, hs.notTwin, Bool.or_false]
    have hserve := hs.held (c := cmdGroupCommit target) (State.groupNeed_pass hown hboth hopen _)
      (fun _ _ _ _ => Nat.zero_le _)
    exact congrArg (fun u => Host.Outcome.next (State.failedGroup u)) hserve
  case groupDiscard => exact fun g hown htwin hopen => Does.intro rfl (State.groupNeed_pass hown htwin hopen _)
  case groupStatusGet =>
    cases hg : t.group with
    | none => trivial
    | some g =>
      refine fun hid => Does.intro rfl ?_
      simp only [cmdGroupStatusGet, Cmd.get, hg]
      exact Rule.need_pass hid ..

/-! ## O39 -/

theorem streamRange_pass {stream : Nat} (h : stream < 4) (rest : Rule) : streamRange stream rest = rest :=
  Rule.need_pass (decide_eq_true h) ..

/-- Settles O39, clause by clause, in the order of the statement: the conditions of a clause are the checks of the
command's rule. -/
theorem telemetryCommands : Obligations.TelemetryCommands := by
  intro s t h
  refine ⟨?telemetryStreamSet, ?telemetryStreamGet, ?queueReportSet, ?ioamSet, ?queueSampleGet, ?perfCounterSet,
    ?telemetryStatsGet⟩
  case telemetryStreamSet =>
    intro stream r fields _ hstream hparam hdest
    exact Accepts.intro rfl ((streamRange_pass hstream _).trans ((Rule.need_pass hparam ..).trans
      (Rule.need_pass hdest ..))) (show 0x0901 ≠ 0x0609 by decide) rfl
  case telemetryStreamGet => exact fun stream hstream => Does.intro rfl (streamRange_pass hstream _)
  case queueReportSet =>
    intro queue r fields hqueue hport hparam his
    exact Accepts.intro rfl ((Rule.need_pass (decide_eq_true hqueue) ..).trans
      ((Rule.need_pass (decide_eq_true hport) ..).trans ((Rule.need_pass hparam ..).trans (Rule.need_pass his ..))))
      (show 0x0903 ≠ 0x0609 by decide) rfl
  case ioamSet =>
    exact fun nodeId td namespaces hparam => Accepts.intro rfl (Rule.need_pass hparam ..)
      (show 0x0904 ≠ 0x0609 by decide) rfl
  case queueSampleGet =>
    intro first count hfirst hcount hlast
    exact Does.intro rfl ((Rule.need_pass (decide_eq_true hfirst) ..).trans ((Rule.need_pass hcount ..).trans
      (Rule.need_pass (decide_eq_true hlast) ..)))
  case perfCounterSet =>
    intro scope counter record hscope hcounter hparam
    exact Does.intro rfl ((Rule.need_pass (decide_eq_true hscope) ..).trans
      ((Rule.need_pass (decide_eq_true hcounter) ..).trans (Rule.need_pass hparam ..)))
  case telemetryStatsGet =>
    intro sel clear hkind hindex his
    exact Does.intro rfl ((Rule.need_pass (decide_eq_true hkind) ..).trans ((Rule.need_pass (decide_eq_true hindex) ..).trans
      ((Rule.need_pass his ..).trans (statsRule_noGauges ..))))

/-! ## O40 -/

/-- Settles O40, clause by clause, in the order of the statement: the conditions of a clause are the checks of the
command's rule. -/
theorem powerCommands : Obligations.PowerCommands := by
  intro s t h
  refine ⟨?powerCapSet, ?powerStatusGet, ?opHostSet, ?thermalSet, ?comparatorSet, ?comparatorGet, ?dormantEnter, ?deviceWake,
    ?powerCompatSet, ?castTableGet⟩
  case powerCapSet => exact fun cap window margin hparam => Answers.intro rfl (Rule.need_pass hparam ..)
  case powerStatusGet => exact Does.intro rfl rfl
  case opHostSet =>
    exact fun op hop => Accepts.intro rfl (Rule.need_pass (decide_eq_true hop) ..) (show 0x0A03 ≠ 0x0609 by decide) rfl
  case thermalSet => exact fun en hen => Does.intro rfl (Rule.need_pass (decide_eq_true hen) ..)
  case comparatorSet =>
    exact fun cmp f hcmp hparam => Does.intro rfl ((Rule.need_pass (decide_eq_true hcmp) ..).trans (Rule.need_pass hparam ..))
  case comparatorGet => exact fun cmp hcmp => Does.intro rfl (Rule.need_pass (decide_eq_true hcmp) ..)
  case dormantEnter =>
    intro wakeNEn hwake hstate
    exact Accepts.intro rfl ((Rule.need_pass hwake ..).trans (Rule.need_pass hstate ..))
      (show 0x0A07 ≠ 0x0609 by decide) rfl
  case deviceWake => exact fun west hdown => Does.intro rfl (Rule.need_pass hdown ..)
  case powerCompatSet =>
    intro freqs hlen hparam hstate
    exact Accepts.intro rfl ((Rule.need_pass (decide_eq_true hlen) ..).trans ((Rule.need_pass hparam ..).trans
      (Rule.need_pass hstate ..))) (show 0x0A09 ≠ 0x0609 by decide) rfl
  case castTableGet => exact Does.intro rfl rfl

end Sys2Proof.Machine
end

section
/-! PROOF. Every twin and ring command (O42), every fault command (O41), and every boot, security and Armature command
(O43). A command is its rule, whose checks are passed or failed one by one. -/

namespace Sys2Proof.Machine

/-! ## O42 -/

/-- Settles O42, clause by clause, in the order of the statement: the conditions of a clause are the checks of the
command's rule. -/
theorem twinCommands : Obligations.TwinCommands := by
  intro s t h
  refine ⟨?twinBind, ?twinUnbind, ?twinJoin, ?twinDetach, ?twinDrain, ?twinNotifySet, ?twinStatusGet, ?ringStatusGet,
    ?ringEnumerate, ?twinStatsGet⟩
  case twinBind =>
    intro role peer peerId hpeer hrole hconn
    exact Does.intro rfl ((Rule.need_pass (decide_eq_true hpeer) ..).trans ((Rule.need_pass hrole ..).trans
      (Rule.need_pass hconn ..)))
  case twinUnbind => exact fun hconn => Does.intro rfl (Rule.need_pass hconn ..)
  case twinJoin => exact fun hstate => Waits.intro rfl (Rule.need_pass hstate ..)
  case twinDetach =>
    exact fun hattached => Accepts.intro rfl (Rule.need_pass hattached ..) (show 0x0C04 ≠ 0x0609 by decide) rfl
  case twinDrain =>
    exact fun on hstate => Accepts.intro rfl (Rule.need_pass hstate ..) (show 0x0C06 ≠ 0x0609 by decide) rfl
  case twinNotifySet =>
    intro r fields n
    cases hport : n.ports.find? fun p => decide (1023 < p) with
    | some p => trivial
    | none =>
      refine fun hparam => Does.intro rfl ?_
      simp only [cmdTwinNotifySet, Cmd.set, n, hport]
      exact Rule.need_pass hparam ..
  case twinStatusGet => exact Does.intro rfl rfl
  case ringStatusGet => exact Does.intro rfl rfl
  case ringEnumerate => exact fun hroot => Waits.intro rfl (Rule.need_pass hroot ..)
  case twinStatsGet => exact fun clear => Does.intro rfl (statsRule_noGauges ..)

/-! ## O41 -/

theorem sourceRange_pass {source : Nat} (h : source < 1024) (rest : Rule) : sourceRange source rest = rest :=
  Rule.need_pass (decide_eq_true h) ..

/-- A command whose rules tell a part of a group from a command of its own: what starts is no part of one. -/
theorem Does.intro_alone {s t u : State} {h : Hdr} {i : Instr} {c : Cmd} {res : Nat} {pl : List Nat}
    (hi : exec i s = .next (s.serve c h))
    (hr : h.group = false → c.rule h t = .done u stOk 0 (BitVec.ofNat 64 res) pl) : Does s t h i c u res pl :=
  fun hs => Does.intro hi (hr hs.alone) hs

theorem Answers.intro_alone {s t : State} {h : Hdr} {i : Instr} {c : Cmd} {r : Rule}
    (hi : exec i s = .next (s.serve c h)) (hr : h.group = false → c.rule h t = r) : Answers s t h i c r := by
  cases r with
  | done => exact fun hs => Ends.intro hi (hr hs.alone) hs
  | change => exact fun hop hl hs => Accepts.intro hi (hr hs.alone) hop hl hs
  | held => exact fun hs => Waits.intro hi (hr hs.alone) hs
  | refuse => exact fun hs => Refuses.intro hi (hr hs.alone) hs

/-- A check that passes, before what only a command of its own does. -/
theorem Rule.need_pass_alone {ok : Bool} {h : Hdr} (hok : ok = true) (halone : h.group = false) (no part own : Rule) :
    Rule.need ok no (if h.group then part else own) = own :=
  (Rule.need_pass hok ..).trans (if_neg (by simp [halone]))

/-- What UNIT_RETIRE, UNIT_FENCE and UNIT_RESTORE check before the unit's own state: that it exists, that the command
applies to its kind, and that no reaction of this tick has come before it. -/
theorem unitChecks_pass {u : UnitRef} {kind free : Bool} (hrange : UnitRef.range u = none) (hkind : kind = true)
    (hfree : free = true) (rest : Rule) :
    needRange (UnitRef.range u) (.need kind .param (.need free .conflict rest)) = rest :=
  (needRange_pass hrange _).trans ((Rule.need_pass hkind ..).trans (Rule.need_pass hfree ..))

/-- Settles O41, clause by clause, in the order of the statement: the conditions of a clause are the checks of the
command's rule. -/
theorem faultCommands : Obligations.FaultCommands := by
  intro s t h
  refine ⟨?faultReactionSet, ?faultReactionGet, ?faultConfigSet, ?faultLogRead, ?faultFirstGet, ?faultFirstClear,
    ?faultStatusGet, ?unitRetire, ?unitFence, ?unitRestore, ?faultStatsGet, ?faultInject⟩
  case faultReactionSet =>
    exact fun source f hsource hparam => Does.intro rfl ((sourceRange_pass hsource _).trans (Rule.need_pass hparam ..))
  case faultReactionGet => exact fun source hsource => Does.intro rfl (sourceRange_pass hsource _)
  case faultConfigSet => exact fun logMin firstMin isolatePorts hparam => Does.intro rfl (Rule.need_pass hparam ..)
  case faultLogRead =>
    intro first count hparam n
    refine ⟨fun hbeyond => Does.intro rfl ((Rule.need_pass hparam ..).trans (if_pos hbeyond)), fun hbefore => ?_⟩
    intro held from_ k
    cases hpoison : ((List.range (4 * k)).map fun i => logWordAddr ((from_ * 4 + i) % 16384)).find? t.poisonAt with
    | some a => trivial
    | none =>
      refine Ends.intro rfl ((Rule.need_pass hparam ..).trans ((if_neg hbefore).trans ?_))
      simp only [hpoison, k, from_, held, n] <;> rfl
  case faultFirstGet => exact Does.intro rfl rfl
  case faultFirstClear => exact Does.intro rfl rfl
  case faultStatusGet => exact fun source inst hsource => Does.intro rfl (sourceRange_pass hsource _)
  case unitRetire =>
    intro u hrange hkind hfree s1
    have hchecks := unitChecks_pass hrange hkind hfree
    cases u with
    | pipe | partBank =>
      exact fun hmay => Accepts.intro rfl ((hchecks _).trans (Rule.need_pass hmay ..)) (show 0x0B08 ≠ 0x0609 by decide) rfl
    | tableBank st b =>
      exact fun hmay => Does.intro_alone rfl fun halone => (hchecks _).trans (Rule.need_pass_alone hmay halone ..)
    | _ => trivial
  case unitFence =>
    intro u hrange hkind hfree s1
    have hchecks := unitChecks_pass hrange hkind hfree
    cases u with
    | slice | replica => exact Accepts.intro rfl (hchecks _) (show 0x0B09 ≠ 0x0609 by decide) rfl
    | lineEngine | lookaside => exact Does.intro_alone rfl fun halone => (hchecks _).trans (if_neg (by simp [halone]))
    | _ => trivial
  case unitRestore =>
    intro u hrange hfree s1
    have hchecks : ∀ rest, needRange (UnitRef.range u) (.need (!t.reactedNow u) .conflict rest) = rest := fun rest =>
      (needRange_pass hrange _).trans (Rule.need_pass hfree ..)
    cases u with
    | pipe | partBank =>
      exact fun hdown => Accepts.intro rfl ((hchecks _).trans (Rule.need_pass hdown ..)) (show 0x0B0A ≠ 0x0609 by decide) rfl
    | tableBank st b =>
      exact fun hspared => Does.intro_alone rfl fun halone => (hchecks _).trans (Rule.need_pass_alone hspared halone ..)
    | slice | replica | lineEngine | lookaside | armEngine =>
      exact fun hfenced => Accepts.intro rfl ((hchecks _).trans (Rule.need_pass hfenced ..))
        (show 0x0B0A ≠ 0x0609 by decide) rfl
    | lane n => exact Answers.intro_alone rfl fun halone => (hchecks _).trans (if_neg (by simp [halone]))
    | trellis e => exact Answers.intro rfl (hchecks _)
  case faultStatsGet =>
    intro sel clear hindex hkind
    exact Does.intro rfl ((Rule.need_pass (decide_eq_true hindex) ..).trans
      ((Rule.need_pass (decide_eq_true hkind) ..).trans (statsRule_noGauges ..)))
  case faultInject => exact Answers.intro rfl rfl

/-! ## O43 -/

theorem chunkRange_pass {offset : Nat} {chunk : List Byte} (hoffset : offset ≤ 2 ^ 24) (hlen : chunk.length ≤ 131008)
    (rest : Rule) : chunkRange offset chunk rest = rest :=
  (Rule.need_pass (decide_eq_true hoffset) ..).trans (Rule.need_pass (decide_eq_true hlen) ..)

/-- Every reply buffer holds no values at all, where the command's parameters allow none. -/
theorem holds_zero {c : Cmd} (hmost : c.most = 0) (h : Hdr) : holds h c 0 := by
  unfold holds
  split
  · simp [Cmd.replyNeed, resultBytes, hmost]
  · trivial

/-- FW_RESTART restarts the core after its reply (R470). -/
theorem execFwRestart_starts {s t : State} {h : Hdr} (hdev : t.cmd.dev = .configure) (hdetached : t.twin.attached = false)
    (hs : Starts s t h cmdFwRestart) : execFwRestart h s =
      .next ((({ t with sec.restarting := true }).replied h cmdFwRestart 0 []).coreReset .reset) := by
  have hrule : cmdFwRestart.rule h t = .ok { t with sec.restarting := true } :=
    Rule.need_pass (by simp [hdev, hdetached]) ..
  have hserve : s.serve cmdFwRestart h = ({ t with sec.restarting := true }).replied h cmdFwRestart 0 [] :=
    hs.done hrule (holds_zero rfl h)
  have hsec : (({ t with sec.restarting := true }).replied h cmdFwRestart 0 []).sec = { t.sec with restarting := true } :=
    State.answer_sec (.inl rfl) ..
  unfold execFwRestart
  simp only [hserve, hsec, if_true]

/-- Settles O43, clause by clause, in the order of the statement: the conditions of a clause are the checks of the
command's rule. -/
theorem securityAndArmatureCommands : Obligations.SecurityAndArmatureCommands := by
  intro s t h
  refine ⟨?bootStatusGet, ?fwPush, ?fwPushDone, ?fwFlashWrite, ?fwFlashCommit, ?fwRestart, ?svnAdvance, ?keyRevoke,
    ?identityCertGet, ?measurementGet, ?attestReportGet, ?armPatchLoad, ?armPatchActivate, ?armPatchRevert,
    ?armPatchStatusGet, ?armEngineSet, ?armEngineStatusGet, ?armEngineRestore, ?armStatsGet⟩
  case bootStatusGet => exact Does.intro rfl rfl
  case fwPush =>
    exact fun offset chunk hoffset hlen hwait => Does.intro rfl ((chunkRange_pass hoffset hlen _).trans
      (Rule.need_pass hwait ..))
  case fwPushDone =>
    intro high low total image v u hdev hstep
    have hwait := Rule.need_pass (ok := t.cmd.dev == .boot && t.sec.step == .waitPush) (by simp [hdev, hstep]) .conflict
    split
    next hcode => exact Does.intro rfl ((hwait _).trans (if_pos hcode))
    next hcode => exact Ends.intro rfl ((hwait _).trans (if_neg hcode))
  case fwFlashWrite => exact fun offset chunk hoffset hlen => Does.intro rfl (chunkRange_pass hoffset hlen _)
  case fwFlashCommit =>
    intro high low total k l v u
    split
    next hcode => exact Ends.intro rfl (if_neg (not_not.mpr hcode))
    next hcode => exact Answers.intro rfl (if_pos hcode)
  case fwRestart => exact fun hdev hdetached hs => execFwRestart_starts hdev hdetached hs
  case svnAdvance =>
    intro v hparam
    exact ⟨fun hsame => Does.intro rfl ((Rule.need_pass hparam ..).trans (if_pos hsame)),
      fun hnew hlimit => Does.intro rfl ((Rule.need_pass hparam ..).trans ((if_neg hnew).trans
        (Rule.need_pass (decide_eq_true hlimit) ..)))⟩
  case keyRevoke =>
    intro lms slot hslot hleft u
    exact Does.intro rfl ((Rule.need_pass (decide_eq_true hslot) ..).trans (Rule.need_pass hleft ..))
  case identityCertGet => exact Does.intro rfl rfl
  case measurementGet => exact Does.intro rfl rfl
  case attestReportGet =>
    intro nonce hleft
    refine ⟨fun hused => Ends.intro rfl ((if_neg hleft).trans (if_pos hused)), fun hunused => ?_⟩
    cases htop : t.sec.topLeaf with
    | none => trivial
    | some top =>
      refine fun hready => Answers.intro rfl ((if_neg hleft).trans ((if_neg hunused).trans ?_))
      simp only [htop]
      exact Rule.need_pass hready ..
  case armPatchLoad =>
    intro first rest image hd body v c i
    split
    next hsize => exact Refuses.intro rfl (Rule.need_fail (by simpa using hsize) ..)
    next hsize =>
    have passSize := Rule.need_pass (not_not.mp hsize) (.refuse stBadLength 0 0 0)
    split
    next hcode => exact Answers.intro rfl ((passSize _).trans (Rule.need_fail (beq_false_of_ne hcode) ..))
    next hcode =>
    have passCode := fun r => (passSize _).trans (Rule.need_pass (beq_iff_eq.mpr (not_not.mp hcode)) v.refuse r)
    split
    next hbase => exact Refuses.intro rfl ((passCode _).trans (Rule.need_fail (beq_false_of_ne hbase) ..))
    next hbase =>
    have passBase := fun r => (passCode _).trans
      (Rule.need_pass (beq_iff_eq.mpr (not_not.mp hbase)) (.refuse stStateConflict 0 (BitVec.ofNat 64 v.sigs) 0) r)
    split
    next hquiet =>
      exact Refuses.intro rfl ((passBase _).trans
        (Rule.need_fail (Option.isNone_eq_false_iff.mpr (Option.isSome_iff_ne_none.mpr hquiet)) ..))
    next hquiet =>
    have passQuiet := fun r => (passBase _).trans
      (Rule.need_pass (by simpa using hquiet : t.arm.quiescing.isNone = true) (.refuse stBusy 0 (BitVec.ofNat 64 v.sigs) 0) r)
    split
    next hlevel => exact Refuses.intro rfl ((passQuiet _).trans (Rule.need_fail (by simpa using hlevel) ..))
    next hlevel =>
    have passLevel := fun r => (passQuiet _).trans
      (Rule.need_pass (by simpa using hlevel : (decide (1 ≤ body.level) && decide (body.level ≤ 65535)) = true)
        (.refuse stBadParam 0 (BitVec.ofNat 64 v.sigs) 0) r)
    cases hfault : t.patchFault body with
    | some a => exact Refuses.intro rfl ((passLevel _).trans (by simp only [body, hd] at hfault ⊢; rw [hfault]))
    | none => exact Does.intro rfl ((passLevel _).trans (by simp only [body, hd] at hfault ⊢; rw [hfault]; rfl))
  case armPatchActivate =>
    exact fun hquiet hstaged => Waits.intro rfl ((Rule.need_pass hquiet ..).trans (Rule.need_pass hstaged ..))
  case armPatchRevert =>
    exact fun hquiet hsvn => Does.intro rfl ((Rule.need_pass hquiet ..).trans (Rule.need_pass (decide_eq_true hsvn) ..))
  case armPatchStatusGet => exact Does.intro rfl rfl
  case armEngineSet => exact fun restart live hparam => Does.intro rfl (Rule.need_pass hparam ..)
  case armEngineStatusGet => exact fun engine hengine => Does.intro rfl (Rule.need_pass (decide_eq_true hengine) ..)
  case armEngineRestore =>
    exact fun engine hengine hfenced => Does.intro rfl ((Rule.need_pass (decide_eq_true hengine) ..).trans
      (Rule.need_pass hfenced ..))
  case armStatsGet =>
    exact fun engine clear hengine => Does.intro rfl ((Rule.need_pass (decide_eq_true hengine) ..).trans
      (statsRule_noGauges ..))

end Sys2Proof.Machine
end
